-- ==== Sys2Proof/Word.lean ====
section
/-! DEFINITION. The word types of the SK48: a 32-bit register word (00_scope, "Numbers and units"), a byte,
and the sparse table every memory and register file of the model is held in. -/
namespace Sys2Proof

/-- A register word: 32 bits, little-endian (00_scope, "Numbers and units"). -/
abbrev Word := BitVec 32

/-- One byte. -/
abbrev Byte := BitVec 8

/-- A sparse table: keys strictly rising, no entry equal to what an unlisted key reads as. -/
abbrev SMap (β : Type) := List (Nat × β)

end Sys2Proof
end

