-- ==== Sys2Proof/Terms.lean ====
section
/-! DEFINITION. The operands of commands: which part of the device a command names, and what a request, a cell or
a bundle carries. -/
namespace Sys2Proof

/-- A tower, 0 to 3 (01 R10). -/
abbrev Tower := Fin 4
/-- A context, C0 to C7 (00 R6). -/
abbrev Ctx := Fin 8
/-- A marsh index within a tower (01 R16). -/
abbrev Marsh := Fin 384

/-- The register pages (02 R21). Per-tower units carry their package-wide number (01 R12). -/
inductive Page
  | twr (t : Tower) | gd (g : Fin 16) | enc (g : Fin 16) | molt (t : Tower) | que (t : Tower) | hop (t : Tower)
  | hst (t : Tower) | gkc (g : Fin 128) | pnd (p : Fin 128) | cfg (t : Tower) | chm (t : Tower) | scb (t : Tower)
  | slt (t : Tower) | pwr (t : Tower) | thm (t : Tower) | clk (t : Tower) | vbd (t : Tower)
  | pkg | pci | efl (k : Fin 8) | iob (k : Fin 12) | bgt | ckr | ano | evr | fus | ldr
  deriving DecidableEq, Repr

/-- A request on the hop network (14 R282, R285): its initiator, privilege and context tag, priority, tag, address,
bytes, write data with byte enables over the 64-byte block, and the two poison bits of its data. -/
structure HopReq where
  src : Fin 1024
  priv : Bool
  ctx : Ctx
  prio : Fin 4
  tag : Fin 4096
  addr : BitVec 48
  bytes : Fin 65
  bex : Bool
  be : BitVec 64
  data : BitVec 512
  poisonL : Bool
  poisonH : Bool
  deriving DecidableEq, Repr

/-- Who asks for a doorbell operation (10 R208, R214): initiator, privilege and context tag, priority, tag. -/
structure Who where
  src : Fin 1024
  priv : Bool
  ctx : Ctx
  prio : Fin 4
  tag : Fin 4096
  deriving DecidableEq, Repr

/-- A queue: package-wide number 16,384 t + q (10 R204). -/
abbrev QueueNo := Fin 65536

/-- A pond-port request (14 R300): the pond-port index 2r + k, and what its signals carry. -/
structure PondReq where
  port : Fin 24
  write : Bool
  pad : Fin 32
  block : Fin 4096
  be : BitVec 64
  data : BitVec 512
  poison : Bool
  deriving DecidableEq, Repr

/-- The weighted-share arbiters that share one set of weights and one window (15 R307): port B of a pond, the two
bridge stops of a tower, the input of a GDDR6 controller. -/
inductive ArbGroup
  | pond (p : Fin 128) | bridge (t : Tower) | gd (g : Fin 16)
  deriving DecidableEq, Repr

/-- One arbiter (15 R307): each bridge stop (13 first, then 14) holds one per PRIO. -/
inductive ArbInst
  | pond (p : Fin 128) | bridge (t : Tower) (stop : Fin 2) (prio : Fin 4) | gd (g : Fin 16)
  deriving DecidableEq, Repr

/-- The power a tower's regulators report in one AON sample, in 0.25 W (21 R425, R439): input power, the four layers,
and the logic domains and ponds whose power is not zero. -/
structure PowerRep where
  tower : Tower
  pin : BitVec 16
  base : BitVec 16
  mem : BitVec 16
  logic : BitVec 16
  conf : BitVec 16
  domains : List (Fin 16 × BitVec 16)
  ponds : List (Fin 32 × BitVec 16)
  deriving DecidableEq, Repr

/-- One sensor's conversion in one sample (21 R432): signed, in 0.25 °C; none when the conversion is missing. -/
structure SensorRead where
  tower : Tower
  sensor : Fin 448
  value : Option (BitVec 11)
  deriving DecidableEq, Repr

/-! ### Gecko bundles (12 R245 to R260) -/

/-- Register-register scalar operations (12 R249). -/
inductive AluOp | add | sub | and | or | xor | sll | srl | sra | mul | slt | sltu
  deriving DecidableEq, Repr

/-- Register-immediate scalar operations (12 R249). -/
inductive AluiOp | addi | andi | ori | xori | slli | srli | srai | slti
  deriving DecidableEq, Repr

/-- Branch conditions (12 R249). -/
inductive BrCond | eqz | nez | ltz | gez
  deriving DecidableEq, Repr

/-- The fields of an address generator (12 R248, R253). -/
inductive AgField | ab | al | ap | am
  deriving DecidableEq, Repr

/-- A scalar and control slot (12 R248, R249). -/
inductive Slot0
  | nop
  | alu (op : AluOp) (sd sa sb : Fin 32)
  | mov (sd sa : Fin 32)
  | alui (op : AluiOp) (sd sa : Fin 32) (imm : BitVec 16)
  | lui (sd : Fin 32) (imm : BitVec 16)
  | br (target : Fin 4096)
  | bcond (c : BrCond) (sa : Fin 32) (target : Fin 4096)
  | jal (sd : Fin 32) (target : Fin 4096)
  | jr (sa : Fin 32)
  | loop (sa : Fin 32) (fin : Fin 4096)
  | loopi (count : Fin 16384) (fin : Fin 4096)
  | mvag (ag : Fin 8) (f : AgField) (sa : Fin 32)
  | mvga (sd : Fin 32) (ag : Fin 8) (f : AgField)
  | agc (mask : BitVec 8)
  | mvgs (sd : Fin 32)
  | setov (b : Bool)
  | dma (ch : Fin 4) (sa : Fin 32) (dir qen : Bool)
  | dwait (ch : Fin 4)
  | wait (e : Fin 4)
  | halt
  deriving DecidableEq, Repr

/-- An X or Y address (12 R255, R257): an address generator with its MODE, or a scalar base; IMM is signed. -/
inductive AddrForm
  | ag (n : Fin 8) (mode : Fin 4) (imm : BitVec 12)
  | sreg (sa : Fin 32) (imm : BitVec 12)
  deriving DecidableEq, Repr

/-- Loads, stores and prefetch (12 R256). -/
inductive MemOp | ldv | stv | lds | sts | ldbh | ldbb | pref
  deriving DecidableEq, Repr

/-- An X or Y slot (12 R255, R256): `r` is its S or V register, `pred` the predicate of an stv. -/
inductive MemSlot
  | nop
  | acc (op : MemOp) (r : Fin 32) (addr : AddrForm) (pred : Fin 8)
  deriving DecidableEq, Repr

/-- Multiply-accumulate operations (12 R260). -/
inductive MacOp | mac | msu | mul
  deriving DecidableEq, Repr

/-- Two-source vector operations (12 R260). -/
inductive VBinOp | add | sub | min | max | and | or | xor
  deriving DecidableEq, Repr

/-- Vector comparisons (12 R260). -/
inductive VCmpOp | eq | lt | le
  deriving DecidableEq, Repr

/-- A vector slot (12 R259, R260): `w` chooses .b, `sat` saturation, `k` the governing predicate. -/
inductive VecSlot
  | nop
  | mac (op : MacOp) (w sat : Bool) (acd : Fin 4) (va vb : Fin 16) (k : Fin 8)
  | clr (w : Bool) (acd : Fin 4) (k : Fin 8)
  | ldac (w : Bool) (acd : Fin 4) (va : Fin 16) (k : Fin 8)
  | shr (w sat : Bool) (vd : Fin 16) (aca : Fin 4) (n : Fin 64) (k : Fin 8)
  | clrov (w : Bool) (acd : Fin 4) (k : Fin 8)
  | bin (op : VBinOp) (w sat : Bool) (vd va vb : Fin 16) (k : Fin 8)
  | shl (w sat : Bool) (vd va : Fin 16) (n : Fin 512) (k : Fin 8)
  | sra (w : Bool) (vd va : Fin 16) (n : Fin 512) (k : Fin 8)
  | mov (w : Bool) (vd va : Fin 16) (k : Fin 8)
  | sel (w : Bool) (vd va vb : Fin 16) (k : Fin 8)
  | bc (w : Bool) (vd : Fin 16) (sa : Fin 32) (k : Fin 8)
  | cmp (op : VCmpOp) (w : Bool) (pd : Fin 8) (va vb : Fin 16) (k : Fin 8)
  | pand (pd pa pb : Fin 8)
  | por (pd pa pb : Fin 8)
  | pnot (pd pa : Fin 8)
  deriving DecidableEq, Repr

/-- A bundle (12 R245): a slot is none where its word is no instruction of its class (R246). -/
structure Bundle where
  s0 : Option Slot0
  x : Option MemSlot
  y : Option MemSlot
  v : Option VecSlot
  deriving DecidableEq, Repr

/-! ### The hop network -/

/-- The answer to a hop-network request (14 R283, R285): read data with its poison bits, or a completion status. -/
structure HopRsp where
  isData : Bool
  status : Nat
  data : BitVec 512
  poisonL : Bool
  poisonH : Bool
  deriving DecidableEq, Repr

/-- What befalls a transfer on the network (14 R282, R283, R286; 16 R319): whether its flit carries a reserved TYPE, single-bit
errors corrected on its way, whether a flit of it was removed as uncorrectable, and how many EDC retries its burst took, 3
meaning that the third failed too; and the ring level and direction of the link it arrived on (23 R470). -/
structure Wire where
  resv : Bool
  corr : Fin 16
  uc : Bool
  edc : Fin 4
  level : Fin 3
  ccw : Bool
  deriving DecidableEq, Repr

/-- What holds a request at its target's stop: a domain that sleeps (14 R297, 10 R224), a ring level that sleeps (14 R306), or a
pad under BIST or ZERO (09 R198). -/
inductive SleepDomain
  | gecko (g : Fin 128) | group (p : Fin 128) (n : Fin 4) | gddr (c : Fin 16) | queue (t : Fin 4)
  | level (t : Tower) (l : Fin 3) | pad (p : Fin 128) (n : Fin 32)
  deriving DecidableEq, Repr

/-- What a training block of the partner says (19 R387): RATES, WIDTHS, SCR, GOOD and KCHK. -/
structure EflAdvert where
  rates : BitVec 4
  widths : BitVec 3
  scr : Bool
  good : BitVec 16
  kchk : BitVec 16
  deriving DecidableEq, Repr

/-- An access to the management address space (02 R22, R23): a read, a write of a whole word, a write that does not cover a
whole register. -/
inductive AccessKind | read | write | partialWrite
  deriving DecidableEq, Repr

/-- A PCIe function (18 R369): 0 PF0, 1 to 8 PF1 to PF8, 9 PF0B, 10 + 32 c + v - 1 virtual function v of PF(c + 1). -/
abbrev FnNo := Fin 266

/-- A configuration request (18 R369, R370, R372, R377, R378): what it reads, or which control bits it writes. -/
inductive CfgReq
  | ids | classRev | barSize (bar : Fin 6) | sriovCap | msixVectors | readiness
  | command (mse bme : Bool)
  | msixControl (enable fmask : Bool)
  | sriovControl (numVfs : Fin 33) (vfEnable vfMse : Bool)
  deriving DecidableEq, Repr

/-- A message on the management bus (22 R445, R455): Control messages, a PLDM numeric or state sensor read, a PLDM
firmware chunk for a component (1 firmware, 2 and 3 golden images), its verification, the activation of the firmware, another message of
PLDM Base (type 0), Platform (2) or FRU (4), a vendor-defined command, or a type or PLDM type that is not supported. -/
inductive MctpMsg
  | setEid (eid : Byte) | getEid
  | sensor (id : Fin 35)
  | fwChunk (component : Fin 4) (offset : Word) (data : List Byte)
  | fwVerify (component : Fin 4) | fwActivate (now : Bool)
  | pldm (typ : Fin 3) (req : List Byte)
  | vendor (op : Byte) (a0 a1 : Word) (req : List Byte)
  | other
  deriving DecidableEq, Repr

/-- An SPDM request, or what a secured session carries (18 R379, R380): discovery, a signed answer (challenge or
measurements), opening and closing a secured session, and IDE key programming for a stream (0 the link stream). -/
inductive SpdmReq
  | discovery | signed
  | openSession (id : Word) | closeSession (id : Word)
  | ideKey (session : Word) (stream : Fin 9) | ideStop (session : Word) (stream : Fin 9)
  deriving DecidableEq, Repr

end Sys2Proof
end

