-- ==== Sys2Proof/Syntax.lean ====
section
/-! DEFINITION. The commands of the SK48, one constructor per row of spec/opcode_table.json: those with
operands first, since only the first 245 constructors with fields can be built by compiled code. -/
namespace Sys2Proof

/-- A command: what comes to the device from outside, or a step one of its own engines takes. -/
inductive Instr
  /-- REGISTER_WRITE (R24): A PF0 or Anole write to a register that has no behaviour of its own takes effect in arrival order at its page. -/
  | registerWrite (a : Fin 0x8000000) (v : Word)
  /-- RESERVED_ACCESS (R22): An access to a reserved MA offset returns zero or is discarded, sets BAD_ACCESS and captures the address. -/
  | reservedAccess (a : Fin 0x8000000) (k : AccessKind)
  /-- RC_READ (R23): A read that touches an RC register clears all of that register's RC fields. -/
  | rcRead (a : Fin 0x8000000)
  /-- BLK_CTRL_EN (R515): A write of EN to a block disables it, making STATE read DRAINING, or re-enables it. -/
  | blkCtrlEn (p : Page) (en : Bool)
  /-- DRAIN_COMPLETE (R515): A disabled block finishes its accepted work and STATE reads DISABLED. -/
  | drainComplete (p : Page)
  /-- SRST (R516): BLK_CTRL.SRST performs a BLOCK reset of one unit, holding STATE at RESETTING. -/
  | srst (p : Page)
  /-- BLOCK_RESET_DONE (R516): The BLOCK reset ends within 2 us and the page accepts writes again. -/
  | blockResetDone (p : Page)
  /-- COMMIT_GO (R27): BLK_COMMIT.GO sets COMMIT_PEND after the consistency checks, or rejects the commit. -/
  | commitGo (p : Page)
  /-- COMMIT_CANCEL (R27): BLK_COMMIT.CANCEL abandons a pending commit and reloads every shadow from its live value. -/
  | commitCancel (p : Page)
  /-- COMMIT_APPLY (R26): At the block's commit point all RWS shadows of the page replace their live values at once. -/
  | commitApply (p : Page)
  /-- EVT_STAT_CLEAR (R33): A W1C write to EVT_STAT clears bits and re-sends a message if the event line stays high. -/
  | evtStatClear (p : Page) (v : Word)
  /-- EVT_FORCE (R25): A write to EVT_FORCE sets EVT_STAT bits exactly as the events would, with their routing. -/
  | evtForce (p : Page) (v : Word)
  /-- NME_STAT_CLEAR (R36): A W1C write to NME_STAT clears causes, and ALERT_N is released once no cause is left. -/
  | nmeStatClear (v : Word)
  /-- ERR_LEAK (R30): Every LEAK ms of AON time one count leaks from ERR_CNT.COUNT. -/
  | errLeak (p : Page)
  /-- ERR_CFG_WRITE (R30): A write of ERR_CFG that changes LEAK restarts the leak timer. -/
  | errCfgWrite (p : Page) (v : Word)
  /-- ERR_LOG_RELEASE (R31): Writing 1 to ERR_LOG0.VALID releases the held entry and clears OVF. -/
  | errLogRelease (p : Page)
  /-- BLOCK_WAKE (R38): A register access to a sleeping block wakes it and is completed within 8 us. -/
  | blockWake (a : Fin 0x8000000) (v : Option Word)
  /-- CMD_STAGE (R91): CHM.CMD STAGE stages the named context into the back planes. -/
  | cmdStage (t : Tower) (c : Ctx) (swap : Bool)
  /-- CMD_SWAP (R91): CHM.CMD SWAP requests a swap into the most recently staged context. -/
  | cmdSwap (t : Tower)
  /-- CMD_THAW (R114): CHM.CMD THAW ends SWITCH_FREEZE when every LAME marsh is excluded. -/
  | cmdThaw (t : Tower)
  /-- STAGING_COMPLETE (R83): The copy of 448 frames into the back planes of the tenant area ends. -/
  | stagingComplete (t : Tower)
  /-- SWAP (R84): At a switch-clock edge where all swap conditions hold, the planes exchange and the new context drives the logic. -/
  | swap (l : Tower)
  /-- MODE_CHANGE (R90): A committed change of CHM mode discards staging, abandons pending swaps and refuses outstanding requests. -/
  | modeChange (t : Tower)
  /-- SLOT_ENTRY_END (R93): A slot entry's duration expires and the walk moves to the next entry that is not skipped. -/
  | slotEntryEnd (t : Tower)
  /-- SLOT_PASS_END (R93): A pass of the slot table ends, after 256 cycles if no entry ran, and the next pass begins. -/
  | slotPassEnd (t : Tower)
  /-- SLT_HALF_SWAP (R94): A committed SLT GO swaps the halves at the end of the current pass. -/
  | sltHalfSwap (t : Tower)
  /-- SLT_CANCEL_COPY_DONE (R94): The copy of the active half into the inactive half that CANCEL started ends. -/
  | sltCancelCopyDone (t : Tower)
  /-- EVENT_REQUEST (R95): A rising REQ at the request tap is taken as an EVENT request for the captured context. -/
  | eventRequest (t : Tower)
  /-- EXCLUDE_SET (R113): Setting a CHM.EXCLUDE bit removes the marsh from the tenant area and gates its clocks. -/
  | excludeSet (t : Tower) (m : Marsh)
  /-- EXCLUDE_CLEAR (R113): Clearing an EXCLUDE bit lets the marsh rejoin at the first swap whose staging begins later. -/
  | excludeClear (t : Tower) (m : Marsh)
  /-- REENCODE_DONE (R125): The re-encode of every frame under the new BCH strength ends and the new T becomes live. -/
  | reencodeDone (t : Tower)
  /-- FRAME_WRITE (R126): A frame payload arriving over the configuration link is written by multicast to its targets with computed check bits. -/
  | frameWrite (t : Tower) (poison : Bool)
  /-- COMMIT_REFRESH_EXCHANGE (R129): After the refresh copy, the planes of marshes live in the committed context exchange at the next switch-clock edge. -/
  | commitRefreshExchange (t : Tower)
  /-- WE_RELEASE (R132): CFG.WE_CMD.RELEASE raises the write enables of the named contexts package-wide. -/
  | weRelease (t : Tower) (mask : BitVec 8)
  /-- BANK_RELEASE (R132): IO_LAG cycles after a write enable rises, the banks owned by the context leave their load state. -/
  | bankRelease (t : Tower) (c : Ctx)
  /-- SCRUB_READ (R135): The scrubber reads a store frame and writes it back corrected or quarantines it. -/
  | scrubRead (t : Tower)
  /-- FP_COMPARE (R136): The scrubber compares a front-plane frame with its store frame and rewrites it on a mismatch. -/
  | fpCompare (t : Tower)
  /-- RB_GO (R138): CFG.RB_CMD.RB_GO starts a readback of a store or front-plane frame. -/
  | rbGo (t : Tower)
  /-- READBACK_DONE (R138): A readback completes into RB_DATA and RB_CHK, or is denied. -/
  | readbackDone (t : Tower)
  /-- RAW_WR (R139): CFG.RB_CMD.RAW_WR stores a frame and its check bits as written and quarantines the context. -/
  | rawWr (t : Tower)
  /-- DLV_GO (R163): LDR.DLV_CMD.GO starts the fetch of a chunk of an image. -/
  | dlvGo (last : Bool)
  /-- CHUNK_COMPLETE (R163): A fetched chunk has been appended to the staged image. -/
  | chunkComplete (bytes : List Byte) (err : Bool)
  /-- POND_PORT_REQUEST (R300): A pond port accepts a read or write request and performs it on port A of a pad. -/
  | pondPortRequest (p : Fin 128) (ports : BitVec 24) (w : Option HopReq)
  /-- B_STARVE (R187): A port-B row that has waited STARVE.CYC pad cycles sets B_STARVE. -/
  | bStarve (p : Fin 128)
  /-- SOFT_REPAIR (R197): PND.SR_CMD.GO starts the copy of a pad column into a spare. -/
  | softRepair (p : Fin 128) (pad : Fin 32) (sub : Fin 4) (col : Fin 512)
  /-- SOFT_REPAIR_DONE (R197): The soft-repair copy finishes and the spare becomes SOFT. -/
  | softRepairDone (p : Fin 128)
  /-- BIST (R198): PND.CMD OP BIST runs a march test over one unowned pad. -/
  | bist (p : Fin 128) (pad : Fin 32)
  /-- ZERO (R198): PND.CMD OP ZERO writes the zero row to every row of one unowned pad. -/
  | zero (p : Fin 128) (pad : Fin 32)
  /-- PAD_CMD_DONE (R198): A BIST or ZERO ends and sets CMD_STAT.DONE. -/
  | padCmdDone (p : Fin 128) (fails : List (Fin 4 × Fin 416))
  /-- PATROL_ROW (R199): The pond patrol visits one row, writing back corrections and poisoning uncorrectable rows. -/
  | patrolRow (p : Fin 128)
  /-- PAD_GROUP_SLEEP (R201): A pad group idle for IDLE_US goes to sleep. -/
  | padGroupSleep (p : Fin 128) (g : Fin 4)
  /-- PAD_RAW_WRITE (R471): PND.RAW_CMD.WR stores a row and its check bits as written. -/
  | padRawWrite (p : Fin 128)
  /-- PAD_RAW_READ (R471): PND.RAW_CMD.RD reads a row without decoding. -/
  | padRawRead (p : Fin 128)
  /-- PUSH (R207): A doorbell PUSH stores 1 to 4 items or is refused with QFULL. -/
  | push (q : QueueNo) (w : Who) (items : List (BitVec 64)) (poison : Bool)
  /-- POP (R207): A doorbell POP returns the next item, or the last value with UNDERRUN. -/
  | pop (q : QueueNo) (w : Who)
  /-- POP_ST (R211): A 16-byte doorbell read pops and returns the item with the status word. -/
  | popSt (q : QueueNo) (w : Who)
  /-- STATUS (R213): A doorbell STATUS read returns the queue's status word. -/
  | status (q : QueueNo) (w : Who)
  /-- MARK (R207): Doorbell CMD MARK sets MARK_D to READ_D. -/
  | mark (q : QueueNo) (w : Who)
  /-- REWIND (R207): Doorbell CMD REWIND sets READ_D back to MARK_D. -/
  | rewind (q : QueueNo) (w : Who)
  /-- RELEASE (R207): Doorbell CMD RELEASE frees popped items, clamping and setting RELCLAMP as needed. -/
  | release (q : QueueNo) (w : Who) (n : Word)
  /-- CLEAR (R207): Doorbell CMD CLEAR clears UNDERRUN and RELCLAMP. -/
  | clear (q : QueueNo) (w : Who)
  /-- Q_LEVEL_WRITE (R210): A write of Q_LEVEL takes effect for the next change of AVAIL without raising an event. -/
  | qLevelWrite (t : Tower) (v : Word)
  /-- Q_GO (R220): Q_CMD.GO requests a per-queue change of bounds, which is checked and held pending. -/
  | qGo (t : Tower)
  /-- Q_CANCEL (R220): Q_CMD.CANCEL abandons a pending change of bounds. -/
  | qCancel (t : Tower)
  /-- QUEUE_BOUNDS_APPLY (R220): When the occupied span fits, the new BASE, LEN and CTX take effect and REL is recomputed. -/
  | queueBoundsApply (q : QueueNo)
  /-- FLUSH (R221): Q_CMD.FLUSH empties the queue and its caches without writing the body. -/
  | flush (t : Tower)
  /-- BODY_WRITE (R215): The engine writes a full block of cached items, or a partial block for room or sleep, to the body. -/
  | bodyWrite (q : QueueNo)
  /-- BODY_READ_DONE (R215): A body read for a waiting POP returns and the POP completes. -/
  | bodyReadDone (q : QueueNo)
  /-- PFLIP (R471): QUE.RAW_CMD.PFLIP caches the next pushed item with inverted parity. -/
  | pflip (t : Tower)
  /-- QUEUE_ENGINE_SLEEP (R224): After 100 us without an operation the engine writes its tail caches and sleeps. -/
  | queueEngineSleep (t : Tower)
  /-- START (R235): GKC.CTRL.START clears the loop stack and begins fetching at PC. -/
  | start (g : Fin 128)
  /-- RESUME (R235): GKC.CTRL.RESUME continues execution with every register as it stands. -/
  | resume (g : Fin 128)
  /-- STOP (R235): GKC.CTRL.STOP stops issue at the next bundle boundary. -/
  | stop (g : Fin 128)
  /-- STEP (R235): GKC.CTRL.STEP issues one bundle from STOPPED and returns to STOPPED. -/
  | step (g : Fin 128)
  /-- GKC_PC_WRITE (R235): A write of GKC.PC sets the next bundle, or is discarded with CMD_REJ outside the debug states. -/
  | gkcPcWrite (g : Fin 128) (v : Word)
  /-- DMA_GO (R238): A GKC DMAn_CTRL.GO write starts a DMA channel. -/
  | dmaGo (g : Fin 128) (ch : Fin 4)
  /-- DMA_DONE (R239): A DMA channel ends and optionally pushes its completion word. -/
  | dmaDone (g : Fin 128) (ch : Fin 4) (remote : List HopRsp)
  /-- WBINV (R240): GKC.LCTRL.WBINV writes back and invalidates the line cache. -/
  | wbinv (g : Fin 128)
  /-- WBINV_DONE (R240): The line-cache write-back and invalidate ends. -/
  | wbinvDone (g : Fin 128)
  /-- GECKO_ZERO (R242): GKC.CMD OP ZERO zeroes the instruction, X and Y memories. -/
  | geckoZero (g : Fin 128)
  /-- GECKO_ZERO_DONE (R242): The gecko ZERO ends and sets CMD_STAT.DONE. -/
  | geckoZeroDone (g : Fin 128)
  /-- GECKO_MEMORY_REQUEST (R237): A hop request to a gecko memory region is admitted or refused and performed. -/
  | geckoMemoryRequest (r : HopReq) (write : Bool)
  /-- LINE_FILL (R240): A line fill for the gecko line cache arrives and waiting loads proceed. -/
  | lineFill (g : Fin 128) (line : BitVec 42)
  /-- GECKO_EVENT_WAKE (R241): The selected event input rising while WAITING returns the gecko to RUNNING. -/
  | geckoEventWake (g : Fin 128)
  /-- GECKO_SLEEP (R244): After 10 us idle the gecko writes back its line cache and sleeps. -/
  | geckoSleep (g : Fin 128)
  /-- NOP (R245): A NOP in any slot does nothing. -/
  | nop (g : Fin 128) (slot : Fin 4) (w0 w1 w2 : Word)
  /-- ADD (R249): Scalar add. -/
  | add (g : Fin 128) (sd sa sb : Fin 32) (x y v : Word)
  /-- SUB (R249): Scalar subtract. -/
  | sub (g : Fin 128) (sd sa sb : Fin 32) (x y v : Word)
  /-- AND (R249): Scalar bitwise AND. -/
  | and (g : Fin 128) (sd sa sb : Fin 32) (x y v : Word)
  /-- OR (R249): Scalar bitwise OR. -/
  | or (g : Fin 128) (sd sa sb : Fin 32) (x y v : Word)
  /-- XOR (R249): Scalar bitwise XOR. -/
  | xor (g : Fin 128) (sd sa sb : Fin 32) (x y v : Word)
  /-- SLL (R249): Scalar shift left by register. -/
  | sll (g : Fin 128) (sd sa sb : Fin 32) (x y v : Word)
  /-- SRL (R249): Scalar logical shift right by register. -/
  | srl (g : Fin 128) (sd sa sb : Fin 32) (x y v : Word)
  /-- SRA (R249): Scalar arithmetic shift right by register. -/
  | sra (g : Fin 128) (sd sa sb : Fin 32) (x y v : Word)
  /-- MUL (R249): Scalar multiply, low 32 bits. -/
  | mul (g : Fin 128) (sd sa sb : Fin 32) (x y v : Word)
  /-- SLT (R249): Scalar signed set-less-than. -/
  | slt (g : Fin 128) (sd sa sb : Fin 32) (x y v : Word)
  /-- SLTU (R249): Scalar unsigned set-less-than. -/
  | sltu (g : Fin 128) (sd sa sb : Fin 32) (x y v : Word)
  /-- MOV (R249): Scalar move, carrying the poison tag. -/
  | mov (g : Fin 128) (sd sa : Fin 32) (x y v : Word)
  /-- ADDI (R249): Scalar add of a sign-extended immediate. -/
  | addi (g : Fin 128) (sd sa : Fin 32) (imm : BitVec 16) (x y v : Word)
  /-- ANDI (R249): Scalar AND with a zero-extended immediate. -/
  | andi (g : Fin 128) (sd sa : Fin 32) (imm : BitVec 16) (x y v : Word)
  /-- ORI (R249): Scalar OR with a zero-extended immediate. -/
  | ori (g : Fin 128) (sd sa : Fin 32) (imm : BitVec 16) (x y v : Word)
  /-- XORI (R249): Scalar XOR with a zero-extended immediate. -/
  | xori (g : Fin 128) (sd sa : Fin 32) (imm : BitVec 16) (x y v : Word)
  /-- SLLI (R249): Scalar shift left by an immediate. -/
  | slli (g : Fin 128) (sd sa : Fin 32) (imm : BitVec 16) (x y v : Word)
  /-- SRLI (R249): Scalar logical shift right by an immediate. -/
  | srli (g : Fin 128) (sd sa : Fin 32) (imm : BitVec 16) (x y v : Word)
  /-- SRAI (R249): Scalar arithmetic shift right by an immediate. -/
  | srai (g : Fin 128) (sd sa : Fin 32) (imm : BitVec 16) (x y v : Word)
  /-- LUI (R249): Scalar load of an upper immediate. -/
  | lui (g : Fin 128) (sd : Fin 32) (imm : BitVec 16) (x y v : Word)
  /-- SLTI (R249): Scalar signed set-less-than an immediate. -/
  | slti (g : Fin 128) (sd sa : Fin 32) (imm : BitVec 16) (x y v : Word)
  /-- BR (R251): Unconditional branch. -/
  | br (g : Fin 128) (target : Fin 4096) (x y v : Word)
  /-- BEQZ (R251): Branch if the register is zero. -/
  | beqz (g : Fin 128) (sa : Fin 32) (target : Fin 4096) (x y v : Word)
  /-- BNEZ (R251): Branch if the register is not zero. -/
  | bnez (g : Fin 128) (sa : Fin 32) (target : Fin 4096) (x y v : Word)
  /-- BLTZ (R251): Branch if the register is negative. -/
  | bltz (g : Fin 128) (sa : Fin 32) (target : Fin 4096) (x y v : Word)
  /-- BGEZ (R251): Branch if the register is not negative. -/
  | bgez (g : Fin 128) (sa : Fin 32) (target : Fin 4096) (x y v : Word)
  /-- JAL (R251): Jump and link. -/
  | jal (g : Fin 128) (sd : Fin 32) (target : Fin 4096) (x y v : Word)
  /-- JR (R251): Jump to a register address. -/
  | jr (g : Fin 128) (sa : Fin 32) (x y v : Word)
  /-- LOOP (R252): Push a loop level with a count taken from a register. -/
  | loop (g : Fin 128) (sa : Fin 32) (fin : Fin 4096) (x y v : Word)
  /-- LOOPI (R252): Push a loop level with an immediate count. -/
  | loopi (g : Fin 128) (n : Fin 16384) (fin : Fin 4096) (x y v : Word)
  /-- LOOP_END (R233): Completion of the bundle at LE decrements LC and branches back, or pops the level. -/
  | loopEnd (g : Fin 128)
  /-- MVAG (R253): Write a scalar to the shadow of an address-generator field. -/
  | mvag (g : Fin 128) (n : Fin 8) (f : AgField) (sa : Fin 32) (x y v : Word)
  /-- MVGA (R253): Read a live address-generator field into a scalar. -/
  | mvga (g : Fin 128) (sd : Fin 32) (n : Fin 8) (f : AgField) (x y v : Word)
  /-- AGC (R253): Commit the shadows of the masked address generators. -/
  | agc (g : Fin 128) (mask : BitVec 8) (x y v : Word)
  /-- MVGS (R249): Read GST into a scalar. -/
  | mvgs (g : Fin 128) (sd : Fin 32) (x y v : Word)
  /-- SETOV (R254): Set GST.OVTRAP. -/
  | setov (g : Fin 128) (b : Bool) (x y v : Word)
  /-- DMA (R254): Load a DMA channel's registers from four scalars and start it. -/
  | dma (g : Fin 128) (ch : Fin 4) (sa : Fin 32) (dir qen : Bool) (x y v : Word)
  /-- DWAIT (R254): Hold the bundle while a DMA channel is busy. -/
  | dwait (g : Fin 128) (ch : Fin 4) (x y v : Word)
  /-- WAIT (R254): Enter WAITING until an event input is high. -/
  | wait (g : Fin 128) (e : Fin 4) (x y v : Word)
  /-- HALT (R254): Stop in HALTED and set EVT_STAT.HALT. -/
  | halt (g : Fin 128) (x y v : Word)
  /-- LDV (R256): Load a 128-byte vector register. -/
  | ldv (g : Fin 128) (y : Bool) (vd : Fin 16) (a : AddrForm) (w0 other v : Word)
  /-- STV (R256): Store a vector register under a predicate. -/
  | stv (g : Fin 128) (y : Bool) (vs : Fin 16) (a : AddrForm) (k : Fin 8) (w0 other v : Word)
  /-- LDS (R256): Load a 32-bit scalar. -/
  | lds (g : Fin 128) (y : Bool) (sd : Fin 32) (a : AddrForm) (w0 other v : Word)
  /-- STS (R256): Store a 32-bit scalar. -/
  | sts (g : Fin 128) (y : Bool) (ss : Fin 32) (a : AddrForm) (w0 other v : Word)
  /-- LDBH (R256): Broadcast a loaded halfword to every 16-bit lane. -/
  | ldbh (g : Fin 128) (y : Bool) (vd : Fin 16) (a : AddrForm) (w0 other v : Word)
  /-- LDBB (R256): Broadcast a loaded byte to every 8-bit lane. -/
  | ldbb (g : Fin 128) (y : Bool) (vd : Fin 16) (a : AddrForm) (w0 other v : Word)
  /-- PREF (R258): Begin a line-cache fill without stalling. -/
  | pref (g : Fin 128) (y : Bool) (a : AddrForm) (w0 other v : Word)
  /-- VMAC (R267): Vector multiply-accumulate into an accumulator. -/
  | vmac (g : Fin 128) (w sat : Bool) (acd : Fin 4) (va vb : Fin 16) (k : Fin 8) (w0 x y : Word)
  /-- VMSU (R267): Vector multiply-subtract from an accumulator. -/
  | vmsu (g : Fin 128) (w sat : Bool) (acd : Fin 4) (va vb : Fin 16) (k : Fin 8) (w0 x y : Word)
  /-- VMUL (R267): Vector multiply into an accumulator. -/
  | vmul (g : Fin 128) (w sat : Bool) (acd : Fin 4) (va vb : Fin 16) (k : Fin 8) (w0 x y : Word)
  /-- VCLR (R260): Clear accumulator lanes. -/
  | vclr (g : Fin 128) (w : Bool) (acd : Fin 4) (k : Fin 8) (w0 x y : Word)
  /-- VLDAC (R271): Load accumulator lanes from a sign-extended vector. -/
  | vldac (g : Fin 128) (w : Bool) (acd : Fin 4) (va : Fin 16) (k : Fin 8) (w0 x y : Word)
  /-- VSHR (R272): Shift and truncate accumulator lanes into a vector. -/
  | vshr (g : Fin 128) (w sat : Bool) (vd : Fin 16) (aca : Fin 4) (n : Fin 64) (k : Fin 8) (w0 x y : Word)
  /-- CLROV (R269): Clear ACOV bits of governed lanes. -/
  | clrov (g : Fin 128) (w : Bool) (acd : Fin 4) (k : Fin 8) (w0 x y : Word)
  /-- VADD (R271): Vector add. -/
  | vadd (g : Fin 128) (w sat : Bool) (vd va vb : Fin 16) (k : Fin 8) (w0 x y : Word)
  /-- VSUB (R271): Vector subtract. -/
  | vsub (g : Fin 128) (w sat : Bool) (vd va vb : Fin 16) (k : Fin 8) (w0 x y : Word)
  /-- VMIN (R271): Vector signed minimum. -/
  | vmin (g : Fin 128) (w : Bool) (vd va vb : Fin 16) (k : Fin 8) (w0 x y : Word)
  /-- VMAX (R271): Vector signed maximum. -/
  | vmax (g : Fin 128) (w : Bool) (vd va vb : Fin 16) (k : Fin 8) (w0 x y : Word)
  /-- VAND (R271): Vector bitwise AND. -/
  | vand (g : Fin 128) (w : Bool) (vd va vb : Fin 16) (k : Fin 8) (w0 x y : Word)
  /-- VOR (R271): Vector bitwise OR. -/
  | vor (g : Fin 128) (w : Bool) (vd va vb : Fin 16) (k : Fin 8) (w0 x y : Word)
  /-- VXOR (R271): Vector bitwise XOR. -/
  | vxor (g : Fin 128) (w : Bool) (vd va vb : Fin 16) (k : Fin 8) (w0 x y : Word)
  /-- VSHL (R271): Vector shift left. -/
  | vshl (g : Fin 128) (w sat : Bool) (vd va : Fin 16) (n : Fin 512) (k : Fin 8) (w0 x y : Word)
  /-- VSRA (R271): Vector arithmetic shift right. -/
  | vsra (g : Fin 128) (w : Bool) (vd va : Fin 16) (n : Fin 512) (k : Fin 8) (w0 x y : Word)
  /-- VMOV (R260): Vector move. -/
  | vmov (g : Fin 128) (w : Bool) (vd va : Fin 16) (k : Fin 8) (w0 x y : Word)
  /-- VSEL (R261): Vector select under a predicate. -/
  | vsel (g : Fin 128) (w : Bool) (vd va vb : Fin 16) (k : Fin 8) (w0 x y : Word)
  /-- VBC (R260): Broadcast a scalar to vector lanes. -/
  | vbc (g : Fin 128) (w : Bool) (vd : Fin 16) (sa : Fin 32) (k : Fin 8) (w0 x y : Word)
  /-- VCMPEQ (R261): Vector compare equal into a predicate. -/
  | vcmpeq (g : Fin 128) (w : Bool) (pd : Fin 8) (va vb : Fin 16) (k : Fin 8) (w0 x y : Word)
  /-- VCMPLT (R261): Vector compare less-than into a predicate. -/
  | vcmplt (g : Fin 128) (w : Bool) (pd : Fin 8) (va vb : Fin 16) (k : Fin 8) (w0 x y : Word)
  /-- VCMPLE (R261): Vector compare less-or-equal into a predicate. -/
  | vcmple (g : Fin 128) (w : Bool) (pd : Fin 8) (va vb : Fin 16) (k : Fin 8) (w0 x y : Word)
  /-- PAND (R260): Predicate AND. -/
  | pand (g : Fin 128) (pd pa pb : Fin 8) (w0 x y : Word)
  /-- PRED_OR (R260): Predicate OR (por). -/
  | predOr (g : Fin 128) (pd pa pb : Fin 8) (w0 x y : Word)
  /-- PNOT (R260): Predicate NOT. -/
  | pnot (g : Fin 128) (pd pa : Fin 8) (w0 x y : Word)
  /-- RD (R282): A read request flit arrives at its target, which answers with data or a completion. -/
  | rd (r : HopReq) (w : Wire)
  /-- RD_SHR (R296): A shared line read reaches its home, which answers Shared or Exclusive. -/
  | rdShr (g : Fin 128) (line : BitVec 42) (w : Wire)
  /-- RD_OWN (R296): An ownership read reaches its home, which snoops other holders and answers Exclusive. -/
  | rdOwn (g : Fin 128) (line : BitVec 42) (w : Wire)
  /-- WR (R282): A write request flit and its data arrive at the target and are performed. -/
  | wr (r : HopReq) (w : Wire)
  /-- WB (R296): A line-cache write-back reaches its home and ends the holder's copy. -/
  | wb (g : Fin 128) (line : BitVec 42) (w : Wire)
  /-- CFG_RD (R295): A configuration read reaches an MGT stop. -/
  | cfgRd (r : HopReq) (w : Wire)
  /-- CFG_WR (R295): A configuration write reaches an MGT stop. -/
  | cfgWr (r : HopReq) (w : Wire)
  /-- CMP (R283): A completion flit reaches its initiator and ends its tag. -/
  | cmp (src : Fin 1024) (tag : Fin 4096) (w : Wire) (lat : Word)
  /-- VN_RDATA (R285): A read-data flit reaches its initiator and completes the read. -/
  | vnRdata (src : Fin 1024) (tag : Fin 4096) (w : Wire) (lat : Word)
  /-- RSV (R289): A reservation request reaches its reservation point and is queued. -/
  | rsv (src point : Fin 1024) (count : Fin 17) (w : Wire)
  /-- GRANT (R289): A grant reaches the reserving initiator, which may then send the granted requests. -/
  | grant (point : Fin 1024) (count : Fin 17) (w : Wire)
  /-- SNP_INV (R296): An invalidating snoop reaches a line cache, which writes back if Modified and answers. -/
  | snpInv (g : Fin 128) (line : BitVec 42) (w : Wire)
  /-- SNP_SHR (R296): A downgrading snoop reaches a line cache, which writes back if Modified and answers. -/
  | snpShr (g : Fin 128) (line : BitVec 42) (w : Wire)
  /-- SNP_RSP (R296): A snoop response reaches the home, which then serves the waiting request. -/
  | snpRsp (g : Fin 128) (line : BitVec 42) (w : Wire)
  /-- TAG_TIMEOUT (R286): An outstanding tag reaching TAGTO is completed locally with TIMEOUT. -/
  | tagTimeout (src : Fin 1024) (tag : Fin 4096)
  /-- EPOCH_FLIP (R292): When a ring level has drained the old epoch, it loads the committed map and flips E. -/
  | epochFlip (t : Tower) (l : Fin 3)
  /-- TARGET_WAKE_DONE (R297): A sleeping target domain finishes waking and the flits held for it are delivered. -/
  | targetWakeDone (d : SleepDomain)
  /-- FABRIC_HOP_PORT_REQUEST (R299): A fabric hop port accepts a read or write from the user design and injects it after the aperture check. -/
  | fabricHopPortRequest (t : Tower) (h : Fin 64)
  /-- FHP_CLK_WRITE (R299): A write of FHP_CLK takes effect when the port has no request outstanding. -/
  | fhpClkWrite (t : Tower) (j : Fin 32) (v : Word)
  /-- HST_WINDOW_END (R302): At the end of a statistics window live counters are copied to the records and cleared. -/
  | hstWindowEnd (t : Tower)
  /-- ARBITER_WINDOW (R308): At a window boundary every credit counter is refilled. -/
  | arbiterWindow (g : ArbGroup)
  /-- ARBITER_GRANT (R309): At an arbitration point one requester is granted a unit and debited. -/
  | arbiterGrant (a : ArbInst) (reqs : BitVec 32)
  /-- TRAIN_GO (R317): GD.TRAIN.GO starts training of a disabled controller. -/
  | trainGo (g : Fin 16)
  /-- TRAINING_DONE (R317): Training ends at the first passing rate, or fails and puts the controller in FAULT. -/
  | trainingDone (g : Fin 16) (early : Option (Fin 3)) (pass : List (Fin 32)) (id0 id1 : Word)
  /-- RETRAIN (R319): Timed or temperature-triggered read and write retraining at the current rate. -/
  | retrain (g : Fin 16) (ok : Bool)
  /-- REFRESH (R329): The controller issues a per-bank refresh at its interval. -/
  | refresh (g : Fin 16) (temp : Fin 256)
  /-- SELF_REFRESH_ENTRY (R330): After SR_IDLE without requests the controller drains and enters self-refresh. -/
  | selfRefreshEntry (g : Fin 16)
  /-- INIT (R331): GD.CMD.INIT writes every line as zero codewords. -/
  | init (g : Fin 16)
  /-- INIT_DONE (R331): INIT ends and sets STAT.INIT_DONE. -/
  | initDone (g : Fin 16)
  /-- GD_PATROL (R332): Patrol visits one covered line, correcting or poisoning it. -/
  | gdPatrol (g : Fin 16)
  /-- GD_RAW_WRITE (R333): GD.RAW_CMD.WR stores a line and its metadata word as written. -/
  | gdRawWrite (g : Fin 16)
  /-- GD_RAW_READ (R333): GD.RAW_CMD.RD reads a line and its metadata without decoding. -/
  | gdRawRead (g : Fin 16)
  /-- ENC_TABLE_APPLY (R339): An ENC stop applies the committed region and key tables once no affected request is in progress. -/
  | encTableApply (c : Fin 16)
  /-- ERASE (R342): KS_CMD.ERASE empties a key slot unless a region or molt names it. -/
  | erase (t : Tower) (k : Fin 256)
  /-- RESEAL_DONE (R351): A page reseal rewrites its lines under a new major and releases the held accesses. -/
  | resealDone (c : Fin 16)
  /-- AUTO_MOLT_FILL (R352): Anole fills the lowest EMPTY slot with a generated key and queues a molt of the region. -/
  | autoMoltFill (r : Fin 256)
  /-- MOLT (R353): MOLT.CMD OP MOLT starts moving a region from slot A to slot B. -/
  | molt (t : Tower) (r kb : Fin 256)
  /-- FILL (R357): MOLT.CMD OP FILL writes every line of a region as zeros. -/
  | fill (t : Tower) (r : Fin 256)
  /-- MOLT_LINE_MOVE (R354): A molt engine moves the line at BOUND from key A to key B and advances BOUND. -/
  | moltLineMove (c : Fin 16)
  /-- LINK_UP (R366): A PCIe port reaches the active state. -/
  | linkUp (portB : Bool) (speed : Fin 8) (width : Fin 17)
  /-- LINK_RESET (R381): Hot reset, DL_Down, PE_PERST1_N or removal resets a port's functions and abandons their requests. -/
  | linkReset (portB perst : Bool)
  /-- MEM_READ_TLP (R371): An inbound memory read TLP is translated, split into hop requests and completed. -/
  | memReadTlp (f : FnNo) (bar : Fin 6) (o : Nat) (len : Fin 4097) (tag : Fin 16384) (ide : Option (Fin 9 × Bool)) (remote : List HopRsp)
  /-- MEM_WRITE_TLP (R373): An inbound posted write TLP is translated, split and issued in PCIe order. -/
  | memWriteTlp (f : FnNo) (bar : Fin 6) (o : Nat) (bytes : List (Option Byte)) (ep relaxed : Bool) (ide : Option (Fin 9 × Bool)) (remote : List HopRsp)
  /-- CONFIG_REQUEST (R378): A PCIe configuration request is answered, with RRS before readiness or in SAFE. -/
  | configRequest (f : FnNo) (q : CfgReq)
  /-- FLR (R381): An FLR of PF(c+1) resets the PF, its VFs and context c as each chapter states. -/
  | flr (c : Ctx)
  /-- FLR_VF (R381): An FLR of a VF resets its configuration space and outstanding requests. -/
  | flrVf (c : Ctx) (v : Fin 32)
  /-- FLR_DONE (R381): An FLR ends and held context resources are released. -/
  | flrDone (f : FnNo)
  /-- D3HOT (R381): A function entering D3hot claims no address and holds its MSI-X messages. -/
  | d3hot (f : FnNo) (enter : Bool)
  /-- EFL_TRAIN (R388): EFL.CTRL.TRAIN starts link training. -/
  | eflTrain (n : Fin 8)
  /-- IDLE_CELL (R390): An IDLE cell is received, carrying ACK, NAK and CREDIT. -/
  | idleCell (n : Fin 8) (cell : BitVec 640)
  /-- REQ_CELL (R397): A REQ or REQ_BE PACKET cell arrives and its request is injected locally. -/
  | reqCell (n : Fin 8) (cell : BitVec 640)
  /-- WDATA_CELL (R392): A WDATA cell arrives carrying write data for the preceding request. -/
  | wdataCell (n : Fin 8) (cell : BitVec 640)
  /-- CMP_CELL (R392): A CMP cell arrives and completes an outbound request. -/
  | cmpCell (n : Fin 8) (cell : BitVec 640)
  /-- RDATA_CELL (R392): An RDATA cell arrives and completes an outbound read. -/
  | rdataCell (n : Fin 8) (cell : BitVec 640)
  /-- EFMEL_OUTBOUND (R396): An outbound request at the local port is refused or sent as a REQ cell. -/
  | efmelOutbound (r : HopReq) (typ : Fin 16)
  /-- DOWN (R397): EFL.CTRL.DOWN takes the link DOWN and completes outstanding requests with DISABLED. -/
  | down (n : Fin 8)
  /-- QUIESCE (R399): EFL.CTRL.QUIESCE stops granting and waits for requests to complete. -/
  | quiesce (n : Fin 8)
  /-- QUIESCE_DONE (R399): All requests complete or 10 ms pass and the port goes DOWN as QUIESCED. -/
  | quiesceDone (n : Fin 8)
  /-- PRSNT_CHANGE (R399): A change on EFLn_PRSNT_N starts its 10 ms debounce. -/
  | prsntChange (n : Fin 8) (low : Bool)
  /-- RAMP_STEP (R410): After 256 cycles a ramping global clock steps its divider toward the target. -/
  | rampStep (t : Tower) (n : Fin 32)
  /-- GCLK_EN_WRITE (R408): A write of GCLKn EN gates or ungates distribution at the next clock edge. -/
  | gclkEnWrite (t : Tower) (n : Fin 32) (en : Bool)
  /-- FINE_MEASUREMENT (R416): A fine REFCLK measurement over 65,536 FIO cycles completes and may trip. -/
  | fineMeasurement (dev : Word)
  /-- LPD_OFF (R427): Setting an LPD_CTRL bit powers off a fully excluded logic domain. -/
  | lpdOff (t : Tower) (d : Fin 16)
  /-- LPD_ON (R427): Clearing an LPD_CTRL bit powers the domain on and reloads its front planes. -/
  | lpdOn (t : Tower) (d : Fin 16)
  /-- LPD_DONE (R427): A logic-domain power-on completes and sets LPD_DONE. -/
  | lpdDone (t : Tower) (d : Fin 16)
  /-- SENSOR_SAMPLE (R433): Each ms sensors convert, the model infers temperatures and thermal levels are updated. -/
  | sensorSample (pw : List PowerRep) (rd : List SensorRead)
  /-- FAILOVER (R444): The standby Anole takes over after a missed heartbeat and raises NME cause 3. -/
  | failover (sram : Bool)
  /-- ANOLE_READY (R489): Anole firmware finishes booting and sets READY. -/
  | anoleReady (ed0 ml0 ed1 ml1 : Bool) (ver0 svn0 ver1 svn1 : Word)
  /-- ANOLE_THRESHOLD_POLICY (R469): Anole applies its default policy after a block's ERR_THR. -/
  | anoleThresholdPolicy (p : Page)
  /-- WATCH_ADVANCE (R473): Every 1,024 group cycles the watched signal index k advances. -/
  | watchAdvance (t : Tower) (g : Fin 65536)
  /-- BOND_TEST (R475): At a quiet point a bond test runs and failed bonds are steered to spares or the group goes LAME. -/
  | bondTest (t : Tower) (g : Fin 65536) (fails : BitVec 68)
  /-- POR (R488): Power-on reset starts the boot stages from AON. -/
  | por (sram button : Bool) (prsnt : BitVec 8)
  /-- T0 (R486): All supplies in tolerance for 1 ms begins stage CLOCKS. -/
  | t0 (peBif : Bool) (vio v18 : BitVec 12)
  /-- CLOCKS_DONE (R488): The regulators are up and the root PLL locked; stage FUSES begins. -/
  | clocksDone (refOk : Bool)
  /-- TEST_DONE (R488): Bond tests, BIST and store initialisation end; stage READY begins. -/
  | testDone (fails : List (Tower × Fin 65536 × BitVec 68))
  /-- WARM_RELEASE (R493): Release of PE_PERST0_N runs the service-group bond tests and stage 5. -/
  | warmRelease (fails : List (Tower × Fin 65536 × BitVec 68))
  /-- CTX_RST (R494): PKG.CTX_RST.GO holds the named contexts' write enables low. -/
  | ctxRst (mask : BitVec 8)
  /-- PINCTL_WRITE (R511): A write of JTAG_CTRL.PINCTL enables or ends pin control and updates measurement 13. -/
  | pinctlWrite (v : Bool)
  /-- FABRIC_CLOCK_EDGE (R43): An active edge of a control set's clock loads the eft flip-flops and the banked routing registers under R43 and R72. -/
  | fabricClockEdge (rise fall : BitVec 128) (recov : Bool)
  /-- PIN_INPUT_CHANGE (R505): A change of level on a user I/O input pin reaches the fabric unregistered and may assert an asynchronous SR at once. -/
  | pinInputChange (k : Fin 12) (j : Fin 16) (v : Option Bool)
  /-- PERST_RELEASE (R378): Release of PE_PERST0_N after a POR boot, or of PE_PERST1_N, lets the port's functions become ready and start link training. -/
  | perstRelease (portB : Bool)
  /-- LPD_OFF_DONE (R427): A logic-domain power-off completes within 5 us, its state is lost and LPD_STAT shows the domain OFF and no longer BUSY. -/
  | lpdOffDone (t : Tower) (d : Fin 16)
  /-- DEEP_LINE_CONTENTION (R68): Two taps driving one segment are disabled, the keeper holds the value and the event is raised and croaked. -/
  | deepLineContention (t : Tower) (v : Bool) (a : Fin 1024) (sg : Fin 3) (j : Fin 22) (taps : BitVec 4)
  /-- DEEP_LINE_CONTENTION_END (R68): When at most one tap requests to drive, its driver is re-enabled and TFLT falls. -/
  | deepLineContentionEnd (t : Tower) (v : Bool) (a : Fin 1024) (sg : Fin 3) (j : Fin 22) (taps : BitVec 4)
  /-- SPDM_REQUEST (R379): A DOE or MCTP SPDM request is answered by Anole with dual signatures. -/
  | spdmRequest (port : Fin 3) (q : SpdmReq)
  /-- TRAINING_PHASE_END (R388): After 1 ms of training blocks both ends form the ordered candidate list. -/
  | trainingPhaseEnd (n : Fin 8) (good : BitVec 16) (adv : EflAdvert) (reversed : Bool) (pol : BitVec 16)
  /-- ATTEMPT_END (R388): A candidate pair passes at both ends, or its 1 ms expires and the next is tried or training fails. -/
  | attemptEnd (n : Fin 8) (ok : Bool)
  /-- TRAIN_RETRY (R388): RETRY_MS after a failed training, training begins again. -/
  | trainRetry (n : Fin 8)
  /-- MARKER (R389): A marker word is received, deskewing lanes; the first with MCOUNT 0 brings the link UP. -/
  | marker (n : Fin 8) (ws : List (BitVec 40))
  /-- REPLAY_TIMEOUT (R391): 10 us without ACK progress resends unacknowledged cells. -/
  | replayTimeout (n : Fin 8)
  /-- RETRAIN_TIMEOUT (R391): A retrain not UP within 10 ms takes the link DOWN. -/
  | retrainTimeout (n : Fin 8)
  /-- PRESENCE_DEBOUNCED (R399): A debounced fall starts training under AUTO; a rise takes the link DOWN. -/
  | presenceDebounced (n : Fin 8)
  /-- PRBS_TEST (R400): A write of EFL.CTRL.TEST enters or leaves PRBS test mode. -/
  | prbsTest (n : Fin 8) (on : Bool)
  /-- PRBS_INJ (R400): PRBS.INJ inverts one transmitted bit on every lane. -/
  | prbsInj (n : Fin 8)
  /-- PRBS_CLR (R400): PRBS.CLR zeroes the error counters and drops the locks. -/
  | prbsClr (n : Fin 8)
  /-- IVR_LIMIT (R429): A regulator at its current limit sets its tower's level to 7. -/
  | ivrLimit (t : Tower) (rail : Fin 4)
  /-- IKEY_SET (R449): Mailbox command installing the owner image key. -/
  | ikeySet (flashOk : Bool)
  /-- STAGE (R452): Mailbox command writing or erasing a chunk of a firmware slot or golden image. -/
  | stage (flashOk : Bool)
  /-- VERIFY (R452): Mailbox command verifying a staged firmware slot or golden image. -/
  | verify (header ed ml : Bool) (svn : Word)
  /-- ACTIVATE (R452): Mailbox command writing an activation record, optionally restarting Anole at once. -/
  | activate (flashOk : Bool) (ver svn : Word)
  /-- SVN_ADVANCE (R451): Mailbox command burning anti-rollback counter bits. -/
  | svnAdvance (reach : Fin 65)
  /-- ENROLL (R449): Mailbox command enrolling the owner public keys into fuses. -/
  | enroll (flashOk fuseOk : Bool)
  /-- OPKEY_INSTALL (R449): Mailbox command installing an operator key signed by root key 0. -/
  | opkeyInstall (flashOk : Bool)
  /-- OPKEY_REVOKE (R449): Mailbox command revoking an operator key. -/
  | opkeyRevoke (fuseOk : Bool)
  /-- REPAIR_COMMIT (R482): Mailbox command appending repair records and a trailer to the three copies. -/
  | repairCommit (copies : Fin 4)
  /-- CRK_ARCHIVE (R458): Mailbox command copying the croak log to the next archive slot. -/
  | crkArchive (flashOk : Bool)
  /-- MCTP_MESSAGE (R455): An MCTP message on the management bus is served by Anole. -/
  | mctpMessage (m : MctpMsg)
  /-- BUTTON_RELEASE (R456): A debounced service-button release classes the press as identify, none or quiesce. -/
  | buttonRelease (ms : Fin 131072)
  /-- ANOLE_DEGRADE (R470): Two FLIT_UC on one ring direction within 1 s make Anole commit DEGRADE. -/
  | anoleDegrade (t : Tower)
  /-- WATCH_DISAGREE (R474): A watch disagreement for 4 cycles puts a group into VOTING or SUSPECT, or fails a spare. -/
  | watchDisagree (t : Tower) (g : Fin 65536) (who : Fin 3)
  /-- REPAIR_RECORD_WRITE (R479): Within 1 s of a steer or LAME, Anole writes the change into the repair records. -/
  | repairRecordWrite (copies : Fin 4)
  /-- VIO_LOST (R507): A bank's VIO out of tolerance puts its pins at high impedance. -/
  | vioLost (k : Fin 12)
  /-- VIO_BACK (R507): VIO in tolerance for 1 ms resumes the bank under its settings. -/
  | vioBack (k : Fin 12) (v18 : Bool)
  /-- EXTEST (R510): TAP instruction EXTEST drives and captures the boundary register. -/
  | extest (cells : List (Fin 192 × Bool × Bool))
  /-- SAMPLE_PRELOAD (R510): TAP instruction SAMPLE/PRELOAD captures the boundary register. -/
  | samplePreload (cells : List (Fin 192 × Bool × Bool))
  /-- EXTEST_PULSE (R510): TAP instruction EXTEST_PULSE for 1149.6 AC-coupled pins. -/
  | extestPulse (cells : List (Fin 192 × Bool × Bool))
  /-- EXTEST_TRAIN (R510): TAP instruction EXTEST_TRAIN for 1149.6 AC-coupled pins. -/
  | extestTrain (cells : List (Fin 192 × Bool × Bool))
  /-- BYPASS (R510): TAP instruction BYPASS selects the bypass register. -/
  | bypass (op : BitVec 8)
  /-- MISSING_MARKER (R389): No marker word arrives at the position where the receiver expects one, and the link retrains. -/
  | missingMarker (n : Fin 8)
  /-- PRBS_LOCK (R400): In test mode a lane's PRBS checker locks after 64 error-free bits and from then counts each received bit error. -/
  | prbsLock (n : Fin 8) (l : Fin 16) (errs : Word)
  /-- SIGNATURE_CHECK_DONE (R164): The manifest, key, signature, rollback and unwrap checks of steps 7 to 11 complete. -/
  | signatureCheckDone
  /-- SEGMENT_VERIFIED (R160): A received segment's GCM tag and records have been checked. -/
  | segmentVerified
  /-- CENSUS_DONE (R67): The driver census and shell-geometry check end, and a passing image begins its commit. -/
  | censusDone
  /-- COMMIT_COMPLETE (R170): When every tower has finished, quarantines clear, RB_PERMIT, CONTENT and status are set together. -/
  | commitComplete
  /-- DLV_TIMEOUT (R166): No chunk pending for DLV_TIMEOUT_MS fails the image with TRUNCATED. -/
  | dlvTimeout
  /-- ABORT (R174): LDR.CMD.ABORT discards an image being received or verified with code ABORTED. -/
  | abort
  /-- GOLDEN (R174): LDR.CMD.GOLDEN starts a golden load from flash. -/
  | golden
  /-- LOAD_WINDOW_EXPIRY (R175): The load window expires and the loader reads the golden images from flash. -/
  | loadWindowExpiry
  /-- MOLT_DONE (R356): When every engine has passed the region, KEY becomes B and MSTATE NONE. -/
  | moltDone
  /-- FLR_PF0 (R381): An FLR of PF0 resets its configuration and discards an uncommitted host load. -/
  | flrPf0
  /-- RMV_REQ (R383): PCI.RMV_CMD.REQ starts an orderly removal and signals REMOVE_REQ. -/
  | rmvReq
  /-- RMV_ACK (R383): PCI.RMV_CMD.ACK quiesces the host interface. -/
  | rmvAck
  /-- RMV_TIMEOUT (R383): TMO_S seconds without ACK quiesces the host interface. -/
  | rmvTimeout
  /-- RAMP_TICK (R411): At a ramp tick pending CLK commits take their targets and ramps start. -/
  | rampTick
  /-- RAMP_GO (R411): CKR.RAMP.GO releases every waiting CLK commit at the next tick. -/
  | rampGo
  /-- COARSE_TRIP (R416): The coarse detector finds REFCLK missing and switches to FIO or gates the clocks. -/
  | coarseTrip
  /-- FIO_QUALIFIED (R415): FIO qualifies, and after a gated trip the root locks to it and clocks resume. -/
  | fioQualified
  /-- FIO_FAIL (R418): FIO not qualified 1 ms after a trip puts the device into SAFE state. -/
  | fioFail
  /-- SAFE_EXIT (R419): REFCLK good for 10 ms ends SAFE state and clocks resume. -/
  | safeExit
  /-- REF_OK (R420): REFCLK is declared good after RET_MS, and under AUTO_RET the root returns to it. -/
  | refOk
  /-- RETURN (R420): CKR.CMD.RETURN switches the root back to REFCLK once REF_OK holds. -/
  | clkReturn
  /-- BUDGET_RUN (R429): The budget arbiter's periodic run raises or lowers one tower's power level. -/
  | budgetRun
  /-- THERMAL_SHUTDOWN (R437): A trip held for TRIP_HOLD gates the clocks and turns off the upper rails. -/
  | thermalShutdown
  /-- PWR_FAIL (R438): PWR_FAIL_N low raises NME cause 1, freezes the log and puts GDDR6 in self-refresh. -/
  | pwrFail
  /-- PWR_FAIL_RECOVER (R438): PWR_FAIL_N high for 10 ms restores normal levels. -/
  | pwrFailRecover
  /-- HEARTBEAT (R444): The active Anole sends its 1 ms heartbeat to the standby. -/
  | heartbeat
  /-- NO_ANOLE_LEFT (R444): The AON logic finds no Anole running, writes a fatal record and freezes the log. -/
  | noAnoleLeft
  /-- GET_INFO (R446): Mailbox command returning firmware, edition and counter information. -/
  | getInfo
  /-- GET_MEAS (R453): Mailbox command returning unsigned measurement blocks. -/
  | getMeas
  /-- ATTEST (R454): Mailbox command returning a dual-signed attestation report. -/
  | attest
  /-- KEY_GEN (R450): Mailbox command filling an EMPTY key slot from the TRNG. -/
  | keyGen
  /-- KEY_IMPORT (R450): Mailbox command filling a key slot with keys unwrapped under a session transport key. -/
  | keyImport
  /-- CRK_UNFREEZE (R458): Mailbox command clearing FROZEN without an archive. -/
  | crkUnfreeze
  /-- TELEMETRY (R459): Mailbox command returning the sampled sensor values. -/
  | telemetry
  /-- LIFETIME (R459): Mailbox command returning the lifetime block. -/
  | lifetime
  /-- MB_DONE (R445): Anole finishes a command, writes the response and sets STATUS and DONE. -/
  | mbDone
  /-- BUTTON_HOLD_GOLDEN (R456): A press held 8 s issues LDR.CMD.GOLDEN while still held. -/
  | buttonHoldGolden
  /-- IDENTIFY_END (R502): The LED blinking of an identify press ends after 30 s. -/
  | identifyEnd
  /-- TELEMETRY_SAMPLE (R459): Once per second Anole samples the telemetry sensors. -/
  | telemetrySample
  /-- LIFETIME_WRITE (R459): Every hour Anole writes the lifetime block to flash. -/
  | lifetimeWrite
  /-- BROWNOUT (R487): A core supply out of tolerance for over 10 us performs a POR outside the AON domain. -/
  | brownout
  /-- FUSES_DONE (R488): Fuses and repair records are loaded; stage TEST begins. -/
  | fusesDone
  /-- WARM (R493): A falling PE_PERST0_N drains the device, lowers write enables and holds WARM. -/
  | warm
  /-- WARM_REL (R495): After WARM the committed, unquarantined contexts are released once GDDR6 has retrained. -/
  | warmRel
  /-- CTX_RST_END (R494): After CTX_HOLD cycles the CONTEXT reset ends and release follows. -/
  | ctxRstEnd
  /-- IDCODE (R510): TAP instruction IDCODE selects the IDCODE register. -/
  | idcode
  /-- HIGHZ (R510): TAP instruction HIGHZ puts the pins at high impedance. -/
  | highz
  /-- CLAMP (R510): TAP instruction CLAMP holds the boundary values with bypass selected. -/
  | clamp
  /-- TAP_RESET (R512): TRST_N low or five TCK cycles with TMS high reset the TAP. -/
  | tapReset
  deriving DecidableEq, Repr

end Sys2Proof
end

