-- ==== Sys2Proof/Machine/Bits.lean ====
section
/-! DEFINITION. Bit fields of a register word, written [msb:lsb] as the spec writes them (00_scope). -/
namespace Sys2Proof.Machine

/-- Bits [hi:lo] of a word as a number. -/
def wget (w : Word) (hi lo : Nat) : Nat := (w.toNat >>> lo) % 2 ^ (hi + 1 - lo)

/-- The mask of bits [hi:lo]. -/
def wmask (hi lo : Nat) : Word := BitVec.ofNat 32 ((2 ^ (hi + 1 - lo) - 1) <<< lo)

/-- The word with bits [hi:lo] replaced by `v`, cut to the field's width. -/
def wput (w : Word) (hi lo v : Nat) : Word :=
  (w &&& ~~~ wmask hi lo) ||| (BitVec.ofNat 32 ((v % 2 ^ (hi + 1 - lo)) <<< lo))

/-- Bit `i` of a number. -/
def nbit (n i : Nat) : Bool := n.testBit i

/-- The number with bit `i` set. -/
def nset (n i : Nat) : Nat := n ||| (1 <<< i)

/-- The number with bit `i` cleared. -/
def nclr (n i : Nat) : Nat := if n.testBit i then n - (1 <<< i) else n

/-- The number with bit `i` made `b`. -/
def nwr (n i : Nat) (b : Bool) : Nat := if b then nset n i else nclr n i

/-- Bits [hi:lo] of a number. -/
def nget (n hi lo : Nat) : Nat := (n >>> lo) % 2 ^ (hi + 1 - lo)

/-- A saturating counter step: `n + k`, never above `top`. -/
def satAdd (top n k : Nat) : Nat := if top < n + k then top else n + k

/-- One bit as a number. -/
def b2n (b : Bool) : Nat := if b then 1 else 0

/-- A word from a number (cut to 32 bits). -/
def w32 (n : Nat) : Word := BitVec.ofNat 32 n

/-- A number of `w` bits read as two's complement. -/
def toS (w n : Nat) : Int := if n % 2 ^ w < 2 ^ (w - 1) then ((n % 2 ^ w : Nat) : Int) else ((n % 2 ^ w : Nat) : Int) - ((2 ^ w : Nat) : Int)

/-- An integer cut to `w` bits, two's complement. -/
def ofS (w : Nat) (i : Int) : Nat := (i % ((2 ^ w : Nat) : Int)).toNat

/-- Byte `i` of a number, least significant first. -/
def nbyte (n i : Nat) : Nat := (n >>> (8 * i)) % 256

end Sys2Proof.Machine
end

