-- ==== Sys2Proof/Machine/Bch.lean ====
section
/-! DEFINITION. The BCH code of stored configuration frames (06 R122, R123): encoder, and a decoder that corrects up to
t bit errors; and the DEC code of 64-bit words (23 R464). -/
namespace Sys2Proof.Machine

/-- Multiply by α in GF(2^13) with p(x) = x^13 + x^4 + x^3 + x + 1. -/
def gf13X (a : Nat) : Nat := if a < 4096 then 2 * a else (2 * a) ^^^ 0x201B

/-- Divide by α in GF(2^13). -/
def gf13Div (a : Nat) : Nat := (if a.testBit 0 then a ^^^ 0x201B else a) / 2

/-- Multiplication in GF(2^13): bits `n - 1` to 0 of `c`, the highest first. -/
def gf13MulGo : Nat → Nat → Nat → Nat → Nat
  | 0, _, _, r => r
  | n + 1, a, c, r => gf13MulGo n a c (gf13X r ^^^ (if c.testBit n then a else 0))

/-- Multiplication in GF(2^13). -/
def gf13Mul (a c : Nat) : Nat := if a = 0 then 0 else gf13MulGo 13 a c 0

/-- a to the power 2^n - 2 with 12 squarings: the inverse. -/
def gf13InvGo : Nat → Nat → Nat → Nat
  | 0, _, r => r
  | n + 1, sq, r => let s := gf13Mul sq sq; gf13InvGo n s (gf13Mul r s)

/-- The inverse of a nonzero element. -/
def gf13Inv (a : Nat) : Nat := gf13InvGo 12 a 1

/-- The minimal polynomials of α^1, α^3, ..., α^31. -/
def bchMin : List Nat :=
  [0x201b, 0x26b1, 0x2993, 0x274f, 0x31e1, 0x23a3, 0x3079, 0x22bf, 0x2fff, 0x3a29, 0x39d3, 0x3827, 0x355d, 0x3315,
   0x3f45, 0x3d4d]

/-- The product of two polynomials over GF(2); `n` bits of `c`. -/
def polyMul : Nat → Nat → Nat → Nat
  | 0, _, _ => 0
  | n + 1, a, c => (if c.testBit n then a <<< n else 0) ^^^ polyMul n a c

/-- The generator g(x) for strength t (06 R122). -/
def bchGen (t : Nat) : Nat := (bchMin.take t).foldl (fun g m => polyMul 14 g m) 1

/-- Feed bits `n - 1` to 0 of `d` into the division by `g` of degree `k`. -/
def bchFeed : Nat → Nat → Nat → Nat → Nat → Nat
  | 0, _, _, _, r => r
  | n + 1, g, k, d, r =>
    let top := r.testBit (k - 1) != d.testBit n
    let r' := (r <<< 1) % 2 ^ k
    bchFeed n g k d (if top then r' ^^^ (g % 2 ^ k) else r')

/-- The check bits of a payload under strength t (06 R122). -/
def bchCheck (t d : Nat) : Nat := if d = 0 then 0 else bchFeed 4096 (bchGen t) (13 * t) d 0

/-- The value at `x` of the polynomial whose bits `n - 1` to 0 are those of `r`. -/
def bchEval : Nat → Nat → Nat → Nat → Nat
  | 0, _, _, acc => acc
  | n + 1, r, x, acc => bchEval n r x (gf13Mul acc x ^^^ b2n (r.testBit n))

/-- The syndromes S_1 to S_n of remainder `r` of `k` bits. `x` is α^j for the next j. -/
def bchSyn : Nat → Nat → Nat → Nat → List Nat
  | 0, _, _, _ => []
  | n + 1, k, r, x => bchEval k r x 0 :: bchSyn n k r (gf13X x)

/-- The Berlekamp-Massey state: the locator, the previous locator, its discrepancy, the length, and the shift. -/
structure BmState where
  c : List Nat
  b : List Nat
  d : Nat
  l : Nat
  m : Nat

/-- The discrepancy at step n: Σ c_i S_(n - i), with the syndromes so far most recent first. -/
def bmDisc (c syn : List Nat) : Nat := (List.zipWith gf13Mul c syn).foldl (· ^^^ ·) 0

/-- c - k x^m b. -/
def bmSub (c b : List Nat) (k m : Nat) : List Nat :=
  let kb := List.replicate m 0 ++ b.map (gf13Mul k)
  (List.range (Nat.max c.length kb.length)).map (fun i => c.getD i 0 ^^^ kb.getD i 0)

/-- Berlekamp-Massey over the syndromes to come; `seen` holds those so far, most recent first, `n` their count. -/
def bmGo : List Nat → List Nat → Nat → BmState → BmState
  | [], _, _, s => s
  | x :: xs, seen, n, s =>
    let d := bmDisc s.c (x :: seen)
    if d = 0 then bmGo xs (x :: seen) (n + 1) { s with m := s.m + 1 }
    else
      let c := bmSub s.c s.b (gf13Mul d (gf13Inv s.d)) s.m
      if 2 * s.l ≤ n then bmGo xs (x :: seen) (n + 1) ⟨c, s.c, d, n + 1 - s.l, 1⟩
      else bmGo xs (x :: seen) (n + 1) { s with c := c, m := s.m + 1 }

/-- The value at `x` of a polynomial given by its coefficients, the constant first. -/
def polyEval (c : List Nat) (x : Nat) : Nat := c.foldr (fun a acc => gf13Mul acc x ^^^ a) 0

/-- The positions `p`, `p + 1`, ... (`n` of them) whose locator root is found; `x` is α^(-p). -/
def chien : Nat → Nat → Nat → List Nat → List Nat
  | 0, _, _, _ => []
  | n + 1, p, x, c =>
    let rest := chien n (p + 1) (gf13Div x) c
    if polyEval c x = 0 then p :: rest else rest

/-- A frame decoded: payload, check bits, and how many bits were corrected. -/
structure BchOut where
  pay : Nat
  chk : Nat
  n : Nat
  deriving DecidableEq, Repr

/-- Decode a payload and its first 13 t check bits (06 R123): none when found uncorrectable. -/
def bchDecode (t pay chk : Nat) : Option BchOut :=
  let k := 13 * t
  let r := bchCheck t pay ^^^ (chk % 2 ^ k)
  if r = 0 then some ⟨pay, chk % 2 ^ k, 0⟩
  else
    let s := bmGo (bchSyn (2 * t) k r 2) [] 0 ⟨[1], [1], 1, 0, 1⟩
    if t < s.l then none
    else
      let ps := chien (4096 + k) 0 1 s.c
      if ps.length = s.l then
        let e := ps.foldl (fun a p => a ^^^ 1 <<< p) 0
        some ⟨pay ^^^ (e >>> k), (chk % 2 ^ k) ^^^ (e % 2 ^ k), s.l⟩
      else none

/-! ### The DEC code (23 R464) -/

/-- The generator: the product of the minimal polynomials of α and α^3 in GF(2^7) with x^7 + x^3 + 1. -/
def decGen : Nat := polyMul 8 0x8F 0x89

/-- The oddBits of `n` bits of a number. -/
def oddBits : Nat → Nat → Bool
  | 0, _ => false
  | n + 1, x => x.testBit n != oddBits n x

/-- The 15 check bits of a word: 14 of the BCH code, then the even parity of the other 78 bits. -/
def decCheck (w : BitVec 64) : Nat :=
  let r := bchFeed 64 decGen 14 w.toNat 0
  r + b2n (oddBits 64 w.toNat != oddBits 14 r) <<< 14

/-- What an error in bit `i` adds to the syndrome: data bits 0 to 63, then the check bits. -/
def decCol (i : Nat) : Nat := if i < 64 then decCheck (1 <<< i) else 1 <<< (i - 64)

/-- The one bit whose error gives syndrome `s`. -/
def decOne (s : Nat) : Option Nat := (List.range 79).find? fun i => decCol i == s

/-- The bits in error, two at most, by the syndrome; none where more are. -/
def decFind (s : Nat) : Option (List Nat) :=
  if s = 0 then some []
  else match decOne s with
    | some i => some [i]
    | none => (List.range 79).findSome? fun i => (decOne (s ^^^ decCol i)).map fun j => [i, j]

/-- Decode a word and its check bits: the word corrected, and how many bits were. -/
def decDecode (w : BitVec 64) (chk : Nat) : Option (BitVec 64 × Nat) :=
  (decFind (decCheck w ^^^ chk)).map fun l => (l.foldl (fun w i => w ^^^ (1 <<< i)) w, l.length)

end Sys2Proof.Machine
end

