-- ==== Sys2Proof/Config.lean ====
section
/-! DEFINITION. What the spec leaves open and an implementation fixes: free values. None of these has a body, so no
proof can see a value, and a claim holds whatever they are. -/
namespace Sys2Proof

/-- The free value number `n`, `w` bits wide. `Base.free` counts the free values drawn so far. -/
opaque Config.freeBits (w n : Nat) : BitVec w

/-- The bits Anole's TRNG yields on its `n`-th draw (22, "Anole's parts"). -/
opaque Config.trng (n : Nat) : BitVec 512

/-- The free byte string number `n`, of a length that is free too. -/
opaque Config.freeBytes (n : Nat) : List (BitVec 8)

/-- Where instruction memory lies in the local addresses of a DMA channel: the spec names it as a local range of a
channel (11 R238) and gives it no local address (R225). -/
opaque Config.imLocalBase : Nat

/-- The form of the link scrambler's register: the spec gives its polynomial (17 R360), not whether it shifts toward its
most or least significant bit, nor whether its taps feed one bit or are fed by it. -/
opaque Config.lfsrForm : Fin 4

/-- The two signature algorithms (07 R152). -/
inductive SigAlg
  | ed25519 | mldsa65
  deriving DecidableEq, Repr

/-- Does a signature verify over a message under a public key: Ed25519 of RFC 8032, ML-DSA-65 of FIPS 204 with an empty
context string (07 R152)? The spec takes both from their standards. -/
opaque Config.sigVerifies (a : SigAlg) (key msg sig : List (BitVec 8)) : Bool

/-- The public keys manufacture gave the part: KEY_ID 0x00 the Verong release key, 0x10 operator root key 0 (22 R448). -/
opaque Config.madeKey (a : SigAlg) (id : Nat) : List (BitVec 8)

/-- The image key manufacture fused: Verong's, or on -OP parts the operator's (22 R448). -/
opaque Config.madeImageKey (op : Bool) : BitVec 256

/-- The export master secret of an SPDM session, which its key exchange makes (22 R450). -/
opaque Config.sessionSecret (session : Nat) : List (BitVec 8)

/-- The check bits of a hop-network flit: `e` bits over its `w` other bits. The spec names the code's class, SEC-DED, and its
bits (14 R282 to R285), and gives no matrix. -/
opaque Config.flitCode (w e : Nat) (body : BitVec w) : BitVec e

/-- How many flits an input buffer of a ring link holds beyond the two that an injection needs (14 R287 gives no depth). -/
opaque Config.hopSpare : Nat

/-- Where on its ring a stop or lift lies (14 R279 gives their number, no order): stops by index, then the ring's lifts. -/
opaque Config.ringPos (level node : Nat) : Nat

/-- The fields whose encoding table leaves values unlisted, where a command acts on the value. -/
inductive OpenField
  | rateMax | plane | maxSpeed | padOp | moltOp | gkcOp | loopDepth | clkSrc | tapMode
  deriving DecidableEq, Repr

/-- Which of the listed values an unlisted value of a field acts as, as a position in their list: such a value has no defined
effect on this stepping (00 R8). -/
opaque Config.actsAs (f : OpenField) (v : Nat) : Nat

end Sys2Proof
end

