-- ==== Sys2Proof/Machine/RegSpec.lean ====
section
/-! DEFINITION. How a register is described: the access types of 00_scope ("Access types"), a field, a register or array of registers -/
namespace Sys2Proof.Machine

/-- The access types of 00_scope; RSV bits are the bits no field covers. -/
inductive Acc | rw | ro | w1c | w1s | rc | wo | rws
  deriving DecidableEq, Repr

/-- A field of a register: bits [hi:lo], its access type, its reset value, and whether it is sticky (kept at WARM). -/
structure FSpec where
  hi : Nat
  lo : Nat
  acc : Acc
  rst : Nat
  sticky : Bool
  deriving DecidableEq, Repr

/-- `n` registers at page offset `off`, `st` bytes apart. -/
structure RegSpec where
  off : Nat
  n : Nat
  st : Nat
  fs : List FSpec
  deriving DecidableEq, Repr

/-- The place of a field in a page: the byte offset of its register, its bits, and the stride of its array. -/
structure Fld where
  off : Nat
  hi : Nat
  lo : Nat
  st : Nat
  deriving DecidableEq, Repr

/-- The same field in element `i` of its array. -/
def Fld.nth (f : Fld) (i : Nat) : Fld := { f with off := f.off + f.st * i }

end Sys2Proof.Machine
end

