-- ==== Sys2Proof/Machine/RegTableA.lean ====
section
/-! DEFINITION. The register tables of spec chapters 02, 05, 06, 08: every register, its fields, access types and reset values. A value "per part", "per page" or "fuse" stands as 0 here and is computed where it is read. -/
namespace Sys2Proof.Machine

/-- HDR.BLK_ID (02 R25). -/
def HDR.BLK_ID : Fld := ⟨0x0, 31, 0, 0x4⟩
/-- HDR.BLK_ID.CLASS (02 R25). -/
def HDR.BLK_ID_CLASS : Fld := ⟨0x0, 31, 16, 0x4⟩
/-- HDR.BLK_ID.TOWER (02 R25). -/
def HDR.BLK_ID_TOWER : Fld := ⟨0x0, 11, 8, 0x4⟩
/-- HDR.BLK_ID.INSTANCE (02 R25). -/
def HDR.BLK_ID_INSTANCE : Fld := ⟨0x0, 7, 0, 0x4⟩
/-- HDR.BLK_VER (02 R25). -/
def HDR.BLK_VER : Fld := ⟨0x4, 31, 0, 0x4⟩
/-- HDR.BLK_VER.MAJOR (02 R25). -/
def HDR.BLK_VER_MAJOR : Fld := ⟨0x4, 31, 24, 0x4⟩
/-- HDR.BLK_VER.MINOR (02 R25). -/
def HDR.BLK_VER_MINOR : Fld := ⟨0x4, 23, 16, 0x4⟩
/-- HDR.BLK_CTRL (02 R25). -/
def HDR.BLK_CTRL : Fld := ⟨0x8, 31, 0, 0x4⟩
/-- HDR.BLK_CTRL.SLEEP_PERMIT (02 R25). -/
def HDR.BLK_CTRL_SLEEP_PERMIT : Fld := ⟨0x8, 2, 2, 0x4⟩
/-- HDR.BLK_CTRL.SRST (02 R25). -/
def HDR.BLK_CTRL_SRST : Fld := ⟨0x8, 1, 1, 0x4⟩
/-- HDR.BLK_CTRL.EN (02 R25). -/
def HDR.BLK_CTRL_EN : Fld := ⟨0x8, 0, 0, 0x4⟩
/-- HDR.BLK_STAT (02 R25). -/
def HDR.BLK_STAT : Fld := ⟨0xC, 31, 0, 0x4⟩
/-- HDR.BLK_STAT.COMMIT_RES (02 R25). -/
def HDR.BLK_STAT_COMMIT_RES : Fld := ⟨0xC, 11, 10, 0x4⟩
/-- HDR.BLK_STAT.AWAKE (02 R25). -/
def HDR.BLK_STAT_AWAKE : Fld := ⟨0xC, 9, 9, 0x4⟩
/-- HDR.BLK_STAT.COMMIT_PEND (02 R25). -/
def HDR.BLK_STAT_COMMIT_PEND : Fld := ⟨0xC, 8, 8, 0x4⟩
/-- HDR.BLK_STAT.STATE (02 R25). -/
def HDR.BLK_STAT_STATE : Fld := ⟨0xC, 3, 0, 0x4⟩
/-- HDR.BLK_COMMIT (02 R25). -/
def HDR.BLK_COMMIT : Fld := ⟨0x10, 31, 0, 0x4⟩
/-- HDR.BLK_COMMIT.CANCEL (02 R25). -/
def HDR.BLK_COMMIT_CANCEL : Fld := ⟨0x10, 1, 1, 0x4⟩
/-- HDR.BLK_COMMIT.GO (02 R25). -/
def HDR.BLK_COMMIT_GO : Fld := ⟨0x10, 0, 0, 0x4⟩
/-- HDR.EVT_STAT (02 R25). -/
def HDR.EVT_STAT : Fld := ⟨0x14, 31, 0, 0x4⟩
/-- HDR.EVT_EN (02 R25). -/
def HDR.EVT_EN : Fld := ⟨0x18, 31, 0, 0x4⟩
/-- HDR.EVT_FORCE (02 R25). -/
def HDR.EVT_FORCE : Fld := ⟨0x1C, 31, 0, 0x4⟩
/-- HDR.ERR_CNT (02 R25). -/
def HDR.ERR_CNT : Fld := ⟨0x20, 31, 0, 0x4⟩
/-- HDR.ERR_CNT.TOTAL (02 R25). -/
def HDR.ERR_CNT_TOTAL : Fld := ⟨0x20, 31, 16, 0x4⟩
/-- HDR.ERR_CNT.COUNT (02 R25). -/
def HDR.ERR_CNT_COUNT : Fld := ⟨0x20, 15, 0, 0x4⟩
/-- HDR.ERR_CFG (02 R25). -/
def HDR.ERR_CFG : Fld := ⟨0x24, 31, 0, 0x4⟩
/-- HDR.ERR_CFG.RAW (02 R25). -/
def HDR.ERR_CFG_RAW : Fld := ⟨0x24, 28, 28, 0x4⟩
/-- HDR.ERR_CFG.THRESH (02 R25). -/
def HDR.ERR_CFG_THRESH : Fld := ⟨0x24, 27, 12, 0x4⟩
/-- HDR.ERR_CFG.LEAK (02 R25). -/
def HDR.ERR_CFG_LEAK : Fld := ⟨0x24, 11, 4, 0x4⟩
/-- HDR.ERR_CFG.INC (02 R25). -/
def HDR.ERR_CFG_INC : Fld := ⟨0x24, 3, 0, 0x4⟩
/-- HDR.ERR_LOG0 (02 R25). -/
def HDR.ERR_LOG0 : Fld := ⟨0x28, 31, 0, 0x4⟩
/-- HDR.ERR_LOG0.CTX_VALID (02 R25). -/
def HDR.ERR_LOG0_CTX_VALID : Fld := ⟨0x28, 19, 19, 0x4⟩
/-- HDR.ERR_LOG0.CTX (02 R25). -/
def HDR.ERR_LOG0_CTX : Fld := ⟨0x28, 18, 16, 0x4⟩
/-- HDR.ERR_LOG0.OVF (02 R25). -/
def HDR.ERR_LOG0_OVF : Fld := ⟨0x28, 15, 8, 0x4⟩
/-- HDR.ERR_LOG0.KIND (02 R25). -/
def HDR.ERR_LOG0_KIND : Fld := ⟨0x28, 7, 4, 0x4⟩
/-- HDR.ERR_LOG0.POISON (02 R25). -/
def HDR.ERR_LOG0_POISON : Fld := ⟨0x28, 2, 2, 0x4⟩
/-- HDR.ERR_LOG0.UC (02 R25). -/
def HDR.ERR_LOG0_UC : Fld := ⟨0x28, 1, 1, 0x4⟩
/-- HDR.ERR_LOG0.VALID (02 R25). -/
def HDR.ERR_LOG0_VALID : Fld := ⟨0x28, 0, 0, 0x4⟩
/-- HDR.ERR_LOG1 (02 R25). -/
def HDR.ERR_LOG1 : Fld := ⟨0x2C, 31, 0, 0x4⟩
/-- HDR.ERR_LOG2 (02 R25). -/
def HDR.ERR_LOG2 : Fld := ⟨0x30, 31, 0, 0x4⟩
/-- HDR.ERR_LOG2.SRC_VALID (02 R25). -/
def HDR.ERR_LOG2_SRC_VALID : Fld := ⟨0x30, 26, 26, 0x4⟩
/-- HDR.ERR_LOG2.SRC (02 R25). -/
def HDR.ERR_LOG2_SRC : Fld := ⟨0x30, 25, 16, 0x4⟩
/-- HDR.ERR_LOG2.ADDR_HI (02 R25). -/
def HDR.ERR_LOG2_ADDR_HI : Fld := ⟨0x30, 15, 0, 0x4⟩
/-- HDR.ERR_LOG3 (02 R25). -/
def HDR.ERR_LOG3 : Fld := ⟨0x34, 31, 0, 0x4⟩
/-- HDR.ERR_LOG4 (02 R25). -/
def HDR.ERR_LOG4 : Fld := ⟨0x38, 31, 0, 0x4⟩
/-- HDR.ERR_LOG5 (02 R25). -/
def HDR.ERR_LOG5 : Fld := ⟨0x3C, 31, 0, 0x4⟩
/-- Registers of the common header (02 R25) (02 R25), part 0. -/
def HDR.regs0 : List RegSpec := [
  ⟨0x0, 1, 0x4, [⟨31, 16, .ro, 0, false⟩, ⟨11, 8, .ro, 0, false⟩, ⟨7, 0, .ro, 0, false⟩]⟩,
  ⟨0x4, 1, 0x4, [⟨31, 24, .ro, 0x1, false⟩, ⟨23, 16, .ro, 0, false⟩]⟩,
  ⟨0x8, 1, 0x4, [⟨2, 2, .rw, 0x1, false⟩, ⟨1, 1, .wo, 0, false⟩, ⟨0, 0, .rw, 0x1, false⟩]⟩,
  ⟨0xC, 1, 0x4, [⟨11, 10, .ro, 0, false⟩, ⟨9, 9, .ro, 0x1, false⟩, ⟨8, 8, .ro, 0, false⟩, ⟨3, 0, .ro, 0x2, false⟩]⟩,
  ⟨0x10, 1, 0x4, [⟨1, 1, .wo, 0, false⟩, ⟨0, 0, .wo, 0, false⟩]⟩,
  ⟨0x14, 1, 0x4, [⟨31, 0, .w1c, 0, false⟩]⟩,
  ⟨0x18, 1, 0x4, [⟨31, 0, .rw, 0, false⟩]⟩,
  ⟨0x1C, 1, 0x4, [⟨31, 0, .wo, 0, false⟩]⟩,
  ⟨0x20, 1, 0x4, [⟨31, 16, .rc, 0, false⟩, ⟨15, 0, .ro, 0, false⟩]⟩,
  ⟨0x24, 1, 0x4, [⟨28, 28, .rw, 0, false⟩, ⟨27, 12, .rw, 0x10, false⟩, ⟨11, 4, .rw, 0xA, false⟩, ⟨3, 0, .rw, 0x1, false⟩]⟩]
/-- Registers of the common header (02 R25) (02 R25), part 1. -/
def HDR.regs1 : List RegSpec := [
  ⟨0x28, 1, 0x4, [⟨19, 19, .ro, 0, true⟩, ⟨18, 16, .ro, 0, true⟩, ⟨15, 8, .ro, 0, true⟩, ⟨7, 4, .ro, 0, true⟩, ⟨2, 2, .ro, 0, true⟩, ⟨1, 1, .ro, 0, true⟩, ⟨0, 0, .w1c, 0, true⟩]⟩,
  ⟨0x2C, 1, 0x4, [⟨31, 0, .ro, 0, true⟩]⟩,
  ⟨0x30, 1, 0x4, [⟨26, 26, .ro, 0, true⟩, ⟨25, 16, .ro, 0, true⟩, ⟨15, 0, .ro, 0, true⟩]⟩,
  ⟨0x34, 1, 0x4, [⟨31, 0, .ro, 0, true⟩]⟩,
  ⟨0x38, 1, 0x4, [⟨31, 0, .ro, 0, true⟩]⟩,
  ⟨0x3C, 1, 0x4, [⟨31, 0, .ro, 0, true⟩]⟩]
/-- The registers of the common header (02 R25). -/
def HDR.regs : List RegSpec := HDR.regs0 ++ HDR.regs1

/-- EVR.NME_STAT (02 R35). -/
def EVR.NME_STAT : Fld := ⟨0x40, 31, 0, 0x4⟩
/-- EVR.NME_STAT.CAUSE (02 R35). -/
def EVR.NME_STAT_CAUSE : Fld := ⟨0x40, 5, 0, 0x4⟩
/-- EVR.NME_FIRST (02 R35). -/
def EVR.NME_FIRST : Fld := ⟨0x44, 31, 0, 0x4⟩
/-- EVR.NME_FIRST.CAUSE (02 R35). -/
def EVR.NME_FIRST_CAUSE : Fld := ⟨0x44, 2, 0, 0x4⟩
/-- EVR.BAD_ADDR (02 R35). -/
def EVR.BAD_ADDR : Fld := ⟨0x48, 31, 0, 0x4⟩
/-- EVR.BAD_ADDR.ADDR (02 R35). -/
def EVR.BAD_ADDR_ADDR : Fld := ⟨0x48, 26, 0, 0x4⟩
/-- EVR.PEND (02 R35). -/
def EVR.PEND : Fld := ⟨0x80, 31, 0, 0x4⟩
/-- EVR.ROUTE_LO (02 R34). -/
def EVR.ROUTE_LO : Fld := ⟨0x1000, 31, 0, 0x8⟩
/-- EVR.ROUTE_LO.GKO_EN (02 R34). -/
def EVR.ROUTE_LO_GKO_EN : Fld := ⟨0x1000, 26, 26, 0x8⟩
/-- EVR.ROUTE_LO.FAB_TWR (02 R34). -/
def EVR.ROUTE_LO_FAB_TWR : Fld := ⟨0x1000, 25, 24, 0x8⟩
/-- EVR.ROUTE_LO.FAB_LINE (02 R34). -/
def EVR.ROUTE_LO_FAB_LINE : Fld := ⟨0x1000, 23, 18, 0x8⟩
/-- EVR.ROUTE_LO.FAB_EN (02 R34). -/
def EVR.ROUTE_LO_FAB_EN : Fld := ⟨0x1000, 17, 17, 0x8⟩
/-- EVR.ROUTE_LO.ANOLE_EN (02 R34). -/
def EVR.ROUTE_LO_ANOLE_EN : Fld := ⟨0x1000, 16, 16, 0x8⟩
/-- EVR.ROUTE_LO.MSIX_EN (02 R34). -/
def EVR.ROUTE_LO_MSIX_EN : Fld := ⟨0x1000, 15, 15, 0x8⟩
/-- EVR.ROUTE_LO.FUNC (02 R34). -/
def EVR.ROUTE_LO_FUNC : Fld := ⟨0x1000, 14, 11, 0x8⟩
/-- EVR.ROUTE_LO.VECTOR (02 R34). -/
def EVR.ROUTE_LO_VECTOR : Fld := ⟨0x1000, 10, 0, 0x8⟩
/-- EVR.ROUTE_HI (02 R34). -/
def EVR.ROUTE_HI : Fld := ⟨0x1004, 31, 0, 0x8⟩
/-- EVR.ROUTE_HI.GKIN (02 R34). -/
def EVR.ROUTE_HI_GKIN : Fld := ⟨0x1004, 8, 7, 0x8⟩
/-- EVR.ROUTE_HI.GECKO (02 R34). -/
def EVR.ROUTE_HI_GECKO : Fld := ⟨0x1004, 6, 0, 0x8⟩
/-- Registers of event routing (02 R34, R35) (02 R34, 02 R35), part 0. -/
def EVR.regs0 : List RegSpec := [
  ⟨0x40, 1, 0x4, [⟨5, 0, .w1c, 0, true⟩]⟩,
  ⟨0x44, 1, 0x4, [⟨2, 0, .ro, 0, true⟩]⟩,
  ⟨0x48, 1, 0x4, [⟨26, 0, .ro, 0, false⟩]⟩,
  ⟨0x80, 32, 0x4, [⟨31, 0, .ro, 0, false⟩]⟩,
  ⟨0x1000, 1024, 0x8, [⟨26, 26, .rws, 0, false⟩, ⟨25, 24, .rws, 0, false⟩, ⟨23, 18, .rws, 0, false⟩, ⟨17, 17, .rws, 0, false⟩, ⟨16, 16, .rws, 0x1, false⟩, ⟨15, 15, .rws, 0, false⟩, ⟨14, 11, .rws, 0, false⟩, ⟨10, 0, .rws, 0, false⟩]⟩,
  ⟨0x1004, 1024, 0x8, [⟨8, 7, .rws, 0, false⟩, ⟨6, 0, .rws, 0, false⟩]⟩]
/-- The registers of event routing (02 R34, R35). -/
def EVR.regs : List RegSpec := EVR.regs0

/-- CHM.CTRL (05 R116). -/
def CHM.CTRL : Fld := ⟨0x40, 31, 0, 0x4⟩
/-- CHM.CTRL.FOLLOW (05 R116). -/
def CHM.CTRL_FOLLOW : Fld := ⟨0x40, 7, 7, 0x4⟩
/-- CHM.CTRL.SWCLK (05 R116). -/
def CHM.CTRL_SWCLK : Fld := ⟨0x40, 6, 2, 0x4⟩
/-- CHM.CTRL.MODE (05 R116). -/
def CHM.CTRL_MODE : Fld := ⟨0x40, 1, 0, 0x4⟩
/-- CHM.CMD (05 R116). -/
def CHM.CMD : Fld := ⟨0x44, 31, 0, 0x4⟩
/-- CHM.CMD.THAW (05 R116). -/
def CHM.CMD_THAW : Fld := ⟨0x44, 5, 5, 0x4⟩
/-- CHM.CMD.SWAP (05 R116). -/
def CHM.CMD_SWAP : Fld := ⟨0x44, 4, 4, 0x4⟩
/-- CHM.CMD.STAGE (05 R116). -/
def CHM.CMD_STAGE : Fld := ⟨0x44, 3, 3, 0x4⟩
/-- CHM.CMD.CTX (05 R116). -/
def CHM.CMD_CTX : Fld := ⟨0x44, 2, 0, 0x4⟩
/-- CHM.STAT (05 R116). -/
def CHM.STAT : Fld := ⟨0x48, 31, 0, 0x4⟩
/-- CHM.STAT.EV_PEND (05 R116). -/
def CHM.STAT_EV_PEND : Fld := ⟨0x48, 22, 22, 0x4⟩
/-- CHM.STAT.SLOT_HALF (05 R116). -/
def CHM.STAT_SLOT_HALF : Fld := ⟨0x48, 21, 21, 0x4⟩
/-- CHM.STAT.SLOT_IDX (05 R116). -/
def CHM.STAT_SLOT_IDX : Fld := ⟨0x48, 20, 13, 0x4⟩
/-- CHM.STAT.CMD_PEND (05 R116). -/
def CHM.STAT_CMD_PEND : Fld := ⟨0x48, 11, 11, 0x4⟩
/-- CHM.STAT.DWELL_MET (05 R116). -/
def CHM.STAT_DWELL_MET : Fld := ⟨0x48, 10, 10, 0x4⟩
/-- CHM.STAT.PHASE (05 R116). -/
def CHM.STAT_PHASE : Fld := ⟨0x48, 9, 8, 0x4⟩
/-- CHM.STAT.TARGET (05 R116). -/
def CHM.STAT_TARGET : Fld := ⟨0x48, 6, 4, 0x4⟩
/-- CHM.STAT.LIVE (05 R116). -/
def CHM.STAT_LIVE : Fld := ⟨0x48, 2, 0, 0x4⟩
/-- CHM.SWCOUNT (05 R116). -/
def CHM.SWCOUNT : Fld := ⟨0x4C, 31, 0, 0x4⟩
/-- CHM.DWELL (05 R116). -/
def CHM.DWELL : Fld := ⟨0x50, 31, 0, 0x4⟩
/-- CHM.DWELL.CYCLES (05 R116). -/
def CHM.DWELL_CYCLES : Fld := ⟨0x50, 23, 0, 0x4⟩
/-- CHM.ALLOW (05 R116). -/
def CHM.ALLOW : Fld := ⟨0x54, 31, 0, 0x4⟩
/-- CHM.ALLOW.CTX_MASK (05 R116). -/
def CHM.ALLOW_CTX_MASK : Fld := ⟨0x54, 7, 0, 0x4⟩
/-- CHM.SHELL (05 R116). -/
def CHM.SHELL : Fld := ⟨0x58, 31, 0, 0x4⟩
/-- CHM.SHELL.DECL (05 R116). -/
def CHM.SHELL_DECL : Fld := ⟨0x58, 26, 26, 0x4⟩
/-- CHM.SHELL.LOCK (05 R116). -/
def CHM.SHELL_LOCK : Fld := ⟨0x58, 25, 25, 0x4⟩
/-- CHM.SHELL.VALID (05 R116). -/
def CHM.SHELL_VALID : Fld := ⟨0x58, 24, 24, 0x4⟩
/-- CHM.SHELL.COL1 (05 R116). -/
def CHM.SHELL_COL1 : Fld := ⟨0x58, 20, 16, 0x4⟩
/-- CHM.SHELL.COL0 (05 R116). -/
def CHM.SHELL_COL0 : Fld := ⟨0x58, 12, 8, 0x4⟩
/-- CHM.SHELL.ROW1 (05 R116). -/
def CHM.SHELL_ROW1 : Fld := ⟨0x58, 7, 4, 0x4⟩
/-- CHM.SHELL.ROW0 (05 R116). -/
def CHM.SHELL_ROW0 : Fld := ⟨0x58, 3, 0, 0x4⟩
/-- CHM.EVPORT (05 R116). -/
def CHM.EVPORT : Fld := ⟨0x5C, 31, 0, 0x4⟩
/-- CHM.EVPORT.COL (05 R116). -/
def CHM.EVPORT_COL : Fld := ⟨0x5C, 12, 8, 0x4⟩
/-- CHM.EVPORT.ROW (05 R116). -/
def CHM.EVPORT_ROW : Fld := ⟨0x5C, 3, 0, 0x4⟩
/-- CHM.EVQ (05 R116). -/
def CHM.EVQ : Fld := ⟨0x60, 31, 0, 0x4⟩
/-- CHM.EVQ.QEN (05 R116). -/
def CHM.EVQ_QEN : Fld := ⟨0x60, 16, 16, 0x4⟩
/-- CHM.EVQ.QUEUE (05 R116). -/
def CHM.EVQ_QUEUE : Fld := ⟨0x60, 15, 0, 0x4⟩
/-- CHM.BUSY (05 R116). -/
def CHM.BUSY : Fld := ⟨0x64, 31, 0, 0x4⟩
/-- CHM.BUSY.QUAR (05 R116). -/
def CHM.BUSY_QUAR : Fld := ⟨0x64, 15, 8, 0x4⟩
/-- CHM.BUSY.COMMITTING (05 R116). -/
def CHM.BUSY_COMMITTING : Fld := ⟨0x64, 7, 0, 0x4⟩
/-- CHM.EXCLUDE (05 R116). -/
def CHM.EXCLUDE : Fld := ⟨0x80, 31, 0, 0x4⟩
/-- CHM.LAMECB (05 R116). -/
def CHM.LAMECB : Fld := ⟨0xC0, 31, 0, 0x4⟩
/-- Registers of the CHM page (05 R116), part 0. -/
def CHM.regs0 : List RegSpec := [
  ⟨0x40, 1, 0x4, [⟨7, 7, .rws, 0, false⟩, ⟨6, 2, .rws, 0, false⟩, ⟨1, 0, .rws, 0, false⟩]⟩,
  ⟨0x44, 1, 0x4, [⟨5, 5, .wo, 0, false⟩, ⟨4, 4, .wo, 0, false⟩, ⟨3, 3, .wo, 0, false⟩, ⟨2, 0, .wo, 0, false⟩]⟩,
  ⟨0x48, 1, 0x4, [⟨22, 22, .ro, 0, false⟩, ⟨21, 21, .ro, 0, false⟩, ⟨20, 13, .ro, 0, false⟩, ⟨11, 11, .ro, 0, false⟩, ⟨10, 10, .ro, 0, false⟩, ⟨9, 8, .ro, 0, false⟩, ⟨6, 4, .ro, 0, false⟩, ⟨2, 0, .ro, 0, false⟩]⟩,
  ⟨0x4C, 1, 0x4, [⟨31, 0, .ro, 0, false⟩]⟩,
  ⟨0x50, 1, 0x4, [⟨23, 0, .ro, 0, false⟩]⟩,
  ⟨0x54, 1, 0x4, [⟨7, 0, .rw, 0xFF, false⟩]⟩,
  ⟨0x58, 1, 0x4, [⟨26, 26, .ro, 0, false⟩, ⟨25, 25, .ro, 0, false⟩, ⟨24, 24, .ro, 0, false⟩, ⟨20, 16, .ro, 0, false⟩, ⟨12, 8, .ro, 0, false⟩, ⟨7, 4, .ro, 0, false⟩, ⟨3, 0, .ro, 0, false⟩]⟩,
  ⟨0x5C, 1, 0x4, [⟨12, 8, .rws, 0, false⟩, ⟨3, 0, .rws, 0, false⟩]⟩,
  ⟨0x60, 1, 0x4, [⟨16, 16, .rws, 0, false⟩, ⟨15, 0, .rws, 0, false⟩]⟩,
  ⟨0x64, 1, 0x4, [⟨15, 8, .ro, 0, false⟩, ⟨7, 0, .ro, 0, false⟩]⟩]
/-- Registers of the CHM page (05 R116), part 1. -/
def CHM.regs1 : List RegSpec := [
  ⟨0x80, 12, 0x4, [⟨31, 0, .rw, 0, true⟩]⟩,
  ⟨0xC0, 12, 0x4, [⟨31, 0, .ro, 0, false⟩]⟩]
/-- The registers of the CHM page. -/
def CHM.regs : List RegSpec := CHM.regs0 ++ CHM.regs1

/-- SLT.STAT (05 R117). -/
def SLT.STAT : Fld := ⟨0x40, 31, 0, 0x4⟩
/-- SLT.STAT.PASS (05 R117). -/
def SLT.STAT_PASS : Fld := ⟨0x40, 31, 16, 0x4⟩
/-- SLT.STAT.ACTIVE (05 R117). -/
def SLT.STAT_ACTIVE : Fld := ⟨0x40, 0, 0, 0x4⟩
/-- SLT.LEN_A (05 R117). -/
def SLT.LEN_A : Fld := ⟨0x44, 31, 0, 0x4⟩
/-- SLT.LEN_A.LEN (05 R117). -/
def SLT.LEN_A_LEN : Fld := ⟨0x44, 8, 0, 0x4⟩
/-- SLT.LEN_B (05 R117). -/
def SLT.LEN_B : Fld := ⟨0x48, 31, 0, 0x4⟩
/-- SLT.LEN_B.LEN (05 R117). -/
def SLT.LEN_B_LEN : Fld := ⟨0x48, 8, 0, 0x4⟩
/-- SLT.A_ENT (05 R117). -/
def SLT.A_ENT : Fld := ⟨0x800, 31, 0, 0x4⟩
/-- SLT.B_ENT (05 R117). -/
def SLT.B_ENT : Fld := ⟨0xC00, 31, 0, 0x4⟩
/-- Registers of the SLT page (05 R117), part 0. -/
def SLT.regs0 : List RegSpec := [
  ⟨0x40, 1, 0x4, [⟨31, 16, .ro, 0, false⟩, ⟨0, 0, .ro, 0, false⟩]⟩,
  ⟨0x44, 1, 0x4, [⟨8, 0, .rw, 0, false⟩]⟩,
  ⟨0x48, 1, 0x4, [⟨8, 0, .rw, 0, false⟩]⟩,
  ⟨0x800, 256, 0x4, [⟨31, 0, .rw, 0, false⟩]⟩,
  ⟨0xC00, 256, 0x4, [⟨31, 0, .rw, 0, false⟩]⟩]
/-- The registers of the SLT page. -/
def SLT.regs : List RegSpec := SLT.regs0

/-- CFG.BCH (06 R140). -/
def CFG.BCH : Fld := ⟨0x40, 31, 0, 0x4⟩
/-- CFG.BCH.T (06 R140). -/
def CFG.BCH_T : Fld := ⟨0x40, 4, 0, 0x4⟩
/-- CFG.STAT (06 R140). -/
def CFG.STAT : Fld := ⟨0x44, 31, 0, 0x4⟩
/-- CFG.STAT.REFRESH (06 R140). -/
def CFG.STAT_REFRESH : Fld := ⟨0x44, 3, 3, 0x4⟩
/-- CFG.STAT.RB_BUSY (06 R140). -/
def CFG.STAT_RB_BUSY : Fld := ⟨0x44, 2, 2, 0x4⟩
/-- CFG.STAT.REENC (06 R140). -/
def CFG.STAT_REENC : Fld := ⟨0x44, 1, 1, 0x4⟩
/-- CFG.STAT.WRITING (06 R140). -/
def CFG.STAT_WRITING : Fld := ⟨0x44, 0, 0, 0x4⟩
/-- CFG.WE (06 R140). -/
def CFG.WE : Fld := ⟨0x48, 31, 0, 0x4⟩
/-- CFG.WE.CTX (06 R140). -/
def CFG.WE_CTX : Fld := ⟨0x48, 7, 0, 0x4⟩
/-- CFG.WE_CMD (06 R140). -/
def CFG.WE_CMD : Fld := ⟨0x4C, 31, 0, 0x4⟩
/-- CFG.WE_CMD.RELEASE (06 R140). -/
def CFG.WE_CMD_RELEASE : Fld := ⟨0x4C, 8, 8, 0x4⟩
/-- CFG.WE_CMD.CTX_MASK (06 R140). -/
def CFG.WE_CMD_CTX_MASK : Fld := ⟨0x4C, 7, 0, 0x4⟩
/-- CFG.START (06 R140). -/
def CFG.START : Fld := ⟨0x50, 31, 0, 0x4⟩
/-- CFG.START.AUTO (06 R140). -/
def CFG.START_AUTO : Fld := ⟨0x50, 8, 8, 0x4⟩
/-- CFG.START.IO_LAG (06 R140). -/
def CFG.START_IO_LAG : Fld := ⟨0x50, 7, 0, 0x4⟩
/-- CFG.RB_ADDR (06 R140). -/
def CFG.RB_ADDR : Fld := ⟨0x54, 31, 0, 0x4⟩
/-- CFG.RB_ADDR.PLANE (06 R140). -/
def CFG.RB_ADDR_PLANE : Fld := ⟨0x54, 24, 23, 0x4⟩
/-- CFG.RB_ADDR.FADDR (06 R140). -/
def CFG.RB_ADDR_FADDR : Fld := ⟨0x54, 22, 0, 0x4⟩
/-- CFG.RB_CMD (06 R140). -/
def CFG.RB_CMD : Fld := ⟨0x58, 31, 0, 0x4⟩
/-- CFG.RB_CMD.RAW_WR (06 R140). -/
def CFG.RB_CMD_RAW_WR : Fld := ⟨0x58, 1, 1, 0x4⟩
/-- CFG.RB_CMD.RB_GO (06 R140). -/
def CFG.RB_CMD_RB_GO : Fld := ⟨0x58, 0, 0, 0x4⟩
/-- CFG.RB_STAT (06 R140). -/
def CFG.RB_STAT : Fld := ⟨0x5C, 31, 0, 0x4⟩
/-- CFG.RB_STAT.NCORR (06 R140). -/
def CFG.RB_STAT_NCORR : Fld := ⟨0x5C, 12, 8, 0x4⟩
/-- CFG.RB_STAT.REFUSED (06 R140). -/
def CFG.RB_STAT_REFUSED : Fld := ⟨0x5C, 4, 4, 0x4⟩
/-- CFG.RB_STAT.UC (06 R140). -/
def CFG.RB_STAT_UC : Fld := ⟨0x5C, 3, 3, 0x4⟩
/-- CFG.RB_STAT.DENIED (06 R140). -/
def CFG.RB_STAT_DENIED : Fld := ⟨0x5C, 1, 1, 0x4⟩
/-- CFG.RB_STAT.DONE (06 R140). -/
def CFG.RB_STAT_DONE : Fld := ⟨0x5C, 0, 0, 0x4⟩
/-- CFG.RB_PERMIT (06 R140). -/
def CFG.RB_PERMIT : Fld := ⟨0x60, 31, 0, 0x4⟩
/-- CFG.RB_PERMIT.CTX (06 R140). -/
def CFG.RB_PERMIT_CTX : Fld := ⟨0x60, 7, 0, 0x4⟩
/-- CFG.RB_DATA (06 R140). -/
def CFG.RB_DATA : Fld := ⟨0x800, 31, 0, 0x4⟩
/-- CFG.RB_CHK (06 R140). -/
def CFG.RB_CHK : Fld := ⟨0xA00, 31, 0, 0x4⟩
/-- Registers of the CFG page (06 R140), part 0. -/
def CFG.regs0 : List RegSpec := [
  ⟨0x40, 1, 0x4, [⟨4, 0, .rws, 0x8, true⟩]⟩,
  ⟨0x44, 1, 0x4, [⟨3, 3, .ro, 0, false⟩, ⟨2, 2, .ro, 0, false⟩, ⟨1, 1, .ro, 0, false⟩, ⟨0, 0, .ro, 0, false⟩]⟩,
  ⟨0x48, 1, 0x4, [⟨7, 0, .ro, 0, false⟩]⟩,
  ⟨0x4C, 1, 0x4, [⟨8, 8, .wo, 0, false⟩, ⟨7, 0, .wo, 0, false⟩]⟩,
  ⟨0x50, 1, 0x4, [⟨8, 8, .rw, 0x1, false⟩, ⟨7, 0, .rw, 0x10, false⟩]⟩,
  ⟨0x54, 1, 0x4, [⟨24, 23, .rw, 0, false⟩, ⟨22, 0, .rw, 0, false⟩]⟩,
  ⟨0x58, 1, 0x4, [⟨1, 1, .wo, 0, false⟩, ⟨0, 0, .wo, 0, false⟩]⟩,
  ⟨0x5C, 1, 0x4, [⟨12, 8, .ro, 0, false⟩, ⟨4, 4, .ro, 0, false⟩, ⟨3, 3, .ro, 0, false⟩, ⟨1, 1, .ro, 0, false⟩, ⟨0, 0, .ro, 0, false⟩]⟩,
  ⟨0x60, 1, 0x4, [⟨7, 0, .ro, 0, true⟩]⟩,
  ⟨0x800, 128, 0x4, [⟨31, 0, .rw, 0, false⟩]⟩]
/-- Registers of the CFG page (06 R140), part 1. -/
def CFG.regs1 : List RegSpec := [
  ⟨0xA00, 7, 0x4, [⟨31, 0, .rw, 0, false⟩]⟩]
/-- The registers of the CFG page. -/
def CFG.regs : List RegSpec := CFG.regs0 ++ CFG.regs1

/-- SCB.PERIOD (06 R141). -/
def SCB.PERIOD : Fld := ⟨0x40, 31, 0, 0x4⟩
/-- SCB.PERIOD.MS (06 R141). -/
def SCB.PERIOD_MS : Fld := ⟨0x40, 15, 0, 0x4⟩
/-- SCB.CTRL (06 R141). -/
def SCB.CTRL : Fld := ⟨0x44, 31, 0, 0x4⟩
/-- SCB.CTRL.WRITEBACK (06 R141). -/
def SCB.CTRL_WRITEBACK : Fld := ⟨0x44, 2, 2, 0x4⟩
/-- SCB.CTRL.FP_FIX (06 R141). -/
def SCB.CTRL_FP_FIX : Fld := ⟨0x44, 1, 1, 0x4⟩
/-- SCB.CTRL.FP_CMP (06 R141). -/
def SCB.CTRL_FP_CMP : Fld := ⟨0x44, 0, 0, 0x4⟩
/-- SCB.POS (06 R141). -/
def SCB.POS : Fld := ⟨0x48, 31, 0, 0x4⟩
/-- SCB.POS.MARSH (06 R141). -/
def SCB.POS_MARSH : Fld := ⟨0x48, 20, 12, 0x4⟩
/-- SCB.POS.STEP (06 R141). -/
def SCB.POS_STEP : Fld := ⟨0x48, 11, 9, 0x4⟩
/-- SCB.POS.FRAME (06 R141). -/
def SCB.POS_FRAME : Fld := ⟨0x48, 8, 0, 0x4⟩
/-- SCB.PASS (06 R141). -/
def SCB.PASS : Fld := ⟨0x4C, 31, 0, 0x4⟩
/-- SCB.LAST (06 R141). -/
def SCB.LAST : Fld := ⟨0x50, 31, 0, 0x4⟩
/-- SCB.LAST.MS (06 R141). -/
def SCB.LAST_MS : Fld := ⟨0x50, 15, 0, 0x4⟩
/-- SCB.CORR_CNT (06 R141). -/
def SCB.CORR_CNT : Fld := ⟨0x54, 31, 0, 0x4⟩
/-- SCB.FP_CNT (06 R141). -/
def SCB.FP_CNT : Fld := ⟨0x58, 31, 0, 0x4⟩
/-- SCB.UC_CNT (06 R141). -/
def SCB.UC_CNT : Fld := ⟨0x5C, 31, 0, 0x4⟩
/-- SCB.SKIP_CNT (06 R141). -/
def SCB.SKIP_CNT : Fld := ⟨0x60, 31, 0, 0x4⟩
/-- Registers of the SCB page (06 R141), part 0. -/
def SCB.regs0 : List RegSpec := [
  ⟨0x40, 1, 0x4, [⟨15, 0, .rw, 0x64, false⟩]⟩,
  ⟨0x44, 1, 0x4, [⟨2, 2, .rw, 0x1, false⟩, ⟨1, 1, .rw, 0x1, false⟩, ⟨0, 0, .rw, 0x1, false⟩]⟩,
  ⟨0x48, 1, 0x4, [⟨20, 12, .ro, 0, false⟩, ⟨11, 9, .ro, 0, false⟩, ⟨8, 0, .ro, 0, false⟩]⟩,
  ⟨0x4C, 1, 0x4, [⟨31, 0, .ro, 0, false⟩]⟩,
  ⟨0x50, 1, 0x4, [⟨15, 0, .ro, 0, false⟩]⟩,
  ⟨0x54, 1, 0x4, [⟨31, 0, .ro, 0, false⟩]⟩,
  ⟨0x58, 1, 0x4, [⟨31, 0, .ro, 0, false⟩]⟩,
  ⟨0x5C, 1, 0x4, [⟨31, 0, .ro, 0, false⟩]⟩,
  ⟨0x60, 1, 0x4, [⟨31, 0, .ro, 0, false⟩]⟩]
/-- The registers of the SCB page. -/
def SCB.regs : List RegSpec := SCB.regs0

/-- LDR.STG_BASE (08 R180). -/
def LDR.STG_BASE : Fld := ⟨0x40, 31, 0, 0x4⟩
/-- LDR.STG_BASE.BASE (08 R180). -/
def LDR.STG_BASE_BASE : Fld := ⟨0x40, 21, 0, 0x4⟩
/-- LDR.STG_SIZE (08 R180). -/
def LDR.STG_SIZE : Fld := ⟨0x44, 31, 0, 0x4⟩
/-- LDR.STG_SIZE.SIZE (08 R180). -/
def LDR.STG_SIZE_SIZE : Fld := ⟨0x44, 6, 0, 0x4⟩
/-- LDR.LOAD_WINDOW_MS (08 R180). -/
def LDR.LOAD_WINDOW_MS : Fld := ⟨0x48, 31, 0, 0x4⟩
/-- LDR.LOAD_WINDOW_MS.MS (08 R180). -/
def LDR.LOAD_WINDOW_MS_MS : Fld := ⟨0x48, 15, 0, 0x4⟩
/-- LDR.DLV_TIMEOUT_MS (08 R180). -/
def LDR.DLV_TIMEOUT_MS : Fld := ⟨0x4C, 31, 0, 0x4⟩
/-- LDR.DLV_TIMEOUT_MS.MS (08 R180). -/
def LDR.DLV_TIMEOUT_MS_MS : Fld := ⟨0x4C, 15, 0, 0x4⟩
/-- LDR.DLV_ADDR_LO (08 R180). -/
def LDR.DLV_ADDR_LO : Fld := ⟨0x50, 31, 0, 0x4⟩
/-- LDR.DLV_ADDR_LO.ADDR (08 R180). -/
def LDR.DLV_ADDR_LO_ADDR : Fld := ⟨0x50, 31, 3, 0x4⟩
/-- LDR.DLV_ADDR_HI (08 R180). -/
def LDR.DLV_ADDR_HI : Fld := ⟨0x54, 31, 0, 0x4⟩
/-- LDR.DLV_LEN (08 R180). -/
def LDR.DLV_LEN : Fld := ⟨0x58, 31, 0, 0x4⟩
/-- LDR.DLV_LEN.LEN (08 R180). -/
def LDR.DLV_LEN_LEN : Fld := ⟨0x58, 31, 3, 0x4⟩
/-- LDR.DLV_CMD (08 R180). -/
def LDR.DLV_CMD : Fld := ⟨0x5C, 31, 0, 0x4⟩
/-- LDR.DLV_CMD.LAST (08 R180). -/
def LDR.DLV_CMD_LAST : Fld := ⟨0x5C, 1, 1, 0x4⟩
/-- LDR.DLV_CMD.GO (08 R180). -/
def LDR.DLV_CMD_GO : Fld := ⟨0x5C, 0, 0, 0x4⟩
/-- LDR.PLACE (08 R180). -/
def LDR.PLACE : Fld := ⟨0x60, 31, 0, 0x4⟩
/-- LDR.PLACE.EN (08 R180). -/
def LDR.PLACE_EN : Fld := ⟨0x60, 16, 16, 0x4⟩
/-- LDR.PLACE.SHIFT (08 R180). -/
def LDR.PLACE_SHIFT : Fld := ⟨0x60, 13, 8, 0x4⟩
/-- LDR.PLACE.TOWER (08 R180). -/
def LDR.PLACE_TOWER : Fld := ⟨0x60, 1, 0, 0x4⟩
/-- LDR.CMD (08 R180). -/
def LDR.CMD : Fld := ⟨0x64, 31, 0, 0x4⟩
/-- LDR.CMD.GOLDEN (08 R180). -/
def LDR.CMD_GOLDEN : Fld := ⟨0x64, 1, 1, 0x4⟩
/-- LDR.CMD.ABORT (08 R180). -/
def LDR.CMD_ABORT : Fld := ⟨0x64, 0, 0, 0x4⟩
/-- LDR.STATE (08 R180). -/
def LDR.STATE : Fld := ⟨0x68, 31, 0, 0x4⟩
/-- LDR.STATE.DLV_BUSY (08 R180). -/
def LDR.STATE_DLV_BUSY : Fld := ⟨0x68, 16, 16, 0x4⟩
/-- LDR.STATE.WSTATE (08 R180). -/
def LDR.STATE_WSTATE : Fld := ⟨0x68, 9, 8, 0x4⟩
/-- LDR.STATE.SRC (08 R180). -/
def LDR.STATE_SRC : Fld := ⟨0x68, 6, 5, 0x4⟩
/-- LDR.STATE.BARE (08 R180). -/
def LDR.STATE_BARE : Fld := ⟨0x68, 4, 4, 0x4⟩
/-- LDR.STATE.PHASE (08 R180). -/
def LDR.STATE_PHASE : Fld := ⟨0x68, 3, 0, 0x4⟩
/-- LDR.STATUS (08 R180). -/
def LDR.STATUS : Fld := ⟨0x6C, 31, 0, 0x4⟩
/-- LDR.STATUS.CTX_SET (08 R180). -/
def LDR.STATUS_CTX_SET : Fld := ⟨0x6C, 23, 16, 0x4⟩
/-- LDR.STATUS.SOURCE (08 R180). -/
def LDR.STATUS_SOURCE : Fld := ⟨0x6C, 9, 8, 0x4⟩
/-- LDR.STATUS.CODE (08 R180). -/
def LDR.STATUS_CODE : Fld := ⟨0x6C, 7, 0, 0x4⟩
/-- LDR.FAIL_INFO (08 R180). -/
def LDR.FAIL_INFO : Fld := ⟨0x70, 31, 0, 0x4⟩
/-- LDR.RCVD_LO (08 R180). -/
def LDR.RCVD_LO : Fld := ⟨0x74, 31, 0, 0x4⟩
/-- LDR.RCVD_HI (08 R180). -/
def LDR.RCVD_HI : Fld := ⟨0x78, 31, 0, 0x4⟩
/-- LDR.WIN_REMAIN (08 R180). -/
def LDR.WIN_REMAIN : Fld := ⟨0x7C, 31, 0, 0x4⟩
/-- LDR.WIN_REMAIN.MS (08 R180). -/
def LDR.WIN_REMAIN_MS : Fld := ⟨0x7C, 15, 0, 0x4⟩
/-- LDR.GOLDEN_STAT (08 R180). -/
def LDR.GOLDEN_STAT : Fld := ⟨0x80, 31, 0, 0x4⟩
/-- LDR.GOLDEN_STAT.ALT_CODE (08 R180). -/
def LDR.GOLDEN_STAT_ALT_CODE : Fld := ⟨0x80, 15, 8, 0x4⟩
/-- LDR.GOLDEN_STAT.PRI_CODE (08 R180). -/
def LDR.GOLDEN_STAT_PRI_CODE : Fld := ⟨0x80, 7, 0, 0x4⟩
/-- LDR.CONTENT (08 R180). -/
def LDR.CONTENT : Fld := ⟨0x84, 31, 0, 0x4⟩
/-- LDR.CONTENT.CTX (08 R180). -/
def LDR.CONTENT_CTX : Fld := ⟨0x84, 7, 0, 0x4⟩
/-- LDR.COMMIT_US (08 R180). -/
def LDR.COMMIT_US : Fld := ⟨0x88, 31, 0, 0x4⟩
/-- LDR.SVN (08 R180). -/
def LDR.SVN : Fld := ⟨0x8C, 31, 0, 0x4⟩
/-- LDR.CTX_BUILD_LO (08 R180). -/
def LDR.CTX_BUILD_LO : Fld := ⟨0xC0, 31, 0, 0x8⟩
/-- LDR.CTX_BUILD_HI (08 R180). -/
def LDR.CTX_BUILD_HI : Fld := ⟨0xC4, 31, 0, 0x8⟩
/-- Registers of the LDR page (08 R180), part 0. -/
def LDR.regs0 : List RegSpec := [
  ⟨0x40, 1, 0x4, [⟨21, 0, .rws, 0x7F0, true⟩]⟩,
  ⟨0x44, 1, 0x4, [⟨6, 0, .rws, 0x10, true⟩]⟩,
  ⟨0x48, 1, 0x4, [⟨15, 0, .rw, 0x7D0, true⟩]⟩,
  ⟨0x4C, 1, 0x4, [⟨15, 0, .rw, 0x3E8, true⟩]⟩,
  ⟨0x50, 1, 0x4, [⟨31, 3, .rw, 0, false⟩]⟩,
  ⟨0x54, 1, 0x4, [⟨31, 0, .rw, 0, false⟩]⟩,
  ⟨0x58, 1, 0x4, [⟨31, 3, .rw, 0, false⟩]⟩,
  ⟨0x5C, 1, 0x4, [⟨1, 1, .wo, 0, false⟩, ⟨0, 0, .wo, 0, false⟩]⟩,
  ⟨0x60, 1, 0x4, [⟨16, 16, .rw, 0, false⟩, ⟨13, 8, .rw, 0, false⟩, ⟨1, 0, .rw, 0, false⟩]⟩,
  ⟨0x64, 1, 0x4, [⟨1, 1, .wo, 0, false⟩, ⟨0, 0, .wo, 0, false⟩]⟩]
/-- Registers of the LDR page (08 R180), part 1. -/
def LDR.regs1 : List RegSpec := [
  ⟨0x68, 1, 0x4, [⟨16, 16, .ro, 0, false⟩, ⟨9, 8, .ro, 0, false⟩, ⟨6, 5, .ro, 0, false⟩, ⟨4, 4, .ro, 0, false⟩, ⟨3, 0, .ro, 0, false⟩]⟩,
  ⟨0x6C, 1, 0x4, [⟨23, 16, .ro, 0, true⟩, ⟨9, 8, .ro, 0, true⟩, ⟨7, 0, .ro, 0, true⟩]⟩,
  ⟨0x70, 1, 0x4, [⟨31, 0, .ro, 0, true⟩]⟩,
  ⟨0x74, 1, 0x4, [⟨31, 0, .ro, 0, false⟩]⟩,
  ⟨0x78, 1, 0x4, [⟨31, 0, .ro, 0, false⟩]⟩,
  ⟨0x7C, 1, 0x4, [⟨15, 0, .ro, 0, false⟩]⟩,
  ⟨0x80, 1, 0x4, [⟨15, 8, .ro, 0, true⟩, ⟨7, 0, .ro, 0, true⟩]⟩,
  ⟨0x84, 1, 0x4, [⟨7, 0, .ro, 0, true⟩]⟩,
  ⟨0x88, 1, 0x4, [⟨31, 0, .ro, 0, false⟩]⟩,
  ⟨0x8C, 1, 0x4, [⟨31, 0, .ro, 0, true⟩]⟩]
/-- Registers of the LDR page (08 R180), part 2. -/
def LDR.regs2 : List RegSpec := [
  ⟨0xC0, 8, 0x8, [⟨31, 0, .ro, 0, true⟩]⟩,
  ⟨0xC4, 8, 0x8, [⟨31, 0, .ro, 0, false⟩]⟩]
/-- The registers of the LDR page. -/
def LDR.regs : List RegSpec := LDR.regs0 ++ LDR.regs1 ++ LDR.regs2

end Sys2Proof.Machine
end

