-- ==== Sys2Proof/Machine/RegTableB.lean ====
section
/-! DEFINITION. The register tables of spec chapters 09, 10, 11, 13, 14: every register, its fields, access types and reset values. A value "per part", "per page" or "fuse" stands as 0 here and is computed where it is read. -/
namespace Sys2Proof.Machine

/-- PND.PATROL (09 R202). -/
def PND.PATROL : Fld := ⟨0x40, 31, 0, 0x4⟩
/-- PND.PATROL.MS (09 R202). -/
def PND.PATROL_MS : Fld := ⟨0x40, 15, 0, 0x4⟩
/-- PND.GSLEEP (09 R202). -/
def PND.GSLEEP : Fld := ⟨0x44, 31, 0, 0x4⟩
/-- PND.GSLEEP.ASLEEP (09 R202). -/
def PND.GSLEEP_ASLEEP : Fld := ⟨0x44, 19, 16, 0x4⟩
/-- PND.GSLEEP.IDLE_US (09 R202). -/
def PND.GSLEEP_IDLE_US : Fld := ⟨0x44, 15, 8, 0x4⟩
/-- PND.GSLEEP.PERMIT (09 R202). -/
def PND.GSLEEP_PERMIT : Fld := ⟨0x44, 3, 0, 0x4⟩
/-- PND.STARVE (09 R202). -/
def PND.STARVE : Fld := ⟨0x48, 31, 0, 0x4⟩
/-- PND.STARVE.CYC (09 R202). -/
def PND.STARVE_CYC : Fld := ⟨0x48, 15, 0, 0x4⟩
/-- PND.B_WINDOW (09 R202). -/
def PND.B_WINDOW : Fld := ⟨0x4C, 31, 0, 0x4⟩
/-- PND.B_WINDOW.WINDOW (09 R202). -/
def PND.B_WINDOW_WINDOW : Fld := ⟨0x4C, 15, 0, 0x4⟩
/-- PND.B_WEIGHT0 (09 R202). -/
def PND.B_WEIGHT0 : Fld := ⟨0x50, 31, 0, 0x4⟩
/-- PND.B_WEIGHT1 (09 R202). -/
def PND.B_WEIGHT1 : Fld := ⟨0x54, 31, 0, 0x4⟩
/-- PND.B_WEIGHT2 (09 R202). -/
def PND.B_WEIGHT2 : Fld := ⟨0x58, 31, 0, 0x4⟩
/-- PND.B_WEIGHT2.W8 (09 R202). -/
def PND.B_WEIGHT2_W8 : Fld := ⟨0x58, 7, 0, 0x4⟩
/-- PND.CMD (09 R202). -/
def PND.CMD : Fld := ⟨0x60, 31, 0, 0x4⟩
/-- PND.CMD.OP (09 R202). -/
def PND.CMD_OP : Fld := ⟨0x60, 9, 8, 0x4⟩
/-- PND.CMD.PAD (09 R202). -/
def PND.CMD_PAD : Fld := ⟨0x60, 4, 0, 0x4⟩
/-- PND.CMD_STAT (09 R202). -/
def PND.CMD_STAT : Fld := ⟨0x64, 31, 0, 0x4⟩
/-- PND.CMD_STAT.PAD (09 R202). -/
def PND.CMD_STAT_PAD : Fld := ⟨0x64, 8, 4, 0x4⟩
/-- PND.CMD_STAT.BIST_FAIL (09 R202). -/
def PND.CMD_STAT_BIST_FAIL : Fld := ⟨0x64, 3, 3, 0x4⟩
/-- PND.CMD_STAT.REFUSED (09 R202). -/
def PND.CMD_STAT_REFUSED : Fld := ⟨0x64, 2, 2, 0x4⟩
/-- PND.CMD_STAT.DONE (09 R202). -/
def PND.CMD_STAT_DONE : Fld := ⟨0x64, 1, 1, 0x4⟩
/-- PND.CMD_STAT.BUSY (09 R202). -/
def PND.CMD_STAT_BUSY : Fld := ⟨0x64, 0, 0, 0x4⟩
/-- PND.SR_CMD (09 R202). -/
def PND.SR_CMD : Fld := ⟨0x68, 31, 0, 0x4⟩
/-- PND.SR_CMD.GO (09 R202). -/
def PND.SR_CMD_GO : Fld := ⟨0x68, 16, 16, 0x4⟩
/-- PND.SR_CMD.COL (09 R202). -/
def PND.SR_CMD_COL : Fld := ⟨0x68, 15, 7, 0x4⟩
/-- PND.SR_CMD.SUB (09 R202). -/
def PND.SR_CMD_SUB : Fld := ⟨0x68, 6, 5, 0x4⟩
/-- PND.SR_CMD.PAD (09 R202). -/
def PND.SR_CMD_PAD : Fld := ⟨0x68, 4, 0, 0x4⟩
/-- PND.SR_STAT (09 R202). -/
def PND.SR_STAT : Fld := ⟨0x6C, 31, 0, 0x4⟩
/-- PND.SR_STAT.REFUSED (09 R202). -/
def PND.SR_STAT_REFUSED : Fld := ⟨0x6C, 2, 2, 0x4⟩
/-- PND.SR_STAT.DONE (09 R202). -/
def PND.SR_STAT_DONE : Fld := ⟨0x6C, 1, 1, 0x4⟩
/-- PND.SR_STAT.BUSY (09 R202). -/
def PND.SR_STAT_BUSY : Fld := ⟨0x6C, 0, 0, 0x4⟩
/-- PND.WCOLL_CNT (09 R202). -/
def PND.WCOLL_CNT : Fld := ⟨0x70, 31, 0, 0x4⟩
/-- PND.LAMEPP (09 R202). -/
def PND.LAMEPP : Fld := ⟨0x74, 31, 0, 0x4⟩
/-- PND.LAMEPP.PORT (09 R202). -/
def PND.LAMEPP_PORT : Fld := ⟨0x74, 23, 0, 0x4⟩
/-- PND.PATROL_POS (09 R202). -/
def PND.PATROL_POS : Fld := ⟨0x78, 31, 0, 0x4⟩
/-- PND.PATROL_POS.PAD (09 R202). -/
def PND.PATROL_POS_PAD : Fld := ⟨0x78, 17, 13, 0x4⟩
/-- PND.PATROL_POS.ROW (09 R202). -/
def PND.PATROL_POS_ROW : Fld := ⟨0x78, 12, 0, 0x4⟩
/-- PND.BIST_COL (09 R202). -/
def PND.BIST_COL : Fld := ⟨0x80, 31, 0, 0x4⟩
/-- PND.BIST_COL.VALID (09 R202). -/
def PND.BIST_COL_VALID : Fld := ⟨0x80, 31, 31, 0x4⟩
/-- PND.BIST_COL.NFAIL (09 R202). -/
def PND.BIST_COL_NFAIL : Fld := ⟨0x80, 23, 16, 0x4⟩
/-- PND.BIST_COL.FIRST (09 R202). -/
def PND.BIST_COL_FIRST : Fld := ⟨0x80, 8, 0, 0x4⟩
/-- PND.RAW_ADDR (09 R202). -/
def PND.RAW_ADDR : Fld := ⟨0xA0, 31, 0, 0x4⟩
/-- PND.RAW_ADDR.PAD (09 R202). -/
def PND.RAW_ADDR_PAD : Fld := ⟨0xA0, 20, 16, 0x4⟩
/-- PND.RAW_ADDR.ROW (09 R202). -/
def PND.RAW_ADDR_ROW : Fld := ⟨0xA0, 12, 0, 0x4⟩
/-- PND.RAW_CMD (09 R202). -/
def PND.RAW_CMD : Fld := ⟨0xA4, 31, 0, 0x4⟩
/-- PND.RAW_CMD.WR (09 R202). -/
def PND.RAW_CMD_WR : Fld := ⟨0xA4, 1, 1, 0x4⟩
/-- PND.RAW_CMD.RD (09 R202). -/
def PND.RAW_CMD_RD : Fld := ⟨0xA4, 0, 0, 0x4⟩
/-- PND.RAW_STAT (09 R202). -/
def PND.RAW_STAT : Fld := ⟨0xA8, 31, 0, 0x4⟩
/-- PND.RAW_STAT.REFUSED (09 R202). -/
def PND.RAW_STAT_REFUSED : Fld := ⟨0xA8, 1, 1, 0x4⟩
/-- PND.RAW_STAT.DONE (09 R202). -/
def PND.RAW_STAT_DONE : Fld := ⟨0xA8, 0, 0, 0x4⟩
/-- PND.RAW_DATA (09 R202). -/
def PND.RAW_DATA : Fld := ⟨0xC0, 31, 0, 0x4⟩
/-- PND.RAW_CHK (09 R202). -/
def PND.RAW_CHK : Fld := ⟨0xE0, 31, 0, 0x4⟩
/-- PND.SPARE (09 R202). -/
def PND.SPARE : Fld := ⟨0x200, 31, 0, 0x4⟩
/-- PND.SPARE.SP1 (09 R202). -/
def PND.SPARE_SP1 : Fld := ⟨0x200, 31, 16, 0x4⟩
/-- PND.SPARE.SP0_STATE (09 R202). -/
def PND.SPARE_SP0_STATE : Fld := ⟨0x200, 15, 14, 0x4⟩
/-- PND.SPARE.SP0_COL (09 R202). -/
def PND.SPARE_SP0_COL : Fld := ⟨0x200, 8, 0, 0x4⟩
/-- PND.OWN (09 R202). -/
def PND.OWN : Fld := ⟨0x400, 31, 0, 0x4⟩
/-- PND.OWN.OWNER (09 R202). -/
def PND.OWN_OWNER : Fld := ⟨0x400, 4, 0, 0x4⟩
/-- PND.BMASK (09 R202). -/
def PND.BMASK : Fld := ⟨0x800, 31, 0, 0x4⟩
/-- PND.BMASK.CTX (09 R202). -/
def PND.BMASK_CTX : Fld := ⟨0x800, 7, 0, 0x4⟩
/-- Registers of the PND page (09 R202), part 0. -/
def PND.regs0 : List RegSpec := [
  ⟨0x40, 1, 0x4, [⟨15, 0, .rw, 0x64, false⟩]⟩,
  ⟨0x44, 1, 0x4, [⟨19, 16, .ro, 0, false⟩, ⟨15, 8, .rw, 0xA, false⟩, ⟨3, 0, .rw, 0xF, false⟩]⟩,
  ⟨0x48, 1, 0x4, [⟨15, 0, .rw, 0x400, false⟩]⟩,
  ⟨0x4C, 1, 0x4, [⟨15, 0, .rws, 0x100, false⟩]⟩,
  ⟨0x50, 1, 0x4, [⟨31, 0, .rws, 0x10101010, false⟩]⟩,
  ⟨0x54, 1, 0x4, [⟨31, 0, .rws, 0x10101010, false⟩]⟩,
  ⟨0x58, 1, 0x4, [⟨7, 0, .rws, 0x20, false⟩]⟩,
  ⟨0x60, 1, 0x4, [⟨9, 8, .wo, 0, false⟩, ⟨4, 0, .wo, 0, false⟩]⟩,
  ⟨0x64, 1, 0x4, [⟨8, 4, .ro, 0, false⟩, ⟨3, 3, .ro, 0, false⟩, ⟨2, 2, .ro, 0, false⟩, ⟨1, 1, .ro, 0, false⟩, ⟨0, 0, .ro, 0, false⟩]⟩,
  ⟨0x68, 1, 0x4, [⟨16, 16, .wo, 0, false⟩, ⟨15, 7, .wo, 0, false⟩, ⟨6, 5, .wo, 0, false⟩, ⟨4, 0, .wo, 0, false⟩]⟩]
/-- Registers of the PND page (09 R202), part 1. -/
def PND.regs1 : List RegSpec := [
  ⟨0x6C, 1, 0x4, [⟨2, 2, .ro, 0, false⟩, ⟨1, 1, .ro, 0, false⟩, ⟨0, 0, .ro, 0, false⟩]⟩,
  ⟨0x70, 1, 0x4, [⟨31, 0, .ro, 0, false⟩]⟩,
  ⟨0x74, 1, 0x4, [⟨23, 0, .ro, 0, true⟩]⟩,
  ⟨0x78, 1, 0x4, [⟨17, 13, .ro, 0, false⟩, ⟨12, 0, .ro, 0, false⟩]⟩,
  ⟨0x80, 4, 0x4, [⟨31, 31, .ro, 0, false⟩, ⟨23, 16, .ro, 0, false⟩, ⟨8, 0, .ro, 0, false⟩]⟩,
  ⟨0xA0, 1, 0x4, [⟨20, 16, .rw, 0, false⟩, ⟨12, 0, .rw, 0, false⟩]⟩,
  ⟨0xA4, 1, 0x4, [⟨1, 1, .wo, 0, false⟩, ⟨0, 0, .wo, 0, false⟩]⟩,
  ⟨0xA8, 1, 0x4, [⟨1, 1, .ro, 0, false⟩, ⟨0, 0, .ro, 0, false⟩]⟩,
  ⟨0xC0, 8, 0x4, [⟨31, 0, .rw, 0, false⟩]⟩,
  ⟨0xE0, 5, 0x4, [⟨31, 0, .rw, 0, false⟩]⟩]
/-- Registers of the PND page (09 R202), part 2. -/
def PND.regs2 : List RegSpec := [
  ⟨0x200, 128, 0x4, [⟨31, 16, .ro, 0, true⟩, ⟨15, 14, .ro, 0, false⟩, ⟨8, 0, .ro, 0, false⟩]⟩,
  ⟨0x400, 256, 0x4, [⟨4, 0, .rws, 0, false⟩]⟩,
  ⟨0x800, 32, 0x4, [⟨7, 0, .rws, 0, false⟩]⟩]
/-- The registers of the PND page. -/
def PND.regs : List RegSpec := PND.regs0 ++ PND.regs1 ++ PND.regs2

/-- QUE.Q_SEL (10 R222). -/
def QUE.Q_SEL : Fld := ⟨0x40, 31, 0, 0x4⟩
/-- QUE.Q_SEL.QUEUE (10 R222). -/
def QUE.Q_SEL_QUEUE : Fld := ⟨0x40, 13, 0, 0x4⟩
/-- QUE.Q_BASE_LO (10 R222). -/
def QUE.Q_BASE_LO : Fld := ⟨0x44, 31, 0, 0x4⟩
/-- QUE.Q_BASE_LO.BASE (10 R222). -/
def QUE.Q_BASE_LO_BASE : Fld := ⟨0x44, 31, 6, 0x4⟩
/-- QUE.Q_BASE_HI (10 R222). -/
def QUE.Q_BASE_HI : Fld := ⟨0x48, 31, 0, 0x4⟩
/-- QUE.Q_BASE_HI.CTX (10 R222). -/
def QUE.Q_BASE_HI_CTX : Fld := ⟨0x48, 18, 16, 0x4⟩
/-- QUE.Q_BASE_HI.BASE (10 R222). -/
def QUE.Q_BASE_HI_BASE : Fld := ⟨0x48, 15, 0, 0x4⟩
/-- QUE.Q_LEN (10 R222). -/
def QUE.Q_LEN : Fld := ⟨0x4C, 31, 0, 0x4⟩
/-- QUE.Q_LEN.LEN (10 R222). -/
def QUE.Q_LEN_LEN : Fld := ⟨0x4C, 27, 0, 0x4⟩
/-- QUE.Q_LEVEL (10 R222). -/
def QUE.Q_LEVEL : Fld := ⟨0x50, 31, 0, 0x4⟩
/-- QUE.Q_LEVEL.LEVEL (10 R222). -/
def QUE.Q_LEVEL_LEVEL : Fld := ⟨0x50, 27, 0, 0x4⟩
/-- QUE.Q_CMD (10 R222). -/
def QUE.Q_CMD : Fld := ⟨0x54, 31, 0, 0x4⟩
/-- QUE.Q_CMD.FLUSH (10 R222). -/
def QUE.Q_CMD_FLUSH : Fld := ⟨0x54, 2, 2, 0x4⟩
/-- QUE.Q_CMD.CANCEL (10 R222). -/
def QUE.Q_CMD_CANCEL : Fld := ⟨0x54, 1, 1, 0x4⟩
/-- QUE.Q_CMD.GO (10 R222). -/
def QUE.Q_CMD_GO : Fld := ⟨0x54, 0, 0, 0x4⟩
/-- QUE.Q_STAT (10 R222). -/
def QUE.Q_STAT : Fld := ⟨0x58, 31, 0, 0x4⟩
/-- QUE.Q_STAT.COMMIT_RES (10 R222). -/
def QUE.Q_STAT_COMMIT_RES : Fld := ⟨0x58, 3, 2, 0x4⟩
/-- QUE.Q_STAT.COMMIT_PEND (10 R222). -/
def QUE.Q_STAT_COMMIT_PEND : Fld := ⟨0x58, 0, 0, 0x4⟩
/-- QUE.Q_LAST_LO (10 R222). -/
def QUE.Q_LAST_LO : Fld := ⟨0x5C, 31, 0, 0x4⟩
/-- QUE.Q_LAST_HI (10 R222). -/
def QUE.Q_LAST_HI : Fld := ⟨0x60, 31, 0, 0x4⟩
/-- QUE.Q_LAST_ST (10 R222). -/
def QUE.Q_LAST_ST : Fld := ⟨0x64, 31, 0, 0x4⟩
/-- QUE.Q_LAST_ST.POISON (10 R222). -/
def QUE.Q_LAST_ST_POISON : Fld := ⟨0x64, 0, 0, 0x4⟩
/-- QUE.PUSH_CNT (10 R222). -/
def QUE.PUSH_CNT : Fld := ⟨0x70, 31, 0, 0x4⟩
/-- QUE.POP_CNT (10 R222). -/
def QUE.POP_CNT : Fld := ⟨0x74, 31, 0, 0x4⟩
/-- QUE.QFULL_CNT (10 R222). -/
def QUE.QFULL_CNT : Fld := ⟨0x78, 31, 0, 0x4⟩
/-- QUE.UNDER_CNT (10 R222). -/
def QUE.UNDER_CNT : Fld := ⟨0x7C, 31, 0, 0x4⟩
/-- QUE.PEND_CNT (10 R222). -/
def QUE.PEND_CNT : Fld := ⟨0x80, 31, 0, 0x4⟩
/-- QUE.PEND_CNT.COUNT (10 R222). -/
def QUE.PEND_CNT_COUNT : Fld := ⟨0x80, 14, 0, 0x4⟩
/-- QUE.RAW_CMD (10 R222). -/
def QUE.RAW_CMD : Fld := ⟨0x90, 31, 0, 0x4⟩
/-- QUE.RAW_CMD.PFLIP (10 R222). -/
def QUE.RAW_CMD_PFLIP : Fld := ⟨0x90, 0, 0, 0x4⟩
/-- QUE.LVL_SUM (10 R222). -/
def QUE.LVL_SUM : Fld := ⟨0x100, 31, 0, 0x4⟩
/-- QUE.LVL_PEND (10 R222). -/
def QUE.LVL_PEND : Fld := ⟨0x800, 31, 0, 0x4⟩
/-- Registers of the QUE page (10 R222), part 0. -/
def QUE.regs0 : List RegSpec := [
  ⟨0x40, 1, 0x4, [⟨13, 0, .rw, 0, false⟩]⟩,
  ⟨0x44, 1, 0x4, [⟨31, 6, .rws, 0, false⟩]⟩,
  ⟨0x48, 1, 0x4, [⟨18, 16, .rws, 0, false⟩, ⟨15, 0, .rws, 0, false⟩]⟩,
  ⟨0x4C, 1, 0x4, [⟨27, 0, .rws, 0, false⟩]⟩,
  ⟨0x50, 1, 0x4, [⟨27, 0, .rw, 0, false⟩]⟩,
  ⟨0x54, 1, 0x4, [⟨2, 2, .wo, 0, false⟩, ⟨1, 1, .wo, 0, false⟩, ⟨0, 0, .wo, 0, false⟩]⟩,
  ⟨0x58, 1, 0x4, [⟨3, 2, .ro, 0, false⟩, ⟨0, 0, .ro, 0, false⟩]⟩,
  ⟨0x5C, 1, 0x4, [⟨31, 0, .ro, 0, false⟩]⟩,
  ⟨0x60, 1, 0x4, [⟨31, 0, .ro, 0, false⟩]⟩,
  ⟨0x64, 1, 0x4, [⟨0, 0, .ro, 0, false⟩]⟩]
/-- Registers of the QUE page (10 R222), part 1. -/
def QUE.regs1 : List RegSpec := [
  ⟨0x70, 1, 0x4, [⟨31, 0, .rc, 0, false⟩]⟩,
  ⟨0x74, 1, 0x4, [⟨31, 0, .rc, 0, false⟩]⟩,
  ⟨0x78, 1, 0x4, [⟨31, 0, .rc, 0, false⟩]⟩,
  ⟨0x7C, 1, 0x4, [⟨31, 0, .rc, 0, false⟩]⟩,
  ⟨0x80, 1, 0x4, [⟨14, 0, .ro, 0, false⟩]⟩,
  ⟨0x90, 1, 0x4, [⟨0, 0, .wo, 0, false⟩]⟩,
  ⟨0x100, 16, 0x4, [⟨31, 0, .ro, 0, false⟩]⟩,
  ⟨0x800, 512, 0x4, [⟨31, 0, .w1c, 0, false⟩]⟩]
/-- The registers of the QUE page. -/
def QUE.regs : List RegSpec := QUE.regs0 ++ QUE.regs1

/-- GKC.CTRL (11 R242). -/
def GKC.CTRL : Fld := ⟨0x40, 31, 0, 0x4⟩
/-- GKC.CTRL.STEP (11 R242). -/
def GKC.CTRL_STEP : Fld := ⟨0x40, 3, 3, 0x4⟩
/-- GKC.CTRL.RESUME (11 R242). -/
def GKC.CTRL_RESUME : Fld := ⟨0x40, 2, 2, 0x4⟩
/-- GKC.CTRL.STOP (11 R242). -/
def GKC.CTRL_STOP : Fld := ⟨0x40, 1, 1, 0x4⟩
/-- GKC.CTRL.START (11 R242). -/
def GKC.CTRL_START : Fld := ⟨0x40, 0, 0, 0x4⟩
/-- GKC.STAT (11 R242). -/
def GKC.STAT : Fld := ⟨0x44, 31, 0, 0x4⟩
/-- GKC.STAT.DMAB (11 R242). -/
def GKC.STAT_DMAB : Fld := ⟨0x44, 11, 8, 0x4⟩
/-- GKC.STAT.RUN (11 R242). -/
def GKC.STAT_RUN : Fld := ⟨0x44, 3, 0, 0x4⟩
/-- GKC.PC (11 R242). -/
def GKC.PC : Fld := ⟨0x48, 31, 0, 0x4⟩
/-- GKC.PC.PC (11 R242). -/
def GKC.PC_PC : Fld := ⟨0x48, 11, 0, 0x4⟩
/-- GKC.EPC (11 R242). -/
def GKC.EPC : Fld := ⟨0x4C, 31, 0, 0x4⟩
/-- GKC.EPC.EPC (11 R242). -/
def GKC.EPC_EPC : Fld := ⟨0x4C, 11, 0, 0x4⟩
/-- GKC.ECAUSE (11 R242). -/
def GKC.ECAUSE : Fld := ⟨0x50, 31, 0, 0x4⟩
/-- GKC.ECAUSE.SLOT (11 R242). -/
def GKC.ECAUSE_SLOT : Fld := ⟨0x50, 9, 8, 0x4⟩
/-- GKC.ECAUSE.CAUSE (11 R242). -/
def GKC.ECAUSE_CAUSE : Fld := ⟨0x50, 7, 0, 0x4⟩
/-- GKC.EADDR (11 R242). -/
def GKC.EADDR : Fld := ⟨0x54, 31, 0, 0x4⟩
/-- GKC.BIND (11 R242). -/
def GKC.BIND : Fld := ⟨0x58, 31, 0, 0x4⟩
/-- GKC.BIND.GATE (11 R242). -/
def GKC.BIND_GATE : Fld := ⟨0x58, 8, 8, 0x4⟩
/-- GKC.BIND.CTX (11 R242). -/
def GKC.BIND_CTX : Fld := ⟨0x58, 2, 0, 0x4⟩
/-- GKC.GWIN (11 R242). -/
def GKC.GWIN : Fld := ⟨0x5C, 31, 0, 0x4⟩
/-- GKC.GWIN.BASE (11 R242). -/
def GKC.GWIN_BASE : Fld := ⟨0x5C, 6, 0, 0x4⟩
/-- GKC.GST (11 R242). -/
def GKC.GST : Fld := ⟨0x60, 31, 0, 0x4⟩
/-- GKC.LCTRL (11 R242). -/
def GKC.LCTRL : Fld := ⟨0x64, 31, 0, 0x4⟩
/-- GKC.LCTRL.BUSY (11 R242). -/
def GKC.LCTRL_BUSY : Fld := ⟨0x64, 8, 8, 0x4⟩
/-- GKC.LCTRL.WBINV (11 R242). -/
def GKC.LCTRL_WBINV : Fld := ⟨0x64, 0, 0, 0x4⟩
/-- GKC.LC_HIT (11 R242). -/
def GKC.LC_HIT : Fld := ⟨0x68, 31, 0, 0x4⟩
/-- GKC.LC_MISS (11 R242). -/
def GKC.LC_MISS : Fld := ⟨0x6C, 31, 0, 0x4⟩
/-- GKC.CYCLES (11 R242). -/
def GKC.CYCLES : Fld := ⟨0x70, 31, 0, 0x4⟩
/-- GKC.BUNDLES (11 R242). -/
def GKC.BUNDLES : Fld := ⟨0x74, 31, 0, 0x4⟩
/-- GKC.CMD (11 R242). -/
def GKC.CMD : Fld := ⟨0x78, 31, 0, 0x4⟩
/-- GKC.CMD.OP (11 R242). -/
def GKC.CMD_OP : Fld := ⟨0x78, 1, 0, 0x4⟩
/-- GKC.CMD_STAT (11 R242). -/
def GKC.CMD_STAT : Fld := ⟨0x7C, 31, 0, 0x4⟩
/-- GKC.CMD_STAT.REFUSED (11 R242). -/
def GKC.CMD_STAT_REFUSED : Fld := ⟨0x7C, 1, 1, 0x4⟩
/-- GKC.CMD_STAT.DONE (11 R242). -/
def GKC.CMD_STAT_DONE : Fld := ⟨0x7C, 0, 0, 0x4⟩
/-- GKC.DBG_ACSEL (11 R242). -/
def GKC.DBG_ACSEL : Fld := ⟨0x94, 31, 0, 0x4⟩
/-- GKC.DBG_ACSEL.AC (11 R242). -/
def GKC.DBG_ACSEL_AC : Fld := ⟨0x94, 1, 0, 0x4⟩
/-- GKC.DMA_LADDR (11 R242). -/
def GKC.DMA_LADDR : Fld := ⟨0x100, 31, 0, 0x20⟩
/-- GKC.DMA_DPA_LO (11 R242). -/
def GKC.DMA_DPA_LO : Fld := ⟨0x104, 31, 0, 0x20⟩
/-- GKC.DMA_DPA_HI (11 R242). -/
def GKC.DMA_DPA_HI : Fld := ⟨0x108, 31, 0, 0x20⟩
/-- GKC.DMA_DPA_HI.ADDR (11 R242). -/
def GKC.DMA_DPA_HI_ADDR : Fld := ⟨0x108, 15, 0, 0x20⟩
/-- GKC.DMA_COUNT (11 R242). -/
def GKC.DMA_COUNT : Fld := ⟨0x10C, 31, 0, 0x20⟩
/-- GKC.DMA_COUNT.COUNT (11 R242). -/
def GKC.DMA_COUNT_COUNT : Fld := ⟨0x10C, 17, 0, 0x20⟩
/-- GKC.DMA_CTRL (11 R242). -/
def GKC.DMA_CTRL : Fld := ⟨0x110, 31, 0, 0x20⟩
/-- GKC.DMA_CTRL.QUEUE (11 R242). -/
def GKC.DMA_CTRL_QUEUE : Fld := ⟨0x110, 31, 16, 0x20⟩
/-- GKC.DMA_CTRL.QEN (11 R242). -/
def GKC.DMA_CTRL_QEN : Fld := ⟨0x110, 2, 2, 0x20⟩
/-- GKC.DMA_CTRL.DIR (11 R242). -/
def GKC.DMA_CTRL_DIR : Fld := ⟨0x110, 1, 1, 0x20⟩
/-- GKC.DMA_CTRL.GO (11 R242). -/
def GKC.DMA_CTRL_GO : Fld := ⟨0x110, 0, 0, 0x20⟩
/-- GKC.DMA_STAT (11 R242). -/
def GKC.DMA_STAT : Fld := ⟨0x114, 31, 0, 0x20⟩
/-- GKC.DMA_STAT.ECODE (11 R242). -/
def GKC.DMA_STAT_ECODE : Fld := ⟨0x114, 7, 4, 0x20⟩
/-- GKC.DMA_STAT.POISON (11 R242). -/
def GKC.DMA_STAT_POISON : Fld := ⟨0x114, 3, 3, 0x20⟩
/-- GKC.DMA_STAT.ERR (11 R242). -/
def GKC.DMA_STAT_ERR : Fld := ⟨0x114, 2, 2, 0x20⟩
/-- GKC.DMA_STAT.DONE (11 R242). -/
def GKC.DMA_STAT_DONE : Fld := ⟨0x114, 1, 1, 0x20⟩
/-- GKC.DMA_STAT.BUSY (11 R242). -/
def GKC.DMA_STAT_BUSY : Fld := ⟨0x114, 0, 0, 0x20⟩
/-- GKC.LDEPTH (11 R242). -/
def GKC.LDEPTH : Fld := ⟨0x530, 31, 0, 0x4⟩
/-- GKC.LDEPTH.DEPTH (11 R242). -/
def GKC.LDEPTH_DEPTH : Fld := ⟨0x530, 2, 0, 0x4⟩
/-- GKC.AGS (13 R277). -/
def GKC.AGS : Fld := ⟨0x98, 31, 0, 0x4⟩
/-- GKC.AGS.OUTWIN (13 R277). -/
def GKC.AGS_OUTWIN : Fld := ⟨0x98, 7, 0, 0x4⟩
/-- Registers of the GKC page (11 R242, 13 R277), part 0. -/
def GKC.regs0 : List RegSpec := [
  ⟨0x40, 1, 0x4, [⟨3, 3, .wo, 0, false⟩, ⟨2, 2, .wo, 0, false⟩, ⟨1, 1, .wo, 0, false⟩, ⟨0, 0, .wo, 0, false⟩]⟩,
  ⟨0x44, 1, 0x4, [⟨11, 8, .ro, 0, false⟩, ⟨3, 0, .ro, 0, false⟩]⟩,
  ⟨0x48, 1, 0x4, [⟨11, 0, .rw, 0, false⟩]⟩,
  ⟨0x4C, 1, 0x4, [⟨11, 0, .ro, 0, false⟩]⟩,
  ⟨0x50, 1, 0x4, [⟨9, 8, .ro, 0, false⟩, ⟨7, 0, .ro, 0, false⟩]⟩,
  ⟨0x54, 1, 0x4, [⟨31, 0, .ro, 0, false⟩]⟩,
  ⟨0x58, 1, 0x4, [⟨8, 8, .rws, 0, false⟩, ⟨2, 0, .rws, 0, false⟩]⟩,
  ⟨0x5C, 1, 0x4, [⟨6, 0, .rws, 0, false⟩]⟩,
  ⟨0x60, 1, 0x4, [⟨31, 0, .rw, 0, false⟩]⟩,
  ⟨0x64, 1, 0x4, [⟨8, 8, .ro, 0, false⟩, ⟨0, 0, .wo, 0, false⟩]⟩]
/-- Registers of the GKC page (11 R242, 13 R277), part 1. -/
def GKC.regs1 : List RegSpec := [
  ⟨0x68, 1, 0x4, [⟨31, 0, .rc, 0, false⟩]⟩,
  ⟨0x6C, 1, 0x4, [⟨31, 0, .rc, 0, false⟩]⟩,
  ⟨0x70, 1, 0x4, [⟨31, 0, .ro, 0, false⟩]⟩,
  ⟨0x74, 1, 0x4, [⟨31, 0, .ro, 0, false⟩]⟩,
  ⟨0x78, 1, 0x4, [⟨1, 0, .wo, 0, false⟩]⟩,
  ⟨0x7C, 1, 0x4, [⟨1, 1, .ro, 0, false⟩, ⟨0, 0, .ro, 0, false⟩]⟩,
  ⟨0x94, 1, 0x4, [⟨1, 0, .rw, 0, false⟩]⟩,
  ⟨0x100, 4, 0x20, [⟨31, 0, .rw, 0, false⟩]⟩,
  ⟨0x104, 4, 0x20, [⟨31, 0, .rw, 0, false⟩]⟩,
  ⟨0x108, 4, 0x20, [⟨15, 0, .rw, 0, false⟩]⟩]
/-- Registers of the GKC page (11 R242, 13 R277), part 2. -/
def GKC.regs2 : List RegSpec := [
  ⟨0x10C, 4, 0x20, [⟨17, 0, .rw, 0, false⟩]⟩,
  ⟨0x110, 4, 0x20, [⟨31, 16, .rw, 0, false⟩, ⟨2, 2, .rw, 0, false⟩, ⟨1, 1, .rw, 0, false⟩, ⟨0, 0, .wo, 0, false⟩]⟩,
  ⟨0x114, 4, 0x20, [⟨7, 4, .ro, 0, false⟩, ⟨3, 3, .ro, 0, false⟩, ⟨2, 2, .ro, 0, false⟩, ⟨1, 1, .ro, 0, false⟩, ⟨0, 0, .ro, 0, false⟩]⟩,
  ⟨0x530, 1, 0x4, [⟨2, 0, .rw, 0, false⟩]⟩,
  ⟨0x98, 1, 0x4, [⟨7, 0, .w1c, 0, false⟩]⟩]
/-- The registers of the GKC page. -/
def GKC.regs : List RegSpec := GKC.regs0 ++ GKC.regs1 ++ GKC.regs2

/-- HOP.MAPCTL (14 R303). -/
def HOP.MAPCTL : Fld := ⟨0x40, 31, 0, 0x4⟩
/-- HOP.MAPCTL.DEGRADE_B (14 R303). -/
def HOP.MAPCTL_DEGRADE_B : Fld := ⟨0x40, 21, 20, 0x4⟩
/-- HOP.MAPCTL.DEGRADE_M (14 R303). -/
def HOP.MAPCTL_DEGRADE_M : Fld := ⟨0x40, 19, 18, 0x4⟩
/-- HOP.MAPCTL.DEGRADE_L (14 R303). -/
def HOP.MAPCTL_DEGRADE_L : Fld := ⟨0x40, 17, 16, 0x4⟩
/-- HOP.MAPCTL.LIFT_EN (14 R303). -/
def HOP.MAPCTL_LIFT_EN : Fld := ⟨0x40, 11, 4, 0x4⟩
/-- HOP.MAPCTL.GMODE (14 R303). -/
def HOP.MAPCTL_GMODE : Fld := ⟨0x40, 0, 0, 0x4⟩
/-- HOP.EPOCH (14 R303). -/
def HOP.EPOCH : Fld := ⟨0x44, 31, 0, 0x4⟩
/-- HOP.EPOCH.E (14 R303). -/
def HOP.EPOCH_E : Fld := ⟨0x44, 2, 0, 0x4⟩
/-- HOP.TAGTO (14 R303). -/
def HOP.TAGTO : Fld := ⟨0x48, 31, 0, 0x4⟩
/-- HOP.TAGTO.US (14 R303). -/
def HOP.TAGTO_US : Fld := ⟨0x48, 15, 0, 0x4⟩
/-- HOP.LATE_CMP (14 R303). -/
def HOP.LATE_CMP : Fld := ⟨0x4C, 31, 0, 0x4⟩
/-- HOP.LAME_LIFT (14 R303). -/
def HOP.LAME_LIFT : Fld := ⟨0x50, 31, 0, 0x4⟩
/-- HOP.LAME_LIFT.LIFT (14 R303). -/
def HOP.LAME_LIFT_LIFT : Fld := ⟨0x50, 7, 0, 0x4⟩
/-- HOP.PKG_WINDOW (14 R303). -/
def HOP.PKG_WINDOW : Fld := ⟨0x54, 31, 0, 0x4⟩
/-- HOP.PKG_WINDOW.WINDOW (14 R303). -/
def HOP.PKG_WINDOW_WINDOW : Fld := ⟨0x54, 15, 0, 0x4⟩
/-- HOP.PKG_WEIGHT0 (14 R303). -/
def HOP.PKG_WEIGHT0 : Fld := ⟨0x58, 31, 0, 0x4⟩
/-- HOP.PKG_WEIGHT1 (14 R303). -/
def HOP.PKG_WEIGHT1 : Fld := ⟨0x5C, 31, 0, 0x4⟩
/-- HOP.PKG_WEIGHT2 (14 R303). -/
def HOP.PKG_WEIGHT2 : Fld := ⟨0x60, 31, 0, 0x4⟩
/-- HOP.PKG_WEIGHT2.W8 (14 R303). -/
def HOP.PKG_WEIGHT2_W8 : Fld := ⟨0x60, 7, 0, 0x4⟩
/-- HOP.FHP_CLK (14 R303). -/
def HOP.FHP_CLK : Fld := ⟨0x80, 31, 0, 0x4⟩
/-- HOP.FHP_CLK.EN1 (14 R303). -/
def HOP.FHP_CLK_EN1 : Fld := ⟨0x80, 13, 13, 0x4⟩
/-- HOP.FHP_CLK.CLK1 (14 R303). -/
def HOP.FHP_CLK_CLK1 : Fld := ⟨0x80, 12, 8, 0x4⟩
/-- HOP.FHP_CLK.EN0 (14 R303). -/
def HOP.FHP_CLK_EN0 : Fld := ⟨0x80, 5, 5, 0x4⟩
/-- HOP.FHP_CLK.CLK0 (14 R303). -/
def HOP.FHP_CLK_CLK0 : Fld := ⟨0x80, 4, 0, 0x4⟩
/-- HOP.PPCLK (14 R303). -/
def HOP.PPCLK : Fld := ⟨0x1000, 31, 0, 0x4⟩
/-- HOP.PPCLK.EN1 (14 R303). -/
def HOP.PPCLK_EN1 : Fld := ⟨0x1000, 13, 13, 0x4⟩
/-- HOP.PPCLK.CLK1 (14 R303). -/
def HOP.PPCLK_CLK1 : Fld := ⟨0x1000, 12, 8, 0x4⟩
/-- HOP.PPCLK.EN0 (14 R303). -/
def HOP.PPCLK_EN0 : Fld := ⟨0x1000, 5, 5, 0x4⟩
/-- HOP.PPCLK.CLK0 (14 R303). -/
def HOP.PPCLK_CLK0 : Fld := ⟨0x1000, 4, 0, 0x4⟩
/-- HOP.AP_BASE (14 R303). -/
def HOP.AP_BASE : Fld := ⟨0x8000, 31, 0, 0x10⟩
/-- HOP.AP_LIMIT (14 R303). -/
def HOP.AP_LIMIT : Fld := ⟨0x8004, 31, 0, 0x10⟩
/-- HOP.AP_CTRL (14 R303). -/
def HOP.AP_CTRL : Fld := ⟨0x8008, 31, 0, 0x10⟩
/-- HOP.AP_CTRL.WR (14 R303). -/
def HOP.AP_CTRL_WR : Fld := ⟨0x8008, 2, 2, 0x10⟩
/-- HOP.AP_CTRL.RD (14 R303). -/
def HOP.AP_CTRL_RD : Fld := ⟨0x8008, 1, 1, 0x10⟩
/-- HOP.AP_CTRL.EN (14 R303). -/
def HOP.AP_CTRL_EN : Fld := ⟨0x8008, 0, 0, 0x10⟩
/-- Registers of the HOP page (14 R303), part 0. -/
def HOP.regs0 : List RegSpec := [
  ⟨0x40, 1, 0x4, [⟨21, 20, .rws, 0, false⟩, ⟨19, 18, .rws, 0, false⟩, ⟨17, 16, .rws, 0, false⟩, ⟨11, 4, .rws, 0xFF, false⟩, ⟨0, 0, .rws, 0x1, false⟩]⟩,
  ⟨0x44, 1, 0x4, [⟨2, 0, .ro, 0, false⟩]⟩,
  ⟨0x48, 1, 0x4, [⟨15, 0, .rw, 0x3E8, false⟩]⟩,
  ⟨0x4C, 1, 0x4, [⟨31, 0, .rc, 0, false⟩]⟩,
  ⟨0x50, 1, 0x4, [⟨7, 0, .ro, 0, true⟩]⟩,
  ⟨0x54, 1, 0x4, [⟨15, 0, .rws, 0x100, false⟩]⟩,
  ⟨0x58, 1, 0x4, [⟨31, 0, .rws, 0x10101010, false⟩]⟩,
  ⟨0x5C, 1, 0x4, [⟨31, 0, .rws, 0x10101010, false⟩]⟩,
  ⟨0x60, 1, 0x4, [⟨7, 0, .rws, 0x20, false⟩]⟩,
  ⟨0x80, 32, 0x4, [⟨13, 13, .rw, 0, false⟩, ⟨12, 8, .rw, 0, false⟩, ⟨5, 5, .rw, 0, false⟩, ⟨4, 0, .rw, 0, false⟩]⟩]
/-- Registers of the HOP page (14 R303), part 1. -/
def HOP.regs1 : List RegSpec := [
  ⟨0x1000, 384, 0x4, [⟨13, 13, .rw, 0, false⟩, ⟨12, 8, .rw, 0, false⟩, ⟨5, 5, .rw, 0, false⟩, ⟨4, 0, .rw, 0, false⟩]⟩,
  ⟨0x8000, 2048, 0x10, [⟨31, 0, .rws, 0, false⟩]⟩,
  ⟨0x8004, 2048, 0x10, [⟨31, 0, .rws, 0, false⟩]⟩,
  ⟨0x8008, 2048, 0x10, [⟨2, 2, .rws, 0, false⟩, ⟨1, 1, .rws, 0, false⟩, ⟨0, 0, .rws, 0, false⟩]⟩]
/-- The registers of the HOP page. -/
def HOP.regs : List RegSpec := HOP.regs0 ++ HOP.regs1

/-- HST.WINDOW (14 R304). -/
def HST.WINDOW : Fld := ⟨0x40, 31, 0, 0x4⟩
/-- HST.WINDOW.US (14 R304). -/
def HST.WINDOW_US : Fld := ⟨0x40, 23, 0, 0x4⟩
/-- HST.SEQ (14 R304). -/
def HST.SEQ : Fld := ⟨0x44, 31, 0, 0x4⟩
/-- HST.CTRL (14 R304). -/
def HST.CTRL : Fld := ⟨0x48, 31, 0, 0x4⟩
/-- HST.CTRL.FREEZE (14 R304). -/
def HST.CTRL_FREEZE : Fld := ⟨0x48, 0, 0, 0x4⟩
/-- HST.BYTES_LO (14 R304). -/
def HST.BYTES_LO : Fld := ⟨0x1000, 31, 0, 0x80⟩
/-- HST.BYTES_HI (14 R304). -/
def HST.BYTES_HI : Fld := ⟨0x1004, 31, 0, 0x80⟩
/-- HST.REQS (14 R304). -/
def HST.REQS : Fld := ⟨0x1008, 31, 0, 0x80⟩
/-- HST.REFUSED (14 R304). -/
def HST.REFUSED : Fld := ⟨0x100C, 31, 0, 0x80⟩
/-- HST.MAXLAT (14 R304). -/
def HST.MAXLAT : Fld := ⟨0x1010, 31, 0, 0x80⟩
/-- HST.BIN0 (14 R304). -/
def HST.BIN0 : Fld := ⟨0x1040, 31, 0, 0x80⟩
/-- HST.BIN1 (14 R304). -/
def HST.BIN1 : Fld := ⟨0x1044, 31, 0, 0x80⟩
/-- HST.BIN2 (14 R304). -/
def HST.BIN2 : Fld := ⟨0x1048, 31, 0, 0x80⟩
/-- HST.BIN3 (14 R304). -/
def HST.BIN3 : Fld := ⟨0x104C, 31, 0, 0x80⟩
/-- HST.BIN4 (14 R304). -/
def HST.BIN4 : Fld := ⟨0x1050, 31, 0, 0x80⟩
/-- HST.BIN5 (14 R304). -/
def HST.BIN5 : Fld := ⟨0x1054, 31, 0, 0x80⟩
/-- HST.BIN6 (14 R304). -/
def HST.BIN6 : Fld := ⟨0x1058, 31, 0, 0x80⟩
/-- HST.BIN7 (14 R304). -/
def HST.BIN7 : Fld := ⟨0x105C, 31, 0, 0x80⟩
/-- HST.BIN8 (14 R304). -/
def HST.BIN8 : Fld := ⟨0x1060, 31, 0, 0x80⟩
/-- HST.BIN9 (14 R304). -/
def HST.BIN9 : Fld := ⟨0x1064, 31, 0, 0x80⟩
/-- HST.BIN10 (14 R304). -/
def HST.BIN10 : Fld := ⟨0x1068, 31, 0, 0x80⟩
/-- HST.BIN11 (14 R304). -/
def HST.BIN11 : Fld := ⟨0x106C, 31, 0, 0x80⟩
/-- HST.BIN12 (14 R304). -/
def HST.BIN12 : Fld := ⟨0x1070, 31, 0, 0x80⟩
/-- HST.BIN13 (14 R304). -/
def HST.BIN13 : Fld := ⟨0x1074, 31, 0, 0x80⟩
/-- HST.BIN14 (14 R304). -/
def HST.BIN14 : Fld := ⟨0x1078, 31, 0, 0x80⟩
/-- HST.BIN15 (14 R304). -/
def HST.BIN15 : Fld := ⟨0x107C, 31, 0, 0x80⟩
/-- Registers of the HST page (14 R304), part 0. -/
def HST.regs0 : List RegSpec := [
  ⟨0x40, 1, 0x4, [⟨23, 0, .rw, 0x3E8, false⟩]⟩,
  ⟨0x44, 1, 0x4, [⟨31, 0, .ro, 0, false⟩]⟩,
  ⟨0x48, 1, 0x4, [⟨0, 0, .rw, 0, false⟩]⟩,
  ⟨0x1000, 1024, 0x80, [⟨31, 0, .ro, 0, false⟩]⟩,
  ⟨0x1004, 1024, 0x80, [⟨31, 0, .ro, 0, false⟩]⟩,
  ⟨0x1008, 1024, 0x80, [⟨31, 0, .ro, 0, false⟩]⟩,
  ⟨0x100C, 1024, 0x80, [⟨31, 0, .ro, 0, false⟩]⟩,
  ⟨0x1010, 1024, 0x80, [⟨31, 0, .ro, 0, false⟩]⟩,
  ⟨0x1040, 1024, 0x80, [⟨31, 0, .ro, 0, false⟩]⟩,
  ⟨0x1044, 1024, 0x80, [⟨31, 0, .ro, 0, false⟩]⟩]
/-- Registers of the HST page (14 R304), part 1. -/
def HST.regs1 : List RegSpec := [
  ⟨0x1048, 1024, 0x80, [⟨31, 0, .ro, 0, false⟩]⟩,
  ⟨0x104C, 1024, 0x80, [⟨31, 0, .ro, 0, false⟩]⟩,
  ⟨0x1050, 1024, 0x80, [⟨31, 0, .ro, 0, false⟩]⟩,
  ⟨0x1054, 1024, 0x80, [⟨31, 0, .ro, 0, false⟩]⟩,
  ⟨0x1058, 1024, 0x80, [⟨31, 0, .ro, 0, false⟩]⟩,
  ⟨0x105C, 1024, 0x80, [⟨31, 0, .ro, 0, false⟩]⟩,
  ⟨0x1060, 1024, 0x80, [⟨31, 0, .ro, 0, false⟩]⟩,
  ⟨0x1064, 1024, 0x80, [⟨31, 0, .ro, 0, false⟩]⟩,
  ⟨0x1068, 1024, 0x80, [⟨31, 0, .ro, 0, false⟩]⟩,
  ⟨0x106C, 1024, 0x80, [⟨31, 0, .ro, 0, false⟩]⟩]
/-- Registers of the HST page (14 R304), part 2. -/
def HST.regs2 : List RegSpec := [
  ⟨0x1070, 1024, 0x80, [⟨31, 0, .ro, 0, false⟩]⟩,
  ⟨0x1074, 1024, 0x80, [⟨31, 0, .ro, 0, false⟩]⟩,
  ⟨0x1078, 1024, 0x80, [⟨31, 0, .ro, 0, false⟩]⟩,
  ⟨0x107C, 1024, 0x80, [⟨31, 0, .ro, 0, false⟩]⟩]
/-- The registers of the HST page. -/
def HST.regs : List RegSpec := HST.regs0 ++ HST.regs1 ++ HST.regs2

end Sys2Proof.Machine
end

