-- ==== Sys2Proof/Machine/RegTableC.lean ====
section
/-! DEFINITION. The register tables of spec chapters 16, 17, 18, 19: every register, its fields, access types and reset values. A value "per part", "per page" or "fuse" stands as 0 here and is computed where it is read. -/
namespace Sys2Proof.Machine

/-- GD.CFG (16 R336). -/
def GD.CFG : Fld := ⟨0x40, 31, 0, 0x4⟩
/-- GD.CFG.K (16 R336). -/
def GD.CFG_K : Fld := ⟨0x40, 3, 0, 0x4⟩
/-- GD.RATE (16 R336). -/
def GD.RATE : Fld := ⟨0x44, 31, 0, 0x4⟩
/-- GD.RATE.CUR (16 R336). -/
def GD.RATE_CUR : Fld := ⟨0x44, 12, 8, 0x4⟩
/-- GD.RATE.MAX (16 R336). -/
def GD.RATE_MAX : Fld := ⟨0x44, 4, 0, 0x4⟩
/-- GD.TRAIN (16 R336). -/
def GD.TRAIN : Fld := ⟨0x48, 31, 0, 0x4⟩
/-- GD.TRAIN.STEP (16 R336). -/
def GD.TRAIN_STEP : Fld := ⟨0x48, 11, 8, 0x4⟩
/-- GD.TRAIN.GO (16 R336). -/
def GD.TRAIN_GO : Fld := ⟨0x48, 0, 0, 0x4⟩
/-- GD.STAT (16 R336). -/
def GD.STAT : Fld := ⟨0x4C, 31, 0, 0x4⟩
/-- GD.STAT.INIT_REF (16 R336). -/
def GD.STAT_INIT_REF : Fld := ⟨0x4C, 7, 7, 0x4⟩
/-- GD.STAT.HOT (16 R336). -/
def GD.STAT_HOT : Fld := ⟨0x4C, 6, 6, 0x4⟩
/-- GD.STAT.CONTENT_LOST (16 R336). -/
def GD.STAT_CONTENT_LOST : Fld := ⟨0x4C, 5, 5, 0x4⟩
/-- GD.STAT.TRAIN_FAIL (16 R336). -/
def GD.STAT_TRAIN_FAIL : Fld := ⟨0x4C, 4, 4, 0x4⟩
/-- GD.STAT.SREF (16 R336). -/
def GD.STAT_SREF : Fld := ⟨0x4C, 3, 3, 0x4⟩
/-- GD.STAT.TRAINING (16 R336). -/
def GD.STAT_TRAINING : Fld := ⟨0x4C, 2, 2, 0x4⟩
/-- GD.STAT.INIT_DONE (16 R336). -/
def GD.STAT_INIT_DONE : Fld := ⟨0x4C, 1, 1, 0x4⟩
/-- GD.STAT.INIT_BUSY (16 R336). -/
def GD.STAT_INIT_BUSY : Fld := ⟨0x4C, 0, 0, 0x4⟩
/-- GD.CMD (16 R336). -/
def GD.CMD : Fld := ⟨0x50, 31, 0, 0x4⟩
/-- GD.CMD.INIT (16 R336). -/
def GD.CMD_INIT : Fld := ⟨0x50, 0, 0, 0x4⟩
/-- GD.SR_IDLE (16 R336). -/
def GD.SR_IDLE : Fld := ⟨0x54, 31, 0, 0x4⟩
/-- GD.SR_IDLE.US (16 R336). -/
def GD.SR_IDLE_US : Fld := ⟨0x54, 15, 0, 0x4⟩
/-- GD.PATROL (16 R336). -/
def GD.PATROL : Fld := ⟨0x58, 31, 0, 0x4⟩
/-- GD.PATROL.S (16 R336). -/
def GD.PATROL_S : Fld := ⟨0x58, 15, 0, 0x4⟩
/-- GD.PATROL_POS (16 R336). -/
def GD.PATROL_POS : Fld := ⟨0x5C, 31, 0, 0x4⟩
/-- GD.PATROL_POS.LINE (16 R336). -/
def GD.PATROL_POS_LINE : Fld := ⟨0x5C, 26, 0, 0x4⟩
/-- GD.RETRAIN (16 R336). -/
def GD.RETRAIN : Fld := ⟨0x60, 31, 0, 0x4⟩
/-- GD.RETRAIN.MS (16 R336). -/
def GD.RETRAIN_MS : Fld := ⟨0x60, 15, 0, 0x4⟩
/-- GD.EDC_CNT (16 R336). -/
def GD.EDC_CNT : Fld := ⟨0x64, 31, 0, 0x4⟩
/-- GD.UC_CNT (16 R336). -/
def GD.UC_CNT : Fld := ⟨0x68, 31, 0, 0x4⟩
/-- GD.DEV_ID0 (16 R336). -/
def GD.DEV_ID0 : Fld := ⟨0x6C, 31, 0, 0x4⟩
/-- GD.DEV_ID1 (16 R336). -/
def GD.DEV_ID1 : Fld := ⟨0x70, 31, 0, 0x4⟩
/-- GD.TEMP (16 R336). -/
def GD.TEMP : Fld := ⟨0x74, 31, 0, 0x4⟩
/-- GD.TEMP.C (16 R336). -/
def GD.TEMP_C : Fld := ⟨0x74, 7, 0, 0x4⟩
/-- GD.WINDOW (16 R336). -/
def GD.WINDOW : Fld := ⟨0x80, 31, 0, 0x4⟩
/-- GD.WINDOW.WINDOW (16 R336). -/
def GD.WINDOW_WINDOW : Fld := ⟨0x80, 15, 0, 0x4⟩
/-- GD.WEIGHT (16 R336). -/
def GD.WEIGHT : Fld := ⟨0x84, 31, 0, 0x4⟩
/-- GD.RAW_ADDR (16 R336). -/
def GD.RAW_ADDR : Fld := ⟨0xC0, 31, 0, 0x4⟩
/-- GD.RAW_ADDR.LINE (16 R336). -/
def GD.RAW_ADDR_LINE : Fld := ⟨0xC0, 26, 0, 0x4⟩
/-- GD.RAW_CMD (16 R336). -/
def GD.RAW_CMD : Fld := ⟨0xC4, 31, 0, 0x4⟩
/-- GD.RAW_CMD.WR (16 R336). -/
def GD.RAW_CMD_WR : Fld := ⟨0xC4, 1, 1, 0x4⟩
/-- GD.RAW_CMD.RD (16 R336). -/
def GD.RAW_CMD_RD : Fld := ⟨0xC4, 0, 0, 0x4⟩
/-- GD.RAW_STAT (16 R336). -/
def GD.RAW_STAT : Fld := ⟨0xC8, 31, 0, 0x4⟩
/-- GD.RAW_STAT.REFUSED (16 R336). -/
def GD.RAW_STAT_REFUSED : Fld := ⟨0xC8, 1, 1, 0x4⟩
/-- GD.RAW_STAT.DONE (16 R336). -/
def GD.RAW_STAT_DONE : Fld := ⟨0xC8, 0, 0, 0x4⟩
/-- GD.RAW_DATA (16 R336). -/
def GD.RAW_DATA : Fld := ⟨0x100, 31, 0, 0x4⟩
/-- GD.RAW_META_LO (16 R336). -/
def GD.RAW_META_LO : Fld := ⟨0x140, 31, 0, 0x4⟩
/-- GD.RAW_META_HI (16 R336). -/
def GD.RAW_META_HI : Fld := ⟨0x144, 31, 0, 0x4⟩
/-- Registers of the GD page (16 R336), part 0. -/
def GD.regs0 : List RegSpec := [
  ⟨0x40, 1, 0x4, [⟨3, 0, .rws, 0xE, true⟩]⟩,
  ⟨0x44, 1, 0x4, [⟨12, 8, .ro, 0, true⟩, ⟨4, 0, .rw, 0x18, true⟩]⟩,
  ⟨0x48, 1, 0x4, [⟨11, 8, .ro, 0, false⟩, ⟨0, 0, .wo, 0, false⟩]⟩,
  ⟨0x4C, 1, 0x4, [⟨7, 7, .ro, 0, false⟩, ⟨6, 6, .ro, 0, false⟩, ⟨5, 5, .w1c, 0, true⟩, ⟨4, 4, .ro, 0, false⟩, ⟨3, 3, .ro, 0, false⟩, ⟨2, 2, .ro, 0, false⟩, ⟨1, 1, .ro, 0, false⟩, ⟨0, 0, .ro, 0, false⟩]⟩,
  ⟨0x50, 1, 0x4, [⟨0, 0, .wo, 0, false⟩]⟩,
  ⟨0x54, 1, 0x4, [⟨15, 0, .rw, 0x64, false⟩]⟩,
  ⟨0x58, 1, 0x4, [⟨15, 0, .rw, 0xE10, false⟩]⟩,
  ⟨0x5C, 1, 0x4, [⟨26, 0, .ro, 0, false⟩]⟩,
  ⟨0x60, 1, 0x4, [⟨15, 0, .rw, 0xA, false⟩]⟩,
  ⟨0x64, 1, 0x4, [⟨31, 0, .rc, 0, false⟩]⟩]
/-- Registers of the GD page (16 R336), part 1. -/
def GD.regs1 : List RegSpec := [
  ⟨0x68, 1, 0x4, [⟨31, 0, .ro, 0, false⟩]⟩,
  ⟨0x6C, 1, 0x4, [⟨31, 0, .ro, 0, false⟩]⟩,
  ⟨0x70, 1, 0x4, [⟨31, 0, .ro, 0, false⟩]⟩,
  ⟨0x74, 1, 0x4, [⟨7, 0, .ro, 0, false⟩]⟩,
  ⟨0x80, 1, 0x4, [⟨15, 0, .rws, 0x100, false⟩]⟩,
  ⟨0x84, 7, 0x4, [⟨31, 0, .rws, 0x10101010, false⟩]⟩,
  ⟨0xA0, 1, 0x4, []⟩,
  ⟨0xC0, 1, 0x4, [⟨26, 0, .rw, 0, false⟩]⟩,
  ⟨0xC4, 1, 0x4, [⟨1, 1, .wo, 0, false⟩, ⟨0, 0, .wo, 0, false⟩]⟩,
  ⟨0xC8, 1, 0x4, [⟨1, 1, .ro, 0, false⟩, ⟨0, 0, .ro, 0, false⟩]⟩,
  ⟨0x100, 16, 0x4, [⟨31, 0, .rw, 0, false⟩]⟩]
/-- Registers of the GD page (16 R336), part 2. -/
def GD.regs2 : List RegSpec := [
  ⟨0x140, 1, 0x4, [⟨31, 0, .rw, 0, false⟩]⟩,
  ⟨0x144, 1, 0x4, [⟨31, 0, .rw, 0, false⟩]⟩]
/-- The registers of the GD page. -/
def GD.regs : List RegSpec := GD.regs0 ++ GD.regs1 ++ GD.regs2

/-- ENC.STAT (17 R361). -/
def ENC.STAT : Fld := ⟨0x40, 31, 0, 0x4⟩
/-- ENC.STAT.HELD (17 R361). -/
def ENC.STAT_HELD : Fld := ⟨0x40, 1, 1, 0x4⟩
/-- ENC.STAT.RESEAL (17 R361). -/
def ENC.STAT_RESEAL : Fld := ⟨0x40, 0, 0, 0x4⟩
/-- ENC.RESEAL_CNT (17 R361). -/
def ENC.RESEAL_CNT : Fld := ⟨0x44, 31, 0, 0x4⟩
/-- ENC.TAGFAIL_CNT (17 R361). -/
def ENC.TAGFAIL_CNT : Fld := ⟨0x48, 31, 0, 0x4⟩
/-- ENC.REFUSE_CNT (17 R361). -/
def ENC.REFUSE_CNT : Fld := ⟨0x4C, 31, 0, 0x4⟩
/-- ENC.CTR_AREA (17 R361). -/
def ENC.CTR_AREA : Fld := ⟨0x50, 31, 0, 0x4⟩
/-- ENC.CTR_AREA.PA (17 R361). -/
def ENC.CTR_AREA_PA : Fld := ⟨0x50, 16, 0, 0x4⟩
/-- ENC.CTR_HIT (17 R361). -/
def ENC.CTR_HIT : Fld := ⟨0x54, 31, 0, 0x4⟩
/-- ENC.CTR_MISS (17 R361). -/
def ENC.CTR_MISS : Fld := ⟨0x58, 31, 0, 0x4⟩
/-- Registers of the ENC page (17 R361), part 0. -/
def ENC.regs0 : List RegSpec := [
  ⟨0x40, 1, 0x4, [⟨1, 1, .ro, 0, false⟩, ⟨0, 0, .ro, 0, false⟩]⟩,
  ⟨0x44, 1, 0x4, [⟨31, 0, .rc, 0, false⟩]⟩,
  ⟨0x48, 1, 0x4, [⟨31, 0, .ro, 0, true⟩]⟩,
  ⟨0x4C, 1, 0x4, [⟨31, 0, .rc, 0, false⟩]⟩,
  ⟨0x50, 1, 0x4, [⟨16, 0, .ro, 0x1BF90, false⟩]⟩,
  ⟨0x54, 1, 0x4, [⟨31, 0, .rc, 0, false⟩]⟩,
  ⟨0x58, 1, 0x4, [⟨31, 0, .rc, 0, false⟩]⟩]
/-- The registers of the ENC page. -/
def ENC.regs : List RegSpec := ENC.regs0

/-- ENCT.RG_BASE (17 R362). -/
def ENCT.RG_BASE : Fld := ⟨0x4000, 31, 0, 0x10⟩
/-- ENCT.RG_BASE.BASE (17 R362). -/
def ENCT.RG_BASE_BASE : Fld := ⟨0x4000, 24, 0, 0x10⟩
/-- ENCT.RG_LIMIT (17 R362). -/
def ENCT.RG_LIMIT : Fld := ⟨0x4004, 31, 0, 0x10⟩
/-- ENCT.RG_LIMIT.LIMIT (17 R362). -/
def ENCT.RG_LIMIT_LIMIT : Fld := ⟨0x4004, 24, 0, 0x10⟩
/-- ENCT.RG_CTRL (17 R362). -/
def ENCT.RG_CTRL : Fld := ⟨0x4008, 31, 0, 0x10⟩
/-- ENCT.RG_CTRL.MASK (17 R362). -/
def ENCT.RG_CTRL_MASK : Fld := ⟨0x4008, 23, 16, 0x10⟩
/-- ENCT.RG_CTRL.KEY (17 R362). -/
def ENCT.RG_CTRL_KEY : Fld := ⟨0x4008, 15, 8, 0x10⟩
/-- ENCT.RG_CTRL.AUTO_MOLT (17 R362). -/
def ENCT.RG_CTRL_AUTO_MOLT : Fld := ⟨0x4008, 4, 4, 0x10⟩
/-- ENCT.RG_CTRL.NOPRIV (17 R362). -/
def ENCT.RG_CTRL_NOPRIV : Fld := ⟨0x4008, 3, 3, 0x10⟩
/-- ENCT.RG_CTRL.EN (17 R362). -/
def ENCT.RG_CTRL_EN : Fld := ⟨0x4008, 2, 2, 0x10⟩
/-- ENCT.RG_CTRL.MODE (17 R362). -/
def ENCT.RG_CTRL_MODE : Fld := ⟨0x4008, 1, 0, 0x10⟩
/-- ENCT.RG_STAT (17 R362). -/
def ENCT.RG_STAT : Fld := ⟨0x400C, 31, 0, 0x10⟩
/-- ENCT.RG_STAT.KEY_B (17 R362). -/
def ENCT.RG_STAT_KEY_B : Fld := ⟨0x400C, 15, 8, 0x10⟩
/-- ENCT.RG_STAT.MSTATE (17 R362). -/
def ENCT.RG_STAT_MSTATE : Fld := ⟨0x400C, 1, 0, 0x10⟩
/-- ENCT.KS_CTRL (17 R362). -/
def ENCT.KS_CTRL : Fld := ⟨0x5000, 31, 0, 0x10⟩
/-- ENCT.KS_CTRL.OWNER (17 R362). -/
def ENCT.KS_CTRL_OWNER : Fld := ⟨0x5000, 3, 0, 0x10⟩
/-- ENCT.KS_STAT (17 R362). -/
def ENCT.KS_STAT : Fld := ⟨0x5004, 31, 0, 0x10⟩
/-- ENCT.KS_STAT.USERS (17 R362). -/
def ENCT.KS_STAT_USERS : Fld := ⟨0x5004, 15, 8, 0x10⟩
/-- ENCT.KS_STAT.ERASE_REF (17 R362). -/
def ENCT.KS_STAT_ERASE_REF : Fld := ⟨0x5004, 2, 2, 0x10⟩
/-- ENCT.KS_STAT.STATE (17 R362). -/
def ENCT.KS_STAT_STATE : Fld := ⟨0x5004, 1, 0, 0x10⟩
/-- ENCT.KS_CMD (17 R362). -/
def ENCT.KS_CMD : Fld := ⟨0x5008, 31, 0, 0x10⟩
/-- ENCT.KS_CMD.ERASE (17 R362). -/
def ENCT.KS_CMD_ERASE : Fld := ⟨0x5008, 0, 0, 0x10⟩
/-- Registers of the region and key-slot tables (17 R362), offsets from ENC0 (17 R362), part 0. -/
def ENCT.regs0 : List RegSpec := [
  ⟨0x4000, 256, 0x10, [⟨24, 0, .rws, 0, true⟩]⟩,
  ⟨0x4004, 256, 0x10, [⟨24, 0, .rws, 0, true⟩]⟩,
  ⟨0x4008, 256, 0x10, [⟨23, 16, .rws, 0, true⟩, ⟨15, 8, .rws, 0, true⟩, ⟨4, 4, .rws, 0, true⟩, ⟨3, 3, .rws, 0, true⟩, ⟨2, 2, .rws, 0, true⟩, ⟨1, 0, .rws, 0, true⟩]⟩,
  ⟨0x400C, 256, 0x10, [⟨15, 8, .ro, 0, true⟩, ⟨1, 0, .ro, 0, true⟩]⟩,
  ⟨0x5000, 256, 0x10, [⟨3, 0, .rws, 0x8, true⟩]⟩,
  ⟨0x5004, 256, 0x10, [⟨15, 8, .ro, 0, false⟩, ⟨2, 2, .ro, 0, false⟩, ⟨1, 0, .ro, 0, true⟩]⟩,
  ⟨0x5008, 256, 0x10, [⟨0, 0, .wo, 0, false⟩]⟩]
/-- The registers of the region and key-slot tables (17 R362), offsets from ENC0. -/
def ENCT.regs : List RegSpec := ENCT.regs0

/-- MOLT.CMD (17 R363). -/
def MOLT.CMD : Fld := ⟨0x40, 31, 0, 0x4⟩
/-- MOLT.CMD.GO (17 R363). -/
def MOLT.CMD_GO : Fld := ⟨0x40, 24, 24, 0x4⟩
/-- MOLT.CMD.OP (17 R363). -/
def MOLT.CMD_OP : Fld := ⟨0x40, 17, 16, 0x4⟩
/-- MOLT.CMD.REGION (17 R363). -/
def MOLT.CMD_REGION : Fld := ⟨0x40, 15, 8, 0x4⟩
/-- MOLT.CMD.KEY_B (17 R363). -/
def MOLT.CMD_KEY_B : Fld := ⟨0x40, 7, 0, 0x4⟩
/-- MOLT.STAT (17 R363). -/
def MOLT.STAT : Fld := ⟨0x44, 31, 0, 0x4⟩
/-- MOLT.STAT.OP (17 R363). -/
def MOLT.STAT_OP : Fld := ⟨0x44, 25, 24, 0x4⟩
/-- MOLT.STAT.KEY_B (17 R363). -/
def MOLT.STAT_KEY_B : Fld := ⟨0x44, 23, 16, 0x4⟩
/-- MOLT.STAT.REGION (17 R363). -/
def MOLT.STAT_REGION : Fld := ⟨0x44, 15, 8, 0x4⟩
/-- MOLT.STAT.REFUSED (17 R363). -/
def MOLT.STAT_REFUSED : Fld := ⟨0x44, 2, 2, 0x4⟩
/-- MOLT.STAT.DONE (17 R363). -/
def MOLT.STAT_DONE : Fld := ⟨0x44, 1, 1, 0x4⟩
/-- MOLT.STAT.BUSY (17 R363). -/
def MOLT.STAT_BUSY : Fld := ⟨0x44, 0, 0, 0x4⟩
/-- MOLT.BOUND (17 R363). -/
def MOLT.BOUND : Fld := ⟨0x48, 31, 0, 0x4⟩
/-- MOLT.BOUND.LINE (17 R363). -/
def MOLT.BOUND_LINE : Fld := ⟨0x48, 26, 0, 0x4⟩
/-- MOLT.MOVED (17 R363). -/
def MOLT.MOVED : Fld := ⟨0x58, 31, 0, 0x4⟩
/-- Registers of the MOLT page (17 R363), part 0. -/
def MOLT.regs0 : List RegSpec := [
  ⟨0x40, 1, 0x4, [⟨24, 24, .wo, 0, false⟩, ⟨17, 16, .wo, 0, false⟩, ⟨15, 8, .wo, 0, false⟩, ⟨7, 0, .wo, 0, false⟩]⟩,
  ⟨0x44, 1, 0x4, [⟨25, 24, .ro, 0, true⟩, ⟨23, 16, .ro, 0, true⟩, ⟨15, 8, .ro, 0, true⟩, ⟨2, 2, .ro, 0, false⟩, ⟨1, 1, .ro, 0, false⟩, ⟨0, 0, .ro, 0, true⟩]⟩,
  ⟨0x48, 4, 0x4, [⟨26, 0, .ro, 0, true⟩]⟩,
  ⟨0x58, 1, 0x4, [⟨31, 0, .ro, 0, false⟩]⟩]
/-- The registers of the MOLT page. -/
def MOLT.regs : List RegSpec := MOLT.regs0

/-- PCI.IDS (18 R384). -/
def PCI.IDS : Fld := ⟨0x40, 31, 0, 0x4⟩
/-- PCI.IDS.VENDOR (18 R384). -/
def PCI.IDS_VENDOR : Fld := ⟨0x40, 15, 0, 0x4⟩
/-- PCI.LINK_STAT (18 R384). -/
def PCI.LINK_STAT : Fld := ⟨0x44, 31, 0, 0x4⟩
/-- PCI.LINK_STAT.BIF (18 R384). -/
def PCI.LINK_STAT_BIF : Fld := ⟨0x44, 16, 16, 0x4⟩
/-- PCI.LINK_STAT.UP_B (18 R384). -/
def PCI.LINK_STAT_UP_B : Fld := ⟨0x44, 15, 15, 0x4⟩
/-- PCI.LINK_STAT.SPEED_B (18 R384). -/
def PCI.LINK_STAT_SPEED_B : Fld := ⟨0x44, 14, 12, 0x4⟩
/-- PCI.LINK_STAT.WIDTH_B (18 R384). -/
def PCI.LINK_STAT_WIDTH_B : Fld := ⟨0x44, 11, 7, 0x4⟩
/-- PCI.LINK_STAT.UP_A (18 R384). -/
def PCI.LINK_STAT_UP_A : Fld := ⟨0x44, 6, 6, 0x4⟩
/-- PCI.LINK_STAT.SPEED_A (18 R384). -/
def PCI.LINK_STAT_SPEED_A : Fld := ⟨0x44, 5, 3, 0x4⟩
/-- PCI.WIDTH_A (18 R384). -/
def PCI.WIDTH_A : Fld := ⟨0x48, 31, 0, 0x4⟩
/-- PCI.WIDTH_A.WIDTH (18 R384). -/
def PCI.WIDTH_A_WIDTH : Fld := ⟨0x48, 4, 0, 0x4⟩
/-- PCI.LINK_CTRL (18 R384). -/
def PCI.LINK_CTRL : Fld := ⟨0x4C, 31, 0, 0x4⟩
/-- PCI.LINK_CTRL.MAX_SPEED (18 R384). -/
def PCI.LINK_CTRL_MAX_SPEED : Fld := ⟨0x4C, 2, 0, 0x4⟩
/-- PCI.PORT_SEL (18 R384). -/
def PCI.PORT_SEL : Fld := ⟨0x50, 31, 0, 0x4⟩
/-- PCI.PORT_SEL.PF (18 R384). -/
def PCI.PORT_SEL_PF : Fld := ⟨0x50, 8, 1, 0x4⟩
/-- PCI.P0W_BASE (18 R384). -/
def PCI.P0W_BASE : Fld := ⟨0x60, 31, 0, 0x4⟩
/-- PCI.P0W_BASE.BASE (18 R384). -/
def PCI.P0W_BASE_BASE : Fld := ⟨0x60, 21, 0, 0x4⟩
/-- PCI.P0W_SIZE (18 R384). -/
def PCI.P0W_SIZE : Fld := ⟨0x64, 31, 0, 0x4⟩
/-- PCI.P0W_SIZE.SIZE (18 R384). -/
def PCI.P0W_SIZE_SIZE : Fld := ⟨0x64, 5, 0, 0x4⟩
/-- PCI.PW_FAIL_CNT (18 R384). -/
def PCI.PW_FAIL_CNT : Fld := ⟨0x70, 31, 0, 0x4⟩
/-- PCI.RMV_CMD (18 R384). -/
def PCI.RMV_CMD : Fld := ⟨0x74, 31, 0, 0x4⟩
/-- PCI.RMV_CMD.ACK (18 R384). -/
def PCI.RMV_CMD_ACK : Fld := ⟨0x74, 1, 1, 0x4⟩
/-- PCI.RMV_CMD.REQ (18 R384). -/
def PCI.RMV_CMD_REQ : Fld := ⟨0x74, 0, 0, 0x4⟩
/-- PCI.RMV_CTRL (18 R384). -/
def PCI.RMV_CTRL : Fld := ⟨0x78, 31, 0, 0x4⟩
/-- PCI.RMV_CTRL.TMO_S (18 R384). -/
def PCI.RMV_CTRL_TMO_S : Fld := ⟨0x78, 15, 0, 0x4⟩
/-- PCI.RMV_STAT (18 R384). -/
def PCI.RMV_STAT : Fld := ⟨0x7C, 31, 0, 0x4⟩
/-- PCI.RMV_STAT.QUIESCED (18 R384). -/
def PCI.RMV_STAT_QUIESCED : Fld := ⟨0x7C, 1, 1, 0x4⟩
/-- PCI.RMV_STAT.REQ (18 R384). -/
def PCI.RMV_STAT_REQ : Fld := ⟨0x7C, 0, 0, 0x4⟩
/-- PCI.FLR_STAT (18 R384). -/
def PCI.FLR_STAT : Fld := ⟨0x80, 31, 0, 0x4⟩
/-- PCI.FLR_STAT.PF (18 R384). -/
def PCI.FLR_STAT_PF : Fld := ⟨0x80, 8, 0, 0x4⟩
/-- PCI.TW_BASE (18 R384). -/
def PCI.TW_BASE : Fld := ⟨0x100, 31, 0, 0x20⟩
/-- PCI.TW_BASE.BASE (18 R384). -/
def PCI.TW_BASE_BASE : Fld := ⟨0x100, 21, 0, 0x20⟩
/-- PCI.TW_SIZE (18 R384). -/
def PCI.TW_SIZE : Fld := ⟨0x104, 31, 0, 0x20⟩
/-- PCI.TW_SIZE.SIZE (18 R384). -/
def PCI.TW_SIZE_SIZE : Fld := ⟨0x104, 5, 0, 0x20⟩
/-- PCI.VF_BASE (18 R384). -/
def PCI.VF_BASE : Fld := ⟨0x108, 31, 0, 0x20⟩
/-- PCI.VF_BASE.BASE (18 R384). -/
def PCI.VF_BASE_BASE : Fld := ⟨0x108, 21, 0, 0x20⟩
/-- PCI.VF_SIZE (18 R384). -/
def PCI.VF_SIZE : Fld := ⟨0x10C, 31, 0, 0x20⟩
/-- PCI.VF_SIZE.SIZE (18 R384). -/
def PCI.VF_SIZE_SIZE : Fld := ⟨0x10C, 5, 0, 0x20⟩
/-- PCI.Q_FIRST (18 R384). -/
def PCI.Q_FIRST : Fld := ⟨0x110, 31, 0, 0x20⟩
/-- PCI.Q_FIRST.QUEUE (18 R384). -/
def PCI.Q_FIRST_QUEUE : Fld := ⟨0x110, 15, 0, 0x20⟩
/-- PCI.Q_CFG (18 R384). -/
def PCI.Q_CFG : Fld := ⟨0x114, 31, 0, 0x20⟩
/-- PCI.Q_CFG.VF_QN (18 R384). -/
def PCI.Q_CFG_VF_QN : Fld := ⟨0x114, 12, 8, 0x20⟩
/-- PCI.Q_CFG.QN (18 R384). -/
def PCI.Q_CFG_QN : Fld := ⟨0x114, 4, 0, 0x20⟩
/-- Registers of the PCI page (18 R384), part 0. -/
def PCI.regs0 : List RegSpec := [
  ⟨0x40, 1, 0x4, [⟨15, 0, .ro, 0, false⟩]⟩,
  ⟨0x44, 1, 0x4, [⟨16, 16, .ro, 0, false⟩, ⟨15, 15, .ro, 0, false⟩, ⟨14, 12, .ro, 0, false⟩, ⟨11, 7, .ro, 0, false⟩, ⟨6, 6, .ro, 0, false⟩, ⟨5, 3, .ro, 0, false⟩]⟩,
  ⟨0x48, 1, 0x4, [⟨4, 0, .ro, 0, false⟩]⟩,
  ⟨0x4C, 1, 0x4, [⟨2, 0, .rw, 0x6, true⟩]⟩,
  ⟨0x50, 1, 0x4, [⟨8, 1, .rw, 0, true⟩]⟩,
  ⟨0x60, 1, 0x4, [⟨21, 0, .rws, 0, true⟩]⟩,
  ⟨0x64, 1, 0x4, [⟨5, 0, .rw, 0, true⟩]⟩,
  ⟨0x70, 1, 0x4, [⟨31, 0, .rc, 0, false⟩]⟩,
  ⟨0x74, 1, 0x4, [⟨1, 1, .wo, 0, false⟩, ⟨0, 0, .wo, 0, false⟩]⟩,
  ⟨0x78, 1, 0x4, [⟨15, 0, .rw, 0x1E, true⟩]⟩]
/-- Registers of the PCI page (18 R384), part 1. -/
def PCI.regs1 : List RegSpec := [
  ⟨0x7C, 1, 0x4, [⟨1, 1, .ro, 0, false⟩, ⟨0, 0, .ro, 0, false⟩]⟩,
  ⟨0x80, 1, 0x4, [⟨8, 0, .ro, 0, false⟩]⟩,
  ⟨0x100, 8, 0x20, [⟨21, 0, .rws, 0, true⟩]⟩,
  ⟨0x104, 8, 0x20, [⟨5, 0, .rw, 0, true⟩]⟩,
  ⟨0x108, 8, 0x20, [⟨21, 0, .rws, 0, true⟩]⟩,
  ⟨0x10C, 8, 0x20, [⟨5, 0, .rw, 0, true⟩]⟩,
  ⟨0x110, 8, 0x20, [⟨15, 0, .rws, 0, true⟩]⟩,
  ⟨0x114, 8, 0x20, [⟨12, 8, .rw, 0, true⟩, ⟨4, 0, .rw, 0, true⟩]⟩]
/-- The registers of the PCI page. -/
def PCI.regs : List RegSpec := PCI.regs0 ++ PCI.regs1

/-- EFL.CTRL (19 R401). -/
def EFL.CTRL : Fld := ⟨0x40, 31, 0, 0x4⟩
/-- EFL.CTRL.TEST (19 R401). -/
def EFL.CTRL_TEST : Fld := ⟨0x40, 4, 4, 0x4⟩
/-- EFL.CTRL.QUIESCE (19 R401). -/
def EFL.CTRL_QUIESCE : Fld := ⟨0x40, 3, 3, 0x4⟩
/-- EFL.CTRL.DOWN (19 R401). -/
def EFL.CTRL_DOWN : Fld := ⟨0x40, 2, 2, 0x4⟩
/-- EFL.CTRL.TRAIN (19 R401). -/
def EFL.CTRL_TRAIN : Fld := ⟨0x40, 1, 1, 0x4⟩
/-- EFL.CTRL.AUTO (19 R401). -/
def EFL.CTRL_AUTO : Fld := ⟨0x40, 0, 0, 0x4⟩
/-- EFL.CFG (19 R401). -/
def EFL.CFG : Fld := ⟨0x44, 31, 0, 0x4⟩
/-- EFL.CFG.RETRY_MS (19 R401). -/
def EFL.CFG_RETRY_MS : Fld := ⟨0x44, 23, 8, 0x4⟩
/-- EFL.CFG.SCR (19 R401). -/
def EFL.CFG_SCR : Fld := ⟨0x44, 7, 7, 0x4⟩
/-- EFL.CFG.WIDTHS (19 R401). -/
def EFL.CFG_WIDTHS : Fld := ⟨0x44, 6, 4, 0x4⟩
/-- EFL.CFG.RATES (19 R401). -/
def EFL.CFG_RATES : Fld := ⟨0x44, 3, 0, 0x4⟩
/-- EFL.STAT (19 R401). -/
def EFL.STAT : Fld := ⟨0x48, 31, 0, 0x4⟩
/-- EFL.STAT.POL (19 R401). -/
def EFL.STAT_POL : Fld := ⟨0x48, 31, 16, 0x4⟩
/-- EFL.STAT.REVERSED (19 R401). -/
def EFL.STAT_REVERSED : Fld := ⟨0x48, 15, 15, 0x4⟩
/-- EFL.STAT.FAIL_WHY (19 R401). -/
def EFL.STAT_FAIL_WHY : Fld := ⟨0x48, 14, 12, 0x4⟩
/-- EFL.STAT.WIDTH (19 R401). -/
def EFL.STAT_WIDTH : Fld := ⟨0x48, 11, 7, 0x4⟩
/-- EFL.STAT.RATE (19 R401). -/
def EFL.STAT_RATE : Fld := ⟨0x48, 6, 4, 0x4⟩
/-- EFL.STAT.PRSNT (19 R401). -/
def EFL.STAT_PRSNT : Fld := ⟨0x48, 3, 3, 0x4⟩
/-- EFL.STAT.STATE (19 R401). -/
def EFL.STAT_STATE : Fld := ⟨0x48, 2, 0, 0x4⟩
/-- EFL.LANES (19 R401). -/
def EFL.LANES : Fld := ⟨0x4C, 31, 0, 0x4⟩
/-- EFL.LANES.PARTNER (19 R401). -/
def EFL.LANES_PARTNER : Fld := ⟨0x4C, 31, 16, 0x4⟩
/-- EFL.LANES.GOOD (19 R401). -/
def EFL.LANES_GOOD : Fld := ⟨0x4C, 15, 0, 0x4⟩
/-- EFL.BIND (19 R401). -/
def EFL.BIND : Fld := ⟨0x50, 31, 0, 0x4⟩
/-- EFL.BIND.EN (19 R401). -/
def EFL.BIND_EN : Fld := ⟨0x50, 8, 8, 0x4⟩
/-- EFL.BIND.CTX (19 R401). -/
def EFL.BIND_CTX : Fld := ⟨0x50, 2, 0, 0x4⟩
/-- EFL.TXMASK (19 R401). -/
def EFL.TXMASK : Fld := ⟨0x54, 31, 0, 0x4⟩
/-- EFL.TXMASK.CTX (19 R401). -/
def EFL.TXMASK_CTX : Fld := ⟨0x54, 7, 0, 0x4⟩
/-- EFL.TX_KEY_LO (19 R401). -/
def EFL.TX_KEY_LO : Fld := ⟨0x58, 31, 0, 0x4⟩
/-- EFL.TX_KEY_HI (19 R401). -/
def EFL.TX_KEY_HI : Fld := ⟨0x5C, 31, 0, 0x4⟩
/-- EFL.RX_KEY_LO (19 R401). -/
def EFL.RX_KEY_LO : Fld := ⟨0x60, 31, 0, 0x4⟩
/-- EFL.RX_KEY_HI (19 R401). -/
def EFL.RX_KEY_HI : Fld := ⟨0x64, 31, 0, 0x4⟩
/-- EFL.CRC_CNT (19 R401). -/
def EFL.CRC_CNT : Fld := ⟨0x68, 31, 0, 0x4⟩
/-- EFL.REPLAY_CNT (19 R401). -/
def EFL.REPLAY_CNT : Fld := ⟨0x6C, 31, 0, 0x4⟩
/-- EFL.RETRAIN_CNT (19 R401). -/
def EFL.RETRAIN_CNT : Fld := ⟨0x70, 31, 0, 0x4⟩
/-- EFL.MCOUNT (19 R401). -/
def EFL.MCOUNT : Fld := ⟨0x74, 31, 0, 0x4⟩
/-- EFL.OUTST (19 R401). -/
def EFL.OUTST : Fld := ⟨0x78, 31, 0, 0x4⟩
/-- EFL.OUTST.INB (19 R401). -/
def EFL.OUTST_INB : Fld := ⟨0x78, 23, 16, 0x4⟩
/-- EFL.OUTST.OUTB (19 R401). -/
def EFL.OUTST_OUTB : Fld := ⟨0x78, 7, 0, 0x4⟩
/-- EFL.PRBS (19 R401). -/
def EFL.PRBS : Fld := ⟨0x80, 31, 0, 0x4⟩
/-- EFL.PRBS.LOCK (19 R401). -/
def EFL.PRBS_LOCK : Fld := ⟨0x80, 31, 16, 0x4⟩
/-- EFL.PRBS.CLR (19 R401). -/
def EFL.PRBS_CLR : Fld := ⟨0x80, 9, 9, 0x4⟩
/-- EFL.PRBS.INJ (19 R401). -/
def EFL.PRBS_INJ : Fld := ⟨0x80, 8, 8, 0x4⟩
/-- EFL.PRBS.RATE (19 R401). -/
def EFL.PRBS_RATE : Fld := ⟨0x80, 5, 4, 0x4⟩
/-- EFL.PRBS.MODE (19 R401). -/
def EFL.PRBS_MODE : Fld := ⟨0x80, 1, 0, 0x4⟩
/-- EFL.PRBS_ERR (19 R401). -/
def EFL.PRBS_ERR : Fld := ⟨0x100, 31, 0, 0x4⟩
/-- Registers of the EFL page (19 R401), part 0. -/
def EFL.regs0 : List RegSpec := [
  ⟨0x40, 1, 0x4, [⟨4, 4, .rw, 0, false⟩, ⟨3, 3, .wo, 0, false⟩, ⟨2, 2, .wo, 0, false⟩, ⟨1, 1, .wo, 0, false⟩, ⟨0, 0, .rw, 0x1, true⟩]⟩,
  ⟨0x44, 1, 0x4, [⟨23, 8, .rw, 0x3E8, true⟩, ⟨7, 7, .rw, 0x1, true⟩, ⟨6, 4, .rw, 0x7, true⟩, ⟨3, 0, .rw, 0xF, true⟩]⟩,
  ⟨0x48, 1, 0x4, [⟨31, 16, .ro, 0, false⟩, ⟨15, 15, .ro, 0, false⟩, ⟨14, 12, .ro, 0, false⟩, ⟨11, 7, .ro, 0, false⟩, ⟨6, 4, .ro, 0, false⟩, ⟨3, 3, .ro, 0, false⟩, ⟨2, 0, .ro, 0, false⟩]⟩,
  ⟨0x4C, 1, 0x4, [⟨31, 16, .ro, 0, false⟩, ⟨15, 0, .ro, 0, false⟩]⟩,
  ⟨0x50, 1, 0x4, [⟨8, 8, .rws, 0, false⟩, ⟨2, 0, .rws, 0, false⟩]⟩,
  ⟨0x54, 1, 0x4, [⟨7, 0, .rws, 0, false⟩]⟩,
  ⟨0x58, 1, 0x4, [⟨31, 0, .wo, 0, false⟩]⟩,
  ⟨0x5C, 1, 0x4, [⟨31, 0, .wo, 0, false⟩]⟩,
  ⟨0x60, 1, 0x4, [⟨31, 0, .wo, 0, false⟩]⟩,
  ⟨0x64, 1, 0x4, [⟨31, 0, .wo, 0, false⟩]⟩]
/-- Registers of the EFL page (19 R401), part 1. -/
def EFL.regs1 : List RegSpec := [
  ⟨0x68, 1, 0x4, [⟨31, 0, .rc, 0, false⟩]⟩,
  ⟨0x6C, 1, 0x4, [⟨31, 0, .rc, 0, false⟩]⟩,
  ⟨0x70, 1, 0x4, [⟨31, 0, .rc, 0, false⟩]⟩,
  ⟨0x74, 1, 0x4, [⟨31, 0, .ro, 0, false⟩]⟩,
  ⟨0x78, 1, 0x4, [⟨23, 16, .ro, 0, false⟩, ⟨7, 0, .ro, 0, false⟩]⟩,
  ⟨0x80, 1, 0x4, [⟨31, 16, .ro, 0, false⟩, ⟨9, 9, .wo, 0, false⟩, ⟨8, 8, .wo, 0, false⟩, ⟨5, 4, .rw, 0, false⟩, ⟨1, 0, .rw, 0, false⟩]⟩,
  ⟨0x100, 16, 0x4, [⟨31, 0, .ro, 0, false⟩]⟩]
/-- The registers of the EFL page. -/
def EFL.regs : List RegSpec := EFL.regs0 ++ EFL.regs1

end Sys2Proof.Machine
end

