-- ==== Sys2Proof/Machine/RegTableD.lean ====
section
/-! DEFINITION. The register tables of spec chapters 20 to 25: every register, its fields, access types and reset values. A value "per part", "per page" or "fuse" stands as 0 here and is computed where it is read. -/
namespace Sys2Proof.Machine

/-- CKR.CTRL (20 R421). -/
def CKR.CTRL : Fld := ⟨0x40, 31, 0, 0x4⟩
/-- CKR.CTRL.AUTO_RET (20 R421). -/
def CKR.CTRL_AUTO_RET : Fld := ⟨0x40, 1, 1, 0x4⟩
/-- CKR.CTRL.FINE (20 R421). -/
def CKR.CTRL_FINE : Fld := ⟨0x40, 0, 0, 0x4⟩
/-- CKR.STAT (20 R421). -/
def CKR.STAT : Fld := ⟨0x44, 31, 0, 0x4⟩
/-- CKR.STAT.ROOT_MHZ (20 R421). -/
def CKR.STAT_ROOT_MHZ : Fld := ⟨0x44, 31, 16, 0x4⟩
/-- CKR.STAT.GRADE (20 R421). -/
def CKR.STAT_GRADE : Fld := ⟨0x44, 9, 8, 0x4⟩
/-- CKR.STAT.LOCK (20 R421). -/
def CKR.STAT_LOCK : Fld := ⟨0x44, 6, 6, 0x4⟩
/-- CKR.STAT.REF_GOOD (20 R421). -/
def CKR.STAT_REF_GOOD : Fld := ⟨0x44, 5, 5, 0x4⟩
/-- CKR.STAT.FIO_QUAL (20 R421). -/
def CKR.STAT_FIO_QUAL : Fld := ⟨0x44, 4, 4, 0x4⟩
/-- CKR.STAT.FIO_RUN (20 R421). -/
def CKR.STAT_FIO_RUN : Fld := ⟨0x44, 3, 3, 0x4⟩
/-- CKR.STAT.REF (20 R421). -/
def CKR.STAT_REF : Fld := ⟨0x44, 2, 0, 0x4⟩
/-- CKR.MON (20 R421). -/
def CKR.MON : Fld := ⟨0x48, 31, 0, 0x4⟩
/-- CKR.MON.RET_MS (20 R421). -/
def CKR.MON_RET_MS : Fld := ⟨0x48, 31, 16, 0x4⟩
/-- CKR.MON.PPM (20 R421). -/
def CKR.MON_PPM : Fld := ⟨0x48, 15, 0, 0x4⟩
/-- CKR.CMD (20 R421). -/
def CKR.CMD : Fld := ⟨0x4C, 31, 0, 0x4⟩
/-- CKR.CMD.RETURN (20 R421). -/
def CKR.CMD_RETURN : Fld := ⟨0x4C, 0, 0, 0x4⟩
/-- CKR.RAMP (20 R421). -/
def CKR.RAMP : Fld := ⟨0x50, 31, 0, 0x4⟩
/-- CKR.RAMP.GO (20 R421). -/
def CKR.RAMP_GO : Fld := ⟨0x50, 0, 0, 0x4⟩
/-- CKR.MEAS (20 R421). -/
def CKR.MEAS : Fld := ⟨0x54, 31, 0, 0x4⟩
/-- CKR.TIME_LO (20 R421). -/
def CKR.TIME_LO : Fld := ⟨0x58, 31, 0, 0x4⟩
/-- CKR.TIME_HI (20 R421). -/
def CKR.TIME_HI : Fld := ⟨0x5C, 31, 0, 0x4⟩
/-- CKR.TRIPS (20 R421). -/
def CKR.TRIPS : Fld := ⟨0x60, 31, 0, 0x4⟩
/-- Registers of the CKR page (20 R421), part 0. -/
def CKR.regs0 : List RegSpec := [
  ⟨0x40, 1, 0x4, [⟨1, 1, .rw, 0x1, true⟩, ⟨0, 0, .rw, 0x1, true⟩]⟩,
  ⟨0x44, 1, 0x4, [⟨31, 16, .ro, 0, false⟩, ⟨9, 8, .ro, 0, false⟩, ⟨6, 6, .ro, 0, false⟩, ⟨5, 5, .ro, 0, false⟩, ⟨4, 4, .ro, 0, false⟩, ⟨3, 3, .ro, 0, false⟩, ⟨2, 0, .ro, 0, false⟩]⟩,
  ⟨0x48, 1, 0x4, [⟨31, 16, .rw, 0x64, true⟩, ⟨15, 0, .rw, 0x1F4, true⟩]⟩,
  ⟨0x4C, 1, 0x4, [⟨0, 0, .wo, 0, false⟩]⟩,
  ⟨0x50, 1, 0x4, [⟨0, 0, .wo, 0, false⟩]⟩,
  ⟨0x54, 1, 0x4, [⟨31, 0, .ro, 0, false⟩]⟩,
  ⟨0x58, 1, 0x4, [⟨31, 0, .ro, 0, false⟩]⟩,
  ⟨0x5C, 1, 0x4, [⟨31, 0, .ro, 0, false⟩]⟩,
  ⟨0x60, 1, 0x4, [⟨31, 0, .rc, 0, true⟩]⟩]
/-- The registers of the CKR page. -/
def CKR.regs : List RegSpec := CKR.regs0

/-- CLK.SYNC (20 R422). -/
def CLK.SYNC : Fld := ⟨0x40, 31, 0, 0x4⟩
/-- CLK.SYNC.WAIT (20 R422). -/
def CLK.SYNC_WAIT : Fld := ⟨0x40, 0, 0, 0x4⟩
/-- CLK.RAMPST (20 R422). -/
def CLK.RAMPST : Fld := ⟨0x44, 31, 0, 0x4⟩
/-- CLK.GATED (20 R422). -/
def CLK.GATED : Fld := ⟨0x48, 31, 0, 0x4⟩
/-- CLK.GATED.TRIP (20 R422). -/
def CLK.GATED_TRIP : Fld := ⟨0x48, 0, 0, 0x4⟩
/-- CLK.GCLK_CFG (20 R422). -/
def CLK.GCLK_CFG : Fld := ⟨0x80, 31, 0, 0x4⟩
/-- CLK.GCLK_CFG.EN (20 R422). -/
def CLK.GCLK_CFG_EN : Fld := ⟨0x80, 16, 16, 0x4⟩
/-- CLK.GCLK_CFG.DIV (20 R422). -/
def CLK.GCLK_CFG_DIV : Fld := ⟨0x80, 11, 0, 0x4⟩
/-- CLK.GCLK_CUR (20 R422). -/
def CLK.GCLK_CUR : Fld := ⟨0x100, 31, 0, 0x4⟩
/-- CLK.GCLK_CUR.DIV (20 R422). -/
def CLK.GCLK_CUR_DIV : Fld := ⟨0x100, 11, 0, 0x4⟩
/-- Registers of the CLK page (20 R422), part 0. -/
def CLK.regs0 : List RegSpec := [
  ⟨0x40, 1, 0x4, [⟨0, 0, .rw, 0, false⟩]⟩,
  ⟨0x44, 1, 0x4, [⟨31, 0, .ro, 0, false⟩]⟩,
  ⟨0x48, 1, 0x4, [⟨0, 0, .ro, 0, false⟩]⟩,
  ⟨0x80, 32, 0x4, [⟨16, 16, .rw, 0, false⟩, ⟨11, 0, .rws, 0x6, false⟩]⟩,
  ⟨0x100, 32, 0x4, [⟨11, 0, .ro, 0x6, false⟩]⟩]
/-- The registers of the CLK page. -/
def CLK.regs : List RegSpec := CLK.regs0

/-- PWR.LPD_CTRL (21 R439). -/
def PWR.LPD_CTRL : Fld := ⟨0x40, 31, 0, 0x4⟩
/-- PWR.LPD_CTRL.OFF (21 R439). -/
def PWR.LPD_CTRL_OFF : Fld := ⟨0x40, 15, 0, 0x4⟩
/-- PWR.LPD_STAT (21 R439). -/
def PWR.LPD_STAT : Fld := ⟨0x44, 31, 0, 0x4⟩
/-- PWR.LPD_STAT.BUSY (21 R439). -/
def PWR.LPD_STAT_BUSY : Fld := ⟨0x44, 31, 16, 0x4⟩
/-- PWR.LPD_STAT.OFF (21 R439). -/
def PWR.LPD_STAT_OFF : Fld := ⟨0x44, 15, 0, 0x4⟩
/-- PWR.VSET (21 R439). -/
def PWR.VSET : Fld := ⟨0x48, 31, 0, 0x4⟩
/-- PWR.VSET.VB (21 R439). -/
def PWR.VSET_VB : Fld := ⟨0x48, 31, 24, 0x4⟩
/-- PWR.VSET.VC (21 R439). -/
def PWR.VSET_VC : Fld := ⟨0x48, 23, 16, 0x4⟩
/-- PWR.VSET.VM (21 R439). -/
def PWR.VSET_VM : Fld := ⟨0x48, 15, 8, 0x4⟩
/-- PWR.VSET.VL (21 R439). -/
def PWR.VSET_VL : Fld := ⟨0x48, 7, 0, 0x4⟩
/-- PWR.PIN (21 R439). -/
def PWR.PIN : Fld := ⟨0x4C, 31, 0, 0x4⟩
/-- PWR.PIN.UNITS (21 R439). -/
def PWR.PIN_UNITS : Fld := ⟨0x4C, 15, 0, 0x4⟩
/-- PWR.PLAYER0 (21 R439). -/
def PWR.PLAYER0 : Fld := ⟨0x50, 31, 0, 0x4⟩
/-- PWR.PLAYER0.MEM (21 R439). -/
def PWR.PLAYER0_MEM : Fld := ⟨0x50, 31, 16, 0x4⟩
/-- PWR.PLAYER0.BASE (21 R439). -/
def PWR.PLAYER0_BASE : Fld := ⟨0x50, 15, 0, 0x4⟩
/-- PWR.PLAYER1 (21 R439). -/
def PWR.PLAYER1 : Fld := ⟨0x54, 31, 0, 0x4⟩
/-- PWR.PLAYER1.CFG (21 R439). -/
def PWR.PLAYER1_CFG : Fld := ⟨0x54, 31, 16, 0x4⟩
/-- PWR.PLAYER1.LOGIC (21 R439). -/
def PWR.PLAYER1_LOGIC : Fld := ⟨0x54, 15, 0, 0x4⟩
/-- PWR.LIMIT_CNT (21 R439). -/
def PWR.LIMIT_CNT : Fld := ⟨0x58, 31, 0, 0x4⟩
/-- PWR.LPWR (21 R439). -/
def PWR.LPWR : Fld := ⟨0x80, 31, 0, 0x4⟩
/-- PWR.LPWR.UNITS (21 R439). -/
def PWR.LPWR_UNITS : Fld := ⟨0x80, 15, 0, 0x4⟩
/-- PWR.PPWR (21 R439). -/
def PWR.PPWR : Fld := ⟨0x100, 31, 0, 0x4⟩
/-- PWR.PPWR.UNITS (21 R439). -/
def PWR.PPWR_UNITS : Fld := ⟨0x100, 15, 0, 0x4⟩
/-- Registers of the PWR page (21 R439), part 0. -/
def PWR.regs0 : List RegSpec := [
  ⟨0x40, 1, 0x4, [⟨15, 0, .rw, 0, true⟩]⟩,
  ⟨0x44, 1, 0x4, [⟨31, 16, .ro, 0, false⟩, ⟨15, 0, .ro, 0, true⟩]⟩,
  ⟨0x48, 1, 0x4, [⟨31, 24, .ro, 0, false⟩, ⟨23, 16, .ro, 0, false⟩, ⟨15, 8, .ro, 0, false⟩, ⟨7, 0, .ro, 0, false⟩]⟩,
  ⟨0x4C, 1, 0x4, [⟨15, 0, .ro, 0, false⟩]⟩,
  ⟨0x50, 1, 0x4, [⟨31, 16, .ro, 0, false⟩, ⟨15, 0, .ro, 0, false⟩]⟩,
  ⟨0x54, 1, 0x4, [⟨31, 16, .ro, 0, false⟩, ⟨15, 0, .ro, 0, false⟩]⟩,
  ⟨0x58, 1, 0x4, [⟨31, 0, .rc, 0, false⟩]⟩,
  ⟨0x80, 16, 0x4, [⟨15, 0, .ro, 0, false⟩]⟩,
  ⟨0x100, 32, 0x4, [⟨15, 0, .ro, 0, false⟩]⟩]
/-- The registers of the PWR page. -/
def PWR.regs : List RegSpec := PWR.regs0

/-- THM.SUSPECT_MARGIN (21 R440). -/
def THM.SUSPECT_MARGIN : Fld := ⟨0x40, 31, 0, 0x4⟩
/-- THM.SUSPECT_MARGIN.MARGIN (21 R440). -/
def THM.SUSPECT_MARGIN_MARGIN : Fld := ⟨0x40, 7, 0, 0x4⟩
/-- THM.LIMITS (21 R440). -/
def THM.LIMITS : Fld := ⟨0x44, 31, 0, 0x4⟩
/-- THM.LIMITS.STEP_C (21 R440). -/
def THM.LIMITS_STEP_C : Fld := ⟨0x44, 19, 16, 0x4⟩
/-- THM.LIMITS.TRIP_C (21 R440). -/
def THM.LIMITS_TRIP_C : Fld := ⟨0x44, 15, 8, 0x4⟩
/-- THM.LIMITS.THROTTLE_C (21 R440). -/
def THM.LIMITS_THROTTLE_C : Fld := ⟨0x44, 7, 0, 0x4⟩
/-- THM.MODEL (21 R440). -/
def THM.MODEL : Fld := ⟨0x48, 31, 0, 0x4⟩
/-- THM.MODEL.RTH_M (21 R440). -/
def THM.MODEL_RTH_M : Fld := ⟨0x48, 27, 16, 0x4⟩
/-- THM.MODEL.RTH_L (21 R440). -/
def THM.MODEL_RTH_L : Fld := ⟨0x48, 11, 0, 0x4⟩
/-- THM.RETRUST_S (21 R440). -/
def THM.RETRUST_S : Fld := ⟨0x4C, 31, 0, 0x4⟩
/-- THM.RETRUST_S.S (21 R440). -/
def THM.RETRUST_S_S : Fld := ⟨0x4C, 15, 0, 0x4⟩
/-- THM.HOT (21 R440). -/
def THM.HOT : Fld := ⟨0x50, 31, 0, 0x4⟩
/-- THM.HOT.SENSOR (21 R440). -/
def THM.HOT_SENSOR : Fld := ⟨0x50, 24, 16, 0x4⟩
/-- THM.HOT.TL (21 R440). -/
def THM.HOT_TL : Fld := ⟨0x50, 15, 14, 0x4⟩
/-- THM.HOT.T (21 R440). -/
def THM.HOT_T : Fld := ⟨0x50, 10, 0, 0x4⟩
/-- THM.TRIP_HOLD (21 R440). -/
def THM.TRIP_HOLD : Fld := ⟨0x54, 31, 0, 0x4⟩
/-- THM.TRIP_HOLD.MS (21 R440). -/
def THM.TRIP_HOLD_MS : Fld := ⟨0x54, 15, 0, 0x4⟩
/-- THM.SCOUNT (21 R440). -/
def THM.SCOUNT : Fld := ⟨0x58, 31, 0, 0x4⟩
/-- THM.SCOUNT.FAILED (21 R440). -/
def THM.SCOUNT_FAILED : Fld := ⟨0x58, 31, 16, 0x4⟩
/-- THM.SCOUNT.SUSPECT (21 R440). -/
def THM.SCOUNT_SUSPECT : Fld := ⟨0x58, 15, 0, 0x4⟩
/-- THM.SENSOR (21 R440). -/
def THM.SENSOR : Fld := ⟨0x400, 31, 0, 0x4⟩
/-- THM.SENSOR.STATE (21 R440). -/
def THM.SENSOR_STATE : Fld := ⟨0x400, 23, 22, 0x4⟩
/-- THM.SENSOR.INF (21 R440). -/
def THM.SENSOR_INF : Fld := ⟨0x400, 21, 11, 0x4⟩
/-- THM.SENSOR.READ (21 R440). -/
def THM.SENSOR_READ : Fld := ⟨0x400, 10, 0, 0x4⟩
/-- Registers of the THM page (21 R440), part 0. -/
def THM.regs0 : List RegSpec := [
  ⟨0x40, 1, 0x4, [⟨7, 0, .rw, 0x20, true⟩]⟩,
  ⟨0x44, 1, 0x4, [⟨19, 16, .rws, 0x2, true⟩, ⟨15, 8, .rws, 0x6E, true⟩, ⟨7, 0, .rws, 0x5F, true⟩]⟩,
  ⟨0x48, 1, 0x4, [⟨27, 16, .rws, 0x40, true⟩, ⟨11, 0, .rws, 0x140, true⟩]⟩,
  ⟨0x4C, 1, 0x4, [⟨15, 0, .rw, 0x3C, true⟩]⟩,
  ⟨0x50, 1, 0x4, [⟨24, 16, .ro, 0, false⟩, ⟨15, 14, .ro, 0, false⟩, ⟨10, 0, .ro, 0, false⟩]⟩,
  ⟨0x54, 1, 0x4, [⟨15, 0, .rw, 0x64, true⟩]⟩,
  ⟨0x58, 1, 0x4, [⟨31, 16, .ro, 0, false⟩, ⟨15, 0, .ro, 0, false⟩]⟩,
  ⟨0x400, 448, 0x4, [⟨23, 22, .ro, 0, false⟩, ⟨21, 11, .ro, 0, false⟩, ⟨10, 0, .ro, 0, false⟩]⟩]
/-- The registers of the THM page. -/
def THM.regs : List RegSpec := THM.regs0

/-- BGT.BUDGET (21 R441). -/
def BGT.BUDGET : Fld := ⟨0x40, 31, 0, 0x4⟩
/-- BGT.BUDGET.UNITS (21 R441). -/
def BGT.BUDGET_UNITS : Fld := ⟨0x40, 15, 0, 0x4⟩
/-- BGT.OTHER (21 R441). -/
def BGT.OTHER : Fld := ⟨0x44, 31, 0, 0x4⟩
/-- BGT.OTHER.UNITS (21 R441). -/
def BGT.OTHER_UNITS : Fld := ⟨0x44, 15, 0, 0x4⟩
/-- BGT.PERIOD (21 R441). -/
def BGT.PERIOD : Fld := ⟨0x48, 31, 0, 0x4⟩
/-- BGT.PERIOD.MS (21 R441). -/
def BGT.PERIOD_MS : Fld := ⟨0x48, 15, 0, 0x4⟩
/-- BGT.DWELL (21 R441). -/
def BGT.DWELL : Fld := ⟨0x4C, 31, 0, 0x4⟩
/-- BGT.DWELL.RUNS (21 R441). -/
def BGT.DWELL_RUNS : Fld := ⟨0x4C, 7, 0, 0x4⟩
/-- BGT.FMASK (21 R441). -/
def BGT.FMASK : Fld := ⟨0x50, 31, 0, 0x4⟩
/-- BGT.PKG_PWR (21 R441). -/
def BGT.PKG_PWR : Fld := ⟨0x60, 31, 0, 0x4⟩
/-- BGT.PKG_PWR.UNITS (21 R441). -/
def BGT.PKG_PWR_UNITS : Fld := ⟨0x60, 15, 0, 0x4⟩
/-- BGT.FLOOR (21 R441). -/
def BGT.FLOOR : Fld := ⟨0x64, 31, 0, 0x4⟩
/-- BGT.FLOOR.LEVEL (21 R441). -/
def BGT.FLOOR_LEVEL : Fld := ⟨0x64, 2, 0, 0x4⟩
/-- BGT.LEVEL (21 R441). -/
def BGT.LEVEL : Fld := ⟨0x80, 31, 0, 0x4⟩
/-- BGT.LEVEL.FCODE (21 R441). -/
def BGT.LEVEL_FCODE : Fld := ⟨0x80, 29, 28, 0x4⟩
/-- BGT.LEVEL.LMAX (21 R441). -/
def BGT.LEVEL_LMAX : Fld := ⟨0x80, 26, 24, 0x4⟩
/-- BGT.LEVEL.L3 (21 R441). -/
def BGT.LEVEL_L3 : Fld := ⟨0x80, 14, 12, 0x4⟩
/-- BGT.LEVEL.L2 (21 R441). -/
def BGT.LEVEL_L2 : Fld := ⟨0x80, 10, 8, 0x4⟩
/-- BGT.LEVEL.L1 (21 R441). -/
def BGT.LEVEL_L1 : Fld := ⟨0x80, 6, 4, 0x4⟩
/-- BGT.LEVEL.L0 (21 R441). -/
def BGT.LEVEL_L0 : Fld := ⟨0x80, 2, 0, 0x4⟩
/-- BGT.PLEVEL (21 R441). -/
def BGT.PLEVEL : Fld := ⟨0x84, 31, 0, 0x4⟩
/-- BGT.TLEVEL (21 R441). -/
def BGT.TLEVEL : Fld := ⟨0x88, 31, 0, 0x4⟩
/-- BGT.THR_CNT (21 R441). -/
def BGT.THR_CNT : Fld := ⟨0x8C, 31, 0, 0x4⟩
/-- Registers of the BGT page (21 R441), part 0. -/
def BGT.regs0 : List RegSpec := [
  ⟨0x40, 1, 0x4, [⟨15, 0, .rws, 0x708, true⟩]⟩,
  ⟨0x44, 1, 0x4, [⟨15, 0, .rws, 0x150, true⟩]⟩,
  ⟨0x48, 1, 0x4, [⟨15, 0, .rw, 0x1, false⟩]⟩,
  ⟨0x4C, 1, 0x4, [⟨7, 0, .rws, 0xA, false⟩]⟩,
  ⟨0x50, 4, 0x4, [⟨31, 0, .rws, 0, true⟩]⟩,
  ⟨0x60, 1, 0x4, [⟨15, 0, .ro, 0, false⟩]⟩,
  ⟨0x64, 1, 0x4, [⟨2, 0, .rw, 0, false⟩]⟩,
  ⟨0x80, 1, 0x4, [⟨29, 28, .ro, 0, false⟩, ⟨26, 24, .ro, 0, false⟩, ⟨14, 12, .ro, 0, false⟩, ⟨10, 8, .ro, 0, false⟩, ⟨6, 4, .ro, 0, false⟩, ⟨2, 0, .ro, 0, false⟩]⟩,
  ⟨0x84, 1, 0x4, [⟨31, 0, .ro, 0, false⟩]⟩,
  ⟨0x88, 1, 0x4, [⟨31, 0, .ro, 0, false⟩]⟩]
/-- Registers of the BGT page (21 R441), part 1. -/
def BGT.regs1 : List RegSpec := [
  ⟨0x8C, 1, 0x4, [⟨31, 0, .rc, 0, false⟩]⟩]
/-- The registers of the BGT page. -/
def BGT.regs : List RegSpec := BGT.regs0 ++ BGT.regs1

/-- ANO.STAT (22 R460). -/
def ANO.STAT : Fld := ⟨0x40, 31, 0, 0x4⟩
/-- ANO.STAT.READY (22 R460). -/
def ANO.STAT_READY : Fld := ⟨0x40, 4, 4, 0x4⟩
/-- ANO.STAT.ROM (22 R460). -/
def ANO.STAT_ROM : Fld := ⟨0x40, 3, 3, 0x4⟩
/-- ANO.STAT.SLOT (22 R460). -/
def ANO.STAT_SLOT : Fld := ⟨0x40, 2, 2, 0x4⟩
/-- ANO.STAT.STBY_OK (22 R460). -/
def ANO.STAT_STBY_OK : Fld := ⟨0x40, 1, 1, 0x4⟩
/-- ANO.STAT.ACTIVE (22 R460). -/
def ANO.STAT_ACTIVE : Fld := ⟨0x40, 0, 0, 0x4⟩
/-- ANO.FW_VER (22 R460). -/
def ANO.FW_VER : Fld := ⟨0x44, 31, 0, 0x4⟩
/-- ANO.FW_SVN (22 R460). -/
def ANO.FW_SVN : Fld := ⟨0x48, 31, 0, 0x4⟩
/-- ANO.MB_CMD (22 R460). -/
def ANO.MB_CMD : Fld := ⟨0x4C, 31, 0, 0x4⟩
/-- ANO.MB_CMD.GO (22 R460). -/
def ANO.MB_CMD_GO : Fld := ⟨0x4C, 31, 31, 0x4⟩
/-- ANO.MB_CMD.OP (22 R460). -/
def ANO.MB_CMD_OP : Fld := ⟨0x4C, 7, 0, 0x4⟩
/-- ANO.MB_LEN (22 R460). -/
def ANO.MB_LEN : Fld := ⟨0x50, 31, 0, 0x4⟩
/-- ANO.MB_LEN.LEN (22 R460). -/
def ANO.MB_LEN_LEN : Fld := ⟨0x50, 14, 0, 0x4⟩
/-- ANO.MB_STAT (22 R460). -/
def ANO.MB_STAT : Fld := ⟨0x54, 31, 0, 0x4⟩
/-- ANO.MB_STAT.RSP_LEN (22 R460). -/
def ANO.MB_STAT_RSP_LEN : Fld := ⟨0x54, 30, 16, 0x4⟩
/-- ANO.MB_STAT.STATUS (22 R460). -/
def ANO.MB_STAT_STATUS : Fld := ⟨0x54, 15, 8, 0x4⟩
/-- ANO.MB_STAT.DONE (22 R460). -/
def ANO.MB_STAT_DONE : Fld := ⟨0x54, 1, 1, 0x4⟩
/-- ANO.MB_STAT.BUSY (22 R460). -/
def ANO.MB_STAT_BUSY : Fld := ⟨0x54, 0, 0, 0x4⟩
/-- ANO.MB_WIN (22 R460). -/
def ANO.MB_WIN : Fld := ⟨0x58, 31, 0, 0x4⟩
/-- ANO.MB_WIN.PART (22 R460). -/
def ANO.MB_WIN_PART : Fld := ⟨0x58, 2, 0, 0x4⟩
/-- ANO.MB_ARG0 (22 R460). -/
def ANO.MB_ARG0 : Fld := ⟨0x5C, 31, 0, 0x4⟩
/-- ANO.MB_ARG1 (22 R460). -/
def ANO.MB_ARG1 : Fld := ⟨0x60, 31, 0, 0x4⟩
/-- ANO.BTN (22 R460). -/
def ANO.BTN : Fld := ⟨0x64, 31, 0, 0x4⟩
/-- ANO.BTN.MS (22 R460). -/
def ANO.BTN_MS : Fld := ⟨0x64, 31, 16, 0x4⟩
/-- ANO.BTN.HELD (22 R460). -/
def ANO.BTN_HELD : Fld := ⟨0x64, 2, 2, 0x4⟩
/-- ANO.BTN.CLASS (22 R460). -/
def ANO.BTN_CLASS : Fld := ⟨0x64, 1, 0, 0x4⟩
/-- ANO.CRK (22 R460). -/
def ANO.CRK : Fld := ⟨0x68, 31, 0, 0x4⟩
/-- ANO.CRK.WRAPPED (22 R460). -/
def ANO.CRK_WRAPPED : Fld := ⟨0x68, 13, 13, 0x4⟩
/-- ANO.CRK.FROZEN (22 R460). -/
def ANO.CRK_FROZEN : Fld := ⟨0x68, 12, 12, 0x4⟩
/-- ANO.CRK.WP (22 R460). -/
def ANO.CRK_WP : Fld := ⟨0x68, 11, 0, 0x4⟩
/-- ANO.CRK_SEQ (22 R460). -/
def ANO.CRK_SEQ : Fld := ⟨0x6C, 31, 0, 0x4⟩
/-- ANO.CRK_LOST (22 R460). -/
def ANO.CRK_LOST : Fld := ⟨0x70, 31, 0, 0x4⟩
/-- ANO.MCTP_CFG (22 R460). -/
def ANO.MCTP_CFG : Fld := ⟨0x74, 31, 0, 0x4⟩
/-- ANO.MCTP_CFG.EID (22 R460). -/
def ANO.MCTP_CFG_EID : Fld := ⟨0x74, 15, 8, 0x4⟩
/-- ANO.MCTP_CFG.BUS (22 R460). -/
def ANO.MCTP_CFG_BUS : Fld := ⟨0x74, 7, 7, 0x4⟩
/-- ANO.MCTP_CFG.SMB_ADDR (22 R460). -/
def ANO.MCTP_CFG_SMB_ADDR : Fld := ⟨0x74, 6, 0, 0x4⟩
/-- ANO.MB_DATA (22 R460). -/
def ANO.MB_DATA : Fld := ⟨0x800, 31, 0, 0x4⟩
/-- Registers of the ANO page (22 R460), part 0. -/
def ANO.regs0 : List RegSpec := [
  ⟨0x40, 1, 0x4, [⟨4, 4, .ro, 0, false⟩, ⟨3, 3, .ro, 0, false⟩, ⟨2, 2, .ro, 0, false⟩, ⟨1, 1, .ro, 0, false⟩, ⟨0, 0, .ro, 0, true⟩]⟩,
  ⟨0x44, 1, 0x4, [⟨31, 0, .ro, 0, false⟩]⟩,
  ⟨0x48, 1, 0x4, [⟨31, 0, .ro, 0, false⟩]⟩,
  ⟨0x4C, 1, 0x4, [⟨31, 31, .wo, 0, false⟩, ⟨7, 0, .rw, 0, false⟩]⟩,
  ⟨0x50, 1, 0x4, [⟨14, 0, .rw, 0, false⟩]⟩,
  ⟨0x54, 1, 0x4, [⟨30, 16, .ro, 0, false⟩, ⟨15, 8, .ro, 0, false⟩, ⟨1, 1, .ro, 0, false⟩, ⟨0, 0, .ro, 0, false⟩]⟩,
  ⟨0x58, 1, 0x4, [⟨2, 0, .rw, 0, false⟩]⟩,
  ⟨0x5C, 1, 0x4, [⟨31, 0, .rw, 0, false⟩]⟩,
  ⟨0x60, 1, 0x4, [⟨31, 0, .rw, 0, false⟩]⟩,
  ⟨0x64, 1, 0x4, [⟨31, 16, .ro, 0, false⟩, ⟨2, 2, .ro, 0, false⟩, ⟨1, 0, .ro, 0, false⟩]⟩]
/-- Registers of the ANO page (22 R460), part 1. -/
def ANO.regs1 : List RegSpec := [
  ⟨0x68, 1, 0x4, [⟨13, 13, .ro, 0, true⟩, ⟨12, 12, .ro, 0, true⟩, ⟨11, 0, .ro, 0, true⟩]⟩,
  ⟨0x6C, 1, 0x4, [⟨31, 0, .ro, 0, true⟩]⟩,
  ⟨0x70, 1, 0x4, [⟨31, 0, .rc, 0, true⟩]⟩,
  ⟨0x74, 1, 0x4, [⟨15, 8, .ro, 0, false⟩, ⟨7, 7, .rw, 0, true⟩, ⟨6, 0, .rw, 0x64, true⟩]⟩,
  ⟨0x800, 512, 0x4, [⟨31, 0, .rw, 0, false⟩]⟩]
/-- The registers of the ANO page. -/
def ANO.regs : List RegSpec := ANO.regs0 ++ ANO.regs1

/-- FUS.STATE (22 R462). -/
def FUS.STATE : Fld := ⟨0x40, 31, 0, 0x4⟩
/-- FUS.STATE.OWN_IKEY (22 R462). -/
def FUS.STATE_OWN_IKEY : Fld := ⟨0x40, 2, 2, 0x4⟩
/-- FUS.STATE.ENROLLED (22 R462). -/
def FUS.STATE_ENROLLED : Fld := ⟨0x40, 1, 1, 0x4⟩
/-- FUS.STATE.OP (22 R462). -/
def FUS.STATE_OP : Fld := ⟨0x40, 0, 0, 0x4⟩
/-- FUS.FW_CTR (22 R462). -/
def FUS.FW_CTR : Fld := ⟨0x44, 31, 0, 0x4⟩
/-- FUS.FW_CTR.VALUE (22 R462). -/
def FUS.FW_CTR_VALUE : Fld := ⟨0x44, 6, 0, 0x4⟩
/-- FUS.CFG_CTR (22 R462). -/
def FUS.CFG_CTR : Fld := ⟨0x48, 31, 0, 0x4⟩
/-- FUS.CFG_CTR.VALUE (22 R462). -/
def FUS.CFG_CTR_VALUE : Fld := ⟨0x48, 6, 0, 0x4⟩
/-- FUS.OP_REVOKE (22 R462). -/
def FUS.OP_REVOKE : Fld := ⟨0x4C, 31, 0, 0x4⟩
/-- FUS.OP_REVOKE.KEY (22 R462). -/
def FUS.OP_REVOKE_KEY : Fld := ⟨0x4C, 15, 0, 0x4⟩
/-- FUS.SERIAL_LO (22 R462). -/
def FUS.SERIAL_LO : Fld := ⟨0x50, 31, 0, 0x4⟩
/-- FUS.SERIAL_HI (22 R462). -/
def FUS.SERIAL_HI : Fld := ⟨0x54, 31, 0, 0x4⟩
/-- FUS.REPAIR (22 R462). -/
def FUS.REPAIR : Fld := ⟨0x58, 31, 0, 0x4⟩
/-- FUS.REPAIR.SEQ (22 R462). -/
def FUS.REPAIR_SEQ : Fld := ⟨0x58, 31, 16, 0x4⟩
/-- FUS.REPAIR.DIVERGE (22 R462). -/
def FUS.REPAIR_DIVERGE : Fld := ⟨0x58, 3, 3, 0x4⟩
/-- FUS.REPAIR.CRC_OK (22 R462). -/
def FUS.REPAIR_CRC_OK : Fld := ⟨0x58, 2, 0, 0x4⟩
/-- FUS.REPAIR_FREE (22 R462). -/
def FUS.REPAIR_FREE : Fld := ⟨0x5C, 31, 0, 0x4⟩
/-- FUS.REPAIR_FREE.RECORDS (22 R462). -/
def FUS.REPAIR_FREE_RECORDS : Fld := ⟨0x5C, 15, 0, 0x4⟩
/-- FUS.DEVID (22 R462). -/
def FUS.DEVID : Fld := ⟨0x100, 31, 0, 0x4⟩
/-- Registers of the FUS page (22 R462), part 0. -/
def FUS.regs0 : List RegSpec := [
  ⟨0x40, 1, 0x4, [⟨2, 2, .ro, 0, false⟩, ⟨1, 1, .ro, 0, false⟩, ⟨0, 0, .ro, 0, false⟩]⟩,
  ⟨0x44, 1, 0x4, [⟨6, 0, .ro, 0, false⟩]⟩,
  ⟨0x48, 1, 0x4, [⟨6, 0, .ro, 0, false⟩]⟩,
  ⟨0x4C, 1, 0x4, [⟨15, 0, .ro, 0, false⟩]⟩,
  ⟨0x50, 1, 0x4, [⟨31, 0, .ro, 0, false⟩]⟩,
  ⟨0x54, 1, 0x4, [⟨31, 0, .ro, 0, false⟩]⟩,
  ⟨0x58, 1, 0x4, [⟨31, 16, .ro, 0, false⟩, ⟨3, 3, .ro, 0, false⟩, ⟨2, 0, .ro, 0, false⟩]⟩,
  ⟨0x5C, 1, 0x4, [⟨15, 0, .ro, 0, false⟩]⟩,
  ⟨0x100, 12, 0x4, [⟨31, 0, .ro, 0, false⟩]⟩]
/-- The registers of the FUS page. -/
def FUS.regs : List RegSpec := FUS.regs0

/-- VBD.CTRL (23 R483). -/
def VBD.CTRL : Fld := ⟨0x40, 31, 0, 0x4⟩
/-- VBD.CTRL.TEST_EN (23 R483). -/
def VBD.CTRL_TEST_EN : Fld := ⟨0x40, 1, 1, 0x4⟩
/-- VBD.CTRL.MON_EN (23 R483). -/
def VBD.CTRL_MON_EN : Fld := ⟨0x40, 0, 0, 0x4⟩
/-- VBD.TEST (23 R483). -/
def VBD.TEST : Fld := ⟨0x44, 31, 0, 0x4⟩
/-- VBD.TEST.US (23 R483). -/
def VBD.TEST_US : Fld := ⟨0x44, 15, 0, 0x4⟩
/-- VBD.STAT (23 R483). -/
def VBD.STAT : Fld := ⟨0x48, 31, 0, 0x4⟩
/-- VBD.STAT.STEERED (23 R483). -/
def VBD.STAT_STEERED : Fld := ⟨0x48, 31, 16, 0x4⟩
/-- VBD.STAT.LAME (23 R483). -/
def VBD.STAT_LAME : Fld := ⟨0x48, 15, 0, 0x4⟩
/-- VBD.SVC_STAT (23 R483). -/
def VBD.SVC_STAT : Fld := ⟨0x4C, 31, 0, 0x4⟩
/-- VBD.SVC_STAT.UPPER_DOWN (23 R483). -/
def VBD.SVC_STAT_UPPER_DOWN : Fld := ⟨0x4C, 16, 16, 0x4⟩
/-- VBD.SVC_STAT.LAME (23 R483). -/
def VBD.SVC_STAT_LAME : Fld := ⟨0x4C, 15, 0, 0x4⟩
/-- VBD.DLC_CNT (23 R483). -/
def VBD.DLC_CNT : Fld := ⟨0x50, 31, 0, 0x4⟩
/-- VBD.MAP_CNT (23 R483). -/
def VBD.MAP_CNT : Fld := ⟨0x54, 31, 0, 0x4⟩
/-- VBD.MAP_CNT.N (23 R483). -/
def VBD.MAP_CNT_N : Fld := ⟨0x54, 8, 0, 0x4⟩
/-- VBD.LMAP_LO (23 R483). -/
def VBD.LMAP_LO : Fld := ⟨0x1000, 31, 0, 0x8⟩
/-- VBD.LMAP_LO.VALID (23 R483). -/
def VBD.LMAP_LO_VALID : Fld := ⟨0x1000, 31, 31, 0x8⟩
/-- VBD.LMAP_LO.KIND (23 R483). -/
def VBD.LMAP_LO_KIND : Fld := ⟨0x1000, 18, 16, 0x8⟩
/-- VBD.LMAP_LO.GROUP (23 R483). -/
def VBD.LMAP_LO_GROUP : Fld := ⟨0x1000, 15, 0, 0x8⟩
/-- VBD.LMAP_HI (23 R483). -/
def VBD.LMAP_HI : Fld := ⟨0x1004, 31, 0, 0x8⟩
/-- VBD.GTAB_SP (23 R483). -/
def VBD.GTAB_SP : Fld := ⟨0xD000, 31, 0, 0x8⟩
/-- VBD.GTAB_SP.SP3 (23 R483). -/
def VBD.GTAB_SP_SP3 : Fld := ⟨0xD000, 31, 24, 0x8⟩
/-- VBD.GTAB_SP.SP2 (23 R483). -/
def VBD.GTAB_SP_SP2 : Fld := ⟨0xD000, 23, 16, 0x8⟩
/-- VBD.GTAB_SP.SP1 (23 R483). -/
def VBD.GTAB_SP_SP1 : Fld := ⟨0xD000, 15, 8, 0x8⟩
/-- VBD.GTAB_SP.SP0 (23 R483). -/
def VBD.GTAB_SP_SP0 : Fld := ⟨0xD000, 7, 0, 0x8⟩
/-- VBD.GTAB_ST (23 R483). -/
def VBD.GTAB_ST : Fld := ⟨0xD004, 31, 0, 0x8⟩
/-- VBD.GTAB_ST.LAST_SIG (23 R483). -/
def VBD.GTAB_ST_LAST_SIG : Fld := ⟨0xD004, 21, 16, 0x8⟩
/-- VBD.GTAB_ST.WATCH_K (23 R483). -/
def VBD.GTAB_ST_WATCH_K : Fld := ⟨0xD004, 13, 8, 0x8⟩
/-- VBD.GTAB_ST.STATE (23 R483). -/
def VBD.GTAB_ST_STATE : Fld := ⟨0xD004, 2, 0, 0x8⟩
/-- Registers of the VBD page (23 R483), part 0. -/
def VBD.regs0 : List RegSpec := [
  ⟨0x40, 1, 0x4, [⟨1, 1, .rw, 0x1, true⟩, ⟨0, 0, .rw, 0x1, true⟩]⟩,
  ⟨0x44, 1, 0x4, [⟨15, 0, .rw, 0x3E8, false⟩]⟩,
  ⟨0x48, 1, 0x4, [⟨31, 16, .ro, 0, true⟩, ⟨15, 0, .ro, 0, true⟩]⟩,
  ⟨0x4C, 1, 0x4, [⟨16, 16, .ro, 0, true⟩, ⟨15, 0, .ro, 0, true⟩]⟩,
  ⟨0x50, 1, 0x4, [⟨31, 0, .rc, 0, false⟩]⟩,
  ⟨0x54, 1, 0x4, [⟨8, 0, .ro, 0, true⟩]⟩,
  ⟨0x1000, 256, 0x8, [⟨31, 31, .ro, 0, true⟩, ⟨18, 16, .ro, 0, false⟩, ⟨15, 0, .ro, 0, true⟩]⟩,
  ⟨0x1004, 256, 0x8, [⟨31, 0, .ro, 0, true⟩]⟩,
  ⟨0xD000, 41776, 0x8, [⟨31, 24, .ro, 0, true⟩, ⟨23, 16, .ro, 0, true⟩, ⟨15, 8, .ro, 0, true⟩, ⟨7, 0, .ro, 0, true⟩]⟩,
  ⟨0xD004, 41776, 0x8, [⟨21, 16, .ro, 0, true⟩, ⟨13, 8, .ro, 0, false⟩, ⟨2, 0, .ro, 0, true⟩]⟩]
/-- The registers of the VBD page. -/
def VBD.regs : List RegSpec := VBD.regs0

/-- PKG.RST_STAT (24 R496). -/
def PKG.RST_STAT : Fld := ⟨0x80, 31, 0, 0x4⟩
/-- PKG.RST_STAT.BOOT_MS (24 R496). -/
def PKG.RST_STAT_BOOT_MS : Fld := ⟨0x80, 31, 16, 0x4⟩
/-- PKG.RST_STAT.CAUSE (24 R496). -/
def PKG.RST_STAT_CAUSE : Fld := ⟨0x80, 5, 4, 0x4⟩
/-- PKG.RST_STAT.HOLDOVER (24 R496). -/
def PKG.RST_STAT_HOLDOVER : Fld := ⟨0x80, 3, 3, 0x4⟩
/-- PKG.RST_STAT.STAGE (24 R496). -/
def PKG.RST_STAT_STAGE : Fld := ⟨0x80, 2, 0, 0x4⟩
/-- PKG.RST_CFG (24 R496). -/
def PKG.RST_CFG : Fld := ⟨0x84, 31, 0, 0x4⟩
/-- PKG.RST_CFG.WARM_REL (24 R496). -/
def PKG.RST_CFG_WARM_REL : Fld := ⟨0x84, 0, 0, 0x4⟩
/-- PKG.CTX_RST (24 R496). -/
def PKG.CTX_RST : Fld := ⟨0x88, 31, 0, 0x4⟩
/-- PKG.CTX_RST.GO (24 R496). -/
def PKG.CTX_RST_GO : Fld := ⟨0x88, 8, 8, 0x4⟩
/-- PKG.CTX_RST.CTX_MASK (24 R496). -/
def PKG.CTX_RST_CTX_MASK : Fld := ⟨0x88, 7, 0, 0x4⟩
/-- PKG.CTX_HOLD (24 R496). -/
def PKG.CTX_HOLD : Fld := ⟨0x8C, 31, 0, 0x4⟩
/-- PKG.CTX_HOLD.CYCLES (24 R496). -/
def PKG.CTX_HOLD_CYCLES : Fld := ⟨0x8C, 15, 0, 0x4⟩
/-- PKG.CTX_STAT (24 R496). -/
def PKG.CTX_STAT : Fld := ⟨0x90, 31, 0, 0x4⟩
/-- PKG.CTX_STAT.REJ (24 R496). -/
def PKG.CTX_STAT_REJ : Fld := ⟨0x90, 15, 8, 0x4⟩
/-- PKG.CTX_STAT.ACTIVE (24 R496). -/
def PKG.CTX_STAT_ACTIVE : Fld := ⟨0x90, 7, 0, 0x4⟩
/-- PKG.IDCODE (25 R514). -/
def PKG.IDCODE : Fld := ⟨0x40, 31, 0, 0x4⟩
/-- PKG.PART (25 R514). -/
def PKG.PART : Fld := ⟨0x44, 31, 0, 0x4⟩
/-- PKG.PART.GRADE (25 R514). -/
def PKG.PART_GRADE : Fld := ⟨0x44, 9, 8, 0x4⟩
/-- PKG.PART.TEMP_I (25 R514). -/
def PKG.PART_TEMP_I : Fld := ⟨0x44, 4, 4, 0x4⟩
/-- PKG.PART.OP (25 R514). -/
def PKG.PART_OP : Fld := ⟨0x44, 0, 0, 0x4⟩
/-- PKG.STRAP (25 R514). -/
def PKG.STRAP : Fld := ⟨0x48, 31, 0, 0x4⟩
/-- PKG.STRAP.PE_BIF (25 R514). -/
def PKG.STRAP_PE_BIF : Fld := ⟨0x48, 0, 0, 0x4⟩
/-- PKG.JTAG_CTRL (25 R514). -/
def PKG.JTAG_CTRL : Fld := ⟨0x4C, 31, 0, 0x4⟩
/-- PKG.JTAG_CTRL.CUR (25 R514). -/
def PKG.JTAG_CTRL_CUR : Fld := ⟨0x4C, 1, 1, 0x4⟩
/-- PKG.JTAG_CTRL.PINCTL (25 R514). -/
def PKG.JTAG_CTRL_PINCTL : Fld := ⟨0x4C, 0, 0, 0x4⟩
/-- PKG.LED_CTRL (25 R514). -/
def PKG.LED_CTRL : Fld := ⟨0x50, 31, 0, 0x4⟩
/-- PKG.LED_CTRL.VAL (25 R514). -/
def PKG.LED_CTRL_VAL : Fld := ⟨0x50, 7, 4, 0x4⟩
/-- PKG.LED_CTRL.OVR (25 R514). -/
def PKG.LED_CTRL_OVR : Fld := ⟨0x50, 3, 0, 0x4⟩
/-- Registers of the PKG page (24 R496, 25 R514), part 0. -/
def PKG.regs0 : List RegSpec := [
  ⟨0x80, 1, 0x4, [⟨31, 16, .ro, 0, false⟩, ⟨5, 4, .ro, 0, false⟩, ⟨3, 3, .ro, 0, false⟩, ⟨2, 0, .ro, 0, false⟩]⟩,
  ⟨0x84, 1, 0x4, [⟨0, 0, .rw, 0x1, true⟩]⟩,
  ⟨0x88, 1, 0x4, [⟨8, 8, .wo, 0, false⟩, ⟨7, 0, .wo, 0, false⟩]⟩,
  ⟨0x8C, 1, 0x4, [⟨15, 0, .rw, 0x10, false⟩]⟩,
  ⟨0x90, 1, 0x4, [⟨15, 8, .ro, 0, false⟩, ⟨7, 0, .ro, 0, false⟩]⟩,
  ⟨0x40, 1, 0x4, [⟨31, 0, .ro, 0x354805EF, false⟩]⟩,
  ⟨0x44, 1, 0x4, [⟨9, 8, .ro, 0, false⟩, ⟨4, 4, .ro, 0, false⟩, ⟨0, 0, .ro, 0, false⟩]⟩,
  ⟨0x48, 1, 0x4, [⟨0, 0, .ro, 0, true⟩]⟩,
  ⟨0x4C, 1, 0x4, [⟨1, 1, .ro, 0, false⟩, ⟨0, 0, .rw, 0, true⟩]⟩,
  ⟨0x50, 1, 0x4, [⟨7, 4, .rw, 0, false⟩, ⟨3, 0, .rw, 0, false⟩]⟩]
/-- The registers of the PKG page. -/
def PKG.regs : List RegSpec := PKG.regs0

/-- IOB.BANK_OWNER (25 R508). -/
def IOB.BANK_OWNER : Fld := ⟨0x40, 31, 0, 0x4⟩
/-- IOB.BANK_OWNER.CTX (25 R508). -/
def IOB.BANK_OWNER_CTX : Fld := ⟨0x40, 2, 0, 0x4⟩
/-- IOB.BANK_CFG (25 R508). -/
def IOB.BANK_CFG : Fld := ⟨0x44, 31, 0, 0x4⟩
/-- IOB.BANK_CFG.VIO_OK (25 R508). -/
def IOB.BANK_CFG_VIO_OK : Fld := ⟨0x44, 5, 5, 0x4⟩
/-- IOB.BANK_CFG.VIO_18 (25 R508). -/
def IOB.BANK_CFG_VIO_18 : Fld := ⟨0x44, 4, 4, 0x4⟩
/-- IOB.BANK_CFG.LOAD_STATE (25 R508). -/
def IOB.BANK_CFG_LOAD_STATE : Fld := ⟨0x44, 1, 0, 0x4⟩
/-- IOB.PIN_CFG (25 R508). -/
def IOB.PIN_CFG : Fld := ⟨0x80, 31, 0, 0x4⟩
/-- IOB.PIN_CFG.TERM (25 R508). -/
def IOB.PIN_CFG_TERM : Fld := ⟨0x80, 8, 8, 0x4⟩
/-- IOB.PIN_CFG.OSRC (25 R508). -/
def IOB.PIN_CFG_OSRC : Fld := ⟨0x80, 7, 7, 0x4⟩
/-- IOB.PIN_CFG.PULL (25 R508). -/
def IOB.PIN_CFG_PULL : Fld := ⟨0x80, 6, 5, 0x4⟩
/-- IOB.PIN_CFG.SLOW (25 R508). -/
def IOB.PIN_CFG_SLOW : Fld := ⟨0x80, 4, 4, 0x4⟩
/-- IOB.PIN_CFG.DRIVE (25 R508). -/
def IOB.PIN_CFG_DRIVE : Fld := ⟨0x80, 3, 2, 0x4⟩
/-- IOB.PIN_CFG.MODE (25 R508). -/
def IOB.PIN_CFG_MODE : Fld := ⟨0x80, 1, 0, 0x4⟩
/-- IOB.PIN_IN (25 R508). -/
def IOB.PIN_IN : Fld := ⟨0xC0, 31, 0, 0x4⟩
/-- IOB.PIN_IN.IN (25 R508). -/
def IOB.PIN_IN_IN : Fld := ⟨0xC0, 15, 0, 0x4⟩
/-- Registers of the IOB page (25 R508), part 0. -/
def IOB.regs0 : List RegSpec := [
  ⟨0x40, 1, 0x4, [⟨2, 0, .rws, 0, true⟩]⟩,
  ⟨0x44, 1, 0x4, [⟨5, 5, .ro, 0, false⟩, ⟨4, 4, .ro, 0, false⟩, ⟨1, 0, .rw, 0, true⟩]⟩,
  ⟨0x80, 16, 0x4, [⟨8, 8, .rws, 0, true⟩, ⟨7, 7, .rws, 0, true⟩, ⟨6, 5, .rws, 0, true⟩, ⟨4, 4, .rws, 0, true⟩, ⟨3, 2, .rws, 0, true⟩, ⟨1, 0, .rws, 0, true⟩]⟩,
  ⟨0xC0, 1, 0x4, [⟨15, 0, .ro, 0, false⟩]⟩]
/-- The registers of the IOB page. -/
def IOB.regs : List RegSpec := IOB.regs0

end Sys2Proof.Machine
end

