-- ==== Sys2Proof/Machine/Pages.lean ====
section
/-! DEFINITION. The management address space (02 R20, R21): where each page lies, its class, its event source, the
register at an offset, and what each register holds at reset. -/
namespace Sys2Proof.Machine

/-- Base of tower `t`'s window in the MA (02, "The management address space"). -/
def twrWin (t : Nat) : Nat := 0x1000000 * t
/-- Base of the package window. -/
def pkgWin : Nat := 0x4000000

/-- The MA address of a page's first register (02 R21). -/
def pbase : Page → Nat
  | .twr t => twrWin t
  | .gd g => twrWin (g / 4) + 0x10000 + 0x1000 * (g % 4)
  | .enc g => twrWin (g / 4) + 0x20000 + 0x1000 * (g % 4)
  | .molt t => twrWin t + 0x28000
  | .que t => twrWin t + 0x30000
  | .hop t => twrWin t + 0xC0000
  | .hst t => twrWin t + 0xD0000
  | .gkc g => twrWin (g / 32) + 0x100000 + 0x1000 * (g % 32)
  | .pnd p => twrWin (p / 32) + 0x120000 + 0x1000 * (p % 32)
  | .cfg t => twrWin t + 0x140000
  | .chm t => twrWin t + 0x141000
  | .scb t => twrWin t + 0x142000
  | .slt t => twrWin t + 0x144000
  | .pwr t => twrWin t + 0x150000
  | .thm t => twrWin t + 0x151000
  | .clk t => twrWin t + 0x152000
  | .vbd t => twrWin t + 0x153000
  | .pkg => pkgWin
  | .pci => pkgWin + 0x10000
  | .efl k => pkgWin + 0x20000 + 0x1000 * k
  | .iob k => pkgWin + 0x30000 + 0x1000 * k
  | .bgt => pkgWin + 0x40000
  | .ckr => pkgWin + 0x50000
  | .ano => pkgWin + 0x60000
  | .evr => pkgWin + 0xA0000
  | .fus => pkgWin + 0xB0000
  | .ldr => pkgWin + 0xC0000

/-- How far a page's registers reach: up to the next listed offset (02 R21), the tables of chapter 17 apart. -/
def pspan : Page → Nat
  | .twr _ => 0x10000 | .gd _ => 0x1000 | .enc _ => 0x1000 | .molt _ => 0x8000 | .que _ => 0x10000
  | .hop _ => 0x10000 | .hst _ => 0x30000 | .gkc _ => 0x1000 | .pnd _ => 0x1000 | .cfg _ => 0x1000
  | .chm _ => 0x1000 | .scb _ => 0x2000 | .slt _ => 0xC000 | .pwr _ => 0x1000 | .thm _ => 0x1000
  | .clk _ => 0x1000 | .vbd _ => 0x69000 | .pkg => 0x10000 | .pci => 0x10000 | .efl _ => 0x1000
  | .iob _ => 0x1000 | .bgt => 0x10000 | .ckr => 0x10000 | .ano => 0x10000 | .evr => 0x10000
  | .fus => 0x10000 | .ldr => 0x10000

/-- The page class of BLK_ID (02 R21). -/
def pclass : Page → Nat
  | .twr _ => 0x01 | .gd _ => 0x02 | .enc _ => 0x03 | .molt _ => 0x04 | .que _ => 0x05 | .hop _ => 0x06
  | .hst _ => 0x07 | .gkc _ => 0x08 | .pnd _ => 0x09 | .cfg _ => 0x0A | .chm _ => 0x0B | .scb _ => 0x0C
  | .slt _ => 0x0D | .pwr _ => 0x0E | .thm _ => 0x0F | .clk _ => 0x10 | .vbd _ => 0x11 | .pkg => 0x20
  | .pci => 0x21 | .efl _ => 0x22 | .iob _ => 0x23 | .bgt => 0x24 | .ckr => 0x25 | .ano => 0x26
  | .evr => 0x27 | .fus => 0x28 | .ldr => 0x29

/-- The event source number of a page (02 R21): 128 t plus the local number in a tower, 512 and up in the package. -/
def psrc : Page → Nat
  | .twr t => 128 * t
  | .gd g => 128 * (g / 4) + 1 + g % 4
  | .enc g => 128 * (g / 4) + 5 + g % 4
  | .molt t => 128 * t + 9
  | .que t => 128 * t + 10
  | .hop t => 128 * t + 11
  | .hst t => 128 * t + 12
  | .gkc g => 128 * (g / 32) + 32 + g % 32
  | .pnd p => 128 * (p / 32) + 64 + p % 32
  | .cfg t => 128 * t + 13
  | .chm t => 128 * t + 14
  | .scb t => 128 * t + 15
  | .slt t => 128 * t + 16
  | .pwr t => 128 * t + 17
  | .thm t => 128 * t + 18
  | .clk t => 128 * t + 19
  | .vbd t => 128 * t + 20
  | .pkg => 512 | .pci => 513
  | .efl k => 514 + k
  | .iob k => 522 + k
  | .bgt => 534 | .ckr => 535 | .ano => 536 | .evr => 537 | .fus => 538 | .ldr => 539

/-- BLK_ID.TOWER (02 R25): the tower of a tower page, 0xF of a package page. -/
def ptower : Page → Nat
  | .twr t | .molt t | .que t | .hop t | .hst t | .cfg t | .chm t | .scb t | .slt t | .pwr t | .thm t | .clk t
  | .vbd t => t
  | .gd g | .enc g => g / 4
  | .gkc g => g / 32
  | .pnd p => p / 32
  | .pkg | .pci | .efl _ | .iob _ | .bgt | .ckr | .ano | .evr | .fus | .ldr => 0xF

/-- BLK_ID.INSTANCE (02 R25): n, p or k of the page, 0 for single pages. -/
def pinst : Page → Nat
  | .gd g | .enc g => g % 4
  | .gkc g => g % 32
  | .pnd p => p % 32
  | .efl k => k
  | .iob k => k
  | .twr _ | .molt _ | .que _ | .hop _ | .hst _ | .cfg _ | .chm _ | .scb _ | .slt _ | .pwr _ | .thm _ | .clk _
  | .vbd _ | .pkg | .pci | .bgt | .ckr | .ano | .evr | .fus | .ldr => 0

/-- The registers a page defines after its header. -/
def pregs : Page → List RegSpec
  | .twr _ => [] | .gd _ => GD.regs | .enc _ => ENC.regs | .molt _ => MOLT.regs | .que _ => QUE.regs
  | .hop _ => HOP.regs | .hst _ => HST.regs | .gkc _ => GKC.regs | .pnd _ => PND.regs | .cfg _ => CFG.regs
  | .chm _ => CHM.regs | .scb _ => SCB.regs | .slt _ => SLT.regs | .pwr _ => PWR.regs | .thm _ => THM.regs
  | .clk _ => CLK.regs | .vbd _ => VBD.regs | .pkg => PKG.regs | .pci => PCI.regs | .efl _ => EFL.regs
  | .iob _ => IOB.regs | .bgt => BGT.regs | .ckr => CKR.regs | .ano => ANO.regs | .evr => EVR.regs
  | .fus => FUS.regs | .ldr => LDR.regs

/-- The page of a tower that covers window offset `o` of tower `t`. -/
def towerPageAt (t : Tower) (o : Nat) : Option Page :=
  if o < 0x10000 then some (.twr t)
  else if o < 0x14000 then some (.gd ⟨4 * t + (o - 0x10000) / 0x1000 % 4, by omega⟩)
  else if o < 0x20000 then none
  else if o < 0x24000 then some (.enc ⟨4 * t + (o - 0x20000) / 0x1000 % 4, by omega⟩)
  else if o < 0x28000 then none
  else if o < 0x30000 then some (.molt t)
  else if o < 0x40000 then some (.que t)
  else if o < 0xC0000 then none
  else if o < 0xD0000 then some (.hop t)
  else if o < 0x100000 then some (.hst t)
  else if o < 0x120000 then some (.gkc ⟨32 * t + (o - 0x100000) / 0x1000 % 32, by omega⟩)
  else if o < 0x140000 then some (.pnd ⟨32 * t + (o - 0x120000) / 0x1000 % 32, by omega⟩)
  else if o < 0x141000 then some (.cfg t)
  else if o < 0x142000 then some (.chm t)
  else if o < 0x144000 then some (.scb t)
  else if o < 0x150000 then some (.slt t)
  else if o < 0x151000 then some (.pwr t)
  else if o < 0x152000 then some (.thm t)
  else if o < 0x153000 then some (.clk t)
  else if o < 0x1BC000 then some (.vbd t)
  else none

/-- The page of the package window that covers offset `o`. -/
def packagePageAt (o : Nat) : Option Page :=
  if o < 0x10000 then some .pkg
  else if o < 0x20000 then some .pci
  else if o < 0x28000 then some (.efl ⟨(o - 0x20000) / 0x1000 % 8, by omega⟩)
  else if o < 0x30000 then none
  else if h : o < 0x3C000 ∧ 0x30000 ≤ o then some (.iob ⟨(o - 0x30000) / 0x1000, by omega⟩)
  else if o < 0x40000 then none
  else if o < 0x50000 then some .bgt
  else if o < 0x60000 then some .ckr
  else if o < 0x70000 then some .ano
  else if o < 0xA0000 then none
  else if o < 0xB0000 then some .evr
  else if o < 0xC0000 then some .fus
  else if o < 0xD0000 then some .ldr
  else none

/-- The register page at MA address `a`, when one covers it (02 R21). -/
def pageAt (a : Nat) : Option Page :=
  if a < 0x4000000 then towerPageAt ⟨a / 0x1000000 % 4, by omega⟩ (a % 0x1000000)
  else if a < 0x5000000 then packagePageAt (a - 0x4000000)
  else none

/-- Does a register description cover byte offset `o`? -/
def RegSpec.covers (r : RegSpec) (o : Nat) : Bool :=
  decide (r.off ≤ o) && decide ((o - r.off) % r.st = 0) && decide ((o - r.off) / r.st < r.n)

/-- The register of a list at byte offset `o`. -/
def findReg : List RegSpec → Nat → Option RegSpec
  | [], _ => none
  | r :: rs, o => if r.covers o then some r else findReg rs o

/-- The register at offset `o` of a page: the common header below 0x040 (02 R25), the page's own after it. -/
def pageReg (p : Page) (o : Nat) : Option RegSpec :=
  if o < 0x40 then findReg HDR.regs o else findReg (pregs p) o

/-- The tower whose ENC region and key-slot tables cover MA address `a` (17 R362): offsets 0x4000 to 0x5FFF above
that tower's ENC0 page. -/
def encTableAt (a : Nat) : Option Tower :=
  if a < 0x4000000 ∧ 0x24000 ≤ a % 0x1000000 ∧ a % 0x1000000 < 0x26000
  then some ⟨a / 0x1000000 % 4, by omega⟩ else none

/-- The register description at MA address `a`, when `a` is implemented. -/
def regAt (a : Nat) : Option RegSpec :=
  match pageAt a with
  | some p => pageReg p (a - pbase p)
  | none => match encTableAt a with
    | some t => findReg ENCT.regs (a - (twrWin t + 0x20000))
    | none => none

/-- The reset value of a register description. -/
def RegSpec.reset (r : RegSpec) : Word :=
  r.fs.foldl (fun w f => wput w f.hi f.lo f.rst) 0

/-- The mask of the fields of one access type. -/
def RegSpec.mask (r : RegSpec) (a : Acc) : Word :=
  r.fs.foldl (fun w f => if f.acc = a then w ||| wmask f.hi f.lo else w) 0

/-- The mask of the sticky fields. -/
def RegSpec.sticky (r : RegSpec) : Word :=
  r.fs.foldl (fun w f => if f.sticky then w ||| wmask f.hi f.lo else w) 0

/-- Is event source `n` of 0 to 1,023 reserved (02 R21)? -/
def srcReserved (n : Nat) : Bool :=
  if n < 512 then decide (21 ≤ n % 128 ∧ n % 128 ≤ 31) || decide (96 ≤ n % 128) else decide (540 ≤ n)

/-- BLK_ID of a page (02 R25). -/
def blkId (p : Page) : Word := w32 (pclass p * 0x10000 + ptower p * 0x100 + pinst p)

/-- What the register at MA address `a` holds at reset (02 R25, R34, R35, and each page's table). -/
def regReset (a : Nat) : Word :=
  match pageAt a with
  | some .evr =>
    if 0x40A1000 ≤ a ∧ a < 0x40A3000 ∧ srcReserved ((a - 0x40A1000) / 8) then 0
    else match pageReg .evr (a - pbase .evr) with | some r => if a = 0x40A0000 then blkId .evr else r.reset | none => 0
  | some p => if a = pbase p then blkId p else match pageReg p (a - pbase p) with | some r => r.reset | none => 0
  | none => match regAt a with | some r => r.reset | none => 0

/-- Every page, in order of event source within its kind. -/
def allPages : List Page :=
  ((List.finRange 4).flatMap fun t => [.twr t, .molt t, .que t, .hop t, .hst t, .cfg t, .chm t, .scb t, .slt t,
    .pwr t, .thm t, .clk t, .vbd t]) ++
  (List.finRange 16).map .gd ++ (List.finRange 16).map .enc ++ (List.finRange 128).map .gkc ++
  (List.finRange 128).map .pnd ++ [.pkg, .pci] ++ (List.finRange 8).map .efl ++ (List.finRange 12).map .iob ++
  [.bgt, .ckr, .ano, .evr, .fus, .ldr]

end Sys2Proof.Machine
end

