-- ==== Sys2Proof/Machine/SMap.lean ====
section
/-! DEFINITION. Sparse tables in one canonical form. `d k` is what the unlisted key `k` reads as; a table lists
its keys strictly rising and never lists an entry equal to its default, so equal tables are equal data. -/
namespace Sys2Proof.Machine
variable {β : Type}

/-- What the table holds at key `k`. -/
def SMap.get (d : Nat → β) : SMap β → Nat → β
  | [], k => d k
  | (a, x) :: m, k => if a = k then x else if k < a then d k else SMap.get d m k

/-- The table from its first key above `k` on. -/
def SMap.above : SMap β → Nat → SMap β
  | [], _ => []
  | (a, x) :: m, k => if a ≤ k then SMap.above m k else (a, x) :: m

/-- The table without key `k`. -/
def SMap.del : SMap β → Nat → SMap β
  | [], _ => []
  | (a, x) :: m, k => if a = k then SMap.above m k else if k < a then (a, x) :: m else (a, x) :: SMap.del m k

/-- The table with `v` listed at key `k`, whatever the default. -/
def SMap.ins : SMap β → Nat → β → SMap β
  | [], k, v => [(k, v)]
  | (a, x) :: m, k, v =>
    if a = k then (k, v) :: m else if k < a then (k, v) :: (a, x) :: m else (a, x) :: SMap.ins m k v

/-- Store `v` at key `k`; a value equal to the default is not listed. -/
def SMap.set [DecidableEq β] (d : Nat → β) (m : SMap β) (k : Nat) (v : β) : SMap β :=
  if v = d k then SMap.del m k else SMap.ins m k v

/-- Change the value at key `k` by `f`. -/
def SMap.upd [DecidableEq β] (d : Nat → β) (m : SMap β) (k : Nat) (f : β → β) : SMap β :=
  SMap.set d m k (f (SMap.get d m k))

/-- The keys rise strictly, starting at or above `lo`. -/
def SMap.rising : Nat → SMap β → Bool
  | _, [] => true
  | lo, (a, _) :: m => decide (lo ≤ a) && SMap.rising (a + 1) m

/-- No entry equals what its key reads as when unlisted. -/
def SMap.noDefault [DecidableEq β] (d : Nat → β) : SMap β → Bool
  | [] => true
  | (a, x) :: m => decide (x ≠ d a) && SMap.noDefault d m

/-- The canonical form. -/
def SMap.wf [DecidableEq β] (d : Nat → β) (m : SMap β) : Bool := SMap.rising 0 m && SMap.noDefault d m

/-- Apply `f` to every listed entry, keeping the canonical form. -/
def SMap.mapKV [DecidableEq β] (d : Nat → β) (f : Nat → β → β) : SMap β → SMap β
  | [] => []
  | (a, x) :: m => if f a x = d a then SMap.mapKV d f m else (a, f a x) :: SMap.mapKV d f m

/-- Keep the entries whose key satisfies `p`; the others return to their default. -/
def SMap.keep (p : Nat → Bool) : SMap β → SMap β
  | [] => []
  | (a, x) :: m => if p a then (a, x) :: SMap.keep p m else SMap.keep p m

end Sys2Proof.Machine
end

