-- ==== Sys2Proof/Machine/State.lean ====
section
/-! DEFINITION. The state of the SK48, as plain data: every register, store, counter, mode and pin the spec gives the
device, and the queue of waiting commands. -/
namespace Sys2Proof.Machine

/-- A hop packet on an Efmel link (19 R392): link tag, and what its payload units carry. `typ` is the request type. -/
inductive EflPkt
  | req (tag typ prio : Nat) (addr : BitVec 48) (bytes : Nat) (be : Option (BitVec 64))
  | wdata (tag : Nat) (data : BitVec 512) (pl ph : Bool)
  | cmp (tag status : Nat)
  | rdata (tag : Nat) (data : BitVec 512) (pl ph : Bool)
  deriving DecidableEq, Repr

/-- One croak record (22 R457). -/
structure CrkRec where
  time : Nat
  seq : Nat
  code : Nat
  src : Nat
  boot : Nat
  sev : Nat
  writer : Nat
  d0 : Nat
  d1 : Nat
  d2 : Nat
  deriving DecidableEq, Repr

/-- What the device sends out, or answers, oldest first in `Base.out`. -/
inductive Msg
  /-- The value a register read returns (02 R23). -/
  | readData (v : Nat)
  /-- An event message delivered to Anole (02 R34). -/
  | anole (src : Nat)
  /-- An NME delivered to Anole (02 R36). -/
  | anoleNme (cause : Nat)
  /-- An MSI-X message of a function (18 R377). -/
  | msix (fn vec : Nat)
  /-- An arbiter's grant of one unit to a requester (15 R309). -/
  | grant (arb req : Nat)
  /-- What a pond port presents for one request: 1 RVALID, 2 WACK, 3 ERR, 4 PERR, with data and poison (14 R300). -/
  | pond (port kind : Nat) (data : BitVec 512) (poison : Bool)
  /-- The answer to the request of initiator `src` with tag `tag`: a completion status, or data (14 R283, R285). -/
  | hop (src tag : Nat) (status : Nat) (isData : Bool) (data : BitVec 512) (poisonL poisonH : Bool)
  /-- A cell an Efmel port sends (19 R390 to R393). -/
  | eflCell (port : Nat) (cell : BitVec 640)
  /-- The training blocks a port repeats, by lane, and their four words (19 R387). -/
  | eflTrain (port : Nat) (blocks : List (List (BitVec 40)))
  /-- One inverted bit on every transmitting lane of an Efmel port in test mode (19 R400). -/
  | eflInject (port : Nat)
  /-- A completion of a read TLP (18 R374): function, tag, status (0 Successful, 1 Unsupported Request, 4 Completer
  Abort), data bytes, EP. -/
  | tlp (fn tag status : Nat) (data : List Byte) (ep : Bool)
  /-- The answer to a configuration request (18 R378): function, status (2 Request Retry Status), value. -/
  | cfgCpl (fn status value : Nat)
  /-- The answer to an MCTP command: status and response (22 R445). -/
  | mctp (status : Nat) (data : List Byte)
  /-- An SPDM answer of a port's DOE mailbox or of MCTP (18 R379): the port (2 for MCTP), and the Ed25519 and ML-DSA-65
  signatures where the answer is signed. -/
  | spdm (port : Nat) (sigs : Option (BitVec 512 × BitVec 26472))
  /-- What Anole writes to the flash: address and bytes; no bytes erases the area (22 R446, R452, R458, R459). -/
  | flash (addr : Nat) (data : List Byte)
  /-- What the loader reads from the flash: `len` bytes at most, from `addr` (08 R177). -/
  | flashRead (addr len : Nat)
  /-- A PF0 bus-master read of a chunk: bus address and length in bytes (08 R163). -/
  | dlvRead (addr : BitVec 64) (len : Nat)
  /-- The croak log as archived: archive slot, archive number, boot count, first and last SEQ, erase count, SHA-384 over the records, records
  (22 R458). -/
  | archive (slot num boot first last erases : Nat) (digest : List Byte) (log : SMap CrkRec)
  /-- What the TAP shifts out: the captured instruction pattern, then the captured data register (25 R509, R510). -/
  | tap (ir : BitVec 8) (width : Nat) (dr : Nat)
  deriving DecidableEq, Repr

/-- What manufacture fixed for this part (00 "Ordering code and editions"; 25 R514). `opShell` holds the fused shell
geometry of an -OP part, one region word per tower (00 R5, 07 R149). -/
structure Part where
  grade : Nat
  op : Bool
  tempI : Bool
  serial : Nat
  vendor : Nat
  opShell : List Nat
  vset : Nat
  deriving DecidableEq, Repr

/-- The fuses that commands burn or read (22 R448, R451, R462), with the flash key block beside them: the public keys by KEY_ID,
32 bytes Ed25519 and 1,952 bytes ML-DSA-65, and the owner image key. -/
structure Fuse where
  enrolled : Bool
  ownIkey : Bool
  fwCtr : Nat
  cfgCtr : Nat
  opRevoke : Nat
  opKeys : Nat
  pubKeys : SMap (List Byte)
  ikey : BitVec 256
  deriving DecidableEq, Repr


/-- Configuration state of one PCIe function (18 R369, R377, R378, R381). -/
structure FnState where
  ready : Bool
  d3hot : Bool
  bme : Bool
  mse : Bool
  msixEn : Bool
  fmask : Bool
  flr : Bool
  deriving DecidableEq, Repr

/-- What every block shares: the register file (live values and RWS shadows, by MA address), the messages sent
out of the device, the clocks, the croak log, the PCIe message state, NMEs queued while the clocks are gated (20 R418),
thermal shutdown (21 R437), the fuses, the SIZE, QN and PORT_SEL
registers in effect, by address (18 R372), and the measurements (22 R453). `decBad` names the words of DEC stores whose check bit
is planted, `decSeen` the planted words a block itself has read and not yet reported (23 R471); `heldCtx` the live context of
a marsh that left the tenant area and does not swap with it, by 384 times the tower plus the marsh (05 R80, R113). -/
structure Base where
  regs : SMap Word
  shad : SMap Word
  out : List Msg
  free : Nat
  rc : Nat
  aonUs : Nat
  leakAt : SMap Nat
  decBad : SMap Bool
  decSeen : List (Page × Nat)
  heldCtx : SMap (Option Nat)
  crkLog : SMap CrkRec
  crkNext : Nat
  crkBoot : Nat
  fns : SMap FnState
  msixTab : SMap Word
  msixPend : SMap Bool
  nmeQueued : List Nat
  dead : Bool
  commitParts : SMap Nat
  part : Part
  fuse : Fuse
  lat : SMap Word
  meas : SMap Nat
  deriving DecidableEq, Repr

/-- The pads' storage: 32 codewords of 13 bits per row, keyed by 8,192 times the package-wide pad number plus the row
(09 R183). An unlisted row is the zero row with its zero check bits. -/
abbrev PadMem := SMap (BitVec 416)

/-- A pad command in progress (09 R198): operation 1 BIST, 2 ZERO, on one pad of the pond. -/
structure PadCmd where
  op : Nat
  pad : Nat
  deriving DecidableEq, Repr

/-- Ponds, by package-wide pond number: storage, the pad command running, and when the patrol pass began; the byte enables
of the rows that the last port-A writes of each pad wrote, by row as in `mem`, while a port-B write may still meet them in the
same cycle (R188); and the pond-port requests that wait for the end of a pad command, in order, each with whether it was admitted (R198). -/
structure Ponds where
  mem : PadMem
  cmd : SMap (Option PadCmd)
  passAt : SMap Nat
  aRows : SMap (BitVec 32)
  waitA : SMap (List (PondReq × Bool))
  deriving DecidableEq, Repr


/-- One weighted-share arbiter (15 R308 to R310): credit counters, last winner, and the requester whose unit is in
progress. -/
structure Arb where
  cred : List Nat
  last : Nat
  holder : Option Nat
  deriving DecidableEq, Repr

/-- Counts kept for one temperature sensor (21 R432, R435): consecutive suspect samples, consecutive agreeing
samples while suspect, consecutive missing conversions. -/
structure SensorCnt where
  susp : Nat
  agree : Nat
  missing : Nat
  deriving DecidableEq, Repr

/-- Power and thermal state that no register holds (21): the run count below 15/16 of budget, per-sensor counts (by 448
times the tower plus the sensor), per tower the samples since TL last fell and the consecutive samples at or above the
trip point, and whether PWR_FAIL_N is held low. -/
structure Power where
  under : Nat
  cnt : SMap SensorCnt
  sinceFall : SMap Nat
  tripMs : SMap Nat
  pwrFail : Bool
  trips : Nat
  deriving DecidableEq, Repr

/-- Clock state that no register holds (20), clocks by 32 times the tower plus the clock: the effective target each
divider moves to (R410, R430), whether the distribution gate passes the running cycle (R408), whether the distributed clock is high, the AON time of the trip
that gated the clocks (R418), and whether a fine measurement has passed since the last trip (R420). -/
structure Clk where
  tgt : SMap Nat
  gate : SMap Bool
  high : SMap Bool
  tripAt : Nat
  finePass : Bool
  deriving DecidableEq, Repr

/-- Why a tower is to swap: a STATIC command, a slot entry, an EVENT request, or a shell commit (05 R91, R93, R95, R103); `skip`
marks a slot entry, put aside by a shell commit, that the walk is to pass over (R99). -/
inductive SwapWhy | static | slot | event | shell | skip
  deriving DecidableEq, Repr

/-- One tower's chameleon beside its registers (05 R83 to R101): the context named by the last accepted STAGE; the swap
wanted and its reason; the staging target, kept for a restart, and the marshes the staging copies; the previous REQ
sample and the outstanding EVENT request; whether a slot entry runs, whether one has run in this pass, whether the
running entry is late; the swap a shell commit put aside; and whether a CANCEL of SLT is still copying. -/
structure Cham where
  named : Option Nat
  want : Option (Nat × SwapWhy)
  tgt : Option Nat
  staged : List Nat
  evPrev : Bool
  evCtx : Option Nat
  running : Bool
  ran : Bool
  late : Bool
  saved : Option (Nat × SwapWhy)
  copying : Bool
  deriving DecidableEq, Repr

/-- The fabric's own state (03, 04): flip-flop copies by nine times the package eft index plus the copy (0 to 7 banked,
8 shared); banked routing registers by eight times their number plus the context; deep-line keepers and drivers the
contention detector holds off, by tap; the previous level of each local-line clock; the control sets, by twice the clutch
plus the set, that have had no active edge since their marsh's last swap, and by marsh the global clocks that have had no
rising edge since (R66, 05 R87); control sets whose clock output is held since a swap (R48); efts whose asynchronous SR
acts, and those where it was released since their control set's last edge (R44); what the pond ports will drive, cycle by cycle, and what they drive now. -/
structure Fabric where
  q : SMap Bool
  rr : SMap Bool
  keep : SMap Bool
  flt : SMap Bool
  llPrev : SMap Bool
  fresh : SMap Bool
  freshE : SMap (BitVec 32)
  csHold : SMap Bool
  srAct : SMap Bool
  srRel : SMap Bool
  pondOut : SMap (List (BitVec 1024))
  pondNow : SMap (BitVec 1024)
  deriving DecidableEq, Repr

/-- A stored configuration frame: payload and check-bit positions (06 R120). -/
structure Frame where
  pay : BitVec 4096
  chk : BitVec 208
  deriving DecidableEq, Repr

/-- Configuration memory (06): the frame store by frame address; front and back planes by 512 times the package
marsh index plus the frame; per tower the marshes under commit refresh and its context; marshes that no longer read as
excluded but have not rejoined (05 R113); per tower the address of the readback in progress; whether the scrubber's
compare is next, and the AON time its pass began. -/
structure CfgMem where
  store : SMap Frame
  front : SMap (BitVec 4096)
  back : SMap (BitVec 4096)
  refresh : SMap (List Nat)
  refreshCtx : SMap Nat
  out : SMap Bool
  rbAt : SMap Nat
  cmpNext : SMap Bool
  passAt : SMap Nat
  deriving DecidableEq, Repr

/-- User I/O pins (25 R504 to R507, R111, R131): the external level driven on each pin, the last driven value and
enable, whether a pin was ever driven, the last level seen at a pin (a keeper holds it), the banks in their load
state, those that leave it when IO_LAG has passed, and those whose owner was not live at the release and has not been since (R133); the TAP's current instruction, its boundary cells (twice the pin, plus one for
the enable), and when its pin control began (R509 to R511). Keys are 16 times the bank plus the pin. -/
structure Pins where
  ext : SMap (Option Bool)
  lastOut : SMap Bool
  lastOe : SMap Bool
  driven : SMap Bool
  level : SMap Bool
  bankLoad : SMap Bool
  bankLag : SMap Bool
  bankRel : SMap Bool
  ir : BitVec 8
  bscan : SMap Bool
  tapAt : Nat
  deriving DecidableEq, Repr

/-- A GDDR6 line: its 64 data bytes and its metadata word (16 R326): CHECK, TAG, MINOR. -/
structure Gline where
  data : BitVec 512
  md : BitVec 64
  deriving DecidableEq, Repr

/-- Where a 512-bit key pair comes from (17 R342): Anole's TRNG, by draw number, or an import of KE and KT. -/
inductive KeySrc
  | gen (n : Nat)
  | imp (ke kt : BitVec 256)
  deriving DecidableEq, Repr

/-- A request that waits at a target: whether it writes, and what it carries. -/
structure Waiting where
  write : Bool
  req : HopReq
  deriving DecidableEq, Repr

/-- The GDDR6 subsystem and the encryption stops (16, 17): lines by 2^27 times the controller plus the line index;
counter lines written since the counter area was initialised; controllers whose counter area holds its boot contents;
the draw that made the counter key; key slots; pages in LOST, by 2^21 times the controller plus the page; per
controller the pages waiting for a reseal, the requests held, what kind of training runs (0 none, 1 full, 2 at the
current rate), the temperature at the last training, when the patrol pass began; whether the running molt came from
AUTO_MOLT and the molts queued behind it, by region. -/
structure Gdr where
  lines : SMap Gline
  touched : SMap Bool
  ctrFresh : SMap Bool
  ctrKey : Nat
  keys : SMap (Option KeySrc)
  lost : SMap Bool
  reseal : SMap (List Nat)
  held : SMap (List Waiting)
  trKind : SMap Nat
  trTemp : SMap Nat
  passAt : SMap Nat
  moltAuto : Bool
  moltQ : SMap (Option Nat)
  deriving DecidableEq, Repr

/-- One cached queue item (10 R215, R216): value, poison tag, inverted parity, and whether it is still to be written to
the body (tail cache) or was fetched from it (head cache). -/
structure QItem where
  val : BitVec 64
  poison : Bool
  flip : Bool
  dirty : Bool
  deriving DecidableEq, Repr

/-- A doorbell operation, a FLUSH, or the status push of the chameleon of tower `t` (10 R207, R211, R221; 05 R96). -/
inductive QOp
  | push (items : List (BitVec 64)) (poison : Bool)
  | pop | popSt | status | mark | rewind
  | release (n : Nat)
  | clear | flush
  | evPush (t : Nat) (w : BitVec 64)
  deriving DecidableEq, Repr

/-- An operation that waits for a body access or for the engine to wake; a FLUSH has no requester. -/
structure QWait where
  who : Option Who
  op : QOp
  deriving DecidableEq, Repr

/-- One spawn queue (10 R206 to R220): bounds and pointers, flags, LEVEL, the bounds' shadow and its commit, the last
value, the cached items by the DPA of their slot, slots whose partial write was refused as poisoned, the PFLIP mark,
and the operations waiting in order. -/
structure Queue where
  base : Nat
  ctx : Nat
  len : Nat
  level : Nat
  rel : Nat
  markD : Nat
  readD : Nat
  writeD : Nat
  underrun : Bool
  relclamp : Bool
  fault : Bool
  shBase : Nat
  shCtx : Nat
  shLen : Nat
  pend : Bool
  res : Nat
  last : BitVec 64
  lastP : Bool
  cache : SMap QItem
  bad : SMap Bool
  pflip : Bool
  wait : List QWait
  deriving DecidableEq, Repr

/-- A line of a gecko's line cache (11 R240): state 1 Shared, 2 Exclusive, 3 Modified. -/
structure CLine where
  st : Nat
  data : BitVec 512
  poison : Bool
  deriving DecidableEq, Repr

/-- An outstanding line fill (11 R240, R258): whether it asks for ownership, whether only a pref wants it, and the
home's answer with the state it grants; the tag of its request, once that is on the network. -/
structure Fill where
  line : Nat
  own : Bool
  pref : Bool
  ans : Option (HopRsp × Nat)
  tag : Option Nat
  deriving DecidableEq, Repr

/-- A running DMA channel (11 R238): what it was started with, and whether the gecko has run since. -/
structure Chan where
  laddr : Nat
  dpa : Nat
  count : Nat
  toDpa : Bool
  qen : Bool
  queue : Nat
  ran : Bool
  deriving DecidableEq, Repr

/-- A gecko's own state beside its page (11 R231 to R241, 13 R265 to R276): S registers and tags; V registers and lane
tags; accumulators, lane tags and overflow bits; P1 to P7; address generators live and shadow (by four times the
generator plus the field) and the marks mvag left; loop registers (4 times LC 0, LS 1, LE 2, plus the level) and LDEPTH;
OVTRAP; running channels; the bundle that is held, and whether the gecko stops after it; whether the held bundle has looked its
window lines up in the cache, so that it counts as issued; outstanding fills; the line
cache by DPA divided by 64; the event input it waits for; whether a ZERO runs. -/
structure Gecko where
  s : SMap Word
  sP : BitVec 32
  v : SMap (BitVec 1024)
  vP : SMap (BitVec 64)
  ac : SMap (BitVec 2560)
  acP : SMap (BitVec 64)
  acov : SMap (BitVec 64)
  p : SMap (BitVec 64)
  ag : SMap Word
  agSh : SMap Word
  agMark : BitVec 8
  loops : SMap Word
  depth : Nat
  ovtrap : Bool
  chan : SMap (Option Chan)
  stall : Option (Bundle × Bool)
  looked : Bool
  fills : List Fill
  cache : SMap (Option CLine)
  waitOn : Nat
  zeroing : Bool
  deriving DecidableEq, Repr

/-- All geckos (11): their memories as 32-byte words with check bits (R227), by 16,384 times the gecko plus the word
(instruction memory from 0, X memory from 4,096, Y memory from 8,192), and each gecko's own state. -/
structure Geckos where
  mem : SMap (BitVec 416)
  g : SMap Gecko
  deriving DecidableEq, Repr

/-- A request outstanding on the hop network, kept by its initiator until its completion (14 R283, R286, R302): the
request, when it was issued, whether it has reached its target and been admitted, and whether a flit of it was removed; the order of
its injection, and the epoch it was stamped with (R288, R292). `engine` marks a request that an engine of the device keeps offering
while its target cannot answer; once timed out it is `expired`, until the engine takes the completion. At a fabric hop port
`expired` says that the completion is to be discarded (14 R305). -/
structure HopTag where
  write : Bool
  req : HopReq
  issuedAt : Nat
  arrived : Bool
  lost : Bool
  no : Nat
  epoch : Bool
  engine : Bool
  expired : Bool
  deriving DecidableEq, Repr

/-- A flit: its fields and its code (14 R282 to R285). -/
structure Flit (w e : Nat) where
  body : BitVec w
  ecc : BitVec e
  deriving DecidableEq, Repr

/-- A request as it crosses the network (14 R282, R285): its REQ flit, and where it has them its byte-enable flit and its DAT
flit (data, then control bits). -/
structure ReqFlits where
  req : Flit 119 9
  be : Option (Flit 119 9)
  dat : Option (Flit 538 11)
  deriving DecidableEq, Repr

/-- An input buffer of a link (14 R278, R287): the ring it lies on (a tower and level 0 to 2, level 3 for the package ring), the
ring position it feeds, its direction, the network (0 REQ, 1 RSP, 2 SNP, 3 and 4 the DAT ring pairs), the virtual network. -/
structure HopLink where
  tower : Nat
  level : Nat
  pos : Nat
  ccw : Bool
  net : Nat
  vn : Nat
  deriving DecidableEq, Repr

/-- A request that waits in the network for its target's domain to wake (14 R297): in the stop's ejection buffer, or, when that is
full, going round the ring, in the buffers of `going` (its REQ flit, and its DAT flit). -/
structure HeldReq where
  dom : SleepDomain
  write : Bool
  flits : ReqFlits
  going : List HopLink
  deriving DecidableEq, Repr

/-- A request for a line in a home's transaction slot (14 R284, R296): the home's controller and its slot HTAG, none while all
eight are taken; kind 0 RD, 1 RD_SHR, 2 RD_OWN, 3 WR; the gecko of a
line type; the line (DPA divided by 64); the holders still to be snooped, those snooped whose answer is on its way; the write-back a
Modified holder sent; and whether a snoop or its answer was removed from the network, so that the home waits for ever. -/
structure HomeWait where
  home : Nat
  htag : Option Nat
  kind : Nat
  gecko : Nat
  line : Nat
  req : HopReq
  need : List Nat
  answering : List Nat
  wb : Option (BitVec 512 × Bool)
  lost : Bool
  deriving DecidableEq, Repr

/-- A completion for a fabric hop port (14 R298, R299): the context it is for, and its cycles as outputs 0 to 511. -/
structure PortOut where
  ctx : Nat
  cycles : List (BitVec 512)
  deriving DecidableEq, Repr

/-- The hop network (14): outstanding tags by 4,096 times the initiator plus the tag, and how many requests have been injected; how
many requests of a tag timed
out and may still be answered, and those of them that have yet to reach their target; the two map copies of each level, by 64 Ki times (6 times the tower plus twice the level
plus the copy) plus the HOP offset; requests held at sleeping targets; the homes' transaction slots; queued reservations
and open grants; FHP_CLK values that wait for their port; completions to present, and what each port drives now, with the
context it is for; the first beat of a write a port has taken, with its context above the signals; the live statistics counters, by
32 times (1,024 times the tower plus the initiator) plus the item; and the ring levels that sleep, by 3 times the tower plus the
level (1 asleep, 2 waking). -/
structure Hop where
  tags : SMap (Option HopTag)
  next : Nat
  late : SMap Nat
  stray : List HopTag
  maps : SMap Word
  heldFlits : List HeldReq
  homes : List HomeWait
  rsv : SMap (List (Nat × Nat))
  grants : SMap Nat
  fhpPend : SMap (Option Nat)
  ports : SMap (List PortOut)
  shown : SMap (Nat × BitVec 512)
  beat : SMap (Option (BitVec 364))
  hst : SMap Nat
  hstAt : SMap Nat
  levels : SMap Nat
  deriving DecidableEq, Repr


/-- An Efmel port beside its page (19): the training step (0 none, 1 the 10 Gb/s phase, 2 attempts, 3 waiting for the
first marker), the candidate pairs (width, rate code) and the attempt; whether this is a retrain and since when; the keys
SCR, RATES and WIDTHS in effect; the receive scramble state, the next MCOUNT due and the cells since the last marker; the next SEQ to send
and to accept; whether NAK is due, and the last ACK reported;
the replay buffer, how often its oldest cell was resent and when ACK last moved; credits for the partner's slots and
those to report back; response slots; response slots reserved by grants; an inbound write whose data has not come, the
tags of inbound requests in progress, on the hop network and on the link; the raw pin level and since when; whether QUIESCE runs and since when. -/
structure Efl where
  step : Nat
  cands : List (Nat × Nat)
  attempt : Nat
  retrain : Bool
  since : Nat
  txKey : BitVec 64
  rxKey : BitVec 64
  scr : Bool
  rates : Nat
  widths : Nat
  rxState : BitVec 64
  rxCount : Nat
  rxCells : Nat
  nextSeq : Nat
  expSeq : Nat
  nak : Bool
  acked : Nat
  replay : List (Nat × EflPkt)
  resends : Nat
  ackAt : Nat
  credits : Nat
  owed : Nat
  slots : SMap (Option (Bool × HopReq))
  granted : Nat
  inWrite : Option (Nat × Nat × BitVec 48 × Nat × Option (BitVec 64))
  inb : List (Nat × Nat)
  pinLow : Bool
  pinAt : Nat
  quiescing : Bool
  quietAt : Nat
  deriving DecidableEq, Repr

/-- The header of the image being received (07 R146), its region words as placed (R150). -/
structure ImgHdr where
  kind : Nat
  ctxSet : Nat
  rbPermit : Bool
  keyId : Nat
  svn : Nat
  segs : Nat
  total : Nat
  build : Nat
  nonce : List Byte
  wrapped : List Byte
  regions : List Nat
  place : Option (Nat × Int)
  deriving DecidableEq, Repr

/-- A dictionary slot of an image (07 R158): its payload, and the segment and word that hold it. -/
structure Stamp where
  pay : BitVec 4096
  seg : Nat
  word : Nat
  deriving DecidableEq, Repr

/-- What one record of an image writes (07 R156): the payload, where the image holds it (segment and word; none where the
record computes it), and the frames it names. -/
structure FrameRec where
  pay : BitVec 4096
  held : Option (Nat × Nat)
  targets : List Nat
  deriving DecidableEq, Repr

/-- One write of a commit in a tower: payload, where the staged image holds it, and targets; `zeros` is the all-zero payload to
every unnamed frame of the region (06 R126, 07 R148, 08 R170). `no` is the record; `crosses` says that the payload crosses the
link here, once per record (07 R159), and is kept for the record's other contexts. -/
structure LinkWrite where
  pay : BitVec 4096
  held : Option (Nat × Nat)
  targets : List Nat
  zeros : Bool
  no : Nat
  crosses : Bool
  deriving DecidableEq, Repr

/-- The loader beside its page (08): how many bytes have come and those that are not staged (header, signatures, segment
table); the length of the chunk being fetched; the header once it has passed; whether the chunk being fetched
is the last; whether steps 7 to 11 have passed, and key(0); segments verified; the dictionary (07 R158); the frame map: what its
records write, in image order; the stream-tag verdict once the last byte is here; per tower the payloads still to
write; the towers whose commit is not finished; per tower the contexts, as a mask, of which a frame was written, and those that a
refresh quarantined; the AON time the commit began; whether a golden load follows the commit, whether a golden sequence runs; whether the window is
to run, when it opened, whether it expires when the current load ends, and whether a BLOCK reset waits for the commit to end. -/
structure Loader where
  rcvd : Nat
  img : List Byte
  len : Nat
  hdr : Option ImgHdr
  last : Bool
  sigOk : Bool
  key0 : BitVec 256
  seg : Nat
  dict : SMap (Option Stamp)
  recs : List FrameRec
  stream : Option Bool
  plan : SMap (List LinkWrite)
  towers : List Nat
  wrote : SMap Nat
  ucQuar : SMap Nat
  beganAt : Nat
  goldenNext : Bool
  golden : Bool
  armed : Bool
  openAt : Nat
  winDue : Bool
  resetDue : Bool
  deriving DecidableEq, Repr

/-- One report to a function's AER registers (18 R376): the function that holds it, what it reports (0 Completer Abort,
1 Poisoned TLP Received, 2 IDE Check Failed, 3 Unsupported Request), and the function of the header log. -/
structure AerRec where
  fn : Nat
  code : Nat
  hdr : Nat
  deriving DecidableEq, Repr

/-- What a memory TLP does: a read under its tag, or a posted write of bytes, each with its enable, with EP and Relaxed Ordering. -/
inductive TlpBody
  | read (tag : Nat)
  | write (bytes : List (Option Byte)) (ep relaxed : Bool)
  deriving DecidableEq, Repr

/-- A memory TLP that the controller accepted (18 R373): its function, its pieces (DPA, none beyond a doorbell count, and length), what it
does, the answers of the partner where it crosses a link, and whether its completion is to be discarded (R381, R382). -/
structure Tlp where
  fn : Nat
  pieces : List (Option Nat × Nat)
  body : TlpBody
  remote : List HopRsp
  gone : Bool
  deriving DecidableEq, Repr

/-- The PCIe controller beside its page and the functions (18): SR-IOV control by PF (bit 0 VF Enable, bit 1 VF Memory
Space Enable, NumVFs from bit 2 on), AER reports, IDE streams by 16 times the port plus the stream, 0 the link stream (0 none, 1 secure,
2 insecure), the TLPs that wait for their targets, oldest first, whether a removal waits for ACK and since when, and whether the functions
abort what comes in (R383). -/
structure Pcie where
  sriov : SMap Nat
  aer : List AerRec
  ide : SMap Nat
  held : List Tlp
  rmvWait : Bool
  rmvAt : Nat
  shut : Bool
  deriving DecidableEq, Repr

/-- A command for Anole (22 R445, R446): whether it came over MCTP, opcode, arguments, request bytes, and its status and
response once it is served. -/
structure MbCmd where
  mctp : Bool
  op : Nat
  a0 : Word
  a1 : Word
  req : List Byte
  res : Option (Nat × List Byte)
  deriving DecidableEq, Repr

/-- The activation record of a firmware slot (22 R452), and how often the slot was booted while TRIAL. -/
structure FwSlot where
  seq : Nat
  trial : Bool
  confirmed : Bool
  boots : Nat
  deriving DecidableEq, Repr

/-- The lifetime block (22 R459): hours, hours in the four bands, POR and WARM resets,
failovers, archives (thermal trips are counted in `Power`). -/
structure Lifetime where
  hours : Nat
  bands : Nat × Nat × Nat × Nat
  pors : Nat
  warms : Nat
  failovers : Nat
  archives : Nat
  deriving DecidableEq, Repr

/-- Anole (22): which instances run (bit 0 tower 0, bit 1 tower 2); when the active one last sent a heartbeat; the mailbox
buffer by word; the commands accepted, in order of arrival; the firmware slots; targets whose last VERIFY passed (by
bit); open SPDM sessions; telemetry by sensor ID; the lifetime block; when an identify
press ended, whether the LEDs blink, whether the button was held at POR (R452), whether the press in progress is that one or
was acted on already, and presses queued (class and length); the archive's erase counts; the last FLIT_UC by link (R470) and the column of each pond's last ERR_THR entry (R469). -/
structure Anole where
  run : BitVec 2
  hbAt : Nat
  buf : SMap Word
  cmds : List MbCmd
  slots : SMap FwSlot
  verified : BitVec 3
  sessions : List Nat
  tele : SMap Word
  life : Lifetime
  identAt : Option Nat
  blink : Bool
  btnPor : Bool
  skip : Bool
  presses : List (Nat × Nat)
  erases : SMap Nat
  flits : SMap (Option Nat)
  pndCol : SMap (Option Nat)
  deriving DecidableEq, Repr

/-- Vertical bond groups beside the VBD pages (23): bonds known failed and not yet steered round, signals 0 to 63 and
spares 64 to 67, by 65,536 times the tower plus the group; when a group was last tested; the three copies of the repair
records, by 4,096 times the copy plus the position (R481); and the changes Anole has not recorded yet (R479). -/
structure Vbd where
  bad : SMap (BitVec 68)
  testAt : SMap Nat
  records : SMap (BitVec 64)
  todo : List (BitVec 64)
  deriving DecidableEq, Repr

/-- Reset and start-up state that no register holds (24): whether each PERST# is released, whether the device is held in
WARM, whether a release is due under R495, since when stage 2 or the release of WARM runs (for BOOT_MS), and the pages,
by event source, whose BLOCK reset waits for work to end. -/
structure Boot where
  perstA : Bool
  perstB : Bool
  warm : Bool
  relDue : Bool
  since : Nat
  srst : SMap Bool
  deriving DecidableEq, Repr


/-- The whole device, and the commands that wait for it, first in, first out. -/
structure State where
  b : Base
  ponds : Ponds
  arb : SMap Arb
  pwr : Power
  clk : Clk
  cham : SMap Cham
  fab : Fabric
  cfg : CfgMem
  pins : Pins
  gdr : Gdr
  que : SMap Queue
  hop : Hop
  gko : Geckos
  efl : SMap Efl
  ldr : Loader
  pci : Pcie
  ano : Anole
  vbd : Vbd
  boot : Boot
  pending : List Instr
  deriving DecidableEq, Repr

/-- The registers, stores and clocks right after the first power-up of a standard part of grade 3: stage AON. No value is
listed but JTAG_CTRL.PINCTL, whose reset value depends on the part (25 R514). -/
def Base.reset : Base :=
  { regs := [(0x400004C, 1)], shad := [], out := [], free := 0, rc := 0, aonUs := 0, leakAt := [], decBad := [], decSeen := [], heldCtx := [], crkLog := [],
    crkNext := 0, crkBoot := 0, fns := [], msixTab := [], msixPend := [], nmeQueued := [], dead := false, commitParts := [],
    part := ⟨3, false, false, 0, 0, [0, 0, 0, 0], 0⟩, fuse := ⟨false, false, 0, 0, 0, 0, [], 0⟩, lat := [], meas := [] }

/-- The machine right after power-on reset (24 R488; each chapter's reset table): stage AON, every store empty, the repair
records as manufacture leaves them on a part with no repair (23 R482), nothing waiting. -/
def State.reset : State :=
  { b := Base.reset
    ponds := ⟨[], [], [], [], []⟩
    arb := []
    pwr := ⟨0, [], [], [], false, 0⟩
    clk := ⟨[], [], [], 0, false⟩
    cham := []
    fab := ⟨[], [], [], [], [], [], [], [], [], [], [], []⟩
    cfg := ⟨[], [], [], [], [], [], [], [], []⟩
    pins := ⟨[], [], [], [], [], [], [], [], 1, [], 0⟩
    gdr := ⟨[], [], [], 0, [], [], [], [], [], [], [], false, []⟩
    que := []
    hop := ⟨[], 0, [], [], [], [], [], [], [], [], [], [], [], [], [], []⟩
    gko := ⟨[], []⟩
    efl := []
    ldr := ⟨0, [], 0, none, false, false, 0, 0, [], [], none, [], [], [], [], 0, false, false, false, 0, false, false⟩
    pci := ⟨[], [], [], [], false, 0, false⟩
    ano := ⟨3, 0, [], [], [], 0, [], [], ⟨0, (0, 0, 0, 0), 1, 0, 0, 0⟩, none, false, false, false, [], [], [], []⟩
    vbd := ⟨[], [], [(0, 0xF), (4096, 0xF), (8192, 0xF)], []⟩
    boot := ⟨false, false, false, false, 0, []⟩
    pending := [] }


/-- Why a step can stop with a fault: nothing. Every command of the table has an effect in every state, so no meaning answers with a
fault; where the spec lists an encoding as having no defined effect (00 R8) the command runs and what follows is free. -/
inductive Fault
  deriving DecidableEq, Repr

/-- Why a command can have no meaning. -/
inductive Refusal
  /-- Raised by the dispatcher for a command that has no meaning in this model yet. Safe. -/
  | notModelled (mnemonic : String)
  deriving DecidableEq, Repr

end Sys2Proof.Machine
end

