-- ==== Sys2Proof/Machine/Regs.lean ====
section
/-! DEFINITION. Reading and writing register fields, live values and shadows (00 "Access types", 02 R22 to R27). -/
namespace Sys2Proof.Machine

/-- The live word at MA address `a`. -/
def Base.word (b : Base) (a : Nat) : Word := SMap.get regReset b.regs a
/-- The shadow word at MA address `a`. -/
def Base.shWord (b : Base) (a : Nat) : Word := SMap.get regReset b.shad a
/-- Store the live word at MA address `a`. -/
def Base.setWord (b : Base) (a : Nat) (w : Word) : Base := { b with regs := SMap.set regReset b.regs a w }
/-- Store the shadow word at MA address `a`. -/
def Base.setShWord (b : Base) (a : Nat) (w : Word) : Base := { b with shad := SMap.set regReset b.shad a w }

/-- The live value of field `f` of page `p`. -/
def Base.fld (b : Base) (p : Page) (f : Fld) : Nat := wget (b.word (pbase p + f.off)) f.hi f.lo
/-- The shadow value of field `f` of page `p`. -/
def Base.shFld (b : Base) (p : Page) (f : Fld) : Nat := wget (b.shWord (pbase p + f.off)) f.hi f.lo
/-- The live value of a one-bit field. -/
def Base.bit (b : Base) (p : Page) (f : Fld) : Bool := b.fld p f == 1
/-- Set the live value of field `f` of page `p`. -/
def Base.setFld (b : Base) (p : Page) (f : Fld) (v : Nat) : Base :=
  b.setWord (pbase p + f.off) (wput (b.word (pbase p + f.off)) f.hi f.lo v)
/-- Set the shadow value of field `f` of page `p`. -/
def Base.setShFld (b : Base) (p : Page) (f : Fld) (v : Nat) : Base :=
  b.setShWord (pbase p + f.off) (wput (b.shWord (pbase p + f.off)) f.hi f.lo v)
/-- The value in effect of a register whose writes wait for a reset (18 R372). -/
def Base.latWord (b : Base) (a : Nat) : Word := SMap.get (fun _ => 0) b.lat a
/-- Set live value and shadow of an RWS field together. -/
def Base.setBoth (b : Base) (p : Page) (f : Fld) (v : Nat) : Base := (b.setFld p f v).setShFld p f v
/-- Set a one-bit field. -/
def Base.setBit (b : Base) (p : Page) (f : Fld) (v : Bool) : Base := b.setFld p f (b2n v)
/-- Add to a counter field, saturating at its width. -/
def Base.addFld (b : Base) (p : Page) (f : Fld) (k : Nat) : Base :=
  b.setFld p f (satAdd (2 ^ (f.hi + 1 - f.lo) - 1) (b.fld p f) k)

/-- Put a message in the outbox. -/
def Base.send (b : Base) (m : Msg) : Base := { b with out := b.out ++ [m] }

/-- Change the entries of a register map whose address lies in [lo, hi): entry `a` holding `w` becomes `f a w`. -/
def mapRange (m : SMap Word) (lo hi : Nat) (f : Nat → Word → Word) : SMap Word :=
  SMap.mapKV regReset (fun a w => if lo ≤ a ∧ a < hi then f a w else w) m

/-- The value a read of register `r` with live word `w` and shadow `sh` returns: RWS fields read their shadow, WO and
RSV bits read zero (00 "Access types"). -/
def RegSpec.readValue (r : RegSpec) (w sh : Word) : Word :=
  (w &&& (r.mask .rw ||| r.mask .ro ||| r.mask .w1c ||| r.mask .w1s ||| r.mask .rc)) ||| (sh &&& r.mask .rws)

/-- The live word after a write of `v`: RW fields take it, W1C fields clear, W1S fields set, the rest keep
(00 "Access types"). -/
def RegSpec.writeLive (r : RegSpec) (w v : Word) : Word :=
  let rw := r.mask .rw
  let w1 := (w &&& ~~~ rw) ||| (v &&& rw)
  let w2 := w1 &&& ~~~ (v &&& r.mask .w1c)
  w2 ||| (v &&& r.mask .w1s)

/-- The shadow word after a write of `v`. -/
def RegSpec.writeShadow (r : RegSpec) (sh v : Word) : Word :=
  (sh &&& ~~~ (r.mask .rws)) ||| (v &&& r.mask .rws)

/-- Does a commit of page `p` stand pending (02 R27)? -/
def Base.commitPend (b : Base) (p : Page) : Bool := b.bit p HDR.BLK_STAT_COMMIT_PEND

/-- The address range a page's own registers and shadows lie in. -/
def inPage (p : Page) (a : Nat) : Bool := decide (pbase p ≤ a) && decide (a < pbase p + pspan p)

/-- The block of page `p` writes the 64-bit word at MA address `a` of one of its DEC stores: with RAW = 1 check bit 0 is
stored inverted (23 R471). -/
def Base.decStore (b : Base) (p : Page) (a : Nat) : Base :=
  { b with decBad := SMap.set (fun _ => false) b.decBad (a / 8) (b.bit p HDR.ERR_CFG_RAW) }

/-- Is the word at MA address `a` of a DEC store planted with a wrong check bit (23 R471)? -/
def Base.decPlanted (b : Base) (a : Nat) : Bool := SMap.get (fun _ => false) b.decBad (a / 8)

/-- The block of page `p` reads the word at MA address `a` of its DEC store for its own use: a planted word is noted, to be
counted and logged at the next microsecond or the next register read (02 R32). -/
def Base.decUse (b : Base) (p : Page) (a : Nat) : Base :=
  if b.decPlanted a then { b with decSeen := b.decSeen ++ [(p, a)] } else b

/-- The same for several words. -/
def Base.decUses (b : Base) (p : Page) (as : List Nat) : Base := as.foldl (fun b a => b.decUse p a) b

/-- The addresses of page `p` that either register map lists. -/
def Base.pageKeys (b : Base) (p : Page) : List Nat :=
  (b.regs.map Prod.fst ++ b.shad.map Prod.fst).filter (inPage p)

/-- `w` with the RWS bits of the register at `a` taken from `v`. -/
def rwsMix (a : Nat) (w v : Word) : Word :=
  match regAt a with
  | some r => (w &&& ~~~ (r.mask .rws)) ||| (v &&& r.mask .rws)
  | none => w

/-- Copy the shadows of page `p` whose page offset satisfies `sel` over their live values (02 R26): the RWS bits of
each register, and only they. -/
def Base.applySh (b : Base) (p : Page) (sel : Nat → Bool) : Base :=
  ((b.pageKeys p).filter fun a => sel (a - pbase p)).foldl
    (fun b a => b.setWord a (rwsMix a (b.word a) (b.shWord a))) b

/-- Copy every shadow of page `p` over its live value. -/
def Base.applyShadows (b : Base) (p : Page) : Base := b.applySh p (fun _ => true)

/-- Reload every shadow of page `p` from its live value (02 R27). -/
def Base.reloadShadows (b : Base) (p : Page) : Base :=
  (b.pageKeys p).foldl (fun b a => b.setShWord a (rwsMix a (b.shWord a) (b.word a))) b

/-- Return the registers of page `p` that satisfy `sel` to their reset values, but for the sticky fields when
`keepSticky` (02 R37). -/
def Base.resetRegs (b : Base) (p : Page) (keepSticky : Bool) (sel : Nat → Bool) : Base :=
  { b with regs := mapRange b.regs (pbase p) (pbase p + pspan p) (fun a w =>
      if sel (a - pbase p) then
        match regAt a with
        | some r => if keepSticky then (w &&& r.sticky) ||| (regReset a &&& ~~~ r.sticky) else regReset a
        | none => regReset a
      else w) }

/-- Is page `p`'s reset pulled by the reset of its whole header: BLK_STAT, EVT_STAT, ERR_CNT at a BLOCK reset
(02 R37)? -/
def blockHdr (o : Nat) : Bool := o == 0xC || o == 0x14 || o == 0x20

end Sys2Proof.Machine
end

