-- ==== Sys2Proof/Machine/Events.lean ====
section
/-! DEFINITION. Events, errors, messages and the croak log: the operations every block shares (02 R30 to R36,
18 R377, 22 R457, R458). -/
namespace Sys2Proof.Machine

/-! ### MSI-X (18 R377) -/

/-- A function as PCIe resets it: not ready, no command bit set. -/
def FnState.init : FnState := ⟨false, false, false, false, false, false, false⟩
/-- The configuration state of function `f` (0 PF0, 1 to 8 PF1 to PF8, 9 PF0B, 10 + 32 c + v - 1 the VFs). -/
def Base.fn (b : Base) (f : Nat) : FnState := SMap.get (fun _ => FnState.init) b.fns f
/-- Change the configuration state of function `f`. -/
def Base.setFn (b : Base) (f : Nat) (g : FnState → FnState) : Base :=
  { b with fns := SMap.upd (fun _ => FnState.init) b.fns f g }

/-- Is an FLR of the function of context `c`, PF(c + 1), in progress? -/
def Base.flrCtx (b : Base) (c : Nat) : Bool := (b.fn (c + 1)).flr

/-- Does an FLR or a CONTEXT reset of context `c` run (14 R305, 19 R402)? -/
def Base.ctxResets (b : Base) (c : Nat) : Bool := b.flrCtx c || nbit (b.fld .pkg PKG.CTX_STAT_ACTIVE) c

/-- What an unwritten MSI-X table word holds: PCIe resets the mask bit of Vector Control to 1. -/
def msixReset (k : Nat) : Word := if k % 4 = 3 then 1 else 0
/-- Word `w` of MSI-X table entry `v` of function `f`. -/
def Base.msixWord (b : Base) (f v w : Nat) : Word := SMap.get msixReset b.msixTab (f * 8192 + v * 4 + w)
/-- Is the pending bit of vector `v` of function `f` set? -/
def Base.msixPending (b : Base) (f v : Nat) : Bool := SMap.get (fun _ => false) b.msixPend (f * 2048 + v)
/-- Set or clear a pending bit. -/
def Base.setMsixPending (b : Base) (f v : Nat) (x : Bool) : Base :=
  { b with msixPend := SMap.set (fun _ => false) b.msixPend (f * 2048 + v) x }

/-- Does function `f` lie on port B (18 R367, R369, R384)? PF0B always; PFn and its VFs when the PORT_SEL in effect says so; all
only when the port is bifurcated. -/
def Base.onPortB (b : Base) (f : Nat) : Bool :=
  b.bit .pci PCI.LINK_STAT_BIF &&
    (if f = 9 then true
     else if f = 0 then false
     else nbit (b.latWord (pbase .pci + 0x50)).toNat (if f < 9 then f else (f - 10) / 32 + 1))

/-- Is the link of function `f`'s port up? -/
def Base.fnLinkUp (b : Base) (f : Nat) : Bool :=
  if b.onPortB f then b.bit .pci PCI.LINK_STAT_UP_B else b.bit .pci PCI.LINK_STAT_UP_A

/-- May vector `v` of function `f` be sent now: enables, masks and link (18 R377), D0 (R381), no quiesce (R383)? -/
def Base.msixOpen (b : Base) (f v : Nat) : Bool :=
  let s := b.fn f
  s.bme && s.msixEn && b.fnLinkUp f && !s.fmask && !s.d3hot && (b.msixWord f v 3 &&& 1 == 0) &&
    !b.bit .pci PCI.RMV_STAT_QUIESCED && !(b.fld .ckr CKR.STAT_REF == 2) && !(b.fld .ckr CKR.STAT_REF == 3) && !b.dead

/-- Send an MSI-X message, or set its pending bit where it may not go out (18 R377). -/
def Base.msixSend (b : Base) (f v : Nat) : Base :=
  if b.msixOpen f v then b.send (.msix f v) else b.setMsixPending f v true

/-- Send every pending message that may go out now (18 R377). -/
def Base.msixFlush (b : Base) : Base :=
  b.msixPend.foldl (fun b e =>
    if b.msixOpen (e.1 / 2048) (e.1 % 2048)
    then (b.setMsixPending (e.1 / 2048) (e.1 % 2048) false).send (.msix (e.1 / 2048) (e.1 % 2048)) else b) b

/-! ### Event lines and routes (02 R33, R34) -/

/-- The event line of a page: some bit of EVT_STAT AND EVT_EN is 1 (02 R33). -/
def Base.line (b : Base) (p : Page) : Bool :=
  b.word (pbase p + 0x14) &&& b.word (pbase p + 0x18) != 0

/-- The MA address of word `w` of the route entry of source `s` (02 R34). -/
def routeAddr (s w : Nat) : Nat := 0x40A1000 + 8 * s + 4 * w

/-- Send one message of source `s` to its routes: Anole and MSI-X (02 R34). Fabric event lines and gecko inputs
follow the line's level and are not messages (R33). -/
def Base.route (b : Base) (s : Nat) : Base :=
  let lo := b.word (routeAddr s 0)
  let b := b.decUse .evr (routeAddr s 0)
  let b := if wget lo 16 16 = 1 then b.send (.anole s) else b
  if wget lo 15 15 = 1 then b.msixSend (wget lo 14 11) (wget lo 10 0) else b

/-- Set EVT_STAT bits of page `p`; when its line rises, a message goes to its routes (02 R33). -/
def Base.setEvt (b : Base) (p : Page) (mask : Word) : Base :=
  let b' := b.setWord (pbase p + 0x14) (b.word (pbase p + 0x14) ||| mask)
  if b.line p then b' else if b'.line p then b'.route (psrc p) else b'

/-- One EVT_STAT bit. -/
def evt (i : Nat) : Word := BitVec.ofNat 32 (1 <<< i)

/-- Set EVT_STAT bit `i` of page `p`. -/
def Base.event (b : Base) (p : Page) (i : Nat) : Base := b.setEvt p (evt i)

/-- Set EVT_STAT bit `i` when `c` holds. -/
def Base.eventIf (b : Base) (c : Bool) (p : Page) (i : Nat) : Base := if c then b.event p i else b

/-- The sources routed to fabric event line `l` of tower `t` drive it as an OR (02 R33). -/
def Base.fabLine (b : Base) (t l : Nat) : Bool :=
  allPages.any fun p =>
    let lo := b.word (routeAddr (psrc p) 0)
    b.line p && wget lo 17 17 == 1 && wget lo 25 24 == t && wget lo 23 18 == l

/-- The sources routed to event input `i` of gecko `g` drive it as an OR (02 R33). -/
def Base.geckoLine (b : Base) (g i : Nat) : Bool :=
  allPages.any fun p =>
    let lo := b.word (routeAddr (psrc p) 0)
    let hi := b.word (routeAddr (psrc p) 1)
    b.line p && wget lo 26 26 == 1 && wget hi 6 0 == g && wget hi 8 7 == i

/-! ### The croak log (22 R457, R458) -/

/-- A record never written reads as zeros (22 R461). -/
def CrkRec.zero : CrkRec := ⟨0, 0, 0, 0, 0, 0, 0, 0, 0, 0⟩
/-- The record at index `i` of the log. -/
def Base.crkAt (b : Base) (i : Nat) : CrkRec := SMap.get (fun _ => CrkRec.zero) b.crkLog i

/-- Word `w` of a croak record (22 R457). -/
def CrkRec.word (r : CrkRec) (w : Nat) : Word :=
  if w = 0 then w32 r.time
  else if w = 1 then w32 (r.time / 2 ^ 32)
  else if w = 2 then w32 r.seq
  else if w = 3 then w32 (r.code % 0x10000 + r.src % 0x10000 * 0x10000)
  else if w = 4 then w32 (r.boot % 0x10000 + r.sev % 256 * 0x10000 + r.writer % 256 * 0x1000000)
  else if w = 5 then w32 r.d0
  else if w = 6 then w32 r.d1
  else w32 (r.d2 % 0x10000)

/-- The codes that freeze the log (22 R458). -/
def crkFreezes (code : Nat) : Bool := code == 0x220 || code == 0x221 || code == 0x250

/-- Write one record, or count it lost while the log is frozen; a freezing code freezes the log after its own
record (22 R457, R458). -/
def Base.croak (b : Base) (code src sev writer d0 d1 d2 : Nat) : Base :=
  if b.bit .ano ANO.CRK_FROZEN then b.addFld .ano ANO.CRK_LOST 1
  else
    let n := b.crkNext
    let r : CrkRec := ⟨b.aonUs, n, code, src, b.crkBoot, sev, writer, d0 % 2 ^ 32, d1 % 2 ^ 32, d2 % 2 ^ 16⟩
    let b := { b with crkLog := SMap.set (fun _ => CrkRec.zero) b.crkLog (n % 4096) r, crkNext := (n + 1) % 2 ^ 32 }
    let b := (b.setFld .ano ANO.CRK_SEQ n).setFld .ano ANO.CRK_WP ((n + 1) % 4096)
    let b := if 4096 ≤ n then b.setBit .ano ANO.CRK_WRAPPED true else b
    let b := (List.range 4).foldl (fun b i => b.decStore .ano (0x4070000 + 32 * (n % 4096) + 8 * i)) b
    if crkFreezes code then (b.setBit .ano ANO.CRK_FROZEN true).event .ano 11 else b

/-- WRITER of a record of the active Anole: 0 in tower 0, 1 in tower 2 (22 R457, R460). -/
def Base.anoleWriter (b : Base) : Nat := b.fld .ano ANO.STAT_ACTIVE

/-- A record the active Anole writes with no event source (SRC 0x3FF). -/
def Base.anoleCroak (b : Base) (code src sev d0 d1 d2 : Nat) : Base := b.croak code src sev b.anoleWriter d0 d1 d2

/-! ### Non-maskable events (02 R36) -/

/-- Raise NME `cause`, whose page has event source `src`: NME_STAT, NME_FIRST, a hardware croak record, Anole and
PF0 vector 0 (02 R36, 22 R457). ALERT_N follows NME_STAT. -/
def Base.raiseNme (b : Base) (cause src : Nat) (forced : Bool) (d0 : Nat) : Base :=
  let b' := if b.fld .evr EVR.NME_STAT_CAUSE = 0 then b.setFld .evr EVR.NME_FIRST_CAUSE cause else b
  let b' := b'.setFld .evr EVR.NME_STAT_CAUSE (nset (b.fld .evr EVR.NME_STAT_CAUSE) cause)
  let b' := b'.croak (0x100 + cause) (src + (if forced then 0x4000 else 0) + 0x8000) 2 2 d0 0 0
  (b'.send (.anoleNme cause)).msixSend 0 0

/-- Is ALERT_N asserted: until NME_STAT.CAUSE reads zero (02 R36)? -/
def Base.alertN (b : Base) : Bool := b.fld .evr EVR.NME_STAT_CAUSE != 0

/-! ### Error counting and logging (02 R30, R31) -/

/-- What an error log entry holds (02 R25, ERR_LOG0 to ERR_LOG5). -/
structure ErrInfo where
  kind : Nat
  uc : Bool := false
  poison : Bool := false
  addr : Nat := 0
  ctx : Option Nat := none
  src : Option Nat := none
  syn : Nat := 0
  det : Nat := 0
  deriving DecidableEq, Repr

/-- ERR_LOG0 of an entry, with overflow count `ovf`. -/
def ErrInfo.log0 (e : ErrInfo) (ovf : Nat) : Word :=
  w32 (1 + 2 * b2n e.uc + 4 * b2n e.poison + 16 * (e.kind % 16) + 256 * ovf +
    (match e.ctx with | some c => 0x80000 + 0x10000 * (c % 8) | none => 0))

/-- Capture entry `e` in page `p`'s error log with overflow count `ovf`. -/
def Base.capture (b : Base) (p : Page) (e : ErrInfo) (ovf : Nat) : Base :=
  let b := b.setWord (pbase p + 0x28) (e.log0 ovf)
  let b := b.setWord (pbase p + 0x2C) (w32 e.addr)
  let b := b.setWord (pbase p + 0x30) (w32 (e.addr / 2 ^ 32 % 2 ^ 16 +
    (match e.src with | some i => 0x4000000 + 0x10000 * (i % 1024) | none => 0)))
  let b := b.setWord (pbase p + 0x34) (w32 e.syn)
  let b := b.setWord (pbase p + 0x38) (w32 e.det)
  b.setWord (pbase p + 0x3C) (w32 b.aonUs)

/-- Log an error under 02 R31: capture it, or replace a correctable entry by an uncorrectable one, or count it in
OVF. -/
def Base.logErr (b : Base) (p : Page) (e : ErrInfo) : Base :=
  let ovf := satAdd 0xFF (b.fld p HDR.ERR_LOG0_OVF) 1
  let uc : Word := if e.uc then evt 1 else 0
  if b.fld p HDR.ERR_LOG0_VALID = 0 then (b.capture p e 0).setEvt p uc
  else if e.uc ∧ b.fld p HDR.ERR_LOG0_UC = 0 then (b.capture p e ovf).setEvt p (evt 2 ||| uc)
  else (b.setFld p HDR.ERR_LOG0_OVF ovf).setEvt p (evt 2 ||| uc)

/-- Count `n` correctable errors of page `p` (02 R30): INC each into COUNT, one each into TOTAL, ERR_THR when COUNT
rises to THRESH. -/
def Base.countCorr (b : Base) (p : Page) (n : Nat) : Base :=
  let c := b.fld p HDR.ERR_CNT_COUNT
  let c' := satAdd 0xFFFF c (n * b.fld p HDR.ERR_CFG_INC)
  let t := b.fld p HDR.ERR_CFG_THRESH
  let b' := (b.setFld p HDR.ERR_CNT_COUNT c').setFld p HDR.ERR_CNT_TOTAL (satAdd 0xFFFF (b.fld p HDR.ERR_CNT_TOTAL) n)
  b'.eventIf (decide (t ≠ 0 ∧ c < t ∧ t ≤ c')) p 0

/-- A correctable error: counted under R30 and logged under R31. -/
def Base.corrErr (b : Base) (p : Page) (e : ErrInfo) : Base := (b.countCorr p 1).logErr p e

/-! ### Free values -/

/-- Advance the counter that names the next free value. -/
def Base.bump (b : Base) : Base := { b with free := b.free + 1 }

/-! ### DEC stores (23 R464, R465, R471) -/

/-- What RAW plants: check bit 0 inverted (23 R471). -/
def decPlant : Nat := 1

/-- A word of a table that cannot be corrected: NME cause 5, croaked with the source of its page, and the entry takes its reset value
(23 R465). -/
def Base.decLost (b : Base) (p : Page) (a : Nat) : Base :=
  (b.setWord a (regReset a)).raiseNme 5 (psrc p) false (psrc p)

/-- A planted word is read: what the code corrects is a correctable error of its page, whose KIND the spec does not give. -/
def Base.decError (b : Base) (p : Page) (a : Nat) : Base :=
  match decFind decPlant with
  | some _ => b.bump.corrErr p { kind := (Config.freeBits 4 b.free).toNat, addr := a }
  | none => b.decLost p a

/-- Count and log the planted words that blocks have read for their own use (02 R32). -/
def Base.decReport (b : Base) : Base :=
  b.decSeen.foldl (fun b e => b.decError e.1 e.2) { b with decSeen := [] }

/-! ### Measurements (22 R453) -/

/-- Measurement `i` is taken anew. The spec lists its content, not that content's layout, so the digest is free: the
number of a free value is kept, and before the first taking it is one of the measurement's own. -/
def Base.measure (b : Base) (i : Nat) : Base :=
  { b with meas := SMap.set (fun i => 2 ^ 64 + i) b.meas i b.free, free := b.free + 1 }

/-- The digest of measurement `i`. -/
def Base.digest (b : Base) (i : Nat) : BitVec 384 := Config.freeBits 384 (SMap.get (fun i => 2 ^ 64 + i) b.meas i)


end Sys2Proof.Machine
end

