-- ==== Sys2Proof/Machine/Live.lean ====
section
/-! DEFINITION. Which context is live where: the shell, the tenant area, excluded and powered-down marshes, write
enables, block enables, and the clocks counted in (05 R81, R102, R113; 21 R426, R427; 20 R404 to R408). -/
namespace Sys2Proof.Machine

/-- The tower page constructors take a tower; `tw n` names tower `n` mod 4. -/
def tw (n : Nat) : Tower := ⟨n % 4, Nat.mod_lt _ (by decide)⟩
/-- Pond page of package-wide pond `n` mod 128. -/
def pond (n : Nat) : Page := .pnd ⟨n % 128, Nat.mod_lt _ (by decide)⟩
/-- Gecko page of gecko `n` mod 128. -/
def gkPage (n : Nat) : Page := .gkc ⟨n % 128, Nat.mod_lt _ (by decide)⟩
/-- Page of GDDR6 controller `n` mod 16. -/
def gdPage (n : Nat) : Page := .gd ⟨n % 16, Nat.mod_lt _ (by decide)⟩
/-- ENC page of controller `n` mod 16. -/
def encPage (n : Nat) : Page := .enc ⟨n % 16, Nat.mod_lt _ (by decide)⟩
/-- Page of Efmel port `n` mod 8. -/
def eflPage (n : Nat) : Page := .efl ⟨n % 8, Nat.mod_lt _ (by decide)⟩
/-- Page of I/O bank `n` mod 12. -/
def iobPage (n : Nat) : Page := .iob ⟨n % 12, Nat.mod_lt _ (by decide)⟩
/-- The four towers. -/
def towers : List Nat := [0, 1, 2, 3]

/-- Is a shell declared in the package (05 R102)? -/
def Base.shellDecl (b : Base) : Bool := b.bit (.chm 0) CHM.SHELL_DECL

/-- Does marsh `m` of tower `t` lie in the rectangle of shell word `w` (05 R102, R116)? -/
def inShellRect (w : Word) (m : Nat) : Bool :=
  wget w 24 24 == 1 && decide (wget w 3 0 ≤ m / 32) && decide (m / 32 ≤ wget w 7 4) &&
    decide (wget w 12 8 ≤ m % 32) && decide (m % 32 ≤ wget w 20 16)

/-- Is marsh `m` of tower `t` a shell marsh (05 R81, R102)? -/
def Base.isShell (b : Base) (t m : Nat) : Bool := inShellRect (b.word (pbase (.chm (tw t)) + 0x58)) m

/-- Bit `m` of a 384-bit array of twelve words at offset `off` of tower `t`'s CHM page. -/
def Base.marshBit (b : Base) (t off m : Nat) : Bool := wget (b.word (pbase (.chm (tw t)) + off + 4 * (m / 32))) (m % 32) (m % 32) == 1
/-- Is marsh `m`'s EXCLUDE bit set (05 R113)? -/
def Base.excludeBit (b : Base) (t m : Nat) : Bool := b.marshBit t 0x80 m
/-- Is marsh `m`'s configuration bus LAME (05 R112)? -/
def Base.lameCb (b : Base) (t m : Nat) : Bool := b.marshBit t 0xC0 m

/-- Is marsh `m` outside the tenant area: excluded, or cleared but not yet rejoined (05 R113)? -/
def State.isOut (s : State) (t m : Nat) : Bool :=
  s.b.excludeBit t m || SMap.get (fun _ => false) s.cfg.out (t * 384 + m)

/-- The logic domain of a marsh (21 R426). -/
def domainOf (m : Nat) : Nat := 4 * (m / 32 / 3) + m % 32 / 8
/-- Is marsh `m`'s logic domain powered down, or on its way (21 R427)? -/
def Base.domainDown (b : Base) (t m : Nat) : Bool :=
  nbit (b.fld (.pwr (tw t)) PWR.LPD_STAT_OFF) (domainOf m) || nbit (b.fld (.pwr (tw t)) PWR.LPD_STAT_BUSY) (domainOf m)

/-- The live context of marsh `m` of tower `t` (05 R80, R81): C0 in the shell; a marsh outside the tenant area keeps the one
its front plane holds. -/
def Base.liveOf (b : Base) (t m : Nat) : Nat :=
  if b.isShell t m then 0
  else match SMap.get (fun _ => none) b.heldCtx (t * 384 + m) with
    | some c => c
    | none => b.fld (.chm (tw t)) CHM.STAT_LIVE
/-- Set or end a marsh's own live context. -/
def Base.hold (b : Base) (t m : Nat) (c : Option Nat) : Base :=
  { b with heldCtx := SMap.set (fun _ => none) b.heldCtx (t * 384 + m) c }

/-- Does marsh `m` belong to the tenant area (05 R81)? -/
def State.isTenant (s : State) (t m : Nat) : Bool := !s.b.isShell t m && !s.isOut t m

/-- Is context `c`'s write enable high in tower `t` (06 R130)? -/
def Base.we (b : Base) (t c : Nat) : Bool := nbit (b.fld (.cfg (tw t)) CFG.WE_CTX) c

/-- The tenant-area marshes of tower `t`. -/
def State.tenantMarshes (s : State) (t : Nat) : List Nat := (List.range 384).filter (s.isTenant t)

/-- A page's block is enabled: BLK_CTRL.EN, and not held in reset (02 R25, R515). -/
def Base.enabled (b : Base) (p : Page) : Bool := b.bit p HDR.BLK_CTRL_EN

/-- BLK_STAT.STATE values (02 R25). -/
def stDisabled : Nat := 0
def stResetting : Nat := 1
def stActive : Nat := 2
def stDraining : Nat := 3
def stAsleep : Nat := 4
def stWaking : Nat := 5
def stLame : Nat := 6
def stFault : Nat := 15

/-- Set BLK_STAT.STATE unless RESETTING, LAME or FAULT shows in its place (02 R515); a block asleep has no clock (R25, AWAKE). -/
def Base.setState (b : Base) (p : Page) (v : Nat) : Base :=
  let c := b.fld p HDR.BLK_STAT_STATE
  if c = 1 ∨ c = 6 ∨ c = 15 then b else (b.setFld p HDR.BLK_STAT_STATE v).setBit p HDR.BLK_STAT_AWAKE (v != stAsleep)

/-- The state an enabled or disabled block rests in. -/
def Base.restState (b : Base) (p : Page) : Nat := if b.enabled p then stActive else stDisabled

/-- Is the page's block asleep or waking (02 R38)? -/
def Base.sleeps (b : Base) (p : Page) : Bool :=
  b.fld p HDR.BLK_STAT_STATE == stAsleep || b.fld p HDR.BLK_STAT_STATE == stWaking

/-- A sleeping block wakes, for whatever reason. -/
def Base.rouse (b : Base) (p : Page) : Base := if b.sleeps p then b.setState p (b.restState p) else b

/-- An idle block that may sleep goes to sleep (02 R25). -/
def Base.rest (b : Base) (p : Page) : Base :=
  if b.bit p HDR.BLK_CTRL_SLEEP_PERMIT && b.fld p HDR.BLK_STAT_STATE == stActive then b.setState p stAsleep else b

/-- What wakes a tower's chameleon wakes its configuration controller too (05 R119, 06 R143). -/
def Base.chmWake (b : Base) (t : Nat) : Base := (b.rouse (.chm (tw t))).rouse (.cfg (tw t))

/-- A packet wakes a sleeping block, which sets WAKE (02 R25). -/
def Base.wakePage (b : Base) (p : Page) : Base := if b.sleeps p then (b.setState p (b.restState p)).event p 6 else b

/-- The value a field acts as: itself where the field's table lists it, else one of those listed, which one free
(00 R8, log entry 13). -/
def listedOr (f : OpenField) (l : List Nat) (v : Nat) : Nat :=
  if l.contains v then v else l.getD (Config.actsAs f v % l.length) 0

/-- Do the root-derived clocks stand still: before the root locks at start-up (24 R488), in STARTING or SAFE (20 R418, R419),
or in thermal shutdown (21 R437)? -/
def Base.gated (b : Base) : Bool := !b.bit .ckr CKR.STAT_LOCK || b.dead

/-- `n` passes of scrubber or patrol begin at `now`. -/
def passAll (n now : Nat) : SMap Nat := (List.range n).foldl (fun m k => SMap.set (fun _ => 0) m k now) []
/-- A pass is stopped, or resumes (06 R134, 09 R199, 16 R332): while it runs the map holds when it began, while it is stopped how long
it ran. -/
def passFlip (m : SMap Nat) (k now : Nat) : SMap Nat := SMap.set (fun _ => 0) m k (now - SMap.get (fun _ => 0) m k)

/-- The root cycles of one microsecond: the root's frequency in MHz at the part's grade (20 R405). -/
def Part.rootMhz (p : Part) : Nat := if p.grade = 3 then 4800 else if p.grade = 2 then 4200 else 3600

/-- The current divider of global clock `g` of tower `t` (20 R410). -/
def Base.gclkDiv (b : Base) (t g : Nat) : Nat := b.fld (.clk (tw t)) (CLK.GCLK_CUR_DIV.nth g)
/-- Is global clock `g` of tower `t` distributed (20 R408)? -/
def Base.gclkEn (b : Base) (t g : Nat) : Bool := b.bit (.clk (tw t)) (CLK.GCLK_CFG_EN.nth g)
/-- The switch clock of tower `t` (05 R82). -/
def Base.swclk (b : Base) (t : Nat) : Nat := b.fld (.chm (tw t)) CHM.CTRL_SWCLK

/-- After a swap of tower `t`, its gated geckos pause or resume with their context, and a sleeping one wakes (11 R235,
R236, R244): RUNNING 1 and PAUSED 2. -/
def Base.gkGate (b : Base) (t : Nat) : Base :=
  (List.range 32).foldl (fun b p =>
    let pg := gkPage (32 * (t % 4) + p)
    let run := b.fld pg GKC.STAT_RUN
    let live := b.fld pg GKC.BIND_CTX == b.fld (.chm (tw t)) CHM.STAT_LIVE
    if !b.bit pg GKC.BIND_GATE then b
    else if run = 1 ∧ live = false then b.setFld pg GKC.STAT_RUN 2
    else if run = 2 ∧ live = true then
      let b := b.setFld pg GKC.STAT_RUN 1
      if b.fld pg HDR.BLK_STAT_STATE = stAsleep then b.setState pg (b.restState pg) else b
    else b) b

/-- The commit of page `p` ends as applied: COMMIT_PEND clears, COMMIT_RES 1, COMMIT_DONE (02 R27). -/
def Base.commitDone (b : Base) (p : Page) : Base :=
  ((b.setFld p HDR.BLK_STAT_COMMIT_PEND 0).setFld p HDR.BLK_STAT_COMMIT_RES 1).event p 3

/-- Parts of a pending commit that have not taken effect yet, one bit each (09 R202, 14 R292, 16 R336). -/
def Base.parts (b : Base) (p : Page) : Nat := SMap.get (fun _ => 0) b.commitParts (psrc p)
/-- Record the parts of page `p` still to take effect. -/
def Base.setParts (b : Base) (p : Page) (n : Nat) : Base :=
  { b with commitParts := SMap.set (fun _ => 0) b.commitParts (psrc p) n }
/-- A BLOCK reset's effect on the registers of page `p` (02 R37, R516): the page's own registers return to their reset
values but for sticky fields and those at the offsets `keep` names; in the header BLK_STAT (STATE apart), EVT_STAT and
ERR_CNT; a pending commit is abandoned with COMMIT_RES 0; RAW clears; the shadows follow the live values. -/
def Base.blockRegs (b : Base) (p : Page) (keep : Nat → Bool) : Base :=
  let st := b.fld p HDR.BLK_STAT_STATE
  let raw := b.bit p HDR.ERR_CFG_RAW
  let b := b.resetRegs p true (fun o => !(o == 8 || o == 0x18 || o == 0x24 || keep o))
  let b := ((b.setFld p HDR.BLK_STAT_STATE st).setBit p HDR.ERR_CFG_RAW false).setParts p 0
  (if raw = true then b.measure 13 else b).reloadShadows p

/-- WARM's effect on the registers of page `p` (02 R37, R516): as a BLOCK reset's, and the whole header but for the
error log. -/
def Base.warmRegs (b : Base) (p : Page) (keep : Nat → Bool) : Base :=
  let raw := b.bit p HDR.ERR_CFG_RAW
  let b := (b.resetRegs p true (fun o => !keep o)).setParts p 0
  (if raw = true then b.measure 13 else b).reloadShadows p

/-- Part `i` of page `p`'s commit has taken effect; the commit ends with its last part. -/
def Base.partDone (b : Base) (p : Page) (i : Nat) : Base :=
  let n := nclr (b.parts p) i
  let b := b.setParts p n
  if n = 0 then b.commitDone p else b

end Sys2Proof.Machine
end

