-- ==== Sys2Proof/Machine/Arbiter.lean ====
section
/-! DEFINITION. The weighted-share arbiters (15): refill, selection, grant, and the commit of weights and window. -/
namespace Sys2Proof.Machine

/-- The page that holds an arbiter's settings (15 R307). -/
def grpPage : ArbGroup → Page
  | .pond p => .pnd p | .bridge t => .hop t | .gd g => .gd g

/-- The group of an arbiter. -/
def instGroup : ArbInst → ArbGroup
  | .pond p => .pond p | .bridge t _ _ => .bridge t | .gd g => .gd g

/-- Offset of WINDOW in the page; WEIGHT0 follows it (15 R313). -/
def grpOff : ArbGroup → Nat
  | .pond _ => 0x4C | .bridge _ => 0x54 | .gd _ => 0x80

/-- How many requesters an arbiter lists: 9 at a pond or a bridge (15 R307), 28 at a GDDR6 controller (16 R335). -/
def grpCount : ArbGroup → Nat
  | .pond _ | .bridge _ => 9 | .gd _ => 28

/-- Where the arbiters of a group stand in `State.arb`: ponds 0 to 127, bridges from 128, controllers from 160. -/
def grpKeys : ArbGroup → List Nat
  | .pond p => [p] | .bridge t => (List.range 8).map (fun i => 128 + 8 * t.val + i) | .gd g => [160 + g.val]

/-- Where one arbiter stands in `State.arb`. -/
def instKey : ArbInst → Nat
  | .pond p => p | .bridge t st pr => 128 + (t.val * 2 + st.val) * 4 + pr.val | .gd g => 160 + g.val

/-- The bit of the page's pending commit that stands for its arbiter (09 R202, 14 R292, 16 R336). -/
def grpPart : ArbGroup → Nat
  | .pond _ => 0 | .bridge _ => 3 | .gd _ => 0

/-- The live window of a group. -/
def Base.arbWindow (b : Base) (g : ArbGroup) : Nat := wget (b.word (pbase (grpPage g) + grpOff g)) 15 0

/-- The live weight of requester `r`; 0 where the group lists no such requester (15 R307). -/
def Base.arbWeight (b : Base) (g : ArbGroup) (r : Nat) : Nat :=
  if r < grpCount g then
    wget (b.word (pbase (grpPage g) + grpOff g + 4 + 4 * (r / 4))) (8 * (r % 4) + 7) (8 * (r % 4))
  else 0

/-- The reset weight of requester `r` of a group (15 R313). -/
def arbWeight0 (g : ArbGroup) (r : Nat) : Nat :=
  match g with
  | .pond _ | .bridge _ => if r = 8 then 0x20 else 0x10
  | .gd _ => 0x10

/-- An arbiter as POR, WARM or a BLOCK reset leaves it: credits at the reset weights, the last winner the highest
index (15 R314). -/
def arbInit (g : ArbGroup) : Arb := ⟨(List.range (grpCount g)).map (arbWeight0 g), grpCount g - 1, none⟩

/-- The group whose arbiter has key `k`. -/
def keyGroup (k : Nat) : ArbGroup :=
  if k < 128 then .pond ⟨k % 128, Nat.mod_lt _ (by decide)⟩
  else if k < 160 then .bridge (tw ((k - 128) / 8)) else .gd ⟨(k - 160) % 16, Nat.mod_lt _ (by decide)⟩

/-- The arbiter with key `k`. -/
def arbAt (m : SMap Arb) (k : Nat) : Arb := SMap.get (fun k => arbInit (keyGroup k)) m k
/-- Store the arbiter with key `k`. -/
def arbPut (m : SMap Arb) (k : Nat) (a : Arb) : SMap Arb := SMap.set (fun k => arbInit (keyGroup k)) m k a

/-- Refill one credit counter: the smaller of the credit and the weight, plus the weight (15 R308). -/
def refill (c w : Nat) : Nat := Nat.min c w + w

/-- Refill every counter of an arbiter from weights `w` (15 R308). -/
def Arb.refill (a : Arb) (w : Nat → Nat) : Arb :=
  { a with cred := a.cred.zipIdx.map (fun e => Machine.refill e.1 (w e.2)) }

/-- The requesters searched upward from the last winner's index plus one, wrapping (15 R309). -/
def searchOrder (n last : Nat) : List Nat := (List.range n).map (fun i => (last + 1 + i) % n)

/-- The largest credit among the requesting (15 R309). -/
def topCredit (cred : List Nat) (req : Nat → Bool) : Nat :=
  (cred.zipIdx.filter (fun e => req e.2)).foldl (fun a e => Nat.max a e.1) 0

/-- The winner among the requesting (15 R309, R311): by largest credit and then by search order, or by search order
alone when the window is 0. -/
def Arb.winner (a : Arb) (useCred : Bool) (req : Nat → Bool) : Option Nat :=
  let n := a.cred.length
  let top := topCredit a.cred req
  (searchOrder n a.last).find? (fun r => req r && (!useCred || a.cred.getD r 0 == top))

/-- Grant a unit: the winner's counter is debited, and it becomes the last winner (15 R309). A window of 0 leaves the
counters unused (R311). -/
def Arb.grant (a : Arb) (useCred : Bool) (r : Nat) : Arb :=
  { cred := if useCred then a.cred.set r (a.cred.getD r 0 - 1) else a.cred, last := r, holder := some r }

/-- Is the arbiter part of the page's commit pending? -/
def Base.arbPending (b : Base) (g : ArbGroup) : Bool := b.commitPend (grpPage g) && nbit (b.parts (grpPage g)) (grpPart g)

/-- Apply the arbiter fields of the page's shadows (15 R312). -/
def Base.arbApply (b : Base) (g : ArbGroup) : Base :=
  (b.applySh (grpPage g) (fun o => decide (grpOff g ≤ o) && decide (o < grpOff g + 4 + 4 * ((grpCount g + 3) / 4)))).partDone
    (grpPage g) (grpPart g)

/-- Refill every arbiter of a group from the live weights. -/
def refillAll (b : Base) (m : SMap Arb) (g : ArbGroup) : SMap Arb :=
  (grpKeys g).foldl (fun m k => arbPut m k ((arbAt m k).refill (b.arbWeight g))) m

/-- Does the group's clock stand still: gated with the root, or the block that holds it asleep, a controller in self-refresh, a pond
with all its pad groups asleep, a base ring asleep (15 R314)? -/
def State.arbStill (s : State) (g : ArbGroup) : Bool :=
  s.b.gated ||
  match g with
  | .pond p => s.b.fld (.pnd p) PND.GSLEEP_ASLEEP == 15
  | .bridge t => SMap.get (fun _ => 0) s.hop.levels (3 * t.val + 2) != 0
  | .gd c => s.b.bit (.gd c) GD.STAT_SREF

/-- ARBITER_WINDOW (15 R308, R311, R312, R314): the next window boundary of a group. A pending commit takes effect first; with a live
window of 0 there is no boundary but the one a commit makes; none comes while the group's clock stands still. -/
def execArbiterWindow (g : ArbGroup) (s : State) : Host.Outcome State Fault Refusal :=
  if s.arbStill g then .next s
  else if s.b.arbPending g then
    let b := s.b.arbApply g
    .next { s with b := b, arb := refillAll b s.arb g }
  else if s.b.arbWindow g = 0 then .next s
  else .next { s with arb := refillAll s.b s.arb g }

/-- Arbitrate once: the arbiter after the grant, and the winner. With no requester the unit in progress has ended. -/
def Arb.step (a : Arb) (useCred : Bool) (req : Nat → Bool) : Arb × Option Nat :=
  match a.winner useCred req with
  | none => ({ a with holder := none }, none)
  | some r => (a.grant useCred r, some r)

/-- Serve one unit of requester `r`: the grant it holds already is used up, else it wins an arbitration at which it alone requests
(15 R309, R310). -/
def Arb.serve (a : Arb) (useCred : Bool) (r : Nat) : Arb :=
  if a.holder = some r then { a with holder := none } else { (a.grant useCred r) with holder := none }

/-- An arbiter of the device serves one unit of requester `r`. -/
def State.arbServe (s : State) (a : ArbInst) (r : Nat) : State :=
  { s with arb := arbPut s.arb (instKey a) ((arbAt s.arb (instKey a)).serve (s.b.arbWindow (instGroup a) != 0) r) }

/-- The requester a hop-network request is at port B of a pond and at a bridge stop: its CTX, or 8 when privileged
(09 R186, 14 R291). -/
def ctxRequester (r : HopReq) : Nat := if r.priv then 8 else r.ctx.val

/-- The requester it is at the input of a GDDR6 controller (16 R335). -/
def gdRequester (r : HopReq) : Nat :=
  let n := r.src.val
  if n = 1009 then 24
  else if 1010 ≤ n ∧ n < 1014 then 25
  else if r.priv then 27
  else if n < 256 ∨ 768 ≤ n ∧ n < 776 then r.ctx.val
  else if n < 384 then 8 + r.ctx.val
  else 16 + r.ctx.val

/-- ARBITER_GRANT (15 R309, R310): an arbitration point at which the requesters of `reqs` are requesting. A parked
holder that requests alone wins like any other. There is no arbitration point while the instance's clock stands still (R314). -/
def execArbiterGrant (a : ArbInst) (reqs : BitVec 32) (s : State) : Host.Outcome State Fault Refusal :=
  if s.arbStill (instGroup a) then .next s
  else
    let x := (arbAt s.arb (instKey a)).step (s.b.arbWindow (instGroup a) != 0) (fun r => reqs.getLsbD r)
    let b := match x.2 with | some r => s.b.send (.grant (instKey a) r) | none => s.b
    .next { s with b := b, arb := arbPut s.arb (instKey a) x.1 }

/-- A BLOCK reset of the page that holds a group's arbiters (15 R314). -/
def arbReset (m : SMap Arb) (g : ArbGroup) : SMap Arb := (grpKeys g).foldl (fun m k => arbPut m k (arbInit g)) m

end Sys2Proof.Machine
end

