-- ==== Sys2Proof/Machine/Sha.lean ====
section
/-! DEFINITION. SHA-384 and HMAC-SHA-384 (07 R151, R154; 22 R450, R453) over lists of bytes. The constants are what FIPS 180-4
says they are: bits of the fractions of the roots of the first primes. -/
namespace Sys2Proof.Machine

/-- Bytes as one number, the first byte most significant. -/
def beNat (l : List Byte) : Nat := l.foldl (fun a x => a * 256 + x.toNat) 0
/-- The `n` bytes of a number, the most significant first. -/
def beList (n x : Nat) : List Byte := (List.range n).map fun i => BitVec.ofNat 8 (x >>> (8 * (n - 1 - i)))

/-- Is `n` a prime below 440? -/
def smallPrime (n : Nat) : Bool := decide (2 ≤ n) && (List.range 19).all fun d => n == d + 2 || n % (d + 2) != 0
/-- The first eighty primes. -/
def shaPrimes : List Nat := (List.range 410).filter smallPrime

/-- The largest number of `n` more bits below `r` whose `k`-th power does not pass `x`. -/
def rootFloor (k x : Nat) : Nat → Nat → Nat
  | 0, r => r
  | n + 1, r => if (r + 2 ^ n) ^ k ≤ x then rootFloor k x n (r + 2 ^ n) else rootFloor k x n r

/-- The first 64 bits of the fraction of the `k`-th root of `p`. -/
def rootFrac (k p : Nat) : Nat := rootFloor k (p * 2 ^ (64 * k)) 68 0 % 2 ^ 64

/-- Exclusive-or of the rotations of a word by each distance. -/
def rotMix (x : Nat) (ds : List Nat) : Nat := ds.foldl (fun a d => a ^^^ (x >>> d ||| (x <<< (64 - d)) % 2 ^ 64)) 0

/-- `n` more schedule words, the newest at the front. -/
def shaGrow : Nat → List Nat → List Nat
  | 0, w => w
  | n + 1, w =>
    let x := w.getD 1 0
    let y := w.getD 14 0
    let new := w.getD 15 0 + (rotMix y [1, 8] ^^^ y >>> 7) + w.getD 6 0 + (rotMix x [19, 61] ^^^ x >>> 6)
    shaGrow n (new % 2 ^ 64 :: w)

/-- The two sequences the rounds make, the newest at the front: the working variables a to d are the last four of the first, e
to h of the second. `z` is the round's constant plus its schedule word. -/
def shaRoundStep (v : List Nat × List Nat) (z : Nat) : List Nat × List Nat :=
  let a := fun i => v.1.getD i 0
  let e := fun i => v.2.getD i 0
  let pick := e 2 ^^^ (e 0 &&& (e 1 ^^^ e 2))
  let most := (a 0 &&& (a 1 ||| a 2)) ||| (a 1 &&& a 2)
  let inc := e 3 + rotMix (e 0) [14, 18, 41] + pick + z
  ((inc + rotMix (a 0) [28, 34, 39] + most) % 2 ^ 64 :: v.1, (a 3 + inc) % 2 ^ 64 :: v.2)

/-- Absorb one block of sixteen words into the two chaining halves. -/
def shaAbsorb (v : List Nat × List Nat) (block : List Nat) : List Nat × List Nat :=
  let w := (shaGrow 64 block.reverse).reverse
  let r := (List.zipWith (fun p x => rootFrac 3 p + x) shaPrimes w).foldl shaRoundStep v
  let add := fun (x y : List Nat) => (List.zipWith (fun p q => (p + q) % 2 ^ 64) x y).take 4
  (add r.1 v.1, add r.2 v.2)

/-- The chaining halves before the first block: square roots of the ninth to sixteenth primes. -/
def shaStart : List Nat × List Nat :=
  let h := ((shaPrimes.drop 8).take 8).map (rootFrac 2)
  (h.take 4, h.drop 4)

/-- SHA-384 of a message. -/
def sha384 (m : List Byte) : List Byte :=
  let n := m.length
  let tail := beList (17 + (239 - n % 128) % 128) (0x80 <<< (8 * (16 + (239 - n % 128) % 128)) + 8 * n)
  let data := m ++ tail
  let word := fun i => beNat ((data.drop (8 * i)).take 8)
  let v := (List.range (data.length / 128)).foldl (fun v k => shaAbsorb v ((List.range 16).map fun j => word (16 * k + j))) shaStart
  ((v.1 ++ v.2.take 2).flatMap (beList 8))

/-- HMAC-SHA-384 for keys of at most one block (RFC 2104), as 07 R154 and 22 R450 use it. -/
def hmac384 (key m : List Byte) : List Byte :=
  let pad := fun (c : Byte) => (List.range 128).map fun i => key.getD i 0 ^^^ c
  sha384 (pad 0x5C ++ sha384 (pad 0x36 ++ m))

end Sys2Proof.Machine
end

