-- ==== Sys2Proof/Machine/Crypto.lean ====
section
/-! DEFINITION. AES-256, GMAC, key unwrap and GCM as 17 R345, 07 R154 and R155 use them: the standards' transforms, on numbers
whose most significant byte is the first byte. -/
namespace Sys2Proof.Machine

/-- The AES S-box, byte `x` at bits 8x + 7 to 8x. -/
def aesSboxBits : Nat := 0x16bb54b00f2d99416842e6bf0d89a18cdf2855cee9871e9b948ed9691198f8e19e1dc186b95735610ef6034866b53e708a8bbd4b1f74dde8c6b4a61c2e2578ba08ae7a65eaf4566ca94ed58d6d37c8e779e4959162acd3c25c2406490a3a32e0db0b5ede14b8ee4688902a22dc4f816073195d643d7ea7c41744975fec130ccdd2f3ff1021dab6bcf5389d928f40a351a89f3c507f02f94585334d43fbaaefd0cf584c4a39becb6a5bb1fc20ed00d153842fe329b3d63b52a05a6e1b1a2c830975b227ebe28012079a059618c323c7041531d871f1e5a534ccf73f362693fdb7c072a49cafa2d4adf04759fa7dc982ca76abd7fe2b670130c56f6bf27b777c63

/-- The S-box. -/
def aesSub (x : Nat) : Nat := (aesSboxBits >>> (8 * (x % 256))) % 256

/-- Doubling in the AES field. -/
def aesDbl (x : Nat) : Nat := if x < 128 then 2 * x else (2 * x - 256) ^^^ 0x1b

/-- The `n` bytes of a number, the most significant first. -/
def bytesBE : Nat → Nat → List Nat
  | 0, _ => []
  | n + 1, x => (x >>> (8 * n)) % 256 :: bytesBE n x

/-- A number from its bytes, the most significant first. -/
def ofBytesBE (l : List Nat) : Nat := l.foldl (fun a x => a * 256 + x) 0

/-- Exclusive-or of two byte lists. -/
def xorBytes (a b : List Nat) : List Nat := List.zipWith (· ^^^ ·) a b

/-- The next eight key words (32 bytes) of the AES-256 schedule, from the last eight and the round constant. -/
def aesNextKey (k : List Nat) (rc : Nat) : List Nat :=
  let w (i : Nat) := (k.drop (4 * i)).take 4
  let rot := match w 7 with | [a, b, c, d] => [aesSub b ^^^ rc, aesSub c, aesSub d, aesSub a] | l => l
  let w0 := xorBytes (w 0) rot
  let w1 := xorBytes (w 1) w0
  let w2 := xorBytes (w 2) w1
  let w3 := xorBytes (w 3) w2
  let w4 := xorBytes (w 4) (w3.map aesSub)
  let w5 := xorBytes (w 5) w4
  let w6 := xorBytes (w 6) w5
  let w7 := xorBytes (w 7) w6
  w0 ++ w1 ++ w2 ++ w3 ++ w4 ++ w5 ++ w6 ++ w7

/-- `n` more steps of the key schedule. -/
def aesExpand : Nat → List Nat → Nat → List Nat
  | 0, k, _ => k
  | n + 1, k, rc => k ++ aesExpand n (aesNextKey k rc) (aesDbl rc)

/-- ShiftRows on the 16 bytes of a block. -/
def aesShift (s : List Nat) : List Nat :=
  (List.range 16).map (fun i => s.getD ((i + 4 * (i % 4)) % 16) 0)

/-- MixColumns on one column. -/
def aesMixCol (a b c d : Nat) : List Nat :=
  let t := a ^^^ b ^^^ c ^^^ d
  [a ^^^ t ^^^ aesDbl (a ^^^ b), b ^^^ t ^^^ aesDbl (b ^^^ c), c ^^^ t ^^^ aesDbl (c ^^^ d), d ^^^ t ^^^ aesDbl (d ^^^ a)]

/-- MixColumns. -/
def aesMix (s : List Nat) : List Nat :=
  (List.range 4).flatMap fun i =>
    aesMixCol (s.getD (4 * i) 0) (s.getD (4 * i + 1) 0) (s.getD (4 * i + 2) 0) (s.getD (4 * i + 3) 0)

/-- `n` rounds with MixColumns from round keys `k`, then the last round without. -/
def aesRounds : Nat → List Nat → List Nat → List Nat
  | 0, s, k => xorBytes (aesShift (s.map aesSub)) (k.take 16)
  | n + 1, s, k => aesRounds n (xorBytes (aesMix (aesShift (s.map aesSub))) (k.take 16)) (k.drop 16)

/-- AES-256 encryption of a 128-bit block. -/
def aes256 (key block : Nat) : Nat :=
  let ks := aesExpand 7 (bytesBE 32 key) 1
  ofBytesBE (aesRounds 13 (xorBytes (bytesBE 16 block) (ks.take 16)) (ks.drop 16))

/-- The 128 multiplication steps of GHASH: `z` accumulates, `v` is the running multiple, bit `n - 1` of `x` comes next. -/
def ghashSteps : Nat → Nat → Nat → Nat → Nat
  | 0, _, z, _ => z
  | n + 1, x, z, v =>
    ghashSteps n x (if x.testBit n then z ^^^ v else z)
      (if v % 2 = 1 then (v / 2) ^^^ (0xE1 <<< 120) else v / 2)

/-- Multiplication in the field of GHASH. -/
def ghashMul (x y : Nat) : Nat := ghashSteps 128 x 0 y

/-- The 128-bit GMAC under key `kt` with a 96-bit `iv` of 64 bytes of additional data, given as four blocks. -/
def gmac64 (kt iv : Nat) (blocks : List Nat) : Nat :=
  let h := aes256 kt 0
  let y := (blocks ++ [512 <<< 64]).foldl (fun y x => ghashMul (y ^^^ x) h) 0
  y ^^^ aes256 kt ((iv <<< 32) + 1)

/-- Reverse the 16 bytes of a block: a line's block has byte 0 in its low bits, AES takes byte 0 first. -/
def revBlock (x : Nat) : Nat := ofBytesBE ((List.range 16).map (fun i => nbyte x i))

/-! ### Decryption and the modes of the image format (07 R154, R155; 22 R450) -/

/-- The inverse S-box, byte `x` at bits 8x + 7 to 8x. -/
def aesUnsubBits : Nat := 0x7d0c2155631469e126d677ba7e042b17619953833cbbebc8b0f52aae4d3be0a0ef9cc9939f7ae52d0d4ab519a97f51605fec8027591012b131c7078833a8dd1ff45acd78fec0db9a2079d2c64b3e56fc1bbe18aa0e62b76f89c5291d711af1476edf751ce837f9e28535ade72274ac9673e6b4f0cecff297eadc674f4111913a6b8a130103bdafc1020f3fca8f1e2cd00645b3b80558e4f70ad3bc8c00abd890849d8da75746155edab9edfd5048706c92b6655dcc5ca4d41698688664f6f87225d18b6d49a25b76b224d92866a12e084ec3fa420b954cee3d23c2a632947b54cbe9dec444438e3487ff2f9b8239e37cfbd7f3819ea340bf38a53630d56a0952
/-- The inverse S-box. -/
def aesUnsub (x : Nat) : Nat := (aesUnsubBits >>> (8 * (x % 256))) % 256
/-- InvShiftRows. -/
def aesUnshift (s : List Nat) : List Nat := (List.range 16).map fun i => s.getD ((i + 12 * (i % 4)) % 16) 0
/-- The rounds undone, with the round keys from the last but one to the first. MixColumns is of order four. -/
def aesUndo : List (List Nat) → List Nat → List Nat
  | [], s => s
  | k :: ks, s =>
    let x := xorBytes ((aesUnshift s).map aesUnsub) k
    aesUndo ks (if ks.isEmpty then x else aesMix (aesMix (aesMix x)))
/-- AES-256 decryption of a 128-bit block. -/
def aesInv256 (key block : Nat) : Nat :=
  let ks := aesExpand 7 (bytesBE 32 key) 1
  let rk := ((List.range 15).map fun i => (ks.drop (16 * i)).take 16).reverse
  ofBytesBE (aesUndo rk.tail (xorBytes (bytesBE 16 block) (rk.headD [])))

/-- The unwrapping steps `t`, `t - 1`, ... 1 of RFC 3394 over `n` registers of 64 bits. -/
def unwrapSteps (kek n : Nat) : Nat → Nat × List Nat → Nat × List Nat
  | 0, x => x
  | t + 1, x =>
    let i := t % n
    let y := aesInv256 kek ((x.1 ^^^ (t + 1)) <<< 64 + x.2.getD i 0)
    unwrapSteps kek n t (y >>> 64, x.2.set i (y % 2 ^ 64))

/-- AES Key Unwrap (RFC 3394): none where its integrity check fails. -/
def keyUnwrap (kek : Nat) (c : List Byte) : Option (List Byte) :=
  let r := (List.range (c.length / 8)).map fun i => beNat ((c.drop (8 * i)).take 8)
  let n := r.length - 1
  let x := unwrapSteps kek n (6 * n) (r.headD 0, r.tail)
  if x.1 = 0xA6A6A6A6A6A6A6A6 then some (x.2.flatMap (beList 8)) else none

/-- Bytes in blocks of sixteen, the last filled with zeros. -/
def gcmBlocks (l : List Byte) : List Nat :=
  (List.range ((l.length + 15) / 16)).map fun i =>
    let x := (l.drop (16 * i)).take 16
    beNat x <<< (8 * (16 - x.length))
/-- The 16-byte tag of AES-256-GCM with a 96-bit IV, over additional data and ciphertext. -/
def gcmTag (key iv : Nat) (aad ct : List Byte) : List Byte :=
  let h := aes256 key 0
  let y := (gcmBlocks aad ++ gcmBlocks ct ++ [(8 * aad.length) <<< 64 + 8 * ct.length]).foldl (fun y x => ghashMul (y ^^^ x) h) 0
  beList 16 (y ^^^ aes256 key (iv <<< 32 + 1))
/-- Encrypt or decrypt bytes under AES-256-GCM's counter mode. -/
def gcmCrypt (key iv : Nat) (d : List Byte) : List Byte :=
  ((List.range ((d.length + 15) / 16)).flatMap fun i =>
    List.zipWith (· ^^^ ·) ((d.drop (16 * i)).take 16) (beList 16 (aes256 key (iv <<< 32 + (i + 2)))))

end Sys2Proof.Machine
end

