-- ==== Sys2Proof/Machine/Pads.lean ====
section
/-! DEFINITION. Pad rows: the per-byte SEC-DED code, poison, row reads and writes (09 R183 to R192). -/
namespace Sys2Proof.Machine

/-- Parity of the listed bits of a number. -/
def parity (n : Nat) (is : List Nat) : Bool := is.foldl (fun a i => a != nbit n i) false

/-- The 13-bit codeword of a data byte: data in bits 7 to 0, check bits c0 to c4 in bits 8 to 12 (09 R190). -/
def padEnc (d : Nat) : Nat :=
  let c0 := parity d [0, 1, 3, 4, 6]
  let c1 := parity d [0, 2, 3, 5, 6]
  let c2 := parity d [1, 2, 3, 7]
  let c3 := parity d [4, 5, 6, 7]
  let n := d % 256 + 256 * b2n c0 + 512 * b2n c1 + 1024 * b2n c2 + 2048 * b2n c3
  n + 4096 * b2n (parity n [0, 1, 2, 3, 4, 5, 6, 7, 8, 9, 10, 11])

/-- The Hamming position (1 to 12) of codeword bit `i` (0 to 11): c0, c1, d0, c2, d1, d2, d3, c3, d4 to d7. -/
def padPos : List Nat := [3, 5, 6, 7, 9, 10, 11, 12, 1, 2, 4, 8]

/-- The Hamming syndrome of a 13-bit word. -/
def padSyn (n : Nat) : Nat :=
  ((List.range 12).zip padPos).foldl (fun a e => if nbit n e.1 then a ^^^ e.2 else a) 0

/-- The parity mismatch of a 13-bit word. -/
def padPar (n : Nat) : Bool := parity n (List.range 13)

/-- How a byte decodes. -/
inductive ByteState | good | corrected | bad
  deriving DecidableEq, Repr

/-- Decode a 13-bit word: the byte delivered, and what was found (09 R190): one bit error corrected, a double error
uncorrectable. A parity mismatch whose syndrome names no position is no single error. -/
def padDec (n : Nat) : Nat × ByteState :=
  let s := padSyn n
  if s = 0 then (n % 256, if padPar n then .corrected else .good)
  else if padPar n then
    match padPos.findIdx? (· == s) with
    | some i => ((n ^^^ (1 <<< i)) % 256, .corrected)
    | none => (n % 256, .bad)
  else (n % 256, .bad)

/-- SYNDROME of a byte error (09 R202): Hamming syndrome, parity mismatch, byte number, sub-bank. -/
def padSynReg (n byte row : Nat) : Nat := padSyn n + 16 * b2n (padPar n) + 32 * byte + 1024 * (row % 4)

/-- Codeword `i` of a row. -/
def rowCode (r : BitVec 416) (i : Nat) : Nat := (r >>> (13 * i)).toNat % 8192
/-- The row with codeword `i` replaced. -/
def rowSetCode (r : BitVec 416) (i n : Nat) : BitVec 416 :=
  (r &&& ~~~ (BitVec.ofNat 416 (8191 <<< (13 * i)))) ||| BitVec.ofNat 416 ((n % 8192) <<< (13 * i))

/-- The poison pattern of byte 0: data 0x00 with check bits 0b01111 (09 R191). -/
def poisonCode : Nat := 0xF00
/-- Is a row poisoned? Checked before decoding (09 R191). -/
def rowPoisoned (r : BitVec 416) : Bool := rowCode r 0 == poisonCode

/-- The row of 32 data bytes `d` with their check bits. -/
def rowEnc (d : BitVec 256) : BitVec 416 :=
  (List.range 32).foldl (fun r i => rowSetCode r i (padEnc (nbyte d.toNat i))) 0

/-- The 32 data bytes, each decoded and corrected (09 R190). -/
def rowData (r : BitVec 416) : BitVec 256 :=
  BitVec.ofNat 256 ((List.range 32).foldl (fun a i => a + (padDec (rowCode r i)).1 <<< (8 * i)) 0)

/-- The row of pad `pad` (package-wide), number `row`. -/
def PadMem.row (m : PadMem) (pad row : Nat) : BitVec 416 := SMap.get (fun _ => 0) m (pad * 8192 + row)
/-- Store a row. -/
def PadMem.setRow (m : PadMem) (pad row : Nat) (r : BitVec 416) : PadMem := SMap.set (fun _ => 0) m (pad * 8192 + row) r

/-- The canonical form of the pads' storage. -/
def PadMem.wf (m : PadMem) : Bool := SMap.wf (fun _ => (0 : BitVec 416)) m

/-- The DPA of a pad's first byte (01 R17). -/
def padBase (pad : Nat) : Nat := 0x10000000000 + (pad / 1024) * 0x10000000 + (pad % 1024) * 0x40000

/-- Log a byte error: correctable bytes are counted and logged with KIND 0x1, uncorrectable ones logged with
KIND 0x2 (09 R192, R202). -/
def padLog (b : Base) (pg : Page) (k : ByteState) (addr : Nat) (ctx src : Option Nat) (syn : Nat) : Base :=
  match k with
  | .good => b
  | .corrected => b.corrErr pg { kind := 1, addr := addr, ctx := ctx, src := src, syn := syn }
  | .bad => b.logErr pg { kind := 2, uc := true, poison := true, addr := addr, ctx := ctx, src := src, syn := syn }

/-- What decoding a row delivers: the data, and whether it is delivered poisoned (09 R190 to R192). The poison pattern is
checked before decoding: byte 0 then reads 0x00, and the other bytes are decoded as on every read (R190, R191). -/
def rowDecode (r : BitVec 416) : BitVec 256 × Bool :=
  if rowPoisoned r then (rowData (rowSetCode r 0 0), true)
  else (rowData r, (List.range 32).any (fun i => (padDec (rowCode r i)).2 == .bad))

/-- Log what decoding a row finds, byte by byte; a poisoned row is not an error of the pad (09 R192). -/
def rowLog (b : Base) (pg : Page) (r : BitVec 416) (addr row : Nat) (ctx src : Option Nat) : Base :=
  if rowPoisoned r then b
  else (List.range 32).foldl (fun b i =>
    padLog b pg (padDec (rowCode r i)).2 (addr + i) ctx src (padSynReg (rowCode r i) i row)) b

/-- Read one row of a pad: data and poison, with the errors found logged. -/
def rowRead (b : Base) (m : PadMem) (pad row : Nat) (ctx src : Option Nat) : Base × BitVec 256 × Bool :=
  let r := m.row pad row
  (rowLog b (pond (pad / 32)) r (padBase pad + 32 * row) row ctx src, rowDecode r)

/-- The row after writing the bytes of `d` that `be` enables, each with its own code. -/
def rowMerge (r : BitVec 416) (d : BitVec 256) (be : BitVec 32) : BitVec 416 :=
  (List.range 32).foldl (fun r i => if be.getLsbD i then rowSetCode r i (padEnc (nbyte d.toNat i)) else r) r

/-- What a write does to a row, and whether it ends with a poisoned-data error (09 R191). -/
def rowStore (r : BitVec 416) (d : BitVec 256) (be : BitVec 32) (poison : Bool) : BitVec 416 × Bool :=
  if be = BitVec.allOnes 32 then
    let r' := rowMerge r d be
    (if poison then rowSetCode r' 0 poisonCode else r', false)
  else if be = 0 then (r, false)
  else if poison then (r, true)
  else if be.getLsbD 0 ∧ rowPoisoned r then (r, true)
  else (rowMerge r d be, false)

/-- Write one row of a pad. -/
def PadMem.write (m : PadMem) (pad row : Nat) (d : BitVec 256) (be : BitVec 32) (poison : Bool) : PadMem × Bool :=
  let x := rowStore (m.row pad row) d be poison
  (m.setRow pad row x.1, x.2)

end Sys2Proof.Machine
end

