-- ==== Sys2Proof/Machine/Ponds.lean ====
section
/-! DEFINITION. Ponds: the two ports of a pad, ownership and fences, write collisions, column repair, BIST and ZERO,
patrol, sleep and RAW access (09 R184 to R203). -/
namespace Sys2Proof.Machine

/-- A completion with a status (14 R283). -/
def rspStatus (n : Nat) : HopRsp := ⟨false, n, 0, false, false⟩
/-- A read answered with data (14 R283). -/
def rspData (d : BitVec 512) (pl ph : Bool) : HopRsp := ⟨true, 0, d, pl, ph⟩
/-- Completion statuses (14 R283). -/
def stOK : Nat := 0
def stUNSUPPORTED : Nat := 1
def stFENCE : Nat := 2
def stDISABLED : Nat := 3
def stPOISONED : Nat := 4
def stQFULL : Nat := 5
def stWCOLL : Nat := 6
def stREFUSED : Nat := 7
def stTIMEOUT : Nat := 8

/-- The 64 byte enables of a write: those of its byte-enable flit, or the contiguous bytes of its range (14 R282). -/
def reqEnables (r : HopReq) : BitVec 64 :=
  if r.bex then r.be else (BitVec.ofNat 64 (2 ^ r.bytes.val - 1)) <<< (r.addr.toNat % 64)

/-- The context an error log names for a request: none for a privileged one (05 R108). -/
def reqLogCtx (r : HopReq) : Option Nat := if r.priv then none else some r.ctx.val

/-- Rows 2b and 2b + 1 of a 64-byte block. -/
def half (d : BitVec 512) (h : Nat) : BitVec 256 := (d >>> (256 * h)).setWidth 256
/-- Byte enables of row `h` of a block. -/
def halfBe (be : BitVec 64) (h : Nat) : BitVec 32 := (be >>> (32 * h)).setWidth 32
/-- A block from its two rows. -/
def joinHalves (lo hi : BitVec 256) : BitVec 512 := hi ++ lo

/-- The pad of a pond a command is running on, if any (09 R198). -/
def Ponds.cmdOf (x : Ponds) (p : Nat) : Option PadCmd := SMap.get (fun _ => none) x.cmd p
/-- Does BIST or ZERO hold pad `n` of pond `p`? -/
def Ponds.held (x : Ponds) (p n : Nat) : Bool :=
  match x.cmdOf p with | some c => c.pad == n | none => false

/-- OWN_n_c of pond `p` (09 R193, R202). -/
def Base.padOwner (b : Base) (p n c : Nat) : Nat := b.fld (pond p) (PND.OWN_OWNER.nth (8 * n + c))
/-- The pond reads that entry of its DEC store (02 R32). -/
def Base.ownerUse (b : Base) (p n c : Nat) : Base :=
  b.decUse (pond p) (pbase (pond p) + (PND.OWN_OWNER.nth (8 * n + c)).off)
/-- BMASK_n of pond `p` (09 R193, R202). -/
def Base.padMask (b : Base) (p n : Nat) : Nat := b.fld (pond p) (PND.BMASK_CTX.nth n)

/-- Port A's byte enables on a row that it wrote in the cycle a port-B write may meet (09 R188). -/
def Ponds.aEnables (x : Ponds) (pad row : Nat) : BitVec 32 := SMap.get (fun _ => 0) x.aRows (pad * 8192 + row)
/-- Record a row that port A writes. -/
def Ponds.noteA (x : Ponds) (pad row : Nat) (be : BitVec 32) : Ponds :=
  { x with aRows := SMap.set (fun _ => 0) x.aRows (pad * 8192 + row) be }
/-- The cycle of port A's last writes to a pad has passed. -/
def Ponds.forgetA (x : Ponds) (pad : Nat) : Ponds := { x with aRows := SMap.keep (fun k => !(k / 8192 == pad)) x.aRows }

/-- One row of a port-B write under R188: discarded where port A wrote an overlapping byte of the row in the same
cycle. `coll` holds port A's byte enables of that cycle. The last component is the row's completion status. -/
def portBRow (m : PadMem) (pad row : Nat) (d : BitVec 256) (be : BitVec 32) (poison : Bool)
    (coll : BitVec 32) : PadMem × Nat :=
  if be = 0 then (m, stOK)
  else if be &&& coll != 0 then (m, stWCOLL)
  else
    let x := m.write pad row d be poison
    (x.1, if x.2 then stPOISONED else stOK)

/-- Count and report the port-B rows that R188 discarded. -/
def wcollReport (b : Base) (pg : Page) (n : Nat) : Base :=
  if n = 0 then b else (b.addFld pg PND.WCOLL_CNT n).event pg 8

/-- The first row of the block that a request names. -/
def padRow0 (r : HopReq) : Nat := 2 * (r.addr.toNat / 64 % 4096)

/-- A port-B write of one block: both rows in row order. The completion carries WCOLL when a row was discarded, so that its
initiator can issue it again (10 R205), else the first status that is not OK (09 R185 to R191). `same` says that it meets port A's last writes in the same cycle. -/
def portBWrite (b : Base) (x : Ponds) (pad : Nat) (r : HopReq) (same : Bool) : Base × Ponds × HopRsp :=
  let be := reqEnables r
  let coll := fun row => if same then x.aEnables pad row else 0
  let x0 := portBRow x.mem pad (padRow0 r) (half r.data 0) (halfBe be 0) r.poisonL (coll (padRow0 r))
  let x1 := portBRow x0.1 pad (padRow0 r + 1) (half r.data 1) (halfBe be 1) r.poisonH (coll (padRow0 r + 1))
  (wcollReport b (pond (pad / 32)) (b2n (x0.2 == stWCOLL) + b2n (x1.2 == stWCOLL)), { x with mem := x1.1 }.forgetA pad,
   rspStatus (if x1.2 = stWCOLL ∨ x0.2 = stOK then x1.2 else x0.2))

/-- Zero the bytes of a block outside a read's range (14 R285). -/
def maskRead (d : BitVec 512) (addr bytes : Nat) : BitVec 512 :=
  d &&& ((BitVec.ofNat 512 (2 ^ (8 * bytes) - 1)) <<< (8 * (addr % 64)))

/-- A port-B read of one block (09 R192). -/
def portBRead (b : Base) (m : PadMem) (pad : Nat) (r : HopReq) : Base × HopRsp :=
  let blk := r.addr.toNat / 64 % 4096
  let x0 := rowRead b m pad (2 * blk) (reqLogCtx r) (some r.src.val)
  let x1 := rowRead x0.1 m pad (2 * blk + 1) (reqLogCtx r) (some r.src.val)
  (x1.1, rspData (maskRead (joinHalves x0.2.1 x1.2.1) r.addr.toNat r.bytes.val) x0.2.2 x1.2.2)

/-- The package-wide pad a pad DPA names (01 R17). -/
def padOfDpa (a : Nat) : Nat := 1024 * ((a - 0x10000000000) / 0x10000000) + (a - 0x10000000000) % 0x10000000 / 0x40000

/-- Are tower `t`'s upper layers lost (23 R478)? Every request to its pads, geckos, pond stops and fabric hop ports is then
answered DISABLED. -/
def Base.upperDown (b : Base) (t : Nat) : Bool := b.bit (.vbd (tw t)) VBD.SVC_STAT_UPPER_DOWN

/-- Does pond `p` answer requests: enabled, its tower's upper layers there? -/
def Base.pondUp (b : Base) (p : Nat) : Bool := b.enabled (pond p) && !b.upperDown (p / 32)

/-- What a pond answers a port-B request with that it does not admit (09 R193): refused while the page is disabled, or by the pad's
fence. -/
def portBFence (b : Base) (r : HopReq) : Base × Option HopRsp :=
  let pad := padOfDpa r.addr.toNat
  let pg := pond (pad / 32)
  let b := b.decUse pg (pbase pg + (PND.BMASK_CTX.nth (pad % 32)).off)
  if !b.pondUp (pad / 32) then (b, some (rspStatus stDISABLED))
  else if !r.priv && !nbit (b.padMask (pad / 32) (pad % 32)) r.ctx.val then
    ((b.logErr pg { kind := 3, addr := r.addr.toNat, ctx := some r.ctx.val, src := some r.src.val }).event pg 9,
      some (rspStatus stFENCE))
  else (b, none)

/-- Would a write of the block meet a byte that port A wrote last? -/
def Ponds.meetsA (x : Ponds) (r : HopReq) : Bool :=
  let pad := padOfDpa r.addr.toNat
  (halfBe (reqEnables r) 0 &&& x.aEnables pad (padRow0 r)) != 0 || (halfBe (reqEnables r) 1 &&& x.aEnables pad (padRow0 r + 1)) != 0

/-- An admitted port-B request is performed (09 R184 to R192); `same` as in `portBWrite`. -/
def portBPerform (b : Base) (x : Ponds) (r : HopReq) (write same : Bool) : Base × Ponds × HopRsp :=
  let pad := padOfDpa r.addr.toNat
  if b.upperDown (pad / 1024) then (b, x, rspStatus stDISABLED)
  else if write then portBWrite b x pad r same
  else
    let y := portBRead b x.mem pad r
    (y.1, x.forgetA pad, y.2)

/-- An admitted port-B request; none while BIST or ZERO runs on its pad (09 R198). Whether a write meets port A's last writes in
their very cycle the commands do not say: a free value. -/
def portBServe (b : Base) (x : Ponds) (r : HopReq) (write : Bool) : Option (Base × Ponds × HopRsp) :=
  let pad := padOfDpa r.addr.toNat
  if x.held (pad / 32) (pad % 32) then none
  else if write && x.meetsA r then some (portBPerform b.bump x r write (Config.freeBits 1 b.free == 1))
  else some (portBPerform b x r write false)

/-- The marsh of pond-port index `i` of pond `p`: row i div 2 of the pond's column (09 R185). -/
def portMarsh (p i : Nat) : Nat := i / 2 * 32 + p % 32

/-- Does the fabric side present requests on pond port `i` of pond `p`: its PPCLK enable and clock are on, and its
marsh is neither excluded nor powered down (14 R300, 09 R195)? -/
def State.portSampled (s : State) (p i : Nat) : Bool :=
  let t := p / 32
  let m := portMarsh p i
  let hop : Page := .hop (tw t)
  let en := if i % 2 = 0 then s.b.bit hop (HOP.PPCLK_EN0.nth m) else s.b.bit hop (HOP.PPCLK_EN1.nth m)
  let ck := if i % 2 = 0 then s.b.fld hop (HOP.PPCLK_CLK0.nth m) else s.b.fld hop (HOP.PPCLK_CLK1.nth m)
  en && s.b.gclkEn t ck && !s.isOut t m && !s.b.domainDown t m

/-- Is pond port `i` entitled to pad `n` of pond `p` in its marsh's live context (09 R193)? -/
def Base.entitled (b : Base) (p i n : Nat) : Bool :=
  b.padOwner p n (b.liveOf (p / 32) (portMarsh p i)) == 8 + i

/-- What a pond port presents (14 R300): 1 RVALID, 2 WACK, 3 ERR, 4 PERR. -/
def ppPresent (b : Base) (p i kind : Nat) (d : BitVec 512) (poison : Bool) : Base :=
  b.send (.pond (24 * p + i) kind d poison)

/-- Log a refused port-A request with `kind`, and an event bit where the spec names one (09 R193, R195, R200). -/
def portALog (b : Base) (p : Nat) (q : PondReq) (kind : Nat) (ev : Option Nat) : Base :=
  let pg := pond p
  let b := b.logErr pg { kind := kind, addr := padBase (32 * p + q.pad.val) + 64 * q.block.val,
                         ctx := some (b.liveOf (p / 32) (portMarsh p q.port.val)) }
  match ev with | some i => b.event pg i | none => b

/-- Wake the pad group of pad `n` of pond `p` when it sleeps (09 R201). -/
def wakeGroup (b : Base) (p n : Nat) : Base :=
  let pg := pond p
  let a := b.fld pg PND.GSLEEP_ASLEEP
  if nbit a (n / 8) then (b.setFld pg PND.GSLEEP_ASLEEP (nclr a (n / 8))).event pg 6 else b

/-- Perform an admitted port-A block (09 R185, R190 to R192). -/
def portAPerform (b : Base) (x : Ponds) (p : Nat) (q : PondReq) : Base × Ponds :=
  let pad := 32 * p + q.pad.val
  let r0 := 2 * q.block.val
  if q.write then
    let x0 := x.mem.write pad r0 (half q.data 0) (halfBe q.be 0) q.poison
    let x1 := x0.1.write pad (r0 + 1) (half q.data 1) (halfBe q.be 1) q.poison
    (ppPresent b p q.port.val (if x0.2 || x1.2 then 4 else 2) 0 false,
      (({ x with mem := x1.1 }.forgetA pad).noteA pad r0 (halfBe q.be 0)).noteA pad (r0 + 1) (halfBe q.be 1))
  else
    let ctx := some (b.liveOf (p / 32) (portMarsh p q.port.val))
    let x0 := rowRead b x.mem pad r0 ctx none
    let x1 := rowRead x0.1 x.mem pad (r0 + 1) ctx none
    (ppPresent x1.1 p q.port.val 1 (joinHalves x0.2.1 x1.2.1) (x0.2.2 || x1.2.2), x.forgetA pad)

/-- Is port A's request admitted (09 R193, R195, R200): the port not LAME, the page enabled, its entry naming the port, and no
lower OWNER asking for the pad in the same cycle (`lose`)? A refusal is logged. -/
def portACheck (b : Base) (p : Nat) (q : PondReq) (lose : Bool) : Base × Bool :=
  let b := b.ownerUse p q.pad.val (b.liveOf (p / 32) (portMarsh p q.port.val))
  if nbit (b.fld (pond p) PND.LAMEPP_PORT) q.port.val then (portALog b p q 5 none, false)
  else if !b.pondUp p then (b, false)
  else if !b.entitled p q.port.val q.pad.val then (portALog b p q 3 (some 9), false)
  else if lose then (portALog b p q 4 (some 10), false)
  else (b, true)

/-- Answer a port-A request: performed where it was admitted, with the pad's group awake (09 R201), else ERR. -/
def portAAnswer (x : Base × Ponds) (p : Nat) (q : PondReq × Bool) : Base × Ponds :=
  if q.2 then portAPerform (wakeGroup x.1 p q.1.pad.val) x.2 p q.1 else (ppPresent x.1 p q.1.port.val 3 0 false, x.2)

/-- The pond-port requests of pond `p` that wait for a pad command to end. -/
def Ponds.waitingA (x : Ponds) (p : Nat) : List (PondReq × Bool) := SMap.get (fun _ => []) x.waitA p

/-- One port-A request. One to a pad under BIST or ZERO waits for its end, and later ones of its port behind it, since
a port's answers come in request order (09 R198, 14 R300). -/
def portA (x : Base × Ponds) (p : Nat) (q : PondReq) (lose : Bool) : Base × Ponds :=
  let y := portACheck x.1 p q lose
  let l := x.2.waitingA p
  if (y.2 && x.2.held p q.pad.val) || l.any (fun w => w.1.port == q.port) then
    (y.1, { x.2 with waitA := SMap.set (fun _ => []) x.2.waitA p (l ++ [(q, y.2)]) })
  else portAAnswer (y.1, x.2) p (q, y.2)

/-- The requests that waited for the command on a pad of pond `p` are answered, in order. -/
def padReleased (x : Base × Ponds) (p : Nat) : Base × Ponds :=
  (x.2.waitingA p).foldl (fun y q => portAAnswer y p q)
    (x.1, { x.2 with waitA := SMap.set (fun _ => []) x.2.waitA p [] })

/-- The outputs of a pond-port answer: RDATA, then RVALID, RPOISON, WACK, ERR and PERR (14 R300). -/
def pondCycle (kind : Nat) (d : BitVec 512) (poison : Bool) : BitVec 1024 :=
  BitVec.ofNat 1024 (d.toNat + b2n (kind == 1) <<< 512 + b2n poison <<< 513 + b2n (kind == 2) <<< 514 +
    b2n (kind == 3) <<< 515 + b2n (kind == 4) <<< 516)

/-- Queue what the pond ports present since the outbox held `n` messages: each answer for one cycle, in order. -/
def State.pondShow (s : State) (n : Nat) : State :=
  (s.b.out.drop n).foldl (fun s m => match m with
    | .pond pt kind d p =>
      let key := (pt / 24 / 32 * 384 + portMarsh (pt / 24) (pt % 24)) * 2 + pt % 2
      { s with fab := { s.fab with pondOut := SMap.upd (fun _ => []) s.fab.pondOut key (fun l => l ++ [pondCycle kind d p]) } }
    | _ => s) s

/-- B_STARVE (09 R187): a port-B row has waited STARVE.CYC cycles; the event is set and the row goes on waiting. -/
def execBStarve (p : Fin 128) (s : State) : Host.Outcome State Fault Refusal :=
  if s.b.fld (.pnd p) PND.STARVE_CYC = 0 then .next s else .next { s with b := s.b.event (.pnd p) 11 }

/-! ### Column repair (09 R196, R197) -/

/-- SPARE_n_s holds spare 0 in [15:0] and spare 1 in [31:16], each with STATE [15:14] and COL [8:0]. -/
def spareState (w : Word) (k : Nat) : Nat := wget w (16 * k + 15) (16 * k + 14)
/-- The column a spare replaces. -/
def spareCol (w : Word) (k : Nat) : Nat := wget w (16 * k + 8) (16 * k)
/-- Set both fields of a spare. -/
def spareSet (w : Word) (k st col : Nat) : Word :=
  wput (wput w (16 * k + 15) (16 * k + 14) st) (16 * k + 8) (16 * k) col
/-- The address of SPARE_n_s of pond `p`. -/
def spareAddr (p n sb : Nat) : Nat := pbase (pond p) + 0x200 + 16 * n + 4 * sb

/-- May a soft repair start (09 R197)? -/
def softRepairOk (b : Base) (p n sb col : Nat) : Bool :=
  let w := b.word (spareAddr p n sb)
  (spareState w 0 == 0 || spareState w 1 == 0) &&
  !(spareState w 0 != 0 && spareCol w 0 == col) && !(spareState w 1 != 0 && spareCol w 1 == col) &&
  decide (col ≤ 415) && !b.bit (pond p) PND.SR_STAT_BUSY

/-- A write of PND.SR_CMD (09 R197). -/
def srCmdWrite (b : Base) (p n sb col : Nat) : Base :=
  let pg := pond p
  if softRepairOk b p n sb col then
    let w := b.word (spareAddr p n sb)
    let k := if spareState w 0 = 0 then 0 else 1
    let b := b.setWord (spareAddr p n sb) (spareSet w k 3 col)
    ((b.setBit pg PND.SR_STAT_REFUSED false).setBit pg PND.SR_STAT_DONE false).setBit pg PND.SR_STAT_BUSY true
  else b.setBit pg PND.SR_STAT_REFUSED true

/-- The spare of a pond whose copy is running: pad, sub-bank and spare number. -/
def copyingSpare (b : Base) (p : Nat) : Option (Nat × Nat × Nat) :=
  ((List.range 128).flatMap fun i => [(i, 0), (i, 1)]).findSome? fun e =>
    if spareState (b.word (spareAddr p (e.1 / 4) (e.1 % 4))) e.2 = 3 then some (e.1 / 4, e.1 % 4, e.2) else none

/-- The row with the bit of column `col` decoded and corrected (09 R197). -/
def fixColumn (r : BitVec 416) (col : Nat) : BitVec 416 :=
  let i := col / 13
  let n := rowCode r i
  if rowPoisoned r then r
  else if (padDec n).2 = .corrected then
    let good := padEnc (padDec n).1
    rowSetCode r i (nwr n (col % 13) (nbit good (col % 13)))
  else r

/-- The running copy of pond `p` ends: every row of the sub-bank has been copied with its corrected bit, and the spare
becomes SOFT. -/
def softRepairEnd (s : State) (p : Nat) : State :=
  match copyingSpare s.b p with
  | none => s
  | some (n, sb, k) =>
    let a := spareAddr p n sb
    let col := spareCol (s.b.word a) k
    let pad := 32 * p + n
    let mem := SMap.mapKV (fun _ => (0 : BitVec 416)) (fun key r =>
      if key / 8192 = pad ∧ key % 4 = sb then fixColumn r col else r) s.ponds.mem
    let b := s.b.setWord a (spareSet (s.b.word a) k 2 col)
    let b := ((b.setBit (pond p) PND.SR_STAT_BUSY false).setBit (pond p) PND.SR_STAT_DONE true).event (pond p) 15
    { s with b := b, ponds := { s.ponds with mem := mem } }

/-- SOFT_REPAIR_DONE (09 R197). -/
def execSoftRepairDone (p : Fin 128) (s : State) : Host.Outcome State Fault Refusal := .next (softRepairEnd s p)

/-! ### BIST and ZERO (09 R198) -/

/-- May BIST or ZERO run on pad `n`: no owner in any context, no port-B access, no command running (09 R198)? -/
def padFree (b : Base) (x : Ponds) (p n : Nat) : Bool :=
  (List.range 8).all (fun c => b.padOwner p n c == 0) && b.padMask p n == 0 && (x.cmdOf p).isNone

/-- A write of PND.CMD (09 R198): operation 1 BIST, 2 ZERO. -/
def padCmdWrite (b : Base) (x : Ponds) (p op n : Nat) : Base × Ponds :=
  let pg := pond p
  let b := b.setFld pg PND.CMD_STAT_PAD n
  if padFree b x p n then
    let b := (b.setBit pg PND.CMD_STAT_REFUSED false).setBit pg PND.CMD_STAT_DONE false
    let b := if op = 1 then b.setBit pg PND.CMD_STAT_BIST_FAIL false else b
    (b.setBit pg PND.CMD_STAT_BUSY true, { x with cmd := SMap.set (fun _ => none) x.cmd p (some ⟨op, n⟩) })
  else (b.setBit pg PND.CMD_STAT_REFUSED true, x)

/-- BIST_COL of sub-bank `sb` from the failing columns found: validity, count and first failing column. -/
def bistCol (fails : List (Fin 4 × Fin 416)) (sb : Nat) : Word :=
  match fails.filter (fun e => e.1.val == sb) with
  | [] => 0
  | e :: r => w32 (0x80000000 + (satAdd 255 0 (r.length + 1)) * 0x10000 + e.2.val)

/-- Every row of a pad returns to the zero row. -/
def zeroPad (m : PadMem) (pad : Nat) : PadMem := SMap.keep (fun k => !(k / 8192 == pad)) m

/-- The command on a pad of pond `p` ends, the pad zeroed; `fails` lists the failing columns a BIST found. Pond-port requests
that waited are answered (09 R198). -/
def padCmdEnd (s : State) (p : Nat) (c : PadCmd) (fails : List (Fin 4 × Fin 416)) : State :=
  let pg := pond p
  let b := if c.op = 1 then
      let b := (List.range 4).foldl (fun b sb => b.setFld pg (PND.BIST_COL.nth sb) (bistCol fails sb).toNat) s.b
      b.setBit pg PND.CMD_STAT_BIST_FAIL (!fails.isEmpty)
    else s.b
  let b := ((b.setBit pg PND.CMD_STAT_BUSY false).setBit pg PND.CMD_STAT_DONE true).event pg 14
  let y := padReleased (b, { s.ponds with mem := zeroPad s.ponds.mem (32 * p + c.pad), cmd := SMap.set (fun _ => none) s.ponds.cmd p none }) p
  State.pondShow { s with b := y.1, ponds := y.2 } s.b.out.length

/-! ### Patrol (09 R199) -/

/-- The row patrol writes back: correctable bytes repaired, the poison pattern where a byte is uncorrectable. -/
def patrolFix (r : BitVec 416) : BitVec 416 :=
  if rowPoisoned r then r
  else if (List.range 32).any (fun i => (padDec (rowCode r i)).2 == .bad) then
    rowSetCode ((List.range 32).foldl (fun r i =>
      if (padDec (rowCode r i)).2 = .corrected then rowSetCode r i (padEnc (padDec (rowCode r i)).1) else r) r)
      0 poisonCode
  else (List.range 32).foldl (fun r i =>
      if (padDec (rowCode r i)).2 = .corrected then rowSetCode r i (padEnc (padDec (rowCode r i)).1) else r) r

/-- Log a patrolled row: each corrected byte, and the first uncorrectable byte once for the row (09 R199). -/
def patrolLog (b : Base) (pg : Page) (r : BitVec 416) (addr row : Nat) : Base :=
  if rowPoisoned r then b
  else
    let b := (List.range 32).foldl (fun b i =>
      if (padDec (rowCode r i)).2 = .corrected then
        padLog b pg .corrected (addr + i) none none (padSynReg (rowCode r i) i row) else b) b
    match (List.range 32).find? (fun i => (padDec (rowCode r i)).2 == .bad) with
    | some i => padLog b pg .bad (addr + i) none none (padSynReg (rowCode r i) i row)
    | none => b

/-- Is the pad group of pad `n` of pond `p` asleep? -/
def Base.groupAsleep (b : Base) (p n : Nat) : Bool := nbit (b.fld (pond p) PND.GSLEEP_ASLEEP) (n / 8)

/-- Advance the patrol position; a finished pass sets PATROL_DONE, and PATROL_OVR when it took longer than
PATROL.MS. -/
def patrolAdvance (b : Base) (x : Ponds) (p : Nat) : Base × Ponds :=
  let pg := pond p
  let n := b.fld pg PND.PATROL_POS_PAD
  let r := b.fld pg PND.PATROL_POS_ROW
  if r + 1 < 8192 then (b.setFld pg PND.PATROL_POS_ROW (r + 1), x)
  else if n + 1 < 32 then ((b.setFld pg PND.PATROL_POS_ROW 0).setFld pg PND.PATROL_POS_PAD (n + 1), x)
  else
    let late := decide (b.fld pg PND.PATROL_MS * 1000 < b.aonUs - SMap.get (fun _ => 0) x.passAt p)
    let b := ((b.setFld pg PND.PATROL_POS_ROW 0).setFld pg PND.PATROL_POS_PAD 0).event pg 12
    (b.eventIf late pg 13, { x with passAt := SMap.set (fun _ => 0) x.passAt p b.aonUs })

/-- PATROL_ROW (09 R199): the patrol visits its row, unless it is stopped; it skips pads asleep or under a command. -/
def execPatrolRow (p : Fin 128) (s : State) : Host.Outcome State Fault Refusal :=
  let pg : Page := .pnd p
  if s.b.fld pg PND.PATROL_MS = 0 then .next s
  else
    let n := s.b.fld pg PND.PATROL_POS_PAD
    let row := s.b.fld pg PND.PATROL_POS_ROW
    let pad := 32 * p.val + n
    if s.b.groupAsleep p n || s.ponds.held p n then
      let x := patrolAdvance s.b s.ponds p
      .next { s with b := x.1, ponds := x.2 }
    else
      let r := s.ponds.mem.row pad row
      let b := patrolLog s.b pg r (padBase pad + 32 * row) row
      let x := patrolAdvance b { s.ponds with mem := s.ponds.mem.setRow pad row (patrolFix r) } p
      .next { s with b := x.1, ponds := x.2 }

/-! ### Sleep and RAW access (09 R201, R471) -/

/-- PAD_GROUP_SLEEP (09 R201): an idle pad group goes to sleep where SLEEP_PERMIT and PERMIT allow it. -/
def execPadGroupSleep (p : Fin 128) (g : Fin 4) (s : State) : Host.Outcome State Fault Refusal :=
  let pg : Page := .pnd p
  if s.b.bit pg HDR.BLK_CTRL_SLEEP_PERMIT && nbit (s.b.fld pg PND.GSLEEP_PERMIT) g then
    .next { s with b := s.b.setFld pg PND.GSLEEP_ASLEEP (nset (s.b.fld pg PND.GSLEEP_ASLEEP) g) }
  else .next s

/-- Is RAW access refused: ERR_CFG.RAW = 0, or the pad under BIST or ZERO (09 R202)? -/
def padRawRefused (b : Base) (x : Ponds) (p : Nat) : Bool :=
  !b.bit (pond p) HDR.ERR_CFG_RAW || x.held p (b.fld (pond p) PND.RAW_ADDR_PAD)

/-- The row RAW_DATA and RAW_CHK hold (09 R202). -/
def rawRow (b : Base) (pg : Page) : BitVec 416 :=
  (List.range 32).foldl (fun r i =>
    let d := nget (b.fld pg (PND.RAW_DATA.nth (i / 4))) (8 * (i % 4) + 7) (8 * (i % 4))
    let c := (List.range 5).foldl (fun c k =>
      let bitno := 5 * i + k
      c + (if nbit (b.fld pg (PND.RAW_CHK.nth (bitno / 32))) (bitno % 32) then 1 <<< k else 0)) 0
    rowSetCode r i (d + 256 * c)) 0

/-- Write RAW_DATA and RAW_CHK from a row. -/
def setRawRow (b : Base) (pg : Page) (r : BitVec 416) : Base :=
  let b := (List.range 8).foldl (fun b w =>
    b.setFld pg (PND.RAW_DATA.nth w)
      ((List.range 4).foldl (fun a k => a + (rowCode r (4 * w + k) % 256) <<< (8 * k)) 0)) b
  let chk := (List.range 32).foldl (fun a i => a + (rowCode r i / 256) <<< (5 * i)) 0
  (List.range 5).foldl (fun b w => b.setFld pg (PND.RAW_CHK.nth w) (nget chk (32 * w + 31) (32 * w))) b

/-- A write of PND.RAW_CMD.WR or RD (09 R202, 23 R471). -/
def padRawCmd (b : Base) (x : Ponds) (p : Nat) (wr : Bool) : Base × Ponds :=
  let pg := pond p
  if padRawRefused b x p then (b.setBit pg PND.RAW_STAT_REFUSED true, x)
  else
    let pad := 32 * p + b.fld pg PND.RAW_ADDR_PAD
    let row := b.fld pg PND.RAW_ADDR_ROW
    let b := wakeGroup ((b.setBit pg PND.RAW_STAT_REFUSED false).setBit pg PND.RAW_STAT_DONE true) p (b.fld pg PND.RAW_ADDR_PAD)
    if wr then (b, { x with mem := x.mem.setRow pad row (rawRow b pg) })
    else (setRawRow b pg (x.mem.row pad row), x)

/-! ### Commit checks (09 R194) -/

/-- The shadow owner of pad `n` in context `c`. -/
def Base.padOwnerSh (b : Base) (p n c : Nat) : Nat := b.shFld (pond p) (PND.OWN_OWNER.nth (8 * n + c))

/-- Is an OWNER value used (09 R193)? -/
def ownerUsed (o : Nat) : Bool := o == 0 || o == 1 || decide (8 ≤ o ∧ o ≤ 0x1F)

/-- The consistency rules of a PND GO (09 R194). -/
def pndCommitOk (b : Base) (p : Nat) : Bool :=
  (List.range 32).all fun n =>
    let os := (List.range 8).map (b.padOwnerSh p n)
    os.all ownerUsed &&
    !(os.any (· == 1) && os.any (fun o => decide (8 ≤ o))) &&
    (List.range 8).all fun c =>
      let o := b.padOwnerSh p n c
      if 8 ≤ o ∧ b.isShell (p / 32) (portMarsh p (o - 8)) then
        (List.range 8).all fun c' => c' == c || b.padOwnerSh p n c' == 0
      else true

end Sys2Proof.Machine
end

