-- ==== Sys2Proof/Machine/Gddr.lean ====
section
/-! DEFINITION. The GDDR6 controllers: address decoding, the carve, the line code, reads and writes of lines
(16 R315 to R337). -/
namespace Sys2Proof.Machine

/-! ### Address decoding (16 R320, R323) -/

/-- Controller and controller address of a GDDR6 DPA (16 R320); `wide` is GMODE. -/
def gdMap (wide : Bool) (a : Nat) : Nat × Nat :=
  if wide then (nget a 11 8 ^^^ nget a 19 16, (nget a 36 12) <<< 8 + a % 256)
  else (4 * nget a 36 35 + (nget a 9 8 ^^^ nget a 17 16), (nget a 34 10) <<< 8 + a % 256)

/-- The DPA of controller `c`'s address `pa`: the inverse of `gdMap`. -/
def gdUnmap (wide : Bool) (c pa : Nat) : Nat :=
  let hi := pa >>> 8
  if wide then (hi <<< 12) + ((c % 16 ^^^ hi >>> 4 % 16) % 16) <<< 8 + pa % 256
  else (c / 4) <<< 35 + (hi <<< 10) + ((c % 4 ^^^ hi >>> 6 % 4) % 4) <<< 8 + pa % 256

/-- GMODE of a tower (16 R320). -/
def Base.gmode (b : Base) (t : Nat) : Bool := b.bit (.hop (tw t)) HOP.MAPCTL_GMODE

/-- Carve size of a controller (16 R323). -/
def Base.carveK (b : Base) (c : Nat) : Nat := b.fld (gdPage c) GD.CFG_K
/-- 64 MiB. -/
def mib64 : Nat := 0x4000000
/-- The first PA of the carve: covered lines lie below it (16 R323). -/
def Base.carveLo (b : Base) (c : Nat) : Nat := 8 * b.carveK c * mib64
/-- Is a PA covered? -/
def Base.covered (b : Base) (c pa : Nat) : Bool := decide (pa < b.carveLo c)
/-- Is a PA in the carve? -/
def Base.inCarve (b : Base) (c pa : Nat) : Bool := decide (b.carveLo c ≤ pa) && decide (pa < 9 * b.carveK c * mib64)
/-- Where the counter area of a controller begins (17 R344). -/
def Base.ctrLo (b : Base) (c : Nat) : Nat := b.carveLo c - 8 * b.carveK c * 0x10000
/-- Is a PA in the counter area (17 R344)? -/
def Base.inCtr (b : Base) (c pa : Nat) : Bool := decide (b.ctrLo c ≤ pa) && decide (pa < b.carveLo c)

/-- Does controller `c`'s carve hold any part of the DPA range [lo, hi) (16 R322)? Both ranges are whole 64 KiB
granules of DPA and 4 KiB of PA. -/
def Base.carveMeets (b : Base) (c lo hi : Nat) : Bool :=
  let k := b.carveK c
  if b.gmode (c / 4) then decide (lo / 16 < 9 * k * mib64) && decide (8 * k * mib64 < hi / 16)
  else
    let t0 := (c / 4) * 0x800000000
    let lo' := Nat.max lo t0 - t0
    let hi' := Nat.min hi (t0 + 0x800000000) - t0
    decide (lo' < hi') && decide (lo' / 4 < 9 * k * mib64) && decide (8 * k * mib64 < hi' / 4)

/-- Is a write of EN = 1 to a GD page ignored (16 R322)? -/
def Base.gdEnRefused (b : Base) (c : Nat) : Bool :=
  !(b.gmode 0 == b.gmode 1 && b.gmode 0 == b.gmode 2 && b.gmode 0 == b.gmode 3) ||
  b.carveMeets c (b.fld .ldr LDR.STG_BASE_BASE * mib64)
    ((b.fld .ldr LDR.STG_BASE_BASE + b.fld .ldr LDR.STG_SIZE_SIZE) * mib64)

/-! ### The line code (16 R326, R327) -/

/-- Twenty bits per value f of a symbol: f times the low five coefficients of g(x) (16 R326). -/
def gdGTab : Nat := 0x47a712a5a98e7e2e383af63679bcbf3fef45212c15b5d78485dc6ceb1916a424bc9d936dfd800000

/-- The products of GF(16), four bits each, operand pair (a, c) at index 16 a + c. -/
def gf16Tab : Nat := 0xa5783ce1b4692df05ba48679c23d1fe07ae36bf258c149d0843fd16a2e957bc0386d92c74f1ae5b0c6b1285f394ed7a0e7f6c5d4a3b28190192a7f4cd5e6b380bc5243ad618f9e70428ef93517dbac6063c914be8d27fa509d15ae26fb73c8402147ed8b9afc5630df9b5713eca86420fedcba98765432100000000000000000

/-- Multiplication in GF(16). -/
def gf16Mul (a c : Nat) : Nat := (gf16Tab >>> (4 * (16 * (a % 16) + c % 16))) % 16

/-- Multiply a remainder by x and add symbol `c` times x⁵, modulo g(x). -/
def gdShift (r c : Nat) : Nat := ((r % 65536) <<< 4) ^^^ ((gdGTab >>> (20 * ((r >>> 16) ^^^ c))) % 1048576)

/-- Feed the `n` symbols of `x`, the highest first. -/
def gdFeed : Nat → Nat → Nat → Nat
  | 0, _, r => r
  | n + 1, x, r => gdFeed n x (gdShift r ((x >>> (4 * n)) % 16))

/-- Symbols 5 to 143 of a line as one number: data, TAG, MINOR. -/
def gdSymbols (l : Gline) : Nat := l.data.toNat + (l.md.toNat >>> 20) <<< 512

/-- The remainder that CHECK must hold (16 R326). -/
def gdRemainder (l : Gline) : Nat := gdFeed 139 (gdSymbols l) 0
/-- CHECK as stored. -/
def Gline.check (l : Gline) : Nat := l.md.toNat % 1048576
/-- TAG. -/
def Gline.tag (l : Gline) : Nat := nget l.md.toNat 51 20
/-- MINOR. -/
def Gline.minor (l : Gline) : Nat := nget l.md.toNat 63 52
/-- The syndrome S (16 R327). -/
def gdSyn (l : Gline) : Nat := l.check ^^^ gdRemainder l

/-- The line as a number: symbol s at bits 4s + 3 to 4s. -/
def Gline.toN (l : Gline) : Nat := l.check + gdSymbols l <<< 20
/-- A line from its symbols. -/
def glineOf (n : Nat) : Gline :=
  ⟨BitVec.ofNat 512 (n >>> 20), BitVec.ofNat 64 (n % 1048576 + (n >>> 532) <<< 20)⟩

/-- `e` times a remainder vector. -/
def gdScale (e v : Nat) : Nat := (List.range 5).foldl (fun a i => a + gf16Mul e ((v >>> (4 * i)) % 16) <<< (4 * i)) 0

/-- The single-symbol error with syndrome `s`, if any: symbol position and error value. `v` is x^p modulo g(x). -/
def gdLocate : Nat → Nat → Nat → Nat → Option (Nat × Nat)
  | 0, _, _, _ => none
  | n + 1, p, v, s =>
    match (List.range 15).find? (fun e => gdScale (e + 1) v == s) with
    | some e => some (p, e + 1)
    | none => gdLocate n (p + 1) (gdShift v 0) s

/-- What decoding a line finds (16 R327). -/
inductive LineState | clean | poisoned | corrected | bad
  deriving DecidableEq, Repr

/-- Decode a covered line: the line corrected where it can be, and what was found (16 R327). -/
def gdDecode (l : Gline) : Gline × LineState :=
  let s := gdSyn l
  if s = 0 then (l, .clean)
  else if s = 0xFF then (l, .poisoned)
  else match gdLocate 144 0 1 s with
    | some (p, e) => (glineOf (l.toN ^^^ (e <<< (4 * p))), .corrected)
    | none => (l, .bad)

/-- A line with its CHECK computed (16 R326). -/
def gdSeal (d : BitVec 512) (tag minor : Nat) : Gline :=
  let md0 := (tag % 2 ^ 32) <<< 20 + (minor % 4096) <<< 52
  let l : Gline := ⟨d, BitVec.ofNat 64 md0⟩
  ⟨d, BitVec.ofNat 64 (md0 + gdRemainder l)⟩

/-- The line with the poison pattern in CHECK (16 R327). -/
def gdPoison (l : Gline) : Gline :=
  ⟨l.data, BitVec.ofNat 64 ((l.md.toNat >>> 20) <<< 20 + (gdRemainder l ^^^ 0xFF))⟩

/-! ### Lines of a controller -/

/-- Where a 64-byte line lies in a controller's devices (16 R321): channel, bank, row, and the column of its first burst over two. -/
structure GdPlace where
  chan : Nat
  bank : Nat
  row : Nat
  col : Nat
  deriving DecidableEq, Repr

/-- The bank group of a place: bank[3:2]. -/
def GdPlace.group (x : GdPlace) : Nat := x.bank / 4

/-- Channel, bank, row and column that PA selects (16 R321): PA[8], PA[12:9] after XOR with PA[20:17], PA[32:17], and PA[16:13] over
PA[7:6]; PA[5] chooses between a line's two bursts. -/
def gdPlace (pa : Nat) : GdPlace :=
  ⟨nget pa 8 8, nget pa 12 9 ^^^ nget pa 20 17, nget pa 32 17, 4 * nget pa 16 13 + nget pa 7 6⟩

/-- The key of line `n` of controller `c`: the place its PA selects, row over bank, column and channel. -/
def lineKey (c n : Nat) : Nat :=
  let x := gdPlace (64 * n)
  c * 0x8000000 + x.row * 2048 + x.bank * 128 + x.col * 2 + x.chan
/-- An unlisted line: the all-zero codeword, or zeros (16 R331). -/
def Gline.zero : Gline := ⟨0, 0⟩
/-- Line `n` of controller `c` as stored. -/
def Gdr.line (g : Gdr) (c n : Nat) : Gline := SMap.get (fun _ => Gline.zero) g.lines (lineKey c n)
/-- Store a line. -/
def Gdr.setLine (g : Gdr) (c n : Nat) (l : Gline) : Gdr :=
  { g with lines := SMap.set (fun _ => Gline.zero) g.lines (lineKey c n) l }

/-- Who and what an error log entry of a line access names. -/
structure LineWho where
  addr : Nat
  ctx : Option Nat
  src : Option Nat
  deriving DecidableEq, Repr

/-- No requester: patrol and training (16 R336). -/
def LineWho.none : LineWho := ⟨0, Option.none, Option.none⟩

/-- Read covered line `n` of controller `c` (16 R327): corrections counted and logged, an uncorrectable line marked
with the poison pattern and logged once. The last component is true when the line is delivered poisoned. -/
def gdReadLine (b : Base) (g : Gdr) (c n : Nat) (w : LineWho) : Base × Gdr × Gline × Bool :=
  let l := g.line c n
  let x := gdDecode l
  let e : ErrInfo := { kind := 1, addr := w.addr, ctx := w.ctx, src := w.src, syn := gdSyn l, det := n }
  match x.2 with
  | .clean => (b, g, x.1, false)
  | .poisoned => (b, g, x.1, true)
  | .corrected => (b.corrErr (gdPage c) e, g, x.1, false)
  | .bad =>
    (((b.logErr (gdPage c) { e with kind := 2, uc := true, poison := true }).addFld (gdPage c) GD.UC_CNT 1),
      g.setLine c n (gdPoison l), x.1, true)

/-- Write covered line `n`: data, tag and minor with a new CHECK, or the poison pattern (16 R328). -/
def gdWriteLine (g : Gdr) (c n : Nat) (d : BitVec 512) (tag minor : Nat) (poison : Bool) : Gdr :=
  let l := gdSeal d tag minor
  g.setLine c n (if poison then gdPoison l else l)

/-- The bytes of `d` enabled by `be` over those of `old`. -/
def mergeBytes (old d : BitVec 512) (be : BitVec 64) : BitVec 512 :=
  let m := BitVec.ofNat 512 ((List.range 64).foldl (fun a i => if be.getLsbD i then a + 255 <<< (8 * i) else a) 0)
  (old &&& ~~~ m) ||| (d &&& m)

/-- Are all 64 bytes enabled? -/
def fullLine (be : BitVec 64) : Bool := be == BitVec.allOnes 64

/-- A write to an uncovered line (16 R328): masked, poisoned data refused. -/
def gdWriteUncovered (g : Gdr) (c n : Nat) (r : HopReq) : Gdr × HopRsp :=
  let be := reqEnables r
  if be = 0 then (g, rspStatus stOK)
  else if r.poisonL || r.poisonH then (g, rspStatus stPOISONED)
  else (g.setLine c n ⟨mergeBytes (g.line c n).data r.data be, 0⟩, rspStatus stOK)

/-- A write to a covered line in mode OFF (16 R328). -/
def gdWriteCovered (b : Base) (g : Gdr) (c n : Nat) (r : HopReq) (w : LineWho) : Base × Gdr × HopRsp :=
  let be := reqEnables r
  if be = 0 then (b, g, rspStatus stOK)
  else if fullLine be then (b, gdWriteLine g c n r.data 0 0 (r.poisonL || r.poisonH), rspStatus stOK)
  else
    let x := gdReadLine b g c n w
    if x.2.2.2 then (x.1, x.2.1, rspStatus stPOISONED)
    else if r.poisonL || r.poisonH then (x.1, x.2.1.setLine c n (gdPoison (x.2.1.line c n)), rspStatus stPOISONED)
    else (x.1, gdWriteLine x.2.1 c n (mergeBytes x.2.2.1.data r.data be) 0 0 false, rspStatus stOK)

/-! ### Training, retraining, refresh, self-refresh, INIT, patrol, RAW (16 R317 to R319, R329 to R334) -/

/-- Can controller `c` serve requests: trained, not in FAULT, training or INIT? -/
def Base.gdTraining (b : Base) (c : Nat) : Bool := b.bit (gdPage c) GD.STAT_TRAINING

/-- The rates tried, highest first: MAX, MAX - 2, ..., and 12 last (16 R317). -/
def gdRates : Nat → Nat → List Nat
  | 0, _ => []
  | n + 1, r => if r ≤ 12 then [12] else r :: gdRates n (Nat.max 12 (r - 2))

/-- Begin training of kind `k` (1 full, 2 at the current rate, 3 full at POR). -/
def gdTrainBegin (b : Base) (g : Gdr) (c k : Nat) : Base × Gdr :=
  (b.setBit (gdPage c) GD.STAT_TRAINING true, { g with trKind := SMap.set (fun _ => 0) g.trKind c k })

/-- Training ends. -/
def gdTrainEnd (b : Base) (g : Gdr) (c : Nat) : Base × Gdr :=
  (b.setBit (gdPage c) GD.STAT_TRAINING false,
   { g with trKind := SMap.set (fun _ => 0) g.trKind c 0,
            trTemp := SMap.set (fun _ => 0) g.trTemp c (b.fld (gdPage c) GD.TEMP_C) })

/-- A controller fails its training at step `n` (16 R318). -/
def gdTrainFail (b : Base) (g : Gdr) (c n : Nat) : Base × Gdr :=
  let pg := gdPage c
  let x := gdTrainEnd b g c
  let b := (x.1.setBit pg GD.STAT_TRAIN_FAIL true).setFld pg GD.TRAIN_STEP n
  let b := (b.logErr pg { kind := 3 }).event pg 10
  ((b.setFld pg GD.RATE_CUR 0).setFld pg HDR.BLK_STAT_STATE stFault, x.2)

/-- A controller passes its training at rate `r` (16 R317). -/
def gdTrainPass (b : Base) (g : Gdr) (c r : Nat) (id0 id1 : Word) : Base × Gdr :=
  let pg := gdPage c
  let boot := SMap.get (fun _ => 0) g.trKind c == 3
  let x := gdTrainEnd b g c
  let b := ((x.1.setBit pg GD.STAT_TRAIN_FAIL false).setFld pg GD.TRAIN_STEP 0).setFld pg GD.RATE_CUR r
  let b := (b.setFld pg GD.DEV_ID0 id0.toNat).setFld pg GD.DEV_ID1 id1.toNat
  let b := (b.setFld pg HDR.BLK_STAT_STATE (b.restState pg)).event pg 9
  -- at POR each controller runs INIT as soon as its training succeeds (16 R331)
  if boot = true then ((b.setBit pg GD.STAT_INIT_BUSY true).setBit pg GD.STAT_INIT_DONE false,
      { x.2 with trKind := SMap.set (fun _ => 0) x.2.trKind c 4 })
  else (b, x.2)

/-- The highest rate controller `c` tries: RATE.MAX takes the values 0 and 12 to 24 (16 R317). -/
def Base.rateMax (b : Base) (c : Nat) : Nat :=
  listedOr .rateMax [0, 12, 13, 14, 15, 16, 17, 18, 19, 20, 21, 22, 23, 24] (b.fld (gdPage c) GD.RATE_MAX)

/-- A write of GD.TRAIN.GO (16 R317, R336): ignored while EN = 1; RATE.MAX = 0 leaves the controller untrained. -/
def gdTrainGo (b : Base) (g : Gdr) (c : Nat) : Base × Gdr :=
  if b.enabled (gdPage c) || b.gdTraining c || b.rateMax c == 0 then (b, g)
  else gdTrainBegin b g c 1

/-- The distance of two temperatures. -/
def tempDiff (a c : Nat) : Nat := Nat.max a c - Nat.min a c

/-- May a timed or temperature-triggered retraining, or the one after three EDC retries, run (16 R319)? -/
def gdRetrainDue (b : Base) (g : Gdr) (c : Nat) : Bool :=
  let pg := gdPage c
  SMap.get (fun _ => 0) g.trKind c == 2 ||
  (decide (b.fld pg GD.RATE_CUR ≠ 0) && !b.bit pg GD.STAT_SREF && !b.gdTraining c &&
    (decide (b.fld pg GD.RETRAIN_MS ≠ 0) ||
      decide (10 ≤ tempDiff (b.fld pg GD.TEMP_C) (SMap.get (fun _ => 0) g.trTemp c))))

/-- REFRESH (16 R329): one per-bank refresh, with the hotter device's temperature `temp`. -/
def execRefresh (g : Fin 16) (temp : Fin 256) (s : State) : Host.Outcome State Fault Refusal :=
  let pg := gdPage g
  if s.b.fld pg GD.RATE_CUR = 0 ∨ s.b.bit pg GD.STAT_SREF ∨ s.b.gated then .next s
  else
    let hot := decide (85 < temp.val)
    let b := (s.b.setFld pg GD.TEMP_C temp.val).setBit pg GD.STAT_HOT hot
    .next { s with b := b.eventIf (hot && !s.b.bit pg GD.STAT_HOT) pg 16 }

/-- Put a controller into self-refresh (16 R330); its ENC stop sleeps with it (17 R365). STATE of a disabled page stays (02 R515). -/
def gdEnterSref (b : Base) (c : Nat) : Base :=
  let pg := gdPage c
  let b := b.setBit pg GD.STAT_SREF true
  (if b.enabled pg then b.setState pg stAsleep else b.setBit pg HDR.BLK_STAT_AWAKE false).rest (encPage c)
/-- Take a controller out of self-refresh. -/
def gdLeaveSref (b : Base) (c : Nat) : Base :=
  if b.bit (gdPage c) GD.STAT_SREF then
    let pg := gdPage c
    let b := b.setBit pg GD.STAT_SREF false
    (if b.enabled pg then b.setState pg stActive else b.setBit pg HDR.BLK_STAT_AWAKE true).rouse (encPage c)
  else b

/-- A request takes a controller out of self-refresh: its block wakes on a packet (16 R330, 02 R25). -/
def gdWake (b : Base) (c : Nat) : Base :=
  if b.bit (gdPage c) GD.STAT_SREF then (gdLeaveSref (b.wakePage (encPage c)) c).event (gdPage c) 6 else b

/-- Does a molt or fill still make requests to controller `c` (17 R353, R365)? -/
def Base.moltsAt (b : Base) (c : Nat) : Bool :=
  b.bit (.molt 0) MOLT.STAT_BUSY && decide (b.fld (.molt (tw (c / 4))) (MOLT.BOUND_LINE.nth (c % 4)) * 64 < b.carveLo c)

/-- SELF_REFRESH_ENTRY (16 R330): SR_IDLE has passed without a request. -/
def execSelfRefreshEntry (g : Fin 16) (s : State) : Host.Outcome State Fault Refusal :=
  let pg := gdPage g
  if s.b.bit pg HDR.BLK_CTRL_SLEEP_PERMIT && s.b.fld pg GD.RATE_CUR != 0 && !s.b.bit pg GD.STAT_INIT_BUSY &&
      !s.b.gdTraining g && !s.b.gated && !s.b.moltsAt g && (SMap.get (fun _ => []) s.gdr.held g).isEmpty then
    .next { s with b := gdEnterSref s.b g }
  else .next s

/-- A write of GD.CMD.INIT (16 R331): refused while EN = 1. -/
def gdInitWrite (b : Base) (c : Nat) : Base :=
  let pg := gdPage c
  if b.enabled pg then b.setBit pg GD.STAT_INIT_REF true
  else ((b.setBit pg GD.STAT_INIT_REF false).setBit pg GD.STAT_INIT_BUSY true).setBit pg GD.STAT_INIT_DONE false

/-- Zero every line of controller `c`; `boot` when the counter area then receives its boot contents (17 R364). -/
def Gdr.zero (g : Gdr) (c : Nat) (boot : Bool) : Gdr :=
  { g with lines := SMap.keep (fun k => !(k / 0x8000000 == c)) g.lines,
           touched := SMap.keep (fun k => !(k / 0x8000000 == c)) g.touched,
           ctrFresh := SMap.set (fun _ => false) g.ctrFresh c boot }

/-- Advance the patrol of controller `c` over its `n` covered lines (16 R332). -/
def gdPatrolNext (b : Base) (g : Gdr) (c n : Nat) : Base × Gdr :=
  let pg := gdPage c
  let p := b.fld pg GD.PATROL_POS_LINE % n
  if p + 1 < n then (b.setFld pg GD.PATROL_POS_LINE (p + 1), g)
  else
    let late := decide (b.fld pg GD.PATROL_S * 1000000 < b.aonUs - SMap.get (fun _ => 0) g.passAt c)
    (((b.setFld pg GD.PATROL_POS_LINE 0).event pg 12).eventIf late pg 13,
     { g with passAt := SMap.set (fun _ => 0) g.passAt c b.aonUs })

/-- GD_PATROL (16 R332): one covered line is visited, as requester 26 of the arbiter (R335). -/
def execGdPatrol (g : Fin 16) (s : State) : Host.Outcome State Fault Refusal :=
  let pg := gdPage g
  let n := s.b.carveLo g / 64
  if n = 0 ∨ s.b.fld pg GD.PATROL_S = 0 ∨ s.b.bit pg GD.STAT_SREF ∨ s.b.fld pg GD.RATE_CUR = 0 ∨ s.b.gdTraining g ∨
      s.b.bit pg GD.STAT_INIT_BUSY ∨ s.b.gated then .next s
  else
    let p := s.b.fld pg GD.PATROL_POS_LINE % n
    let x := gdReadLine s.b s.gdr g p LineWho.none
    let fixed := (gdDecode (s.gdr.line g p)).2 == .corrected
    let y := gdPatrolNext x.1 (if fixed then x.2.1.setLine g p x.2.2.1 else x.2.1) g n
    .next (({ s with b := y.1, gdr := y.2 } : State).arbServe (.gd g) 26)

/-- The line RAW_DATA and RAW_META hold. -/
def gdRawLine (b : Base) (pg : Page) : Gline :=
  ⟨BitVec.ofNat 512 ((List.range 16).foldl (fun a i => a + b.fld pg (GD.RAW_DATA.nth i) <<< (32 * i)) 0),
   BitVec.ofNat 64 (b.fld pg GD.RAW_META_LO + b.fld pg GD.RAW_META_HI <<< 32)⟩

/-- Write RAW_DATA and RAW_META from a line. -/
def setGdRawLine (b : Base) (pg : Page) (l : Gline) : Base :=
  let b := (List.range 16).foldl (fun b i => b.setFld pg (GD.RAW_DATA.nth i) (l.data.toNat >>> (32 * i))) b
  (b.setFld pg GD.RAW_META_LO l.md.toNat).setFld pg GD.RAW_META_HI (l.md.toNat >>> 32)

end Sys2Proof.Machine
end

