-- ==== Sys2Proof/Machine/Enc.lean ====
section
/-! DEFINITION. The encryption stops: regions, key slots, counters, protected reads and writes, page reseal, the molt
engine (17 R338 to R365). -/
namespace Sys2Proof.Machine

/-! ### Tables (17 R338, R339, R362) -/

/-- The home of the package-wide tables: the offsets above tower 0's ENC0 page. -/
def encHome : Page := .enc 0

/-- Has ENC stop `c` still to apply the committed tables? -/
def Base.encWaits (b : Base) (c : Nat) : Bool := nbit (b.parts (encPage c)) 0
/-- Is a commit of the tables pending somewhere? -/
def Base.encPending (b : Base) : Bool := b.commitPend encHome

/-- A table field as ENC stop `c` sees it: the committed value once the stop has applied it, the old one before. -/
def Base.encFld (b : Base) (c : Nat) (f : Fld) : Nat :=
  if b.encPending && !b.encWaits c then b.shFld encHome f else b.fld encHome f

/-- A region as one stop sees it. -/
structure Region where
  no : Nat
  base : Nat
  limit : Nat
  mask : Nat
  key : Nat
  auto : Bool
  nopriv : Bool
  en : Bool
  mode : Nat
  deriving DecidableEq, Repr

/-- Region `r` read through `f` (a live, shadow or per-stop view). -/
def regionOf (f : Fld → Nat) (r : Nat) : Region :=
  ⟨r, f (ENCT.RG_BASE_BASE.nth r), f (ENCT.RG_LIMIT_LIMIT.nth r), f (ENCT.RG_CTRL_MASK.nth r),
   f (ENCT.RG_CTRL_KEY.nth r), f (ENCT.RG_CTRL_AUTO_MOLT.nth r) == 1, f (ENCT.RG_CTRL_NOPRIV.nth r) == 1,
   f (ENCT.RG_CTRL_EN.nth r) == 1, f (ENCT.RG_CTRL_MODE.nth r)⟩

/-- The enabled regions of a view, in ascending number. -/
def regionsOf (f : Fld → Nat) : List Region := ((List.range 256).map (regionOf f)).filter (·.en)

/-- The region of DPA `a` at stop `c`. -/
def Base.regionAt (b : Base) (c a : Nat) : Option Region :=
  (regionsOf (b.encFld c)).find? (fun r => decide (r.base ≤ a / 4096) && decide (a / 4096 ≤ r.limit))

/-- ENC stop `c` reads the entry of the region of DPA `a`, and of its key slot where it is protected, in its DEC stores (02 R32). -/
def Base.regionUse (b : Base) (c a : Nat) : Base :=
  match b.regionAt c a with
  | some q => b.decUses (.enc ⟨c % 16, Nat.mod_lt _ (by decide)⟩)
      ([0x24000 + 16 * q.no, 0x24008 + 16 * q.no] ++ (if q.mode = 0 then [] else [0x25000 + 16 * q.key]))
  | none => b

/-- MSTATE of a region: 0 NONE, 1 MOLT_REQUIRED, 2 MOLTING. -/
def Base.mstate (b : Base) (r : Nat) : Nat := b.fld encHome (ENCT.RG_STAT_MSTATE.nth r)
/-- Make a region MOLT_REQUIRED unless it is MOLTING (17 R352, R358). -/
def Base.moltRequired (b : Base) (r : Nat) : Base :=
  if b.mstate r = 0 then b.setFld encHome (ENCT.RG_STAT_MSTATE.nth r) 1 else b
/-- STATE of a key slot: 0 EMPTY, 1 LOADED, 2 FAILED. -/
def Base.slotState (b : Base) (k : Nat) : Nat := b.fld encHome (ENCT.KS_STAT_STATE.nth k)
/-- Enabled regions naming a slot (17 R362, USERS). -/
def Base.slotUsers (b : Base) (k : Nat) : Nat := ((regionsOf (b.fld encHome)).filter (fun r => r.key == k)).length

/-! ### Keys, counter blocks, tags (17 R342 to R345) -/

/-- Encryption key of a slot. -/
def KeySrc.ke : KeySrc → Nat
  | .gen n => (Config.trng n).toNat % 2 ^ 256
  | .imp k _ => k.toNat
/-- Tag key of a slot. -/
def KeySrc.kt : KeySrc → Nat
  | .gen n => (Config.trng n).toNat >>> 256
  | .imp _ k => k.toNat

/-- CB of block `j` of the line at DPA `a` (17 R345). -/
def counterBlock (a major minor j : Nat) : Nat :=
  j % 4 + (minor % 4096) <<< 2 + (major % 2 ^ 32) <<< 14 + (a >>> 6 % 2 ^ 42) <<< 46

/-- Block `j` of a line, the first byte most significant, as AES takes it. -/
def lineBlock (d : BitVec 512) (j : Nat) : Nat := revBlock ((d.toNat >>> (128 * j)) % 2 ^ 128)

/-- Encrypt or decrypt a line in counter mode (17 R345, MODE 2). -/
def lineCrypt (ke a major minor : Nat) (d : BitVec 512) : BitVec 512 :=
  d ^^^ BitVec.ofNat 512 ((List.range 4).foldl (fun x j =>
    x + revBlock (aes256 ke (counterBlock a major minor j)) <<< (128 * j)) 0)

/-- TAG of a stored line: the first four bytes of GMAC (17 R345). -/
def lineTag (kt a major minor : Nat) (stored : BitVec 512) : Nat :=
  gmac64 kt (counterBlock a major minor 0 % 2 ^ 96) ((List.range 4).map (lineBlock stored)) >>> 96

/-- How a line is protected: its mode and key, and the counters it is written under. -/
structure Prot where
  mode : Nat
  key : KeySrc
  major : Nat
  deriving DecidableEq, Repr

/-- The stored form of plaintext `d` at DPA `a` under MINOR `m`: bytes and tag (17 R345). -/
def sealText (p : Prot) (a m : Nat) (d : BitVec 512) : BitVec 512 × Nat :=
  let x := if p.mode = 2 then lineCrypt p.key.ke a p.major m d else d
  (x, lineTag p.key.kt a p.major m x)

/-- Does a stored line's TAG agree (17 R347)? -/
def tagOk (p : Prot) (a : Nat) (l : Gline) : Bool := lineTag p.key.kt a p.major l.minor l.data == l.tag

/-- The plaintext of a stored line. -/
def openText (p : Prot) (a : Nat) (l : Gline) : BitVec 512 :=
  if p.mode = 2 then lineCrypt p.key.ke a p.major l.minor l.data else l.data

/-! ### Majors and counter lines (17 R344, R358) -/

/-- DPA of controller `c`'s address `pa`. -/
def Base.dpaOf (b : Base) (c pa : Nat) : Nat := gdUnmap (b.gmode (c / 4)) c pa
/-- The line index of the counter line of page `p` of controller `c`. -/
def Base.ctrLine (b : Base) (c p : Nat) : Nat := (b.ctrLo c + 4 * p) / 64
/-- The protection of counter lines: INTEGRITY under the counter key with major 0. -/
def ctrProt (g : Gdr) : Prot := ⟨1, .gen g.ctrKey, 0⟩
/-- Is line `n` of controller `c` a counter line as the boot left it? -/
def ctrUntouched (b : Base) (g : Gdr) (c n : Nat) : Bool :=
  b.inCtr c (64 * n) && SMap.get (fun _ => false) g.ctrFresh c && !SMap.get (fun _ => false) g.touched (lineKey c n)
/-- Mark a counter line as written since the boot. -/
def Gdr.touch (b : Base) (g : Gdr) (c n : Nat) : Gdr :=
  if b.inCtr c (64 * n) then { g with touched := SMap.set (fun _ => false) g.touched (lineKey c n) true } else g
/-- A line as stored, boot-written counter lines included (17 R364: major 0 and a valid tag). -/
def Gdr.stored (b : Base) (g : Gdr) (c n : Nat) : Gline :=
  if ctrUntouched b g c n then gdSeal 0 (sealText (ctrProt g) (b.dpaOf c (64 * n)) 0 0).2 0 else g.line c n

/-- Is page `p` of controller `c` in LOST (17 R358)? -/
def Gdr.isLost (g : Gdr) (c p : Nat) : Bool := SMap.get (fun _ => false) g.lost (c * 0x200000 + p)
/-- Change a page's LOST mark. -/
def Gdr.setLost (g : Gdr) (c p : Nat) (x : Bool) : Gdr :=
  { g with lost := SMap.set (fun _ => false) g.lost (c * 0x200000 + p) x }

/-- The PA range [lo, hi) that region `r` takes in controller `c` (17 R340, R354; 16 R320). -/
def Base.regionPa (b : Base) (c : Nat) (r : Region) : Nat × Nat :=
  if b.gmode (c / 4) then (r.base / 16 * 4096, (r.limit + 1) / 16 * 4096)
  else
    let t0 := (c / 4) * 0x800000
    let lo := Nat.max r.base t0 - t0
    let hi := Nat.min (r.limit + 1) (t0 + 0x800000) - t0
    (lo * 1024, hi * 1024)

/-- The regions of mode INTEGRITY or ENCRYPT that hold some page of [p, p + 16) of controller `c`. -/
def Base.regionsOfPages (b : Base) (c p : Nat) : List Region :=
  (regionsOf (b.encFld c)).filter fun r =>
    r.mode != 0 && decide ((b.regionPa c r).1 / 4096 < p + 16) && decide (p < (b.regionPa c r).2 / 4096)

/-- A counter line fails: its 16 pages become LOST (17 R358). -/
def ctrFail (b : Base) (g : Gdr) (c p a region : Nat) : Base × Gdr :=
  let p0 := p / 16 * 16
  let b := ((b.regionsOfPages c p0).foldl (fun b r => b.moltRequired r.no) b)
  ((b.logErr (encPage c) { kind := 7, addr := a, det := region }).event (encPage c) 13,
   (List.range 16).foldl (fun g i => g.setLost c (p0 + i) true) g)

/-- Fetch the major of page `p` (17 R347, R358): none when its counter line is, or becomes, LOST. Which of CTR_HIT and
CTR_MISS counts is open: the cache's replacement is not described. -/
def fetchMajor (b : Base) (g : Gdr) (c p a region : Nat) : Base × Gdr × Option Nat :=
  let hit := Config.freeBits 1 b.free == 1
  let b := (b.addFld (encPage c) ENC.CTR_HIT (b2n hit)).addFld (encPage c) ENC.CTR_MISS (b2n !hit)
  let b := b.bump
  let n := b.ctrLine c p
  if g.isLost c p then (b, g, none)
  else if ctrUntouched b g c n then (b, g, some 0)
  else
    let x := gdReadLine b g c n ⟨b.dpaOf c (64 * n), none, none⟩
    if x.2.2.2 || !tagOk (ctrProt g) (b.dpaOf c (64 * n)) x.2.2.1 then
      let y := ctrFail x.1 x.2.1 c p a region
      (y.1, y.2, none)
    else (x.1, x.2.1, some (nget x.2.2.1.data.toNat (32 * (p % 16) + 31) (32 * (p % 16))))

/-- Write the major of page `p` through to its counter line (17 R358). The counter line's own MINOR advances; what
follows its 4,095th value the spec does not say. -/
def storeMajor (b : Base) (g : Gdr) (c p major : Nat) : Base × Gdr :=
  let n := b.ctrLine c p
  let l := Gdr.stored b g c n
  let old := (gdDecode l).1
  let i := p % 16
  let m : BitVec 512 := BitVec.ofNat 512 (0xFFFFFFFF <<< (32 * i))
  let d := (old.data &&& ~~~ m) ||| BitVec.ofNat 512 ((major % 2 ^ 32) <<< (32 * i))
  let minor := if old.minor < 4095 then old.minor + 1 else (Config.freeBits 12 b.free).toNat
  let b' := if old.minor < 4095 then b else b.bump
  let t := (sealText (ctrProt g) (b.dpaOf c (64 * n)) minor d).2
  (b', Gdr.touch b (gdWriteLine g c n d t minor false) c n)

/-! ### Which key and counters protect a line (17 R347, R354, R358, R359) -/

/-- What protects a line at the moment. -/
inductive Guard
  /-- Mode OFF. -/
  | plain
  /-- Protected. -/
  | prot (p : Prot)
  /-- Its counter page is LOST, or (`lost` false) its slot FAILED: reads poisoned, writes refused. -/
  | dead (lost : Bool)
  deriving DecidableEq, Repr

/-- BOUND of controller `c` (17 R363). -/
def Base.bound (b : Base) (c : Nat) : Nat := b.fld (.molt (tw (c / 4))) (MOLT.BOUND_LINE.nth (c % 4))
/-- Is a molt of region `r` running? A FILL moves nothing between keys. -/
def Base.molting (b : Base) (r : Nat) : Bool := b.mstate r == 2

/-- The slot's key when it is LOADED. -/
def slotKey (b : Base) (g : Gdr) (k : Nat) : Option KeySrc :=
  if b.slotState k = 1 then SMap.get (fun _ => none) g.keys k else none

/-- Guard under slot `k` with the stored major of page `p`. -/
def guardStored (b : Base) (g : Gdr) (c : Nat) (r : Region) (k p a : Nat) : Base × Gdr × Guard :=
  match slotKey b g k with
  | none => (b, g, .dead false)
  | some key =>
    let x := fetchMajor b g c p a r.no
    match x.2.2 with
    | none => (x.1, x.2.1, .dead true)
    | some m => (x.1, x.2.1, .prot ⟨r.mode, key, m⟩)

/-- The guard of line `n` of controller `c` in region `r` (17 R354). -/
def lineGuard (b : Base) (g : Gdr) (c n a : Nat) (r : Region) : Base × Gdr × Guard :=
  if r.mode = 0 then (b, g, .plain)
  else if b.molting r.no && decide (n < b.bound c) then
    let kb := b.fld encHome (ENCT.RG_STAT_KEY_B.nth r.no)
    if n / 64 = b.bound c / 64 then
      match slotKey b g kb with
      | none => (b, g, .dead false)
      | some key => (b, g, .prot ⟨r.mode, key, 0⟩)
    else guardStored b g c r kb (n / 64) a
  else guardStored b g c r r.key (n / 64) a

/-! ### Protected reads and writes (17 R347 to R349) -/

/-- A tag failure on line `n` (17 R347, R349): poison pattern in the CHECK of the line as stored, logged with `kind`, counted. -/
def tagFail (b : Base) (g : Gdr) (c n kind : Nat) (w : LineWho) (region : Nat) : Base × Gdr :=
  let pg := encPage c
  let b := b.logErr pg { kind := kind, uc := decide (kind = 1), poison := true, addr := w.addr, ctx := w.ctx, src := w.src, det := region }
  ((b.addFld pg ENC.TAGFAIL_CNT 1).event pg 8, g.setLine c n (gdPoison (g.line c n)))

/-- Open a decoded line: its TAG is checked, and it is decrypted or delivered poisoned (17 R347, steps 3 and 4). -/
def encOpen (b : Base) (g : Gdr) (c n : Nat) (p : Prot) (w : LineWho) (region kind : Nat) (l : Gline) :
    Base × Gdr × BitVec 512 × Bool :=
  let a := b.dpaOf c (64 * n)
  if tagOk p a l then (b, g, openText p a l, false)
  else
    let y := tagFail b g c n kind w region
    (y.1, y.2, l.data, true)

/-- Read a protected line whose counters are known: plaintext, and whether it is delivered poisoned (17 R347). -/
def encReadLine (b : Base) (g : Gdr) (c n : Nat) (p : Prot) (w : LineWho) (region kind : Nat) :
    Base × Gdr × BitVec 512 × Bool :=
  let x := gdReadLine b g c n w
  if x.2.2.2 then (x.1, x.2.1, x.2.2.1.data, true) else encOpen x.1 x.2.1 c n p w region kind x.2.2.1

/-- The 512 bits of a line when it is to be delivered by a request of a byte range. -/
def deliver (d : BitVec 512) (r : HopReq) (poison : Bool) : HopRsp := rspData (maskRead d r.addr.toNat r.bytes.val) poison poison

/-- A line whose MINOR has just been written as 4,095 (17 R346, R351, R352): its page waits for a reseal, or its region
needs a molt. -/
def afterMinor (b : Base) (g : Gdr) (c n : Nat) (r : Region) (major : Nat) : Base × Gdr :=
  if major = 0xFFFFFFFF then
    let b := b.moltRequired r.no
    (b.setEvt (encPage c) (evt 11 ||| evt 12), g)
  else
    let l := SMap.get (fun _ => []) g.reseal c
    let l' := if l.contains (n / 64) then l else l ++ [n / 64]
    (b.setBit (encPage c) ENC.STAT_RESEAL true, { g with reseal := SMap.set (fun _ => []) g.reseal c l' })

/-- Store plaintext `d` in a protected line under MINOR + 1 (17 R346, R348). -/
def encStore (b : Base) (g : Gdr) (c n : Nat) (p : Prot) (r : Region) (d : BitVec 512) (poison : Bool) : Base × Gdr :=
  let m := (g.line c n).minor + 1
  let x := sealText p (b.dpaOf c (64 * n)) m d
  let g := gdWriteLine g c n x.1 x.2 m poison
  if m = 4095 then afterMinor b g c n r p.major else (b, g)

/-- A write refused with REFUSED under R352 or R358: counted (17 R361); `kind` is logged where the spec names one. -/
def encRefuse (b : Base) (c : Nat) (kind : Option Nat) (w : LineWho) (region : Nat) : Base :=
  let pg := encPage c
  let b := match kind with
    | some k => b.logErr pg { kind := k, addr := w.addr, ctx := w.ctx, src := w.src, det := region }
    | none => b
  b.addFld pg ENC.REFUSE_CNT 1

/-- Is a line's MINOR at its end under an exhausted major (17 R352)? -/
def lineExhausted (g : Gdr) (c n : Nat) (p : Prot) : Bool := p.major == 0xFFFFFFFF && (g.line c n).minor == 4095

/-- A write to a line in a protected region (17 R348, R349, R352). -/
def encWrite (b : Base) (g : Gdr) (c n : Nat) (p : Prot) (rg : Region) (r : HopReq) (w : LineWho) : Base × Gdr × HopRsp :=
  let be := reqEnables r
  if be = 0 then (b, g, rspStatus stOK)
  else if lineExhausted g c n p then (encRefuse b c (some 5) w rg.no, g, rspStatus stREFUSED)
  else if fullLine be then
    let x := encStore b g c n p rg r.data (r.poisonL || r.poisonH)
    (x.1, x.2, rspStatus stOK)
  else
    let x := encReadLine b g c n p w rg.no 2
    if x.2.2.2 then (x.1, x.2.1, rspStatus stPOISONED)
    else if r.poisonL || r.poisonH then (x.1, x.2.1.setLine c n (gdPoison (x.2.1.line c n)), rspStatus stPOISONED)
    else
      let y := encStore x.1 x.2.1 c n p rg (mergeBytes x.2.2.1 r.data be) false
      (y.1, y.2, rspStatus stOK)

/-- A read of covered line `n` of controller `c` (17 R347): a poisoned or uncorrectable line goes no further than the controller; else
the page's major is fetched and the line opened. -/
def encRead (b : Base) (g : Gdr) (c n : Nat) (rg : Option Region) (r : HopReq) (w : LineWho) : Base × Gdr × HopRsp :=
  let x := gdReadLine b g c n w
  if x.2.2.2 then (x.1, x.2.1, deliver x.2.2.1.data r true)
  else match rg with
    | none => (x.1, x.2.1, deliver x.2.2.1.data r false)
    | some q =>
      let y := lineGuard x.1 x.2.1 c n w.addr q
      match y.2.2 with
      | .plain => (y.1, y.2.1, deliver x.2.2.1.data r false)
      | .dead _ => (y.1, y.2.1, deliver x.2.2.1.data r true)
      | .prot p =>
        let z := encOpen y.1 y.2.1 c n p w q.no 1 x.2.2.1
        (z.1, z.2.1, deliver z.2.2.1 r z.2.2.2)

/-- A request admitted to line `n` of controller `c` in region `rg` (or none). -/
def encPerform (b : Base) (g : Gdr) (c n : Nat) (rg : Option Region) (r : HopReq) (write : Bool) (w : LineWho) :
    Base × Gdr × HopRsp :=
  if !b.covered c (64 * n) then
    if write then let x := gdWriteUncovered g c n r; (b, x.1, x.2)
    else (b, g, deliver (g.line c n).data r false)
  else if !write then encRead b g c n rg r w
  else
    let x := match rg with
      | none => (b, g, Guard.plain)
      | some q => lineGuard b g c n w.addr q
    match x.2.2, rg with
    | .dead lost, _ => (if lost then encRefuse x.1 c none w (match rg with | some q => q.no | none => 0) else x.1, x.2.1, rspStatus stREFUSED)
    | .prot p, some q => encWrite x.1 x.2.1 c n p q r w
    | _, _ => gdWriteCovered x.1 x.2.1 c n r w

/-! ### Admission and holding (17 R340, R351, R354, R355; 16 R318, R319, R324) -/

/-- The verdict of a home on a request. -/
inductive Admit
  | ok (rg : Option Region)
  | refuse (status kind : Nat) (gd : Bool) (region : Nat)
  deriving DecidableEq, Repr

/-- Does a DPA lie in the live staging region (08 R162)? -/
def Base.inStaging (b : Base) (a : Nat) : Bool :=
  let lo := b.fld .ldr LDR.STG_BASE_BASE * mib64
  decide (lo ≤ a) && decide (a < lo + b.fld .ldr LDR.STG_SIZE_SIZE * mib64)

/-- Admission at ENC stop `c` (17 R340): the staging region first, closed to all but the loader (08 R162), then the
regions, then the carve (16 R324). -/
def encAdmit (b : Base) (c pa : Nat) (r : HopReq) (molt : Bool) : Admit :=
  if r.src.val ≠ 1009 ∧ b.inStaging r.addr.toNat = true then .refuse stFENCE 3 false 0
  else if b.inCtr c pa then .refuse stUNSUPPORTED 4 false 0
  else
    let rg := b.regionAt c r.addr.toNat
    let fence (q : Nat) : Admit := .refuse stFENCE 3 false q
    let carve : Admit := if b.inCarve c pa then .refuse stUNSUPPORTED 4 true 0 else .ok rg
    match rg with
    | none => if r.priv then carve else fence 0
    | some q =>
      if r.priv then (if q.nopriv && !molt then fence q.no else carve)
      else if nbit q.mask r.ctx.val then carve else fence q.no

/-- Must an access to line `n` of controller `c` wait: its page is under reseal, or a molt holds a write that would
pass MINOR 4,095 in the page BOUND is inside (17 R351, R355)? -/
def encHolds (g : Gdr) (b : Base) (c n : Nat) (write : Bool) : Bool :=
  (SMap.get (fun _ => []) g.reseal c).contains (n / 64) &&
    (if b.fld (.molt 0) MOLT.STAT_BUSY == 1 && n / 64 == b.bound c / 64 then write && (g.line c n).minor == 4095 else true)

/-- Can controller `c` serve nothing: in FAULT, or untrained (16 R317, R318)? -/
def Base.gdDead (b : Base) (c : Nat) : Bool :=
  b.fld (gdPage c) HDR.BLK_STAT_STATE == stFault || b.fld (gdPage c) GD.RATE_CUR == 0

/-- Does controller `c` refuse every request: page disabled, in FAULT, or untrained (02 R25, 16 R317, R318)? -/
def Base.gdRefuses (b : Base) (c : Nat) : Bool := !b.enabled (gdPage c) || !b.enabled (encPage c) || b.gdDead c

/-- Must every request to controller `c` wait: self-refresh, training, INIT, gated clocks, or pin control of
the TAP (25 R511)? -/
def Base.gdAway (b : Base) (c : Nat) : Bool :=
  b.bit (gdPage c) GD.STAT_SREF || b.gdTraining c || b.bit (gdPage c) GD.STAT_INIT_BUSY || b.gated || b.bit .pkg PKG.JTAG_CTRL_CUR

/-- What a home answers a request with that it does not admit, decided once, when it arrives (17 R340, 05 R108). -/
def gdFence (b : Base) (r : HopReq) (wide : Bool) : Base × Option HopRsp :=
  let x := gdMap wide r.addr.toNat
  let b := b.regionUse x.1 r.addr.toNat
  if b.gdRefuses x.1 then (b, some (rspStatus stDISABLED))
  else match encAdmit b x.1 x.2 r false with
    | .refuse st kind gd q =>
      let pg := if gd then gdPage x.1 else encPage x.1
      let b := b.logErr pg { kind := kind, addr := r.addr.toNat, ctx := reqLogCtx r, src := some r.src.val,
                             det := if gd then x.2 / 64 else q }
      (b.eventIf (decide (st = stFENCE)) pg 9, some (rspStatus st))
    | .ok _ => (b, none)

/-- An admitted request at its home (17 R345 to R349): none when it is held there. -/
def gdServe (b : Base) (g : Gdr) (r : HopReq) (write wide : Bool) : Base × Gdr × Option HopRsp :=
  let x := gdMap wide r.addr.toNat
  let c := x.1
  let n := x.2 / 64
  if b.gdDead c then (b, g, some (rspStatus stDISABLED))
  else if b.gdAway c || encHolds g b c n write then (b, g, none)
  else
    let y := encPerform b g c n (b.regionAt c r.addr.toNat) r write ⟨r.addr.toNat, reqLogCtx r, some r.src.val⟩
    (y.1, y.2.1, some y.2.2)

/-- Put a request in the queue of controller `c`. -/
def Gdr.hold (g : Gdr) (c : Nat) (q : Waiting) : Gdr :=
  { g with held := SMap.set (fun _ => []) g.held c (SMap.get (fun _ => []) g.held c ++ [q]) }

/-- The message that answers a request (14 R283, R285). -/
def answerMsg (r : HopReq) (a : HopRsp) : Msg := .hop r.src r.tag a.status a.isData a.data a.poisonL a.poisonH

/-- Try the held requests of controller `c` again, in arrival order; those that still wait stay. -/
def gdRetryList (wide : Bool) (c : Nat) : List Waiting → Base → Gdr → Base × Gdr
  | [], b, g => (b, g)
  | q :: l, b, g =>
    let x := gdServe b g q.req q.write wide
    match x.2.2 with
    | none => gdRetryList wide c l x.1 (x.2.1.hold c q)
    | some a => gdRetryList wide c l (x.1.send (answerMsg q.req a)) x.2.1

/-- Try every held request of controller `c` again. -/
def gdRetry (b : Base) (g : Gdr) (c : Nat) : Base × Gdr :=
  let l := SMap.get (fun _ => []) g.held c
  let x := gdRetryList (b.gmode (c / 4)) c l b { g with held := SMap.set (fun _ => []) g.held c [] }
  (x.1.setBit (encPage c) ENC.STAT_HELD (!(SMap.get (fun _ => []) x.2.held c).isEmpty), x.2)

/-- RETRAIN (16 R319): read and write training at the current rate; `ok` says whether it passed. -/
def execRetrain (g : Fin 16) (ok : Bool) (s : State) : Host.Outcome State Fault Refusal :=
  if gdRetrainDue s.b s.gdr g then
    let x := if ok then gdTrainEnd s.b s.gdr g else gdTrainFail s.b s.gdr g 3
    let y := gdRetry x.1 x.2 g
    .next { s with b := y.1, gdr := y.2 }
  else .next s

/-- TRAINING_DONE (16 R317, R318): the devices answered steps 1 and 2 (`early` names the one that failed), and step 3
passes at exactly the rates of `pass`. What waited for the controller is served or refused. -/
def execTrainingDone (g : Fin 16) (early : Option (Fin 3)) (pass : List (Fin 32)) (id0 id1 : Word) (s : State) :
    Host.Outcome State Fault Refusal :=
  if s.b.gdTraining g && SMap.get (fun _ => 0) s.gdr.trKind g != 2 then
    let rates := gdRates 13 (s.b.rateMax g)
    let x := match early with
      | some n => gdTrainFail s.b s.gdr g n
      | none => match rates.find? (fun r => pass.any (fun q => q.val == r)) with
        | some r => gdTrainPass s.b s.gdr g r id0 id1
        | none => gdTrainFail s.b s.gdr g 3
    let y := gdRetry x.1 x.2 g
    .next { s with b := y.1, gdr := y.2 }
  else .next s

/-- INIT_DONE (16 R331): every line of the controller holds zeros; what waited goes on. -/
def execInitDone (g : Fin 16) (s : State) : Host.Outcome State Fault Refusal :=
  let pg := gdPage g
  if s.b.bit pg GD.STAT_INIT_BUSY then
    let b := ((s.b.setBit pg GD.STAT_INIT_BUSY false).setBit pg GD.STAT_INIT_DONE true).event pg 8
    let boot := SMap.get (fun _ => 0) s.gdr.trKind g == 4
    let x := s.gdr.zero g boot
    let y := gdRetry b { x with trKind := if boot = true then SMap.set (fun _ => 0) x.trKind g 0 else x.trKind } g
    .next { s with b := y.1, gdr := y.2 }
  else .next s

/-! ### RAW access (16 R333) -/

/-- A write of GD.RAW_CMD (16 R333). -/
def gdRawCmd (b : Base) (g : Gdr) (c : Nat) (wr : Bool) : Base × Gdr :=
  let pg := gdPage c
  let n := b.fld pg GD.RAW_ADDR_LINE
  if !b.bit pg HDR.ERR_CFG_RAW || !b.covered c (64 * n) then (b.setBit pg GD.RAW_STAT_REFUSED true, g)
  else
    let b := (b.setBit pg GD.RAW_STAT_REFUSED false).setBit pg GD.RAW_STAT_DONE true
    if wr then (b, Gdr.touch b (g.setLine c n (gdRawLine b pg)) c n)
    else (setGdRawLine b pg (Gdr.stored b g c n), g)

/-! ### Commit of the tables (17 R338, R339, R341) -/

/-- Do two regions overlap? -/
def regionsMeet (x y : Region) : Bool := decide (x.base ≤ y.limit) && decide (y.base ≤ x.limit)

/-- Does no pair of a list of regions overlap? -/
def noOverlap : List Region → Bool
  | [] => true
  | x :: l => l.all (fun y => !regionsMeet x y) && noOverlap l

/-- The rules of R341 for one enabled region. -/
def regionOk (b : Base) (r : Region) : Bool :=
  decide (r.base ≤ r.limit) &&
  (r.mode == 0 ||
    (decide (r.base % 16 = 0) && decide ((r.limit + 1) % 16 = 0) &&
     (List.range 16).all (fun c => let x := b.regionPa c r; decide (x.2 ≤ x.1) || decide (x.2 ≤ b.ctrLo c)) &&
     b.slotState r.key == 1))

/-- The consistency rules of a GO of the tables (17 R341). -/
def encCommitOk (b : Base) : Bool :=
  let sh := b.shFld encHome
  let old := b.fld encHome
  let rs := regionsOf sh
  (List.range 256).all (fun r => sh (ENCT.RG_CTRL_MODE.nth r) != 3) &&
  (List.range 256).all (fun k => decide (sh (ENCT.KS_CTRL_OWNER.nth k) ≤ 8)) &&
  rs.all (regionOk b) && noOverlap rs &&
  rs.all (fun r => sh (ENCT.KS_CTRL_OWNER.nth r.key) == 8 ||
    decide (r.mask = 1 <<< sh (ENCT.KS_CTRL_OWNER.nth r.key))) &&
  (List.range 256).all (fun k =>
    sh (ENCT.KS_CTRL_OWNER.nth k) == old (ENCT.KS_CTRL_OWNER.nth k) || b.slotState k == 0) &&
  (List.range 256).all (fun r =>
    b.mstate r != 2 ||
      (let x := regionOf sh r; let y := regionOf old r
       x.base == y.base && x.limit == y.limit && x.mode == y.mode && x.key == y.key))

/-- A GO of the tables is accepted: COMMIT_PEND in all sixteen ENC pages (17 R338). -/
def encCommitStart (b : Base) : Base :=
  (List.range 16).foldl (fun b c =>
    (b.setFld (encPage c) HDR.BLK_STAT_COMMIT_PEND 1).setParts (encPage c) 1) b

/-- Would applying the tables change what request `q`, held at stop `c`, was admitted under (17 R339)? -/
def encBlocks (b : Base) (c : Nat) (q : Waiting) : Bool :=
  match b.regionAt c q.req.addr.toNat with
  | none => false
  | some r => regionOf (b.shFld encHome) r.no != r ||
      b.shFld encHome (ENCT.KS_CTRL_OWNER.nth r.key) != b.fld encHome (ENCT.KS_CTRL_OWNER.nth r.key)

/-- Copy the tables' shadows over their live values. -/
def encCopyTables (b : Base) : Base :=
  ((b.regs.map Prod.fst ++ b.shad.map Prod.fst).filter (fun a => decide (0x24000 ≤ a) && decide (a < 0x26000))).foldl
    (fun b a => b.setWord a (rwsMix a (b.word a) (b.shWord a))) b

/-- The commit ends once every stop has applied the tables: COMMIT_DONE in all sixteen pages (17 R338). -/
def encCommitEnd (b : Base) : Base :=
  (List.range 16).foldl (fun b c => b.commitDone (encPage c)) (encCopyTables b)

/-! ### Key slots (17 R342, R352) -/

/-- A write of KS_CMD.ERASE (17 R342). -/
def ksErase (b : Base) (g : Gdr) (k : Nat) : Base × Gdr :=
  let busy := b.fld (.molt 0) MOLT.STAT_BUSY == 1 && b.fld (.molt 0) MOLT.STAT_KEY_B == k && b.fld (.molt 0) MOLT.STAT_OP == 1
  if b.slotUsers k != 0 || busy then (b.setFld encHome (ENCT.KS_STAT_ERASE_REF.nth k) 1, g)
  else ((b.setFld encHome (ENCT.KS_STAT_ERASE_REF.nth k) 0).setFld encHome (ENCT.KS_STAT_STATE.nth k) 0,
    { g with keys := SMap.set (fun _ => none) g.keys k none })

/-- Load a key source into a slot (17 R342). -/
def slotLoad (b : Base) (g : Gdr) (k : Nat) (src : KeySrc) : Base × Gdr :=
  (b.setFld encHome (ENCT.KS_STAT_STATE.nth k) 1, { g with keys := SMap.set (fun _ => none) g.keys k (some src) })

/-- The lowest EMPTY slot. -/
def Base.emptySlot (b : Base) : Option Nat := (List.range 256).find? (fun k => b.slotState k == 0)

/-! ### Page reseal (17 R351, R355) -/

/-- Move one line of a reseal: read under the old counters, written under the new (17 R351). -/
def resealLine (c : Nat) (p : Prot) (region : Nat) (x : Base × Gdr) (n : Nat) : Base × Gdr :=
  let a := x.1.dpaOf c (64 * n)
  let y := encReadLine x.1 x.2 c n p ⟨a, none, none⟩ region 6
  let s := sealText { p with major := p.major + 1 } a 0 y.2.2.1
  (y.1, gdWriteLine y.2.1 c n s.1 s.2 0 y.2.2.2)

/-- The first waiting page of controller `c` is resealed, unless BOUND is inside it (R355); the held accesses proceed in
arrival order. -/
def resealEnd (s : State) (c : Nat) : State :=
  match SMap.get (fun _ => []) s.gdr.reseal c with
  | [] => s
  | p :: rest =>
    let a := s.b.dpaOf c (4096 * p)
    match s.b.regionAt c a with
    | none => { s with gdr := { s.gdr with reseal := SMap.set (fun _ => []) s.gdr.reseal c rest } }
    | some r =>
      if s.b.molting r.no ∧ s.b.bound c / 64 = p then s
      else
        let x := lineGuard s.b s.gdr c (64 * p) a r
        let y := match x.2.2 with
          | .prot q =>
            let z := ((List.range 64).map (fun i => 64 * p + i)).foldl (resealLine c q r.no) (x.1, x.2.1)
            storeMajor z.1 z.2 c p (q.major + 1)
          | _ => (x.1, x.2.1)
        let g := { y.2 with reseal := SMap.set (fun _ => []) y.2.reseal c rest }
        let b := (y.1.setBit (encPage c) ENC.STAT_RESEAL (!rest.isEmpty)).addFld (encPage c) ENC.RESEAL_CNT 1
        let z := gdRetry (b.event (encPage c) 10) g c
        { s with b := z.1, gdr := z.2 }

/-- An engine's access wakes a controller in self-refresh, unless a power failure holds it there (14 R297, 17 R365, 21 R438). -/
def State.gdAwake (s : State) (c : Nat) : State := if s.pwr.pwrFail then s else { s with b := gdWake s.b c }

/-- RESEAL_DONE (17 R351): its accesses are requester 26 of the arbiter (16 R335). -/
def execResealDone (c : Fin 16) (s : State) : Host.Outcome State Fault Refusal :=
  if (SMap.get (fun _ => []) s.gdr.reseal c).isEmpty then .next s
  else
    let s := s.gdAwake c
    .next (if s.b.gdAway c then s else (resealEnd s c).arbServe (.gd c) 26)

/-! ### The molt engine (17 R352 to R357, R363) -/

/-- Set a field in the MOLT page of every tower (17 R363). -/
def Base.moltAll (b : Base) (f : Fld) (v : Nat) : Base := towers.foldl (fun b t => b.setFld (.molt (tw t)) f v) b

/-- Is a molt or fill running? -/
def Base.moltBusy (b : Base) : Bool := b.bit (.molt 0) MOLT.STAT_BUSY

/-- May MOLT.CMD start (17 R353, R357)? -/
def moltOk (b : Base) (op r kb : Nat) : Bool :=
  let q := regionOf (b.fld encHome) r
  !b.moltBusy && q.en && q.mode != 0 &&
  (op == 2 ||
    (b.slotState kb == 1 && kb != q.key &&
     b.fld encHome (ENCT.KS_CTRL_OWNER.nth kb) == b.fld encHome (ENCT.KS_CTRL_OWNER.nth q.key)))

/-- Start a molt (op 1) or fill (op 2): BOUND of every controller at the region's first line. -/
def moltStart (b : Base) (g : Gdr) (op r kb : Nat) (auto : Bool) : Base × Gdr :=
  let q := regionOf (b.fld encHome) r
  let b := (List.range 16).foldl (fun b c =>
    b.setFld (.molt (tw (c / 4))) (MOLT.BOUND_LINE.nth (c % 4)) ((b.regionPa c q).1 / 64)) b
  let b := (((b.moltAll MOLT.STAT_OP op).moltAll MOLT.STAT_REGION r).moltAll MOLT.STAT_KEY_B kb)
  let b := (((b.moltAll MOLT.STAT_BUSY 1).moltAll MOLT.STAT_DONE 0).moltAll MOLT.STAT_REFUSED 0)
  let b := if op = 1 then
      (b.setFld encHome (ENCT.RG_STAT_MSTATE.nth r) 2).setFld encHome (ENCT.RG_STAT_KEY_B.nth r) kb
    else b
  (b, { g with moltAuto := auto })

/-- A write of MOLT.CMD with GO (17 R353, R357). -/
def moltCmd (b : Base) (g : Gdr) (t op r kb : Nat) : Base × Gdr :=
  if moltOk b op r kb then moltStart b g op r kb false
  else ((b.setBit (.molt (tw t)) MOLT.STAT_REFUSED true).event (.molt (tw t)) 9, g)

/-- Start the queued molt of the lowest region when the engines are free (17 R353). -/
def moltNext (b : Base) (g : Gdr) : Base × Gdr :=
  if b.moltBusy then (b, g)
  else match g.moltQ with
    | (r, some kb) :: _ =>
      let g := { g with moltQ := SMap.set (fun _ => none) g.moltQ r none }
      if moltOk b 1 r kb then moltStart b g 1 r kb true else (b, g)
    | _ => (b, g)

/-- AUTO_MOLT_FILL (17 R352): Anole fills the lowest EMPTY slot for MOLT_REQUIRED region `r` and queues its molt. -/
def execAutoMoltFill (r : Fin 256) (s : State) : Host.Outcome State Fault Refusal :=
  let q := regionOf (s.b.fld encHome) r
  match s.b.emptySlot with
  | none => .next s
  | some k =>
    if q.en && q.auto && s.b.mstate r == 1 && (SMap.get (fun _ => none) s.gdr.moltQ r).isNone then
      let own := s.b.fld encHome (ENCT.KS_CTRL_OWNER.nth q.key)
      let b := s.b.setBoth encHome (ENCT.KS_CTRL_OWNER.nth k) own
      let x := slotLoad b s.gdr k (.gen b.free)
      let y := moltNext x.1.bump { x.2 with moltQ := SMap.set (fun _ => none) x.2.moltQ r (some k) }
      .next { s with b := y.1, gdr := y.2 }
    else .next s

/-- What moving a line reads under key A: its plaintext and whether it is poisoned (17 R354, R358). -/
def moltRead (b : Base) (g : Gdr) (c n a : Nat) (q : Region) : Base × Gdr × BitVec 512 × Bool :=
  let x := guardStored b g c q q.key (n / 64) a
  match x.2.2 with
  | .prot p => encReadLine x.1 x.2.1 c n p ⟨a, none, none⟩ q.no 1
  | _ => (x.1, x.2.1, (x.2.1.line c n).data, true)

/-- Move the line at BOUND from A to B with major 0 and MINOR 0 (17 R354). -/
def moltLine (b : Base) (g : Gdr) (c n : Nat) (q : Region) (kb : Nat) : Base × Gdr :=
  let a := b.dpaOf c (64 * n)
  let x := moltRead b g c n a q
  match slotKey x.1 x.2.1 kb with
  | none => (x.1, x.2.1.setLine c n (gdPoison (x.2.1.line c n)))
  | some key =>
    let s := sealText ⟨q.mode, key, 0⟩ a 0 x.2.2.1
    (x.1, gdWriteLine x.2.1 c n s.1 s.2 0 x.2.2.2)

/-- A privileged full-line write of zeros, as a FILL makes it. -/
def fillReq (a : Nat) : HopReq :=
  ⟨0, true, 0, 0, 0, BitVec.ofNat 48 a, 64, false, 0, 0, false, false⟩

/-- The line at BOUND receives 64 zero bytes under R348 (17 R357). -/
def fillLine (b : Base) (g : Gdr) (c n : Nat) (q : Region) : Base × Gdr :=
  let a := b.dpaOf c (64 * n)
  let x := lineGuard b g c n a q
  match x.2.2 with
  | .prot p => let y := encWrite x.1 x.2.1 c n p q (fillReq a) ⟨a, none, none⟩; (y.1, y.2.1)
  | .dead true => (encRefuse x.1 c none ⟨a, none, none⟩ q.no, x.2.1)
  | .dead false | .plain => (x.1, x.2.1)

/-- When BOUND leaves a page in a molt, its major becomes 0 and it is no longer LOST (17 R354, R358). -/
def moltPageEnd (b : Base) (g : Gdr) (c n : Nat) : Base × Gdr :=
  if (n + 1) % 64 = 0 then
    let x := storeMajor b g c (n / 64) 0
    (x.1, x.2.setLost c (n / 64) false)
  else (b, g)

/-- MOLT_LINE_MOVE (17 R354, R357): controller `c`'s engine handles the line at BOUND, as requester 25 of the arbiter (16 R335), and
advances BOUND. -/
def execMoltLineMove (c : Fin 16) (s : State) : Host.Outcome State Fault Refusal :=
  let pg : Page := .molt (tw (c / 4))
  let q := regionOf (s.b.fld encHome) (s.b.fld pg MOLT.STAT_REGION)
  let n := s.b.bound c
  if !(s.b.moltBusy && decide (64 * n < (s.b.regionPa c q).2)) then .next s
  else
    let s := s.gdAwake c
    if s.b.gdAway c || s.b.gdRefuses c then .next s
    else
    let x := if s.b.fld pg MOLT.STAT_OP = 1 then
        let y := moltLine s.b s.gdr c n q (s.b.fld pg MOLT.STAT_KEY_B)
        moltPageEnd y.1 y.2 c n
      else fillLine s.b s.gdr c n q
    let b := (x.1.setFld pg (MOLT.BOUND_LINE.nth (c % 4)) (n + 1)).addFld pg MOLT.MOVED 1
    let z := gdRetry b x.2 c
    .next (({ s with b := z.1, gdr := z.2 } : State).arbServe (.gd c) 25)

/-- Has every engine passed the region's last line (17 R356)? -/
def moltPassed (b : Base) (q : Region) : Bool :=
  (List.range 16).all (fun c => decide ((b.regionPa c q).2 ≤ 64 * b.bound c) || decide ((b.regionPa c q).2 ≤ (b.regionPa c q).1))

/-- MOLT_DONE (17 R356): the region's KEY becomes B and MSTATE NONE; slot A of an AUTO_MOLT is erased when no enabled
region names it; the next queued molt starts. -/
def execMoltDone (s : State) : Host.Outcome State Fault Refusal :=
  let r := s.b.fld (.molt 0) MOLT.STAT_REGION
  let q := regionOf (s.b.fld encHome) r
  if s.b.moltBusy && moltPassed s.b q then
    let op := s.b.fld (.molt 0) MOLT.STAT_OP
    let b := if op = 1 then
        let b := s.b.setBoth encHome (ENCT.RG_CTRL_KEY.nth r) (s.b.fld (.molt 0) MOLT.STAT_KEY_B)
        (b.setFld encHome (ENCT.RG_STAT_MSTATE.nth r) 0).setFld encHome (ENCT.RG_STAT_KEY_B.nth r) 0
      else s.b
    let b := (b.moltAll MOLT.STAT_BUSY 0).moltAll MOLT.STAT_DONE 1
    let b := towers.foldl (fun b t => b.event (.molt (tw t)) 8) b
    let x := if op = 1 ∧ s.gdr.moltAuto ∧ b.slotUsers q.key = 0 then ksErase b s.gdr q.key else (b, s.gdr)
    let y := moltNext x.1 { x.2 with moltAuto := false }
    .next { s with b := y.1, gdr := y.2 }
  else .next s

/-! ### Resets and the clock monitor (16 R334, R337) -/

/-- A controller's clocks resume after a gap of `gap` microseconds without self-refresh: above 32 ms CONTENT_LOST is
flagged and the controller retrains (16 R334). -/
def gdResumeOne (gap : Nat) (x : Base × Gdr) (c : Nat) : Base × Gdr :=
  let pg := gdPage c
  if 32000 < gap ∧ !x.1.bit pg GD.STAT_SREF ∧ x.1.fld pg GD.RATE_CUR ≠ 0 then
    gdTrainBegin ((x.1.setBit pg GD.STAT_CONTENT_LOST true).event pg 14) x.2 c 2
  else x

/-- Every controller's clocks resume, and the requests held meanwhile are served where they may be. -/
def gdResume (b : Base) (g : Gdr) (gap : Nat) : Base × Gdr :=
  (List.range 16).foldl (fun x c => gdRetry x.1 x.2 c) ((List.range 16).foldl (gdResumeOne gap) (b, g))

/-- The rules of a GD GO (16 R325). -/
def gdCommitOk (b : Base) (c : Nat) : Bool :=
  let k := b.shFld (gdPage c) GD.CFG_K
  decide (k ≤ 14) && (k == b.carveK c || !b.enabled (gdPage c))

/-- K of a GD commit takes effect (16 R325, R336): the counter area moves, and holds no counter lines yet. -/
def gdApplyK (b : Base) (g : Gdr) (c : Nat) : Base × Gdr :=
  let b' := (b.applySh (gdPage c) (fun o => o == 0x40)).partDone (gdPage c) 1
  (b'.setFld (encPage c) ENC.CTR_AREA_PA (b'.ctrLo c / 0x10000),
   if b'.carveK c = b.carveK c then g
   else { g with ctrFresh := SMap.set (fun _ => false) g.ctrFresh c false })

end Sys2Proof.Machine
end

