-- ==== Sys2Proof/Machine/Power.lean ====
section
/-! DEFINITION. The budget arbiter, the thermal model, throttle levels, trips, power-fail (21). -/
namespace Sys2Proof.Machine

/-! ### Levels (21 R429, R430, R436, R437) -/

/-- Tower `t`'s level field of a level register of the BGT page: LEVEL 0x80, PLEVEL 0x84, TLEVEL 0x88. -/
def lvlFld (off t : Nat) : Fld := ⟨off, 4 * t + 2, 4 * t, 4⟩
/-- The power-derived level PL of a tower. -/
def Base.pl (b : Base) (t : Nat) : Nat := b.fld .bgt (lvlFld 0x84 t)
/-- The thermal level TL of a tower. -/
def Base.tl (b : Base) (t : Nat) : Nat := b.fld .bgt (lvlFld 0x88 t)
/-- The throttle level L of a tower. -/
def Base.lvl (b : Base) (t : Nat) : Nat := b.fld .bgt (lvlFld 0x80 t)

/-- T_hot of a tower in 0.25 °C (21 R436). -/
def Base.tHot (b : Base) (t : Nat) : Int := toS 11 (b.fld (.thm (tw t)) THM.HOT_T)
/-- Is a tower at or above TRIP_C (21 R437)? -/
def Base.atTrip (b : Base) (t : Nat) : Bool := decide ((4 * b.fld (.thm (tw t)) THM.LIMITS_TRIP_C : Nat) ≤ b.tHot t)

/-- The level a tower is due: 7 in a power failure or a trip, else the highest of PL, TL and FLOOR (21 R430, R437,
R438). -/
def dueLevel (b : Base) (pwrFail : Bool) (t : Nat) : Nat :=
  if pwrFail || towers.any b.atTrip then 7
  else Nat.max (Nat.max (b.pl t) (b.tl t)) (b.fld .bgt BGT.FLOOR_LEVEL)

/-- Recompute LEVEL: L of each tower, LMAX and F - 1, with THROTTLE and CLEAR as LMAX leaves or reaches 0
(21 R430, R441). -/
def updateLevels (b : Base) (pwrFail : Bool) : Base :=
  let l := fun t => dueLevel b pwrFail t
  let mx := towers.foldl (fun a t => Nat.max a (l t)) 0
  let old := b.fld .bgt BGT.LEVEL_LMAX
  let b' := towers.foldl (fun b t => b.setFld .bgt (lvlFld 0x80 t) (l t)) b
  let b' := (b'.setFld .bgt BGT.LEVEL_LMAX mx).setFld .bgt BGT.LEVEL_FCODE (mx / 2)
  (b'.eventIf (old == 0 && mx != 0) .bgt 9).eventIf (old != 0 && mx == 0) .bgt 10

/-- F: the package-wide factor of throttled dividers (21 R430). -/
def Base.factorF (b : Base) : Nat := 1 + b.fld .bgt BGT.LEVEL_LMAX / 2

/-! ### The budget arbiter (21 R428, R429) -/

/-- Input power of a tower in the last sample. -/
def Base.pinPwr (b : Base) (t : Nat) : Nat := b.fld (.pwr (tw t)) PWR.PIN_UNITS

/-- P_pkg (21 R428). -/
def Base.pkgPower (b : Base) : Nat := towers.foldl (fun a t => a + b.pinPwr t) 0 + b.fld .bgt BGT.OTHER_UNITS

/-- The tower with PL below 7 and the largest PIN, the lowest on ties. -/
def raiseTower (b : Base) : Option Nat :=
  (towers.filter (fun t => decide (b.pl t < 7))).foldl
    (fun a t => match a with | none => some t | some u => if b.pinPwr u < b.pinPwr t then some t else some u) none

/-- The tower with the largest PL above 0; on ties the lowest PIN, then the highest tower. -/
def lowerTower (b : Base) : Option Nat :=
  (towers.filter (fun t => decide (0 < b.pl t))).foldl
    (fun a t => match a with
      | none => some t
      | some u => if b.pl u < b.pl t ∨ (b.pl u = b.pl t ∧ b.pinPwr t ≤ b.pinPwr u) then some t else some u) none

/-- Change PL of a tower. -/
def Base.setPl (b : Base) (o : Option Nat) (f : Nat → Nat) : Base :=
  match o with | none => b | some t => b.setFld .bgt (lvlFld 0x84 t) (f (b.pl t))

/-- The arbiter's decision of one run (21 R429): PL and the count of runs below 15/16 of budget. -/
def budgetStep (b : Base) (under : Nat) : Base × Nat :=
  let p := b.pkgPower
  let bud := b.fld .bgt BGT.BUDGET_UNITS
  if bud < p then (b.setPl (raiseTower b) (· + 1), 0)
  else if 16 * p < 15 * bud then
    if Nat.max 1 (b.fld .bgt BGT.DWELL_RUNS) ≤ under + 1 then (b.setPl (lowerTower b) (· - 1), 0)
    else (b, under + 1)
  else (b, 0)

/-- BUDGET_RUN (21 R428, R429, R441): one run of the arbiter. PKG_PWR holds 16 bits; what it reads for a larger power
the spec does not say. A pending commit of the page takes effect at the end of the run. -/
def execBudgetRun (s : State) : Host.Outcome State Fault Refusal :=
  if s.b.fld .bgt BGT.PERIOD_MS = 0 then .next s
  else
    let p := s.b.pkgPower
    let x := budgetStep s.b s.pwr.under
    let b := if p < 65536 then x.1.setFld .bgt BGT.PKG_PWR_UNITS p
      else (x.1.setFld .bgt BGT.PKG_PWR_UNITS (Config.freeBits 16 x.1.free).toNat).bump
    let b := b.eventIf (decide (s.b.fld .bgt BGT.BUDGET_UNITS < p)) .bgt 8
    let b := updateLevels b s.pwr.pwrFail
    let b := if b.fld .bgt BGT.LEVEL_LMAX = 0 then b else b.addFld .bgt BGT.THR_CNT 1
    let b := if b.commitPend .bgt then (b.applyShadows .bgt).commitDone .bgt else b
    .next { s with b := b, pwr := { s.pwr with under := x.2 } }

/-- IVR_LIMIT (21 R429): a rail of tower `t` (0 VB, 1 VM, 2 VL, 3 VC) reaches its current limit. -/
def execIvrLimit (t : Tower) (rail : Fin 4) (s : State) : Host.Outcome State Fault Refusal :=
  let b := s.b.setPl (some t.val) (fun _ => 7)
  let b := ((b.logErr (.pwr t) { kind := 1, det := rail.val }).addFld (.pwr t) PWR.LIMIT_CNT 1).event (.pwr t) 10
  .next { s with b := updateLevels b s.pwr.pwrFail }

/-! ### The thermal model (21 R432 to R437) -/

/-- State of sensor `i`: 0 OK, 1 SUSPECT, 2 FAILED. -/
def Base.sState (b : Base) (t i : Nat) : Nat := b.fld (.thm (tw t)) (THM.SENSOR_STATE.nth i)
/-- Reading of sensor `i`, in 0.25 °C. -/
def Base.sRead (b : Base) (t i : Nat) : Int := toS 11 (b.fld (.thm (tw t)) (THM.SENSOR_READ.nth i))
/-- T_inf of sensor `i`. -/
def Base.sInf (b : Base) (t i : Nat) : Int := toS 11 (b.fld (.thm (tw t)) (THM.SENSOR_INF.nth i))

/-- The sensors of the configuration-die or base-die layer of sensor `i`. -/
def layerOf (i : Nat) : List Nat := if i < 432 then (List.range 16).map (416 + ·) else (List.range 16).map (432 + ·)

/-- The highest of a list of temperatures, -60 °C when the list is empty. -/
def maxInt (l : List Int) : Int := l.foldl (fun a x => if a < x then x else a) (-240)

/-- Effective temperature of sensor `i` (21 R434). -/
def Base.tEff (b : Base) (t i : Nat) : Int :=
  if b.sState t i = 0 then b.sRead t i
  else if i < 416 then b.sInf t i
  else if b.sState t i = 2 then maxInt (((layerOf i).filter (· != i)).map (b.sRead t))
  else b.sRead t i

/-- The logic domain above and below marsh `m` (21 R433). -/
def sensorK (m : Nat) : Nat := 4 * (m / 32 / 3) + m % 32 / 8

/-- T_inf of a marsh or pond sensor from the effective values of the previous sample (21 R433), in 0.25 °C rounded
down; the reading itself for the other layers (R440). -/
def infer (b : Base) (t i : Nat) : Int :=
  let eff := b.tEff t
  if i < 384 then
    let u : Int := ((b.fld (.thm (tw t)) THM.MODEL_RTH_L * b.fld (.pwr (tw t)) (PWR.LPWR_UNITS.nth (sensorK i)) : Nat) : Int)
    (192 * (eff (416 + sensorK i) + eff (384 + i % 32)) + u) / 384
  else if i < 416 then
    let p := i - 384
    let u : Int := ((b.fld (.thm (tw t)) THM.MODEL_RTH_M * b.fld (.pwr (tw t)) (PWR.PPWR_UNITS.nth p) : Nat) : Int)
    let up := maxInt ((List.range 12).map (fun r => eff (32 * r + p)))
    let dn := maxInt (((List.range 16).filter (fun k => k % 4 == p / 8)).map (fun k => eff (432 + k)))
    (8 * (up + dn) + u) / 16
  else b.sRead t i

/-- T_inf as the 11 bits of INF; outside their range the spec states no value. -/
def inf11 (b : Base) (n : Nat) (x : Int) : Nat :=
  if -1024 ≤ x ∧ x ≤ 1023 then ofS 11 x else (Config.freeBits 11 (b.free + n)).toNat

/-- Counts of a sensor. -/
def Power.cntOf (p : Power) (t i : Nat) : SensorCnt := SMap.get (fun _ => ⟨0, 0, 0⟩) p.cnt (448 * t + i)
/-- Change the counts of a sensor. -/
def Power.setCnt (p : Power) (t i : Nat) (c : SensorCnt) : Power :=
  { p with cnt := SMap.set (fun _ => ⟨0, 0, 0⟩) p.cnt (448 * t + i) c }

/-- Record a sensor's state change in the log, the croak log and the events (21 R432, R435, R440; 22 R457). -/
def sensorReport (b : Base) (t i kind code ev : Nat) : Base :=
  let pg : Page := .thm (tw t)
  let rd := b.fld pg (THM.SENSOR_READ.nth i)
  let b := (b.logErr pg { kind := kind, syn := rd, det := i }).event pg ev
  b.anoleCroak code (psrc pg) 1 (t * 65536 + i) (rd * 65536 + b.fld pg (THM.SENSOR_INF.nth i))
    (b.fld pg THM.SUSPECT_MARGIN_MARGIN)

/-- A sensor becomes FAILED (21 R432). -/
def sensorFail (b : Base) (t i : Nat) : Base :=
  sensorReport (b.setFld (.thm (tw t)) (THM.SENSOR_STATE.nth i) 2) t i 2 0x211 10

/-- Judge a reading against T_inf (21 R435): OK to SUSPECT, SUSPECT to OK. -/
def sensorJudge (b : Base) (p : Power) (t i : Nat) (rd inf : Int) : Base × Power :=
  let pg : Page := .thm (tw t)
  let m : Int := (b.fld pg THM.SUSPECT_MARGIN_MARGIN : Nat)
  let c := p.cntOf t i
  if i ≥ 416 then (b, p)
  else if b.sState t i = 0 then
    if m < inf - rd then
      if 4 ≤ c.susp + 1 then
        (sensorReport (b.setFld pg (THM.SENSOR_STATE.nth i) 1) t i 1 0x210 8, p.setCnt t i { c with susp := 0, agree := 0 })
      else (b, p.setCnt t i { c with susp := c.susp + 1 })
    else (b, p.setCnt t i { c with susp := 0 })
  else if b.sState t i = 1 then
    if inf - rd ≤ m ∧ rd - inf ≤ m then
      if Nat.max 1 (1000 * b.fld pg THM.RETRUST_S_S) ≤ c.agree + 1 then
        ((b.setFld pg (THM.SENSOR_STATE.nth i) 0).event pg 9, p.setCnt t i { c with susp := 0, agree := 0 })
      else (b, p.setCnt t i { c with agree := c.agree + 1 })
    else (b, p.setCnt t i { c with agree := 0 })
  else (b, p)

/-- One sensor's sample: its new reading (missing, or a value), its T_inf, its failure and its judgement. -/
def sensorOne (t : Nat) (old : Base) (rd : Option Int) (x : Base × Power) (i : Nat) : Base × Power :=
  let pg : Page := .thm (tw t)
  let b := x.1
  let p := x.2
  let c := p.cntOf t i
  let b := match rd with | some v => b.setFld pg (THM.SENSOR_READ.nth i) (ofS 11 v) | none => b
  let inf := if i < 416 then infer old t i else b.sRead t i
  let b := b.setFld pg (THM.SENSOR_INF.nth i) (inf11 old (448 * t + i) inf)
  match rd with
  | none =>
    if b.sState t i = 2 then (b, p)
    else if 4 ≤ c.missing + 1 then (sensorFail b t i, p.setCnt t i { c with missing := 0 })
    else (b, p.setCnt t i { c with missing := c.missing + 1 })
  | some v =>
    let p := p.setCnt t i { c with missing := 0 }
    if b.sState t i = 2 then (b, p)
    else if v < -240 ∨ 600 < v then (sensorFail b t i, p)
    else sensorJudge b p t i v (b.sInf t i)

/-- The conversion of sensor `i` in a sample: what the report says, else the same reading again. -/
def conversion (b : Base) (rd : List SensorRead) (t i : Nat) : Option Int :=
  match rd.find? (fun r => r.tower.val == t && r.sensor.val == i) with
  | some r => r.value.map (fun v => v.toInt)
  | none => some (b.sRead t i)

/-- T_hot and the lowest sensor that holds it (21 R436). -/
def hottest (b : Base) (t : Nat) : Int × Nat :=
  (List.range 448).foldl (fun a i => if a.1 < b.tEff t i then (b.tEff t i, i) else a) (b.tEff t 0, 0)

/-- The thermal level a tower is due (21 R436). -/
def dueTl (b : Base) (t : Nat) : Nat :=
  let pg : Page := .thm (tw t)
  let x := b.tHot t - (4 * b.fld pg THM.LIMITS_THROTTLE_C : Nat)
  if x < 0 then 0
  else if b.fld pg THM.LIMITS_STEP_C = 0 then 7
  else Nat.min 7 (1 + x.toNat / (4 * b.fld pg THM.LIMITS_STEP_C))

/-- TL moves: up at once, down by 1 per 10 samples; THROTTLE when it rises from 0 (21 R436). -/
def moveTl (b : Base) (p : Power) (t : Nat) : Base × Power :=
  let due := dueTl b t
  let cur := b.tl t
  let n := SMap.get (fun _ => 10) p.sinceFall t
  let put (k : Nat) : Power := { p with sinceFall := SMap.set (fun _ => 10) p.sinceFall t (Nat.min 10 k) }
  if cur < due then
    ((b.setFld .bgt (lvlFld 0x88 t) due).eventIf (cur == 0) (.thm (tw t)) 11, put (n + 1))
  else if due < cur ∧ 10 ≤ n then (b.setFld .bgt (lvlFld 0x88 t) (cur - 1), put 1)
  else (b, put (n + 1))

/-- One tower's part of a sample. -/
def sampleTower (rd : List SensorRead) (x : Base × Power) (t : Nat) : Base × Power :=
  let pg : Page := .thm (tw t)
  let y := (List.range 448).foldl (fun a i => sensorOne t x.1 (conversion x.1 rd t i) a i) x
  let b := y.1
  let h := hottest b t
  let b := (b.setFld pg THM.HOT_T (ofS 11 h.1)).setFld pg THM.HOT_SENSOR h.2
  let b := (b.setFld pg THM.SCOUNT_FAILED ((List.range 448).countP (fun i => b.sState t i == 2))).setFld pg
    THM.SCOUNT_SUSPECT ((List.range 448).countP (fun i => b.sState t i == 1))
  moveTl b y.2 t

/-- Set the power registers of a tower from its regulators' report (21 R425, R439). -/
def setPower (b : Base) (r : PowerRep) : Base :=
  let pg : Page := .pwr r.tower
  let b := b.setFld pg PWR.PIN_UNITS r.pin.toNat
  let b := (b.setFld pg PWR.PLAYER0_BASE r.base.toNat).setFld pg PWR.PLAYER0_MEM r.mem.toNat
  let b := (b.setFld pg PWR.PLAYER1_LOGIC r.logic.toNat).setFld pg PWR.PLAYER1_CFG r.conf.toNat
  let b := (List.range 16).foldl (fun b d => b.setFld pg (PWR.LPWR_UNITS.nth d) 0) b
  let b := (List.range 32).foldl (fun b d => b.setFld pg (PWR.PPWR_UNITS.nth d) 0) b
  let b := r.domains.foldl (fun b e => b.setFld pg (PWR.LPWR_UNITS.nth e.1) e.2.toNat) b
  r.ponds.foldl (fun b e => b.setFld pg (PWR.PPWR_UNITS.nth e.1) e.2.toNat) b

/-- Count the samples a tower stays at or above the trip point (21 R437). -/
def countTrip (b : Base) (p : Power) (t : Nat) : Power :=
  { p with tripMs := SMap.set (fun _ => 0) p.tripMs t (if b.atTrip t then SMap.get (fun _ => 0) p.tripMs t + 1 else 0) }

/-- Towers that reach the trip point at this sample. -/
def tripping (b : Base) (p : Power) : List Nat := towers.filter (fun t => b.atTrip t && SMap.get (fun _ => 0) p.tripMs t == 0)

/-- THERMAL_TRIP (21 R437): TRIP in each tower that reaches the trip point, one NME for the lowest of them. -/
def thermalTrip (b : Base) (ts : List Nat) : Base :=
  let entry (b : Base) (t : Nat) : ErrInfo :=
    { kind := 3, det := b.fld (.thm (tw t)) THM.HOT_SENSOR, syn := b.fld (.thm (tw t)) THM.HOT_T }
  let b := ts.foldl (fun b t => (b.logErr (.thm (tw t)) (entry b t)).event (.thm (tw t)) 12) b
  match ts with
  | [] => b
  | t :: _ => b.raiseNme 2 (psrc (.thm (tw t))) false 0

/-- SENSOR_SAMPLE (21 R432 to R437): one millisecond's sample, with the regulators' reports `pw` and the conversions
`rd`. A sensor that `rd` does not name converts to the same value again. -/
def execSensorSample (pw : List PowerRep) (rd : List SensorRead) (s : State) : Host.Outcome State Fault Refusal :=
  let b := pw.foldl setPower s.b
  let x := towers.foldl (sampleTower rd) (b, s.pwr)
  let b := { x.1 with free := x.1.free + 1792 }
  let ts := tripping b x.2
  let b := thermalTrip b ts
  let p := towers.foldl (countTrip b) x.2
  .next { s with b := updateLevels b p.pwrFail, pwr := { p with trips := p.trips + b2n (!ts.isEmpty) } }

/-- THERMAL_SHUTDOWN (21 R437): a tower has stayed at or above TRIP_C for TRIP_HOLD.MS. The clocks are gated, the rails
turned off and the log frozen; nothing but POR ends it. -/
def execThermalShutdown (s : State) : Host.Outcome State Fault Refusal :=
  match towers.find? (fun t => decide (s.b.fld (.thm (tw t)) THM.TRIP_HOLD_MS < SMap.get (fun _ => 0) s.pwr.tripMs t)) with
  | none => .next s
  | some t =>
    if s.b.dead then .next s
    else
      let b := s.b.croak 0x220 (psrc (.thm (tw t))) 3 2 t (s.b.fld (.thm (tw t)) THM.HOT_T) 0
      let b := towers.foldl (fun b t => b.setBit (.clk (tw t)) CLK.GATED_TRIP true) b
      .next { s with b := { b with dead := true } }

/-- PWR_FAIL (21 R438): PWR_FAIL_N has been low for 2 AON cycles. -/
def execPwrFail (s : State) : Host.Outcome State Fault Refusal :=
  if s.pwr.pwrFail then .next s
  else
    let b := (s.b.raiseNme 1 534 false 0).croak 0x221 534 3 2 0 0 0
    let b := (List.range 16).foldl (fun b c =>
      if b.fld (gdPage c) GD.RATE_CUR = 0 then b else gdEnterSref b c) (updateLevels b true)
    .next { s with b := b, pwr := { s.pwr with pwrFail := true } }

/-- PWR_FAIL_RECOVER (21 R438): the pin has been high for 10 ms. -/
def execPwrFailRecover (s : State) : Host.Outcome State Fault Refusal :=
  if s.pwr.pwrFail then .next { s with b := updateLevels s.b false, pwr := { s.pwr with pwrFail := false } }
  else .next s

/-- The rules of a THM GO (21 R440). -/
def thmCommitOk (b : Base) (t : Nat) : Bool :=
  decide (b.shFld (.thm (tw t)) THM.LIMITS_THROTTLE_C < b.shFld (.thm (tw t)) THM.LIMITS_TRIP_C) &&
  decide (b.shFld (.thm (tw t)) THM.LIMITS_TRIP_C ≤ 115)

/-- The rule of a BGT GO (21 R441). -/
def bgtCommitOk (b : Base) : Bool := decide (b.shFld .bgt BGT.BUDGET_UNITS ≤ 2400)

/-- TL of every tower recomputed at WARM and at a BLOCK reset of THM (21 R442). -/
def recomputeTl (b : Base) (ts : List Nat) : Base := ts.foldl (fun b t => b.setFld .bgt (lvlFld 0x88 t) (dueTl b t)) b

end Sys2Proof.Machine
end

