-- ==== Sys2Proof/Machine/Clocks.lean ====
section
/-! DEFINITION. Clocks: ramps of the global fabric clocks, their gates, the clock monitor, holdover and SAFE state
(20). -/
namespace Sys2Proof.Machine

/-! ### Global fabric clocks (20 R408 to R412, 21 R430) -/

/-- The effective target of global clock `n` of tower `t` under factor F (21 R430). -/
def effTarget (b : Base) (t n : Nat) : Nat :=
  let d := b.fld (.clk (tw t)) (CLK.GCLK_CFG_DIV.nth n)
  if nbit (b.fld .bgt (BGT.FMASK.nth t)) n then Nat.min 4095 (d * b.factorF) else d

/-- The target a divider moves to. -/
def Clk.target (k : Clk) (t n : Nat) : Nat := SMap.get (fun _ => 6) k.tgt (32 * t + n)

/-- RAMPST of tower `t`, with RAMP_DONE when its last ramp ends; a ramp wakes the page (20 R410, R422, R423). -/
def updateRampst (b : Base) (k : Clk) (t : Nat) : Base :=
  let st := (List.range 32).foldl (fun a n => if b.gclkDiv t n = k.target t n then a else nset a n) 0
  let old := b.fld (.clk (tw t)) CLK.RAMPST
  let b := if st = 0 then b else b.rouse (.clk (tw t))
  (b.setFld (.clk (tw t)) CLK.RAMPST st).eventIf (old != 0 && st == 0) (.clk (tw t)) 8

/-- Take every clock's effective target (20 R411, 21 R430). -/
def takeTargets (b : Base) (k : Clk) : Clk :=
  { k with tgt := (List.range 128).foldl (fun m i => SMap.set (fun _ => 6) m i (effTarget b (i / 32) (i % 32))) k.tgt }

/-- A CLK page's commit at a tick, unless it waits for CKR.RAMP.GO (20 R411). -/
def clkTickCommit (b : Base) (t : Nat) : Base :=
  let pg : Page := .clk (tw t)
  if b.commitPend pg ∧ b.parts pg = 1 then ((b.applyShadows pg).setParts pg 0).commitDone pg else b

/-- RAMP_TICK (20 R411, 21 R430): pending CLK commits take effect, F takes effect, ramps start. -/
def execRampTick (s : State) : Host.Outcome State Fault Refusal :=
  if s.b.gated then .next s
  else
    let b := towers.foldl clkTickCommit s.b
    let k := takeTargets b s.clk
    .next { s with b := towers.foldl (fun b t => updateRampst b k t) b, clk := k }

/-- One step of a ramp from divider `d` toward `D` (20 R410). -/
def rampNext (d D : Nat) : Nat :=
  let k := Nat.max 1 (d / 16)
  if D < d then Nat.max D (d - k) else Nat.min D (d + k)

/-- RAMP_STEP (20 R410): global clock `n` of tower `t` takes one step toward its target. -/
def execRampStep (t : Tower) (n : Fin 32) (s : State) : Host.Outcome State Fault Refusal :=
  if s.b.gated ∨ s.b.gclkDiv t n = s.clk.target t n then .next s
  else
    let b := s.b.setFld (.clk t) (CLK.GCLK_CUR_DIV.nth n) (rampNext (s.b.gclkDiv t n) (s.clk.target t n))
    .next { s with b := updateRampst b s.clk t }

/-- A write of CKR.RAMP.GO (20 R411): every waiting CLK commit is due at the next tick. -/
def rampGo (b : Base) : Base :=
  towers.foldl (fun b t => if b.commitPend (.clk (tw t)) then b.setParts (.clk (tw t)) 1 else b) b

/-- The gate of a clock before its next edge. -/
def Clk.gateOf (k : Clk) (t n : Nat) : Bool := SMap.get (fun _ => false) k.gate (32 * t + n)
/-- Does the next edge of global clock `n` reach the fabric (20 R408)? Setting EN passes the cycle that starts at the
edge; clearing it still passes that cycle. -/
def edgePasses (b : Base) (k : Clk) (t n : Nat) : Bool := b.gclkEn t n || k.gateOf t n
/-- The gate after an edge of the clock. -/
def Clk.edge (k : Clk) (b : Base) (t n : Nat) : Clk :=
  { k with gate := SMap.set (fun _ => false) k.gate (32 * t + n) (b.gclkEn t n) }

/-- The rule of a CLK GO (20 R409). -/
def clkCommitOk (b : Base) (t : Nat) : Bool :=
  (List.range 32).all (fun n => decide (6 ≤ b.shFld (.clk (tw t)) (CLK.GCLK_CFG_DIV.nth n)))

/-- A CLK GO waits for RAMP.GO when SYNC.WAIT = 1, else for the next tick (20 R411). -/
def clkCommitParts (b : Base) (t : Nat) : Nat := if b.bit (.clk (tw t)) CLK.SYNC_WAIT then 2 else 1

/-! ### The clock monitor (20 R415 to R420) -/

/-- Set or clear GATED.TRIP in every CLK page. -/
def setGated (b : Base) (x : Bool) : Base := towers.foldl (fun b t => b.setBit (.clk (tw t)) CLK.GATED_TRIP x) b

/-- Deliver the NMEs queued while the clocks were gated, with the gap in microseconds (20 R418, 22 R457). -/
def deliverQueued (b : Base) (gap : Nat) : Base :=
  b.nmeQueued.foldl (fun b c => b.raiseNme c 535 false gap) { b with nmeQueued := [] }

/-- A trip of either detector (20 R416 to R418). -/
def clockTrip (b : Base) (k : Clk) : Base × Clk :=
  let b := (b.event .ckr 8).addFld .ckr CKR.TRIPS 1
  let b := b.setBit .ckr CKR.STAT_REF_GOOD false
  let k := { k with finePass := false }
  if b.fld .ckr CKR.STAT_REF = 2 ∨ b.fld .ckr CKR.STAT_REF = 3 then
    ({ b with nmeQueued := if b.nmeQueued.contains 0 then b.nmeQueued else b.nmeQueued ++ [0] }, k)
  else if b.bit .ckr CKR.STAT_FIO_QUAL then
    let b := if b.fld .ckr CKR.STAT_REF = 1 then b else (b.setFld .ckr CKR.STAT_REF 1).event .ckr 9
    (b.raiseNme 0 535 false 0, k)
  else
    let b := setGated (b.setFld .ckr CKR.STAT_REF 2) true
    let b := (b.setBit .ckr CKR.STAT_FIO_RUN true).setBit .ckr CKR.STAT_LOCK false
    ({ b with nmeQueued := b.nmeQueued ++ [0] }, { k with tripAt := b.aonUs })

/-- COARSE_TRIP (20 R416): REFCLK shows too few edges. -/
def execCoarseTrip (s : State) : Host.Outcome State Fault Refusal :=
  let x := clockTrip s.b s.clk
  .next { s with b := x.1, clk := x.2 }

/-- The size of a signed 32-bit deviation. -/
def devSize (w : Word) : Nat := w.toInt.natAbs

/-- FINE_MEASUREMENT (20 R416, R420): a measurement of REFCLK against FIO ends with deviation `dev` in ppm. -/
def execFineMeasurement (dev : Word) (s : State) : Host.Outcome State Fault Refusal :=
  if s.b.bit .ckr CKR.CTRL_FINE && s.b.bit .ckr CKR.STAT_FIO_QUAL then
    let b := s.b.setFld .ckr CKR.MEAS dev.toNat
    let ppm := b.fld .ckr CKR.MON_PPM
    if ppm ≠ 0 ∧ ppm < devSize dev then
      let x := clockTrip b s.clk
      .next { s with b := x.1, clk := x.2 }
    else .next { s with b := b, clk := { s.clk with finePass := true } }
  else .next s

/-- The gated clocks resume under reference `ref`: pages no longer gated, controllers check their gap (16 R334), queued
NMEs and pending messages go out (20 R418, R419). -/
def clocksResume (b : Base) (g : Gdr) (k : Clk) (ref : Nat) : Base × Gdr :=
  let gap := b.aonUs - k.tripAt
  let b := setGated ((b.setFld .ckr CKR.STAT_REF ref).setBit .ckr CKR.STAT_LOCK true) false
  let x := gdResume b g gap
  ((deliverQueued x.1 gap).msixFlush, x.2)

/-- FIO_QUALIFIED (20 R415, R418): FIO counts within 2 % of 100 MHz. In STARTING the root locks to it and the clocks
resume. -/
def execFioQualified (s : State) : Host.Outcome State Fault Refusal :=
  if s.b.bit .ckr CKR.STAT_FIO_RUN then
    let b := s.b.setBit .ckr CKR.STAT_FIO_QUAL true
    if b.fld .ckr CKR.STAT_REF = 2 ∧ ¬ b.dead then
      let x := clocksResume b s.gdr s.clk 1
      .next { s with b := x.1, gdr := x.2 }
    else .next { s with b := b }
  else .next s

/-- FIO_FAIL (20 R418, R419): FIO has not qualified 1 ms after the trip. -/
def execFioFail (s : State) : Host.Outcome State Fault Refusal :=
  if s.b.fld .ckr CKR.STAT_REF = 2 ∧ s.clk.tripAt + 1000 ≤ s.b.aonUs then
    let b := (s.b.setFld .ckr CKR.STAT_REF 3).setEvt .ckr (evt 13 ||| evt 10)
    .next { s with b := deliverQueued b (b.aonUs - s.clk.tripAt) }
  else .next s

/-- FIO stops when FINE = 0 and the root does not run from it (20 R415). -/
def fioIdle (b : Base) : Base :=
  if b.bit .ckr CKR.CTRL_FINE || b.fld .ckr CKR.STAT_REF != 0 then b
  else (b.setBit .ckr CKR.STAT_FIO_RUN false).setBit .ckr CKR.STAT_FIO_QUAL false

/-- SAFE_EXIT (20 R419): REFCLK has stayed good for 10 ms. -/
def execSafeExit (s : State) : Host.Outcome State Fault Refusal :=
  if s.b.fld .ckr CKR.STAT_REF = 3 ∧ ¬ s.b.dead then
    let x := clocksResume (s.b.setBit .ckr CKR.STAT_REF_GOOD true) s.gdr s.clk 0
    .next { s with b := fioIdle x.1, gdr := x.2 }
  else .next s

/-- The root's reference switches back to REFCLK (20 R420). -/
def returnRef (b : Base) : Base := fioIdle ((b.setFld .ckr CKR.STAT_REF 0).event .ckr 12)

/-- REF_OK (20 R420): the coarse detector has seen no fault for RET_MS; with FINE = 1 a fine measurement has passed. -/
def execRefOk (s : State) : Host.Outcome State Fault Refusal :=
  if s.b.fld .ckr CKR.STAT_REF = 1 ∧ ¬ s.b.bit .ckr CKR.STAT_REF_GOOD ∧
      (s.b.bit .ckr CKR.CTRL_FINE = true → s.clk.finePass = true) then
    let b := (s.b.setBit .ckr CKR.STAT_REF_GOOD true).event .ckr 11
    .next { s with b := if b.bit .ckr CKR.CTRL_AUTO_RET then returnRef b else b }
  else .next s

/-- A write of CKR.CMD.RETURN (20 R420): ignored before REF_OK. -/
def ckrReturn (b : Base) : Base :=
  if b.fld .ckr CKR.STAT_REF = 1 ∧ b.bit .ckr CKR.STAT_REF_GOOD then returnRef b else b

/-- A write of CKR.CTRL has set or cleared FINE (20 R415). -/
def ckrCtrlChanged (b : Base) : Base :=
  if b.bit .ckr CKR.CTRL_FINE then b.setBit .ckr CKR.STAT_FIO_RUN true else fioIdle b

end Sys2Proof.Machine
end

