-- ==== Sys2Proof/Machine/Operands.lean ====
section
/-! DEFINITION. The operand forms of a gecko bundle: scalar, vector, accumulator, predicate and address-generator
operands with their poison tags, and the addresses an X or Y slot forms (11 R231, R232; 12 R253 to R257; 13 R265,
R266, R274). -/
namespace Sys2Proof.Machine

/-- A gecko as every reset of its registers leaves it (11 R243). -/
def Gecko.init : Gecko :=
  ⟨[], 0, [], [], [], [], [], [], [], [], 0, [], 0, false, [], none, false, [], [], 0, false⟩
/-- Gecko `g`. -/
def Geckos.at (x : Geckos) (g : Nat) : Gecko := SMap.get (fun _ => Gecko.init) x.g g
/-- Store gecko `g`. -/
def Geckos.put (x : Geckos) (g : Nat) (k : Gecko) : Geckos := { x with g := SMap.set (fun _ => Gecko.init) x.g g k }

/-! ### Registers (11 R231) -/

/-- Scalar register `i`; S0 reads 0. -/
def Gecko.sreg (k : Gecko) (i : Nat) : Word := if i = 0 then 0 else SMap.get (fun _ => 0) k.s i
/-- The tag of scalar register `i`. -/
def Gecko.sTag (k : Gecko) (i : Nat) : Bool := i != 0 && k.sP.getLsbD i
/-- One bit of a tag word. -/
def setTag {w : Nat} (m : BitVec w) (i : Nat) (p : Bool) : BitVec w :=
  if p then m ||| (1#w <<< i) else m &&& ~~~ (1#w <<< i)
/-- Write scalar register `i` with its tag; a write of S0 is discarded (12 R250). -/
def Gecko.setS (k : Gecko) (i : Nat) (v : Word) (p : Bool) : Gecko :=
  if i = 0 then k else { k with s := SMap.set (fun _ => 0) k.s i v, sP := setTag k.sP i p }

/-- Vector register `i`. -/
def Gecko.vreg (k : Gecko) (i : Nat) : BitVec 1024 := SMap.get (fun _ => 0) k.v i
/-- Its lane tags (13 R266). -/
def Gecko.vTag (k : Gecko) (i : Nat) : BitVec 64 := SMap.get (fun _ => 0) k.vP i
/-- Write vector register `i` and its tags. -/
def Gecko.setV (k : Gecko) (i : Nat) (v : BitVec 1024) (p : BitVec 64) : Gecko :=
  { k with v := SMap.set (fun _ => 0) k.v i v, vP := SMap.set (fun _ => 0) k.vP i p }

/-- Accumulator `i`. -/
def Gecko.acc (k : Gecko) (i : Nat) : BitVec 2560 := SMap.get (fun _ => 0) k.ac i
/-- Its lane tags. -/
def Gecko.aTag (k : Gecko) (i : Nat) : BitVec 64 := SMap.get (fun _ => 0) k.acP i
/-- Its sticky overflow bits. -/
def Gecko.ov (k : Gecko) (i : Nat) : BitVec 64 := SMap.get (fun _ => 0) k.acov i
/-- Write accumulator `i` and its tags. -/
def Gecko.setAcc (k : Gecko) (i : Nat) (v : BitVec 2560) (p : BitVec 64) : Gecko :=
  { k with ac := SMap.set (fun _ => 0) k.ac i v, acP := SMap.set (fun _ => 0) k.acP i p }
/-- Write ACOV`i`. -/
def Gecko.setOv (k : Gecko) (i : Nat) (v : BitVec 64) : Gecko := { k with acov := SMap.set (fun _ => 0) k.acov i v }

/-- Predicate register `i`; P0 reads all ones. -/
def Gecko.preg (k : Gecko) (i : Nat) : BitVec 64 := if i = 0 then BitVec.allOnes 64 else SMap.get (fun _ => 0) k.p i
/-- Write predicate register `i`; a write of P0 is discarded. -/
def Gecko.setP (k : Gecko) (i : Nat) (v : BitVec 64) : Gecko :=
  if i = 0 then k else { k with p := SMap.set (fun _ => 0) k.p i v }

/-- The number of an address-generator field. -/
def agNum : AgField → Nat
  | .ab => 0 | .al => 1 | .ap => 2 | .am => 3
/-- The live value of field `f` of generator `n` (12 R253). -/
def Gecko.agv (k : Gecko) (n : Nat) (f : AgField) : Word := SMap.get (fun _ => 0) k.ag (4 * n + agNum f)
/-- Its shadow. -/
def Gecko.agShadow (k : Gecko) (n : Nat) (f : AgField) : Word := SMap.get (fun _ => 0) k.agSh (4 * n + agNum f)
/-- Write the live value. -/
def Gecko.setAg (k : Gecko) (n : Nat) (f : AgField) (v : Word) : Gecko :=
  { k with ag := SMap.set (fun _ => 0) k.ag (4 * n + agNum f) v }
/-- Write the shadow. -/
def Gecko.setAgSh (k : Gecko) (n : Nat) (f : AgField) (v : Word) : Gecko :=
  { k with agSh := SMap.set (fun _ => 0) k.agSh (4 * n + agNum f) v }

/-- A post-modify of APn: the live copy, and the shadow unless mvag has written it since the last commit (13 R276). -/
def Gecko.postModify (k : Gecko) (n : Nat) (v : Word) : Gecko :=
  let k := k.setAg n .ap v
  if k.agMark.getLsbD n then k else k.setAgSh n .ap v

/-- mvag (12 R253, 13 R276): the shadow only; a write of AP leaves its mark. -/
def Gecko.mvag (k : Gecko) (n : Nat) (f : AgField) (v : Word) : Gecko :=
  let k := k.setAgSh n f v
  if f = .ap then { k with agMark := setTag k.agMark n true } else k

/-- A debug-window write sets both copies and clears the mark (13 R276). -/
def Gecko.dbgAg (k : Gecko) (n : Nat) (f : AgField) (v : Word) : Gecko :=
  let k := (k.setAg n f v).setAgSh n f v
  if f = .ap then { k with agMark := setTag k.agMark n false } else k

/-- Commit generator `n`: the four live fields take their shadows (12 R253). -/
def Gecko.agCommit (k : Gecko) (n : Nat) : Gecko :=
  let k := [AgField.ab, .al, .ap, .am].foldl (fun k f => k.setAg n f (k.agShadow n f)) k
  { k with agMark := setTag k.agMark n false }

/-- agc (12 R253). -/
def Gecko.agc (k : Gecko) (mask : BitVec 8) : Gecko :=
  (List.range 8).foldl (fun k n => if mask.getLsbD n then k.agCommit n else k) k

/-! ### Loop registers -/

/-- LC (0), LS (1) or LE (2) of loop level `l`. -/
def Gecko.loopv (k : Gecko) (w l : Nat) : Word := SMap.get (fun _ => 0) k.loops (4 * w + l)
/-- Write a loop register. -/
def Gecko.setLoop (k : Gecko) (w l : Nat) (v : Word) : Gecko :=
  { k with loops := SMap.set (fun _ => 0) k.loops (4 * w + l) v }

/-! ### Addresses (12 R257, 13 R274, R275) -/

/-- The fold: the pointer moved by `m` (13 R274). -/
def agFold (ab al ap : Word) (m : Int) : Word :=
  if al = 0 then BitVec.ofInt 32 ((ap.toNat : Int) + m)
  else BitVec.ofInt 32 ((ab.toNat : Int) + ((ap.toNat : Int) - (ab.toNat : Int) + m) % (al.toNat : Int))

/-- The access size of an opcode (12 R256). -/
def opUnit : MemOp → Nat
  | .ldv | .stv => 128
  | .lds | .sts => 4
  | .ldbh => 2
  | .ldbb => 1
  | .pref => 64

/-- The address a slot forms (12 R257). -/
def Gecko.address (k : Gecko) (op : MemOp) : AddrForm → Word
  | .ag n _ _ => k.agv n .ap
  | .sreg sa imm => BitVec.ofInt 32 (((k.sreg sa).toNat : Int) + imm.toInt * opUnit op)

/-- The pointer a slot leaves in its generator, when it post-modifies (12 R257). -/
def Gecko.stepPtr (k : Gecko) (op : MemOp) : AddrForm → Option (Nat × Word)
  | .ag n mode imm =>
    if mode.val = 1 then some (n.val, agFold (k.agv n .ab) (k.agv n .al) (k.agv n .ap) (k.agv n .am).toInt)
    else if mode.val = 2 then some (n.val, agFold (k.agv n .ab) (k.agv n .al) (k.agv n .ap) (imm.toInt * opUnit op))
    else none
  | .sreg _ _ => none

/-- Does the register an address is formed from carry a tag (12 R257; AG registers carry none, 13 R273)? -/
def Gecko.addrTag (k : Gecko) : AddrForm → Bool
  | .ag _ _ _ => false
  | .sreg sa _ => k.sTag sa

/-- The generator whose circular window an access lies outside of (13 R275). -/
def Gecko.outWin (k : Gecko) : AddrForm → Option Nat
  | .ag n _ _ =>
    let d := ((k.agv n .ap).toNat : Int) - (k.agv n .ab).toNat
    if k.agv n .al = 0 then none
    else if 0 ≤ d ∧ d < (k.agv n .al).toNat then none else some n.val
  | .sreg _ _ => none

end Sys2Proof.Machine
end

