-- ==== Sys2Proof/Machine/GeckoMem.lean ====
section
/-! DEFINITION. Gecko memories: their 32-byte words under the per-byte code and the poison pattern, and requests to a
gecko's DPA region (11 R226, R227, R237). -/
namespace Sys2Proof.Machine

/-- The GKC page's RUN (11 R235). -/
def Base.gkRun (b : Base) (g : Nat) : Nat := b.fld (gkPage g) GKC.STAT_RUN
/-- RUN values (11 R235). -/
def rSTOPPED : Nat := 0
def rRUNNING : Nat := 1
def rPAUSED : Nat := 2
def rWAITING : Nat := 3
def rHALTED : Nat := 4
def rEXCEPTION : Nat := 5
/-- STOPPED, HALTED or EXCEPTION: the states in which the host may write program, PC and registers (11 R235). -/
def Base.gkIdle (b : Base) (g : Nat) : Bool := b.gkRun g == rSTOPPED || b.gkRun g == rHALTED || b.gkRun g == rEXCEPTION
/-- The bound context (11 R236). -/
def Base.gkCtx (b : Base) (g : Nat) : Nat := b.fld (gkPage g) GKC.BIND_CTX

/-- The first word of instruction, X and Y memory. -/
def imWord0 : Nat := 0
def xmWord0 : Nat := 4096
def ymWord0 : Nat := 8192

/-- Word `w` of gecko `g`. -/
def Geckos.word (x : Geckos) (g w : Nat) : BitVec 416 := SMap.get (fun _ => 0) x.mem (g * 16384 + w)
/-- Store word `w` of gecko `g`. -/
def Geckos.setWord (x : Geckos) (g w : Nat) (r : BitVec 416) : Geckos :=
  { x with mem := SMap.set (fun _ => 0) x.mem (g * 16384 + w) r }

/-- Log what decoding a gecko-memory word finds (11 R227): KIND 0x1 corrected, 0x2 uncorrectable. -/
def gmLog (b : Base) (g : Nat) (r : BitVec 416) (addr : Nat) (ctx src : Option Nat) : Base :=
  if rowPoisoned r then b
  else (List.range 32).foldl (fun b i =>
    padLog b (gkPage g) (padDec (rowCode r i)).2 (addr + i) ctx src (padSynReg (rowCode r i) i 0)) b

/-- Read a word: data, poison, and the errors logged. -/
def gmRead (b : Base) (x : Geckos) (g w addr : Nat) (ctx src : Option Nat) : Base × BitVec 256 × Bool :=
  (gmLog b g (x.word g w) addr ctx src, rowDecode (x.word g w))

/-- Write a word from outside (R191's rules); the flag says it ends with a poisoned-data error. -/
def Geckos.write (x : Geckos) (g w : Nat) (d : BitVec 256) (be : BitVec 32) (p : Bool) : Geckos × Bool :=
  let y := rowStore (x.word g w) d be p
  (x.setWord g w y.1, y.2)

/-- A gecko's own store (11 R232, 13 R273): a tagged store writes its bytes and marks the word poisoned, whole or
not (DEDUCED: R191's refusal of a partial poisoned write is the pads'); an untagged one follows R191. -/
def Geckos.store (x : Geckos) (g w : Nat) (d : BitVec 256) (be : BitVec 32) (p : Bool) : Geckos :=
  if p && be != 0 then x.setWord g w (rowSetCode (rowMerge (x.word g w) d be) 0 poisonCode)
  else x.setWord g w (rowStore (x.word g w) d be false).1

/-- The word that offset `o` of a gecko's DPA region lies in (01 R17). -/
def gkWordOf (o : Nat) : Nat :=
  if o < 0x10000 then o / 32
  else if o < 0x40000 then xmWord0 + (o - 0x20000) / 32
  else ymWord0 + (o - 0x40000) / 32

/-- One word of a block as a read delivers it: decoded only where the request's bytes lie in it (11 R227). -/
def gkReadHalf (b : Base) (x : Geckos) (g w : Nat) (r : HopReq) (h : Nat) : Base × BitVec 256 × Bool :=
  let lo := r.addr.toNat % 64
  if 32 * h < lo + r.bytes.val ∧ lo < 32 * h + 32 then
    gmRead b x g (w + h) (r.addr.toNat / 64 * 64 + 32 * h) (reqLogCtx r) (some r.src.val)
  else (b, 0, false)

/-- What a gecko answers a request with that it does not admit, decided once, when it arrives (11 R237, 05 R108). -/
def gkFence (b : Base) (r : HopReq) : Base × Option HopRsp :=
  let g := (r.addr.toNat - 0x30000000000) / 0x80000 % 128
  if !b.enabled (gkPage g) || b.upperDown (g / 32) then (b, some (rspStatus stDISABLED))
  else if !r.priv && r.ctx.val != b.gkCtx g then
    (b.logErr (gkPage g) { kind := 3, addr := r.addr.toNat, ctx := some r.ctx.val, src := some r.src.val }, some (rspStatus stFENCE))
  else (b, none)

/-- An admitted request to a gecko's memories (11 R237). -/
def gkReqServe (b : Base) (x : Geckos) (r : HopReq) (write : Bool) : Base × Geckos × HopRsp :=
  let g := (r.addr.toNat - 0x30000000000) / 0x80000 % 128
  let o := (r.addr.toNat - 0x30000000000) % 0x80000
  let w := gkWordOf (o / 64 * 64)
  if b.upperDown (g / 32) then (b, x, rspStatus stDISABLED)
  else if write then
    if o < 0x10000 && !b.gkIdle g then
      (b.logErr (gkPage g) { kind := 4, addr := r.addr.toNat, ctx := reqLogCtx r, src := some r.src.val }, x, rspStatus stDISABLED)
    else
      let be := reqEnables r
      let y0 := x.write g w (half r.data 0) (halfBe be 0) r.poisonL
      let y1 := y0.1.write g (w + 1) (half r.data 1) (halfBe be 1) r.poisonH
      (b, y1.1, rspStatus (if y0.2 || y1.2 then stPOISONED else stOK))
  else
    let y0 := gkReadHalf b x g w r 0
    let y1 := gkReadHalf y0.1 x g w r 1
    (y1.1, x, rspData (maskRead (joinHalves y0.2.1 y1.2.1) r.addr.toNat r.bytes.val) y0.2.2 y1.2.2)

/-- A request to a gecko's memories; one `admitted` before is not checked again. -/
def gkRequest (b : Base) (x : Geckos) (r : HopReq) (write admitted : Bool) : Base × Geckos × HopRsp :=
  if admitted then gkReqServe b x r write
  else match gkFence b r with
    | (b, some a) => (b, x, a)
    | (b, none) => gkReqServe b x r write

/-! ### Line caches (11 R240, 14 R296) -/

/-- The line of gecko `k` at line address `l`. -/
def Gecko.line (k : Gecko) (l : Nat) : Option CLine := SMap.get (fun _ => none) k.cache l
/-- Set or drop a line. -/
def Gecko.setLine (k : Gecko) (l : Nat) (c : Option CLine) : Gecko :=
  { k with cache := SMap.set (fun _ => none) k.cache l c }
/-- The state in which a gecko holds line `l` (1 Shared, 2 Exclusive, 3 Modified): in its cache, or granted by an answer that is on
its way to it. -/
def Gecko.holds (k : Gecko) (l : Nat) : Option Nat :=
  let f := k.fills.findSome? fun f => if f.line = l then f.ans.bind fun a => if a.1.isData then some a.2 else none else none
  match k.line l, f with
  | some c, some st => some (max c.st st)
  | some c, none => some c.st
  | none, x => x
/-- A snoop of line `l` reaches gecko `k` (14 R296): its copy is dropped or becomes Shared. An answer that is on its way loses its
grant with it: invalidated, the line is asked for again (log entry 99). -/
def Gecko.snooped (k : Gecko) (l : Nat) (inv : Bool) : Gecko :=
  { k.setLine l (if inv then none else (k.line l).map fun c => { c with st := 1 }) with
    fills := k.fills.map fun f => if f.line = l then { f with ans := if inv then none else f.ans.map fun a => (a.1, 1) } else f }
/-- The geckos that hold line `l`: the home's inclusive directory (14 R296). -/
def Geckos.holders (x : Geckos) (l : Nat) : List Nat :=
  (x.g.filter (fun e => (e.2.holds l).isSome)).map Prod.fst
/-- The gecko that holds line `l` Modified. -/
def Geckos.modifiedBy (x : Geckos) (l : Nat) : Option (Nat × CLine) :=
  x.g.findSome? fun e => match e.2.line l with
    | some c => if c.st = 3 then some (e.1, c) else none
    | none => none
/-- Change gecko `g`. -/
def Geckos.upd (x : Geckos) (g : Nat) (f : Gecko → Gecko) : Geckos := x.put g (f (x.at g))

end Sys2Proof.Machine
end

