-- ==== Sys2Proof/Machine/Mem.lean ====
section
/-! DEFINITION. Memory as an engine of the device reaches it: GDDR6 or pads, by DPA (01 R17, R18). -/
namespace Sys2Proof.Machine

/-- The regions of the DPA map (01 R17). -/
inductive DpaRegion
  | gddr
  | pads (t : Nat)
  | doorbell (q : Nat)
  | gecko (g off : Nat)
  | efmel (n : Nat)
  | reserved
  deriving DecidableEq, Repr

/-- The region of a DPA. -/
def dpaRegion (a : Nat) : DpaRegion :=
  if a < 0x2000000000 then .gddr
  else if 0x10000000000 ≤ a ∧ a < 0x10040000000 then .pads ((a - 0x10000000000) / 0x10000000)
  else if 0x20000000000 ≤ a ∧ a < 0x20000400000 then .doorbell ((a - 0x20000000000) / 64)
  else if 0x30000000000 ≤ a ∧ a < 0x30004000000 then
    let o := (a - 0x30000000000) % 0x80000
    if o < 0x10000 ∨ (0x20000 ≤ o ∧ o < 0x60000) then .gecko ((a - 0x30000000000) / 0x80000) o else .reserved
  else if 0x100000000000 ≤ a ∧ a < 0x180000000000 then .efmel ((a - 0x100000000000) / 0x10000000000)
  else .reserved

/-- The DPA of a queue's doorbell (10 R211). -/
def doorbellDpa (q : Nat) : Nat := 0x20000000000 + 64 * q

/-- Wake whatever sleeps behind a GDDR6 or pad address (01 R19): a controller out of self-refresh unless a power failure
holds it there (21 R438), a pad group. -/
def memWake (b : Base) (pwrFail wide : Bool) (a : Nat) : Base :=
  match dpaRegion a with
  | .gddr => if pwrFail then b else gdWake b (gdMap wide a).1
  | .pads _ => wakeGroup b (padOfDpa a / 32) (padOfDpa a % 32)
  | _ => b

/-- What GDDR6 or a pad answers a request with that it does not admit (05 R108). -/
def memFence (b : Base) (wide : Bool) (r : HopReq) : Base × Option HopRsp :=
  match dpaRegion r.addr.toNat with
  | .gddr => gdFence b r wide
  | .pads _ => portBFence b r
  | _ => (b, some (rspStatus stUNSUPPORTED))

/-- An admitted request to GDDR6 or a pad; none while the target cannot answer. -/
def memServe (b : Base) (x : Ponds) (g : Gdr) (wide : Bool) (r : HopReq) (write : Bool) : Option (Base × Ponds × Gdr × HopRsp) :=
  match dpaRegion r.addr.toNat with
  | .gddr =>
    let y := gdServe b g r write wide
    y.2.2.map (fun a => (y.1, x, y.2.1, a))
  | .pads _ => (portBServe b x r write).map fun y => (y.1, y.2.1, g, y.2.2)
  | _ => some (b, x, g, rspStatus stUNSUPPORTED)

/-- A request of an engine: initiator `src`, privilege, context, address, bytes and byte enables from `be`. -/
def engineReq (src : Nat) (priv : Bool) (ctx a : Nat) (bytes : Nat) (be : BitVec 64) (bex : Bool) (d : BitVec 512)
    (pl ph : Bool) : HopReq :=
  ⟨⟨src % 1024, Nat.mod_lt _ (by decide)⟩, priv, ⟨ctx % 8, Nat.mod_lt _ (by decide)⟩, 0, 0, BitVec.ofNat 48 a,
   ⟨bytes % 65, Nat.mod_lt _ (by decide)⟩, bex, be, d, pl, ph⟩

/-- The arbiter of its target serves an admitted request (09 R186, 16 R335). -/
def State.arbAtTarget (s : State) (t : Nat) (r : HopReq) : State :=
  match dpaRegion r.addr.toNat with
  | .gddr => s.arbServe (.gd ⟨(gdMap (s.b.gmode t) r.addr.toNat).1 % 16, Nat.mod_lt _ (by decide)⟩) (gdRequester r)
  | .pads _ => s.arbServe (.pond ⟨padOfDpa r.addr.toNat / 32 % 128, Nat.mod_lt _ (by decide)⟩) (ctxRequester r)
  | _ => s

/-- An admitted request is served by memory, with the mapping of tower `t`, whatever any line cache holds. -/
def State.serveMem (s : State) (t : Nat) (r : HopReq) (write : Bool) : Option (State × HopRsp) :=
  (memServe (memWake s.b s.pwr.pwrFail (s.b.gmode t) r.addr.toNat) s.ponds s.gdr (s.b.gmode t) r write).map
    (fun y => (({ s with b := y.1, ponds := y.2.1, gdr := y.2.2.1 } : State).arbAtTarget t r, y.2.2.2))

/-- A request to memory, with the mapping of tower `t`, whatever any line cache holds: refused by its fence, or served. -/
def State.rawAccess (s : State) (t : Nat) (r : HopReq) (write : Bool) : Option (State × HopRsp) :=
  match memFence s.b (s.b.gmode t) r with
  | (b, some a) => some ({ s with b := b }, a)
  | (b, none) => ({ s with b := b } : State).serveMem t r write

/-- The write-back of line `l` by gecko `g` (14 R296, 11 R240). -/
def wbReq (b : Base) (g l : Nat) (d : BitVec 512) (poison : Bool) : HopReq :=
  engineReq (256 + g) false (b.gkCtx g) (64 * l) 64 (BitVec.allOnes 64) false d poison poison

/-- Log a write-back error that no bundle waits on (11 R234, R242). -/
def wbError (b : Base) (g l : Nat) : Base :=
  b.logErr (gkPage g) { kind := 5, addr := 64 * l, ctx := some (b.gkCtx g), src := some (256 + g) }

/-- Write line `l` of gecko `g` back to its home: the new state, and whether it was answered with an error other than
poison; none while the home cannot answer. -/
def State.writeBack (s : State) (g l : Nat) (d : BitVec 512) (poison : Bool) : Option (State × Bool) :=
  (s.rawAccess (g / 32) (wbReq s.b g l d poison) true).map fun y =>
    (y.1, y.2.status != stOK && y.2.status != stPOISONED)

/-- Bring memory up to date with a Modified line, logging a failed write-back. -/
def State.flushLine (s : State) (l : Nat) : Option State :=
  match s.gko.modifiedBy l with
  | none => some s
  | some (g, c) => (s.writeBack g l c.data c.poison).map fun y => if y.2 then { y.1 with b := wbError y.1.b g l } else y.1

/-- What a request to line `l` leaves in the caches: a write invalidates every copy, a read leaves them Shared
(14 R296). -/
def Geckos.snooped (x : Geckos) (l : Nat) (write : Bool) : Geckos :=
  (x.holders l).foldl (fun x g => x.upd g fun k => k.snooped l write) x

/-- Does a DPA name GDDR6? -/
def isGddr (a : Nat) : Bool := dpaRegion a == .gddr

/-- Does the home of a GDDR6 line admit a request, so that it snoops for it (14 R296, 17 R340)? -/
def Base.homeAdmits (b : Base) (wide : Bool) (r : HopReq) : Bool :=
  let x := gdMap wide r.addr.toNat
  !b.gdRefuses x.1 && (match encAdmit b x.1 x.2 r false with | .ok _ => true | .refuse _ _ _ _ => false)

/-! ### Statistics (14 R302) -/

/-- The tower at whose stop an initiator injects (14 R280, R281): of the two Anoles, the active one's (22 R460). -/
def Base.srcTower (b : Base) (src : Nat) : Nat :=
  if src < 256 then src / 64
  else if src < 384 then (src - 256) / 32
  else if src < 388 then src - 384
  else if 768 ≤ src ∧ src < 776 then (src - 768) / 2
  else if src = 1008 then 2 * b.fld .ano ANO.STAT_ACTIVE
  else if 1010 ≤ src ∧ src < 1014 then src - 1010
  else if 1014 ≤ src ∧ src < 1018 then src - 1014
  else 0

/-- The ring level of an initiator's stop (14 R280, R281). -/
def srcLevel (src : Nat) : Nat := if src < 256 then 0 else if src < 384 then 1 else 2

/-- The live epoch of a level. -/
def Base.epoch (b : Base) (t l : Nat) : Bool := nbit (b.fld (.hop (tw t)) HOP.EPOCH_E) l

/-- One live counter: 0 bytes, 1 requests, 2 refusals, 3 MAXLAT, 4 to 19 the bins. -/
def Hop.stat (h : Hop) (t src i : Nat) : Nat := SMap.get (fun _ => 0) h.hst (32 * (1024 * t + src) + i)
/-- Set a live counter. -/
def Hop.setStat (h : Hop) (t src i v : Nat) : Hop :=
  { h with hst := SMap.set (fun _ => 0) h.hst (32 * (1024 * t + src) + i) v }

/-- The histogram bin of a latency in ring cycles. -/
def latBin (l : Nat) : Nat := if l < 2 then 0 else if 2 ^ 15 ≤ l then 15 else Nat.log2 l

/-- The words of a record from its live counters, each saturating. -/
def Hop.recWord (h : Hop) (t src o : Nat) : Word :=
  w32 (if o = 0 then h.stat t src 0 % 2 ^ 32
    else if o = 4 then h.stat t src 0 / 2 ^ 32
    else if o = 8 then min (h.stat t src 1) 0xFFFFFFFF
    else if o = 0xC then min (h.stat t src 2) 0xFFFFFFFF
    else if o = 0x10 then min (h.stat t src 3) 0xFFFFFFFF
    else min (h.stat t src (4 + (o - 0x40) / 4)) 0xFFFFFFFF)

/-- The offsets of a record's words. -/
def recOffsets : List Nat := [0, 4, 8, 0xC, 0x10] ++ (List.range 16).map (0x40 + 4 * ·)

/-- Copy the live counters of an initiator into its record. -/
def copyRecord (b : Base) (h : Hop) (t src : Nat) : Base :=
  recOffsets.foldl (fun b o => b.setWord (pbase (.hst (tw t)) + 0x1000 + 0x80 * src + o) (h.recWord t src o)) b

/-- Count one request of `src` (14 R302): bytes, one request, a refusal. With WINDOW.US = 0 the records show the live
counters. -/
def hstCount (b : Base) (h : Hop) (src bytes : Nat) (refused : Bool) : Base × Hop :=
  let t := b.srcTower src
  let h := (h.setStat t src 0 ((h.stat t src 0 + bytes) % 2 ^ 64)).setStat t src 1 (h.stat t src 1 + 1)
  let h := if refused then h.setStat t src 2 (h.stat t src 2 + 1) else h
  (if b.fld (.hst (tw t)) HST.WINDOW_US = 0 then copyRecord b h t src else b, h)

/-- Count the latency of one request. -/
def hstLat (b : Base) (h : Hop) (src l : Nat) : Base × Hop :=
  let t := b.srcTower src
  let h := (h.setStat t src 3 (max (h.stat t src 3) l)).setStat t src (4 + latBin l) (h.stat t src (4 + latBin l) + 1)
  (if b.fld (.hst (tw t)) HST.WINDOW_US = 0 then copyRecord b h t src else b, h)

/-- Does a status count as a refusal in the statistics: UNSUPPORTED or FENCE (14 R302)? -/
def isRefusal (a : HopRsp) : Bool := !a.isData && (a.status == stUNSUPPORTED || a.status == stFENCE)

/-- The latency and, where refused, the refusal of an engine's request; the spec's latency of such a request depends on
traffic the model does not hold, so L is a free value. -/
def State.countAnswer (s : State) (r : HopReq) (a : HopRsp) : State :=
  let t := s.b.srcTower r.src
  let y := hstLat s.b s.hop r.src (Config.freeBits 16 s.b.free).toNat
  let h := if isRefusal a then y.2.setStat t r.src 2 (y.2.stat t r.src 2 + 1) else y.2
  let b := if isRefusal a && y.1.fld (.hst (tw t)) HST.WINDOW_US == 0 then copyRecord y.1 h t r.src else y.1
  { s with b := b.bump, hop := h }

/-- Count a request that an engine made and saw answered in one step. -/
def State.countEngine (s : State) (r : HopReq) (a : HopRsp) : State :=
  let x := hstCount s.b s.hop r.src r.bytes false
  State.countAnswer { s with b := x.1, hop := x.2 } r a

/-! ### Stops and the levels between them (14 R279, R280, R306) -/

/-- A stop address from tower, level and index. -/
def stopAddr (t l i : Nat) : Nat := 256 * t + 64 * l + i

/-- The target stop of a DPA (14 R280, 01 R17); `wide` is GMODE under the map the flit's epoch names (16 R320). -/
def targetStop (wide : Bool) (a : Nat) : Option Nat :=
  match dpaRegion a with
  | .gddr => let c := (gdMap wide a).1; some (stopAddr (c / 4) 2 (c % 4))
  | .pads _ => let p := padOfDpa a / 32; some (stopAddr (p / 32) 1 (32 + p % 32))
  | .doorbell q => some (stopAddr (q / 16384) 2 4)
  | .gecko g _ => some (stopAddr (g / 32) 1 (g % 32))
  | .efmel n => some (stopAddr (n / 2) 2 (11 + n % 2))
  | .reserved => none

/-- The levels left in a tower on the way from level `a` to level `b`, each with the level it goes to. -/
def levelSteps (a b : Nat) : List (Nat × Nat) :=
  if a ≤ b then (List.range (b - a)).map fun i => (a + i, a + i + 1)
  else (List.range (a - b)).map fun i => (a - i, a - i - 1)

/-- The next tower in the T0, T1, T3, T2 direction (14 R279). -/
def nextTower (t : Nat) : Nat := if t = 0 then 1 else if t = 1 then 3 else if t = 3 then 2 else 0

/-- The tower whose base ring a flit between diagonal towers crosses (14 R279). -/
def viaTower (a b : Nat) : Option Nat := if a ≠ b ∧ (a + b = 3) then some (nextTower a) else none

/-- The levels a request visits: (tower, level). -/
def pathLevels (t l t' l' : Nat) : List (Nat × Nat) :=
  let leg (t a b : Nat) : List (Nat × Nat) := (levelSteps a b).map (fun x => (t, x.1)) ++ [(t, b)]
  if t = t' then leg t l l'
  else leg t l 2 ++ (match viaTower t t' with | some v => [(v, 2)] | none => []) ++ leg t' 2 l'

/-- How a ring level rests: 0 awake, 1 asleep, 2 waking. -/
def Hop.levelState (h : Hop) (t l : Nat) : Nat := SMap.get (fun _ => 0) h.levels (3 * t + l)
/-- Set it. -/
def Hop.setLevel (h : Hop) (t l v : Nat) : Hop := { h with levels := SMap.set (fun _ => 0) h.levels (3 * t + l) v }

/-- The ring levels between two stops wake for an engine's request. -/
def State.wakeLevels (s : State) (t l t' l' : Nat) : State :=
  (pathLevels t l t' l').foldl (fun s x => if s.hop.levelState x.1 x.2 = 0 then s else { s with hop := s.hop.setLevel x.1 x.2 0 }) s

/-- The ring levels on a request's way wake. -/
def State.wakeWay (s : State) (r : HopReq) : State :=
  match targetStop (s.b.gmode (s.b.srcTower r.src)) r.addr.toNat with
  | some st => s.wakeLevels (s.b.srcTower r.src) (srcLevel r.src) (st / 256) (st / 64 % 4)
  | none => s

/-- Write line `l` of gecko `g` back by a WB, counted as its request. -/
def State.writeBackReq (s : State) (g l : Nat) (d : BitVec 512) (poison : Bool) : Option (State × Bool) :=
  let r := wbReq s.b g l d poison
  ((s.wakeWay r).rawAccess (g / 32) r true).map fun y =>
    (y.1.countEngine r y.2, y.2.status != stOK && y.2.status != stPOISONED)

/-! ### Tags (05 R107) -/

/-- Is a request tagged as its initiator's are (05 R107): privileged for PF0, Anole, the loader, the molt engines and scrubbers;
the function's context for PF1 to PF8 and their VFs, the bound context for a gecko and an Efmel port; any context for a
fabric hop port, whose tag is set when the request leaves it, and for a queue engine? IDs that R281 leaves unused have no
requests. -/
def Base.tagOk (b : Base) (src : Nat) (priv : Bool) (ctx : Nat) : Bool :=
  if src < 256 then !priv
  else if src < 384 then !priv && ctx == b.gkCtx (src - 256)
  else if src < 388 then !priv
  else if 512 ≤ src ∧ src < 768 then !priv && ctx == (src - 512) / 32
  else if 768 ≤ src ∧ src < 776 then !priv && ctx == b.fld (.efl ⟨(src - 768) % 8, Nat.mod_lt _ (by decide)⟩) EFL.BIND_CTX
  else if 777 ≤ src ∧ src < 785 then !priv && ctx == src - 777
  else priv && (src == 776 || (decide (1008 ≤ src) && decide (src < 1018)))

/-! ### Requests of engines (14 R286, R296; 05 R108) -/

/-- What memory's fence answers a request with, and the state after that. -/
def State.fenced (s : State) (t : Nat) (r : HopReq) : State × Option HopRsp :=
  let y := memFence s.b (s.b.gmode t) r
  ({ s with b := y.1 }, y.2)

/-- An admitted request to GDDR6 or pads, coherent with every line cache (14 R296); none while the target cannot answer. -/
def State.coherentServe (s : State) (t : Nat) (r : HopReq) (write : Bool) : Option (State × HopRsp) :=
  let l := r.addr.toNat / 64
  let s1 := if isGddr r.addr.toNat then
      (s.flushLine l).map (fun s => { s with gko := s.gko.snooped l write }) else some s
  match s1 with
  | none => none
  | some s1 => s1.serveMem t r write

/-- A request to GDDR6 or pads: refused by its fence, unless it was `admitted` before, or served. -/
def State.coherent (s : State) (t : Nat) (r : HopReq) (write admitted : Bool) : Option (State × HopRsp) :=
  if admitted then s.coherentServe t r write
  else match s.fenced t r with
    | (s, some a) => some (s, a)
    | (s, none) => s.coherentServe t r write

/-- Put a request in its controller's queue. -/
def State.holdReq (s : State) (r : HopReq) (write : Bool) : State :=
  let c := (gdMap (s.b.gmode (s.b.srcTower r.src)) r.addr.toNat).1
  { s with b := s.b.setBit (encPage c) ENC.STAT_HELD true, gdr := s.gdr.hold c ⟨write, r⟩ }

/-- The key of a tag. -/
def tagKey (src tag : Nat) : Nat := 4096 * src + tag

/-- What is outstanding under a tag. -/
def Hop.tagOf (h : Hop) (src tag : Nat) : Option HopTag := SMap.get (fun _ => none) h.tags (tagKey src tag)
/-- Set or end a tag. -/
def Hop.setTag (h : Hop) (src tag : Nat) (x : Option HopTag) : Hop :=
  { h with tags := SMap.set (fun _ => none) h.tags (tagKey src tag) x }
/-- The tag under which an engine's request waits already, and what it keeps there. -/
def State.waitTag (s : State) (r : HopReq) (write : Bool) : Option (Nat × HopTag) :=
  s.hop.tags.findSome? fun e => match e.2 with
    | some x => if x.engine ∧ x.write = write ∧ { x.req with tag := 0 } = { r with tag := 0 } then some (e.1, x) else none
    | none => none

/-- The lowest tag of an initiator that is not outstanding. -/
def Hop.newTag (h : Hop) (src : Nat) : Fin 4096 :=
  ⟨((List.range 4096).find? fun k => (SMap.get (fun _ => none) h.tags (tagKey src k)).isNone).getD 0 % 4096, Nat.mod_lt _ (by decide)⟩

/-- An engine's request has been answered: a tag that it waited under is free again, and it is counted (14 R302). -/
def State.engineDone (s : State) (r : HopReq) (write : Bool) (a : HopRsp) : State :=
  match s.waitTag r write with
  | some (k, _) => State.countAnswer { s with hop := { s.hop with tags := SMap.set (fun _ => none) s.hop.tags k none } } r a
  | none => s.countEngine r a

/-- Did an engine's request time out while it waited (14 R286)? -/
def State.timedOut (s : State) (r : HopReq) (write : Bool) : Bool :=
  match s.waitTag r write with | some (_, x) => x.expired | none => false

/-- Was it admitted at its target already (05 R108)? -/
def State.wasAdmitted (s : State) (r : HopReq) (write : Bool) : Bool := (s.waitTag r write).isSome

/-- Inject a request (14 R282, R286, R292, R302): its tag is outstanding, it is stamped with the live epoch of its initiator's
level, and its bytes and the request are counted. -/
def State.injectAs (s : State) (r : HopReq) (write arrived engine : Bool) : State :=
  let e := s.b.epoch (s.b.srcTower r.src) (srcLevel r.src)
  let y := hstCount s.b { (s.hop.setTag r.src r.tag (some ⟨write, r, s.b.aonUs, arrived, false, s.hop.next, e, engine, false⟩)) with
    next := s.hop.next + 1 } r.src r.bytes false
  { s with b := y.1, hop := y.2 }

/-- Inject a request of a hop-network initiator. -/
def State.inject (s : State) (r : HopReq) (write arrived : Bool) : State := s.injectAs r write arrived false

/-- An engine's request waits for its target, under a free tag, and is timed from its first attempt (14 R286). -/
def State.await (s : State) (e : HopReq × Bool) : State :=
  if (s.waitTag e.1 e.2).isSome then s
  else s.injectAs { e.1 with tag := s.hop.newTag e.1.src } e.2 true true

/-- An access of one of the device's engines; the request itself while the target cannot answer. -/
def State.access (s : State) (t : Nat) (r : HopReq) (write : Bool) : Except (HopReq × Bool) (State × HopRsp) :=
  let s := s.wakeWay r
  if s.timedOut r write then .ok (s.engineDone r write (rspStatus stTIMEOUT), rspStatus stTIMEOUT)
  else match s.coherent t r write (s.wasAdmitted r write) with
    | none => .error (r, write)
    | some y => .ok (y.1.engineDone r write y.2, y.2)

end Sys2Proof.Machine
end

