-- ==== Sys2Proof/Machine/Queues.lean ====
section
/-! DEFINITION. Spawn queues: pointers, doorbell operations, caches and body accesses, changes of bounds
(10 R204 to R224). -/
namespace Sys2Proof.Machine

/-- A queue at POR: disabled and empty (10 R223). -/
def Queue.init : Queue :=
  ⟨0, 0, 0, 0, 0, 0, 0, 0, false, false, false, 0, 0, 0, false, 0, 0, false, [], [], false, []⟩
/-- Queue number `q`. -/
def queueAt (m : SMap Queue) (q : Nat) : Queue := SMap.get (fun _ => Queue.init) m q
/-- Store queue number `q`. -/
def queuePut (m : SMap Queue) (q : Nat) (x : Queue) : SMap Queue := SMap.set (fun _ => Queue.init) m q x

/-- The QUE page of the tower of queue `q`. -/
def quePage (q : Nat) : Page := .que (tw (q / 16384))

/-- Items that can be popped (10 R206). -/
def Queue.avail (x : Queue) : Nat := x.writeD - x.readD
/-- Slots that can be filled (10 R206). -/
def Queue.freeSlots (x : Queue) : Nat := x.len - x.writeD
/-- DPA of the slot at distance `d` (10 R206). -/
def Queue.dpa (x : Queue) (d : Nat) : Nat := x.base + 8 * ((x.rel + d) % x.len)

/-- An absent cache entry. -/
def QItem.none : QItem := ⟨0, false, false, false⟩
/-- The cached item of a slot. -/
def Queue.cached (x : Queue) (a : Nat) : Option QItem := (x.cache.find? (fun e => e.1 == a)).map Prod.snd
/-- Cache an item. -/
def Queue.put (x : Queue) (a : Nat) (i : QItem) : Queue := { x with cache := SMap.ins x.cache a i }
/-- Drop an item from the caches. -/
def Queue.drop (x : Queue) (a : Nat) : Queue := { x with cache := SMap.del x.cache a }
/-- Items held in the caches: at most 16 (10 R215). -/
def Queue.held (x : Queue) : Nat := x.cache.length
/-- The slots still to be written to the body. -/
def Queue.dirtySlots (x : Queue) : List Nat := (x.cache.filter (fun e => e.2.dirty)).map Prod.fst

/-- The status word (10 R213). -/
def Queue.status (x : Queue) : BitVec 64 :=
  BitVec.ofNat 64 (x.avail + b2n (x.avail == 0) <<< 28 + b2n (x.freeSlots == 0) <<< 29 + b2n x.underrun <<< 30 +
    b2n (x.len == 0) <<< 31 + x.freeSlots <<< 32 + b2n x.relclamp <<< 60 + b2n x.fault <<< 61 + b2n x.pend <<< 62)

/-- Raise the level event when AVAIL rises to LEVEL (10 R210). -/
def levelEvent (b : Base) (q : Nat) (old new level : Nat) : Base :=
  if level ≠ 0 ∧ old < level ∧ level ≤ new then
    let i := q % 16384
    let a := pbase (quePage q) + 0x800 + 4 * (i / 32)
    (b.setWord a (b.word a ||| evt (i % 32))).event (quePage q) 8
  else b

/-- Add the items of a PUSH to the tail cache at distances from WRITE_D (10 R207, R215, R216). -/
def pushItems : Queue → List (BitVec 64) → Bool → Queue
  | x, [], _ => x
  | x, v :: l, p =>
    let a := x.dpa x.writeD
    let x := { x.put a ⟨v, p, x.pflip, true⟩ with pflip := false, bad := SMap.set (fun _ => false) x.bad a false }
    pushItems { x with writeD := x.writeD + 1 } l p

/-- Head-cache items that a PUSH may displace: those fetched, not to be written. -/
def Queue.trim (x : Queue) (k : Nat) : Queue :=
  if x.held + k ≤ 16 then x else { x with cache := x.cache.filter (fun e => e.2.dirty) }

/-- A PUSH that finds room in the tail cache (10 R207). -/
def doPush (b : Base) (q : Nat) (x : Queue) (items : List (BitVec 64)) (p : Bool) : Base × Queue × HopRsp :=
  let pg := quePage q
  let k := items.length
  if k = 0 then (b, x, rspStatus stOK)
  else if x.fault then (b, x, rspStatus stDISABLED)
  else if x.freeSlots < k then (b.addFld pg QUE.QFULL_CNT 1, x, rspStatus stQFULL)
  else
    let y := pushItems (x.trim k) items p
    (levelEvent (b.addFld pg QUE.PUSH_CNT k) q x.avail y.avail x.level, y, rspStatus stOK)

/-- Log a cache parity failure (10 R216). -/
def parityLog (b : Base) (q : Nat) (x : Queue) (a : Nat) : Base :=
  b.logErr (quePage q) { kind := 1, uc := true, poison := true, addr := a, ctx := some x.ctx, det := q }

/-- POP of a cached item (10 R207, R209, R216). -/
def popItem (b : Base) (q : Nat) (x : Queue) (a : Nat) (i : QItem) : Base × Queue :=
  let p := i.poison || i.flip || SMap.get (fun _ => false) x.bad a
  let b := (if i.flip then parityLog b q x a else b).addFld (quePage q) QUE.POP_CNT 1
  let y := if i.dirty then x else x.drop a
  (b, { y with last := i.val, lastP := p, readD := x.readD + 1 })

/-- POP with nothing to return: the last value, UNDERRUN (10 R209). -/
def underrun (b : Base) (q : Nat) (x : Queue) : Base × Queue :=
  ((b.event (quePage q) 9).addFld (quePage q) QUE.UNDER_CNT 1, { x with underrun := true })

/-- POP (10 R207, R215, R218): none when it must wait for a body read. -/
def doPop (b : Base) (q : Nat) (x : Queue) : Option (Base × Queue) :=
  if x.avail = 0 then some (underrun b q x)
  else
    let a := x.dpa x.readD
    match x.cached a with
    | some i => if x.fault && i.dirty then some (underrun b q x) else some (popItem b q x a i)
    | none => if x.fault then some (underrun b q x) else none

/-- MARK (10 R207). -/
def Queue.doMark (x : Queue) : Queue := if x.len = 0 then x else { x with markD := x.readD }

/-- REWIND (10 R207, R210). -/
def doRewind (b : Base) (q : Nat) (x : Queue) : Base × Queue :=
  if x.len = 0 then (b, x)
  else
    let y := { x with readD := x.markD }
    (levelEvent b q x.avail y.avail x.level, y)

/-- Drop the cached items of the `m` oldest slots. -/
def dropOldest (x : Queue) (m : Nat) : Queue := (List.range m).foldl (fun y d => y.drop (x.dpa d)) x

/-- RELEASE (10 R207). -/
def doRelease (b : Base) (q : Nat) (x : Queue) (n : Nat) : Base × Queue :=
  if x.len = 0 ∨ n = 0 then (b, x)
  else
    let m := Nat.min n x.readD
    let tooMany := decide (x.readD < n)
    let gone := x.cache.map Prod.fst |>.filter (fun a => decide ((((a - x.base) / 8 + x.len - x.rel) % x.len) < m))
    let y := gone.foldl Queue.drop x
    (b.eventIf tooMany (quePage q) 10,
     { y with rel := (x.rel + m) % x.len, markD := x.markD - m, readD := x.readD - m, writeD := x.writeD - m,
              relclamp := x.relclamp || tooMany })

/-- CLEAR (10 R207). -/
def Queue.doClear (x : Queue) : Queue := { x with underrun := false, relclamp := false }

/-- FLUSH (10 R221). -/
def Queue.doFlush (x : Queue) : Queue :=
  { x with rel := if x.len = 0 then 0 else (x.rel + x.writeD) % x.len, markD := 0, readD := 0, writeD := 0,
           cache := [], bad := [], underrun := false, relclamp := false, fault := false }

/-- Does a PUSH of `k` items wait for the tail cache to make room (10 R215)? -/
def Queue.noRoom (x : Queue) (k : Nat) : Bool := decide (16 < x.dirtySlots.length + k)

/-- The data of an 8-byte answer at doorbell offset `o`. -/
def qData (o : Nat) (v : BitVec 64) (p : Bool) : HopRsp :=
  let d : BitVec 512 := v.setWidth 512 <<< (8 * o)
  rspData d false p

/-- The data of a POP_ST answer. -/
def qData2 (v st : BitVec 64) (p : Bool) : HopRsp :=
  rspData (v.setWidth 512 <<< 256 ||| st.setWidth 512 <<< 320) false p

/-- One operation (10 R207): none when it must wait for a body access. -/
def qOp (b : Base) (q : Nat) (x : Queue) : QOp → Option (Base × Queue × HopRsp)
  | .push items p => if x.noRoom items.length && !x.fault && decide (items.length ≤ x.freeSlots) then none
      else some (doPush b q x items p)
  | .pop => (doPop b q x).map (fun y => (y.1, y.2, qData 0x20 y.2.last y.2.lastP))
  | .popSt => (doPop b q x).map (fun y => (y.1, y.2, qData2 y.2.last y.2.status y.2.lastP))
  | .status => some (b, x, qData 0x28 x.status false)
  | .mark => some (b, x.doMark, rspStatus stOK)
  | .rewind => let y := doRewind b q x; some (y.1, y.2, rspStatus stOK)
  | .release n => let y := doRelease b q x n; some (y.1, y.2, rspStatus stOK)
  | .clear => some (b, x.doClear, rspStatus stOK)
  | .flush => some (b, x.doFlush, rspStatus stOK)
  | .evPush t w => if x.noRoom 1 && !x.fault && decide (1 ≤ x.freeSlots) then none
      else
        let y := doPush b q x [w] false
        some (y.1.eventIf (y.2.2.status != stOK) (.chm (tw t)) 13, y.2.1, y.2.2)

/-- Answer a requester. -/
def answerWho (b : Base) (w : Option Who) (a : HopRsp) : Base :=
  match w with
  | some w => b.send (.hop w.src w.tag a.status a.isData a.data a.poisonL a.poisonH)
  | none => b

/-- Run the waiting operations of a queue in order, as far as they can (10 R208). -/
def qDrain : List QWait → Base → Nat → Queue → Base × Queue
  | [], b, _, x => (b, { x with wait := [] })
  | e :: l, b, q, x =>
    match qOp b q x e.op with
    | none => (b, { x with wait := e :: l })
    | some y => qDrain l (answerWho y.1 e.who y.2.2) q y.2.1

/-- The engine reads queue `q`'s descriptor (10 R219, 02 R32). -/
def qLoaded (b : Base) (q : Nat) : Base :=
  (List.range 4).foldl (fun b i =>
    b.decUse (quePage q) (twrWin (q / 16384) + 0x40000 + 32 * (q % 16384) + 8 * i)) b

/-- The engine writes queue `q`'s descriptor, a DEC store of the QUE page (10 R219, 23 R465). -/
def qStored (b : Base) (q : Nat) : Base :=
  (List.range 4).foldl (fun b i =>
    b.decStore (quePage q) (twrWin (q / 16384) + 0x40000 + 32 * (q % 16384) + 8 * i)) b

/-- Run a queue's waiting operations. -/
def qRun (b : Base) (q : Nat) (x : Queue) : Base × Queue := qDrain x.wait (qStored (qLoaded b q) q) q x

/-- Is the engine of queue `q` asleep (10 R224)? -/
def qAsleep (b : Base) (q : Nat) : Bool := b.fld (quePage q) HDR.BLK_STAT_STATE == stAsleep

/-- An operation reaches its queue: it runs, or waits behind earlier ones, for a body access, or for the engine to wake
(10 R208, R215, R224). -/
def qArrive (b : Base) (m : SMap Queue) (q : Nat) (w : Option Who) (op : QOp) : Base × SMap Queue :=
  let x := queueAt m q
  let x := { x with wait := x.wait ++ [⟨w, op⟩] }
  if qAsleep b q then (b, queuePut m q x)
  else let y := qRun b q x; (y.1, queuePut m q y.2)

/-- A doorbell access (10 R214, R223; 02 R25): refused while the page is disabled or the function's FLR runs, refused by
the fence, else performed. -/
def qDoorbell (b : Base) (m : SMap Queue) (q : Nat) (w : Who) (op : QOp) : Base × SMap Queue :=
  let pg := quePage q
  if !b.enabled pg || (!w.priv && b.flrCtx w.ctx.val) then (answerWho b (some w) (rspStatus stDISABLED), m)
  else if !w.priv && (queueAt m q).ctx != w.ctx.val then
    let b := (b.logErr pg { kind := 3, addr := doorbellDpa q, ctx := some w.ctx.val, src := some w.src.val, det := q }).event pg 12
    (answerWho b (some w) (rspStatus stFENCE), m)
  else qArrive b m q (some w) op

/-! ### Body accesses (10 R205, R215 to R218) -/

/-- A queue's FAULT (10 R218). -/
def qFault (b : Base) (q : Nat) (x : Queue) (a : Nat) : Base × Queue :=
  ((b.logErr (quePage q) { kind := 2, addr := a, ctx := some x.ctx, det := q }).event (quePage q) 11, { x with fault := true })

/-- The block of the body whose write is due: the first that holds all eight of its items, else, when `partialOk`, the first
with an item to write (10 R215). -/
def Queue.dueBlock (x : Queue) (partialOk : Bool) : Option Nat :=
  let d := x.dirtySlots
  let blocks := d.map (· / 64)
  match blocks.find? (fun k => (List.range 8).all (fun i => d.contains (64 * k + 8 * i))) with
  | some k => some k
  | none => if partialOk then blocks.head? else none

/-- The write of block `k`: data, byte enables, poison of its halves. -/
def Queue.blockReq (x : Queue) (q k : Nat) : HopReq :=
  let es := x.cache.filter (fun e => e.2.dirty && e.1 / 64 == k)
  let d := es.foldl (fun a e => a + e.2.val.toNat <<< (8 * (e.1 % 64))) 0
  let be := es.foldl (fun a e => a + 0xFF <<< (e.1 % 64)) 0
  let bad (lo hi : Nat) : Bool := es.any (fun e => (e.2.poison || e.2.flip) && decide (lo ≤ e.1 % 64) && decide (e.1 % 64 < hi))
  engineReq (384 + q / 16384) false x.ctx (64 * k) 64 (BitVec.ofNat 64 be) true (BitVec.ofNat 512 d) (bad 0 32) (bad 32 64)

/-- The slots of block `k` that were to be written. -/
def Queue.blockSlots (x : Queue) (k : Nat) : List Nat := x.dirtySlots.filter (fun a => a / 64 == k)

/-- Log the parity failures of the words written (10 R216). -/
def blockParity (b : Base) (q : Nat) (x : Queue) (k : Nat) : Base :=
  (x.cache.filter (fun e => e.2.dirty && e.1 / 64 == k && e.2.flip)).foldl (fun b e => parityLog b q x e.1) b

/-- The write of block `k` has been answered (10 R217, R218). After WCOLL its items stay to be written: the engine issues the write
again (R205). -/
def blockDone (b : Base) (q : Nat) (x : Queue) (k : Nat) (a : HopRsp) : Base × Queue :=
  let ss := x.blockSlots k
  if a.status = stOK then (b, ss.foldl Queue.drop x)
  else if a.status = stWCOLL then (b, x)
  else if a.status = stPOISONED then
    (b, { ss.foldl Queue.drop x with bad := ss.foldl (fun m a => SMap.set (fun _ => false) m a true) x.bad })
  else qFault b q x (64 * k)

/-- Write block `k` of queue `q`; the request itself while memory cannot answer. -/
def writeBlock (s : State) (q k : Nat) : Except (HopReq × Bool) State :=
  let x := queueAt s.que q
  (s.access (q / 16384) (x.blockReq q k) true).map fun y =>
    let z := blockDone (blockParity y.1.b q x k) q x k y.2
    { y.1 with b := z.1, que := queuePut y.1.que q z.2 }

/-- After a body access the waiting operations go on. -/
def qResume (s : State) (q : Nat) : State :=
  let y := qRun s.b q (queueAt s.que q)
  { s with b := y.1, que := queuePut s.que q y.2 }

/-- Must the tail cache make room: does the first waiting operation push items that find none (10 R215)? -/
def Queue.mustMakeRoom (x : Queue) : Bool :=
  match x.wait with
  | ⟨_, .push items _⟩ :: _ => x.noRoom items.length
  | ⟨_, .evPush _ _⟩ :: _ => x.noRoom 1
  | _ => false

/-- A full block of the body is written, or a partial one when the tail cache must make room (10 R215). -/
def qBodyWrite (s : State) (q : Nat) : State :=
  let x := queueAt s.que q
  if x.fault then s
  else match x.dueBlock x.mustMakeRoom with
    | none => s
    | some k => match writeBlock s q k with
      | .error e => s.await e
      | .ok s' => qResume s' q

/-- BODY_WRITE (10 R215): a full block, or a partial one when a waiting PUSH needs room. -/
def execBodyWrite (q : QueueNo) (s : State) : Host.Outcome State Fault Refusal := .next (qBodyWrite s q)

/-- Keep the items of a fetched block that can be popped next and find room (10 R215); the item that the waiting POP takes at
once needs none. -/
def fetchItems (x : Queue) (d : BitVec 512) (pl ph : Bool) : List Nat → Queue → Queue
  | [], y => y
  | dist :: l, y =>
    let a := x.dpa dist
    if a / 64 = x.dpa x.readD / 64 ∧ (y.cached a).isNone ∧ (y.held < 16 ∨ dist = x.readD) then
      let i : QItem := ⟨(d >>> (8 * (a % 64))).setWidth 64, if a % 64 < 32 then pl else ph, false, false⟩
      fetchItems x d pl ph l (y.put a i)
    else fetchItems x d pl ph l y

/-- The read of the block that holds the next item. -/
def Queue.readReq (x : Queue) (q : Nat) : HopReq :=
  engineReq (384 + q / 16384) false x.ctx (x.dpa x.readD / 64 * 64) 64 0 false 0 false false

/-- The body read for the first waiting POP returns, and the POP completes (10 R215, R218). -/
def qBodyRead (s : State) (q : Nat) : State :=
  let x := queueAt s.que q
  match x.wait with
  | [] => s
  | e :: _ =>
    if (e.op != .pop && e.op != .popSt) || x.avail == 0 || (x.cached (x.dpa x.readD)).isSome || x.fault || qAsleep s.b q then s
    else match s.access (q / 16384) (x.readReq q) false with
      | .error e => s.await e
      | .ok y =>
        let z := if y.2.isData then
            (y.1.b, fetchItems x y.2.data y.2.poisonL y.2.poisonH
              ((List.range (Nat.min 8 x.avail)).map (x.readD + ·)) (x.trim 1))
          else qFault y.1.b q x (x.dpa x.readD)
        qResume { y.1 with b := z.1, que := queuePut y.1.que q z.2 } q

/-- BODY_READ_DONE (10 R215, R218). -/
def execBodyReadDone (q : QueueNo) (s : State) : Host.Outcome State Fault Refusal := .next (qBodyRead s q)

/-- The body accesses that the first waiting operation needs. -/
def qServeWait (s : State) (q : Nat) : State :=
  match (queueAt s.que q).wait with
  | [] => s
  | e :: _ => if e.op == .pop || e.op == .popSt then qBodyRead s q else qBodyWrite s q

/-! ### Commands at a doorbell -/

/-- Run a doorbell operation that carries its initiator's tag: no request with another comes from it (05 R107). -/
def qCommand (q : QueueNo) (w : Who) (op : QOp) (s : State) : State :=
  if s.b.tagOk w.src w.priv w.ctx then
    let y := qDoorbell s.b s.que q w op
    { s with b := y.1, que := y.2 }
  else s

/-- PUSH (10 R207, R211): one to four items; none is a PUSH of 0 items. A doorbell write carries at most four words
(R211), so more are refused whole with UNSUPPORTED (R212). -/
def execPush (q : QueueNo) (w : Who) (items : List (BitVec 64)) (poison : Bool) (s : State) :
    Host.Outcome State Fault Refusal :=
  if items.length ≤ 4 ∨ s.b.tagOk w.src w.priv w.ctx = false then .next (qCommand q w (.push items poison) s)
  else .next { s with b := answerWho s.b (some w) (rspStatus stUNSUPPORTED) }

/-- POP (10 R207). -/
def execPop (q : QueueNo) (w : Who) (s : State) : Host.Outcome State Fault Refusal := .next (qCommand q w .pop s)

/-- POP_ST (10 R211): the item and the status word after the POP. -/
def execPopSt (q : QueueNo) (w : Who) (s : State) : Host.Outcome State Fault Refusal := .next (qCommand q w .popSt s)

/-- STATUS (10 R213). -/
def execStatus (q : QueueNo) (w : Who) (s : State) : Host.Outcome State Fault Refusal := .next (qCommand q w .status s)

/-- MARK (10 R207). -/
def execMark (q : QueueNo) (w : Who) (s : State) : Host.Outcome State Fault Refusal := .next (qCommand q w .mark s)

/-- REWIND (10 R207). -/
def execRewind (q : QueueNo) (w : Who) (s : State) : Host.Outcome State Fault Refusal := .next (qCommand q w .rewind s)

/-- RELEASE (10 R207). -/
def execRelease (q : QueueNo) (w : Who) (n : Word) (s : State) : Host.Outcome State Fault Refusal :=
  .next (qCommand q w (.release n.toNat) s)

/-- CLEAR (10 R207). -/
def execClear (q : QueueNo) (w : Who) (s : State) : Host.Outcome State Fault Refusal := .next (qCommand q w .clear s)

/-! ### The QUE page (10 R220 to R222) -/

/-- The queue that Q_SEL of tower `t` names. -/
def Base.qSel (b : Base) (t : Nat) : Nat := 16384 * t + b.fld (.que (tw t)) QUE.Q_SEL_QUEUE

/-- Change the queue that Q_SEL names. -/
def onSel (s : State) (t : Nat) (f : Queue → Queue) : State :=
  { s with que := queuePut s.que (s.b.qSel t) (f (queueAt s.que (s.b.qSel t))) }

/-- Is a body wholly inside GDDR6 or the pads of tower `t` (10 R204, R220)? -/
def bodyOk (t base len : Nat) : Bool :=
  decide (base + 8 * len ≤ 0x2000000000) ||
  (decide (0x10000000000 + t * 0x10000000 ≤ base) && decide (base + 8 * len ≤ 0x10000000000 + (t + 1) * 0x10000000))

/-- Does the occupied span fit the new bounds (10 R220)? -/
def Queue.fits (x : Queue) : Bool :=
  x.writeD == 0 ||
  (decide (x.rel + x.writeD ≤ x.len) && decide (x.shBase ≤ x.base + 8 * x.rel) &&
    decide (x.base + 8 * (x.rel + x.writeD) ≤ x.shBase + 8 * x.shLen))

/-- A write of Q_CMD.GO (10 R220). -/
def qGo (s : State) (t : Nat) : State :=
  let q := s.b.qSel t
  let x := queueAt s.que q
  let pg : Page := .que (tw t)
  if x.pend then s
  else if (x.shLen ≠ 0 ∧ ¬ bodyOk t x.shBase x.shLen) ∨ (x.shCtx ≠ x.ctx ∧ x.writeD ≠ 0) then
    { s with b := s.b.event pg 14, que := queuePut s.que q { x with res := 3 } }
  else
    { s with b := s.b.addFld pg QUE.PEND_CNT_COUNT 1, que := queuePut s.que q { x with pend := true } }

/-- One pending change fewer. -/
def pendLess (b : Base) (pg : Page) (was : Bool) : Base :=
  if was then b.setFld pg QUE.PEND_CNT_COUNT (b.fld pg QUE.PEND_CNT_COUNT - 1) else b

/-- A write of Q_CMD.CANCEL (10 R220, 02 R27): a pending change is abandoned, the shadow reloads. -/
def qCancel (s : State) (t : Nat) : State :=
  let q := s.b.qSel t
  let x := queueAt s.que q
  let pg : Page := .que (tw t)
  { s with b := (pendLess s.b pg x.pend).event pg 13,
           que := queuePut s.que q { x with pend := false, res := 2, shBase := x.base, shCtx := x.ctx, shLen := x.len } }

/-- The queue under its new bounds (10 R209, R220). -/
def Queue.rebound (x : Queue) : Queue :=
  { x with base := x.shBase, ctx := x.shCtx, len := x.shLen,
           rel := if x.writeD = 0 then 0 else (x.base + 8 * x.rel - x.shBase) / 8,
           fault := false, pend := false, res := 1,
           last := if x.len = 0 ∧ x.shLen ≠ 0 then 0 else x.last,
           lastP := if x.len = 0 ∧ x.shLen ≠ 0 then false else x.lastP }

/-- QUEUE_BOUNDS_APPLY (10 R220): a pending change takes effect when the occupied span fits. -/
def execQueueBoundsApply (q : QueueNo) (s : State) : Host.Outcome State Fault Refusal :=
  let x := queueAt s.que q
  if x.pend && x.fits then
    .next { s with b := qStored ((pendLess s.b (quePage q) true).event (quePage q) 13) q, que := queuePut s.que q x.rebound }
  else .next s

/-- A write of Q_CMD.FLUSH (10 R221): one consumer operation. -/
def qFlush (s : State) (t : Nat) : State :=
  let y := qArrive s.b s.que (s.b.qSel t) none .flush
  { s with b := y.1, que := y.2 }

/-- A write of QUE.RAW_CMD.PFLIP (10 R222, 23 R471): with ERR_CFG.RAW = 1 the next item pushed is cached with inverted
parity. -/
def qPflip (s : State) (t : Nat) : State :=
  if s.b.bit (.que (tw t)) HDR.ERR_CFG_RAW then onSel s t (fun x => { x with pflip := true }) else s

/-- The queues of tower `t` that the table lists. -/
def towerQueues (s : State) (t : Nat) : List Nat := (s.que.map Prod.fst).filter (fun q => q / 16384 == t)

/-- Write every tail cache of one queue, block by block; the request itself while memory cannot answer. A block whose write
meets the owner's again and again in the same cycle is written again, up to the bound of rounds. -/
def drainQueue : Nat → State → Nat → Except (HopReq × Bool) State
  | 0, s, _ => .ok s
  | n + 1, s, q =>
    let x := queueAt s.que q
    if x.fault then .ok s
    else match x.dueBlock true with
      | none => .ok s
      | some k => match writeBlock s q k with
        | .error e => .error e
        | .ok s' => drainQueue n s' q

/-- Write every tail cache of a tower (10 R223, R224). -/
def drainTower (s : State) (t : Nat) : Except (HopReq × Bool) State :=
  (towerQueues s t).foldl (fun o q => match o with | .ok s => drainQueue 32 s q | .error e => .error e) (.ok s)

/-- QUEUE_ENGINE_SLEEP (10 R224): no operation has arrived for 100 µs; the tail caches are written first. -/
def execQueueEngineSleep (t : Tower) (s : State) : Host.Outcome State Fault Refusal :=
  if s.b.bit (.que t) HDR.BLK_CTRL_SLEEP_PERMIT && s.b.fld (.que t) HDR.BLK_STAT_STATE == stActive &&
      (towerQueues s t).all (fun q => (queueAt s.que q).wait.isEmpty) then
    match drainTower s t with
    | .error e => .next (s.await e)
    | .ok s' => .next { s' with b := s'.b.setState (.que t) stAsleep }
  else .next s

/-- A sleeping queue engine of tower `t` wakes and its queues' waiting operations go on (10 R224). -/
def qWake (s : State) (t : Nat) : State :=
  let pg : Page := .que (tw t)
  if s.b.fld pg HDR.BLK_STAT_STATE = stAsleep then (towerQueues s t).foldl qResume { s with b := s.b.wakePage pg }
  else s

/-- A queue as an FLR of its function leaves it (10 R223): flushed, its last value 0, a pending change of its bounds abandoned as a
CANCEL abandons it. -/
def Queue.flr (x : Queue) : Queue :=
  let y := { x.doFlush with last := 0, lastP := false }
  if x.pend then { y with pend := false, res := 2, shBase := x.base, shCtx := x.ctx, shLen := x.len } else y

/-- PEND_CNT of tower `t` shows its queues with a change of bounds pending (10 R222). -/
def State.pendCnt (s : State) (t : Nat) : State :=
  { s with b := s.b.setFld (.que (tw t)) QUE.PEND_CNT_COUNT ((towerQueues s t).filter fun q => (queueAt s.que q).pend).length }

/-- An FLR of the function that serves context `c` at every queue of that context; operations that waited act on the flushed
queue (10 R221, R223). -/
def State.flrQueues (s : State) (c : Nat) : State :=
  let s := (s.que.filter fun e => e.2.ctx == c).foldl (fun s e =>
    qResume { s with que := queuePut s.que e.1 (queueAt s.que e.1).flr } e.1) s
  towers.foldl (fun s t => s.pendCnt t) s

end Sys2Proof.Machine
end

