-- ==== Sys2Proof/Machine/Frames.lean ====
section
/-! DEFINITION. The frame store and the two planes (05 R80, 06 R120 to R124). -/
namespace Sys2Proof.Machine

/-- The zero frame. -/
def Frame.zero : Frame := ⟨0, 0⟩

/-- A frame address from its fields (06 R120). -/
def frameAddr (t m c f : Nat) : Nat := t <<< 21 + m <<< 12 + c <<< 9 + f
/-- Tower of a frame address. -/
def faTower (a : Nat) : Nat := a >>> 21 % 4
/-- Marsh of a frame address. -/
def faMarsh (a : Nat) : Nat := a >>> 12 % 512
/-- Context of a frame address. -/
def faCtx (a : Nat) : Nat := a >>> 9 % 8
/-- Frame number of a frame address. -/
def faFrame (a : Nat) : Nat := a % 512
/-- Is a frame address valid (06 R121)? -/
def faValid (a : Nat) : Bool := decide (faMarsh a < 384) && decide (faFrame a < 448)

/-- The stored frame at an address. -/
def CfgMem.frame (x : CfgMem) (a : Nat) : Frame := SMap.get (fun _ => Frame.zero) x.store a
/-- Store a frame. -/
def CfgMem.setFrame (x : CfgMem) (a : Nat) (f : Frame) : CfgMem := { x with store := SMap.set (fun _ => Frame.zero) x.store a f }

/-- The key of frame `f` of marsh `m` of tower `t` in a plane. -/
def planeKey (t m f : Nat) : Nat := (t * 384 + m) * 512 + f
/-- A frame of a front plane. -/
def CfgMem.frontFrame (x : CfgMem) (t m f : Nat) : BitVec 4096 := SMap.get (fun _ => 0) x.front (planeKey t m f)
/-- A frame of a back plane. -/
def CfgMem.backFrame (x : CfgMem) (t m f : Nat) : BitVec 4096 := SMap.get (fun _ => 0) x.back (planeKey t m f)
/-- Write a frame of a front plane. -/
def CfgMem.setFront (x : CfgMem) (t m f : Nat) (d : BitVec 4096) : CfgMem :=
  { x with front := SMap.set (fun _ => 0) x.front (planeKey t m f) d }
/-- Write a frame of a back plane. -/
def CfgMem.setBack (x : CfgMem) (t m f : Nat) (d : BitVec 4096) : CfgMem :=
  { x with back := SMap.set (fun _ => 0) x.back (planeKey t m f) d }

/-- BCH strength of a tower (06 R124). -/
def Base.bchT (b : Base) (t : Nat) : Nat := b.fld (.cfg (tw t)) CFG.BCH_T

/-- Decode a stored frame (06 R123). -/
def frameDecode (t : Nat) (f : Frame) : Option BchOut := bchDecode t f.pay.toNat f.chk.toNat

/-- A payload with its check bits (06 R122, R124). -/
def frameEncode (t : Nat) (d : BitVec 4096) : Frame := ⟨d, BitVec.ofNat 208 (bchCheck t d.toNat)⟩

/-- The stored frames of context `c` of tower `t` in the marshes of `ms`, in the order a copy reads them: frame by
frame, the marshes in parallel. Unlisted frames hold zeros and need no copy. -/
def copyList (x : CfgMem) (t c : Nat) (ms : Nat → Bool) : List (Nat × Frame) :=
  ((x.store.filter (fun e => faTower e.1 == t && faCtx e.1 == c && ms (faMarsh e.1))).foldl
    (fun (m : SMap (Nat × Frame)) e => SMap.ins m (faFrame e.1 * 512 + faMarsh e.1) e) []).map Prod.snd

/-- What copying frames finds: those corrected, in order, and the first uncorrectable one, where the copy stops. -/
def copyScan (t : Nat) : List (Nat × Frame) → List (Nat × Nat) × Option Nat
  | [] => ([], none)
  | e :: l =>
    match frameDecode t e.2 with
    | none => ([], some e.1)
    | some o =>
      let r := copyScan t l
      (if o.n = 0 then r.1 else (e.1, o.n) :: r.1, r.2)

/-- Clear the back planes of the marshes of `ms` in tower `t`. -/
def clearPlane (m : SMap (BitVec 4096)) (t : Nat) (ms : Nat → Bool) : SMap (BitVec 4096) :=
  SMap.keep (fun k => !(k / 512 / 384 == t && ms (k / 512 % 384))) m

/-- The back planes after the frames of a copy have been written, each corrected. -/
def fillBack (x : CfgMem) (t bt : Nat) (ms : Nat → Bool) (l : List (Nat × Frame)) : CfgMem :=
  l.foldl (fun x e =>
    match frameDecode bt e.2 with
    | some o => x.setBack t (faMarsh e.1) (faFrame e.1) (BitVec.ofNat 4096 o.pay)
    | none => x) { x with back := clearPlane x.back t ms }

/-- The entries of a plane that lie in the marshes of `ms` of tower `t`. -/
def planePart (m : SMap (BitVec 4096)) (t : Nat) (ms : Nat → Bool) : SMap (BitVec 4096) :=
  SMap.keep (fun k => k / 512 / 384 == t && ms (k / 512 % 384)) m

/-- Put the entries of `p` into a plane. -/
def planePut (m p : SMap (BitVec 4096)) : SMap (BitVec 4096) := p.foldl (fun m e => SMap.set (fun _ => 0) m e.1 e.2) m

/-- The two planes of the marshes of `ms` exchange roles (05 R84, 06 R129). -/
def exchange (x : CfgMem) (t : Nat) (ms : Nat → Bool) : CfgMem :=
  let f := planePart x.front t ms
  let k := planePart x.back t ms
  { x with front := planePut (clearPlane x.front t ms) k, back := planePut (clearPlane x.back t ms) f }

/-- Change the mark of a marsh that no longer reads as excluded but has not rejoined (05 R113). -/
def CfgMem.setOut (x : CfgMem) (t m : Nat) (v : Bool) : CfgMem :=
  { x with out := SMap.set (fun _ => false) x.out (t * 384 + m) v }
/-- The mark. -/
def CfgMem.isRejoining (x : CfgMem) (t m : Nat) : Bool := SMap.get (fun _ => false) x.out (t * 384 + m)

end Sys2Proof.Machine
end

