-- ==== Sys2Proof/Machine/Fabric.lean ====
section
/-! DEFINITION. The fabric's combinational values: efts, clutch local routing, segmented wires, deep lines, express
lanes and user I/O pins, all read from the front planes (03, 04, 25 R504 to R507). A clutch is numbered
393,216 t + 1,024 Y + X with tower-wide X (0 to 1,023) and Y (0 to 383). A value that the spec leaves open is `none`. -/
namespace Sys2Proof.Machine

/-! ### Places -/

/-- The clutch at tower-wide position (X, Y) of tower `t`. -/
def clutchAt (t X Y : Nat) : Nat := 393216 * t + 1024 * Y + X
/-- Tower of a clutch. -/
def cTower (c : Nat) : Nat := c / 393216
/-- Tower-wide X. -/
def cX (c : Nat) : Nat := c % 1024
/-- Tower-wide Y. -/
def cY (c : Nat) : Nat := c % 393216 / 1024
/-- Marsh of a clutch (01 R16). -/
def cMarsh (c : Nat) : Nat := 32 * (cY c / 32) + cX c / 32
/-- x within the marsh. -/
def cx (c : Nat) : Nat := cX c % 32
/-- y within the marsh. -/
def cy (c : Nat) : Nat := cY c % 32

/-! ### Configuration bits (03 R52 to R54) -/

/-- Configuration bit `b` of eft `n` of clutch `c`, from the front plane. -/
def CfgMem.bitAt (x : CfgMem) (c n b : Nat) : Bool :=
  (x.frontFrame (cTower c) (cMarsh c) (112 * (cy c / 8) + b)).getLsbD ((cx c + 32 * (cy c % 8)) * 16 + n)
/-- Bits [lo + w - 1:lo] of eft `n` of clutch `c`. -/
def CfgMem.field (x : CfgMem) (c n lo : Nat) : Nat → Nat
  | 0 => 0
  | w + 1 => b2n (x.bitAt c n lo) + 2 * x.field c n (lo + 1) w
/-- Shared bit `k` of clutch `c` (03 R53). -/
def CfgMem.shared (x : CfgMem) (c k : Nat) : Bool := x.bitAt c (k % 16) (49 + k / 16)
/-- Shared bits [k + w - 1:k]. -/
def CfgMem.sharedF (x : CfgMem) (c k : Nat) : Nat → Nat
  | 0 => 0
  | w + 1 => b2n (x.shared c k) + 2 * x.sharedF c (k + 1) w
/-- Switch box bits SWB[i + w - 1:i] (03 R53, 04 R58). -/
def CfgMem.swb (x : CfgMem) (c i w : Nat) : Nat := x.sharedF c (41 + i) w
/-- Is the clutch's STATE_MODE BANKED (05 R88)? -/
def CfgMem.banked (x : CfgMem) (c : Nat) : Bool := x.shared c 40
/-- Clock source of control set `k` (03 R46). The unused value 63 acts as one of the listed ones, which one free (00 R8, log
entry 13). -/
def CfgMem.clkSrc (x : CfgMem) (c k : Nat) : Nat :=
  let v := x.sharedF c (20 * k) 6
  if v = 63 then Config.actsAs .clkSrc v % 63 else v
/-- Clock inversion of control set `k`. -/
def CfgMem.clkInv (x : CfgMem) (c k : Nat) : Bool := x.shared c (20 * k + 6)

/-! ### What positions carry (04 R61, R62, R70; 14 R300; 25 R505) -/

/-- Does the clutch carry deep-line taps (04 R62)? -/
def isTap (c : Nat) : Bool := cX c % 4 == 2 && cY c % 4 == 2
/-- The hop port whose signals the clutch carries (04 R61). -/
def hopPortOf (c : Nat) : Option Nat :=
  if cY c = 0 then some (2 * (cX c / 32)) else if cY c = 383 then some (2 * (cX c / 32) + 1) else none
/-- The pond port of the clutch's marsh whose signals it carries (14 R300). -/
def pondPortOf (c : Nat) : Option Nat :=
  if 14 ≤ cy c ∧ cy c < 16 then some 0 else if 16 ≤ cy c ∧ cy c < 18 then some 1 else none
/-- The I/O bank whose pin inputs the clutch reads (25 R505). -/
def bankOf (c : Nat) : Option Nat :=
  if cX c = 0 ∧ cy c = 4 ∧ cY c / 32 % 4 = 2 then some (3 * cTower c + cY c / 128) else none
/-- The east-west lane of which the clutch is a station: direction (1 east, 3 west) and number (04 R70). -/
def ewStation (c : Nat) : Option (Nat × Nat) :=
  if cx c = 16 then some (1, cy c) else if cx c = 15 then some (3, cy c) else none
/-- The north-south lane of which the clutch is a station (04 R70). -/
def nsStation (c : Nat) : Option (Nat × Nat) :=
  if cy c = 16 ∧ cx c % 2 = 0 then some (0, cx c / 2) else if cy c = 15 ∧ cx c % 2 = 1 then some (2, cx c / 2) else none
/-- The station clutch of lane `n` of direction `d` in marsh `m` of tower `t` (04 R70). -/
def stationOf (t m d n : Nat) : Nat :=
  let x := if d = 1 then 16 else if d = 3 then 15 else if d = 0 then 2 * n else 2 * n + 1
  let y := if d = 0 then 16 else if d = 2 then 15 else n
  clutchAt t (32 * (m % 32) + x) (32 * (m / 32) + y)
/-- Field base of a lane station: 536 for east-west, 549 for north-south (04 R58). -/
def laneBase (d : Nat) : Nat := if d % 2 = 1 then 536 else 549
/-- The marsh a lane of direction `d` comes from, within the tower. -/
def laneFrom (d m : Nat) : Option Nat :=
  match d with
  | 0 => if m < 32 then none else some (m - 32)
  | 1 => if m % 32 = 0 then none else some (m - 1)
  | 2 => if m < 352 then some (m + 32) else none
  | _ => if m % 32 = 31 then none else some (m + 1)
/-- The tower a lane of direction `d` comes from into tower `t` over a bridge (01 R11, 04 R74). -/
def bridgeFrom (d t : Nat) : Option Nat :=
  match d with
  | 0 => if t < 2 then none else some (t - 2)
  | 1 => if t % 2 = 0 then none else some (t - 1)
  | 2 => if t < 2 then some (t + 2) else none
  | _ => if t % 2 = 0 then some (t + 1) else none
/-- The edge marsh of the sending tower that faces edge marsh `m` across a bridge, for direction `d`. -/
def bridgeMarsh (d m : Nat) : Nat :=
  match d with
  | 0 => m + 352
  | 1 => m + 31
  | 2 => m - 352
  | _ => m - 31

/-! ### Register and line numbers -/

/-- The boundary register of a lane (04 R70). -/
def rrLane (t m d n : Nat) : Nat := ((t * 384 + m) * 4 + d) * 32 + n
/-- The receive register of a tap of clutch `c` (04 R64). -/
def rrDeep (c : Nat) (v : Bool) : Nat := 0x1000000 + 2 * c + b2n v
/-- Bridge stage `k` (1 sending, 2 receiving) of a lane in edge marsh `m` (04 R75). -/
def rrStage (k t m d n : Nat) : Nat := 0x1000000 * (k + 1) + rrLane t m d n
/-- A tap: clutch `c`, vertical or horizontal. -/
def tapKey (c : Nat) (v : Bool) : Nat := 2 * c + b2n v

/-- A tap's coordinate along its line. -/
def tapPos (c : Nat) (v : Bool) : Nat := if v then cY c else cX c
/-- Track of a tap's line (04 R62). -/
def tapTrack (p : Nat) : Nat := (p - 2) / 4 % 3
/-- Line number along the track (04 R62). -/
def tapLine (p : Nat) : Nat := (p - 2 - 4 * tapTrack p) / 12 / 4
/-- Tap number on the line (04 R62). -/
def tapNo (p : Nat) : Nat := (p - 2 - 4 * tapTrack p) / 12 % 4
/-- Position of tap `i` of line `j` of track `s`. -/
def tapAt (s j i : Nat) : Nat := 2 + 4 * s + 48 * j + 12 * i

/-- The clutches of the taps of a line, in order (04 R62, R63): `a` is Y of a horizontal or X of a vertical line. -/
def lineTaps (t : Nat) (v : Bool) (a s j : Nat) : List Nat :=
  ((List.range 4).map (tapAt s j)).filterMap fun p =>
    if v then (if p < 384 then some (clutchAt t a p) else none) else if p < 1024 then some (clutchAt t p a) else none

/-- The taps of the line that clutch `c`'s tap belongs to. -/
def lineOf (c : Nat) (v : Bool) : List Nat :=
  let p := tapPos c v
  lineTaps (cTower c) v (if v then cX c else cY c) (tapTrack p) (tapLine p)

/-- The deep-line identifier (04 R69). -/
def deepId (t : Nat) (v : Bool) (a s j : Nat) : Nat :=
  t <<< 24 + b2n v <<< 23 + a <<< 13 + s <<< 11 + j <<< 6

/-- Is vertical bond group `g` of tower `t` LAME (23 R472)? -/
def Base.groupLame (b : Base) (t g : Nat) : Bool := b.fld (.vbd (tw t)) (VBD.GTAB_ST_STATE.nth g) == 5
/-- The drop group of a tap clutch (04 R65). -/
def dropGroup (c : Nat) : Nat := 0x9600 + cMarsh c * 8 + (cy c - 2) / 4
/-- Is a line fenced (04 R78)? -/
def Base.lineFenced (b : Base) (taps : List Nat) : Bool := taps.any (fun c => b.groupLame (cTower c) (dropGroup c))
/-- Is a bridge lane fenced (04 R74, R78)? `m` is the receiving edge marsh. -/
def Base.laneFenced (b : Base) (t m d : Nat) : Bool :=
  let k := if d % 2 = 1 then m / 32 else m % 32 / 2
  let edgeIn := match d with | 0 => 0 | 1 => 3 | 2 => 2 | _ => 1
  let edgeOut := match d with | 0 => 2 | 1 => 1 | 2 => 0 | _ => 3
  b.groupLame t (0xA2E0 + edgeIn * 16 + k) ||
    (match bridgeFrom d t with | some u => b.groupLame u (0xA2E0 + edgeOut * 16 + k) | none => false)

/-! ### Boundaries (04 R73, 05 R113) -/

/-- Is a marsh cut off from its neighbours: excluded or powered down? -/
def State.cutOff (s : State) (t m : Nat) : Bool := s.isOut t m || s.b.domainDown t m
/-- Is the boundary between two marshes of a tower closed? -/
def State.closed (s : State) (t m k : Nat) : Bool :=
  m != k && (s.b.liveOf t m != s.b.liveOf t k || s.cutOff t m || s.cutOff t k)
/-- The live context at a clutch. -/
def State.liveAt (s : State) (c : Nat) : Nat := s.b.liveOf (cTower c) (cMarsh c)

/-! ### Three-valued logic: `none` where the spec states no value -/

/-- Exclusive or. -/
def xor3 : Option Bool → Option Bool → Option Bool
  | some a, some b => some (a != b)
  | _, _ => none
/-- A choice; agreeing sides decide whatever the selector is. -/
def mux3 (s a b : Option Bool) : Option Bool :=
  match s with
  | some true => a
  | some false => b
  | none => if a = b then a else none
/-- The value of a truth table of 2^k bits whose input number i is `f i`; an input the table does not depend on is
not read (03 R39). -/
def lutVal (f : Nat → Option Bool) : Nat → Nat → Option Bool
  | 0, tab => some (tab % 2 == 1)
  | k + 1, tab =>
    let lo := tab % 2 ^ (2 ^ k)
    let hi := tab / 2 ^ (2 ^ k) % 2 ^ (2 ^ k)
    if lo = hi then lutVal f k lo
    else match f k with
      | some true => lutVal f k hi
      | some false => lutVal f k lo
      | none => let a := lutVal f k lo; if a = lutVal f k hi then a else none

/-! ### State elements -/

/-- A flip-flop copy: 0 to 7 banked, 8 shared (05 R88). -/
def Fabric.copy (f : Fabric) (c n k : Nat) : Bool := SMap.get (fun _ => false) f.q ((c * 16 + n) * 9 + k)
/-- Store a flip-flop copy. -/
def Fabric.setCopy (f : Fabric) (c n k : Nat) (v : Bool) : Fabric :=
  { f with q := SMap.set (fun _ => false) f.q ((c * 16 + n) * 9 + k) v }
/-- The copy in use: the live context's, or the shared one (05 R88). -/
def State.copyNo (s : State) (c : Nat) : Nat := if s.cfg.banked c then s.liveAt c else 8
/-- Q of an eft (03 R43 case 1, 05 R89): INIT while the live context's write enable is low. -/
def State.qOf (s : State) (c n : Nat) : Bool :=
  if s.b.we (cTower c) (s.liveAt c) then s.fab.copy c n (s.copyNo c) else s.cfg.bitAt c n 48
/-- A banked routing register's output (04 R72): 0 while the live context's write enable is low. -/
def State.rrOf (s : State) (t m r : Nat) : Bool :=
  let c := s.b.liveOf t m
  s.b.we t c && SMap.get (fun _ => false) s.fab.rr (8 * r + c)
/-- Has control set `k` of clutch `c` had no active edge since its marsh's last swap (04 R66, 05 R87)? -/
def Fabric.isFresh (f : Fabric) (c k : Nat) : Bool := SMap.get (fun _ => false) f.fresh (2 * c + k)
/-- Has global clock `g` had no rising edge in marsh `m` of tower `t` since the marsh's last swap (05 R87)? -/
def Fabric.isFreshE (f : Fabric) (t m g : Nat) : Bool := (SMap.get (fun _ => 0) f.freshE (t * 384 + m)).getLsbD g
/-- The keeper of a segment as tap `c` holds it (04 R66). Where segments with different values join and no driver is enabled,
each tap keeps its own part's value: DESIGN CHOICE, log entry 89. -/
def Fabric.keeper (f : Fabric) (c : Nat) (v : Bool) : Bool := SMap.get (fun _ => false) f.keep (tapKey c v)

/-! ### Ports and pins -/

/-- The marsh a fabric hop port lies in: row 0 for an even port, row 11 for an odd one (04 R61). -/
def hopPortMarsh (h : Nat) : Nat := h % 2 * 352 + h / 2
/-- Which waiting completion fabric hop port `h` of tower `t` presents: the first whose context is live in its marsh
(14 R299). -/
def State.portNow (s : State) (src : Nat) : Option Nat :=
  (SMap.get (fun _ => []) s.hop.ports src).findIdx? fun o => o.ctx == s.b.liveOf (src / 64) (hopPortMarsh (src % 64))
/-- What fabric hop port `h` of tower `t` drives on output `i`, REQ_READY apart (14 R298, R299): the event line in every
context, the rest only in the context it is for. -/
def State.hopBit (s : State) (t h i : Nat) : Bool :=
  let x := SMap.get (fun _ => (0, 0)) s.hop.shown (64 * t + h)
  (i == 289 || x.1 == s.b.liveOf t (hopPortMarsh h)) && x.2.getLsbD i
/-- An edge of a port's clock (14 R299): what the port drives from now on, and the completions left. -/
def State.portDrive (s : State) (src : Nat) : (Nat × BitVec 512) × List PortOut :=
  let l := SMap.get (fun _ => []) s.hop.ports src
  let c := s.b.liveOf (src / 64) (hopPortMarsh (src % 64))
  let line := BitVec.ofNat 512 (b2n (s.b.fabLine (src / 64) (src % 64)) <<< 289)
  match (s.portNow src).bind fun k => l[k]?.map fun o => (k, o) with
  | some (k, ⟨x, w :: ws⟩) => ((c, w ||| line), if ws = [] then l.eraseIdx k else l.set k ⟨x, ws⟩)
  | some (k, ⟨_, []⟩) => ((c, line), l.eraseIdx k)
  | none => ((c, line), l)
/-- What pond port `k` of a marsh presents on output `j` (14 R300). -/
def Fabric.pondBit (f : Fabric) (t m k j : Nat) : Bool :=
  (SMap.get (fun _ => 0) f.pondNow ((t * 384 + m) * 2 + k)).getLsbD j
/-- May a hop port take a request with this tag (14 R299)? -/
def Hop.ready (x : Hop) (src tag : Nat) : Bool :=
  decide ((x.tags.filter (fun e => e.1 / 4096 == src)).length < 128) &&
    (SMap.get (fun _ => none) x.tags (src * 4096 + tag)).isNone

/-- Does the device's TAP control the pins (25 R511)? -/
def Base.tapOwns (b : Base) : Bool := b.bit .pkg PKG.JTAG_CTRL_CUR
/-- MODE of a pin (25 R508): 0 off, 1 LVCMOS, 2 LVDS. -/
def Base.pinMode (b : Base) (k j : Nat) : Nat := b.fld (iobPage k) (IOB.PIN_CFG_MODE.nth j)
/-- Is a bank in its load state (06 R131)? -/
def Pins.loading (p : Pins) (k : Nat) : Bool := SMap.get (fun _ => true) p.bankLoad k
/-- LOAD_STATE in force on a pin: 3 on a pin never driven acts as 0 (06 R131); both pins of an LVDS pair are driven through the
even one (25 R505). -/
def State.loadState (s : State) (k j : Nat) : Nat :=
  let l := s.b.fld (iobPage k) IOB.BANK_CFG_LOAD_STATE
  let d := if s.b.pinMode k (j - j % 2) = 2 then j - j % 2 else j
  if l = 3 ∧ ¬ SMap.get (fun _ => false) s.pins.driven (16 * k + d) then 0 else l
/-- Is an LVDS pin usable: its bank senses 1.8 V (25 R504, R507)? -/
def Base.lvdsOk (b : Base) (k : Nat) : Bool := b.bit (iobPage k) IOB.BANK_CFG_VIO_18
/-- Is a bank's VIO within tolerance? -/
def Base.vioOk (b : Base) (k : Nat) : Bool := b.bit (iobPage k) IOB.BANK_CFG_VIO_OK

/-- Does the current TAP instruction drive the pins from the boundary cells or float them (25 R510, R511)? SAMPLE/PRELOAD
and the instructions without pin control leave them to their rules. -/
def State.tapForces (s : State) : Bool := s.b.tapOwns && s.pins.ir.toNat != 2

/-- What the TAP drives on a pin: nothing under HIGHZ, else the boundary cell where its enable is set. -/
def State.tapPin (s : State) (k j : Nat) : Option Bool :=
  let i := 2 * (16 * k + j)
  if s.pins.ir.toNat = 3 then none
  else if SMap.get (fun _ => false) s.pins.bscan (i + 1) then some (SMap.get (fun _ => false) s.pins.bscan i) else none

/-- What the device drives on a pin, from the last output and enable of its driver (25 R504, R505; 06 R131; 05 R111). -/
def State.pinDrive (s : State) (k j : Nat) : Option Bool :=
  let m := s.b.pinMode k j
  let me := s.b.pinMode k (j - j % 2)
  let d := if me = 2 then j - j % 2 else j
  if ¬ s.b.vioOk k then none
  else if s.tapForces then s.tapPin k j
  else if s.pins.loading k ∧ s.loadState k j ≠ 3 then none
  else if me = 2 then
    if s.b.lvdsOk k ∧ SMap.get (fun _ => false) s.pins.lastOe (16 * k + d)
    then some (SMap.get (fun _ => false) s.pins.lastOut (16 * k + d) != (j % 2 == 1)) else none
  else if m = 1 ∧ SMap.get (fun _ => false) s.pins.lastOe (16 * k + j)
  then some (SMap.get (fun _ => false) s.pins.lastOut (16 * k + j)) else none

/-- What holds an undriven pin: none, up, down or keeper (25 R504, 06 R131). -/
def State.pinHold (s : State) (k j : Nat) : Option Bool :=
  let kept := some (SMap.get (fun _ => false) s.pins.level (16 * k + j))
  if ¬ s.b.vioOk k ∨ s.tapForces then none
  else if s.pins.loading k then
    match s.loadState k j with | 0 => some true | 1 => some false | 2 => kept | _ => none
  else if s.b.pinMode k (j - j % 2) = 2 then none
  else match s.b.fld (iobPage k) (IOB.PIN_CFG_PULL.nth j) with
    | 1 => some true | 2 => some false | 3 => kept | _ => none

/-- The level at a pin: driven inside or outside, or held; none where nothing decides it (25 R508 PIN_IN). -/
def State.pinLevel (s : State) (k j : Nat) : Option Bool :=
  match s.pinDrive k j, SMap.get (fun _ => none) s.pins.ext (16 * k + j) with
  | some a, some b => if a = b then some a else none
  | some a, none => some a
  | none, some b => some b
  | none, none => s.pinHold k j

/-- The level the fabric reads from a pin (25 R505, R507, R511; 05 R111; 06 R131). -/
def State.pinIn (s : State) (k j : Nat) : Option Bool :=
  let m := s.b.pinMode k j
  let c := s.b.liveOf (k / 3) (64 + 128 * (k % 3))
  if s.b.tapOwns ∨ ¬ s.b.vioOk k ∨ s.pins.loading k ∨ s.b.fld (iobPage k) IOB.BANK_OWNER_CTX ≠ c ∨ m = 0 ∨
      s.b.pinMode k (j - j % 2) = 2 ∧ j % 2 = 1 then some false
  else if m = 2 ∧ ¬ s.b.lvdsOk k then some false
  else s.pinLevel k j

/-! ### Evaluation -/

/-- A combinational signal. -/
inductive Sig
  /-- O of eft `n` of clutch `c`. -/
  | o (c n : Nat)
  /-- COUT of eft `n`. -/
  | cout (c n : Nat)
  /-- Local line `i`. -/
  | ll (c i : Nat)
  /-- Wire `w` that starts in clutch `c`. -/
  | wire (c w : Nat)
  /-- Arrival `a` of clutch `c`. -/
  | arr (c a : Nat)
  /-- Local source `v` of clutch `c` (03 R50). -/
  | src (c v : Nat)
  /-- The value of a tap's deep line. -/
  | deep (c : Nat) (v : Bool)
  /-- The receive value of a tap. -/
  | rx (c : Nat) (v : Bool)
  /-- A lane as it arrives at its station in marsh `m`. -/
  | lane (t m d n : Nat)
  /-- A lane after its station in marsh `m`. -/
  | laneAfter (t m d n : Nat)
  /-- A lane beyond the boundary of marsh `m`. -/
  | laneOut (t m d n : Nat)
  /-- Port output `i` of clutch `c`: hop port, pond port or pin (14 R298, R300; 25 R505). -/
  | port (c i : Nat)
  deriving DecidableEq, Repr

/-- Value of the arrival `a` of a clutch: the wire it reads, when one has a read point there (04 R56, R57, R73). -/
def State.arrivalWire (s : State) (c a : Nat) : Option (Nat × Nat) :=
  let d := a / 18
  let j := a % 18
  let k := if j < 14 then j else if j < 16 then j - 2 else j - 4
  let dist := if 16 ≤ j then 8 else if 14 ≤ j then 4 else if j < 4 then 1 else if j < 8 then 2 else if j < 12 then 4 else 12
  let X := cX c
  let Y := cY c
  let st : Option Nat :=
    match d with
    | 0 => if dist ≤ Y then some (clutchAt (cTower c) X (Y - dist)) else none
    | 1 => if dist ≤ X then some (clutchAt (cTower c) (X - dist) Y) else none
    | 2 => if Y + dist < 384 then some (clutchAt (cTower c) X (Y + dist)) else none
    | _ => if X + dist < 1024 then some (clutchAt (cTower c) (X + dist) Y) else none
  match st with
  | none => none
  | some c' => if s.closed (cTower c) (cMarsh c') (cMarsh c) then none else some (c', 14 * d + k)

/-- Does the tap's driver wait for its clock after a swap (04 R66)? Its clock is that of the control set RXCS names, after its
inversion; with no clock source there is nothing to wait for (DEDUCED, log entry 90). -/
def State.tapWaits (s : State) (c : Nat) (v : Bool) : Bool :=
  let k := s.cfg.swb c ((if v then 526 else 516) + 9) 1
  decide (s.cfg.clkSrc c k < 62) && s.fab.isFresh c k
/-- MODE of a tap (04 R64): 0 OFF, 1 RECEIVE, 2 DRIVE; the unused value 3 acts as one of these, which one free (00 R8, log
entry 13). -/
def CfgMem.tapMode (x : CfgMem) (c : Nat) (v : Bool) : Nat :=
  let m := x.swb c (if v then 526 else 516) 2
  if m = 3 then Config.actsAs .tapMode m % 3 else m
/-- Is a tap in DRIVE (04 R64)? -/
def CfgMem.drives (x : CfgMem) (c : Nat) (v : Bool) : Bool := x.tapMode c v == 2

/-- The segments of a line of tower `t`: neighbouring taps with no closed boundary between them (04 R68, R73). -/
def State.segments (s : State) (t : Nat) : List Nat → List Nat → List (List Nat)
  | [], cur => [cur.reverse]
  | x :: l, [] => s.segments t l [x]
  | x :: l, y :: cur =>
    if s.closed t (cMarsh y) (cMarsh x) then (y :: cur).reverse :: s.segments t l [x] else s.segments t l (x :: y :: cur)
/-- The segment tap `c` lies on. -/
def State.segment (s : State) (taps : List Nat) (c : Nat) : List Nat :=
  ((s.segments (cTower c) taps []).find? (fun r => r.contains c)).getD [c]

/-- The drivers enabled on a segment. -/
def State.segDrivers (s : State) (seg : List Nat) (v : Bool) : List Nat :=
  seg.filter fun c => s.cfg.drives c v && !s.cutOff (cTower c) (cMarsh c) && !s.tapWaits c v
/-- Does the contention detector hold a segment's drivers off (04 R68)? -/
def Fabric.segFault (f : Fabric) (seg : List Nat) (v : Bool) : Bool :=
  seg.any fun c => SMap.get (fun _ => false) f.flt (tapKey c v)

/-- The value of a signal. `path` holds the signals being evaluated: one that comes round again is a combinational
loop, whose value the spec does not state. -/
def State.sig (s : State) : Nat → List Sig → Sig → Option Bool
  | 0, _, _ => none
  | fuel + 1, path, g =>
    if path.contains g then none
    else
      let ev := s.sig fuel (g :: path)
      match g with
      | .src c v =>
        if v < 16 then ev (.o c v) else if v < 32 then some (s.qOf c (v - 16))
        else if v < 62 then ev (.ll c (v - 32)) else some (v == 63)
      | .o c n =>
        let tab := s.cfg.field c n 0 16
        let inp := fun i => ev (.src c (s.cfg.field c n (16 + 6 * i) 6))
        if s.cfg.bitAt c n 40 then
          let p := lutVal inp 3 (tab % 256)
          let cin : Option Bool := match s.cfg.field c n 41 2 with
            | 0 => if n = 0 then some false else ev (.cout c (n - 1))
            | 1 => some false
            | 2 => some true
            | _ => inp 3
          xor3 p cin
        else lutVal inp 4 tab
      | .cout c n =>
        if s.cfg.bitAt c n 40 then
          let tab := s.cfg.field c n 0 16
          let inp := fun i => ev (.src c (s.cfg.field c n (16 + 6 * i) 6))
          match lutVal inp 3 (tab % 256) with
          | some false => lutVal inp 3 (tab / 256)
          | p =>
            let cin : Option Bool := match s.cfg.field c n 41 2 with
              | 0 => if n = 0 then some false else ev (.cout c (n - 1))
              | 1 => some false
              | 2 => some true
              | _ => inp 3
            mux3 p cin (lutVal inp 3 (tab / 256))
        else some false
      | .ll c i =>
        let v := s.cfg.swb c (6 * i) 6
        if v < 56 then ev (.arr c ((v + 2 * i) % 72))
        else if v = 56 then (if isTap c then ev (.rx c false) else some false)
        else if v = 57 then (if isTap c then ev (.rx c true) else some false)
        else if v = 58 then (match ewStation c with
          | some (d, n) => ev (.lane (cTower c) (cMarsh c) d n) | none => some false)
        else if v = 59 then (match nsStation c with
          | some (d, n) => ev (.lane (cTower c) (cMarsh c) d n) | none => some false)
        else if v = 60 then ev (.port c (i % 16))
        else if v = 61 then ev (.port c ((i + 8) % 16))
        else some (v == 63)
      | .wire c w =>
        let d := w / 14
        let k := w % 14
        let v := s.cfg.swb c (180 + 6 * w) 6
        if v < 32 then ev (.src c v)
        else if v < 50 then ev (.arr c (18 * d + v - 32))
        else if v = 50 then ev (.arr c (18 * ((d + 1) % 4) + k))
        else if v = 51 then ev (.arr c (18 * ((d + 1) % 4) + (k + 4) % 18))
        else if v = 52 then ev (.arr c (18 * ((d + 3) % 4) + k))
        else if v = 53 then ev (.arr c (18 * ((d + 3) % 4) + (k + 4) % 18))
        else if v = 54 then (if isTap c then ev (.rx c false) else some false)
        else if v = 55 then (if isTap c then ev (.rx c true) else some false)
        else if v = 56 then (match ewStation c with
          | some (d, n) => ev (.lane (cTower c) (cMarsh c) d n) | none => some false)
        else if v = 57 then (match nsStation c with
          | some (d, n) => ev (.lane (cTower c) (cMarsh c) d n) | none => some false)
        else if v = 58 then (if (hopPortOf c).isSome then ev (.port c (w % 16)) else some false)
        else if v = 59 then ev (.cout c 15)
        else if v = 60 then ev (.ll c (w % 30))
        else if v = 61 then none
        else some (v == 63)
      | .arr c a =>
        match s.arrivalWire c a with
        | some (c', w) => ev (.wire c' w)
        | none => some false
      | .deep c v =>
        let taps := lineOf c v
        let seg := s.segment taps c
        if s.b.lineFenced taps then some false
        else if s.fab.segFault seg v then some (s.fab.keeper c v)
        else match s.segDrivers seg v with
          | [] => some (s.fab.keeper c v)
          | [x] => ev (.src x (s.cfg.swb x ((if v then 526 else 516) + 2) 6))
          | _ => none
      | .rx c v =>
        let base := if v then 526 else 516
        if s.cfg.tapMode c v = 0 ∨ s.b.lineFenced (lineOf c v) then some false
        else if s.cfg.swb c (base + 8) 1 = 1 then some (s.rrOf (cTower c) (cMarsh c) (rrDeep c v))
        else ev (.deep c v)
      | .lane t m d n =>
        match laneFrom d m with
        | some k => if s.closed t k m then some false else ev (.laneOut t k d n)
        | none =>
          match bridgeFrom d t with
          | some _ => some (s.rrOf t m (rrStage 2 t m d n))
          | none => some false
      | .laneAfter t m d n =>
        let c := stationOf t m d n
        if s.cfg.swb c (laneBase d) 1 = 1 then ev (.src c (s.cfg.swb c (laneBase d + 1) 6)) else ev (.lane t m d n)
      | .laneOut t m d n =>
        let c := stationOf t m d n
        if s.cfg.swb c (laneBase d + 7) 1 = 1 then some (s.rrOf t m (rrLane t m d n)) else ev (.laneAfter t m d n)
      | .port c i =>
        let t := cTower c
        match hopPortOf c with
        | some h =>
          let o := 16 * cx c + i
          if o = 288 then
            let c0 := clutchAt t (32 * (h / 2)) (cY c)
            let bits := (List.range 12).map fun b =>
              ev (.src (c0 + (347 + b) / 16) (s.cfg.swb (c0 + (347 + b) / 16) (562 + 6 * ((347 + b) % 16)) 6))
            if bits.any Option.isNone then none
            else some (s.hop.ready (64 * t + h) (bits.foldr (fun b a => b2n (b == some true) + 2 * a) 0))
          else some (s.hopBit t h o)
        | none =>
          match bankOf c with
          | some k => s.pinIn k i
          | none =>
            match pondPortOf c with
            | some k =>
              if s.b.bit (.hop (tw t)) ((if k = 0 then HOP.PPCLK_EN0 else HOP.PPCLK_EN1).nth (cMarsh c))
              then some (s.fab.pondBit t (cMarsh c) k (512 * (cy c % 2) + 16 * cx c + i))
              else some false
            | none => some false

/-- More than the longest acyclic path of signals in the package. -/
def sigFuel : Nat := 2 ^ 40

/-- The value of a signal now. -/
def State.val (s : State) (g : Sig) : Option Bool := s.sig sigFuel [] g

end Sys2Proof.Machine
end

