-- ==== Sys2Proof/Machine/Flags.lean ====
section
/-! DEFINITION. Gecko lane arithmetic and its flags: predicates, saturation, accumulator overflow and poison
(12 R260, R261; 13 R265 to R273). -/
namespace Sys2Proof.Machine

/-! ### Lanes (13 R265) -/

/-- 16-bit lane `i` as an unsigned number. -/
def lane16 (v : BitVec 1024) (i : Nat) : Nat := (v >>> (16 * i)).toNat % 65536
/-- 8-bit lane `j`. -/
def lane8 (v : BitVec 1024) (j : Nat) : Nat := (v >>> (8 * j)).toNat % 256
/-- Lane `i` of the given width. -/
def vlane (w : Bool) (v : BitVec 1024) (i : Nat) : Nat := if w then lane8 v i else lane16 v i
/-- Lane width in bits. -/
def laneW (w : Bool) : Nat := if w then 8 else 16
/-- How many lanes. -/
def laneN (w : Bool) : Nat := if w then 128 else 64
/-- The 16-bit lane, and so the predicate bit and tag, of lane `i` (11 R231, 13 R266). -/
def laneTagIx (w : Bool) (i : Nat) : Nat := if w then i / 2 else i
/-- A vector from its lanes, lane 0 first. -/
def vecOf (w : Bool) (l : List Nat) : BitVec 1024 :=
  BitVec.ofNat 1024 (l.foldr (fun x a => x % 2 ^ laneW w + a <<< laneW w) 0)
/-- Accumulator lane `i`: 40 bits. -/
def accLane (a : BitVec 2560) (i : Nat) : Nat := (a >>> (40 * i)).toNat % 2 ^ 40
/-- Accumulator element `i` in mode `w`: a 40-bit lane, or a 20-bit half (L for even, H for odd lanes). -/
def accElt (w : Bool) (a : BitVec 2560) (i : Nat) : Nat :=
  if w then accLane a (i / 2) / (if i % 2 = 0 then 1 else 2 ^ 20) % 2 ^ 20 else accLane a i
/-- Element width. -/
def accW (w : Bool) : Nat := if w then 20 else 40
/-- An accumulator from its elements, element 0 first. -/
def accOf (w : Bool) (l : List Nat) : BitVec 2560 :=
  BitVec.ofNat 2560 (l.foldr (fun x a => x % 2 ^ accW w + a <<< accW w) 0)

/-- Build a vector lane by lane: `f` where the predicate governs, the old lane elsewhere (12 R261). -/
def mapLanes (w : Bool) (p : BitVec 64) (old : BitVec 1024) (f : Nat → Nat) : BitVec 1024 :=
  vecOf w ((List.range (laneN w)).map fun i => if p.getLsbD (laneTagIx w i) then f i else vlane w old i)
/-- Build an accumulator element by element. -/
def mapAcc (w : Bool) (p : BitVec 64) (old : BitVec 2560) (f : Nat → Nat) : BitVec 2560 :=
  accOf w ((List.range (laneN w)).map fun i => if p.getLsbD (laneTagIx w i) then f i else accElt w old i)

/-- Clamp to a signed range of `w` bits. -/
def clampS (w : Nat) (r : Int) : Int :=
  if r > 2 ^ (w - 1) - 1 then 2 ^ (w - 1) - 1 else if r < -(2 ^ (w - 1)) then -(2 ^ (w - 1)) else r
/-- A result narrowed to `w` bits, clamped when saturating (13 R271, R272). -/
def narrow (w : Nat) (sat : Bool) (r : Int) : Nat := ofS w (if sat then clampS w r else r)
/-- Does `r` lie outside the signed range of `w` bits (13 R268)? -/
def overflows (w : Nat) (r : Int) : Bool := decide (r < -(2 ^ (w - 1))) || decide (r > 2 ^ (w - 1) - 1)

/-! ### Scalar operations (12 R249, R250) -/

/-- A register-register operation. -/
def aluVal : AluOp → Word → Word → Word
  | .add, a, b => a + b
  | .sub, a, b => a - b
  | .and, a, b => a &&& b
  | .or, a, b => a ||| b
  | .xor, a, b => a ^^^ b
  | .sll, a, b => a <<< (b.toNat % 32)
  | .srl, a, b => a >>> (b.toNat % 32)
  | .sra, a, b => a.sshiftRight (b.toNat % 32)
  | .mul, a, b => a * b
  | .slt, a, b => if a.toInt < b.toInt then 1 else 0
  | .sltu, a, b => if a.toNat < b.toNat then 1 else 0

/-- A register-immediate operation. -/
def aluiVal : AluiOp → Word → BitVec 16 → Word
  | .addi, a, i => a + i.signExtend 32
  | .andi, a, i => a &&& i.setWidth 32
  | .ori, a, i => a ||| i.setWidth 32
  | .xori, a, i => a ^^^ i.setWidth 32
  | .slli, a, i => a <<< (i.toNat % 32)
  | .srli, a, i => a >>> (i.toNat % 32)
  | .srai, a, i => a.sshiftRight (i.toNat % 32)
  | .slti, a, i => if a.toInt < i.toInt then 1 else 0

/-- A branch condition. -/
def brTaken : BrCond → Word → Bool
  | .eqz, a => a == 0
  | .nez, a => a != 0
  | .ltz, a => a.msb
  | .gez, a => !a.msb

/-! ### Multiply-accumulate (13 R267 to R269) -/

/-- The exact sum of lane `i` (13 R267). -/
def macExact (op : MacOp) (w : Bool) (old : BitVec 2560) (va vb : BitVec 1024) (i : Nat) : Int :=
  let p := toS (laneW w) (vlane w va i) * toS (laneW w) (vlane w vb i)
  let a := toS (accW w) (accElt w old i)
  match op with
  | .mac => a + p
  | .msu => a - p
  | .mul => p

/-- The accumulator after a multiply-accumulate (13 R268). -/
def macAcc (op : MacOp) (w sat : Bool) (p : BitVec 64) (old : BitVec 2560) (va vb : BitVec 1024) : BitVec 2560 :=
  mapAcc w p old fun i => narrow (accW w) sat (macExact op w old va vb i)

/-- The lanes it overflows: a bit for a 40-bit lane, or for either half (13 R269). -/
def macOv (op : MacOp) (w : Bool) (p : BitVec 64) (old : BitVec 2560) (va vb : BitVec 1024) : BitVec 64 :=
  BitVec.ofNat 64 ((List.range (laneN w)).foldl (fun a i =>
    if p.getLsbD (laneTagIx w i) && overflows (accW w) (macExact op w old va vb i)
    then a ||| 1 <<< laneTagIx w i else a) 0)

/-! ### Other lane operations (13 R271, R272) -/

/-- Two-source lane operations. -/
def vbinLane (op : VBinOp) (w sat : Bool) (a b : Nat) : Nat :=
  let x := toS (laneW w) a
  let y := toS (laneW w) b
  match op with
  | .add => narrow (laneW w) sat (x + y)
  | .sub => narrow (laneW w) sat (x - y)
  | .min => if x ≤ y then a else b
  | .max => if x ≤ y then b else a
  | .and => a &&& b
  | .or => a ||| b
  | .xor => a ^^^ b

/-- A comparison of one lane. -/
def vcmpLane (op : VCmpOp) (w : Bool) (a b : Nat) : Bool :=
  let x := toS (laneW w) a
  let y := toS (laneW w) b
  match op with
  | .eq => decide (x = y)
  | .lt => decide (x < y)
  | .le => decide (x ≤ y)

/-- The predicate a comparison writes: 0 where not governed; in .b mode a bit needs both lanes (12 R261). -/
def vcmpPred (op : VCmpOp) (w : Bool) (p : BitVec 64) (va vb : BitVec 1024) : BitVec 64 :=
  BitVec.ofNat 64 ((List.range 64).foldl (fun a i =>
    let c := if w then vcmpLane op w (lane8 va (2 * i)) (lane8 vb (2 * i)) &&
                  vcmpLane op w (lane8 va (2 * i + 1)) (lane8 vb (2 * i + 1))
             else vcmpLane op w (lane16 va i) (lane16 vb i)
    if p.getLsbD i && c then a ||| 1 <<< i else a) 0)

/-- The value vshr gives lane `i` (13 R272). -/
def vshrLane (w sat : Bool) (a : BitVec 2560) (n i : Nat) : Nat :=
  narrow (laneW w) sat (toS (accW w) (accElt w a i) / (2 ^ n : Nat))

/-! ### Poison (13 R273) -/

/-- Does a vector slot consume a tag (12 R260, 13 R273)? -/
def vecConsumes (k : Gecko) : VecSlot → Bool
  | .mac op _ _ d a b p =>
    ((k.vTag a ||| k.vTag b ||| (if op = .mul then 0 else k.aTag d)) &&& k.preg p) != 0
  | .shr _ _ _ a _ p => (k.aTag a &&& k.preg p) != 0
  | .bin _ _ _ _ a b p | .cmp _ _ _ a b p => ((k.vTag a ||| k.vTag b) &&& k.preg p) != 0
  | .shl _ _ _ a _ p | .sra _ _ a _ p => (k.vTag a &&& k.preg p) != 0
  | .nop | .clr _ _ _ | .ldac _ _ _ _ | .clrov _ _ _ | .mov _ _ _ _ | .sel _ _ _ _ _ | .bc _ _ _ _ | .pand _ _ _
  | .por _ _ _ | .pnot _ _ => false

/-- Tags after a write of the governed lanes with tags `t`. -/
def mixTags (p old t : BitVec 64) : BitVec 64 := (old &&& ~~~ p) ||| (t &&& p)

/-- The tags of a scalar spread over the lanes. -/
def spread (t : Bool) : BitVec 64 := if t then BitVec.allOnes 64 else 0

/-- What a vector slot does to the gecko's registers, operands read from `k0`, writes made to `k` (12 R247, R260). -/
def vecApply (k0 k : Gecko) : VecSlot → Gecko
  | .nop => k
  | .mac op w sat d a b p =>
    let q := k0.preg p
    let k := k.setAcc d (macAcc op w sat q (k0.acc d) (k0.vreg a) (k0.vreg b)) (mixTags q (k0.aTag d) 0)
    k.setOv d (k0.ov d ||| macOv op w q (k0.acc d) (k0.vreg a) (k0.vreg b))
  | .clr w d p => k.setAcc d (mapAcc w (k0.preg p) (k0.acc d) fun _ => 0) (mixTags (k0.preg p) (k0.aTag d) 0)
  | .ldac w d a p =>
    k.setAcc d (mapAcc w (k0.preg p) (k0.acc d) fun i => ofS (accW w) (toS (laneW w) (vlane w (k0.vreg a) i)))
      (mixTags (k0.preg p) (k0.aTag d) (k0.vTag a))
  | .shr w sat d a n p =>
    k.setV d (mapLanes w (k0.preg p) (k0.vreg d) (vshrLane w sat (k0.acc a) n)) (mixTags (k0.preg p) (k0.vTag d) 0)
  | .clrov _ d p => k.setOv d (k0.ov d &&& ~~~ (k0.preg p))
  | .bin op w sat d a b p =>
    k.setV d (mapLanes w (k0.preg p) (k0.vreg d) fun i => vbinLane op w sat (vlane w (k0.vreg a) i) (vlane w (k0.vreg b) i))
      (mixTags (k0.preg p) (k0.vTag d) 0)
  | .shl w sat d a n p =>
    k.setV d (mapLanes w (k0.preg p) (k0.vreg d) fun i =>
      narrow (laneW w) sat (toS (laneW w) (vlane w (k0.vreg a) i) * (2 ^ n.val : Nat))) (mixTags (k0.preg p) (k0.vTag d) 0)
  | .sra w d a n p =>
    k.setV d (mapLanes w (k0.preg p) (k0.vreg d) fun i =>
      narrow (laneW w) false (toS (laneW w) (vlane w (k0.vreg a) i) / (2 ^ n.val : Nat))) (mixTags (k0.preg p) (k0.vTag d) 0)
  | .mov w d a p =>
    k.setV d (mapLanes w (k0.preg p) (k0.vreg d) fun i => vlane w (k0.vreg a) i)
      (mixTags (k0.preg p) (k0.vTag d) (k0.vTag a))
  | .sel w d a b p =>
    k.setV d (mapLanes w (k0.preg p) (k0.vreg b) fun i => vlane w (k0.vreg a) i)
      (mixTags (k0.preg p) (k0.vTag b) (k0.vTag a))
  | .bc w d sa p =>
    k.setV d (mapLanes w (k0.preg p) (k0.vreg d) fun _ => (k0.sreg sa).toNat % 2 ^ laneW w)
      (mixTags (k0.preg p) (k0.vTag d) (spread (k0.sTag sa)))
  | .cmp op w d a b p => k.setP d (vcmpPred op w (k0.preg p) (k0.vreg a) (k0.vreg b))
  | .pand d a b => k.setP d (k0.preg a &&& k0.preg b)
  | .por d a b => k.setP d (k0.preg a ||| k0.preg b)
  | .pnot d a => k.setP d (~~~ (k0.preg a))

/-- Does a vector slot overflow an accumulator lane (13 R268, R270)? -/
def vecOverflowed (k0 : Gecko) : VecSlot → Bool
  | .mac op w _ d a b p => macOv op w (k0.preg p) (k0.acc d) (k0.vreg a) (k0.vreg b) != 0
  | .nop | .clr _ _ _ | .ldac _ _ _ _ | .shr _ _ _ _ _ _ | .clrov _ _ _ | .bin _ _ _ _ _ _ _ | .shl _ _ _ _ _ _
  | .sra _ _ _ _ _ | .mov _ _ _ _ | .sel _ _ _ _ _ | .bc _ _ _ _ | .cmp _ _ _ _ _ _ | .pand _ _ _ | .por _ _ _
  | .pnot _ _ => false

end Sys2Proof.Machine
end

