-- ==== Sys2Proof/Machine/HopNet.lean ====
section
/-! DEFINITION. The hop network's own operations: stops, maps and epochs, rings, routes and credits, tags, fabric hop ports'
completions (14 R278 to R299). -/
namespace Sys2Proof.Machine

/-! ### Stops (14 R280) -/

/-- Is there such a stop (14 R280)? The PCIe controller and the loader stand in tower 0 alone, Anole in towers 0 and 2. -/
def stopExists (st : Nat) : Bool :=
  let l := st / 64 % 4
  let i := st % 64
  decide (st < 1024) && (l == 0 || l == 1 || (l == 2 && decide (i < 15) &&
    (if i = 8 ∨ i = 10 then st / 256 == 0 else if i = 9 then st / 256 % 2 == 0 else true)))

/-- The stop of an initiator (14 R280, R281); unused IDs have none. -/
def Base.srcStop (b : Base) (src : Nat) : Option Nat :=
  let t := b.srcTower src
  if src < 256 then some (stopAddr t 0 (src % 64))
  else if src < 384 then some (stopAddr t 1 (src % 32))
  else if src < 388 then some (stopAddr t 2 4)
  else if 512 ≤ src ∧ src < 768 ∨ 776 ≤ src ∧ src ≤ 784 then some (stopAddr 0 2 8)
  else if 768 ≤ src ∧ src < 776 then some (stopAddr t 2 (11 + src % 2))
  else if src = 1008 then some (stopAddr t 2 9)
  else if src = 1009 then some (stopAddr 0 2 10)
  else if 1010 ≤ src ∧ src < 1014 then some (stopAddr t 2 5)
  else if 1014 ≤ src ∧ src < 1018 then some (stopAddr t 2 7)
  else none

/-! ### Maps and epochs (14 R290, R292) -/

/-- Word `off` of the HOP page in copy `e` of level `l`'s map. -/
def Hop.mapWord (h : Hop) (t l : Nat) (e : Bool) (off : Nat) : Word :=
  SMap.get (fun k => regReset (pbase (.hop (tw (k / 65536 / 6))) + k % 65536)) h.maps ((6 * t + 2 * l + b2n e) * 65536 + off)

/-- A field of a map copy. -/
def Hop.mapFld (h : Hop) (t l : Nat) (e : Bool) (f : Fld) : Nat := wget (h.mapWord t l e f.off) f.hi f.lo

/-- The stops of tower `t` look the map up in its DEC store (02 R32). -/
def Base.mapUse (b : Base) (t : Nat) : Base := b.decUse (.hop (tw t)) (pbase (.hop (tw t)) + HOP.MAPCTL.off)

/-- The lifts a level uses: enabled in its map and not LAME (14 R290). -/
def State.lifts (s : State) (t l : Nat) (e : Bool) : Nat :=
  (s.hop.mapFld t l e HOP.MAPCTL_LIFT_EN) &&& (255 - s.b.fld (.hop (tw t)) HOP.LAME_LIFT_LIFT)

/-- Does some lift join level `l` to its neighbour `m`, as level `l` routes: L0 to L3 between 0 and 1, L4 to L7
between 1 and 2 (14 R279)? -/
def State.liftUp (s : State) (t l m : Nat) (e : Bool) : Bool :=
  if l = 0 ∨ m = 0 then s.lifts t l e % 16 != 0 else s.lifts t l e / 16 != 0

/-- DEGRADE of a level in a map copy. -/
def Hop.degrade (h : Hop) (t l : Nat) (e : Bool) : Nat :=
  h.mapFld t l e (if l = 0 then HOP.MAPCTL_DEGRADE_L else if l = 1 then HOP.MAPCTL_DEGRADE_M else HOP.MAPCTL_DEGRADE_B)

/-- Can a request from (t, l) reach (t', l')? Every pair of levels on its way must be joined by a lift (14 R290), in the map copies
that its epoch names (R292). -/
def State.reach (s : State) (t l t' l' : Nat) (e : Bool) : Bool :=
  let leg (t1 a b : Nat) : Bool := (levelSteps a b).all fun x => s.liftUp t1 x.1 x.2 e
  if t = t' then leg t l l' else leg t l 2 && leg t' 2 l'

/-- Does a request's path include a degraded ring, so that it needs a grant (14 R289, R290)? -/
def State.pathDegraded (s : State) (t l t' l' : Nat) (e : Bool) : Bool :=
  (pathLevels t l t' l').any fun x => s.hop.degrade x.1 x.2 e != 0

/-! ### Rings and routes (14 R279) -/

/-- Positions on a ring: its stops and lifts; on the package ring, level 3, the towers. -/
def ringSize (l : Nat) : Nat := if l = 0 then 68 else if l = 1 then 72 else if l = 2 then 19 else 4

/-- Where a stop or lift lies on its ring; on the package ring, a tower: T0, T1, T3, T2. -/
def ringAt (l node : Nat) : Nat :=
  if l = 3 then (if node = 3 then 2 else if node = 2 then 3 else node) else Config.ringPos l node % ringSize l

/-- The node of lift `k` on level `l`: after the stops, L0 or L4 first. -/
def liftNode (l k : Nat) : Nat := if l = 2 then 15 + (k - 4) else 64 + k

/-- Positions passed from `a` to `b`, clockwise or counter-clockwise. -/
def ringDist (n a b : Nat) (ccw : Bool) : Nat := if ccw then (n + a - b) % n else (n + b - a) % n

/-- The direction from `a` to `b`: the shorter one, ties clockwise; the only one left on a degraded ring (14 R279, R290). -/
def ringDir (n a b deg : Nat) : Bool :=
  if deg = 1 then false else if deg = 2 then true else decide (ringDist n a b true < ringDist n a b false)

/-- How far `b` is from `a` in the direction a flit takes. -/
def ringWay (n a b deg : Nat) : Nat := ringDist n a b (ringDir n a b deg)

/-- The lift by which a flit at position `a` leaves level `l` of tower `t` for level `m`: the nearest in its direction of travel
that is enabled and not LAME (14 R279, R290). -/
def State.liftFrom (s : State) (t l m a : Nat) (e : Bool) : Option Nat :=
  let ks := (if l = 0 ∨ m = 0 then [0, 1, 2, 3] else [4, 5, 6, 7]).filter fun k => nbit (s.lifts t l e) k
  let way := fun k => ringWay (ringSize l) a (ringAt l (liftNode l k)) (s.hop.degrade t l e)
  match ks with
  | [] => none
  | k :: l => some (l.foldl (fun x y => if way y < way x then y else x) k)

/-- A stretch of a ring that a flit travels: tower, level, and the positions it joins. -/
structure RingLeg where
  tower : Nat
  level : Nat
  src : Nat
  dst : Nat
  ccw : Bool
  deriving DecidableEq, Repr

/-- The stretch from `a` to `b`. -/
def State.ringLeg (s : State) (t l a b : Nat) (e : Bool) : RingLeg :=
  ⟨t, l, a, b, ringDir (ringSize l) a b (if l < 3 then s.hop.degrade t l e else 0)⟩

/-- The stretches within tower `t` from position `a` of level `l` to position `b` of level `m`. -/
def State.towerRoute (s : State) (t b m : Nat) (e : Bool) : Nat → Nat → Nat → List RingLeg
  | 0, _, _ => []
  | n + 1, l, a =>
    if l = m then [s.ringLeg t l a b e]
    else
      let l' := if l < m then l + 1 else l - 1
      match s.liftFrom t l l' a e with
      | none => []
      | some k => s.ringLeg t l a (ringAt l (liftNode l k)) e :: s.towerRoute t b m e n l' (ringAt l' (liftNode l' k))

/-- The route of a request from stop `x` to stop `y` (14 R279): up or down by lifts, and between towers by the bridge stop on
the shorter path, ties and diagonal towers in the T0, T1, T3, T2 direction. -/
def State.route (s : State) (x y : Nat) (e : Bool) : List RingLeg :=
  let t := x / 256
  let u := y / 256
  let at_ := fun st => ringAt (st / 64 % 4) (st % 64)
  let there := ringAt 2 13
  let back := ringAt 2 14
  let pkg := fun a c => s.ringLeg 0 3 (ringAt 3 a) (ringAt 3 c) e
  if t = u then s.towerRoute t (at_ y) (y / 64 % 4) e 3 (x / 64 % 4) (at_ x)
  else
    let fwd := u = nextTower t ∨ t + u = 3
    let out := s.towerRoute t (if fwd then there else back) 2 e 3 (x / 64 % 4) (at_ x)
    let inn := s.towerRoute u (at_ y) (y / 64 % 4) e 3 2 (if fwd then back else there)
    match viaTower t u with
    | none => out ++ [pkg t u] ++ inn
    | some v => out ++ [pkg t v, s.ringLeg v 2 back there e, pkg v u] ++ inn

/-- The input buffers a flit passes on one stretch, in order. -/
def RingLeg.links (g : RingLeg) (net vn : Nat) : List HopLink :=
  let n := ringSize g.level
  (List.range (ringDist n g.src g.dst g.ccw)).map fun i =>
    ⟨g.tower, g.level, if g.ccw then (g.src + n - (i + 1)) % n else (g.src + i + 1) % n, g.ccw, net, vn⟩

/-! ### Credits (14 R287) -/

/-- The flits in an input buffer: only those going round for a sleeping target stay in one from command to command. -/
def Hop.inBuffer (h : Hop) (k : HopLink) : Nat := (h.heldFlits.flatMap HeldReq.going).count k

/-- The credits for an input buffer: its free places. -/
def Hop.credits (h : Hop) (k : HopLink) : Nat := Config.hopSpare + 2 - h.inBuffer k

/-- May a flit be injected and carried along the buffers of its way (14 R287): two credits where it enters the network, one at
each further stop? -/
def Hop.flows (h : Hop) : List HopLink → Bool
  | [] => true
  | k :: l => decide (2 ≤ h.credits k) && l.all fun j => decide (1 ≤ h.credits j)

/-- The buffers of a request's way on network `net`, virtual network `vn`. -/
def State.way (s : State) (x y net vn : Nat) (e : Bool) : List HopLink := (s.route x y e).flatMap fun g => g.links net vn

/-- Do the request's flits find their credits now: its REQ flit, and a write's DAT flit on the ring pair of its transaction? Nothing
rests in a buffer while no target keeps flits going round. -/
def State.flows (s : State) (r : HopReq) (write : Bool) (x y : Nat) (e : Bool) : Bool :=
  s.hop.heldFlits.all (fun f => f.going.isEmpty) ||
    (s.hop.flows (s.way x y 0 (b2n write) e) && (!write || s.hop.flows (s.way x y (3 + (r.src.val + r.tag.val) % 2) 0 e)))

/-! ### Refusals at the initiator's stop (01 R18, 14 R280) -/

/-- Log an unsupported address in the HOP page of the initiator's tower. -/
def hopUnsup (b : Base) (r : HopReq) : Base :=
  let pg : Page := .hop (tw (b.srcTower r.src))
  (b.logErr pg { kind := 4, addr := r.addr.toNat, ctx := reqLogCtx r, src := some r.src.val }).event pg 9

/-- Do a request's bytes lie within one 64-byte block (14 R282)? -/
def oneBlock (r : HopReq) : Bool := decide (r.addr.toNat % 64 + r.bytes.val ≤ 64)

/-! ### Doorbells (10 R211, R212) -/

/-- The operation a doorbell access asks for; none where R212 refuses it. -/
def doorbellOp (r : HopReq) (write : Bool) : Option QOp :=
  let o := r.addr.toNat % 64
  let be := reqEnables r
  let word (i : Nat) : BitVec 64 := (r.data >>> (64 * i)).setWidth 64
  let en (i : Nat) : Nat := (be >>> (8 * i)).toNat % 256
  if write then
    let whole := (List.range 8).all fun i => en i == 0 || en i == 255
    let used := (List.range 8).filter fun i => en i == 255
    if !whole then none
    else if used.all (· < 4) then
      if used = [] ∧ 32 ≤ o then none
      else some (.push (used.map word) (r.poisonL || r.poisonH))
    else if used = [6] then
      let v := (word 6).toNat
      if v % 2 ^ 32 / 4 ≠ 0 then none
      else if v % 4 = 0 then some .mark
      else if v % 4 = 1 then some .rewind
      else if v % 4 = 2 then some (.release (v / 2 ^ 32))
      else some .clear
    else none
  else if o = 0x20 ∧ r.bytes.val = 8 then some .pop
  else if o = 0x20 ∧ r.bytes.val = 16 then some .popSt
  else if o = 0x28 ∧ r.bytes.val = 8 then some .status
  else none

/-- Who asks, of a request. -/
def reqWho (r : HopReq) : Who := ⟨r.src, r.priv, r.ctx, r.prio, r.tag⟩

/-- A doorbell request: refused whole under R18, or performed by the queue's engine. -/
def State.doorbell (s : State) (q : Nat) (r : HopReq) (write : Bool) : State :=
  match doorbellOp r write with
  | none => { s with b := (hopUnsup s.b r).send (answerMsg r (rspStatus stUNSUPPORTED)) }
  | some op => let y := qDoorbell s.b s.que q (reqWho r) op; { s with b := y.1, que := y.2 }

/-! ### Tags and answers (14 R283, R285, R286) -/

/-- Has an initiator a write to block `blk` outstanding, older than number `no` and under another tag than `key` (14 R288)? -/
def Hop.writesBlock (h : Hop) (src : Nat) (key no blk : Nat) : Bool :=
  h.tags.any fun e => match e.2 with
    | some x => e.1 != key && x.req.src.val == src && x.write && !x.engine && decide (x.no < no) && x.req.addr.toNat / 64 == blk
    | none => false

/-- How many requests of an initiator are outstanding. -/
def Hop.outstanding (h : Hop) (src : Nat) : Nat := (h.tags.filter fun e => e.1 / 4096 == src).length

/-- Is a message the answer of the given kind to a tag? -/
def isAnswer (src tag : Nat) (data : Bool) : Msg → Bool
  | .hop s t _ d _ _ _ => s == src && t == tag && d == data
  | _ => false

/-- Take the first answer of that kind to a tag off the network. -/
def takeAnswer (out : List Msg) (src tag : Nat) (data : Bool) : Option (HopRsp × List Msg) :=
  match out.findIdx? (isAnswer src tag data) with
  | none => none
  | some i => match out[i]? with
    | some (.hop _ _ st d v pl ph) => some (⟨d, st, v, pl, ph⟩, out.eraseIdx i)
    | _ => none

/-- Answer a request. -/
def Base.answer (b : Base) (r : HopReq) (a : HopRsp) : Base := b.send (answerMsg r a)

/-! ### Fabric hop ports (14 R298, R299) -/

/-- The outputs of a completion: two RDATA beats for data, one CVALID cycle else (14 R298). -/
def portCycles (tag : Nat) (a : HopRsp) : List (BitVec 512) :=
  if a.isData then
    [(0, a.poisonL), (1, a.poisonH)].map fun x =>
      BitVec.ofNat 512 ((half a.data x.1).toNat + 1 <<< 256 + x.1 <<< 257 + (tag % 4096) <<< 258 + b2n x.2 <<< 270)
  else [BitVec.ofNat 512 (1 <<< 271 + (tag % 4096) <<< 272 + (a.status % 16) <<< 284)]

/-- Queue a completion at a fabric hop port; it is presented while its context is live in the port's marsh. -/
def Hop.present (h : Hop) (src ctx tag : Nat) (a : HopRsp) : Hop :=
  { h with ports := SMap.upd (fun _ => []) h.ports src (fun l => l ++ [⟨ctx, portCycles tag a⟩]) }

end Sys2Proof.Machine
end

