-- ==== Sys2Proof/Machine/HopFlit.lean ====
section
/-! DEFINITION. The flits of the hop network (14 R282 to R285): a request, its byte-enable flit and its data, a response, a
snoop, each as its fields laid out in bits; and the request that its flits carry. -/
namespace Sys2Proof.Machine

/-- A flit with its code. -/
def Flit.make {w : Nat} (e : Nat) (body : BitVec w) : Flit w e := ⟨body, Config.flitCode w e body⟩

/-! ### Requests (14 R282, R285) -/

/-- TYPE of a request: 1 RD, 2 RD_SHR, 3 RD_OWN, 4 WR, 6 WB, 8 CFG_RD, 9 CFG_WR. -/
def reqTypeOf (write : Bool) : Nat := if write then 4 else 1

/-- VN of a request type: 0 VN_RD, 1 VN_WR, 2 VN_CFG. -/
def typeVn (typ : Nat) : Nat := if typ = 4 ∨ typ = 6 then 1 else if typ = 8 ∨ typ = 9 then 2 else 0

/-- A REQ flit's bits [118:0]: TYPE, VN, PRIO, SRC, DST, TAG, EPOCH, CTX, PRIV, RSVD, ADDR, BYTES, BEX, AGE. -/
def reqBody (typ dst : Nat) (r : HopReq) (epoch rsvd : Bool) (age : Nat) : BitVec 119 :=
  0#7 ++ BitVec.ofNat 8 age ++ BitVec.ofBool r.bex ++ BitVec.ofNat 7 r.bytes.val ++ r.addr ++ 0#2 ++ BitVec.ofBool rsvd ++
    BitVec.ofBool r.priv ++ BitVec.ofNat 3 (if r.priv then 0 else r.ctx.val) ++ BitVec.ofBool epoch ++ BitVec.ofNat 12 r.tag.val ++
    BitVec.ofNat 10 dst ++ BitVec.ofNat 10 r.src.val ++ BitVec.ofNat 2 r.prio.val ++ BitVec.ofNat 2 (typeVn typ) ++ BitVec.ofNat 4 typ

/-- A byte-enable flit: BE in bits [63:0], its other bits 0. -/
def beBody (be : BitVec 64) : BitVec 119 := be.setWidth 119

/-- A DAT flit's bits: DATA in [511:0], then C[25:0]: DST, TAG, VN (0 VN_WDATA, 1 VN_RDATA), POISON_L, POISON_H, EPOCH. -/
def datBody (dst tag : Nat) (rdata pl ph epoch : Bool) (d : BitVec 512) : BitVec 538 :=
  BitVec.ofBool epoch ++ BitVec.ofBool ph ++ BitVec.ofBool pl ++ BitVec.ofBool rdata ++ BitVec.ofNat 12 tag ++ BitVec.ofNat 10 dst ++ d

/-- A request as the initiator's stop injects it: a byte-enable flit where BEX = 1, a DAT flit where it writes. -/
def reqFlits (r : HopReq) (write : Bool) (dst : Nat) (epoch rsvd : Bool) : ReqFlits :=
  { req := Flit.make 9 (reqBody (reqTypeOf write) dst r epoch rsvd 0)
    be := if r.bex && write then some (Flit.make 9 (beBody r.be)) else none
    dat := if write then some (Flit.make 11 (datBody dst r.tag false r.poisonL r.poisonH epoch r.data)) else none }

/-- TYPE of a REQ flit. -/
def ReqFlits.typ (f : ReqFlits) : Nat := f.req.body.toNat % 16
/-- Does it write? -/
def ReqFlits.writes (f : ReqFlits) : Bool := f.typ == 4
/-- PRIO. -/
def ReqFlits.prio (f : ReqFlits) : Nat := nget f.req.body.toNat 7 6
/-- DST. -/
def ReqFlits.dst (f : ReqFlits) : Nat := nget f.req.body.toNat 27 18
/-- EPOCH. -/
def ReqFlits.epoch (f : ReqFlits) : Bool := f.req.body.getLsbD 40
/-- AGE. -/
def ReqFlits.age (f : ReqFlits) : Nat := nget f.req.body.toNat 111 104
/-- The flit after it has waited 8 `n` ring cycles: AGE saturates at 255 (14 R291). -/
def ReqFlits.aged (f : ReqFlits) (n : Nat) : ReqFlits :=
  { f with req := Flit.make 9 ((f.req.body &&& ~~~ (0xFF#119 <<< 104)) ||| (BitVec.ofNat 119 (min 255 (f.age + n))) <<< 104) }
/-- The PRIO it is arbitrated with: 3 once AGE is 255 (14 R291). -/
def ReqFlits.rank (f : ReqFlits) : Nat := if f.age = 255 then 3 else f.prio

/-- The request that flits carry. -/
def ReqFlits.read (f : ReqFlits) : HopReq :=
  let n := f.req.body
  { src := (n.extractLsb' 8 10).toFin
    priv := n.getLsbD 44
    ctx := (n.extractLsb' 41 3).toFin
    prio := (n.extractLsb' 6 2).toFin
    tag := (n.extractLsb' 28 12).toFin
    addr := n.extractLsb' 48 48
    bytes := ⟨(n.extractLsb' 96 7).toNat % 65, Nat.mod_lt _ (by decide)⟩
    bex := n.getLsbD 103
    be := match f.be with | some x => x.body.extractLsb' 0 64 | none => 0
    data := match f.dat with | some x => x.body.extractLsb' 0 512 | none => 0
    poisonL := match f.dat with | some x => x.body.getLsbD 535 | none => false
    poisonH := match f.dat with | some x => x.body.getLsbD 536 | none => false }

/-- The ring pair that a transaction's data takes on its levels: SRC[0] XOR TAG[0] (14 R278). -/
def datPair (src tag : Nat) : Nat := (src + tag) % 2

/-! ### Responses and snoops (14 R283, R284) -/

/-- A RSP flit's bits [55:0]: TYPE (1 CMP, 3 RSV, 4 GRANT, 5 SNP_RSP), DST, TAG, STATUS, EPOCH, SRC, COUNT. -/
def rspBody (typ dst tag status : Nat) (epoch : Bool) (src count : Nat) : BitVec 56 :=
  0#9 ++ BitVec.ofNat 5 count ++ BitVec.ofNat 10 src ++ 0#1 ++ BitVec.ofBool epoch ++ BitVec.ofNat 4 status ++ BitVec.ofNat 12 tag ++
    BitVec.ofNat 10 dst ++ BitVec.ofNat 4 typ

/-- A SNP flit's bits [55:0]: TYPE (1 SNP_INV, 2 SNP_SHR), G, ADDR[47:6], HTAG, EPOCH. -/
def snpBody (inv : Bool) (g line htag : Nat) (epoch : Bool) : BitVec 56 :=
  BitVec.ofBool epoch ++ BitVec.ofNat 3 htag ++ BitVec.ofNat 42 line ++ BitVec.ofNat 7 g ++ BitVec.ofNat 3 (if inv then 1 else 2)

/-- The flit that answers a request (14 R283, R285): read data on VN_RDATA alone, any other outcome as a CMP. `src` is the
responder's stop, `dst` the initiator's. -/
def answerFlit (r : HopReq) (a : HopRsp) (src dst : Nat) (epoch : Bool) : Flit 56 8 ⊕ Flit 538 11 :=
  if a.isData then .inr (Flit.make 11 (datBody dst r.tag true a.poisonL a.poisonH epoch a.data))
  else .inl (Flit.make 8 (rspBody 1 dst r.tag a.status epoch src 0))

end Sys2Proof.Machine
end

