-- ==== Sys2Proof/Machine/EfmelTx.lean ====
section
/-! DEFINITION. The sending side of an Efmel port: packets, the replay buffer, outbound requests (19 R390 to R396). -/
namespace Sys2Proof.Machine

/-! ### Scrambling and CRC (17 R360; 19 R390, R393) -/

/-- One step of the 64-bit register with polynomial x^64 + x^63 + x^61 + x^60 + 1, in the form Config names. -/
def lfsrStep (s : BitVec 64) : BitVec 64 :=
  if Config.lfsrForm = 0 then
    (s <<< 1) ||| BitVec.ofNat 64 (b2n ((s.getLsbD 63 != s.getLsbD 62) != (s.getLsbD 60 != s.getLsbD 59)))
  else if Config.lfsrForm = 1 then
    (s >>> 1) ||| BitVec.ofNat 64 (b2n ((s.getLsbD 0 != s.getLsbD 1) != (s.getLsbD 3 != s.getLsbD 4)) <<< 63)
  else if Config.lfsrForm = 2 then (s <<< 1) ^^^ (if s.msb then BitVec.ofNat 64 0xB000000000000001 else 0)
  else (s >>> 1) ^^^ (if s.getLsbD 0 then BitVec.ofNat 64 0xD800000000000000 else 0)

/-- 64 steps. -/
def lfsr64 (s : BitVec 64) : BitVec 64 := (List.range 64).foldl (fun s _ => lfsrStep s) s
/-- A state loaded from a key and a marker count; zero becomes 1. -/
def lfsrLoad (key : BitVec 64) (n : Nat) : BitVec 64 :=
  let s := key ^^^ BitVec.ofNat 64 n
  if s = 0 then 1 else s
/-- KCHK of a key (19 R387). -/
def kchk (key : BitVec 64) : BitVec 16 := (lfsr64 (lfsrLoad key 0)).setWidth 16

/-- CRC-16 with polynomial x^16 + x^12 + x^5 + 1 and initial value 0xFFFF over the bits of a cell, bit 0 first, with
its CRC field taken as 0 (19 R390). -/
def cellCrc (c : BitVec 640) : Nat :=
  (List.range 640).foldl (fun crc i =>
    let bit := if 48 ≤ i ∧ i < 64 then false else c.getLsbD i
    let fb := nbit crc 15 != bit
    (crc * 2 % 65536) ^^^ (if fb then 0x1021 else 0)) 0xFFFF

/-- State `k` scramble units after a marker's load. -/
def lfsrAt (s : BitVec 64) (k : Nat) : BitVec 64 := (List.range k).foldl (fun s _ => lfsr64 s) s

/-- The keystream of the nine payload units of a cell from state `s` on. -/
def keyUnits (s : BitVec 64) : BitVec 576 :=
  BitVec.ofNat 576 ((List.range 9).foldr (fun i a => (lfsrAt s i).toNat + a <<< 64) 0)

/-! ### Cells as sent (19 R390, R392) -/

/-- PKIND of a packet: 0 REQ, 1 REQ_BE, 2 WDATA, 3 CMP, 4 RDATA. -/
def EflPkt.pkind : EflPkt → Nat
  | .req _ _ _ _ _ be => b2n be.isSome
  | .wdata .. => 2
  | .cmp .. => 3
  | .rdata .. => 4

/-- The payload units 1 to 9 of a packet, before scrambling: the flit with the fields that R392 keeps, the rest 0. -/
def EflPkt.units : EflPkt → BitVec 576
  | .req tag typ prio addr bytes be =>
    let flit : Nat := typ + typeVn typ <<< 4 + prio <<< 6 + tag <<< 28 + addr.toNat <<< 48 + bytes <<< 96 + b2n be.isSome <<< 103
    BitVec.ofNat 576 (flit + (be.getD 0).toNat <<< 128)
  | .wdata tag d pl ph => (datBody 0 tag false pl ph false d).setWidth 576
  | .cmp tag status => (rspBody 1 0 tag status false 0 0).setWidth 576
  | .rdata tag d pl ph => (datBody 0 tag false pl ph false d).setWidth 576

/-- A cell: its header with ACK, NAK and CREDIT, its payload XORed with `key`, and its CRC over both. An IDLE cell has no packet. -/
def eflCellOf (ack nak credit seq : Nat) (p : Option EflPkt) (key : BitVec 576) : BitVec 640 :=
  let hdr := (match p with | some p => 1 + p.pkind <<< 2 + seq % 1024 <<< 5 | none => 0) + ack <<< 15 + nak <<< 25 + credit <<< 26
  let c : BitVec 640 := ((match p with | some p => p.units | none => 0) ^^^ key) ++ BitVec.ofNat 64 hdr
  c ||| BitVec.ofNat 640 (cellCrc c <<< 48)

/-! ### Ports -/

/-- An Efmel port at POR (19 R402). -/
def Efl.init : Efl :=
  ⟨0, [], 0, false, 0, 0, 0, true, 0, 0, 0, 0, 0, 0, 0, false, 1023, [], 0, 0, 0, 0, [], 0, none, [], false, 0, false, 0⟩
/-- Port `n`. -/
def eflAt (m : SMap Efl) (n : Nat) : Efl := SMap.get (fun _ => Efl.init) m n
/-- Change port `n`. -/
def State.eflUpd (s : State) (n : Nat) (f : Efl → Efl) : State :=
  { s with efl := SMap.set (fun _ => Efl.init) s.efl n (f (eflAt s.efl n)) }

/-- STAT.STATE values (19 R401). -/
def eABSENT : Nat := 0
def eDOWN : Nat := 1
def eTRAINING : Nat := 2
def eUP : Nat := 3
def eRETRAIN : Nat := 4
def eTEST : Nat := 5
def eFAIL : Nat := 6
def eQUIESCED : Nat := 7

/-- STATE of a port. -/
def Base.eflState (b : Base) (n : Nat) : Nat := b.fld (eflPage n) EFL.STAT_STATE
/-- Set STATE. -/
def Base.setEflState (b : Base) (n v : Nat) : Base := b.setFld (eflPage n) EFL.STAT_STATE v

/-- The stop of port `n`, which is the reservation point of its outbound requests (14 R280, 19 R394). -/
def eflStop (n : Nat) : Nat := stopAddr (n / 2) 2 (11 + n % 2)

/-- The partner's DPA that a local DPA reaches (19 R395). -/
def eflRemote (a : Nat) : Nat :=
  let o := (a - 0x100000000000) % 0x10000000000
  o / 2 ^ 38 * 2 ^ 40 + o % 2 ^ 38

/-- The scramble state of the sending direction (19 R393): loaded at the last marker sent, then advanced once a unit; how many cells went
out since is a free value, for the model does not time the cells. -/
def eflTxState (b : Base) (x : Efl) (n : Nat) : BitVec 64 :=
  lfsrAt (lfsrLoad x.txKey (b.fld (eflPage n) EFL.MCOUNT - 1)) (9 * (Config.freeBits 14 b.free).toNat)

/-- A cell goes out (19 R390, R391, R394): ACK names the last packet accepted, NAK is set once for a discarded cell, CREDIT reports the
request slots freed since the last report. -/
def eflEmit (s : State) (n seq : Nat) (p : Option EflPkt) : State :=
  let x := eflAt s.efl n
  let ack := (x.expSeq + 1023) % 1024
  let c := eflCellOf ack (b2n x.nak) x.owed seq p (if x.scr then keyUnits (eflTxState s.b x n) else 0)
  let b := if x.scr then s.b.bump else s.b
  { s with b := b.send (.eflCell n c) }.eflUpd n fun x => { x with nak := false, owed := 0, acked := ack }

/-- An IDLE cell reports what has not been reported yet. -/
def eflReport (s : State) (n : Nat) : State :=
  let x := eflAt s.efl n
  if s.b.eflState n = eUP ∧ (x.nak ∨ x.owed ≠ 0 ∨ x.acked ≠ (x.expSeq + 1023) % 1024) then eflEmit s n 0 none else s

/-- Send a packet: it takes the next SEQ and waits in the replay buffer; beyond 256 unacknowledged cells it leaves only
when ACK makes room, and during a retrain once the link is UP again (19 R390, R391). -/
def eflSend (s : State) (n : Nat) (p : EflPkt) : State :=
  let x := eflAt s.efl n
  let s := s.eflUpd n fun x => { x with replay := x.replay ++ [(x.nextSeq, p)], nextSeq := (x.nextSeq + 1) % 1024,
                                        ackAt := if x.replay = [] then s.b.aonUs else x.ackAt }
  if x.replay.length < 256 ∧ s.b.eflState n = eUP then eflEmit s n x.nextSeq (some p) else s

/-- Outbound requests awaiting answers. -/
def Efl.outb (x : Efl) : Nat := x.slots.length
/-- Show OUTST. -/
def eflOutst (s : State) (n : Nat) : State :=
  let x := eflAt s.efl n
  { s with b := (s.b.setFld (eflPage n) EFL.OUTST_OUTB x.outb).setFld (eflPage n) EFL.OUTST_INB x.inb.length }

/-- A free response slot, which is the link tag (19 R392). -/
def Efl.freeTag (x : Efl) : Option Nat :=
  (List.range 128).find? fun i => (SMap.get (fun _ => none) x.slots i).isNone

/-- The open grant of initiator `src` at reservation point `p` (14 R289). -/
def Hop.grant (h : Hop) (src p : Nat) : Nat := SMap.get (fun _ => 0) h.grants (1024 * src + p)
/-- Set it. -/
def Hop.setGrant (h : Hop) (src p v : Nat) : Hop := { h with grants := SMap.set (fun _ => 0) h.grants (1024 * src + p) v }

/-- An outbound request at its local port (19 R396, R398): answered, or sent (no answer yet), or, when it holds no grant
or the port no credit, not sent at all (none). Engines that reserve on their own pass `grant` false. -/
def eflOutbound (s : State) (n : Nat) (r : HopReq) (write grant : Bool) : Option (State × Option HopRsp) :=
  let pg := eflPage n
  let x := eflAt s.efl n
  if !s.b.enabled pg then some (s, some (rspStatus stDISABLED))
  else if !r.priv && !nbit (s.b.fld pg EFL.TXMASK_CTX) r.ctx.val then
    some ({ s with b := (s.b.logErr pg { kind := 3, addr := r.addr.toNat, ctx := some r.ctx.val, src := some r.src.val }).event pg 13 },
      some (rspStatus stFENCE))
  else if s.b.eflState n ≠ eUP ∨ x.quiescing then some (s, some (rspStatus stDISABLED))
  else if grant && s.hop.grant r.src (eflStop n) == 0 then none
  else match x.freeTag with
    | none => none
    | some tag =>
      if x.credits = 0 then none
      else
        let a := BitVec.ofNat 48 (eflRemote r.addr.toNat)
        let s := s.eflUpd n fun x => { x with credits := x.credits - 1, granted := if grant then x.granted - 1 else x.granted,
                                              slots := SMap.set (fun _ => none) x.slots tag (some (write, r)) }
        let s := if grant then { s with hop := s.hop.setGrant r.src (eflStop n) (s.hop.grant r.src (eflStop n) - 1) } else s
        let s := eflSend s n (.req tag (if write then 4 else 1) r.prio a r.bytes (if r.bex && write then some r.be else none))
        let s := if write then eflSend s n (.wdata tag r.data r.poisonL r.poisonH) else s
        let s := if write && (r.poisonL || r.poisonH) then
            { s with b := (s.b.logErr pg { kind := 4, poison := true, addr := a.toNat, ctx := reqLogCtx r,
                                           src := some r.src.val }).event pg 14 } else s
        some (eflOutst s n, none)

/-- The response slot of a link tag is free again. -/
def eflFree (s : State) (n tag : Nat) : State :=
  eflOutst (s.eflUpd n fun x => { x with slots := SMap.set (fun _ => none) x.slots tag none }) n

/-! ### Serving a request (14 R282, 01 R18, R19) -/

/-- What becomes of a request at its target: answered, its answer on its way, or held there. -/
inductive Served
  | ans (s : State) (a : HopRsp)
  | sent (s : State)
  | hold

/-- The bridge stops of a request that leaves tower `t` for tower `u`, by tower: stop 13 toward the next tower, 14 toward the previous
one (14 R279, R280). -/
def bridgesOut (t u : Nat) : List (Nat × Fin 2) :=
  if t = u then []
  else match viaTower t u with
    | some v => [(t, 0), (v, 0)]
    | none => [(t, if u = nextTower t then 0 else 1)]

/-- Where a request joins the package ring, the bridge stop's arbiter of its PRIO serves it (14 R291). -/
def State.cross (s : State) (r : HopReq) (t u : Nat) : State :=
  (bridgesOut t u).foldl (fun s x => s.arbServe (.bridge (tw x.1) x.2 r.prio) (ctxRequester r)) s

/-- Serve a request stamped with epoch `e`: refused at its stop when it has no target, lies across blocks or asks for
no type its region knows; DISABLED when no lift joins the levels (14 R290); held while its way has no credit (R287); else its target
serves it, past its fence when it was `admitted` before. -/
def State.serve (s : State) (r : HopReq) (write e grant admitted : Bool) : Served :=
  let t := s.b.srcTower r.src
  let l := srcLevel r.src
  match targetStop (s.b.gmode t) r.addr.toNat with
  | none => .ans { s with b := hopUnsup s.b r } (rspStatus stUNSUPPORTED)
  | some st =>
    if !oneBlock r then .ans { s with b := hopUnsup s.b r } (rspStatus stUNSUPPORTED)
    else
    let s := { s with b := (s.b.mapUse t).mapUse (st / 256) }
    if !s.reach t l (st / 256) (st / 64 % 4) e then .ans s (rspStatus stDISABLED)
    else if !s.flows r write ((s.b.srcStop r.src).getD 0) st e then .hold
    else match dpaRegion r.addr.toNat with
    | .gddr | .pads _ => match (s.cross r t (st / 256)).coherent t r write admitted with
      | some y => .ans y.1 y.2
      | none => .hold
    | .doorbell q => .sent ((s.cross r t (st / 256)).doorbell q r write)
    | .gecko _ _ =>
      let y := gkRequest s.b s.gko r write admitted
      .ans ({ s with b := y.1, gko := y.2.1 }.cross r t (st / 256)) y.2.2
    | .efmel n => match eflOutbound (s.cross r t (st / 256)) n r write grant with
      | some (s', some a) => .ans s' a
      | some (s', none) => .sent s'
      | none => .hold
    | .reserved => .ans { s with b := hopUnsup s.b r } (rspStatus stUNSUPPORTED)

/-- Wake a sleeping gecko (11 R244). -/
def gkWake (b : Base) (g : Nat) : Base := b.wakePage (gkPage g)

/-- The answer of queue `q` to a request, after at most `n` rounds of the body accesses that it waits for; none while memory
cannot answer them. -/
def State.doorbellAnswer (q : Nat) (r : HopReq) : Nat → State → Option (State × HopRsp)
  | 0, _ => none
  | n + 1, s =>
    match takeAnswer s.b.out r.src r.tag false with
    | some (a, o) => some ({ s with b := { s.b with out := o } }, a)
    | none => match takeAnswer s.b.out r.src r.tag true with
      | some (a, o) => some ({ s with b := { s.b with out := o } }, a)
      | none => State.doorbellAnswer q r n (qServeWait s q)

/-- A sleeping target wakes for an engine's request: a gecko, a queue engine (11 R244, 10 R224). -/
def State.engineWake (s : State) (r : HopReq) : State :=
  let s := s.wakeWay r
  match dpaRegion r.addr.toNat with
  | .gecko g _ => { s with b := gkWake s.b g }
  | .doorbell q => qWake s (q / 16384)
  | _ => s

/-- A request of an engine of the device that waits for its own answer: the next answer in `remote` stands for one that
comes from across an Efmel link. The request itself while the answer is not to be had. -/
def State.engineAccess (s : State) (r : HopReq) (write : Bool) (remote : List HopRsp) :
    Except (HopReq × Bool) (State × HopRsp × List HopRsp) :=
  let s := s.engineWake r
  if s.timedOut r write then .ok (s.engineDone r write (rspStatus stTIMEOUT), rspStatus stTIMEOUT, remote)
  else match s.serve r write (s.b.epoch (s.b.srcTower r.src) (srcLevel r.src)) false (s.wasAdmitted r write) with
  | .ans s' a => .ok (s'.engineDone r write a, a, remote)
  | .hold => .error (r, write)
  | .sent s' =>
    match dpaRegion r.addr.toNat with
    | .efmel n => match remote with
      | a :: rest =>
        let tag := ((List.range 128).find? fun i =>
          (SMap.get (fun _ => none) (eflAt s'.efl n).slots i) == some (write, r)).getD 0
        .ok ((eflFree s' n tag).engineDone r write a, a, rest)
      | [] => .error (r, write)
    | .doorbell q =>
      match State.doorbellAnswer q r (2 * (queueAt s'.que q).wait.length + 2) s' with
      | some y => .ok (y.1.engineDone r write y.2, y.2, remote)
      | none => .error (r, write)
    | _ => .error (r, write)

end Sys2Proof.Machine
end

