-- ==== Sys2Proof/Machine/GeckoDma.lean ====
section
/-! DEFINITION. Gecko DMA channels: start, transfer and completion word (11 R238, R239). -/
namespace Sys2Proof.Machine

/-- Is channel `n` busy? -/
def Base.dmaBusy (b : Base) (g n : Nat) : Bool := b.bit (gkPage g) (GKC.DMA_STAT_BUSY.nth n)
/-- Is any channel busy? -/
def Base.dmaAny (b : Base) (g : Nat) : Bool := (List.range 4).any (b.dmaBusy g)
/-- BUSY of a channel, in DMAn_STAT and in STAT.DMAB. -/
def Base.setDmaBusy (b : Base) (g n : Nat) (x : Bool) : Base :=
  let pg := gkPage g
  (b.setBit pg (GKC.DMA_STAT_BUSY.nth n) x).setFld pg GKC.STAT_DMAB (nwr (b.fld pg GKC.STAT_DMAB) n x)

/-- Start channel `n` with what its registers hold; a busy channel ignores it and sets DMA_REJ. -/
def dmaStart (b : Base) (k : Gecko) (g n : Nat) : Base × Gecko :=
  let pg := gkPage g
  if b.dmaBusy g n then (b.event pg 15, k)
  else
    let c : Chan := ⟨b.fld pg (GKC.DMA_LADDR.nth n), b.fld pg (GKC.DMA_DPA_LO.nth n) + 2 ^ 32 * b.fld pg (GKC.DMA_DPA_HI_ADDR.nth n),
      b.fld pg (GKC.DMA_COUNT_COUNT.nth n), b.bit pg (GKC.DMA_CTRL_DIR.nth n), b.bit pg (GKC.DMA_CTRL_QEN.nth n),
      b.fld pg (GKC.DMA_CTRL_QUEUE.nth n), false⟩
    let b := (b.setFld pg (GKC.DMA_STAT.nth n) 0).setDmaBusy g n true
    (b, { k with chan := SMap.set (fun _ => none) k.chan n (some c) })


/-- The first word of the memory a local range lies in, or none where it leaves its memory (11 R225, R238). -/
def chanWord (c : Chan) : Option Nat :=
  let fin := c.laddr + c.count
  if c.laddr < 0x20000 then if fin ≤ 0x20000 then some (xmWord0 + c.laddr / 32) else none
  else if c.laddr < 0x40000 then if fin ≤ 0x40000 then some (ymWord0 + (c.laddr - 0x20000) / 32) else none
  else if Config.imLocalBase ≤ c.laddr ∧ fin ≤ Config.imLocalBase + 0x10000 then
    some (imWord0 + (c.laddr - Config.imLocalBase) / 32)
  else none

/-- Why a channel ends at once: an ECODE, 0 for COUNT = 0 (11 R238); none when it runs. -/
def chanEnds (b : Base) (g : Nat) (c : Chan) : Option Nat :=
  if c.laddr % 32 ≠ 0 ∨ c.dpa % 32 ≠ 0 ∨ c.count % 32 ≠ 0 then some 1
  else match chanWord c with
    | none => if c.count = 0 then some 0 else some 2
    | some w => if !c.toDpa && decide (w < xmWord0) && !b.gkIdle g then some 3 else if c.count = 0 then some 0 else none

/-- The completion word (11 R239). -/
def dmaWord (g n moved : Nat) (err poison : Bool) : BitVec 64 :=
  BitVec.ofNat 64 (moved % 2 ^ 18 + n <<< 18 + g <<< 20 + b2n err <<< 27 + b2n poison <<< 28)

/-- A write of gecko `g` is answered: a refused push of a completion word sets DMA_ERR (11 R239), a failed write-back is logged
(R234). -/
def gkWritten (b : Base) (g : Nat) (r : HopReq) (a : HopRsp) : Base :=
  match dpaRegion r.addr.toNat with
  | .doorbell _ => b.eventIf (a.status != stOK) (gkPage g) 11
  | _ => if a.status = stOK ∨ a.status = stPOISONED then b else wbError b g (r.addr.toNat / 64)

/-- Push a completion word to a queue, tagged with BIND.CTX (11 R239). A push that no answer meets at once is outstanding under its
tag; one that finds no credit reaches the queue with a later WR. -/
def dmaPush (s : State) (g q : Nat) (w : BitVec 64) : State :=
  let r0 := engineReq (256 + g) false (s.b.gkCtx g) (doorbellDpa q) 8 (BitVec.ofNat 64 255) false (w.setWidth 512) false false
  let r := { r0 with tag := s.hop.newTag r0.src }
  let s0 := s.engineWake r
  let done (s : State) (a : HopRsp) : State :=
    let s := State.countAnswer { s with hop := s.hop.setTag r.src r.tag none } r a
    { s with b := gkWritten s.b g r a }
  match (s0.inject r true true).serve r true (s.b.epoch (s.b.srcTower r.src) (srcLevel r.src)) false false with
  | .ans s1 a => done s1 a
  | .sent s1 => match takeAnswer s1.b.out r.src r.tag false with
    | some (a, o) => done { s1 with b := { s1.b with out := o } } a
    | none => s1
  | .hold => s0.inject r true false

/-- A channel ends: status, events, completion word (11 R238, R239). `ecode` 0 is no error. -/
def dmaEnd (s : State) (g n moved ecode : Nat) (poison : Bool) : State :=
  let pg := gkPage g
  match SMap.get (fun _ => none) (s.gko.at g).chan n with
  | none => s
  | some c =>
    let err := ecode != 0
    let b := (s.b.setFld pg (GKC.DMA_STAT.nth n) (2 + 4 * b2n err + 8 * b2n poison + 16 * ecode)).setDmaBusy g n false
    let b := (b.event pg 10).eventIf err pg 11
    let s1 := { s with b := b, gko := s.gko.upd g fun k => { k with chan := SMap.set (fun _ => none) k.chan n none } }
    if c.qen then dmaPush s1 g c.queue (dmaWord g n moved err poison) else s1

/-- A channel just started ends at once where R238 says so. -/
def dmaKick (s : State) (g n : Nat) : State :=
  match SMap.get (fun _ => none) (s.gko.at g).chan n with
  | none => s
  | some c => match chanEnds s.b g c with
    | some e => dmaEnd s g n 0 e false
    | none => s

/-- One block of a transfer: its first DPA and its end within the channel's range. -/
def chanBlock (c : Chan) (i : Nat) : Nat × Nat :=
  let a := (c.dpa / 64 + i) * 64
  (max a c.dpa, min (a + 64) (c.dpa + c.count))

/-- Read the local words of a block: the block's data and the poison of its halves. -/
def readLocal (s : State) (g w : Nat) (c : Chan) (lo hi : Nat) : State × BitVec 512 × Bool × Bool :=
  let one (s : State) (h : Nat) : State × BitVec 256 × Bool :=
    let a := lo / 64 * 64 + 32 * h
    if lo ≤ a ∧ a < hi then
      let i := (a - c.dpa) / 32
      let y := gmRead s.b s.gko g (w + i) (c.laddr + 32 * i) (some (s.b.gkCtx g)) none
      ({ s with b := y.1 }, y.2)
    else (s, 0, false)
  let x := one s 0
  let y := one x.1 1
  (y.1, joinHalves x.2.1 y.2.1, x.2.2, y.2.2)

/-- Write a block's data into the local words. -/
def writeLocal (s : State) (g w : Nat) (c : Chan) (lo hi : Nat) (d : BitVec 512) (pl ph : Bool) : State :=
  [(0, pl), (1, ph)].foldl (fun s (e : Nat × Bool) =>
    let a := lo / 64 * 64 + 32 * e.1
    if lo ≤ a ∧ a < hi then
      { s with gko := (s.gko.write g (w + (a - c.dpa) / 32) (half d e.1) (BitVec.allOnes 32) e.2).1 }
    else s) s

/-- Move the blocks from number `i` on: the state, bytes moved, ECODE and poison; the request whose answer is not to be had. -/
def dmaMove (s : State) (g w : Nat) (c : Chan) (remote : List HopRsp) (moved : Nat) (poison : Bool) :
    Nat → Nat → Except (HopReq × Bool) (State × Nat × Nat × Bool)
  | 0, _ => .ok (s, moved, 0, poison)
  | n + 1, i =>
    let lo := (chanBlock c i).1
    let hi := (chanBlock c i).2
    let req (d : BitVec 512) (pl ph : Bool) : HopReq :=
      engineReq (256 + g) false (s.b.gkCtx g) lo (hi - lo) 0 false d pl ph
    if c.toDpa then
      let x := readLocal s g w c lo hi
      match x.1.engineAccess (req x.2.1 x.2.2.1 x.2.2.2) true remote with
      | .error e => .error e
      | .ok (s1, a, rem) =>
        let p := poison || x.2.2.1 || x.2.2.2 || a.status == stPOISONED
        if a.status = stOK ∨ a.status = stPOISONED then dmaMove s1 g w c rem (moved + (hi - lo)) p n (i + 1)
        else .ok (s1, moved, 4, p)
    else
      match s.engineAccess (req 0 false false) false remote with
      | .error e => .error e
      | .ok (s1, a, rem) =>
        if a.isData then
          let s2 := writeLocal s1 g w c lo hi a.data a.poisonL a.poisonH
          let pl := a.poisonL && decide (lo % 64 = 0)
          let ph := a.poisonH && decide (hi % 64 = 0)
          dmaMove s2 g w c rem (moved + (hi - lo)) (poison || pl || ph) n (i + 1)
        else if a.status = stPOISONED then dmaMove s1 g w c rem (moved + (hi - lo)) true n (i + 1)
        else .ok (s1, moved, 4, poison)

/-- The whole transfer of a channel. One into instruction memory ends with ECODE 3 once the gecko has run: how many of its blocks had
moved by then the commands do not say, a free value (11 R238). -/
def dmaRun (s : State) (g : Nat) (c : Chan) (remote : List HopRsp) : Except (HopReq × Bool) (State × Nat × Nat × Bool) :=
  let n := (c.dpa + c.count + 63) / 64 - c.dpa / 64
  match chanWord c with
  | none => .ok (s, 0, 2, false)
  | some w =>
    if c.ran && !c.toDpa && decide (w < xmWord0) then
      match dmaMove { s with b := s.b.bump } g w c remote 0 false ((Config.freeBits 11 s.b.free).toNat % n) 0 with
      | .ok (s1, moved, e, p) => .ok (s1, moved, if e = 0 then 3 else e, p)
      | .error e => .error e
    else dmaMove s g w c remote 0 false n 0

/-- A gecko that begins to run ends its channels' writes to instruction memory (11 R238). -/
def Gecko.runs (k : Gecko) : Gecko := { k with chan := SMap.mapKV (fun _ => none) (fun _ c => c.map fun c => { c with ran := true }) k.chan }

end Sys2Proof.Machine
end

