-- ==== Sys2Proof/Machine/GeckoExec.lean ====
section
/-! DEFINITION. One gecko bundle: decoding, legality, faults, window readiness, effects, loop end and exceptions
(11 R225 to R236; 12 R245 to R264; 13 R270). -/
namespace Sys2Proof.Machine

/-! ### Decoding (12 R245 to R249, R255 to R260) -/

/-- Field [hi:lo] of a slot word. -/
def fld (w : Word) (hi lo : Nat) : Nat := wget w hi lo
/-- A five-bit register number. -/
def r5 (n : Nat) : Fin 32 := ⟨n % 32, Nat.mod_lt _ (by decide)⟩
/-- A four-bit register number. -/
def r4 (n : Nat) : Fin 16 := ⟨n % 16, Nat.mod_lt _ (by decide)⟩
/-- A three-bit number. -/
def r3 (n : Nat) : Fin 8 := ⟨n % 8, Nat.mod_lt _ (by decide)⟩
/-- A two-bit number. -/
def r2 (n : Nat) : Fin 4 := ⟨n % 4, Nat.mod_lt _ (by decide)⟩
/-- A bundle number. -/
def r12 (n : Nat) : Fin 4096 := ⟨n % 4096, Nat.mod_lt _ (by decide)⟩

/-- A value kept only where its zero fields are zero (12 R246). -/
def when {α : Type} (c : Bool) (x : α) : Option α := if c then some x else none

/-- The R-format operation of an opcode. -/
def aluOf : Nat → Option AluOp
  | 1 => some .add | 2 => some .sub | 3 => some .and | 4 => some .or | 5 => some .xor | 6 => some .sll | 7 => some .srl
  | 8 => some .sra | 9 => some .mul | 10 => some .slt | 11 => some .sltu | _ => none
/-- The I-format operation of an opcode. -/
def aluiOf : Nat → Option AluiOp
  | 0x10 => some .addi | 0x11 => some .andi | 0x12 => some .ori | 0x13 => some .xori | 0x14 => some .slli
  | 0x15 => some .srli | 0x16 => some .srai | 0x18 => some .slti | _ => none
/-- The AG field of FLD. -/
def agFieldOf (n : Nat) : AgField := if n = 0 then .ab else if n = 1 then .al else if n = 2 then .ap else .am

/-- Slot 0 of opcodes 0x20 and up (12 R249). -/
def decCtl (w : Word) (op sd sa : Nat) : Option Slot0 :=
  let tgt := r12 (fld w 11 0)
  let b0 := fld w 15 12 == 0
  if op = 0x20 then when (sd == 0 && sa == 0 && b0) (.br tgt)
  else if op = 0x21 then when (sd == 0 && b0) (.bcond .eqz (r5 sa) tgt)
  else if op = 0x22 then when (sd == 0 && b0) (.bcond .nez (r5 sa) tgt)
  else if op = 0x23 then when (sd == 0 && b0) (.bcond .ltz (r5 sa) tgt)
  else if op = 0x24 then when (sd == 0 && b0) (.bcond .gez (r5 sa) tgt)
  else if op = 0x25 then when (sa == 0 && b0) (.jal (r5 sd) tgt)
  else if op = 0x26 then when (sd == 0 && fld w 15 0 == 0) (.jr (r5 sa))
  else if op = 0x28 then when (sd == 0 && b0) (.loop (r5 sa) tgt)
  else if op = 0x29 then some (.loopi ⟨fld w 25 12 % 16384, Nat.mod_lt _ (by decide)⟩ tgt)
  else if op = 0x30 then when (sd == 0 && fld w 10 0 == 0) (.mvag (r3 (fld w 15 13)) (agFieldOf (fld w 12 11)) (r5 sa))
  else if op = 0x31 then when (sa == 0 && fld w 10 0 == 0) (.mvga (r5 sd) (r3 (fld w 15 13)) (agFieldOf (fld w 12 11)))
  else if op = 0x32 then when (fld w 25 8 == 0) (.agc (BitVec.ofNat 8 (fld w 7 0)))
  else if op = 0x33 then when (fld w 20 0 == 0) (.mvgs (r5 sd))
  else if op = 0x34 then when (fld w 25 1 == 0) (.setov (fld w 0 0 == 1))
  else if op = 0x38 then
    when (fld w 23 21 == 0 && fld w 15 2 == 0) (.dma (r2 (fld w 25 24)) (r5 sa) (fld w 0 0 == 1) (fld w 1 1 == 1))
  else if op = 0x39 then when (fld w 23 0 == 0) (.dwait (r2 (fld w 25 24)))
  else if op = 0x3C then when (fld w 23 0 == 0) (.wait (r2 (fld w 25 24)))
  else if op = 0x3D then when (fld w 25 0 == 0) .halt
  else none

/-- Slot 0 (12 R248, R249). -/
def decSlot0 (w : Word) : Option Slot0 :=
  let op := fld w 31 26
  let sd := fld w 25 21
  let sa := fld w 20 16
  let imm := BitVec.ofNat 16 (fld w 15 0)
  if op = 0 then when (w == 0) .nop
  else match aluOf op with
  | some a => when (fld w 10 0 == 0) (.alu a (r5 sd) (r5 sa) (r5 (fld w 15 11)))
  | none =>
    if op = 0x0C then when (fld w 15 0 == 0) (.mov (r5 sd) (r5 sa))
    else match aluiOf op with
    | some a =>
      when (!(a == .slli || a == .srli || a == .srai) || fld w 15 5 == 0) (.alui a (r5 sd) (r5 sa) imm)
    | none => if op = 0x17 then when (sa == 0) (.lui (r5 sd) imm) else decCtl w op sd sa

/-- The X/Y operation of an opcode. -/
def memOpOf : Nat → Option MemOp
  | 1 => some .ldv | 2 => some .stv | 3 => some .lds | 4 => some .sts | 5 => some .ldbh | 6 => some .ldbb
  | 7 => some .pref | _ => none
/-- Does an X/Y operation name a V register? -/
def memVec : MemOp → Bool
  | .ldv | .stv | .ldbh | .ldbb => true
  | .lds | .sts | .pref => false

/-- The address of an X or Y slot word (12 R255). -/
def decAddr (w : Word) : AddrForm :=
  let imm := BitVec.ofNat 12 (fld w 11 0)
  if fld w 20 20 = 1 then .ag (r3 (fld w 19 17)) (r2 (fld w 16 15)) imm else .sreg (r5 (fld w 19 15)) imm

/-- Slot 1 or 2 (12 R255, R256). -/
def decMem (w : Word) : Option MemSlot :=
  if fld w 31 26 = 0 then when (w == 0) .nop
  else (memOpOf (fld w 31 26)).map fun op => .acc op (r5 (fld w 25 21)) (decAddr w) (r3 (fld w 14 12))

/-- The three-operand V operations of an opcode. -/
def vbinOf : Nat → Option VBinOp
  | 8 => some .add | 9 => some .sub | 10 => some .min | 11 => some .max | 12 => some .and | 13 => some .or | 14 => some .xor
  | _ => none
/-- The MAC operation of an opcode. -/
def macOf : Nat → Option MacOp
  | 1 => some .mac | 2 => some .msu | 3 => some .mul | _ => none
/-- The comparison of an opcode. -/
def vcmpOf : Nat → Option VCmpOp
  | 0x18 => some .eq | 0x19 => some .lt | 0x1A => some .le | _ => none
/-- Do only additions and subtractions saturate (12 R260)? -/
def vbinSats : VBinOp → Bool
  | .add | .sub => true
  | .min | .max | .and | .or | .xor => false

/-- Slot 3 (12 R259, R260). A register field the opcode does not use must be zero (DEDUCED from R246, R259). -/
def decVec (w : Word) : Option VecSlot :=
  let op := fld w 31 26
  let d := fld w 25 22
  let a := fld w 21 18
  let b := fld w 17 14
  let k := r3 (fld w 13 11)
  let sat := fld w 10 10 == 1
  let wb := fld w 9 9 == 1
  let imm := fld w 8 0
  let low := fld w 13 0 == 0
  if op = 0 then when (w == 0) .nop
  else match macOf op with
  | some m => when (d < 4 && imm == 0) (.mac m wb sat (r2 d) (r4 a) (r4 b) k)
  | none => match vbinOf op with
  | some m => when (imm == 0 && (vbinSats m || !sat)) (.bin m wb sat (r4 d) (r4 a) (r4 b) k)
  | none => match vcmpOf op with
  | some m => when (d < 8 && imm == 0 && !sat) (.cmp m wb (r3 d) (r4 a) (r4 b) k)
  | none =>
    if op = 4 then when (d < 4 && a == 0 && b == 0 && imm == 0 && !sat) (.clr wb (r2 d) k)
    else if op = 5 then when (d < 4 && b == 0 && imm == 0 && !sat) (.ldac wb (r2 d) (r4 a) k)
    else if op = 6 then when (a < 4 && b == 0 && fld w 8 6 == 0)
      (.shr wb sat (r4 d) (r2 a) ⟨imm % 64, Nat.mod_lt _ (by decide)⟩ k)
    else if op = 7 then when (d < 4 && a == 0 && b == 0 && imm == 0 && !sat) (.clrov wb (r2 d) k)
    else if op = 0xF then when (b == 0) (.shl wb sat (r4 d) (r4 a) ⟨imm % 512, Nat.mod_lt _ (by decide)⟩ k)
    else if op = 0x10 then when (b == 0 && !sat) (.sra wb (r4 d) (r4 a) ⟨imm % 512, Nat.mod_lt _ (by decide)⟩ k)
    else if op = 0x11 then when (b == 0 && imm == 0 && !sat) (.mov wb (r4 d) (r4 a) k)
    else if op = 0x12 then when (imm == 0 && !sat) (.sel wb (r4 d) (r4 a) (r4 b) k)
    else if op = 0x13 then when (a == 0 && b == 0 && fld w 8 5 == 0 && !sat) (.bc wb (r4 d) (r5 imm) k)
    else if op = 0x1C then when (d < 8 && a < 8 && b < 8 && low) (.pand (r3 d) (r3 a) (r3 b))
    else if op = 0x1D then when (d < 8 && a < 8 && b < 8 && low) (.por (r3 d) (r3 a) (r3 b))
    else if op = 0x1E then when (d < 8 && a < 8 && b == 0 && low) (.pnot (r3 d) (r3 a))
    else none

/-- A bundle from its four slot words (12 R245). -/
def decBundle (w0 w1 w2 w3 : Word) : Bundle := ⟨decSlot0 w0, decMem w1, decMem w2, decVec w3⟩

/-! ### Legality (12 R246, R252, R254, R256, R257, R263) -/

/-- Is slot 0 legal in its bundle at `pc`, with the loop levels of `k`? -/
def slot0Legal (k : Gecko) (pc : Nat) : Slot0 → Bool
  | .loop _ e | .loopi _ e =>
    decide (pc < e.val) && (k.depth == 0 || decide (e.val ≤ (k.loopv 2 (k.depth - 1)).toNat))
  | .dma _ sa _ _ => sa.val % 4 == 0 && decide (4 ≤ sa.val ∧ sa.val ≤ 28)
  | .alui op _ _ imm => !(op == .slli || op == .srli || op == .srai) || decide (imm.toNat < 32)
  | .nop | .alu _ _ _ _ | .mov _ _ | .lui _ _ | .br _ | .bcond _ _ _ | .jal _ _ | .jr _ | .mvag _ _ _ | .mvga _ _ _
  | .agc _ | .mvgs _ | .setov _ | .dwait _ | .wait _ | .halt => true

/-- Is an X or Y slot legal? -/
def memLegal : MemSlot → Bool
  | .nop => true
  | .acc op r a pred =>
    (!memVec op || decide (r.val < 16)) && (op != .pref || r.val == 0) && (op == .stv || pred.val == 0) &&
    (match a with
     | .ag _ mode imm => mode.val != 3 && (mode.val == 2 || imm == 0)
     | .sreg _ _ => true)

/-- Is a vector slot legal? -/
def vecLegal : VecSlot → Bool
  | .shr w _ _ _ n _ => decide (n.val ≤ if w then 19 else 39)
  | .shl w _ _ _ n _ | .sra w _ _ n _ => decide (n.val ≤ if w then 7 else 15)
  | .bin op _ sat _ _ _ _ => vbinSats op || !sat
  | .nop | .mac _ _ _ _ _ _ _ | .clr _ _ _ | .ldac _ _ _ _ | .clrov _ _ _ | .mov _ _ _ _ | .sel _ _ _ _ _
  | .bc _ _ _ _ | .cmp _ _ _ _ _ _ | .pand _ _ _ | .por _ _ _ | .pnot _ _ => true

/-- The registers a slot writes, for R263: S from 0, V from 100, AC from 200, P from 300, AG live from 400, AG shadow
from 500. S0 and P0 do not count. -/
def slot0Writes : Slot0 → List Nat
  | .alu _ d _ _ | .mov d _ | .alui _ d _ _ | .lui d _ | .jal d _ | .mvga d _ _ | .mvgs d => if d.val = 0 then [] else [d.val]
  | .mvag n f _ => [500 + 4 * n.val + agNum f]
  | .agc m => ((List.range 8).filter fun n => m.getLsbD n).flatMap fun n => (List.range 4).map fun f => 400 + 4 * n + f
  | .nop | .br _ | .bcond _ _ _ | .jr _ | .loop _ _ | .loopi _ _ | .setov _ | .dma _ _ _ _ | .dwait _ | .wait _ | .halt => []

/-- The pointers an address form post-modifies. -/
def formWrites : AddrForm → List Nat
  | .ag n mode _ => if mode.val = 1 ∨ mode.val = 2 then [400 + 4 * n.val + 2, 500 + 4 * n.val + 2] else []
  | .sreg _ _ => []

/-- The registers an X or Y slot writes. -/
def memWrites : MemSlot → List Nat
  | .nop => []
  | .acc op r a _ =>
    formWrites a ++ (match op with
      | .ldv | .ldbh | .ldbb => [100 + r.val]
      | .lds => if r.val = 0 then [] else [r.val]
      | .stv | .sts | .pref => [])

/-- The registers a vector slot writes. -/
def vecWrites : VecSlot → List Nat
  | .mac _ _ _ d _ _ _ | .clr _ d _ | .ldac _ d _ _ | .clrov _ d _ => [200 + d.val]
  | .shr _ _ d _ _ _ | .bin _ _ _ d _ _ _ | .shl _ _ d _ _ _ | .sra _ d _ _ _ | .mov _ d _ _ | .sel _ d _ _ _
  | .bc _ d _ _ => [100 + d.val]
  | .cmp _ _ d _ _ _ | .pand d _ _ | .por d _ _ | .pnot d _ => if d.val = 0 then [] else [300 + d.val]
  | .nop => []

/-- Do two lists share a register? -/
def clash (a b : List Nat) : Bool := a.any fun x => b.contains x

/-- The slots of a bundle, those that do not decode as NOP. -/
def Slots (bu : Bundle) : Slot0 × MemSlot × MemSlot × VecSlot :=
  (bu.s0.getD .nop, bu.x.getD .nop, bu.y.getD .nop, bu.v.getD .nop)

/-- The slots that raise ILLEGAL (12 R246, R263): a pair that breaks a pairing rule marks its lower slot. -/
def illegalSlots (k : Gecko) (pc : Nat) (bu : Bundle) : List Nat :=
  let t := Slots bu
  let w := [slot0Writes t.1, memWrites t.2.1, memWrites t.2.2.1, vecWrites t.2.2.2]
  let bad := [bu.s0.isNone || !slot0Legal k pc t.1, bu.x.isNone || !memLegal t.2.1,
              bu.y.isNone || !memLegal t.2.2.1, bu.v.isNone || !vecLegal t.2.2.2]
  (List.range 4).filter fun i =>
    bad.getD i false || (List.range 4).any fun j => decide (i < j) && clash (w.getD i []) (w.getD j [])

/-! ### Where an access goes (11 R225, R228) -/

/-- One 32-byte cell of an access: a word of the gecko's own memories, a pad row, or half of a window line. -/
inductive GCell
  | word (w : Nat)
  | row (pad r : Nat)
  | half (l h : Nat)
  deriving DecidableEq, Repr

/-- The cells from local address `a` (aligned to its unit) over `n` 32-byte cells, or none where R225 maps nothing for
the slot; `y` is the Y slot. -/
def gkCells (b : Base) (g : Nat) (y : Bool) (a n : Nat) : Option (List GCell) :=
  let c := List.range n
  let i := a / 32
  if a < 0x20000 then when (!y) (c.map fun j => .word (xmWord0 + i + j))
  else if a < 0x40000 then when y (c.map fun j => .word (ymWord0 + (a - 0x20000) / 32 + j))
  else if 0x1000000 ≤ a ∧ a < 0x1800000 then
    let o := (a - 0x1000000) / 32
    some (c.map fun j => .row (32 * g + (o + j) / 8192) ((o + j) % 8192))
  else if 0x2000000 ≤ a ∧ a < 0x2800000 then
    let o := (a - 0x2000000) / 32
    some (c.map fun j => .row (32 * g + 4 * ((o + j) / 32768) + (o + j) % 4) ((o + j) % 32768 / 4))
  else if 0x40000000 ≤ a ∧ a < 0x80000000 then
    let d := (b.fld (gkPage g) GKC.GWIN_BASE * 2 ^ 30 + (a - 0x40000000)) / 32
    some (c.map fun j => .half ((d + j) / 2) ((d + j) % 2))
  else none

/-- How many cells an operation touches. -/
def opCells : MemOp → Nat
  | .ldv | .stv => 4
  | .lds | .sts | .ldbh | .ldbb => 1
  | .pref => 0

/-- Is a pad access of gecko `g` admitted (11 R228, 09 R193)? -/
def padAdmits (b : Base) (g pad : Nat) : Bool :=
  b.pondUp g && b.padOwner (pad / 32) (pad % 32) (b.gkCtx g) == 1

/-- The pad rows of an access that are not admitted. -/
def refusedRows (b : Base) (g : Nat) (cs : List GCell) : List (Nat × Nat) :=
  cs.filterMap fun c => match c with
    | .row pad r => if padAdmits b g pad then none else some (pad, r)
    | .word _ | .half _ _ => none

/-- Does a store write anything: an stv whose predicate is all zero does not (12 R257)? -/
def storesNothing (k : Gecko) (op : MemOp) (pred : Fin 8) : Bool := op == .stv && k.preg pred == 0

/-- A fault: its cause and EADDR (11 R234). -/
abbrev GFault := Nat × Nat
/-- Causes (11 R234). -/
def cILLEGAL : Nat := 1
def cIMUC : Nat := 2
def cADDR : Nat := 3
def cFENCE : Nat := 4
def cPOISON : Nat := 5
def cOVERFLOW : Nat := 6
def cLOOP : Nat := 7
def cBUS : Nat := 8

/-- The fault an X or Y slot raises before any memory answers: poison as an address, ADDR, or a refused pad. -/
def memFault (b : Base) (g : Nat) (k : Gecko) (y : Bool) : MemSlot → Option GFault
  | .nop => none
  | .acc op _ a pred =>
    let ad := (k.address op a).toNat
    if k.addrTag a then some (cPOISON, ad)
    else if op = .pref then none
    else if ad % opUnit op ≠ 0 then some (cADDR, ad)
    else match gkCells b g y ad (opCells op) with
      | none => some (cADDR, ad)
      | some cs =>
        if storesNothing k op pred then none
        else if refusedRows b g cs ≠ [] then some (cFENCE, ad) else none

/-- The fault slot 0 raises: poison consumed, or a loop-stack overflow (11 R233; 12 R249, R252, R254). -/
def slot0Fault (k : Gecko) : Slot0 → Option GFault
  | .alu _ _ a c => if k.sTag a || k.sTag c then some (cPOISON, 0) else none
  | .alui _ _ a _ | .bcond _ a _ | .jr a | .mvag _ _ a => if k.sTag a then some (cPOISON, 0) else none
  | .loop a _ => if k.sTag a then some (cPOISON, 0) else if 4 ≤ k.depth then some (cLOOP, 0) else none
  | .loopi _ _ => if 4 ≤ k.depth then some (cLOOP, 0) else none
  | .dma _ a _ _ => if (List.range 4).any (fun i => k.sTag (a.val + i)) then some (cPOISON, 0) else none
  | .nop | .mov _ _ | .lui _ _ | .br _ | .jal _ _ | .mvga _ _ _ | .agc _ | .mvgs _ | .setov _ | .dwait _ | .wait _
  | .halt => none

/-- What each slot raises, in slot order: ILLEGAL first within a slot. -/
def bundleFaults (b : Base) (g : Nat) (k : Gecko) (pc : Nat) (bu : Bundle) : List (Nat × GFault) :=
  let t := Slots bu
  let ill := illegalSlots k pc bu
  let f := [slot0Fault k t.1, memFault b g k false t.2.1, memFault b g k true t.2.2.1,
            if vecConsumes k t.2.2.2 then some (cPOISON, 0) else none]
  (List.range 4).filterMap fun i =>
    if ill.contains i then some (i, (cILLEGAL, 0)) else (f.getD i none).map fun x => (i, x)

/-! ### Exceptions and the run state (11 R233 to R235) -/

/-- Nothing is held any more. -/
def Gecko.release (k : Gecko) : Gecko := { k with stall := none, looked := false }

/-- Set RUN. -/
def Base.setRun (b : Base) (g v : Nat) : Base := b.setFld (gkPage g) GKC.STAT_RUN v
/-- The program counter. -/
def Base.gkPc (b : Base) (g : Nat) : Nat := b.fld (gkPage g) GKC.PC_PC
/-- Set the program counter. -/
def Base.setPc (b : Base) (g v : Nat) : Base := b.setFld (gkPage g) GKC.PC_PC v

/-- The first pad row that an X or Y slot is refused. -/
def slotRefused (b : Base) (g : Nat) (k : Gecko) (y : Bool) : MemSlot → Option (Nat × Nat)
  | .nop => none
  | .acc op _ a _ => (refusedRows b g ((gkCells b g y (k.address op a).toNat (opCells op)).getD [])).head?

/-- The pond logs the port-A request that a FENCE exception in slot `i` reports (09 R193, 05 R108); a disabled page refuses without a
log. -/
def fenceLog (b : Base) (g : Nat) (k : Gecko) (bu : Bundle) (i : Nat) (f : GFault) : Base :=
  let m := if i = 1 then (Slots bu).2.1 else (Slots bu).2.2.1
  match slotRefused b g k (i == 2) m with
  | some (pad, r) =>
    if f.1 = cFENCE ∧ b.pondUp g = true then
      (b.logErr (pond g) { kind := 3, addr := padBase pad + 32 * r, ctx := some (b.gkCtx g), src := some (256 + g) }).event (pond g) 9
    else b
  | none => b

/-- Take an exception (11 R234): RUN, EPC, cause, slot, address and the event. PC holds the bundle at which execution
resumes. -/
def gkRaise (b : Base) (g slot : Nat) (f : GFault) (epc : Nat) : Base :=
  let pg := gkPage g
  let b := ((b.setRun g rEXCEPTION).setFld pg GKC.EPC_EPC epc).setPc g epc
  let b := ((b.setFld pg GKC.ECAUSE_CAUSE f.1).setFld pg GKC.ECAUSE_SLOT slot).setFld pg GKC.EADDR f.2
  b.event pg 8

/-- RUN of a gecko that is to run: PAUSED where GATE holds it (11 R236). -/
def Base.runOrPause (b : Base) (g : Nat) : Nat :=
  if b.bit (gkPage g) GKC.BIND_GATE && b.gkCtx g != b.fld (.chm (tw (g / 32))) CHM.STAT_LIVE then rPAUSED else rRUNNING

/-- GST (11 R231, R232). -/
def Base.gst (b : Base) (g : Nat) (k : Gecko) : Word :=
  let pg := gkPage g
  let bits (f : Nat → Bool) : Nat := (List.range 4).foldl (fun a i => if f i then a + 2 ^ i else a) 0
  w32 (b2n k.ovtrap + 2 * b2n ((List.range 4).any fun i => k.ov i != 0) +
    16 * bits (fun i => b.geckoLine g i) + 256 * bits (fun i => b.bit pg (GKC.DMA_STAT_BUSY.nth i)) +
    4096 * bits (fun i => b.bit pg (GKC.DMA_STAT_DONE.nth i)) + 65536 * (k.depth % 8))

/-! ### Slot 0 -/

/-- Where fetch goes after a bundle: on, to a taken target, or into a new loop. -/
inductive Flow
  | next
  | taken (t : Nat)
  deriving DecidableEq, Repr

/-- What slot 0 writes to registers, operands read from `k0` (12 R247, R249). -/
def slot0Regs (b : Base) (g pc : Nat) (k0 k : Gecko) : Slot0 → Gecko
  | .alu op d a c => k.setS d (aluVal op (k0.sreg a) (k0.sreg c)) false
  | .mov d a => k.setS d (k0.sreg a) (k0.sTag a)
  | .alui op d a i => k.setS d (aluiVal op (k0.sreg a) i) false
  | .lui d i => k.setS d (i.setWidth 32 <<< 16) false
  | .jal d _ => k.setS d (w32 ((pc + 1) % 4096)) false
  | .mvag n f a => k.mvag n f (k0.sreg a)
  | .mvga d n f => k.setS d (k0.agv n f) false
  | .agc m => k.agc m
  | .mvgs d => k.setS d (b.gst g k0) false
  | .setov x => { k with ovtrap := x }
  | .nop | .br _ | .bcond _ _ _ | .jr _ | .loop _ _ | .loopi _ _ | .dma _ _ _ _ | .dwait _ | .wait _ | .halt => k

/-- Push a loop level (11 R233, 12 R252). -/
def Gecko.pushLoop (k : Gecko) (n : Word) (pc e : Nat) : Gecko :=
  let l := k.depth
  { ((k.setLoop 0 l n).setLoop 1 l (w32 ((pc + 1) % 4096))).setLoop 2 l (w32 e) with depth := l + 1 }

/-- Branches and loops: the flow, and the pushed level (12 R251, R252). -/
def slot0Flow (k0 k : Gecko) (pc : Nat) : Slot0 → Flow × Gecko
  | .br t | .jal _ t => (.taken t, k)
  | .bcond c a t => (if brTaken c (k0.sreg a) then .taken t else .next, k)
  | .jr a => (.taken ((k0.sreg a).toNat % 4096), k)
  | .loop a e => if k0.sreg a = 0 then (.taken ((e.val + 1) % 4096), k) else (.next, k.pushLoop (k0.sreg a) pc e)
  | .loopi n e => if n.val = 0 then (.taken ((e.val + 1) % 4096), k) else (.next, k.pushLoop (w32 n) pc e)
  | .nop | .alu _ _ _ _ | .mov _ _ | .alui _ _ _ _ | .lui _ _ | .mvag _ _ _ | .mvga _ _ _ | .agc _ | .mvgs _ | .setov _
  | .dma _ _ _ _ | .dwait _ | .wait _ | .halt => (.next, k)

/-- The loop levels whose range holds `t`. -/
def Gecko.levelsWith (k : Gecko) (t : Nat) : List Nat :=
  (List.range k.depth).filter fun l => decide ((k.loopv 1 l).toNat ≤ t) && decide (t ≤ (k.loopv 2 l).toNat)

/-- Keep only the loop levels `ls`, outermost first. -/
def Gecko.keepLevels (k : Gecko) (ls : List Nat) : Gecko :=
  let k' := ls.zipIdx.foldl (fun k' (e : Nat × Nat) =>
    ((k'.setLoop 0 e.2 (k.loopv 0 e.1)).setLoop 1 e.2 (k.loopv 1 e.1)).setLoop 2 e.2 (k.loopv 2 e.1)) k
  { k' with depth := ls.length }

/-- Loop-end evaluation after the bundle at `pc` (11 R233): the next bundle. `n` bounds the levels evaluated. -/
def Gecko.loopEnd (k : Gecko) (pc : Nat) : Nat → Gecko × Nat
  | 0 => (k, (pc + 1) % 4096)
  | n + 1 =>
    let l := k.depth - 1
    if k.depth = 0 ∨ (k.loopv 2 l).toNat ≠ pc then (k, (pc + 1) % 4096)
    else if 1 < (k.loopv 0 l).toNat then (k.setLoop 0 l (k.loopv 0 l - 1), (k.loopv 1 l).toNat % 4096)
    else Gecko.loopEnd { k with depth := l } pc n

/-- The next bundle, with the loop levels brought up to date (11 R233, 12 R251). `d0` says whether a level was pushed by
this very bundle. -/
def Gecko.follow (k : Gecko) (pc : Nat) (fl : Flow) : Gecko × Nat :=
  match fl with
  | .taken t => (k.keepLevels (k.levelsWith t), t)
  | .next => k.loopEnd pc 8

/-! ### DMA start (12 R254) -/

/-- The dma instruction: the channel's registers from four scalars, then GO (12 R254). -/
def dmaInstr (b : Base) (k0 k : Gecko) (g : Nat) : Slot0 → Base × Gecko
  | .dma ch a dir qen =>
    let pg := gkPage g
    let v (i : Nat) : Nat := (k0.sreg (a.val + i)).toNat
    let b := ((b.setFld pg (GKC.DMA_LADDR.nth ch) (v 0)).setFld pg (GKC.DMA_DPA_LO.nth ch) (v 1)).setFld pg
      (GKC.DMA_DPA_HI_ADDR.nth ch) (v 2)
    let b := (b.setFld pg (GKC.DMA_COUNT_COUNT.nth ch) (v 3)).setBit pg (GKC.DMA_CTRL_DIR.nth ch) dir
    dmaStart (b.setBit pg (GKC.DMA_CTRL_QEN.nth ch) qen) k g ch
  | .nop | .alu _ _ _ _ | .mov _ _ | .alui _ _ _ _ | .lui _ _ | .br _ | .bcond _ _ _ | .jal _ _ | .jr _ | .loop _ _
  | .loopi _ _ | .mvag _ _ _ | .mvga _ _ _ | .agc _ | .mvgs _ | .setov _ | .dwait _ | .wait _ | .halt => (b, k)

/-! ### The line cache as the program sees it (11 R240) -/

/-- The lines an access needs, and whether it needs to own them. -/
def slotLines (b : Base) (g : Nat) (k : Gecko) (y : Bool) : MemSlot → List (Nat × Bool)
  | .nop => []
  | .acc op _ a pred =>
    if op = .pref ∨ storesNothing k op pred then []
    else match gkCells b g y (k.address op a).toNat (opCells op) with
      | none => []
      | some cs => (cs.filterMap fun c => match c with
          | .half l _ => some (l, op == .stv || op == .sts)
          | .word _ | .row _ _ => none).eraseDups

/-- May an access proceed: the line is held, owned where it must be? -/
def Gecko.ready (k : Gecko) (n : Nat × Bool) : Bool :=
  match k.line n.1 with
  | some c => !n.2 || decide (2 ≤ c.st)
  | none => false

/-- The lines a bundle needs, X slot first. -/
def bundleLines (b : Base) (g : Nat) (k : Gecko) (bu : Bundle) : List (Nat × Bool) :=
  slotLines b g k false (Slots bu).2.1 ++ slotLines b g k true (Slots bu).2.2.1

/-- Ask for the lines that are missing. A prefetch that is out already serves a load. -/
def Gecko.askFills (k : Gecko) (ns : List (Nat × Bool)) : Gecko :=
  ns.foldl (fun k n =>
    if k.ready n || k.fills.any (fun f => f.line == n.1 && (f.own || !n.2)) then
      { k with fills := k.fills.map fun f => if f.line = n.1 then { f with pref := false } else f }
    else { k with fills := k.fills ++ [⟨n.1, n.2, false, none, none⟩] }) k

/-- pref (12 R258): inside the window, begin a fill of a line not yet held or asked for. The address comes from the gecko `k0`
before the bundle (12 R247, 13 R274). -/
def Gecko.prefetch (b : Base) (g : Nat) (k0 k : Gecko) : MemSlot → Gecko
  | .acc .pref _ a _ =>
    let ad := (k0.address .pref a).toNat
    if 0x40000000 ≤ ad ∧ ad < 0x80000000 then
      let l := (b.fld (gkPage g) GKC.GWIN_BASE * 2 ^ 30 + (ad - 0x40000000)) / 64
      if (k.line l).isSome || k.fills.any (fun f => f.line == l) then k
      else { k with fills := k.fills ++ [⟨l, false, true, none, none⟩] }
    else k
  | .nop | .acc .ldv _ _ _ | .acc .stv _ _ _ | .acc .lds _ _ _ | .acc .sts _ _ _ | .acc .ldbh _ _ _
  | .acc .ldbb _ _ _ => k

/-! ### Loads and stores -/

/-- Read one cell for gecko `g`, logging what its memory finds; a pad's group wakes. -/
def readCell (s : State) (g : Nat) : GCell → State × BitVec 256 × Bool
  | .word w =>
    let a := if w < ymWord0 then (w - xmWord0) * 32 else 0x20000 + (w - ymWord0) * 32
    let x := gmRead s.b s.gko g w a (some (s.b.gkCtx g)) none
    ({ s with b := x.1 }, x.2)
  | .row pad r =>
    let x := rowRead (wakeGroup s.b (pad / 32) (pad % 32)) s.ponds.mem pad r (some (s.b.gkCtx g)) (some (256 + g))
    ({ s with b := x.1, ponds := s.ponds.forgetA pad }, x.2)
  | .half l h =>
    match (s.gko.at g).line l with
    | some c => (s, half c.data h, c.poison)
    | none => (s, 0, false)

/-- Merge the enabled bytes of `d` into the half `h` of a line. -/
def mergeHalf (old : BitVec 512) (h : Nat) (d : BitVec 256) (be : BitVec 32) : BitVec 512 :=
  let m := (List.range 32).foldl (fun a i => if be.getLsbD i then a ||| 255 <<< (8 * i) else a) 0
  let mk : BitVec 512 := BitVec.ofNat 512 (m <<< (256 * h))
  (old &&& ~~~ mk) ||| ((d.setWidth 512 <<< (256 * h)) &&& mk)

/-- Write one cell for gecko `g`. -/
def writeCell (s : State) (g : Nat) (c : GCell) (d : BitVec 256) (be : BitVec 32) (p : Bool) : State :=
  match c with
  | .word w => { s with gko := s.gko.store g w d be p }
  | .row pad r =>
    { s with b := wakeGroup s.b (pad / 32) (pad % 32),
             ponds := ({ s.ponds with mem := (s.ponds.mem.write pad r d be p).1 }.forgetA pad).noteA pad r be }
  | .half l h =>
    { s with gko := s.gko.upd g fun k => k.setLine l ((k.line l).map fun c =>
        { c with st := 3, data := mergeHalf c.data h d be, poison := c.poison || (p && be != 0) }) }

/-- Read cells in order: data and poison of each. -/
def readCells (s : State) (g : Nat) : List GCell → State × List (BitVec 256 × Bool)
  | [] => (s, [])
  | c :: cs =>
    let x := readCell s g c
    let y := readCells x.1 g cs
    (y.1, x.2 :: y.2)

/-- Element of `n` bytes at byte `o` of a 32-byte cell. -/
def cellElt (d : BitVec 256) (o n : Nat) : Nat := (d >>> (8 * o)).toNat % 2 ^ (8 * n)

/-- What a load writes to the registers, from the cells read (12 R256, 13 R266). -/
def loadRegs (k : Gecko) (op : MemOp) (r ad : Nat) (cs : List (BitVec 256 × Bool)) : Gecko :=
  let d0 := (cs.head?.getD (0, false)).1
  let p0 := (cs.head?.getD (0, false)).2
  match op with
  | .ldv =>
    k.setV r (BitVec.ofNat 1024 (cs.foldr (fun c a => c.1.toNat + a <<< 256) 0))
      (BitVec.ofNat 64 (cs.foldr (fun c a => (if c.2 then 65535 else 0) + a <<< 16) 0))
  | .lds => k.setS r (w32 (cellElt d0 (ad % 32) 4)) p0
  | .ldbh => k.setV r (vecOf false (List.replicate 64 (cellElt d0 (ad % 32) 2))) (spread p0)
  | .ldbb => k.setV r (vecOf true (List.replicate 128 (cellElt d0 (ad % 32) 1))) (spread p0)
  | .stv | .sts | .pref => k

/-- Is an operation a load? -/
def isLoad : MemOp → Bool
  | .ldv | .lds | .ldbh | .ldbb => true
  | .stv | .sts | .pref => false

/-- The load of a slot: the state with its reads made and its register written into `k`. -/
def doLoad (s : State) (g : Nat) (y : Bool) (k0 k : Gecko) : MemSlot → State × Gecko
  | .nop => (s, k)
  | .acc op r a _ =>
    if isLoad op then
      let ad := (k0.address op a).toNat
      let x := readCells s g ((gkCells s.b g y ad (opCells op)).getD [])
      (x.1, loadRegs k op r ad x.2)
    else (s, k)

/-- The cells a store writes: data, byte enables and poison of each (11 R232; 12 R256; 13 R273). -/
def storeCells (k0 : Gecko) (op : MemOp) (r ad : Nat) (pred : Fin 8) (cs : List GCell) :
    List (GCell × BitVec 256 × BitVec 32 × Bool) :=
  match op with
  | .stv =>
    let p := k0.preg pred
    cs.zipIdx.map fun e =>
      let lanes := (p >>> (16 * e.2)).setWidth 16
      let be := (List.range 16).foldl (fun a i => if lanes.getLsbD i then a + 3 <<< (2 * i) else a) 0
      (e.1, (k0.vreg r >>> (256 * e.2)).setWidth 256, BitVec.ofNat 32 be,
        ((k0.vTag r >>> (16 * e.2)).setWidth 16 &&& lanes) != 0)
  | .sts =>
    cs.map fun c => (c, (k0.sreg r).setWidth 256 <<< (8 * (ad % 32)), BitVec.ofNat 32 (15 <<< (ad % 32)), k0.sTag r)
  | .ldv | .lds | .ldbh | .ldbb | .pref => []

/-- The bytes of a cell that one bundle stores. -/
def storedBytes (ws : List (GCell × BitVec 256 × BitVec 32 × Bool)) (c : GCell) : BitVec 32 :=
  ws.foldl (fun a w => if w.1 = c then a ||| w.2.2.1 else a) 0

/-- After a whole-line store by one bundle, a line is poisoned only if the store was (11 R240). -/
def clearWhole (s : State) (g : Nat) (ws : List (GCell × BitVec 256 × BitVec 32 × Bool)) : State :=
  ws.foldl (fun s w => match w.1 with
    | .half l 0 =>
      if storedBytes ws (.half l 0) = BitVec.allOnes 32 ∧ storedBytes ws (.half l 1) = BitVec.allOnes 32 then
        let p := ws.any fun v => (v.1 == .half l 0 || v.1 == .half l 1) && v.2.2.2
        { s with gko := s.gko.upd g fun k => k.setLine l ((k.line l).map fun c => { c with poison := p }) }
      else s
    | .half _ _ | .word _ | .row _ _ => s) s

/-- The cells both stores of a bundle write, X slot first (12 R247). -/
def slotStores (b : Base) (g : Nat) (y : Bool) (k0 : Gecko) : MemSlot → List (GCell × BitVec 256 × BitVec 32 × Bool)
  | .nop => []
  | .acc op r a pred =>
    let ad := (k0.address op a).toNat
    if storesNothing k0 op pred then [] else storeCells k0 op r ad pred ((gkCells b g y ad (opCells op)).getD [])

/-- Make the stores. -/
def doStores (s : State) (g : Nat) (ws : List (GCell × BitVec 256 × BitVec 32 × Bool)) : State :=
  clearWhole (ws.foldl (fun s w => writeCell s g w.1 w.2.1 w.2.2.1 w.2.2.2) s) g ws

/-- Post-modify and OUTWIN of a slot (13 R274 to R276). -/
def agEffects (k0 k : Gecko) : MemSlot → Gecko
  | .nop => k
  | .acc op _ a _ => match k0.stepPtr op a with | some (n, v) => k.postModify n v | none => k
/-- The generator a slot reports in AGS.OUTWIN. -/
def slotOutWin (k0 : Gecko) : MemSlot → Option Nat
  | .nop => none
  | .acc _ _ a _ => k0.outWin a
/-- Set AGS.OUTWIN. -/
def noteOutWin (b : Base) (g : Nat) (o : Option Nat) : Base :=
  match o with
  | some n => b.setFld (gkPage g) GKC.AGS_OUTWIN (nset (b.fld (gkPage g) GKC.AGS_OUTWIN) n)
  | none => b

/-! ### The bundle -/

/-- Count the lines that a bundle finds in the cache, and those that it does not, when it first looks them up (11 R242). -/
def countWindow (b : Base) (k : Gecko) (g : Nat) (ls : List (Nat × Bool)) : Base :=
  let n := (ls.filter fun n => k.ready n).length
  let b := if n = 0 then b else b.addFld (gkPage g) GKC.LC_HIT n
  if n = ls.length then b else b.addFld (gkPage g) GKC.LC_MISS (ls.length - n)

/-- After the effects: waiting, halting, and stopping after a bundle that was stepped or held as the gecko was stopped
(11 R235, 12 R254). `b0` has the event inputs the bundle sees. -/
def gkAfter (b0 b : Base) (g : Nat) (s0 : Slot0) (step : Bool) : Base :=
  match s0 with
  | .halt => (b.setRun g rHALTED).event (gkPage g) 9
  | .wait e => if step then b.setRun g rSTOPPED else if b0.geckoLine g e then b else b.setRun g rWAITING
  | .nop | .alu _ _ _ _ | .mov _ _ | .alui _ _ _ _ | .lui _ _ | .br _ | .bcond _ _ _ | .jal _ _ | .jr _ | .loop _ _
  | .loopi _ _ | .mvag _ _ _ | .mvga _ _ _ | .agc _ | .mvgs _ | .setov _ | .dma _ _ _ _ | .dwait _ =>
    if step then b.setRun g rSTOPPED else b

/-- The event input a wait names. -/
def waitInput : Slot0 → Nat → Nat
  | .wait e, _ => e
  | .nop, n | .alu _ _ _ _, n | .mov _ _, n | .alui _ _ _ _, n | .lui _ _, n | .br _, n | .bcond _ _ _, n | .jal _ _, n
  | .jr _, n | .loop _ _, n | .loopi _ _, n | .mvag _ _ _, n | .mvga _ _ _, n | .agc _, n | .mvgs _, n | .setov _, n
  | .dma _ _ _ _, n | .dwait _, n | .halt, n => n

/-- A bundle that faults nowhere takes effect: loads, then stores, then every register write from the operands read
before the bundle, then the next bundle, OVERFLOW last (11 R233, R234; 12 R247; 13 R270). -/
def gkPerform (s : State) (g pc : Nat) (bu : Bundle) (step : Bool) : State :=
  let k0 := s.gko.at g
  let t := Slots bu
  let b0 := s.b
  let l1 := doLoad s g false k0 k0 t.2.1
  let l2 := doLoad l1.1 g true k0 l1.2 t.2.2.1
  let s1 := doStores l2.1 g (slotStores b0 g false k0 t.2.1 ++ slotStores b0 g true k0 t.2.2.1)
  let k1 := { l2.2 with cache := (s1.gko.at g).cache }
  let k2 := agEffects k0 (agEffects k0 (vecApply k0 (slot0Regs b0 g pc k0 k1 t.1) t.2.2.2) t.2.1) t.2.2.1
  let k3 := Gecko.prefetch b0 g k0 (Gecko.prefetch b0 g k0 k2 t.2.1) t.2.2.1
  let fl := slot0Flow k0 k3 pc t.1
  let nx := fl.2.follow pc fl.1
  let b1 := noteOutWin (noteOutWin s1.b g (slotOutWin k0 t.2.1)) g (slotOutWin k0 t.2.2.1)
  let dm := dmaInstr b1 k0 nx.1 g t.1
  let b2 := (dm.1.setPc g nx.2).setFld (gkPage g) GKC.BUNDLES ((b1.fld (gkPage g) GKC.BUNDLES + 1) % 2 ^ 32)
  let b3 := gkAfter b0 ((b2.setFld (gkPage g) GKC.CYCLES (Config.freeBits 32 b2.free).toNat).bump) g t.1 step
  let b4 := if vecOverflowed k0 t.2.2.2 && dm.2.ovtrap then gkRaise b3 g 3 (cOVERFLOW, 0) nx.2 else b3
  let s2 := { s1 with b := b4, gko := s1.gko.put g { dm.2 with waitOn := waitInput t.1 dm.2.waitOn, stall := none, looked := false } }
  match t.1 with
  | .dma ch _ _ _ => if b1.dmaBusy g ch then s2 else dmaKick s2 g ch
  | _ => s2

/-- The pads an X or Y slot reaches. -/
def slotPads (b : Base) (g : Nat) (k : Gecko) (y : Bool) : MemSlot → List Nat
  | .nop => []
  | .acc op _ a pred =>
    if storesNothing k op pred then []
    else ((gkCells b g y (k.address op a).toNat (opCells op)).getD []).filterMap fun c => match c with
      | .row pad _ => some pad
      | .word _ | .half _ _ => none

/-- The pond reads the ownership entries of the pads that a bundle accesses, once each (02 R32). -/
def padsUse (b : Base) (g : Nat) (k : Gecko) (bu : Bundle) : Base :=
  (slotPads b g k false (Slots bu).2.1 ++ slotPads b g k true (Slots bu).2.2.1).eraseDups.foldl
    (fun b pad => b.ownerUse (pad / 32) (pad % 32) (b.gkCtx g)) b

/-- Must a bundle wait before it reaches any memory: a dwait on a busy channel (12 R254), a pad under BIST or ZERO (09 R198), a window
access while the cache is written back (11 R240)? -/
def gkWaits (s : State) (g : Nat) (bu : Bundle) : Bool :=
  let k := s.gko.at g
  (match (Slots bu).1 with | .dwait ch => s.b.dmaBusy g ch | _ => false) ||
    (slotPads s.b g k false (Slots bu).2.1 ++ slotPads s.b g k true (Slots bu).2.2.1).any (fun pad => s.ponds.held (pad / 32) (pad % 32)) ||
    (!(bundleLines s.b g k bu).isEmpty && s.b.bit (gkPage g) GKC.LCTRL_BUSY)

/-- Must it wait for a line (11 R240)? -/
def gkMisses (s : State) (g : Nat) (bu : Bundle) : Bool :=
  (bundleLines s.b g (s.gko.at g) bu).any fun n => !(s.gko.at g).ready n

/-- A bundle that is held: a STEP is under way until it completes (11 R235). -/
def gkHold (s : State) (g : Nat) (k : Gecko) (bu : Bundle) (step : Bool) : State :=
  { s with b := if s.b.gkRun g = rSTOPPED then s.b.setRun g rRUNNING else s.b, gko := s.gko.put g { k with stall := some (bu, step) } }

/-- Issue a bundle: the lowest slot's fault, or held, or performed. -/
def gkIssueAt (s : State) (g pc : Nat) (bu : Bundle) (step : Bool) : State :=
  let k := s.gko.at g
  match bundleFaults s.b g k pc bu with
  | (i, f) :: _ =>
    { s with b := gkRaise (fenceLog (padsUse s.b g k bu) g k bu i f) g i f pc, gko := s.gko.put g k.release }
  | [] =>
    let ls := bundleLines s.b g k bu
    if gkWaits s g bu then gkHold s g k bu step
    else
      let s := if k.looked then s else { s with b := countWindow (padsUse s.b g k bu) k g ls }
      if gkMisses s g bu then gkHold s g { k.askFills ls with looked := true } bu step
      else gkPerform s g pc bu step

/-- Has gecko `g` a held bundle that may go on: issued before, or RUNNING, so that it may issue now (11 R236)? -/
def State.gkGoesOn (s : State) (g : Nat) : Bool := (s.gko.at g).looked || s.b.gkRun g == rRUNNING

/-- Try a held bundle again. -/
def gkRetry (s : State) (g : Nat) : State :=
  match (s.gko.at g).stall with
  | some (bu, step) => if s.gkGoesOn g then gkIssueAt s g (s.b.gkPc g) bu step else s
  | none => s

/-! ### Fetch (11 R226, R227) -/

/-- The instruction-memory word that bundle `pc` lies in. -/
def imWord (pc : Nat) : Nat := pc / 2
/-- Log what the fetch of bundle `pc` finds, and say whether the bundle may execute (11 R227). -/
def gkFetchOk (x : Geckos) (g pc : Nat) : Bool := !(rowDecode (x.word g (imWord pc))).2
/-- The four slot words that instruction memory holds at `pc` (12 R245). -/
def gkFetch (x : Geckos) (g pc : Nat) : Bundle :=
  let d := (rowDecode (x.word g (imWord pc))).1.toNat / 2 ^ (128 * (pc % 2))
  decBundle (w32 d) (w32 (d / 2 ^ 32)) (w32 (d / 2 ^ 64)) (w32 (d / 2 ^ 96))

/-- May gecko `g` issue: RUNNING, nothing held that was issued or is stepped, the page enabled and awake, clocks running? -/
def State.gkIssues (s : State) (g : Nat) : Bool :=
  s.b.gkRun g == rRUNNING && (match (s.gko.at g).stall with | none => true | some x => !x.2 && !(s.gko.at g).looked) && (s.b.enabled (gkPage g) || s.b.fld (gkPage g) HDR.BLK_STAT_STATE == stDraining) &&
    s.b.fld (gkPage g) HDR.BLK_STAT_STATE != stAsleep && !s.b.gated

/-- Fetch and issue: a poisoned or uncorrectable word raises IM_UC (11 R227, R234), reported in slot 0. -/
def gkFetchIssue (s : State) (g : Nat) (bu : Bundle) (step : Bool) : State :=
  let pc := s.b.gkPc g
  let s := { s with b := gmLog s.b g (s.gko.word g (imWord pc)) (32 * imWord pc) (some (s.b.gkCtx g)) none }
  if gkFetchOk s.gko g pc then gkIssueAt s g pc bu step
  else { s with b := gkRaise s.b g 0 (cIMUC, 16 * pc) pc }

/-- A bundle command: gecko `g`, if it may issue, fetches at PC and issues the bundle the command gives. A stepped bundle that
was held before it issued is tried again. -/
def gkCommand (s : State) (g : Nat) (bu : Bundle) : State :=
  if s.gkIssues g then gkFetchIssue s g bu false
  else if s.b.gkRun g = rRUNNING ∧ (s.gko.at g).looked = false then gkRetry s g else s

end Sys2Proof.Machine
end

