-- ==== Sys2Proof/Machine/Gecko.lean ====
section
/-! DEFINITION. The gecko commands: control, DMA, line cache, memories, sleep (11 R235 to R244), and one command for
each instruction: the gecko issues a bundle with it in its slot, the other slots given as words (12 R245 to R260). -/
namespace Sys2Proof.Machine

/-! ### Control (11 R235) -/

/-- Is the page asleep, or waking? Commands wake it (11 R244). -/
def gkCmdRej (b : Base) (g : Nat) : Base := b.event (gkPage g) 16

/-- Begin running at PC. -/
def gkBegin (s : State) (g : Nat) : State :=
  let b := gkWake s.b g
  { s with b := b.setRun g (b.runOrPause g), gko := s.gko.upd g Gecko.runs }

/-- GKC.CTRL.START: clears the loop stack and begins fetching at GKC.PC. -/
def gkStart (s : State) (g : Nat) : State :=
  if s.b.gkIdle g then gkBegin { s with gko := s.gko.upd g fun k => { k with depth := 0 } } g
  else { s with b := gkCmdRej s.b g }

/-- GKC.CTRL.RESUME: continues at PC, at EPC after an exception. -/
def gkResume (s : State) (g : Nat) : State :=
  if s.b.gkIdle g then
    let b := if s.b.gkRun g = rEXCEPTION then s.b.setPc g (s.b.fld (gkPage g) GKC.EPC_EPC) else s.b
    gkBegin { s with b := b } g
  else { s with b := gkCmdRej s.b g }

/-- GKC.CTRL.STOP: a bundle held before it issued is dropped; one that waits for its line completes first, and PC then holds the
next. -/
def gkStop (s : State) (g : Nat) : State :=
  let run := s.b.gkRun g
  let k := s.gko.at g
  if run = rRUNNING ∨ run = rPAUSED ∨ run = rWAITING then
    if k.looked then { s with gko := s.gko.put g { k with stall := k.stall.map fun x => (x.1, true) } }
    else { s with b := s.b.setRun g rSTOPPED, gko := s.gko.put g k.release }
  else s

/-- GKC.CTRL.STEP: in STOPPED, fetches and issues one bundle; under GATE only while the bound context is live (11 R236). -/
def gkStep (s : State) (g : Nat) : State :=
  if s.b.gkRun g = rSTOPPED ∧ (s.gko.at g).stall = none ∧ s.b.gated = false ∧ s.b.runOrPause g = rRUNNING then
    gkFetchIssue { s with b := gkWake s.b g, gko := s.gko.upd g Gecko.runs } g (gkFetch s.gko g (s.b.gkPc g)) true
  else s

/-- A write of GKC.PC: only in the debug states, else discarded with CMD_REJ. -/
def gkPcWrite (b : Base) (g v : Nat) : Base := if b.gkIdle g then b.setPc g (v % 4096) else gkCmdRej b g

/-! ### DMA (11 R238, R239) -/

/-- A write of DMAn_CTRL.GO. -/
def gkDmaGo (s : State) (g n : Nat) : State :=
  if s.b.dmaBusy g n then { s with b := s.b.event (gkPage g) 15 }
  else
    let x := dmaStart s.b (s.gko.at g) g n
    dmaKick { s with b := x.1, gko := s.gko.put g x.2 } g n

/-- DMA_DONE (11 R238, R239): the channel's blocks have moved, in order, and the channel ends; a bundle held by dwait
goes on. `remote` gives the answers that come from across Efmel links, in order. While a target cannot answer, the channel
goes on running, and the request that waits is timed (14 R286). -/
def execDmaDone (g : Fin 128) (ch : Fin 4) (remote : List HopRsp) (s : State) : Host.Outcome State Fault Refusal :=
  match SMap.get (fun _ => none) (s.gko.at g).chan ch with
  | none => .next s
  | some c => match dmaRun s g c remote with
    | .error r => .next (s.await r)
    | .ok (s1, moved, e, p) => .next (gkRetry (dmaEnd s1 g ch moved e p) g)

/-! ### The line cache (11 R240) -/

/-- Write back every Modified line and invalidate every line; none while a home cannot answer. -/
def gkFlush (s : State) (g : Nat) : Option State :=
  let s1 := (s.gko.at g).cache.foldl (fun (o : Option State) e => match o, e.2 with
    | some s, some c => if c.st = 3 then (s.writeBackReq g e.1 c.data c.poison).map fun y =>
        if y.2 then { y.1 with b := wbError y.1.b g e.1 } else y.1 else some s
    | o, _ => o) (some s)
  s1.map fun s => { s with gko := s.gko.upd g fun k => { k with cache := [] } }

/-- Bring a line's data to its home: written back, or, where the home cannot take it now, in the queue of its controller. -/
def State.sendBack (s : State) (g l : Nat) (c : CLine) : State :=
  match s.writeBackReq g l c.data c.poison with
  | some y => if y.2 then { y.1 with b := wbError y.1.b g l } else y.1
  | none =>
    let r := { wbReq s.b g l c.data c.poison with tag := s.hop.newTag (256 + g) }
    (s.inject r true true).holdReq r true

/-- A reset writes the line cache back and invalidates it (11 R243); line reads under way are given up, and their tags end. -/
def gkEmpty (s : State) (g : Nat) : State :=
  let s1 := (s.gko.at g).cache.foldl (fun (s : State) e => match e.2 with
    | some c => if c.st = 3 then s.sendBack g e.1 c else s
    | none => s) s
  let hop := (s1.gko.at g).fills.foldl (fun (h : Hop) f => match f.tag with
    | some n => h.setTag (256 + g) n none
    | none => h) s1.hop
  { s1 with hop := hop, gko := s1.gko.upd g fun k => { k with cache := [], fills := [] } }

/-- A write of LCTRL.WBINV. -/
def gkWbinv (b : Base) (g : Nat) : Base := b.setBit (gkPage g) GKC.LCTRL_BUSY true

/-- WBINV_DONE (11 R240): window accesses that waited go on. -/
def execWbinvDone (g : Fin 128) (s : State) : Host.Outcome State Fault Refusal :=
  if s.b.bit (gkPage g) GKC.LCTRL_BUSY then
    match gkFlush s g with
    | none => .next s
    | some s1 => .next (gkRetry { s1 with b := (s1.b.setBit (gkPage g) GKC.LCTRL_BUSY false).event (gkPage g) 12 } g)
  else .next s

/-- The slot of the held bundle that waits for line `l`, and its local address. -/
def lineSlot (s : State) (g l : Nat) : Option (Nat × Nat) :=
  let k := s.gko.at g
  match k.stall with
  | none => none
  | some (bu, _) =>
    let ad : MemSlot → Nat := fun m => match m with | .acc op _ a _ => (k.address op a).toNat | .nop => 0
    if (slotLines s.b g k false (Slots bu).2.1).any (·.1 == l) then some (1, ad (Slots bu).2.1)
    else if (slotLines s.b g k true (Slots bu).2.2.1).any (·.1 == l) then some (2, ad (Slots bu).2.2.1)
    else none

/-- The held bundle faults on its line: FENCE or BUS (11 R234). -/
def lineFault (s : State) (g l cause : Nat) : State :=
  match lineSlot s g l with
  | some (i, a) =>
    { s with b := gkRaise s.b g i (cause, a) (s.b.gkPc g), gko := s.gko.upd g Gecko.release }
  | none => s

/-- Lines per set: eight ways of 128 sets. The set is taken as the line address modulo 128 (PRESUMED). -/
def lineSet (l : Nat) : Nat := l % 128

/-- The line that must leave for line `l`: any of the eight of a full set (the spec names no policy). -/
def gkVictim (s : State) (g l : Nat) : Option Nat :=
  let ls := ((s.gko.at g).cache.filter fun e => lineSet e.1 == lineSet l && e.1 != l && e.2.isSome).map Prod.fst
  if ls.length < 8 ∨ ((s.gko.at g).line l).isSome then none
  else ls[(Config.freeBits 3 s.b.free).toNat]?

/-- Make room for line `l`: the victim is written back if Modified. The flag says that its write-back failed. -/
def gkEvict (s : State) (g l : Nat) : Option (State × Bool) :=
  match gkVictim s g l with
  | none => some (s, false)
  | some v =>
    let s := { s with b := s.b.bump }
    let drop (s : State) : State := { s with gko := s.gko.upd g fun k => k.setLine v none }
    match (s.gko.at g).line v with
    | some c => if c.st = 3 then (s.writeBackReq g v c.data c.poison).map fun y => (drop y.1, y.2) else some (drop s, false)
    | none => some (s, false)

/-- Put an answered line into the cache: a line already held Shared keeps its data and gains the state. -/
def gkInstall (s : State) (g l : Nat) (own : Bool) (a : HopRsp) (st : Nat) : State :=
  { s with gko := s.gko.upd g fun k =>
      { k.setLine l (some (match k.line l with
          | some c => { c with st := max c.st st }
          | none => ⟨st, a.data, a.poisonL || a.poisonH⟩)) with fills := k.fills.filter fun f => !(f.line == l && f.own == own) } }

/-- The answer of line read `f` has been delivered: its tag ends, and it is counted (14 R286, R302). -/
def fillDone (s : State) (g : Nat) (f : Fill) (a : HopRsp) : State :=
  match f.tag with
  | none => s
  | some n => match s.hop.tagOf (256 + g) n with
    | some x => State.countAnswer { s with hop := s.hop.setTag (256 + g) n none } x.req a
    | none => s

/-- LINE_FILL (11 R240): the home's answer reaches the cache. Data fills the line, a victim leaving first, and the held
bundle goes on; an error faults the bundle that waits (FENCE, or BUS), and is dropped where only a pref asked. -/
def execLineFill (g : Fin 128) (line : BitVec 42) (s : State) : Host.Outcome State Fault Refusal :=
  let l := line.toNat
  match (s.gko.at g).fills.find? fun f => f.line == l && f.ans.isSome with
  | some ⟨_, own, pref, some (a, st), tag⟩ =>
    if a.isData then
      match gkEvict s g l with
      | none => .next s
      | some (s1, bad) =>
        let s2 := gkInstall (fillDone s1 g ⟨l, own, pref, some (a, st), tag⟩ a) g l own a st
        if bad then
          if pref || (lineSlot s2 g l).isNone then .next (gkRetry { s2 with b := wbError s2.b g l } g)
          else .next (lineFault s2 g l cBUS)
        else .next (gkRetry s2 g)
    else
      let s0 := fillDone s g ⟨l, own, pref, some (a, st), tag⟩ a
      let s1 := { s0 with gko := s0.gko.upd g fun k => { k with fills := k.fills.filter fun f => !(f.line == l && f.own == own) } }
      .next (lineFault s1 g l (if a.status = stFENCE then cFENCE else cBUS))
  | _ => .next s

/-! ### Memories and sleep (11 R237, R242, R244) -/

/-- A write of GKC.CMD OP ZERO. -/
def gkZero (s : State) (g : Nat) : State :=
  let pg := gkPage g
  if s.b.gkIdle g && !s.b.dmaAny g && !(s.gko.at g).zeroing then
    { s with b := (s.b.setBit pg GKC.CMD_STAT_REFUSED false).setBit pg GKC.CMD_STAT_DONE false,
             gko := s.gko.upd g fun k => { k with zeroing := true } }
  else { s with b := s.b.setBit pg GKC.CMD_STAT_REFUSED true }

/-- Every memory word of gecko `g` returns to the zero word. -/
def gkZeroMem (x : Geckos) (g : Nat) : Geckos := { x with mem := SMap.keep (fun k => !(k / 16384 == g)) x.mem }

/-- GECKO_ZERO_DONE (11 R242). -/
def execGeckoZeroDone (g : Fin 128) (s : State) : Host.Outcome State Fault Refusal :=
  if (s.gko.at g).zeroing then
    .next { s with b := (s.b.setBit (gkPage g) GKC.CMD_STAT_DONE true).event (gkPage g) 13,
                   gko := (gkZeroMem s.gko g).upd g fun k => { k with zeroing := false } }
  else .next s

/-- GECKO_MEMORY_REQUEST (11 R237): a request that reached the gecko's stop; a sleeping gecko wakes for it. -/
def execGeckoMemoryRequest (r : HopReq) (write : Bool) (s : State) : Host.Outcome State Fault Refusal :=
  match dpaRegion r.addr.toNat with
  | .gecko g _ =>
    if s.b.tagOk r.src r.priv r.ctx = false then .next s
    else if oneBlock r then
      let y := gkRequest (gkWake s.b g) s.gko r write false
      .next { s with b := y.1.answer r y.2.2, gko := y.2.1 }
    else .next { s with b := (hopUnsup s.b r).answer r (rspStatus stUNSUPPORTED) }
  | _ => .next s

/-- GECKO_EVENT_WAKE (11 R235, R241, R244): the event input a WAITING gecko names is high. -/
def execGeckoEventWake (g : Fin 128) (s : State) : Host.Outcome State Fault Refusal :=
  if s.b.gkRun g = rWAITING ∧ s.b.geckoLine g (s.gko.at g).waitOn = true then
    let b := gkWake s.b g
    .next { s with b := b.setRun g (b.runOrPause g) }
  else .next s

/-- GECKO_SLEEP (11 R244): after 10 µs idle the line cache is written back, and the gecko sleeps. -/
def execGeckoSleep (g : Fin 128) (s : State) : Host.Outcome State Fault Refusal :=
  let pg := gkPage g
  if s.b.bit pg HDR.BLK_CTRL_SLEEP_PERMIT && s.b.gkRun g != rRUNNING && !s.b.dmaAny g &&
      (s.gko.at g).stall.isNone && (s.gko.at g).fills.isEmpty && s.b.fld pg HDR.BLK_STAT_STATE == stActive then
    match gkFlush s g with
    | none => .next s
    | some s1 => .next { s1 with b := s1.b.setState pg stAsleep }
  else .next s

/-! ### Instructions (12 R249, R256, R260) -/

/-- NOP (12 R245): a bundle with NOP in slot `slot` and the given words in the others, in slot order. -/
def execNop (g : Fin 128) (slot : Fin 4) (w0 w1 w2 : Word) (s : State) : Host.Outcome State Fault Refusal :=
  .next (gkCommand s g (if slot.val = 0 then decBundle 0 w0 w1 w2 else if slot.val = 1 then decBundle w0 0 w1 w2
    else if slot.val = 2 then decBundle w0 w1 0 w2 else decBundle w0 w1 w2 0))

/-- The gecko issues `i` in slot 0 with the words `x`, `y`, `v` in the others. -/
def gkSlot0 (s : State) (g : Nat) (i : Slot0) (x y v : Word) : State :=
  gkCommand s g ⟨some i, decMem x, decMem y, decVec v⟩

/-- The gecko issues `i` in slot 1, or in slot 2 when `y`, with the words `w0`, `other`, `v` in the rest. -/
def gkSlotM (s : State) (g : Nat) (y : Bool) (i : MemSlot) (w0 other v : Word) : State :=
  if y then gkCommand s g ⟨decSlot0 w0, decMem other, some i, decVec v⟩
  else gkCommand s g ⟨decSlot0 w0, some i, decMem other, decVec v⟩

/-- The gecko issues `i` in slot 3 with the words `w0`, `x`, `y` in the others. -/
def gkSlot3 (s : State) (g : Nat) (i : VecSlot) (w0 x y : Word) : State :=
  gkCommand s g ⟨decSlot0 w0, decMem x, decMem y, some i⟩

/-- ADD (12 R249): sd = sa + sb. -/
def execAdd (g : Fin 128) (sd sa sb : Fin 32) (x y v : Word) (s : State) : Host.Outcome State Fault Refusal :=
  .next (gkSlot0 s g (.alu .add sd sa sb) x y v)
/-- SUB (12 R249): sd = sa - sb. -/
def execSub (g : Fin 128) (sd sa sb : Fin 32) (x y v : Word) (s : State) : Host.Outcome State Fault Refusal :=
  .next (gkSlot0 s g (.alu .sub sd sa sb) x y v)
/-- AND (12 R249): bitwise. -/
def execAnd (g : Fin 128) (sd sa sb : Fin 32) (x y v : Word) (s : State) : Host.Outcome State Fault Refusal :=
  .next (gkSlot0 s g (.alu .and sd sa sb) x y v)
/-- OR (12 R249): bitwise. -/
def execOr (g : Fin 128) (sd sa sb : Fin 32) (x y v : Word) (s : State) : Host.Outcome State Fault Refusal :=
  .next (gkSlot0 s g (.alu .or sd sa sb) x y v)
/-- XOR (12 R249): bitwise. -/
def execXor (g : Fin 128) (sd sa sb : Fin 32) (x y v : Word) (s : State) : Host.Outcome State Fault Refusal :=
  .next (gkSlot0 s g (.alu .xor sd sa sb) x y v)
/-- SLL (12 R249): shift left by sb[4:0]. -/
def execSll (g : Fin 128) (sd sa sb : Fin 32) (x y v : Word) (s : State) : Host.Outcome State Fault Refusal :=
  .next (gkSlot0 s g (.alu .sll sd sa sb) x y v)
/-- SRL (12 R249): zero-filling right shift. -/
def execSrl (g : Fin 128) (sd sa sb : Fin 32) (x y v : Word) (s : State) : Host.Outcome State Fault Refusal :=
  .next (gkSlot0 s g (.alu .srl sd sa sb) x y v)
/-- SRA (12 R249): sign-filling right shift. -/
def execSra (g : Fin 128) (sd sa sb : Fin 32) (x y v : Word) (s : State) : Host.Outcome State Fault Refusal :=
  .next (gkSlot0 s g (.alu .sra sd sa sb) x y v)
/-- MUL (12 R249): low 32 bits of the product. -/
def execMul (g : Fin 128) (sd sa sb : Fin 32) (x y v : Word) (s : State) : Host.Outcome State Fault Refusal :=
  .next (gkSlot0 s g (.alu .mul sd sa sb) x y v)
/-- SLT (12 R249): signed comparison. -/
def execSlt (g : Fin 128) (sd sa sb : Fin 32) (x y v : Word) (s : State) : Host.Outcome State Fault Refusal :=
  .next (gkSlot0 s g (.alu .slt sd sa sb) x y v)
/-- SLTU (12 R249): unsigned comparison. -/
def execSltu (g : Fin 128) (sd sa sb : Fin 32) (x y v : Word) (s : State) : Host.Outcome State Fault Refusal :=
  .next (gkSlot0 s g (.alu .sltu sd sa sb) x y v)
/-- MOV (12 R249): carries the poison tag. -/
def execMov (g : Fin 128) (sd sa : Fin 32) (x y v : Word) (s : State) : Host.Outcome State Fault Refusal :=
  .next (gkSlot0 s g (.mov sd sa) x y v)
/-- ADDI (12 R249): sign-extended immediate. -/
def execAddi (g : Fin 128) (sd sa : Fin 32) (imm : BitVec 16) (x y v : Word) (s : State) : Host.Outcome State Fault Refusal :=
  .next (gkSlot0 s g (.alui .addi sd sa imm) x y v)
/-- ANDI (12 R249): zero-extended immediate. -/
def execAndi (g : Fin 128) (sd sa : Fin 32) (imm : BitVec 16) (x y v : Word) (s : State) : Host.Outcome State Fault Refusal :=
  .next (gkSlot0 s g (.alui .andi sd sa imm) x y v)
/-- ORI (12 R249): zero-extended immediate. -/
def execOri (g : Fin 128) (sd sa : Fin 32) (imm : BitVec 16) (x y v : Word) (s : State) : Host.Outcome State Fault Refusal :=
  .next (gkSlot0 s g (.alui .ori sd sa imm) x y v)
/-- XORI (12 R249): zero-extended immediate. -/
def execXori (g : Fin 128) (sd sa : Fin 32) (imm : BitVec 16) (x y v : Word) (s : State) : Host.Outcome State Fault Refusal :=
  .next (gkSlot0 s g (.alui .xori sd sa imm) x y v)
/-- SLLI (12 R249): shift by the immediate. -/
def execSlli (g : Fin 128) (sd sa : Fin 32) (imm : BitVec 16) (x y v : Word) (s : State) : Host.Outcome State Fault Refusal :=
  .next (gkSlot0 s g (.alui .slli sd sa imm) x y v)
/-- SRLI (12 R249): shift by the immediate. -/
def execSrli (g : Fin 128) (sd sa : Fin 32) (imm : BitVec 16) (x y v : Word) (s : State) : Host.Outcome State Fault Refusal :=
  .next (gkSlot0 s g (.alui .srli sd sa imm) x y v)
/-- SRAI (12 R249): shift by the immediate. -/
def execSrai (g : Fin 128) (sd sa : Fin 32) (imm : BitVec 16) (x y v : Word) (s : State) : Host.Outcome State Fault Refusal :=
  .next (gkSlot0 s g (.alui .srai sd sa imm) x y v)
/-- SLTI (12 R249): sign-extended immediate. -/
def execSlti (g : Fin 128) (sd sa : Fin 32) (imm : BitVec 16) (x y v : Word) (s : State) : Host.Outcome State Fault Refusal :=
  .next (gkSlot0 s g (.alui .slti sd sa imm) x y v)
/-- LUI (12 R249): sd = IMM16 << 16. -/
def execLui (g : Fin 128) (sd : Fin 32) (imm : BitVec 16) (x y v : Word) (s : State) : Host.Outcome State Fault Refusal :=
  .next (gkSlot0 s g (.lui sd imm) x y v)
/-- BR (12 R249): branch. -/
def execBr (g : Fin 128) (target : Fin 4096) (x y v : Word) (s : State) : Host.Outcome State Fault Refusal :=
  .next (gkSlot0 s g (.br target) x y v)
/-- BEQZ (12 R249): conditional branch (R251). -/
def execBeqz (g : Fin 128) (sa : Fin 32) (target : Fin 4096) (x y v : Word) (s : State) : Host.Outcome State Fault Refusal :=
  .next (gkSlot0 s g (.bcond .eqz sa target) x y v)
/-- BNEZ (12 R249): conditional branch (R251). -/
def execBnez (g : Fin 128) (sa : Fin 32) (target : Fin 4096) (x y v : Word) (s : State) : Host.Outcome State Fault Refusal :=
  .next (gkSlot0 s g (.bcond .nez sa target) x y v)
/-- BLTZ (12 R249): conditional branch (R251). -/
def execBltz (g : Fin 128) (sa : Fin 32) (target : Fin 4096) (x y v : Word) (s : State) : Host.Outcome State Fault Refusal :=
  .next (gkSlot0 s g (.bcond .ltz sa target) x y v)
/-- BGEZ (12 R249): conditional branch (R251). -/
def execBgez (g : Fin 128) (sa : Fin 32) (target : Fin 4096) (x y v : Word) (s : State) : Host.Outcome State Fault Refusal :=
  .next (gkSlot0 s g (.bcond .gez sa target) x y v)
/-- JAL (12 R249): link and branch (R251). -/
def execJal (g : Fin 128) (sd : Fin 32) (target : Fin 4096) (x y v : Word) (s : State) : Host.Outcome State Fault Refusal :=
  .next (gkSlot0 s g (.jal sd target) x y v)
/-- JR (12 R249): branch to sa[11:0]. -/
def execJr (g : Fin 128) (sa : Fin 32) (x y v : Word) (s : State) : Host.Outcome State Fault Refusal :=
  .next (gkSlot0 s g (.jr sa) x y v)
/-- LOOP (12 R249): loop sa times (R252). -/
def execLoop (g : Fin 128) (sa : Fin 32) (fin : Fin 4096) (x y v : Word) (s : State) : Host.Outcome State Fault Refusal :=
  .next (gkSlot0 s g (.loop sa fin) x y v)
/-- LOOPI (12 R249): loop n times (R252). -/
def execLoopi (g : Fin 128) (n : Fin 16384) (fin : Fin 4096) (x y v : Word) (s : State) : Host.Outcome State Fault Refusal :=
  .next (gkSlot0 s g (.loopi n fin) x y v)
/-- MVAG (12 R249): shadow of an AG field (R253). -/
def execMvag (g : Fin 128) (n : Fin 8) (f : AgField) (sa : Fin 32) (x y v : Word) (s : State) : Host.Outcome State Fault Refusal :=
  .next (gkSlot0 s g (.mvag n f sa) x y v)
/-- MVGA (12 R249): live AG field (R253). -/
def execMvga (g : Fin 128) (sd : Fin 32) (n : Fin 8) (f : AgField) (x y v : Word) (s : State) : Host.Outcome State Fault Refusal :=
  .next (gkSlot0 s g (.mvga sd n f) x y v)
/-- AGC (12 R249): commits AG shadows (R253). -/
def execAgc (g : Fin 128) (mask : BitVec 8) (x y v : Word) (s : State) : Host.Outcome State Fault Refusal :=
  .next (gkSlot0 s g (.agc mask) x y v)
/-- MVGS (12 R249): sd = GST. -/
def execMvgs (g : Fin 128) (sd : Fin 32) (x y v : Word) (s : State) : Host.Outcome State Fault Refusal :=
  .next (gkSlot0 s g (.mvgs sd) x y v)
/-- SETOV (12 R249): GST.OVTRAP (R254). -/
def execSetov (g : Fin 128) (b : Bool) (x y v : Word) (s : State) : Host.Outcome State Fault Refusal :=
  .next (gkSlot0 s g (.setov b) x y v)
/-- DMA (12 R249): starts a channel from four scalars (R254). -/
def execDma (g : Fin 128) (ch : Fin 4) (sa : Fin 32) (dir qen : Bool) (x y v : Word) (s : State) : Host.Outcome State Fault Refusal :=
  .next (gkSlot0 s g (.dma ch sa dir qen) x y v)
/-- DWAIT (12 R249): holds the bundle while the channel is busy (R254). -/
def execDwait (g : Fin 128) (ch : Fin 4) (x y v : Word) (s : State) : Host.Outcome State Fault Refusal :=
  .next (gkSlot0 s g (.dwait ch) x y v)
/-- WAIT (12 R249): waits for an event input (R254). -/
def execWait (g : Fin 128) (e : Fin 4) (x y v : Word) (s : State) : Host.Outcome State Fault Refusal :=
  .next (gkSlot0 s g (.wait e) x y v)
/-- HALT (12 R249): stops in HALTED (R254). -/
def execHalt (g : Fin 128) (x y v : Word) (s : State) : Host.Outcome State Fault Refusal :=
  .next (gkSlot0 s g (.halt) x y v)
/-- LOOP_END (11 R233): the bundle at the LE of the innermost active level, fetched from instruction memory, issues and
completes. -/
def execLoopEnd (g : Fin 128) (s : State) : Host.Outcome State Fault Refusal :=
  let k := s.gko.at g
  if k.depth ≠ 0 ∧ (k.loopv 2 (k.depth - 1)).toNat = s.b.gkPc g then
    .next (gkCommand s g (gkFetch s.gko g (s.b.gkPc g)))
  else .next s
/-- LDV (12 R256): 128 bytes into vd. -/
def execLdv (g : Fin 128) (y : Bool) (vd : Fin 16) (a : AddrForm) (w0 other v : Word) (s : State) : Host.Outcome State Fault Refusal :=
  .next (gkSlotM s g y (.acc .ldv ⟨vd.val, by omega⟩ a 0) w0 other v)
/-- STV (12 R256): stores vs under Pk. -/
def execStv (g : Fin 128) (y : Bool) (vs : Fin 16) (a : AddrForm) (k : Fin 8) (w0 other v : Word) (s : State) : Host.Outcome State Fault Refusal :=
  .next (gkSlotM s g y (.acc .stv ⟨vs.val, by omega⟩ a k) w0 other v)
/-- LDS (12 R256): a word into sd. -/
def execLds (g : Fin 128) (y : Bool) (sd : Fin 32) (a : AddrForm) (w0 other v : Word) (s : State) : Host.Outcome State Fault Refusal :=
  .next (gkSlotM s g y (.acc .lds sd a 0) w0 other v)
/-- STS (12 R256): stores ss. -/
def execSts (g : Fin 128) (y : Bool) (ss : Fin 32) (a : AddrForm) (w0 other v : Word) (s : State) : Host.Outcome State Fault Refusal :=
  .next (gkSlotM s g y (.acc .sts ss a 0) w0 other v)
/-- LDBH (12 R256): a halfword into every lane of vd. -/
def execLdbh (g : Fin 128) (y : Bool) (vd : Fin 16) (a : AddrForm) (w0 other v : Word) (s : State) : Host.Outcome State Fault Refusal :=
  .next (gkSlotM s g y (.acc .ldbh ⟨vd.val, by omega⟩ a 0) w0 other v)
/-- LDBB (12 R256): a byte into every lane of vd. -/
def execLdbb (g : Fin 128) (y : Bool) (vd : Fin 16) (a : AddrForm) (w0 other v : Word) (s : State) : Host.Outcome State Fault Refusal :=
  .next (gkSlotM s g y (.acc .ldbb ⟨vd.val, by omega⟩ a 0) w0 other v)
/-- PREF (12 R256): begins a line fill (R258). -/
def execPref (g : Fin 128) (y : Bool) (a : AddrForm) (w0 other v : Word) (s : State) : Host.Outcome State Fault Refusal :=
  .next (gkSlotM s g y (.acc .pref 0 a 0) w0 other v)
/-- VMAC (12 R260; 13): acd += va × vb (R267). -/
def execVmac (g : Fin 128) (w sat : Bool) (acd : Fin 4) (va vb : Fin 16) (k : Fin 8) (w0 x y : Word) (s : State) : Host.Outcome State Fault Refusal :=
  .next (gkSlot3 s g (.mac .mac w sat acd va vb k) w0 x y)
/-- VMSU (12 R260; 13): acd -= va × vb (R267). -/
def execVmsu (g : Fin 128) (w sat : Bool) (acd : Fin 4) (va vb : Fin 16) (k : Fin 8) (w0 x y : Word) (s : State) : Host.Outcome State Fault Refusal :=
  .next (gkSlot3 s g (.mac .msu w sat acd va vb k) w0 x y)
/-- VMUL (12 R260; 13): acd = va × vb (R267). -/
def execVmul (g : Fin 128) (w sat : Bool) (acd : Fin 4) (va vb : Fin 16) (k : Fin 8) (w0 x y : Word) (s : State) : Host.Outcome State Fault Refusal :=
  .next (gkSlot3 s g (.mac .mul w sat acd va vb k) w0 x y)
/-- VCLR (12 R260; 13): acd = 0. -/
def execVclr (g : Fin 128) (w : Bool) (acd : Fin 4) (k : Fin 8) (w0 x y : Word) (s : State) : Host.Outcome State Fault Refusal :=
  .next (gkSlot3 s g (.clr w acd k) w0 x y)
/-- VLDAC (12 R260; 13): acd = va, sign-extended. -/
def execVldac (g : Fin 128) (w : Bool) (acd : Fin 4) (va : Fin 16) (k : Fin 8) (w0 x y : Word) (s : State) : Host.Outcome State Fault Refusal :=
  .next (gkSlot3 s g (.ldac w acd va k) w0 x y)
/-- VSHR (12 R260; 13): shift and truncate (R272). -/
def execVshr (g : Fin 128) (w sat : Bool) (vd : Fin 16) (aca : Fin 4) (n : Fin 64) (k : Fin 8) (w0 x y : Word) (s : State) : Host.Outcome State Fault Refusal :=
  .next (gkSlot3 s g (.shr w sat vd aca n k) w0 x y)
/-- CLROV (12 R260; 13): clears ACOV bits (R269). -/
def execClrov (g : Fin 128) (w : Bool) (acd : Fin 4) (k : Fin 8) (w0 x y : Word) (s : State) : Host.Outcome State Fault Refusal :=
  .next (gkSlot3 s g (.clrov w acd k) w0 x y)
/-- VADD (12 R260; 13): lane-wise (R271). -/
def execVadd (g : Fin 128) (w sat : Bool) (vd va vb : Fin 16) (k : Fin 8) (w0 x y : Word) (s : State) : Host.Outcome State Fault Refusal :=
  .next (gkSlot3 s g (.bin .add w sat vd va vb k) w0 x y)
/-- VSUB (12 R260; 13): lane-wise (R271). -/
def execVsub (g : Fin 128) (w sat : Bool) (vd va vb : Fin 16) (k : Fin 8) (w0 x y : Word) (s : State) : Host.Outcome State Fault Refusal :=
  .next (gkSlot3 s g (.bin .sub w sat vd va vb k) w0 x y)
/-- VMIN (12 R260; 13): lane-wise (R271). -/
def execVmin (g : Fin 128) (w : Bool) (vd va vb : Fin 16) (k : Fin 8) (w0 x y : Word) (s : State) : Host.Outcome State Fault Refusal :=
  .next (gkSlot3 s g (.bin .min w false vd va vb k) w0 x y)
/-- VMAX (12 R260; 13): lane-wise (R271). -/
def execVmax (g : Fin 128) (w : Bool) (vd va vb : Fin 16) (k : Fin 8) (w0 x y : Word) (s : State) : Host.Outcome State Fault Refusal :=
  .next (gkSlot3 s g (.bin .max w false vd va vb k) w0 x y)
/-- VAND (12 R260; 13): lane-wise (R271). -/
def execVand (g : Fin 128) (w : Bool) (vd va vb : Fin 16) (k : Fin 8) (w0 x y : Word) (s : State) : Host.Outcome State Fault Refusal :=
  .next (gkSlot3 s g (.bin .and w false vd va vb k) w0 x y)
/-- VOR (12 R260; 13): lane-wise (R271). -/
def execVor (g : Fin 128) (w : Bool) (vd va vb : Fin 16) (k : Fin 8) (w0 x y : Word) (s : State) : Host.Outcome State Fault Refusal :=
  .next (gkSlot3 s g (.bin .or w false vd va vb k) w0 x y)
/-- VXOR (12 R260; 13): lane-wise (R271). -/
def execVxor (g : Fin 128) (w : Bool) (vd va vb : Fin 16) (k : Fin 8) (w0 x y : Word) (s : State) : Host.Outcome State Fault Refusal :=
  .next (gkSlot3 s g (.bin .xor w false vd va vb k) w0 x y)
/-- VSHL (12 R260; 13): shift left (R271). -/
def execVshl (g : Fin 128) (w sat : Bool) (vd va : Fin 16) (n : Fin 512) (k : Fin 8) (w0 x y : Word) (s : State) : Host.Outcome State Fault Refusal :=
  .next (gkSlot3 s g (.shl w sat vd va n k) w0 x y)
/-- VSRA (12 R260; 13): arithmetic right shift (R271). -/
def execVsra (g : Fin 128) (w : Bool) (vd va : Fin 16) (n : Fin 512) (k : Fin 8) (w0 x y : Word) (s : State) : Host.Outcome State Fault Refusal :=
  .next (gkSlot3 s g (.sra w vd va n k) w0 x y)
/-- VMOV (12 R260; 13): vd = va. -/
def execVmov (g : Fin 128) (w : Bool) (vd va : Fin 16) (k : Fin 8) (w0 x y : Word) (s : State) : Host.Outcome State Fault Refusal :=
  .next (gkSlot3 s g (.mov w vd va k) w0 x y)
/-- VSEL (12 R260; 13): Pk chooses the source (R261). -/
def execVsel (g : Fin 128) (w : Bool) (vd va vb : Fin 16) (k : Fin 8) (w0 x y : Word) (s : State) : Host.Outcome State Fault Refusal :=
  .next (gkSlot3 s g (.sel w vd va vb k) w0 x y)
/-- VBC (12 R260; 13): a scalar into the lanes. -/
def execVbc (g : Fin 128) (w : Bool) (vd : Fin 16) (sa : Fin 32) (k : Fin 8) (w0 x y : Word) (s : State) : Host.Outcome State Fault Refusal :=
  .next (gkSlot3 s g (.bc w vd sa k) w0 x y)
/-- VCMPEQ (12 R260; 13): comparison into pd (R261). -/
def execVcmpeq (g : Fin 128) (w : Bool) (pd : Fin 8) (va vb : Fin 16) (k : Fin 8) (w0 x y : Word) (s : State) : Host.Outcome State Fault Refusal :=
  .next (gkSlot3 s g (.cmp .eq w pd va vb k) w0 x y)
/-- VCMPLT (12 R260; 13): comparison into pd (R261). -/
def execVcmplt (g : Fin 128) (w : Bool) (pd : Fin 8) (va vb : Fin 16) (k : Fin 8) (w0 x y : Word) (s : State) : Host.Outcome State Fault Refusal :=
  .next (gkSlot3 s g (.cmp .lt w pd va vb k) w0 x y)
/-- VCMPLE (12 R260; 13): comparison into pd (R261). -/
def execVcmple (g : Fin 128) (w : Bool) (pd : Fin 8) (va vb : Fin 16) (k : Fin 8) (w0 x y : Word) (s : State) : Host.Outcome State Fault Refusal :=
  .next (gkSlot3 s g (.cmp .le w pd va vb k) w0 x y)
/-- PAND (12 R260; 13): pd = pa AND pb. -/
def execPand (g : Fin 128) (pd pa pb : Fin 8) (w0 x y : Word) (s : State) : Host.Outcome State Fault Refusal :=
  .next (gkSlot3 s g (.pand pd pa pb) w0 x y)
/-- PRED_OR (12 R260; 13): por: pd = pa OR pb. -/
def execPredOr (g : Fin 128) (pd pa pb : Fin 8) (w0 x y : Word) (s : State) : Host.Outcome State Fault Refusal :=
  .next (gkSlot3 s g (.por pd pa pb) w0 x y)
/-- PNOT (12 R260; 13): pd = NOT pa. -/
def execPnot (g : Fin 128) (pd pa : Fin 8) (w0 x y : Word) (s : State) : Host.Outcome State Fault Refusal :=
  .next (gkSlot3 s g (.pnot pd pa) w0 x y)

end Sys2Proof.Machine
end

