-- ==== Sys2Proof/Machine/Hop.lean ====
section
/-! DEFINITION. The hop-network commands: requests at their targets, homes and snoops, completions, reservations,
timeouts, epochs, wakes and statistics windows (14 R282 to R302). -/
namespace Sys2Proof.Machine

/-- A port answers its partner: the inbound request that carries `tag` on the hop network ends, its slot is credited back, and a CMP or RDATA cell goes out;
an answer that arrives after the link went DOWN is discarded (19 R394, R397, R398). -/
def eflAnswer (s : State) (n tag : Nat) (r : HopReq) (a : HopRsp) : State :=
  match (eflAt s.efl n).inb.find? fun e => e.1 == tag with
  | none => s
  | some (_, tag) =>
    let s := eflOutst (s.eflUpd n fun x => { x with inb := x.inb.filter fun e => e.2 != tag, owed := x.owed + 1 }) n
    if a.isData then
      let s := eflSend s n (.rdata tag a.data a.poisonL a.poisonH)
      if a.poisonL || a.poisonH then
        { s with b := (s.b.logErr (eflPage n) { kind := 4, poison := true, addr := r.addr.toNat, ctx := reqLogCtx r,
                                                src := some r.src.val }).event (eflPage n) 14 }
      else s
    else eflSend s n (.cmp tag a.status)

/-- The FHP_CLK fields of port `h`: enable and clock. -/
def fhpEn (h : Nat) : Fld := (if h % 2 = 0 then HOP.FHP_CLK_EN0 else HOP.FHP_CLK_EN1).nth (h / 2)
def fhpClk (h : Nat) : Fld := (if h % 2 = 0 then HOP.FHP_CLK_CLK0 else HOP.FHP_CLK_CLK1).nth (h / 2)

/-- A waiting FHP_CLK value takes effect once its port has nothing outstanding (14 R299). -/
def fhpSettle (s : State) (src : Nat) : State :=
  match SMap.get (fun _ => none) s.hop.fhpPend src with
  | none => s
  | some v =>
    if s.hop.outstanding src = 0 then
      let pg : Page := .hop (tw (src / 64))
      { s with b := (s.b.setFld pg (fhpEn (src % 64)) (v / 32 % 2)).setFld pg (fhpClk (src % 64)) (v % 32),
               hop := { s.hop with fhpPend := SMap.set (fun _ => none) s.hop.fhpPend src none } }
    else s

/-- The answer of a gecko's line read under tag `n` is there: what it grants, or why it fails. A read that timed out is told so; its
tag has ended. -/
def Gecko.answered (k : Gecko) (n : Nat) (a : HopRsp) (st : Nat) (timeout : Bool) : Gecko :=
  { k with fills := k.fills.map fun f => if f.tag = some n ∧ f.ans = none then
      { f with ans := some (a, st), tag := if timeout then none else f.tag } else f }

/-- A completion reaches its initiator: a fabric hop port presents it, unless its context was reset meanwhile (14 R305), an Efmel port answers its partner, a gecko takes the outcome
of a write, or of a line read that timed out. -/
def hopDeliver (s : State) (x : HopTag) (a : HopRsp) : State :=
  let src := x.req.src.val
  if src < 256 then fhpSettle (if x.expired then s else { s with hop := s.hop.present src x.req.ctx x.req.tag a }) src
  else if src < 384 then
    if x.write then { s with b := gkWritten s.b (src - 256) x.req a }
    else { s with gko := s.gko.upd (src - 256) fun k => k.answered x.req.tag a 0 true }
  else if 768 ≤ src ∧ src < 776 then eflAnswer s (src - 768) x.req.tag x.req a
  else s

/-! ### What the wire does (14 R286) -/

/-- What the wire did to a flit that arrives: each single-bit error is corrected, counted and logged with KIND 0x1; an
uncorrectable flit is removed, logged with KIND 0x2 (14 R286). SYNDROME names the link of network `net` (23 R470). -/
def wireNote (b : Base) (t : Nat) (w : Wire) (net src addr : Nat) : Base :=
  let pg : Page := .hop (tw t)
  let syn := w.level.val + 4 * b2n w.ccw + 8 * net
  let b := (List.range w.corr).foldl (fun b _ => b.corrErr pg { kind := 1, addr := addr, src := some src, syn := syn }) b
  if w.uc then (b.logErr pg { kind := 2, uc := true, syn := syn }).event pg 12 else b

/-- A flit arrives: what the wire did to it is noted. -/
def State.wired (s : State) (w : Wire) (t net src addr : Nat) : State := { s with b := wireNote s.b t w net src addr }

/-- Mark the tag of a request as arrived, or as lost. -/
def State.markTag (s : State) (r : HopReq) (lost : Bool) : State :=
  match s.hop.tagOf r.src r.tag with
  | some x => { s with hop := s.hop.setTag r.src r.tag (some { x with arrived := true, lost := lost }) }
  | none => s

/-- One answer fewer is awaited for a tag that timed out. -/
def Hop.lateLess (h : Hop) (src tag : Nat) : Hop := { h with late := SMap.upd (fun _ => 0) h.late (tagKey src tag) (· - 1) }

/-- A completion that comes for a tag which timed out is discarded and counted. -/
def lateCompletion (s : State) (src tag : Nat) : State :=
  let pg : Page := .hop (tw (s.b.srcTower src))
  { s with b := (s.b.addFld pg HOP.LATE_CMP 1).event pg 11,
           hop := s.hop.lateLess src tag }

/-- Does a tag that timed out await a late completion? -/
def Hop.isLate (h : Hop) (src tag : Nat) : Bool := SMap.get (fun _ => 0) h.late (tagKey src tag) != 0

/-! ### Homes (14 R296) -/

/-- The holders a home must snoop for a request: a Modified holder for RD, every other owner for RD_SHR, every other
holder for RD_OWN, every holder for WR. -/
def homeNeed (x : Geckos) (kind g line : Nat) : List Nat :=
  (x.holders line).filter fun h =>
    match (x.at h).holds line with
    | some st => if kind = 0 then st == 3 else if kind = 1 then h != g && decide (2 ≤ st) else if kind = 2 then h != g else true
    | none => false

/-- A gecko's line read at its home. -/
def lineReq (b : Base) (g line : Nat) (tag : Fin 4096) : HopReq :=
  { engineReq (256 + g) false (b.gkCtx g) (64 * line) 64 0 false 0 false false with tag := tag }

/-- The home answers: a line read with what it grants, Exclusive for RD_OWN and where no other cache holds the line. -/
def homeAnswer (s : State) (w : HomeWait) (a : HopRsp) : State :=
  if w.kind = 1 ∨ w.kind = 2 then
    if s.hop.isLate w.req.src w.req.tag then lateCompletion s w.req.src w.req.tag
    else
      let st := if !a.isData then 0 else if w.kind = 2 ∨ (s.gko.holders w.line).all (· == w.gecko) then 2 else 1
      { s with gko := s.gko.upd w.gecko fun k => k.answered w.req.tag a st false }
  else { s with b := s.b.answer w.req a }

/-- The lowest free transaction slot of a home (14 R284). -/
def Hop.slotFor (h : Hop) (c : Nat) : Option Nat :=
  (List.range 8).find? fun i => !h.homes.any fun w => w.home == c && w.htag == some i

/-- A free slot goes to the oldest request that has none. -/
def Hop.giveSlot (h : Hop) (c : Nat) : Hop :=
  match h.slotFor c, h.homes.findIdx? (fun w => w.home == c && w.htag.isNone) with
  | some i, some j => { h with homes := h.homes.modify j fun w => { w with htag := some i } }
  | _, _ => h

/-- Has a transaction no snoop under way? -/
def HomeWait.idle (w : HomeWait) : Bool := w.need.isEmpty && w.answering.isEmpty && !w.lost

/-- The transaction of home `c` to go on with: the oldest of its line, in a slot, with no snoop under way; not to a line of `skip`. -/
def Hop.nextHome (h : Hop) (c : Nat) (skip : List Nat) : Option (Nat × HomeWait) :=
  (h.homes.zipIdx.find? fun e => e.1.home == c && e.1.htag.isSome && e.1.idle && !skip.contains e.1.line &&
    !(h.homes.take e.2).any fun v => v.line == e.1.line).map fun e => (e.2, e.1)

/-- Home `c` serves its transactions, oldest first, as far as no snoop is needed. A request that its controller cannot take now waits in
the controller's queue; a line read keeps its slot until a later arrival at the home. -/
def homeDrain (c : Nat) : Nat → List Nat → State → State
  | 0, _, s => s
  | n + 1, skip, s =>
    let s := { s with hop := s.hop.giveSlot c }
    match s.hop.nextHome c skip with
    | none => s
    | some (j, w) =>
      let need := homeNeed s.gko w.kind w.gecko w.line
      if need ≠ [] then homeDrain c n skip { s with hop := { s.hop with homes := s.hop.homes.set j { w with need := need } } }
      else match s.serveMem (s.b.srcTower w.req.src) w.req (w.kind == 3) with
        | some y => homeDrain c n skip (homeAnswer { y.1 with hop := { y.1.hop with homes := y.1.hop.homes.eraseIdx j } } w y.2)
        | none =>
          if w.kind = 1 ∨ w.kind = 2 then homeDrain c n (w.line :: skip) s
          else homeDrain c n skip (State.holdReq { s with hop := { s.hop with homes := s.hop.homes.eraseIdx j } } w.req (w.kind == 3))

/-- Home `c` goes on. -/
def State.homeGo (s : State) (c : Nat) : State := homeDrain c (2 * s.hop.homes.length + 2) [] s

/-- A request arrives at its home, which checks it once, unless it was `admitted` before it was held (05 R108). -/
def homeArrive (s : State) (kind g : Nat) (r : HopReq) (admitted : Bool) : State :=
  let wide := s.b.gmode (s.b.srcTower r.src)
  let w : HomeWait := ⟨(gdMap wide r.addr.toNat).1, none, kind, g, r.addr.toNat / 64, r, [], [], none, false⟩
  match if admitted then (s, none) else s.fenced (s.b.srcTower r.src) r with
  | (s, some a) => homeAnswer s w a
  | (s, none) => State.homeGo { s with hop := { s.hop with homes := s.hop.homes ++ [w] } } w.home

/-- A line cache's read reaches the home: RD_OWN where it asks for ownership. Its request is on the network from now on, under a free
tag; at a home that has it already, the home tries again. -/
def lineRead (s : State) (g line : Nat) (own : Bool) (w : Wire) : State :=
  match (s.gko.at g).fills.find? fun f => f.line == line && f.own == own && f.ans.isNone with
  | none => s
  | some f => match f.tag with
    | some n => match s.hop.homes.find? fun v => v.req.src.val == 256 + g && v.req.tag.val == n with
      | some v => s.homeGo v.home
      | none => s
    | none =>
      let n := s.hop.newTag (256 + g)
      let r := lineReq s.b g line n
      let c := (gdMap (s.b.gmode (g / 32)) r.addr.toNat).1
      if s.hop.writesBlock r.src (tagKey r.src n) s.hop.next line then s
      else
        let e := s.b.epoch (g / 32) 1
        let s := ((s.inject r false true).wired w (c / 4) 0 r.src r.addr.toNat).wakeLevels (g / 32) 1 (c / 4) 2
        let s := { s with gko := s.gko.upd g fun k => { k with fills := k.fills.map fun x => if x = f then { x with tag := some n.val } else x } }
        if w.uc then s.markTag r true
        else if s.reach (g / 32) 1 (c / 4) 2 e then homeArrive s (if own then 2 else 1) g r false
        else { s with gko := s.gko.upd g fun k => k.answered n (rspStatus stDISABLED) 0 false }

/-- RD_SHR (14 R296): a line cache's read of a line it asked for reaches the home. -/
def execRdShr (g : Fin 128) (line : BitVec 42) (w : Wire) (s : State) : Host.Outcome State Fault Refusal :=
  .next (lineRead s g line.toNat false w)

/-- RD_OWN (14 R296): an ownership read reaches the home. -/
def execRdOwn (g : Fin 128) (line : BitVec 42) (w : Wire) (s : State) : Host.Outcome State Fault Refusal :=
  .next (lineRead s g line.toNat true w)

/-- The transaction of a line that its home has begun: the oldest, in a slot. -/
def Hop.homeOf (h : Hop) (line : Nat) : Option (Nat × HomeWait) :=
  match h.homes.findIdx? fun w => w.line == line with
  | none => none
  | some j => match h.homes[j]? with
    | some w => if w.htag.isSome then some (j, w) else none
    | none => none

/-- Replace transaction `j`. -/
def Hop.setHome (h : Hop) (j : Nat) (w : HomeWait) : Hop := { h with homes := h.homes.set j w }

/-- A snoop reaches a line cache the home waits for: the copy is dropped or becomes Shared, a Modified one is first
sent back, and the answer is on its way. A snoop that is removed on its way is never answered. -/
def snoop (s : State) (g line : Nat) (inv : Bool) (wr : Wire) : State :=
  match s.hop.homeOf line with
  | none => s
  | some (j, w) =>
    if w.need.contains g && (inv == decide (2 ≤ w.kind)) then
      let s := s.wired wr (g / 32) 2 (256 + g) (64 * line)
      let w1 := { w with need := w.need.erase g }
      if wr.uc then { s with hop := s.hop.setHome j { w1 with lost := true } }
      else
        let wb := match (s.gko.at g).line line with | some c => if c.st = 3 then some (c.data, c.poison) else none | none => none
        { s with gko := s.gko.upd g (fun k => k.snooped line inv),
                 hop := s.hop.setHome j { w1 with answering := w.answering ++ [g], wb := if wb.isSome then wb else w.wb } }
    else s

/-- SNP_INV (14 R284, R296). -/
def execSnpInv (g : Fin 128) (line : BitVec 42) (w : Wire) (s : State) : Host.Outcome State Fault Refusal :=
  .next (snoop s g line.toNat true w)
/-- SNP_SHR (14 R284, R296). -/
def execSnpShr (g : Fin 128) (line : BitVec 42) (w : Wire) (s : State) : Host.Outcome State Fault Refusal :=
  .next (snoop s g line.toNat false w)

/-- The last holder has answered: its write-back is applied and the home goes on; none while memory cannot take it. -/
def snoopsDone (s : State) (j : Nat) (w : HomeWait) (g : Nat) : Option State :=
  match w.wb with
  | none => some (s.homeGo w.home)
  | some (d, p) => (s.writeBack g w.line d p).map fun y =>
    let s := if y.2 then { y.1 with b := wbError y.1.b g w.line } else y.1
    State.homeGo { s with hop := s.hop.setHome j { w with wb := none } } w.home

/-- SNP_RSP (14 R283, R296): a holder's answer reaches the home. With the last, the write-back is applied and the waiting
request served. -/
def execSnpRsp (g : Fin 128) (line : BitVec 42) (wr : Wire) (s : State) : Host.Outcome State Fault Refusal :=
  let l := line.toNat
  match s.hop.homeOf l with
  | none => .next s
  | some (j, w) =>
    if w.answering.contains g.val then
      let s1 := s.wired wr (w.home / 4) 1 (256 + g) (64 * l)
      let w1 := { w with answering := w.answering.erase g.val }
      if wr.uc then .next { s1 with hop := s1.hop.setHome j { w1 with lost := true } }
      else
        let s2 := { s1 with hop := s1.hop.setHome j w1 }
        if w1.idle then
          match snoopsDone s2 j w1 g with
          | some s3 => .next s3
          | none => .next s
        else .next s2
    else .next s

/-- WB (14 R296): a write-back reaches its home and ends the holder's copy; an error is logged and the line dropped
(11 R234). One that is removed on its way is an outstanding write of the gecko until it times out (R286). -/
def execWb (g : Fin 128) (line : BitVec 42) (w : Wire) (s : State) : Host.Outcome State Fault Refusal :=
  let l := line.toNat
  let c0 := (gdMap (s.b.gmode (g / 32)) (64 * l)).1
  let drop (s : State) : State := { s with gko := s.gko.upd g fun k => k.setLine l none }
  match (s.gko.at g).line l with
  | none => .next s
  | some c =>
    if c.st = 3 then
      let s0 := s.wired w (c0 / 4) 0 (256 + g) (64 * l)
      if w.uc then
        let r := { wbReq s.b g l c.data c.poison with tag := s.hop.newTag (256 + g) }
        .next (drop ((s0.inject r true true).markTag r true))
      else match s0.writeBackReq g l c.data c.poison with
        | none => .next s
        | some y => .next (drop (if y.2 then { y.1 with b := wbError y.1.b g l } else y.1))
    else .next (drop s)

/-! ### Requests at their targets (14 R282, R286, R297) -/

/-- The sleeping domain a request must wake, if its target sleeps (14 R297): the domain's name. -/
def State.sleeper (s : State) (r : HopReq) : Option SleepDomain :=
  match dpaRegion r.addr.toNat with
  | .gecko g _ => if s.b.sleeps (gkPage g) then some (.gecko ⟨g % 128, Nat.mod_lt _ (by decide)⟩) else none
  | .pads _ =>
    let pad := padOfDpa r.addr.toNat
    if s.b.groupAsleep (pad / 32) (pad % 32) then
      some (.group ⟨pad / 32 % 128, Nat.mod_lt _ (by decide)⟩ ⟨pad % 32 / 8, by omega⟩) else none
  | .gddr =>
    let c := (gdMap (s.b.gmode (s.b.srcTower r.src)) r.addr.toNat).1 % 16
    if s.b.bit (gdPage c) GD.STAT_SREF then some (.gddr ⟨c, by omega⟩) else none
  | .doorbell _ | .efmel _ | .reserved => none

/-- The first ring level on the way from level `l` of tower `t` to stop `st` that sleeps (14 R306). -/
def State.levelAsleep (s : State) (t l st : Nat) : Option SleepDomain :=
  (pathLevels t l (st / 256) (st / 64 % 4)).findSome? fun x =>
    if s.hop.levelState x.1 x.2 ≠ 0 then some (.level (tw x.1) ⟨x.2 % 3, Nat.mod_lt _ (by decide)⟩) else none

/-- The wake starts: a page or ring level that sleeps is waking. -/
def startWake (s : State) : SleepDomain → State
  | .gecko g => if s.b.fld (.gkc g) HDR.BLK_STAT_STATE = stAsleep then { s with b := s.b.setState (.gkc g) stWaking } else s
  | .level t l => { s with hop := s.hop.setLevel t l 2 }
  | .group _ _ | .gddr _ | .queue _ | .pad _ _ => s

/-- What the target's fence answers a request with that must be held, decided when it arrives (05 R108). -/
def State.fenceOf (s : State) (r : HopReq) : State × Option HopRsp :=
  match dpaRegion r.addr.toNat with
  | .gecko _ _ => let y := gkFence s.b r; ({ s with b := y.1 }, y.2)
  | _ => s.fenced (s.b.srcTower r.src) r

/-- The flits of a request that wait in an ejection buffer: on VN_RD one; on VN_WR the request and its byte enables. -/
def ReqFlits.count (f : ReqFlits) : Nat := if f.be.isSome then 2 else 1

/-- The flits in the ejection buffer of stop `st` on the virtual network of reads or of writes (14 R297). -/
def Hop.ejected (h : Hop) (st : Nat) (write : Bool) : Nat :=
  ((h.heldFlits.filter fun f => f.going.isEmpty && f.flits.dst == st && f.write == write && (match f.dom with | .level _ _ => false | _ => true)).map
    fun f => f.flits.count).sum

/-- Where a flit that its stop cannot take goes on round the ring: in the link buffer of its way at that stop. -/
def State.stays (s : State) (x y net vn : Nat) (e : Bool) : HopLink :=
  ((s.way x y net vn e).getLast?).getD ⟨y / 256, y / 64 % 4, ringAt (y / 64 % 4) (y % 64), false, net, vn⟩

/-- A request is held until its target's domain wakes: in the ejection buffer of its stop, sixteen flits of each virtual network, or,
where that is full, on the ring (14 R297). -/
def State.holdFlits (s : State) (d : SleepDomain) (r : HopReq) (write e : Bool) : State :=
  let t := s.b.srcTower r.src
  let st := (targetStop (s.b.gmode t) r.addr.toNat).getD 0
  let x := (s.b.srcStop r.src).getD 0
  let f := reqFlits r write st e (s.pathDegraded t (srcLevel r.src) (st / 256) (st / 64 % 4) e)
  let full := match d with | .level _ _ => false | _ => decide (16 < s.hop.ejected st write + f.count)
  let going := if full then List.replicate f.count (s.stays x st 0 (b2n write) e) ++
      (if write then [s.stays x st (3 + datPair r.src r.tag) 0 e] else []) else []
  let s := startWake s d
  { s with hop := { s.hop with heldFlits := s.hop.heldFlits ++ [⟨d, write, f, going⟩] } }

/-- The pad a request waits for. -/
def padDomain (r : HopReq) : SleepDomain :=
  .pad ⟨padOfDpa r.addr.toNat / 32 % 128, Nat.mod_lt _ (by decide)⟩ ⟨padOfDpa r.addr.toNat % 32, Nat.mod_lt _ (by decide)⟩

/-- Does a request go to the home of a GDDR6 line: it reaches it, within one block? -/
def State.toHome (s : State) (r : HopReq) (e : Bool) : Bool :=
  let t := s.b.srcTower r.src
  isGddr r.addr.toNat && oneBlock r && s.reach t (srcLevel r.src) ((gdMap (s.b.gmode t) r.addr.toNat).1 / 4) 2 e

/-- Perform a request at its target, `admitted` when it was checked before; `e` is its epoch. One to a pad under BIST or ZERO waits for
the end (09 R198); none while an Efmel port cannot send it. -/
def performReq (s : State) (r : HopReq) (write e admitted : Bool) : Option State :=
  if s.toHome r e then some (homeArrive s (if write then 3 else 0) 0 r admitted)
  else match s.serve r write e true admitted with
    | .ans s1 a => some { s1 with b := s1.b.answer r a }
    | .sent s1 => some s1
    | .hold => match dpaRegion r.addr.toNat with
      | .pads _ => some ((s.fenceOf r).1.holdFlits (padDomain r) r write e)
      | _ => none

/-- The EDC retries of a burst (16 R319): each is counted; a third failure is logged with KIND 0x3 and the controller
retrains. -/
def edcRetries (s : State) (r : HopReq) (n : Nat) : State :=
  let c := (gdMap (s.b.gmode (s.b.srcTower r.src)) r.addr.toNat).1
  if n = 0 ∨ isGddr r.addr.toNat = false ∨ s.b.homeAdmits (s.b.gmode (s.b.srcTower r.src)) r = false ∨ s.b.gdAway c = true then s
  else
    let b := (s.b.addFld (gdPage c) GD.EDC_CNT n).event (gdPage c) 11
    if n = 3 then
      let b := b.logErr (gdPage c) { kind := 3, addr := r.addr.toNat, ctx := reqLogCtx r, src := some r.src.val,
                                     det := (gdMap (s.b.gmode (s.b.srcTower r.src)) r.addr.toNat).2 / 64 }
      let x := gdTrainBegin b s.gdr c 2
      { s with b := x.1, gdr := x.2 }
    else { s with b := b }

/-- The tower whose stop a request reaches: its target's, or its own where it has none. -/
def State.arrivalTower (s : State) (r : HopReq) : Nat :=
  match targetStop (s.b.gmode (s.b.srcTower r.src)) r.addr.toNat with
  | some st => st / 256
  | none => s.b.srcTower r.src

/-- The request on its way under a tag: outstanding there, or one whose tag timed out before it arrived. -/
def Hop.sent (h : Hop) (r : HopReq) (write : Bool) : Option HopTag :=
  match h.tagOf r.src r.tag with
  | some x => if x.req = r ∧ x.write = write ∧ x.arrived = false ∧ x.lost = false ∧ x.engine = false then some x else none
  | none => h.stray.find? fun x => x.req == r && x.write == write

/-- Would request `x` overtake one of its initiator (14 R288): an older one to the same target, virtual network and PRIO that has not
arrived, or, at a fabric hop port or gecko, an older write to its block that awaits its completion? -/
def State.overtakes (s : State) (r : HopReq) (write : Bool) (no : Nat) : Bool :=
  let stop := fun (q : HopReq) => targetStop (s.b.gmode (s.b.srcTower q.src)) q.addr.toNat
  (decide (r.src.val < 384) && s.hop.writesBlock r.src (tagKey r.src r.tag) no (r.addr.toNat / 64)) ||
    s.hop.tags.any fun e => match e.2 with
      | some x => e.1 != tagKey r.src r.tag && x.req.src == r.src && x.write == write && x.req.prio == r.prio && decide (x.no < no) &&
          !x.arrived && stop x.req == stop r
      | none => false

/-- May the request arrive: tagged as its initiator's are (05 R107), sent and not yet there, or sent now by an initiator whose
requests no command of their own sends, and overtaking none (14 R282, R288)? -/
def State.mayArrive (s : State) (r : HopReq) (write : Bool) : Bool :=
  s.b.tagOk r.src r.priv r.ctx &&
  (match s.hop.sent r write with
   | some x => !s.overtakes r write x.no
   | none => decide (256 ≤ r.src.val) && (s.b.srcStop r.src).isSome && (s.hop.tagOf r.src r.tag).isNone && !s.overtakes r write s.hop.next)

/-- The epoch a request is stamped with: as injected, or, sent now, the live one of its initiator's level (14 R292). -/
def State.reqEpoch (s : State) (r : HopReq) (write : Bool) : Bool :=
  match s.hop.sent r write with
  | some x => x.epoch
  | none => s.b.epoch (s.b.srcTower r.src) (srcLevel r.src)

/-- A grant is held where the path needs one (14 R289): a degraded ring on the way, with the target stop as reservation
point. -/
def State.hasGrant (s : State) (r : HopReq) (e : Bool) : Option State :=
  match targetStop (s.b.gmode (s.b.srcTower r.src)) r.addr.toNat with
  | none => some s
  | some st =>
    match dpaRegion r.addr.toNat with
    | .efmel _ => some s
    | _ =>
      if s.pathDegraded (s.b.srcTower r.src) (srcLevel r.src) (st / 256) (st / 64 % 4) e then
        if s.hop.grant r.src st = 0 then none
        else some { s with hop := s.hop.setGrant r.src st (s.hop.grant r.src st - 1) }
      else some s

/-- The request is no longer on its way. -/
def State.arrived (s : State) (r : HopReq) (write lost : Bool) : State :=
  if (s.hop.tagOf r.src r.tag).isSome then s.markTag r lost
  else
    let h := { s.hop with stray := s.hop.stray.filter fun x => !(x.req == r && x.write == write) }
    { s with hop := if lost then h.lateLess r.src r.tag else h }

/-- A request reaches the stop of its target: performed there, or held where a ring level on its way or the target's domain sleeps; what
must be held is checked first. None while it cannot leave its own stop. -/
def State.offer (s : State) (r : HopReq) (write e admitted : Bool) (edc : Nat) : Option State :=
  let t := s.b.srcTower r.src
  match targetStop (s.b.gmode t) r.addr.toNat with
  | none => performReq s r write e admitted
  | some st =>
    if !oneBlock r || !s.reach t (srcLevel r.src) (st / 256) (st / 64 % 4) e then performReq s r write e admitted
    else match s.levelAsleep t (srcLevel r.src) st with
    | some d => some (s.holdFlits d r write e)
    | none =>
      if !s.flows r write ((s.b.srcStop r.src).getD 0) st e then none
      else match s.sleeper r with
      | none => performReq (edcRetries s r edc) r write e admitted
      | some d => match if admitted then (s, none) else s.fenceOf r with
        | (s, some a) => some { s with b := s.b.answer r a }
        | (s, none) => some (s.holdFlits d r write e)

/-- A request flit, and for a write its data, arrive at their target (14 R282 to R297). A flit of a reserved TYPE is refused there. -/
def hopArrive (s : State) (r : HopReq) (write : Bool) (w : Wire) : State :=
  if !s.mayArrive r write then s
  else
    let e := s.reqEpoch r write
    match s.hasGrant r e with
    | none => s
    | some s1 =>
      let s2 := if (s1.hop.sent r write).isNone then s1.inject r write false else s1
      let s3 := (s2.arrived r write w.uc).wired w (s1.arrivalTower r) 0 r.src r.addr.toNat
      if w.uc then s3
      else if w.resv then { s3 with b := s3.b.answer r (rspStatus stUNSUPPORTED) }
      else (s3.offer r write e false w.edc).getD s

/-- RD (14 R282): a read request arrives at its target, which answers with data or a completion. -/
def execRd (r : HopReq) (w : Wire) (s : State) : Host.Outcome State Fault Refusal := .next (hopArrive s r false w)
/-- WR (14 R282): a write request and its data arrive and are performed. -/
def execWr (r : HopReq) (w : Wire) (s : State) : Host.Outcome State Fault Refusal := .next (hopArrive s r true w)

/-- Wake a domain. -/
def wakeDomain (s : State) : SleepDomain → State
  | .gecko g => { s with b := s.b.wakePage (.gkc g) }
  | .group p n => { s with b := wakeGroup s.b p (8 * n.val) }
  | .gddr c =>
    let y := gdRetry (gdWake s.b c) s.gdr c
    State.homeGo { s with b := y.1, gdr := y.2 } c
  | .queue t => qWake s t
  | .level t l => { s with hop := s.hop.setLevel t l 0 }
  | .pad _ _ => s

/-- A held request goes on: one that a ring level held is offered again, the others are performed, as they were admitted before. -/
def goOn (s : State) (f : HeldReq) : State :=
  let r := f.flits.read
  match f.dom with
  | .level _ _ => (s.offer r f.write f.flits.epoch false 0).getD { s with hop := { s.hop with heldFlits := s.hop.heldFlits ++ [f] } }
  | _ => (performReq s r f.write f.flits.epoch true).getD s

/-- A flit among those on the ring, by PRIO and AGE (14 R291). -/
def insertHeld (x : HeldReq) : List HeldReq → List HeldReq
  | [] => [x]
  | y :: l => if 256 * y.flits.rank + y.flits.age ≤ 256 * x.flits.rank + x.flits.age then x :: y :: l else y :: insertHeld x l

/-- The order in which a stop takes the flits of a domain: its ejection buffer first, in order, then those on the ring by PRIO and AGE
(14 R291). -/
def heldOrder (l : List HeldReq) : List HeldReq :=
  (l.filter fun f => f.going.isEmpty) ++
    (l.filter fun f => !f.going.isEmpty).foldr insertHeld []

/-- The requests held for a domain go on. -/
def State.deliver (s : State) (d : SleepDomain) : State :=
  let mine := s.hop.heldFlits.filter fun f => f.dom == d
  (heldOrder mine).foldl goOn { s with hop := { s.hop with heldFlits := s.hop.heldFlits.filter fun f => f.dom != d } }

/-- TARGET_WAKE_DONE (14 R297, R306): the domain is awake and its held flits are delivered. A controller that a power
failure holds in self-refresh does not wake (21 R438); a pad under BIST or ZERO serves at its command's end. -/
def execTargetWakeDone (d : SleepDomain) (s : State) : Host.Outcome State Fault Refusal :=
  let stuck := match d with | .gddr _ => s.pwr.pwrFail | .pad _ _ => true | _ => false
  if stuck then .next s else .next ((wakeDomain s d).deliver d)

/-! ### Commits that wait for admitted requests (05 R110) -/

/-- The requests that target domain `d` holds and has admitted. -/
def Hop.heldBy (h : Hop) (d : SleepDomain → Bool) : List Waiting :=
  (h.heldFlits.filter fun f => d f.dom).map fun f => ⟨f.write, f.flits.read⟩

/-- The requests that home `c` has admitted and not answered. -/
def State.admittedAt (s : State) (c : Fin 16) : List Waiting :=
  SMap.get (fun _ => []) s.gdr.held c ++ s.hop.heldBy (fun d => d == .gddr c) ++
    (s.hop.homes.filter fun w => w.home == c.val).map fun w => ⟨w.kind == 3, w.req⟩

/-- ENC_TABLE_APPLY (17 R339): stop `c` applies the committed tables, unless an admitted request is in progress to an
entry that changes. -/
def execEncTableApply (c : Fin 16) (s : State) : Host.Outcome State Fault Refusal :=
  if s.b.encPending && s.b.encWaits c && !(s.admittedAt c).any (encBlocks s.b c) then
    let b := s.b.setParts (encPage c) 0
    .next { s with b := if (List.range 16).any b.encWaits then b else encCommitEnd b }
  else .next s

/-- Does the commit pending in pond `p` change OWN or BMASK of pad `n` (09 R194)? -/
def Base.padChanges (b : Base) (p n : Nat) : Bool :=
  b.shFld (pond p) (PND.BMASK_CTX.nth n) != b.padMask p n || (List.range 8).any fun c => b.padOwnerSh p n c != b.padOwner p n c

/-- Is an admitted access in progress on a pad of pond `p` that its commit changes (09 R194)? -/
def State.padsBusy (s : State) (p : Nat) : Bool :=
  (s.hop.heldBy fun d => match d with | .pad q _ | .group q _ => q.val == p | _ => false).any
      (fun w => s.b.padChanges p (padOfDpa w.req.addr.toNat % 32)) ||
    (s.ponds.waitingA p).any fun w => w.2 && s.b.padChanges p w.1.pad

/-! ### Completions (14 R283, R285, R286, R302) -/

/-- A completion for initiator `src` and tag `tag` arrives; `lat` is its request's latency in ring cycles. -/
def hopComplete (s : State) (src tag : Nat) (data : Bool) (w : Wire) (lat : Nat) : State :=
  match takeAnswer s.b.out src tag data with
  | none => s
  | some (a, out) =>
    let t := s.b.srcTower src
    let s1 := { s with b := wireNote { s.b with out := out } t w (if data then 3 else 1) src 0 }
    if w.uc then
      if s.hop.isLate src tag then { s1 with hop := s1.hop.lateLess src tag }
      else match s.hop.tagOf src tag with
      | some x => { s1 with hop := s1.hop.setTag src tag (some { x with lost := true }) }
      | none => s1
    else if s.hop.isLate src tag then lateCompletion s1 src tag
    else match s.hop.tagOf src tag with
      | none => s1
      | some x =>
        let y := hstLat s1.b (s1.hop.setTag src tag none) src lat
        let h := if isRefusal a then y.2.setStat t src 2 (y.2.stat t src 2 + 1) else y.2
        let b := if isRefusal a && y.1.fld (.hst (tw t)) HST.WINDOW_US == 0 then copyRecord y.1 h t src else y.1
        hopDeliver { s1 with b := b, hop := h } x a

/-- CMP (14 R283). -/
def execCmp (src : Fin 1024) (tag : Fin 4096) (w : Wire) (lat : Word) (s : State) : Host.Outcome State Fault Refusal :=
  .next (hopComplete s src tag false w lat.toNat)
/-- VN_RDATA (14 R285). -/
def execVnRdata (src : Fin 1024) (tag : Fin 4096) (w : Wire) (lat : Word) (s : State) : Host.Outcome State Fault Refusal :=
  .next (hopComplete s src tag true w lat.toNat)

/-- TAG_TIMEOUT (14 R286): a tag outstanding for TAGTO microseconds is completed locally with TIMEOUT. An engine of the device takes
that completion when it next offers its request. -/
def execTagTimeout (src : Fin 1024) (tag : Fin 4096) (s : State) : Host.Outcome State Fault Refusal :=
  let t := s.b.srcTower src
  let pg : Page := .hop (tw t)
  match s.hop.tagOf src tag with
  | none => .next s
  | some x =>
    if s.b.fld pg HOP.TAGTO_US = 0 ∨ s.b.aonUs < x.issuedAt + s.b.fld pg HOP.TAGTO_US ∨ (x.engine && x.expired) = true then .next s
    else
      let b := (s.b.logErr pg { kind := 5, addr := x.req.addr.toNat, ctx := reqLogCtx x.req, src := some src.val }).event pg 10
      if x.engine then .next { s with b := b, hop := s.hop.setTag src tag (some { x with expired := true }) }
      else
        let h := s.hop.setTag src tag none
        let h := if x.lost then h
          else { h with late := SMap.upd (fun _ => 0) h.late (tagKey src tag) (· + 1), stray := if x.arrived then h.stray else h.stray ++ [x] }
        .next (hopDeliver { s with b := b, hop := h } x (rspStatus stTIMEOUT))

/-! ### Reservation (14 R289, 19 R394) -/

/-- The Efmel port whose stop is a reservation point. -/
def eflOfStop (p : Nat) : Option Nat := (List.range 8).find? fun n => eflStop n == p

/-- What an Efmel port can still cover: partner credits and response slots that no grant reserves. -/
def eflCover (x : Efl) : Nat := min (x.credits - x.granted) (128 - x.outb - x.granted)

/-- The reservations queued at a point, in arrival order: initiator and COUNT; a COUNT of 0 stands for one that is lost on the network,
for which its initiator waits on. -/
def Hop.rsvAt (h : Hop) (p : Nat) : List (Nat × Nat) := SMap.get (fun _ => []) h.rsv p
/-- Set them. -/
def Hop.setRsv (h : Hop) (p : Nat) (l : List (Nat × Nat)) : Hop := { h with rsv := SMap.set (fun _ => []) h.rsv p l }

/-- RSV (14 R289): a reservation request reaches its reservation point; the initiator's unused grant lapses. A port whose
link is not UP grants at once (19 R396). -/
def execRsv (src point : Fin 1024) (count : Fin 17) (w : Wire) (s : State) : Host.Outcome State Fault Refusal :=
  let q := s.hop.rsvAt point
  if count.val = 0 ∨ q.any (fun e => e.1 == src.val) = true then .next s
  else
    let s0 := s.wired w (point.val / 256) 1 src 0
    if w.uc then .next { s0 with hop := s0.hop.setRsv point (q ++ [(src.val, 0)]) }
    else
      let old := s.hop.grant src point
      let s1 := { s0 with hop := s0.hop.setGrant src point 0 }
      let s2 := match eflOfStop point with
        | some n => s1.eflUpd n fun x => { x with granted := x.granted - old }
        | none => s1
      let now := match eflOfStop point with
        | some n => s.b.eflState n != eUP
        | none => false
      if now then .next { s2 with hop := s2.hop.setGrant src point count }
      else .next { s2 with hop := s2.hop.setRsv point (q ++ [(src.val, count.val)]) }

/-- GRANT (14 R289): the reservation point answers its oldest RSV with `count` requests, at most those asked for; an
Efmel port grants as many as it can cover, and none while it can cover none (19 R394, R399). -/
def execGrant (point : Fin 1024) (count : Fin 17) (w : Wire) (s : State) : Host.Outcome State Fault Refusal :=
  let q := s.hop.rsvAt point
  match q.find? fun e => e.2 != 0 with
  | none => .next s
  | some (src, n) =>
    let give := match eflOfStop point with
      | some p => if (eflAt s.efl p).quiescing then 0 else min n (eflCover (eflAt s.efl p))
      | none => min n count
    if give = 0 then .next s
    else
      let s0 := s.wired w (s.b.srcTower src) 1 src 0
      let s1 := if w.uc then { s0 with hop := s0.hop.setRsv point ((q.erase (src, n)) ++ [(src, 0)]) }
        else { s0 with hop := (s0.hop.setRsv point (q.erase (src, n))).setGrant src point give }
      .next (match eflOfStop point with
        | some p => s1.eflUpd p fun x => { x with granted := x.granted + give }
        | none => s1)

/-! ### Epochs (14 R292) -/

/-- Is a HOP offset part of level `l`'s map: MAPCTL for every level, the apertures for the logic level? -/
def mapOffset (l o : Nat) : Bool := o == 0x40 || (l == 0 && decide (0x8000 ≤ o) && decide (o < 0x10000))

/-- Copy level `l`'s map from the shadows into copy `e`. -/
def loadMap (b : Base) (h : Hop) (t l : Nat) (e : Bool) : Hop :=
  let base := pbase (.hop (tw t))
  ((b.pageKeys (.hop (tw t))).filter fun a => mapOffset l (a - base)).foldl (fun h a =>
    let m := SMap.set (fun k => regReset (pbase (.hop (tw (k / 65536 / 6))) + k % 65536)) h.maps
      ((6 * t + 2 * l + b2n e) * 65536 + (a - base)) (rwsMix a 0 (b.shWord a))
    { h with maps := m }) { h with maps := SMap.keep (fun k => !(k / 65536 == 6 * t + 2 * l + b2n e && mapOffset l (k % 65536))) h.maps }

/-- Is a flit of this outstanding request on the network: the request until it is delivered, its answer once it is sent? -/
def State.onNet (s : State) (key : Nat) (x : HopTag) : Bool :=
  !x.lost && (!x.arrived ||
    s.b.out.any (fun m => match m with | .hop a b _ _ _ _ _ => tagKey a b == key | _ => false) ||
    (s.gko.at (x.req.src - 256)).fills.any (fun f => decide (256 ≤ x.req.src.val ∧ x.req.src.val < 384) && f.tag == some x.req.tag.val && f.ans.isSome))

/-- Does a request of an initiator travel over level `l` of tower `t`? -/
def State.travels (s : State) (r : HopReq) (t l : Nat) : Bool :=
  match targetStop (s.b.gmode (s.b.srcTower r.src)) r.addr.toNat with
  | some st => (pathLevels (s.b.srcTower r.src) (srcLevel r.src) (st / 256) (st / 64 % 4)).contains (t, l)
  | none => false

/-- Does a flit stamped with epoch `e` remain on level `l` of tower `t` (14 R292): one on its way, or held at a sleeping target? -/
def State.remains (s : State) (t l : Nat) (e : Bool) : Bool :=
  (s.hop.tags.any fun k => match k.2 with | some x => x.epoch == e && s.onNet k.1 x && s.travels x.req t l | none => false) ||
    s.hop.stray.any (fun x => x.epoch == e && s.travels x.req t l) ||
    s.hop.heldFlits.any (fun f => f.flits.epoch == e && s.travels f.flits.read t l)

/-- EPOCH_FLIP (14 R292): a level on which no flit of the old epoch remains loads the committed map and flips E; the
commit ends with its last part. -/
def execEpochFlip (t : Tower) (l : Fin 3) (s : State) : Host.Outcome State Fault Refusal :=
  let pg : Page := .hop t
  let e := s.b.epoch t l
  if s.b.commitPend pg && nbit (s.b.parts pg) l && !s.remains t l (!e) then
    let h := loadMap s.b s.hop t l (!e)
    let b := s.b.applySh pg fun o => (l == 0 && mapOffset 0 o && o != 0x40) || (l == 2 && o == 0x40)
    let b := b.setFld pg HOP.EPOCH_E (nwr (b.fld pg HOP.EPOCH_E) l (!e))
    let b := b.eventIf (h.degrade t l (!e) != 0 && h.degrade t l (!e) != s.hop.degrade t l e) pg 13
    .next { s with b := (b.partDone pg l).event pg 14, hop := h }
  else .next s

/-! ### Fabric hop ports (14 R299) -/

/-- A write of FHP_CLK`j` (14 R299). -/
def fhpWrite (s : State) (t j : Nat) (v : Word) : State :=
  [0, 1].foldl (fun s i =>
    let src := 64 * t + 2 * j + i
    fhpSettle { s with hop := { s.hop with
      fhpPend := SMap.set (fun _ => none) s.hop.fhpPend src (some (wget v (8 * i + 5) (8 * i + 5) * 32 + wget v (8 * i + 4) (8 * i))) } } src) s

/-! ### Statistics (14 R302) -/

/-- HST_WINDOW_END (14 R302): the live counters go into the records, unless FREEZE holds them, and are cleared. -/
def execHstWindowEnd (t : Tower) (s : State) : Host.Outcome State Fault Refusal :=
  let pg : Page := .hst t
  if s.b.fld pg HST.WINDOW_US = 0 then .next s
  else
    let mine (k : Nat) : Bool := k / 32 / 1024 == t.val
    let srcs := ((s.hop.hst.filter fun e => mine e.1).map fun e => e.1 / 32 % 1024).eraseDups
    let clr := { s.b with regs := mapRange s.b.regs (pbase pg + 0x1000) (pbase pg + 0x30000) (fun a _ => regReset a) }
    let b := if s.b.bit pg HST.CTRL_FREEZE then s.b else srcs.foldl (fun b i => copyRecord b s.hop t i) clr
    .next { s with b := b.setFld pg HST.SEQ ((s.b.fld pg HST.SEQ + 1) % 2 ^ 32),
                   hop := { s.hop with hst := SMap.keep (fun k => !mine k) s.hop.hst,
                                       hstAt := SMap.set (fun _ => 0) s.hop.hstAt t s.b.aonUs } }

end Sys2Proof.Machine
end

