-- ==== Sys2Proof/Machine/Efmel.lean ====
section
/-! DEFINITION. Efmel ports: training, markers, cells, retry, inbound requests, presence and PRBS (19 R387 to R403). -/
namespace Sys2Proof.Machine

/-! ### Cells as received (19 R390, R392, R393) -/

/-- Unit `u` of a cell. -/
def cellUnit (c : BitVec 640) (u : Nat) : BitVec 64 := (c >>> (64 * u)).setWidth 64
/-- The payload units 1 to 9, descrambled from state `s`, and the state after them (19 R393). -/
def cellPayload (scr : Bool) (s : BitVec 64) (c : BitVec 640) : List (BitVec 64) × BitVec 64 :=
  (List.range 9).foldl (fun (a : List (BitVec 64) × BitVec 64) i =>
    (a.1 ++ [if scr then cellUnit c (i + 1) ^^^ a.2 else cellUnit c (i + 1)], lfsr64 a.2)) ([], s)

/-- Header fields. -/
def hdrField (c : BitVec 640) (hi lo : Nat) : Nat := nget (cellUnit c 0).toNat hi lo

/-- The packet of a PACKET cell's payload units (19 R392); none for a reserved PKIND. -/
def cellPacket (pkind : Nat) (us : List (BitVec 64)) : Option EflPkt :=
  let u (i : Nat) : Nat := (us.getD (i - 1) 0).toNat
  let flit := u 1 + u 2 <<< 64
  let data : BitVec 512 := BitVec.ofNat 512 ((List.range 8).foldr (fun i a => u (i + 1) + a <<< 64) 0)
  if pkind = 0 ∨ pkind = 1 then
    some (.req (nget flit 39 28) (nget flit 3 0) (nget flit 7 6) (BitVec.ofNat 48 (nget flit 95 48)) (nget flit 102 96)
      (if pkind = 1 then some (BitVec.ofNat 64 (u 3)) else none))
  else if pkind = 2 then some (.wdata (nget (u 9) 21 10) data (nbit (u 9) 23) (nbit (u 9) 24))
  else if pkind = 3 then some (.cmp (nget (u 1) 25 14) (nget (u 1) 29 26))
  else if pkind = 4 then some (.rdata (nget (u 9) 21 10) data (nbit (u 9) 23) (nbit (u 9) 24))
  else none

/-! ### Up, down and retraining (19 R388, R391, R397) -/

/-- Grant every RSV that waits at a port whose link is not UP (19 R396). -/
def grantAll (h : Hop) (p : Nat) : Hop :=
  (SMap.get (fun _ => []) h.rsv p).foldl (fun h e => h.setGrant e.1 p e.2)
    { h with rsv := SMap.set (fun _ => []) h.rsv p [] }

/-- Every grant of a reservation point lapses. -/
def lapseGrants (h : Hop) (p : Nat) : Hop := { h with grants := SMap.keep (fun k => !(k % 1024 == p)) h.grants }

/-- The link goes DOWN (19 R397) and STATE becomes `st`; with CTRL.TEST set, the port then tests (R400). -/
def eflDown (s : State) (n st : Nat) : State :=
  let x := eflAt s.efl n
  let pg := eflPage n
  let was := s.b.eflState n
  let b := x.slots.foldl (fun b e => match e.2 with
    | some (_, r) => b.answer r (rspStatus stDISABLED)
    | none => b) s.b
  let b := if x.slots = [] then b else b.logErr pg { kind := 2, det := x.outb }
  let b := (((b.setEflState n (if b.bit pg EFL.CTRL_TEST then eTEST else st)).setFld pg EFL.STAT_WIDTH 0).setFld pg EFL.STAT_RATE 0)
  let b := b.eventIf (was == eUP || was == eRETRAIN) pg 10
  let s1 := { s with b := b, hop := grantAll (lapseGrants s.hop (eflStop n)) (eflStop n) }
  eflOutst (s1.eflUpd n fun x =>
    { x with step := 0, cands := [], retrain := false, replay := [], resends := 0, nak := false, acked := 1023, nextSeq := 0, expSeq := 0,
             credits := 128, owed := 0, slots := [], granted := 0, inWrite := none, inb := [], quiescing := false }) n

/-- The key held in a pair of key registers. -/
def keyOf (b : Base) (n : Nat) (lo hi : Fld) : BitVec 64 :=
  BitVec.ofNat 64 (b.fld (eflPage n) lo + 2 ^ 32 * b.fld (eflPage n) hi)

/-- The training block that lane `l` repeats (19 R387). -/
def eflBlock (x : Efl) (attempt l : Nat) (good : BitVec 16) : List (BitVec 40) :=
  [0xC35A96A53C, BitVec.ofNat 40 (l + x.rates <<< 4 + x.widths <<< 8 + b2n x.scr <<< 11 + attempt <<< 12),
   BitVec.ofNat 40 (good.toNat + (kchk x.txKey).toNat <<< 16), 0x3CA5695AC3]

/-- The port repeats the blocks of an attempt, 0x3F in the first phase, on lanes 0 to `w` - 1. -/
def eflBlocks (s : State) (n attempt w : Nat) (good : BitVec 16) : State :=
  { s with b := s.b.send (.eflTrain n ((List.range w).map fun l => eflBlock (eflAt s.efl n) attempt l good)) }

/-- The blocks of the current attempt. -/
def eflTry (s : State) (n : Nat) : State :=
  let x := eflAt s.efl n
  eflBlocks s n x.attempt ((x.cands.getD x.attempt (0, 0)).1) (BitVec.ofNat 16 (s.b.fld (eflPage n) EFL.LANES_GOOD))

/-- Training begins at step 1, with the keys, RATES, WIDTHS and SCR as they stand (19 R388, R401). -/
def eflBegin (s : State) (n : Nat) (retrain : Bool) : State :=
  let b := s.b.setEflState n (if retrain then eRETRAIN else eTRAINING)
  let s := { s with b := b }.eflUpd n fun x =>
    { x with step := 1, cands := [], attempt := 0, retrain := retrain, since := s.b.aonUs, rxCount := 0,
             txKey := keyOf s.b n EFL.TX_KEY_LO EFL.TX_KEY_HI, rxKey := keyOf s.b n EFL.RX_KEY_LO EFL.RX_KEY_HI,
             scr := s.b.bit (eflPage n) EFL.CFG_SCR, rates := s.b.fld (eflPage n) EFL.CFG_RATES,
             widths := s.b.fld (eflPage n) EFL.CFG_WIDTHS }
  eflBlocks s n 0x3F 16 0

/-- Wake a sleeping port (19 R403). -/
def eflWake (b : Base) (n : Nat) : Base := b.wakePage (eflPage n)

/-- Train now: ignored while the pin is high, in test mode, while the TAP holds every link DOWN (25 R511), or while training already
runs; an UP link retrains. -/
def eflTrain (s : State) (n : Nat) : State :=
  let st := s.b.eflState n
  if s.b.bit (eflPage n) EFL.STAT_PRSNT = false ∨ s.b.tapOwns ∨ st = eTEST ∨ st = eTRAINING ∨ st = eRETRAIN then s
  else if st = eUP then
    let b := (s.b.addFld (eflPage n) EFL.RETRAIN_CNT 1).event (eflPage n) 12
    eflBegin { s with b := b } n true
  else eflBegin { s with b := (eflWake s.b n).setFld (eflPage n) EFL.STAT_FAIL_WHY 0 } n false

/-- A retrain (19 R391): the replay buffer, the outstanding tags and the grants are kept. -/
def eflRetrain (s : State) (n : Nat) : State :=
  if s.b.eflState n = eUP then
    eflBegin { s with b := (s.b.addFld (eflPage n) EFL.RETRAIN_CNT 1).event (eflPage n) 12 } n true
  else s

/-- Training fails (19 R388): a failed retrain takes the link DOWN first. -/
def eflFail (s : State) (n why : Nat) : State :=
  let s := if (eflAt s.efl n).retrain then eflDown s n eDOWN else s
  let b := ((s.b.setEflState n eFAIL).setFld (eflPage n) EFL.STAT_FAIL_WHY why).event (eflPage n) 11
  { s with b := b }.eflUpd n fun x => { x with step := 0, cands := [], since := s.b.aonUs, retrain := false }

/-- Lane rates in Gb/s by RATES bit. -/
def eflRates : List (Nat × Nat) := [(0, 10), (1, 20), (2, 32), (3, 40)]
/-- Widths by WIDTHS bit. -/
def eflWidths : List (Nat × Nat) := [(0, 4), (1, 8), (2, 16)]

/-- The candidate pairs (width, rate bit), by descending W × rate, then by descending W (19 R388). -/
def eflCands (rates widths good : Nat) : List (Nat × Nat) :=
  let ps := (eflWidths.filter fun w => nbit widths w.1 && (good % 2 ^ w.2 == 2 ^ w.2 - 1)).flatMap fun w =>
    (eflRates.filter fun r => nbit rates r.1).map fun r => (w.2, r)
  let le (a b : Nat × Nat × Nat) : Bool := decide (b.1 * b.2.2 < a.1 * a.2.2) || (a.1 * a.2.2 == b.1 * b.2.2 && decide (b.1 ≤ a.1))
  (ps.mergeSort le).map fun p => (p.1, p.2.1)

/-- TRAINING_PHASE_END (19 R387, R388): both ends hold each other's masks, and form the candidate list. -/
def execTrainingPhaseEnd (n : Fin 8) (good : BitVec 16) (adv : EflAdvert) (reversed : Bool) (pol : BitVec 16) (s : State) :
    Host.Outcome State Fault Refusal :=
  let x := eflAt s.efl n
  let pg : Page := .efl n
  if x.step ≠ 1 then .next s
  else
    let b := ((s.b.setFld pg EFL.LANES_GOOD good.toNat).setFld pg EFL.LANES_PARTNER adv.good.toNat)
    let b := (b.setFld pg EFL.STAT_POL pol.toNat).setBit pg EFL.STAT_REVERSED reversed
    let cs := eflCands (adv.rates.toNat &&& x.rates) (adv.widths.toNat &&& x.widths)
      (good &&& adv.good).toNat
    let s1 := { s with b := b }
    if cs = [] then .next (eflFail s1 n 1)
    else if adv.scr ≠ x.scr then .next (eflFail s1 n 3)
    else if adv.kchk ≠ kchk x.rxKey then .next (eflFail s1 n 4)
    else .next (eflTry (s1.eflUpd n fun x => { x with step := 2, cands := cs, attempt := 0 }) n)

/-- ATTEMPT_END (19 R388): the pair passes at both ends, or its 1 ms is over and the next is tried. -/
def execAttemptEnd (n : Fin 8) (ok : Bool) (s : State) : Host.Outcome State Fault Refusal :=
  let x := eflAt s.efl n
  if x.step ≠ 2 then .next s
  else if ok then match x.cands[x.attempt]? with
    | some (w, r) =>
      let b := (s.b.setFld (.efl n) EFL.STAT_WIDTH w).setFld (.efl n) EFL.STAT_RATE (r + 1)
      .next ({ s with b := b }.eflUpd n fun x => { x with step := 3, rxCount := 0 })
    | none => .next s
  else if x.attempt + 1 < x.cands.length then .next (eflTry (s.eflUpd n fun x => { x with attempt := x.attempt + 1 }) n)
  else .next (eflFail s n 2)

/-- TRAIN_RETRY (19 R388): RETRY_MS after a failure training begins again. -/
def execTrainRetry (n : Fin 8) (s : State) : Host.Outcome State Fault Refusal :=
  let ms := s.b.fld (.efl n) EFL.CFG_RETRY_MS
  if s.b.eflState n = eFAIL ∧ ms ≠ 0 ∧ (eflAt s.efl n).since + 1000 * ms ≤ s.b.aonUs then .next (eflTrain s n) else .next s

/-- Resend the replay buffer's window from its oldest cell. -/
def eflEmitAll (s : State) (n : Nat) : State :=
  ((eflAt s.efl n).replay.take 256).foldl (fun s e => eflEmit s n e.1 (some e.2)) s

/-- The link comes UP (19 R388, R391, R394): after a retrain it resumes from the last ACK, else everything starts over. -/
def eflUp (s : State) (n : Nat) : State :=
  let x := eflAt s.efl n
  let b := ((s.b.setEflState n eUP).setFld (eflPage n) EFL.MCOUNT 0).event (eflPage n) 9
  if x.retrain then
    let s1 := { s with b := b }.eflUpd n fun x => { x with step := 0, retrain := false, resends := 0, ackAt := s.b.aonUs }
    eflEmitAll s1 n
  else { s with b := b }.eflUpd n fun x =>
    { x with step := 0, replay := [], resends := 0, nextSeq := 0, expSeq := 0, nak := false, acked := 1023, credits := 128, owed := 0,
             slots := [], granted := 0, inWrite := none, inb := [], ackAt := s.b.aonUs }

/-- The cells between two markers at the width in use (19 R389). -/
def Base.markerCells (b : Base) (n : Nat) : Nat := 1024 * b.fld (eflPage n) EFL.STAT_WIDTH

/-- A marker's words, one a lane, are as they must be (19 R389). -/
def markerOk (ws : List (BitVec 40)) (width count : Nat) : Bool :=
  ws.length == width && (List.range width).all fun l =>
    let w := (ws.getD l 0).toNat
    nget w 39 16 == 0xB4E178 && nget w 15 12 == l && nget w 11 0 == count % 4096

/-- MARKER (19 R389, R393): the marker words of lanes 0 to W - 1. The first with MCOUNT 0 brings the link UP; a marker
fault on an UP link, a marker out of its place included, retrains it. MCOUNT (sent) goes on by a number of markers the model does not time: a free value. -/
def execMarker (n : Fin 8) (ws : List (BitVec 40)) (s : State) : Host.Outcome State Fault Refusal :=
  let x := eflAt s.efl n
  let up := s.b.eflState n == eUP
  if !up && x.step != 3 then .next s
  else if markerOk ws (s.b.fld (.efl n) EFL.STAT_WIDTH) x.rxCount && (!up || x.rxCells == s.b.markerCells n) then
    let s1 := s.eflUpd n fun x => { x with rxState := lfsrLoad x.rxKey x.rxCount, rxCount := (x.rxCount + 1) % 2 ^ 32, rxCells := 0 }
    if up then
      .next { s1 with b := (s1.b.setFld (.efl n) EFL.MCOUNT (Config.freeBits 32 s1.b.free).toNat).bump }
    else .next (eflUp s1 n)
  else .next (eflRetrain s n)

/-- MISSING_MARKER (19 R389): no marker where one is due; the link retrains. -/
def execMissingMarker (n : Fin 8) (s : State) : Host.Outcome State Fault Refusal := .next (eflRetrain s n)

/-! ### Cells (19 R390, R391) -/

/-- Resend from the oldest unacknowledged cell; the fourth resend of one SEQ retrains. -/
def eflResend (s : State) (n : Nat) : State :=
  let x := eflAt s.efl n
  if x.replay = [] then s
  else if 3 ≤ x.resends then
    eflRetrain { s with b := s.b.addFld (eflPage n) EFL.REPLAY_CNT 1 } n
  else
    let s1 := { s with b := s.b.addFld (eflPage n) EFL.REPLAY_CNT 1 }.eflUpd n fun x =>
      { x with resends := x.resends + 1, ackAt := s.b.aonUs }
    eflEmitAll s1 n

/-- ACK of a SEQ: the cells up to it leave the replay buffer, and cells that waited for room go out. -/
def eflAck (s : State) (n ack : Nat) : State :=
  let x := eflAt s.efl n
  match (x.replay.take 256).findIdx? (fun e => e.1 == ack) with
  | none => s
  | some i =>
    let rest := x.replay.drop (i + 1)
    let fresh := (rest.take 256).drop (255 - i)
    fresh.foldl (fun s (e : Nat × EflPkt) => eflEmit s n e.1 (some e.2))
      (s.eflUpd n fun x => { x with replay := rest, resends := 0, ackAt := s.b.aonUs })

/-- Discard a faulty cell: counted, a correctable error of KIND 0x1, and NAK is due. -/
def eflDiscard (s : State) (n : Nat) : State :=
  { s with b := (s.b.addFld (eflPage n) EFL.CRC_CNT 1).corrErr (eflPage n) { kind := 1 } }.eflUpd n fun x => { x with nak := true }

/-- ACK, NAK and CREDIT of a cell's header. -/
def eflHeader (s : State) (n : Nat) (c : BitVec 640) : State :=
  let s1 := eflAck s n (hdrField c 24 15)
  let s2 := s1.eflUpd n fun x => { x with credits := min 128 (x.credits + hdrField c 33 26) }
  if hdrField c 25 25 = 1 then eflResend s2 n else s2

/-- An inbound request, as the port injects it under a tag of the hop network (19 R397). -/
def eflInReq (b : Base) (n tag prio : Nat) (addr : BitVec 48) (bytes : Nat) (be : Option (BitVec 64)) (d : BitVec 512)
    (pl ph : Bool) : HopReq :=
  ⟨⟨(768 + n) % 1024, Nat.mod_lt _ (by decide)⟩, false, ⟨b.fld (eflPage n) EFL.BIND_CTX % 8, Nat.mod_lt _ (by decide)⟩,
   ⟨prio % 4, Nat.mod_lt _ (by decide)⟩, ⟨tag % 4096, Nat.mod_lt _ (by decide)⟩, addr, ⟨bytes % 65, Nat.mod_lt _ (by decide)⟩,
   be.isSome, be.getD 0, d, pl, ph⟩

/-- An inbound request of link tag `link` is injected, or answered at the port (19 R397, R402). -/
def eflInbound (s : State) (n typ link : Nat) (r : HopReq) : State :=
  let pg := eflPage n
  let s1 := eflOutst (s.eflUpd n fun x => { x with inb := x.inb ++ [(r.tag.val, link)] }) n
  if !s.b.bit pg EFL.BIND_EN || s.b.ctxResets r.ctx.val then eflAnswer s1 n r.tag r (rspStatus stDISABLED)
  else if (typ ≠ 1 ∧ typ ≠ 4) ∨ (match dpaRegion r.addr.toNat with | .efmel _ => true | _ => false) = true then
    eflAnswer { s1 with b := s1.b.logErr pg { kind := 5, addr := r.addr.toNat, ctx := some r.ctx.val, src := some r.src.val } }
      n r.tag r (rspStatus stUNSUPPORTED)
  else s1.inject r (typ == 4) false

/-- The hop-network tag of the next inbound request: free, and not one that an inbound request waits under. -/
def State.eflNewTag (s : State) (n : Nat) : Nat :=
  ((List.range 4096).find? fun k => (SMap.get (fun _ => none) s.hop.tags (tagKey (768 + n) k)).isNone &&
    !((eflAt s.efl n).inb.any fun e => e.1 == k)).getD 0

/-- An accepted packet (19 R392, R396, R397); a request of more than 64 bytes is none that crosses. -/
def eflPacket (s : State) (n : Nat) (p : EflPkt) : State :=
  match p with
  | .req tag typ prio addr bytes be =>
    if typ = 4 then s.eflUpd n fun x => { x with inWrite := some (tag, prio, addr, bytes, be) }
    else eflInbound s n (if 64 < bytes then 0 else typ) tag (eflInReq s.b n (s.eflNewTag n) prio addr bytes be 0 false false)
  | .wdata _ d pl ph =>
    match (eflAt s.efl n).inWrite with
    | none => s
    | some (tag, prio, addr, bytes, be) =>
      eflInbound (s.eflUpd n fun x => { x with inWrite := none }) n (if 64 < bytes then 0 else 4) tag
        (eflInReq s.b n (s.eflNewTag n) prio addr bytes be d pl ph)
  | .cmp tag st =>
    match SMap.get (fun _ => none) (eflAt s.efl n).slots tag with
    | some (_, r) => eflFree { s with b := s.b.answer r (rspStatus st) } n tag
    | none => s
  | .rdata tag d pl ph =>
    match SMap.get (fun _ => none) (eflAt s.efl n).slots tag with
    | some (_, r) => eflFree { s with b := s.b.answer r (rspData d pl ph) } n tag
    | none => s

/-- A cell is received on an UP link: `want` is the PKIND the command names, 5 for IDLE. A cell that is whole and of
another kind is not this event. A cell where a marker is due means that the marker is missing (19 R389). -/
def eflReceive (s : State) (n : Nat) (c : BitVec 640) (want : List Nat) : State :=
  if s.b.eflState n ≠ eUP then s
  else if (eflAt s.efl n).rxCells = s.b.markerCells n then eflRetrain s n
  else
    let x := eflAt s.efl n
    let kind := hdrField c 1 0
    let pkind := hdrField c 4 2
    let pay := cellPayload x.scr x.rxState c
    let s1 := s.eflUpd n fun x => { x with rxState := pay.2, rxCells := x.rxCells + 1 }
    if hdrField c 63 48 ≠ cellCrc c ∨ 2 ≤ kind ∨ (kind = 1 ∧ 5 ≤ pkind) then eflDiscard s1 n
    else if !want.contains (if kind = 0 then 5 else pkind) then s
    else
      let s2 := eflHeader s1 n c
      if kind = 0 then s2
      else if hdrField c 14 5 ≠ x.expSeq then eflDiscard s2 n
      else match cellPacket pkind pay.1 with
        | none => eflDiscard s2 n
        | some p => eflPacket (s2.eflUpd n fun x => { x with expSeq := (x.expSeq + 1) % 1024, nak := false }) n p

/-- IDLE_CELL (19 R390). -/
def execIdleCell (n : Fin 8) (cell : BitVec 640) (s : State) : Host.Outcome State Fault Refusal :=
  .next (eflReceive s n cell [5])
/-- REQ_CELL (19 R397): a REQ or REQ_BE cell. -/
def execReqCell (n : Fin 8) (cell : BitVec 640) (s : State) : Host.Outcome State Fault Refusal :=
  .next (eflReceive s n cell [0, 1])
/-- WDATA_CELL (19 R392). -/
def execWdataCell (n : Fin 8) (cell : BitVec 640) (s : State) : Host.Outcome State Fault Refusal :=
  .next (eflReceive s n cell [2])
/-- CMP_CELL (19 R392). -/
def execCmpCell (n : Fin 8) (cell : BitVec 640) (s : State) : Host.Outcome State Fault Refusal :=
  .next (eflReceive s n cell [3])
/-- RDATA_CELL (19 R392). -/
def execRdataCell (n : Fin 8) (cell : BitVec 640) (s : State) : Host.Outcome State Fault Refusal :=
  .next (eflReceive s n cell [4])

/-- REPLAY_TIMEOUT (19 R391): 10 µs without ACK progress resends; 1 ms with a full replay buffer retrains. -/
def execReplayTimeout (n : Fin 8) (s : State) : Host.Outcome State Fault Refusal :=
  let x := eflAt s.efl n
  if s.b.eflState n ≠ eUP ∨ x.replay = [] then .next s
  else if 256 ≤ x.replay.length ∧ x.ackAt + 1000 ≤ s.b.aonUs then .next (eflRetrain s n)
  else if x.ackAt + 10 ≤ s.b.aonUs then .next (eflResend s n)
  else .next s

/-- RETRAIN_TIMEOUT (19 R391): a retrain not UP within 10 ms takes the link DOWN. -/
def execRetrainTimeout (n : Fin 8) (s : State) : Host.Outcome State Fault Refusal :=
  if s.b.eflState n = eRETRAIN ∧ (eflAt s.efl n).since + 10000 ≤ s.b.aonUs then
    let s1 := eflDown s n eDOWN
    .next { s1 with b := s1.b.setFld (.efl n) EFL.STAT_FAIL_WHY 5 }
  else .next s

/-- EFMEL_OUTBOUND (19 R396): a request of type `typ` at the local port: refused, or sent as a REQ cell. -/
def execEfmelOutbound (r : HopReq) (typ : Fin 16) (s : State) : Host.Outcome State Fault Refusal :=
  match dpaRegion r.addr.toNat with
  | .efmel n =>
    if typ.val = 1 ∨ typ.val = 4 then
      let w := decide (typ.val = 4)
      if !s.mayArrive r w then .next s
      else
        let s1 := (if (s.hop.sent r w).isNone then s.inject r w false else s).arrived r w false
        match eflOutbound s1 n r w true with
        | none => .next s
        | some (s2, some a) => .next { s2 with b := s2.b.answer r a }
        | some (s2, none) => .next s2
    else .next { s with b := s.b.answer r (rspStatus stUNSUPPORTED) }
  | _ => .next s

/-! ### Commands of the page and presence (19 R397, R399) -/

/-- CTRL.DOWN: with the pin high the port stays ABSENT. -/
def eflDownCmd (s : State) (n : Nat) : State :=
  if s.b.eflState n = eTEST then s
  else eflDown s n (if s.b.bit (eflPage n) EFL.STAT_PRSNT then eDOWN else eABSENT)

/-- CTRL.QUIESCE: the port stops granting and answers new outbound requests DISABLED. -/
def eflQuiesce (s : State) (n : Nat) : State :=
  if s.b.eflState n = eUP ∨ s.b.eflState n = eRETRAIN then
    s.eflUpd n fun x => { x with quiescing := true, quietAt := s.b.aonUs }
  else s

/-- QUIESCE_DONE (19 R399): nothing is outstanding, or 10 ms have passed. -/
def execQuiesceDone (n : Fin 8) (s : State) : Host.Outcome State Fault Refusal :=
  let x := eflAt s.efl n
  if x.quiescing && ((x.slots.isEmpty && x.inb.isEmpty) || decide (x.quietAt + 10000 ≤ s.b.aonUs)) then
    .next (eflDown s n eQUIESCED)
  else .next s

/-- PRSNT_CHANGE (19 R399): the pin's new level is sampled, and its debounce starts. -/
def execPrsntChange (n : Fin 8) (low : Bool) (s : State) : Host.Outcome State Fault Refusal :=
  .next (s.eflUpd n fun x => { x with pinLow := low, pinAt := s.b.aonUs })

/-- PRESENCE_DEBOUNCED (19 R399, R403): the pin has held its level for 10 ms. -/
def execPresenceDebounced (n : Fin 8) (s : State) : Host.Outcome State Fault Refusal :=
  let x := eflAt s.efl n
  let pg : Page := .efl n
  if s.b.bit pg EFL.STAT_PRSNT = x.pinLow ∨ s.b.aonUs < x.pinAt + 10000 then .next s
  else
    let b := ((eflWake s.b n).setBit pg EFL.STAT_PRSNT x.pinLow).event pg 8
    let s1 := { s with b := b }
    if x.pinLow then
      let s2 := if b.eflState n = eABSENT then { s1 with b := b.setEflState n eDOWN } else s1
      .next (if b.bit pg EFL.CTRL_AUTO then eflTrain s2 n else s2)
    else if b.eflState n = eTEST then .next s1
    else .next (eflDown s1 n eABSENT)

/-! ### PRBS (19 R400) -/

/-- Zero the counters and drop the locks. -/
def prbsClear (b : Base) (n : Nat) : Base :=
  (List.range 16).foldl (fun b l => b.setFld (eflPage n) (EFL.PRBS_ERR.nth l) 0) (b.setFld (eflPage n) EFL.PRBS_LOCK 0)

/-- A write of CTRL.TEST. -/
def eflTest (s : State) (n : Nat) (on : Bool) : State :=
  let pg := eflPage n
  let b := s.b.setBit pg EFL.CTRL_TEST on
  if on then
    if s.b.eflState n = eUP ∨ s.b.eflState n = eRETRAIN then { s with b := b }
    else { s with b := b.setEflState n eTEST }.eflUpd n fun x => { x with step := 0 }
  else if s.b.eflState n = eTEST then
    let s1 := { s with b := (prbsClear b n).setEflState n (if b.bit pg EFL.STAT_PRSNT then eDOWN else eABSENT) }
    if b.bit pg EFL.CTRL_AUTO then eflTrain s1 n else s1
  else { s with b := b }

/-- PRBS.INJ in test mode. -/
def prbsInject (b : Base) (n : Nat) : Base := if b.eflState n = eTEST then b.send (.eflInject n) else b

/-- PRBS_LOCK (19 R400): lane `l`'s checker locks, and has counted `errs` bit errors since. -/
def execPrbsLock (n : Fin 8) (l : Fin 16) (errs : Word) (s : State) : Host.Outcome State Fault Refusal :=
  let pg : Page := .efl n
  if s.b.eflState n = eTEST then
    .next { s with b := (s.b.setFld pg EFL.PRBS_LOCK (nset (s.b.fld pg EFL.PRBS_LOCK) l)).addFld pg (EFL.PRBS_ERR.nth l) errs.toNat }
  else .next s

end Sys2Proof.Machine
end

