-- ==== Sys2Proof/Machine/FabricHold.lean ====
section
/-! DEFINITION. How a combinational signal is driven: the configuration that shapes it and the signals it reads. A swap
that changes it for a control set's local line holds that control set's clock (03 R48). -/
namespace Sys2Proof.Machine

/-- What drives a carry or a LUT of eft `n` of clutch `c`: its truth table, input selects and carry fields, and the signals
they name (03 R39 to R41). -/
def State.eftDrive (s : State) (c n : Nat) : List Nat × List Sig :=
  let sel := fun i => s.cfg.field c n (16 + 6 * i) 6
  let ins := [0, 1, 2, 3].map fun i => Sig.src c (sel i)
  let cin := s.cfg.field c n 41 2
  ([s.cfg.field c n 0 16, sel 0, sel 1, sel 2, sel 3, b2n (s.cfg.bitAt c n 40), cin],
    if s.cfg.bitAt c n 40 ∧ cin = 0 ∧ n ≠ 0 then Sig.cout c (n - 1) :: ins else ins)

/-- What drives a signal: configuration values, and the signals it reads. A state element reads none; which of a
flip-flop's copies it is counts (05 R88). -/
def State.drive (s : State) : Sig → List Nat × List Sig
  | .src c v => if v < 16 then ([v], [.o c v]) else if v < 32 then ([v, s.copyNo c], [])
    else if v < 62 then ([v], [.ll c (v - 32)]) else ([v], [])
  | .o c n => s.eftDrive c n
  | .cout c n => s.eftDrive c n
  | .ll c i =>
    let v := s.cfg.swb c (6 * i) 6
    ([v], if v < 56 then [.arr c ((v + 2 * i) % 72)]
      else if v = 56 ∧ isTap c then [.rx c false] else if v = 57 ∧ isTap c then [.rx c true]
      else if v = 58 then (match ewStation c with | some (d, n) => [.lane (cTower c) (cMarsh c) d n] | none => [])
      else if v = 59 then (match nsStation c with | some (d, n) => [.lane (cTower c) (cMarsh c) d n] | none => [])
      else if v = 60 then [.port c (i % 16)] else if v = 61 then [.port c ((i + 8) % 16)] else [])
  | .wire c w =>
    let d := w / 14
    let k := w % 14
    let v := s.cfg.swb c (180 + 6 * w) 6
    ([v], if v < 32 then [.src c v] else if v < 50 then [.arr c (18 * d + v - 32)]
      else if v = 50 then [.arr c (18 * ((d + 1) % 4) + k)] else if v = 51 then [.arr c (18 * ((d + 1) % 4) + (k + 4) % 18)]
      else if v = 52 then [.arr c (18 * ((d + 3) % 4) + k)] else if v = 53 then [.arr c (18 * ((d + 3) % 4) + (k + 4) % 18)]
      else if v = 54 ∧ isTap c then [.rx c false] else if v = 55 ∧ isTap c then [.rx c true]
      else if v = 56 then (match ewStation c with | some (d, n) => [.lane (cTower c) (cMarsh c) d n] | none => [])
      else if v = 57 then (match nsStation c with | some (d, n) => [.lane (cTower c) (cMarsh c) d n] | none => [])
      else if v = 58 then [.port c (w % 16)] else if v = 59 then [.cout c 15] else if v = 60 then [.ll c (w % 30)] else [])
  | .arr c a => match s.arrivalWire c a with
    | some (c', w) => ([1, c', w], [.wire c' w])
    | none => ([0], [])
  | .deep c v =>
    let seg := s.segment (lineOf c v) c
    let on := seg.filter fun x => s.cfg.drives x v && !s.cutOff (cTower x) (cMarsh x)
    (b2n (s.b.lineFenced (lineOf c v)) :: seg ++ on, on.map fun x => .src x (s.cfg.swb x ((if v then 526 else 516) + 2) 6))
  | .rx c v =>
    let r := s.cfg.swb c ((if v then 526 else 516) + 8) 1
    ([s.cfg.tapMode c v, r, if r = 1 then s.liveAt c else 0], if r = 1 then [] else [.deep c v])
  | .lane t m d n => match laneFrom d m with
    | some k => if s.closed t k m then ([0], []) else ([1], [.laneOut t k d n])
    | none => ([2, s.b.liveOf t m], [])
  | .laneAfter t m d n =>
    let c := stationOf t m d n
    let inj := s.cfg.swb c (laneBase d) 1
    let src := s.cfg.swb c (laneBase d + 1) 6
    if inj = 1 then ([1, src], [.src c src]) else ([0], [.lane t m d n])
  | .laneOut t m d n =>
    if s.cfg.swb (stationOf t m d n) (laneBase d + 7) 1 = 1 then ([1, s.b.liveOf t m], []) else ([0], [.laneAfter t m d n])
  | .port _ _ => ([], [])

/-- Is a signal driven alike in two states: the same configuration all the way to state elements and ports? `path` holds the
signals being compared. -/
def State.sameDrive (s old : State) : Nat → List Sig → Sig → Bool
  | 0, _, _ => false
  | fuel + 1, path, g =>
    path.contains g || (s.drive g == old.drive g && (s.drive g).2.all fun h => s.sameDrive old fuel (g :: path) h)

/-- Is the clock of control set `k` of clutch `c` driven alike (03 R48)? -/
def State.sameClock (s old : State) (c k : Nat) : Bool :=
  let g := s.cfg.clkSrc c k
  g == old.cfg.clkSrc c k && s.cfg.clkInv c k == old.cfg.clkInv c k &&
    (!(decide (32 ≤ g) && decide (g < 62)) || s.sameDrive old sigFuel [] (.ll c (g - 32)))

end Sys2Proof.Machine
end

