-- ==== Sys2Proof/Machine/FabricRun.lean ====
section
/-! DEFINITION. The fabric in time: clock edges, asynchronous set and reset, local-line clocks, initial values and write
enables, deep-line keepers, and the levels banks drive (03 R43 to R49, 04 R66 to R76, 05 R84 to R89, 06 R130 to R133,
25 R505). -/
namespace Sys2Proof.Machine

/-! ### The clutches that hold any configuration -/

/-- The clutches of a frame whose sixteen efts have some bit of it set. -/
def frameClutches (t m f : Nat) (d : BitVec 4096) : List Nat :=
  ((List.range 256).filter (fun p => (d.toNat >>> (16 * p)) % 65536 != 0)).map fun p =>
    clutchAt t (32 * (m % 32) + p % 32) (32 * (m / 32) + 8 * (f / 112) + p / 32)

/-- The clutches of the package whose front plane holds a bit that is 1, in order. In any other clutch no flip-flop
and no routing register ever loads (03, "The 112 configuration bits"). -/
def CfgMem.clutches (x : CfgMem) : List Nat :=
  (x.front.foldl (fun (m : SMap Unit) e =>
    (frameClutches (e.1 / 512 / 384) (e.1 / 512 % 384) (e.1 % 512) e.2).foldl (fun m c => SMap.ins m c ()) m) []).map Prod.fst

/-! ### What an edge loads (03 R43, 04 R64, R71, R72, R75) -/

/-- The SR signal of a control set, after its inversion. -/
def State.srOf (s : State) (c k : Nat) : Option Bool :=
  xor3 (s.val (.src c (s.cfg.sharedF c (20 * k + 13) 6))) (some (s.cfg.shared c (20 * k + 19)))
/-- The control set of an eft (03 R45). -/
def CfgMem.csOf (x : CfgMem) (c n : Nat) : Nat := b2n (x.bitAt c n 44)
/-- SR_TYPE of an eft: 0 none, 1 synchronous, 2 asynchronous. -/
def CfgMem.srType (x : CfgMem) (c n : Nat) : Nat := x.field c n 45 2

/-- Are two dividers related: one divides the other (05 R87)? -/
def dividersRelated (a b : Nat) : Bool := a % b == 0 || b % a == 0
/-- Is the first load after a swap open on this control set's clock (05 R87): a global clock whose divider is not related to
the switch clock's? -/
def State.firstLoadOpen (s : State) (c k : Nat) : Bool :=
  let g := s.cfg.clkSrc c k
  let t := cTower c
  s.fab.isFresh c k && decide (g < 32) && !dividersRelated (s.b.gclkDiv t g) (s.b.gclkDiv t (s.b.swclk t))
/-- Is the first load after a swap open on global clock `g` in marsh `m` (05 R87)? -/
def State.firstLoadOpenE (s : State) (t m g : Nat) : Bool :=
  s.fab.isFreshE t m g && !dividersRelated (s.b.gclkDiv t g) (s.b.gclkDiv t (s.b.swclk t))
/-- A value that may also stay the old one. -/
def orOld (isOpen : Bool) (old : Bool) (v : Option Bool) : Option Bool := if isOpen then (if v = some old then v else none) else v

/-- Case 4 of 03 R43: the selected data input. -/
def State.dataOf (s : State) (c n : Nat) : Option Bool :=
  if s.cfg.bitAt c n 43 then s.val (.src c (s.cfg.field c n 34 6)) else s.val (.o c n)

/-- What eft `n` of clutch `c` loads at an active edge of its control set: cases 2 to 5 of 03 R43. `recov`: an
asynchronous SR was released within the recovery window of this edge (R44). `runt`: the edge is that of a runt pulse, which
leaves the old value or the loaded one (R47). -/
def State.edgeNext (s : State) (recov runt : Bool) (c n : Nat) : Option Bool :=
  let k := s.cfg.csOf c n
  let cur := s.fab.copy c n (s.copyNo c)
  let ty := s.cfg.srType c n
  let sr := if ty = 0 then some false else s.srOf c k
  let load := mux3 (s.val (.src c (s.cfg.sharedF c (20 * k + 7) 6))) (s.dataOf c n) (some cur)
  let sv := some (s.cfg.bitAt c n 47)
  let v := match ty with
    | 0 => load
    | 1 => mux3 sr sv load
    | 2 =>
      let rel := recov && SMap.get (fun _ => false) s.fab.srRel (16 * c + n)
      mux3 sr (some cur) (if rel then mux3 none sv load else load)
    | _ => none
  orOld (runt || s.firstLoadOpen c k) cur v

/-- A pending load of a register: the key and the value, none where the spec leaves it open. -/
abbrev Loads := List (Nat × Option Bool)

/-- Draw a free value where the spec states none. -/
def settleBit (b : Base) (v : Option Bool) : Base × Bool :=
  match v with
  | some x => (b, x)
  | none => (b.bump, (Config.freeBits 1 b.free).getLsbD 0)

/-- The flip-flop loads of one wave: `act` names the control sets with an active edge. -/
def State.ffLoads (s : State) (act : Nat → Nat → Bool) (recov runt : Bool) (cs : List Nat) : Loads :=
  cs.flatMap fun c =>
    if s.b.we (cTower c) (s.liveAt c) && !s.cutOff (cTower c) (cMarsh c) && (act c 0 || act c 1) then
      ((List.range 16).filter (fun n => act c (s.cfg.csOf c n))).map fun n =>
        ((c * 16 + n) * 9 + s.copyNo c, s.edgeNext recov runt c n)
    else []

/-- A routing register's load into the live context's copy, where that copy is clocked (04 R72): its marsh has power and the
context's write enable is high. -/
def State.rrLoad (s : State) (t m r : Nat) (isOpen : Bool) (v : Option Bool) : Loads :=
  let c := s.b.liveOf t m
  if s.b.we t c && !s.b.domainDown t m
  then [(8 * r + c, orOld isOpen (SMap.get (fun _ => false) s.fab.rr (8 * r + c)) v)] else []

/-- The ECLK of a lane's station (04 R71). -/
def CfgMem.eclk (x : CfgMem) (t m d n : Nat) : Nat := x.swb (stationOf t m d n) (laneBase d + 8) 5

/-- The lane station of a clutch, when its boundary register is in use. -/
def CfgMem.regStation (x : CfgMem) (c : Nat) : Option (Nat × Nat) → Option (Nat × Nat)
  | some (d, n) => if x.swb c (laneBase d + 7) 1 = 1 then some (d, n) else none
  | none => none

/-- The routing registers inside marshes that one wave loads: `gl` names the global clocks with a rising edge. -/
def State.rrLoads (s : State) (act : Nat → Nat → Bool) (gl : Nat → Nat → Bool) (cs : List Nat) : Loads :=
  cs.flatMap fun c =>
    let t := cTower c
    let m := cMarsh c
    let tap := fun (v : Bool) =>
      let base := if v then 526 else 516
      let k := s.cfg.swb c (base + 9) 1
      if isTap c && s.cfg.swb c (base + 8) 1 == 1 && act c k && !s.cutOff t m then
        s.rrLoad t m (rrDeep c v) (s.firstLoadOpen c k) (s.val (.deep c v))
      else []
    let lane := fun (o : Option (Nat × Nat)) => match s.cfg.regStation c o with
      | some (d, n) =>
        let g := s.cfg.eclk t m d n
        if gl t g then s.rrLoad t m (rrLane t m d n) (s.firstLoadOpenE t m g) (s.val (.laneAfter t m d n)) else []
      | none => []
    tap false ++ tap true ++ lane (ewStation c) ++ lane (nsStation c)

/-- The receiving edge marshes of tower `t` for direction `d`, when a bridge lands there. -/
def edgeMarshes (t d : Nat) : List Nat :=
  match bridgeFrom d t with
  | none => []
  | some _ => match d with
    | 0 => List.range 32
    | 1 => (List.range 12).map (fun r => 32 * r)
    | 2 => (List.range 32).map (fun c => 352 + c)
    | _ => (List.range 12).map (fun r => 32 * r + 31)
/-- Lanes per marsh of a direction (04 R70). -/
def laneCount (d : Nat) : Nat := if d % 2 = 1 then 32 else 16

/-- Does stage 2 of a crossing load 0: its edge marshes' live contexts differ, one is cut off, or the lane is fenced (04 R73,
R75, R78)? `u`, `w` are the sending tower and marsh. -/
def State.stageZero (s : State) (u w t m d : Nat) : Bool :=
  s.b.liveOf u w != s.b.liveOf t m || s.cutOff u w || s.cutOff t m || s.b.laneFenced t m d

/-- Bridge stages that one wave loads (04 R75, R76, R78). Stage 2 takes stage 1's value or, where the dividers differ, may
keep its own. -/
def State.stageLoads (s : State) (gl : Nat → Nat → Bool) : Loads :=
  towers.flatMap fun t => (List.range 4).flatMap fun d =>
    match bridgeFrom d t with
    | none => []
    | some u => (edgeMarshes t d).flatMap fun m =>
      let w := bridgeMarsh d m
      (List.range (laneCount d)).flatMap fun n =>
        let g1 := s.cfg.eclk u w d n
        let g2 := s.cfg.eclk t m d n
        let one := if gl u g1 then
            s.rrLoad u w (rrStage 1 u w d n) (s.firstLoadOpenE u w g1) (s.val (.laneOut u w d n)) else []
        let two := if gl t g2 then
            if s.stageZero u w t m d then s.rrLoad t m (rrStage 2 t m d n) false (some false)
            else s.rrLoad t m (rrStage 2 t m d n) (s.firstLoadOpenE t m g2 || s.b.gclkDiv u g1 != s.b.gclkDiv t g2)
              (some (s.rrOf u w (rrStage 1 u w d n)))
          else []
        one ++ two

/-- Store the loads of a wave. -/
def State.applyLoads (s : State) (ff rr : Loads) : State :=
  let s := ff.foldl (fun s e =>
    let x := settleBit s.b e.2
    { s with b := x.1, fab := { s.fab with q := SMap.set (fun _ => false) s.fab.q e.1 x.2 } }) s
  rr.foldl (fun s e =>
    let x := settleBit s.b e.2
    { s with b := x.1, fab := { s.fab with rr := SMap.set (fun _ => false) s.fab.rr e.1 x.2 } }) s

/-! ### Asynchronous set and reset, and local-line clocks (03 R43 case 2, R44, R47) -/

/-- The efts whose asynchronous SR acts. -/
def State.asyncSet (s : State) (cs : List Nat) : List (Nat × Nat) :=
  cs.flatMap fun c =>
    if s.b.we (cTower c) (s.liveAt c) && !s.cutOff (cTower c) (cMarsh c) then
      ((List.range 16).filter (fun n =>
        s.cfg.srType c n == 2 && s.srOf c (s.cfg.csOf c n) == some true)).map (fun n => (c, n))
    else []

/-- Bring every flip-flop whose asynchronous SR acts to SR_VAL, until nothing changes: each changes at most once. -/
def State.settleSr (cs : List Nat) : Nat → State → State
  | 0, s => s
  | fuel + 1, s =>
    match (s.asyncSet cs).filter (fun e => s.fab.copy e.1 e.2 (s.copyNo e.1) != s.cfg.bitAt e.1 e.2 47) with
    | [] => s
    | l => State.settleSr cs fuel { s with fab := l.foldl (fun f e =>
        f.setCopy e.1 e.2 (s.copyNo e.1) (s.cfg.bitAt e.1 e.2 47)) s.fab }

/-- The efts whose asynchronous SR has no stated level: a combinational loop drives it. -/
def State.openSr (s : State) (cs : List Nat) : List (Nat × Nat) :=
  cs.flatMap fun c =>
    if s.b.we (cTower c) (s.liveAt c) && !s.cutOff (cTower c) (cMarsh c) then
      ((List.range 16).filter (fun n => s.cfg.srType c n == 2 && (s.srOf c (s.cfg.csOf c n)).isNone)).map (fun n => (c, n))
    else []

/-- A flip-flop whose asynchronous SR has no stated level holds its value or takes SR_VAL: a free value says which. -/
def State.drawSr (s : State) (cs : List Nat) : State :=
  (s.openSr cs).foldl (fun s e =>
    let x := settleBit s.b (if s.fab.copy e.1 e.2 (s.copyNo e.1) = s.cfg.bitAt e.1 e.2 47
      then some (s.cfg.bitAt e.1 e.2 47) else none)
    { s with b := x.1, fab := s.fab.setCopy e.1 e.2 (s.copyNo e.1) x.2 }) s

/-- Note which asynchronous SR act, and which were released (R44). -/
def State.noteSr (s : State) (cs : List Nat) : State :=
  let now := (s.asyncSet cs).foldl (fun (m : SMap Bool) e => SMap.ins m (16 * e.1 + e.2) true) []
  let rel := s.fab.srAct.foldl (fun (m : SMap Bool) e =>
    if SMap.get (fun _ => false) now e.1 then m else SMap.ins m e.1 true) s.fab.srRel
  { s with fab := { s.fab with srAct := now, srRel := rel } }

/-- The level of a control set's clock when a local line is its source (03 R46). -/
def State.llClock (s : State) (c k : Nat) : Option Bool :=
  let g := s.cfg.clkSrc c k
  if 32 ≤ g ∧ g < 62 then s.val (.ll c (g - 32)) else none
/-- The last level of a control set's local-line clock. -/
def Fabric.llWas (f : Fabric) (c k : Nat) : Bool := SMap.get (fun _ => false) f.llPrev (2 * c + k)
/-- Is a control set's clock output held since a swap (03 R48)? -/
def Fabric.held (f : Fabric) (c k : Nat) : Bool := SMap.get (fun _ => false) f.csHold (2 * c + k)

/-- The marks of the control sets in `act` after an active edge: their first load after a swap is past, and so is the window
of an SR released before it (R44). -/
def Fabric.edged (f : Fabric) (x : CfgMem) (act : Nat → Nat → Bool) : Fabric :=
  { f with fresh := SMap.keep (fun i => !act (i / 2) (i % 2)) f.fresh,
           srRel := SMap.keep (fun i => !act (i / 16) (x.csOf (i / 16) (i % 16))) f.srRel }

/-- Bring asynchronous SR to rest and note what acts. -/
def State.restSr (cs : List Nat) (s : State) : State := (State.settleSr cs (16 * cs.length + 1) s).noteSr cs

/-- Waves of local-line clock edges, the control sets whose local line changed level, until none changes. Whether an edge is a
runt pulse's, which loads the new value or not, is a free value (R47); so is what an edge after the release of an asynchronous
SR loads, since the device states no time between them (R44). -/
def State.settleLl (cs : List Nat) : Nat → State → State
  | 0, s => s
  | fuel + 1, s =>
    let moved := (cs.flatMap fun c => [(c, 0), (c, 1)]).filter fun e =>
      match s.llClock e.1 e.2 with
      | some v => v != s.fab.llWas e.1 e.2
      | none => false
    match moved with
    | [] => s
    | l =>
      let act := fun c k => l.contains (c, k) &&
        (if s.cfg.clkInv c k then s.fab.llWas c k && !s.fab.held c k else !s.fab.llWas c k)
      let runt := settleBit s.b none
      let s0 : State := { s with b := runt.1 }
      let s1 := s0.applyLoads (s0.ffLoads act true runt.2 cs) (s0.rrLoads act (fun _ _ => false) cs)
      let f := l.foldl (fun f e =>
        let v := !(f.llWas e.1 e.2)
        { f with llPrev := SMap.set (fun _ => false) f.llPrev (2 * e.1 + e.2) v,
                 csHold := if v then SMap.set (fun _ => false) f.csHold (2 * e.1 + e.2) false else f.csHold })
        (s1.fab.edged s.cfg act)
      State.settleLl cs fuel (State.restSr cs { s1 with fab := f })

/-! ### Pins (25 R505; 05 R111) -/

/-- The output and enable the owner's logic gives pin `j` of bank `k` (25 R505). -/
def State.pinSource (s : State) (k j c5 : Nat) : Option Bool :=
  let c := clutchAt (k / 3) 0 (32 * (4 * (k % 3) + 2) + 4 + c5)
  if s.b.bit (iobPage k) (IOB.PIN_CFG_OSRC.nth j) then s.val (.o c j) else some (s.qOf c j)

/-- Does the owner's logic drive bank `k` now (05 R111, 06 R131)? -/
def State.bankDriven (s : State) (k : Nat) : Bool :=
  let o := s.b.fld (iobPage k) IOB.BANK_OWNER_CTX
  let t := k / 3
  let m := 64 + 128 * (k % 3)
  !s.pins.loading k && s.b.liveOf t m == o && s.b.we t o && !s.cutOff t m

/-- Take over what the logic drives on pin `j` of bank `k`. -/
def State.drivePin (s : State) (k j : Nat) : State :=
  if s.b.pinMode k j = 0 then s
  else
    let o := settleBit s.b (s.pinSource k j 0)
    let e := settleBit o.1 (s.pinSource k j 1)
    let i := 16 * k + j
    let p := s.pins
    { s with b := e.1, pins := { p with
        lastOut := if e.2 then SMap.set (fun _ => false) p.lastOut i o.2 else p.lastOut,
        lastOe := SMap.set (fun _ => false) p.lastOe i e.2,
        driven := SMap.set (fun _ => false) p.driven i (SMap.get (fun _ => false) p.driven i || e.2) } }

/-- Note the level a keeper would hold at pin `j` of bank `k`. -/
def State.notePin (s : State) (k j : Nat) : State :=
  match s.pinLevel k j with
  | some v => { s with pins := { s.pins with level := SMap.set (fun _ => false) s.pins.level (16 * k + j) v } }
  | none => s

/-- Bring every bank's pins up to date. -/
def State.settlePins (s : State) : State :=
  (List.range 12).foldl (fun s k => (List.range 16).foldl (fun s j =>
    (if s.bankDriven k then s.drivePin k j else s).notePin k j) s) s

/-- Let the fabric settle after any change: asynchronous SR, local-line clocks, pins. A chain of local-line clocks is followed
through every flip-flop; a loop that still moves then goes on at the next change. -/
def State.settle (s : State) : State :=
  let cs := s.cfg.clutches
  (State.settleLl cs (64 + 32 * cs.length) (State.restSr cs (s.drawSr cs))).settlePins

/-- The fabric settles after a change outside it; a fabric whose every front plane is zero has nothing to settle. -/
def State.resettle (s : State) : State := if s.cfg.front = [] then s else s.settle

/-! ### A clock edge -/

/-- Bit 32 t + n of an edge operand. -/
def edgeBit (e : BitVec 128) (t n : Nat) : Bool := e.getLsbD (32 * t + n)

/-- Does fabric hop port `i` (64 times the tower plus the port) have an edge of its clock (14 R299)? -/
def State.hopClk (s : State) (gl : Nat → Nat → Bool) (i : Nat) : Bool :=
  let p : Page := .hop (tw (i / 64))
  s.b.bit p ((if i % 2 = 0 then HOP.FHP_CLK_EN0 else HOP.FHP_CLK_EN1).nth (i % 64 / 2)) &&
    gl (i / 64) (s.b.fld p ((if i % 2 = 0 then HOP.FHP_CLK_CLK0 else HOP.FHP_CLK_CLK1).nth (i % 64 / 2)))
/-- Does pond port `i` (twice the package marsh plus the port) have an edge of its clock (14 R300)? -/
def State.pondClk (s : State) (gl : Nat → Nat → Bool) (i : Nat) : Bool :=
  let p : Page := .hop (tw (i / 768))
  s.b.bit p ((if i % 2 = 0 then HOP.PPCLK_EN0 else HOP.PPCLK_EN1).nth (i % 768 / 2)) &&
    gl (i / 768) (s.b.fld p ((if i % 2 = 0 then HOP.PPCLK_CLK0 else HOP.PPCLK_CLK1).nth (i % 768 / 2)))

/-- The port clocks: every port whose clock rose drives its next cycle (14 R298 to R300). -/
def State.portTick (s : State) (gl : Nat → Nat → Bool) : State :=
  let hops := (List.range 256).filter (s.hopClk gl)
  let ponds := ((s.fab.pondOut.map Prod.fst) ++ (s.fab.pondNow.map Prod.fst)).filter (s.pondClk gl)
  { s with
    hop := hops.foldl (fun h i =>
      let x := s.portDrive i
      { h with ports := SMap.set (fun _ => []) h.ports i x.2, shown := SMap.set (fun _ => (0, 0)) h.shown i x.1 }) s.hop,
    fab := ponds.foldl (fun f i =>
      let l := SMap.get (fun _ => []) s.fab.pondOut i
      { f with pondOut := SMap.set (fun _ => []) f.pondOut i (l.drop 1), pondNow := SMap.set (fun _ => 0) f.pondNow i (l.headD 0) }) s.fab }

/-- Every (tower, global clock). -/
def allClocks : List (Nat × Nat) := towers.flatMap fun t => (List.range 32).map fun n => (t, n)

/-- After the loads of an edge: gates, freshness and clock levels (20 R408; 03 R48; 05 R87). `act` names the control sets with
an active edge, `gl` the global clocks with a rising edge that reaches the fabric. -/
def State.edgeNote (s : State) (rise fall : BitVec 128) (cs : List Nat) (act gl : Nat → Nat → Bool) : State :=
  let clk := allClocks.foldl (fun k e =>
    let i := 32 * e.1 + e.2
    let k := if edgeBit fall e.1 e.2 then { k with high := SMap.set (fun _ => false) k.high i false } else k
    if edgeBit rise e.1 e.2 then
      { (k.edge s.b e.1 e.2) with high := SMap.set (fun _ => false) k.high i (gl e.1 e.2) } else k) s.clk
  let risen := towers.map fun t => BitVec.ofNat 32 ((List.range 32).foldl (fun a g => if gl t g then nset a g else a) 0)
  let freshE := SMap.mapKV (fun _ => 0) (fun i v => v &&& ~~~ (risen.getD (i / 384) 0)) s.fab.freshE
  let hold := cs.foldl (fun m c => [0, 1].foldl (fun m k =>
    let g := s.cfg.clkSrc c k
    if g < 32 ∧ gl (cTower c) g then SMap.set (fun _ => false) m (2 * c + k) false else m) m) s.fab.csHold
  { s with clk := clk, fab := { (s.fab.edged s.cfg act) with freshE := freshE, csHold := hold } }

/-- The edges of one moment reach the fabric: `rise` and `fall` name the global clocks by 32 t + n (20 R408). -/
def State.clockEdge (s : State) (rise fall : BitVec 128) (recov : Bool) : State :=
  let cs := s.cfg.clutches
  let gl := fun t n => edgeBit rise t n && edgePasses s.b s.clk t n
  let fl := fun t n => edgeBit fall t n && SMap.get (fun _ => false) s.clk.high (32 * t + n)
  let act := fun c k =>
    let g := s.cfg.clkSrc c k
    decide (g < 32) && (if s.cfg.clkInv c k then fl (cTower c) g && !s.fab.held c k else gl (cTower c) g)
  let s1 := s.applyLoads (s.ffLoads act recov false cs) (s.rrLoads act gl cs ++ s.stageLoads gl)
  ((s1.edgeNote rise fall cs act gl).portTick gl).settle

/-- FABRIC_CLOCK_EDGE (03 R43, 04 R72): the global clocks of `rise` and `fall` (bit 32 t + n) have an edge at one
moment. No edge comes while the root-derived clocks are gated (20 R418). -/
def execFabricClockEdge (rise fall : BitVec 128) (recov : Bool) (s : State) : Host.Outcome State Fault Refusal :=
  if s.b.gated then .next s else .next (s.settle.clockEdge rise fall recov)

/-- PIN_INPUT_CHANGE (25 R505): the level driven from outside on pin `j` of bank `k`; none when nothing drives it. -/
def execPinInputChange (k : Fin 12) (j : Fin 16) (v : Option Bool) (s : State) : Host.Outcome State Fault Refusal :=
  .next { s with pins := { s.pins with ext := SMap.set (fun _ => none) s.pins.ext (16 * k + j) v } }.settle

/-! ### Initial values and write enables (03 R49; 05 R89; 06 R130 to R133) -/

/-- The INIT bits of context `c` in a marsh: a frame of quarter `q` (03 R52, R54). -/
def State.initFrame (s : State) (t m c q : Nat) : BitVec 4096 :=
  let f := 112 * q + 48
  if s.b.liveOf t m = c then s.cfg.frontFrame t m f
  else match frameDecode (s.b.bchT t) (s.cfg.frame (frameAddr t m c f)) with
    | some o => BitVec.ofNat 4096 o.pay
    | none => (s.cfg.frame (frameAddr t m c f)).pay

/-- The flip-flops of a frame whose bit is 1: clutch and eft. -/
def frameEfts (t m q : Nat) (d : BitVec 4096) : List (Nat × Nat) :=
  ((List.range 4096).filter d.getLsbD).map fun j =>
    (clutchAt t (32 * (m % 32) + j / 16 % 32) (32 * (m / 32) + 8 * q + j / 512), j % 16)

/-- The marshes and quarters whose INIT frame of context `c` may hold a 1. -/
def State.initKeys (s : State) (t c : Nat) : List (Nat × Nat) :=
  ((s.cfg.store.filter (fun e => faTower e.1 == t && faCtx e.1 == c && faFrame e.1 % 112 == 48)).map
      (fun e => (faMarsh e.1, faFrame e.1 / 112))) ++
  ((s.cfg.front.filter (fun e => e.1 / 512 / 384 == t && e.1 % 512 % 112 == 48)).map
      (fun e => (e.1 / 512 % 384, e.1 % 512 / 112)))

/-- The efts of tower `t` whose INIT in context `c` is 1. -/
def State.initEfts (s : State) (t c : Nat) : List (Nat × Nat) :=
  (s.initKeys t c).flatMap fun e => frameEfts t e.1 e.2 (s.initFrame t e.1 c e.2)

/-- Load Qc with c's INIT in every eft of tower `t`, and 0 into c's routing register copies (05 R89, 04 R72). -/
def State.loadInit (s : State) (t c : Nat) : State :=
  let q := SMap.keep (fun k => !(k % 9 == c && cTower (k / 9 / 16) == t)) s.fab.q
  let q := (s.initEfts t c).foldl (fun q e => SMap.ins q ((e.1 * 16 + e.2) * 9 + c) true) q
  let rr := SMap.keep (fun k => !(k % 8 == c &&
    (let r := k / 8
     if r / 0x1000000 = 1 then cTower (r % 0x1000000 / 2) == t else r % 0x1000000 / 32 / 4 / 384 == t))) s.fab.rr
  { s with fab := { s.fab with q := q, rr := rr } }

/-- Load QS with the live context's INIT in every SHARED clutch of the marshes of `ms` whose live context is `c`
(05 R89). -/
def State.loadShared (s : State) (t c : Nat) (ms : Nat → Bool) : State :=
  let here := fun x => cTower x == t && s.liveAt x == c && ms (cMarsh x) && !s.cfg.banked x
  let q := SMap.keep (fun k => !(k % 9 == 8 && here (k / 9 / 16))) s.fab.q
  let q := ((s.initEfts t c).filter (fun e => here e.1)).foldl (fun q e => SMap.ins q ((e.1 * 16 + e.2) * 9 + 8) true) q
  { s with fab := { s.fab with q := q } }

/-- A bank leaves its load state. -/
def Pins.free (p : Pins) (k : Nat) : Pins :=
  { p with bankLoad := SMap.set (fun _ => true) p.bankLoad k false, bankRel := SMap.set (fun _ => false) p.bankRel k false,
           bankLag := SMap.set (fun _ => false) p.bankLag k false }
/-- A bank takes its load state. -/
def Pins.load (p : Pins) (k : Nat) : Pins :=
  { p with bankLoad := SMap.set (fun _ => true) p.bankLoad k true, bankRel := SMap.set (fun _ => false) p.bankRel k false,
           bankLag := SMap.set (fun _ => false) p.bankLag k false }

/-- Is bank `k`'s owner live where the bank attaches (05 R111)? -/
def State.ownerLive (s : State) (k : Nat) : Bool :=
  s.b.fld (iobPage k) IOB.BANK_OWNER_CTX == s.b.liveOf (k / 3) (64 + 128 * (k % 3))

/-- The write enable of bank `k`'s owner rises: where the owner is live the bank leaves its load state, at once or when IO_LAG has
passed (`lag`); else when the owner first becomes live (06 R132, R133). -/
def State.releaseBank (lag : Bool) (s : State) (k : Nat) : State :=
  { s with pins := if s.ownerLive k then
                     (if lag then { s.pins with bankLag := SMap.set (fun _ => false) s.pins.bankLag k true } else s.pins.free k)
                   else { s.pins with bankRel := SMap.set (fun _ => false) s.pins.bankRel k true } }

/-- The banks of tower `t` owned by context `c`. -/
def Base.banksOf (b : Base) (t c : Nat) : List Nat :=
  [3 * t, 3 * t + 1, 3 * t + 2].filter (fun k => b.fld (iobPage k) IOB.BANK_OWNER_CTX == c)

/-- Context `c`'s write enable falls in tower `t` (06 R130). -/
def State.weFall (s : State) (t c : Nat) : State :=
  { s with b := s.b.setFld (.cfg (tw t)) CFG.WE_CTX (nclr (s.b.fld (.cfg (tw t)) CFG.WE_CTX) c),
           pins := (s.b.banksOf t c).foldl Pins.load s.pins }

/-- Context `c`'s write enable rises in tower `t` (06 R132). -/
def State.weRise (s : State) (t c : Nat) : State :=
  if s.b.we t c then s
  else
    let s := (s.loadInit t c).loadShared t c (fun _ => true)
    let s := { s with b := s.b.setFld (.cfg (tw t)) CFG.WE_CTX (nset (s.b.fld (.cfg (tw t)) CFG.WE_CTX) c) }
    (s.b.banksOf t c).foldl (State.releaseBank (s.b.fld (.cfg (tw t)) CFG.START_IO_LAG != 0)) s

/-- The contexts of a mask. -/
def maskCtxs (m : Nat) : List Nat := (List.range 8).filter (nbit m)

/-- The write enables of a mask fall in every tower. -/
def State.weFallAll (s : State) (m : Nat) : State :=
  towers.foldl (fun s t => (maskCtxs m).foldl (fun s c => s.weFall t c) s) s

/-- Is a release of context `c` ignored: under commit or quarantined in any tower, or held by a CONTEXT reset or an
FLR (06 R132)? -/
def Base.releaseBarred (b : Base) (c : Nat) : Bool :=
  towers.any (fun t => nbit (b.fld (.chm (tw t)) CHM.BUSY_COMMITTING) c || nbit (b.fld (.chm (tw t)) CHM.BUSY_QUAR) c) ||
    b.ctxResets c

/-- A start-up release of the contexts of a mask, in the whole package (06 R132). -/
def State.release (s : State) (m : Nat) : State :=
  ((maskCtxs m).filter (fun c => !s.b.releaseBarred c)).foldl (fun s c => towers.foldl (fun s t => s.weRise t c) s) s

/-- BANK_RELEASE (06 R132): IO_LAG switch-clock cycles after the rise of `c`'s write enable in tower `t`. -/
def execBankRelease (t : Tower) (c : Ctx) (s : State) : Host.Outcome State Fault Refusal :=
  if s.b.we t c then
    .next ((s.b.banksOf t c).foldl (fun (s : State) k =>
      if SMap.get (fun _ => false) s.pins.bankLag k = true then { s with pins := s.pins.free k } else s) s).settle
  else .next s

/-! ### A swap seen from the fabric (03 R48; 04 R66; 05 R84, R89) -/

/-- Every tap of the front planes of tower `t` that is in DRIVE, in the marshes of `ms`. -/
def CfgMem.drivers (x : CfgMem) (t : Nat) (ms : Nat → Bool) (cs : List Nat) : List (Nat × Bool) :=
  cs.flatMap fun c =>
    if cTower c == t && ms (cMarsh c) && isTap c then [false, true].filterMap (fun v => if x.drives c v then some (c, v) else none)
    else []

/-- The keepers take the value of every driven line of tower `t`; `s` still has the old front planes. -/
def State.keepLines (s : State) (t : Nat) (ms : Nat → Bool) (cs : List Nat) : State :=
  (s.cfg.drivers t ms cs).foldl (fun s e =>
    let x := settleBit s.b (s.val (.deep e.1 e.2))
    { s with b := x.1, fab := (s.segment (lineOf e.1 e.2) e.1).foldl (fun f c =>
        { f with keep := SMap.set (fun _ => false) f.keep (tapKey c e.2) x.2 }) s.fab }) s

/-- The keepers of segments that reach a marsh of `ms` and have no tap in DRIVE in the new front planes are 0 (04 R66). -/
def State.clearKeepers (s : State) (t : Nat) (ms : Nat → Bool) : State :=
  { s with fab := { s.fab with keep := SMap.keep (fun k =>
      let seg := s.segment (lineOf (k / 2) (k % 2 == 1)) (k / 2)
      !(cTower (k / 2) == t && seg.any fun c => ms (cMarsh c)) || seg.any fun c => s.cfg.drives c (k % 2 == 1)) s.fab.keep } }

/-- The control sets of the marshes of `ms` whose clock output is held: their source, its inversion, or what drives their local
line changed (03 R48). `s` has the new front planes, `old` is the state before. A set whose local line is rebuilt starts from
its new level, so that the exchange is no edge. -/
def State.holdClocks (s old : State) (t : Nat) (ms : Nat → Bool) (cs : List Nat) : State :=
  { s with fab := cs.foldl (fun f c =>
      if cTower c == t && ms (cMarsh c) then
        [0, 1].foldl (fun f k =>
          if s.sameClock old c k then f
          else { f with csHold := SMap.set (fun _ => false) f.csHold (2 * c + k) true,
                        llPrev := match s.llClock c k with
                          | some v => SMap.set (fun _ => false) f.llPrev (2 * c + k) v
                          | none => f.llPrev }) f
      else f) s.fab }

/-- After a swap no control set and no global clock of the marshes of `ms` has had an edge (05 R87). -/
def State.markFresh (s : State) (t : Nat) (ms : List Nat) (cs : List Nat) : State :=
  { s with fab := { s.fab with
      fresh := cs.foldl (fun f c => if cTower c == t && ms.contains (cMarsh c)
        then SMap.set (fun _ => false) (SMap.set (fun _ => false) f (2 * c) true) (2 * c + 1) true else f) s.fab.fresh,
      freshE := ms.foldl (fun f m => SMap.set (fun _ => 0) f (t * 384 + m) (BitVec.allOnes 32)) s.fab.freshE } }

/-- What the fabric does at a swap edge: QS of a SHARED clutch held at INIT keeps it, the keepers take their lines. -/
def State.beforeSwap (s : State) (t : Nat) (ms : Nat → Bool) : State :=
  ((List.range 8).foldl (fun s c => if s.b.we t c then s else s.loadShared t c ms) s).keepLines t ms s.cfg.clutches

/-- What it does right after the exchange; `old` is the state before it. -/
def State.afterExchange (s old : State) (t : Nat) (ms : Nat → Bool) : State :=
  (s.clearKeepers t ms).holdClocks old t ms s.cfg.clutches

end Sys2Proof.Machine
end

