-- ==== Sys2Proof/Machine/Chameleon.lean ====
section
/-! DEFINITION. The chameleon: staging, swaps, modes, the slot walk, EVENT requests, gangs, freeze and exclusion
(05 R82 to R101, R112 to R119). -/
namespace Sys2Proof.Machine

/-- A chameleon at reset. -/
def Cham.init : Cham := ⟨none, none, none, [], false, none, false, false, false, none, false⟩
/-- The chameleon of tower `t`. -/
def State.ch (s : State) (t : Nat) : Cham := SMap.get (fun _ => Cham.init) s.cham t
/-- Change the chameleon of tower `t`. -/
def State.setCh (s : State) (t : Nat) (f : Cham → Cham) : State :=
  { s with cham := SMap.upd (fun _ => Cham.init) s.cham t f }
/-- The CHM page of tower `t`. -/
def chmPage (t : Nat) : Page := .chm (tw t)
/-- A field of tower `t`'s CHM page. -/
def State.cm (s : State) (t : Nat) (f : Fld) : Nat := s.b.fld (chmPage t) f
/-- Set a field of tower `t`'s CHM page. -/
def State.setCm (s : State) (t : Nat) (f : Fld) (v : Nat) : State := { s with b := s.b.setFld (chmPage t) f v }
/-- An event of tower `t`'s CHM page. -/
def State.chmEvent (s : State) (t i : Nat) : State := { s with b := s.b.event (chmPage t) i }

/-! ### Gangs (05 R101) -/

/-- Does tower `t` follow tower 0? -/
def State.follows (s : State) (t : Nat) : Bool := t != 0 && s.cm t CHM.CTRL_FOLLOW == 1
/-- The tower whose chameleon decides for tower `t`. -/
def State.leader (s : State) (t : Nat) : Nat := if s.follows t then 0 else t
/-- The towers that tower `l` decides for. -/
def State.gang (s : State) (l : Nat) : List Nat := l :: (if l = 0 then [1, 2, 3].filter s.follows else [])
/-- MODE of tower `t`: 0 STATIC, 1 SLOT, 2 EVENT. -/
def State.mode (s : State) (t : Nat) : Nat := s.cm t CHM.CTRL_MODE
/-- Does tower `t`'s own chameleon decide, in mode `m`? A follower ignores its MODE (05 R101). -/
def State.inMode (s : State) (t m : Nat) : Bool := s.mode t == m && !s.follows t

/-- Is context `c` under commit in some member of `l`'s gang (05 R97, R101)? -/
def State.gangCommitting (s : State) (l c : Nat) : Bool := (s.gang l).any (fun t => nbit (s.cm t CHM.BUSY_COMMITTING) c)
/-- Is context `c` quarantined in some member (05 R98, R101)? -/
def State.gangQuar (s : State) (l c : Nat) : Bool := (s.gang l).any (fun t => nbit (s.cm t CHM.BUSY_QUAR) c)
/-- Is context `c` under commit or quarantined in some member? -/
def State.gangBusy (s : State) (l c : Nat) : Bool := s.gangCommitting l c || s.gangQuar l c
/-- Is tower `t` itself in SWITCH_FREEZE? -/
def State.frozenOne (s : State) (t : Nat) : Bool := s.cm t CHM.STAT_PHASE == 3
/-- Is tower `t` or a member of its gang in SWITCH_FREEZE (05 R101, R112)? -/
def State.frozen (s : State) (t : Nat) : Bool := (s.gang (s.leader t)).any s.frozenOne
/-- Does a re-encode run in tower `t` (06 R125)? -/
def State.reencoding (s : State) (t : Nat) : Bool := s.b.bit (.cfg (tw t)) CFG.STAT_REENC
/-- Does a commit refresh hold back planes of the tenant area of tower `t` (06 R129)? -/
def State.refreshing (s : State) (t : Nat) : Bool :=
  (SMap.get (fun _ => []) s.cfg.refresh t).any (fun m => !s.b.isShell t m)

/-! ### Staging (05 R83, R97, R98, R113) -/

/-- Show the phase and target of the staging. -/
def State.showPhase (s : State) (t ph c : Nat) : State :=
  if s.frozenOne t then s else (s.setCm t CHM.STAT_PHASE ph).setCm t CHM.STAT_TARGET c

/-- Discard the staging in progress or complete; its target stays for a restart. -/
def State.dropStage (s : State) (t : Nat) : State :=
  (if s.frozenOne t then s else s.setCm t CHM.STAT_PHASE 0).setCh t (fun x => { x with staged := [] })

/-- Discard the staging and its target. -/
def State.abandonStage (s : State) (t : Nat) : State := (s.dropStage t).setCh t (fun x => { x with tgt := none })

/-- The marshes a staging that begins now copies: the tenant area, and those waiting to rejoin (05 R83, R113). -/
def State.stageMarshes (s : State) (t : Nat) : List Nat :=
  (List.range 384).filter (fun m => !s.b.isShell t m && !s.b.excludeBit t m)

/-- Does the swap wanted come from a shell commit? -/
def wantsShell (o : Option (Nat × SwapWhy)) : Bool := match o with | some (_, .shell) => true | _ => false

/-- Begin the staging of the target when nothing holds it (05 R83, R97, R98, R104; 06 R125, R129). -/
def State.startStage (s : State) (t : Nat) : State :=
  let x := s.ch t
  match x.tgt with
  | none => s
  | some c =>
    if s.cm t CHM.STAT_PHASE ≠ 0 ∨ s.frozen t ∨ s.refreshing t ∨ (c = 0 ∧ s.b.shellDecl) ∨
        ((s.gangBusy (s.leader t) c) ∧ ¬ wantsShell x.want ∧ ¬ wantsShell (s.ch (s.leader t)).want) then s
    else (s.showPhase t 1 c).setCh t (fun x => { x with staged := s.stageMarshes t })

/-- Stage context `c` in one tower: a staging of another context is abandoned (05 R91). -/
def State.stageOne (s : State) (t c : Nat) : State :=
  if (s.ch t).tgt = some c then s.startStage t
  else ((s.abandonStage t).setCh t (fun x => { x with tgt := some c })).startStage t

/-- Stage context `c` in every member of the gang of `l` (05 R101). -/
def State.stage (s : State) (l c : Nat) : State := (s.gang l).foldl (fun s t => s.stageOne t c) s

/-- Discard the stagings of a gang. -/
def State.abandonGang (s : State) (l : Nat) : State := (s.gang l).foldl State.abandonStage s

/-! ### EVENT status words (05 R96) -/

/-- The status word of a request. -/
def evWord (t new prev result count : Nat) : BitVec 64 :=
  BitVec.ofNat 64 (new % 8 + (prev % 8) <<< 4 + result <<< 8 + t <<< 10 + (count % 2 ^ 32) <<< 16)

/-- Push a status word, and the request is answered; EV_LOST where QEN = 0 or the queue refuses the push, which it may do only
when the push's turn comes (05 R96, 10 R208). -/
def State.evStatus (s : State) (t new prev result : Nat) : State :=
  let s := (s.setCm t CHM.STAT_EV_PEND 0).setCh t (fun x => { x with evCtx := none })
  let q := s.cm t CHM.EVQ_QUEUE
  if s.cm t CHM.EVQ_QEN = 0 ∨ ¬ s.b.enabled (quePage q) then s.chmEvent t 13
  else
    let y := qArrive s.b s.que q none (.evPush t (evWord t new prev result (s.cm t CHM.SWCOUNT)))
    { s with b := y.1, que := y.2 }

/-- Refuse the outstanding request of a tower (05 R90, R96). -/
def State.evRefuse (s : State) (t : Nat) : State :=
  if (s.ch t).evCtx.isSome then
    (s.chmEvent t 12).evStatus t (s.cm t CHM.STAT_LIVE) (s.cm t CHM.STAT_LIVE) 2
  else s

/-! ### The slot walk (05 R92 to R94, R97, R99, R104) -/

/-- MA address of entry `e` of half `h` of tower `t`. -/
def slotAddr (t h e : Nat) : Nat := pbase (.slt (tw t)) + 0x800 + 0x400 * h + 4 * e
/-- LEN of half `h` of tower `t`. -/
def State.slotLen (s : State) (t h : Nat) : Nat := s.b.fld (.slt (tw t)) (if h = 0 then SLT.LEN_A_LEN else SLT.LEN_B_LEN)
/-- Context of an entry. -/
def entCtx (w : Word) : Nat := wget w 26 24
/-- Duration of an entry. -/
def entDur (w : Word) : Nat := wget w 23 0
/-- Entry `e` of half `h`. -/
def State.slotEnt (s : State) (t h e : Nat) : Word := s.b.word (slotAddr t h e)

/-- Is an entry skipped (05 R92, R99, R104)? -/
def State.skipped (s : State) (t : Nat) (w : Word) : Bool :=
  entDur w == 0 || s.gangBusy t (entCtx w) || (entCtx w == 0 && s.b.shellDecl)

/-- The first entry at or after `i` of half `h` that is not skipped. -/
def State.nextEntry (s : State) (t h i : Nat) : Option Nat :=
  ((List.range (s.slotLen t h)).filter (fun e => decide (i ≤ e))).find? (fun e => !s.skipped t (s.slotEnt t h e))

/-- Does the walk from entry `i` pass over an entry because its context is busy (05 R97)? -/
def State.skipsBusy (s : State) (t h i : Nat) : Bool :=
  let stop := (s.nextEntry t h i).getD (s.slotLen t h)
  ((List.range (s.slotLen t h)).filter (fun e => decide (i ≤ e) && decide (e < stop))).any (fun e =>
    entDur (s.slotEnt t h e) != 0 && s.gangBusy t (entCtx (s.slotEnt t h e)))

/-- The half the walk is in. -/
def State.walkHalf (s : State) (t : Nat) : Nat := s.cm t CHM.STAT_SLOT_HALF
/-- The entry the walk is at. -/
def State.walkIdx (s : State) (t : Nat) : Nat := s.cm t CHM.STAT_SLOT_IDX
/-- Is a GO of SLT pending? -/
def State.sltPend (s : State) (t : Nat) : Bool := s.b.commitPend (.slt (tw t))

/-- The context of the entry after the running one (05 R93): in this pass, else from entry 0 of the half that the next
pass will walk. -/
def State.peekCtx (s : State) (t : Nat) : Option Nat :=
  let h := s.walkHalf t
  match s.nextEntry t h (s.walkIdx t + 1) with
  | some e => some (entCtx (s.slotEnt t h e))
  | none =>
    let h' := if s.sltPend t then 1 - h else h
    (s.nextEntry t h' 0).map (fun e => entCtx (s.slotEnt t h' e))

/-- Stage the next entry's context unless it is live (05 R93). -/
def State.stageNext (s : State) (t : Nat) : State :=
  match s.peekCtx t with
  | some c => if c = s.cm t CHM.STAT_LIVE then s else s.stage t c
  | none => s

/-- The entry the walk is at begins: it runs, and the next is staged (05 R93). -/
def State.beginEntry (s : State) (t : Nat) : State :=
  (s.setCh t (fun x => { x with running := true, ran := true })).stageNext t

/-- Reach entry `e` of half `h` (05 R92, R93): it begins at once when its context is live, else its swap is wanted. -/
def State.reachEntry (s : State) (t h e : Nat) : State :=
  let w := s.slotEnt t h e
  let s := { s with b := s.b.decUse (.slt (tw t)) (slotAddr t h e) }
  let s := (s.setCm t CHM.STAT_SLOT_HALF h).setCm t CHM.STAT_SLOT_IDX e
  let s := if entDur w < 256 then s.chmEvent t 9 else s
  if entCtx w = s.cm t CHM.STAT_LIVE then s.beginEntry t
  else (s.setCh t (fun x => { x with want := some (entCtx w, .slot) })).stage t (entCtx w)

/-- Move the halves of SLT: the inactive one becomes active, and the commit ends (05 R94). -/
def State.swapHalves (s : State) (t : Nat) : State :=
  let pg : Page := .slt (tw t)
  { s with b := (s.b.setFld pg SLT.STAT_ACTIVE (1 - s.b.fld pg SLT.STAT_ACTIVE)).commitDone pg }

/-- Walk from entry `i`: reach the next entry that is not skipped, or stay at the end of the pass. The result says
whether an entry was reached. -/
def State.walkFrom (s : State) (t h i : Nat) : State × Bool :=
  let s := if s.skipsBusy t h i then s.chmEvent t 17 else s
  match s.nextEntry t h i with
  | some e => (s.reachEntry t h e, true)
  | none => (s, false)

/-- The state after a walk from entry `i`. -/
def State.walkTo (s : State) (t h i : Nat) : State := (s.walkFrom t h i).1

/-- A pass begins at entry 0 of the active half (05 R93). -/
def State.passBegin (s : State) (t : Nat) : State :=
  let h := s.b.fld (.slt (tw t)) SLT.STAT_ACTIVE
  let s := s.setCh t (fun x => { x with running := false, ran := false, want := none })
  ((s.setCm t CHM.STAT_SLOT_HALF h).setCm t CHM.STAT_SLOT_IDX 0).walkTo t h 0

/-- A pass ends: PASS counts, a pending GO swaps the halves, the next pass begins (05 R93, R94). -/
def State.passEnd (s : State) (t : Nat) : State :=
  let pg : Page := .slt (tw t)
  let s := { s with b := s.b.setFld pg SLT.STAT_PASS (s.b.fld pg SLT.STAT_PASS + 1) }
  (if s.sltPend t then s.swapHalves t else s).passBegin t

/-- The walk goes on after the entry it is at (05 R93). -/
def State.walkOn (s : State) (t : Nat) : State :=
  let x := (s.setCh t (fun x => { x with running := false })).walkFrom t (s.walkHalf t) (s.walkIdx t + 1)
  if x.2 then x.1 else if (x.1.ch t).ran then x.1.passEnd t else x.1

/-! ### Commits and quarantine (05 R97 to R100) -/

/-- A swap wanted into a context that has become quarantined is refused, or its entry skipped (05 R98 to R100). -/
def State.refuseWant (s : State) (t : Nat) : State :=
  match (s.ch t).want with
  | some (_, .static) => ((s.setCh t (fun x => { x with want := none })).setCm t CHM.STAT_CMD_PEND 0).chmEvent t 11
  | some (_, .event) => (s.setCh t (fun x => { x with want := none })).evRefuse t
  | some (_, .slot) => (((s.setCh t (fun x => { x with want := none })).abandonGang t).chmEvent t 17).walkOn t
  | _ => s

/-- What a swap put aside by a shell commit becomes when its context is refused: a command or request is refused, a slot entry
is to be passed over (05 R99, R100, R104). -/
def State.refuseSaved (s : State) (t : Nat) : State :=
  match (s.ch t).saved with
  | some (_, .static) => ((s.setCh t (fun x => { x with saved := none })).setCm t CHM.STAT_CMD_PEND 0).chmEvent t 11
  | some (_, .event) => (s.setCh t (fun x => { x with saved := none })).evRefuse t
  | some (c, .slot) => (s.setCh t (fun x => { x with saved := some (c, .skip) })).chmEvent t 17
  | _ => s

/-- The context a tower wants to swap into. -/
def State.wantCtx (s : State) (t : Nat) : Option Nat := (s.ch t).want.map Prod.fst

/-- Refuse what tower `t` wants, or had put aside, into context `c`. -/
def State.refuseCtx (s : State) (t c : Nat) : State :=
  let s := if s.wantCtx t = some c then s.refuseWant t else s
  if (s.ch t).saved.map Prod.fst = some c then s.refuseSaved t else s

/-- Discard the stagings of context `c` in a gang, but for a shell commit's. -/
def State.dropCtx (s : State) (l c : Nat) : State :=
  (s.gang l).foldl (fun s u =>
    if (s.ch u).tgt = some c ∧ ¬ wantsShell (s.ch u).want ∧ ¬ wantsShell (s.ch l).want then s.dropStage u else s) s

/-- Quarantine context `c` in tower `t` (05 R98): QUAR, stagings of it discarded, operations naming it refused. -/
def State.quarantine (s : State) (t c : Nat) : State :=
  let q := s.cm t CHM.BUSY_QUAR
  if nbit q c then s
  else
    let l := s.leader t
    ((((s.setCm t CHM.BUSY_QUAR (nset q c)).chmEvent t 18).dropCtx l c)).refuseCtx l c

/-- A commit into context `c` begins in tower `t` (05 R97, R99): it wakes a sleeping chameleon (R119), stagings of `c` are
discarded, a slot entry naming `c` is skipped, a STATIC swap or EVENT request waits. -/
def State.commitBegin (s : State) (t c : Nat) : State :=
  let l := s.leader t
  let s : State := { s with b := s.b.chmWake t }
  let s := (s.setCm t CHM.BUSY_COMMITTING (nset (s.cm t CHM.BUSY_COMMITTING) c)).dropCtx l c
  match (s.ch l).want, (s.ch l).saved with
  | some (d, .slot), _ => if d = c then s.refuseWant l else s
  | _, some (d, .slot) => if d = c then s.refuseSaved l else s
  | _, _ => s

/-- A late entry ends with the commit that held it (05 R97). -/
def State.endLate (s : State) (l : Nat) : State :=
  if (s.ch l).late ∧ ¬ s.gangCommitting l (s.cm l CHM.STAT_LIVE) then
    (s.setCh l (fun x => { x with late := false })).walkOn l
  else s

/-- A commit into context `c` ends in tower `t`: the hold on it ends, and waiting stagings begin (05 R97). -/
def State.commitEnd (s : State) (t c : Nat) : State :=
  let l := s.leader t
  let s := s.setCm t CHM.BUSY_COMMITTING (nclr (s.cm t CHM.BUSY_COMMITTING) c)
  let s := s.endLate l
  (s.gang l).foldl State.startStage s

/-- The quarantine of context `c` in tower `t` ends (05 R98). -/
def State.unquarantine (s : State) (t c : Nat) : State := s.setCm t CHM.BUSY_QUAR (nclr (s.cm t CHM.BUSY_QUAR) c)

/-! ### Commands (05 R91, R100, R114, R119) -/

/-- Is a CHM.CMD write with STAGE or SWAP refused (05 R91, R100, R101; 06 R125)? `c` is the context it names. -/
def State.cmdRefused (s : State) (t : Nat) (stage swap : Bool) (c : Option Nat) : Bool :=
  s.follows t || s.mode t != 0 || s.frozen t || (s.gang t).any s.reencoding ||
  (match c with | some c => s.gangQuar t c | none => false) ||
  (stage && c == some 0 && s.b.shellDecl) ||
  (swap && !stage && s.b.shellDecl && (s.ch t).named == some 0)

/-- An accepted SWAP: wait for the swap into the context named, or complete at once (05 R91). -/
def State.doSwapCmd (s : State) (t : Nat) : State :=
  match (s.ch t).named with
  | none => s
  | some c =>
    if c = s.cm t CHM.STAT_LIVE then s
    else ((s.setCh t (fun x => { x with want := some (c, .static) })).setCm t CHM.STAT_CMD_PEND 1).stage t c

/-- An accepted STAGE (05 R91). A SWAP that waits follows the context named last. -/
def State.doStageCmd (s : State) (t c : Nat) : State :=
  let s := s.setCh t (fun x => { x with named := some c })
  if c = s.cm t CHM.STAT_LIVE then s
  else
    let s := match (s.ch t).want with
      | some (_, .static) => s.setCh t (fun x => { x with want := some (c, .static) })
      | _ => s
    s.stage t c

/-- A write of CHM.CMD with STAGE or SWAP (05 R91). -/
def State.chmCmd (s : State) (t : Nat) (stage swap : Bool) (c : Nat) : State :=
  let n := if stage then some c else (s.ch t).named
  if !stage && !swap then s
  else if s.cmdRefused t stage swap n then s.chmEvent t 11
  else
    let s := if stage then s.doStageCmd t c else s
    if swap then s.doSwapCmd t else s

/-- Is every LAME marsh of tower `t` excluded (05 R114)? -/
def State.lameExcluded (s : State) (t : Nat) : Bool :=
  (List.range 384).all (fun m => !s.b.lameCb t m || s.b.excludeBit t m)

/-- A write of CHM.CMD.THAW (05 R114): refused in a follower (R101), during a re-encode (06 R125), and while a LAME marsh is not
excluded; outside SWITCH_FREEZE it has nothing to end. -/
def State.thaw (s : State) (t : Nat) : State :=
  if s.follows t ∨ (s.gang t).any s.reencoding ∨ ¬ s.lameExcluded t then s.chmEvent t 11
  else if s.frozenOne t then (s.gang t).foldl State.startStage (s.setCm t CHM.STAT_PHASE 0)
  else s

/-- SWITCH_FREEZE (05 R112, R119): the chameleon wakes, stagings abandoned, an outstanding request answered FROZEN, FREEZE, NME cause 4. -/
def State.freeze (s : State) (t : Nat) : State :=
  if s.frozenOne t then s
  else
    let l := s.leader t
    let s := (s.gang l).foldl State.dropStage { s with b := s.b.chmWake t }
    let s := (s.setCm t CHM.STAT_PHASE 3).chmEvent t 14
    let s := { s with b := s.b.raiseNme 4 (psrc (chmPage t)) false 0 }
    if (s.ch l).evCtx.isSome then
      (s.setCh l (fun x => { x with want := none })).evStatus l (s.cm l CHM.STAT_LIVE) (s.cm l CHM.STAT_LIVE) 3
    else s

/-! ### Staging completes (05 R83, R98) -/

/-- Log and count the corrected frames of a copy (05 R83, R116). -/
def logStaged (b : Base) (t c : Nat) (l : List (Nat × Nat)) : Base :=
  l.foldl (fun b e => b.corrErr (chmPage t) { kind := 2, addr := e.1, ctx := some c, syn := e.2 }) b

/-- The copy of tower `t`'s staging ends: the back planes hold the context, or an uncorrectable frame ends it. -/
def State.stageDone (s : State) (t : Nat) : State :=
  let c := s.cm t CHM.STAT_TARGET
  let ms := fun m => (s.ch t).staged.contains m && !s.b.excludeBit t m
  let l := copyList s.cfg t c ms
  let r := copyScan (s.b.bchT t) l
  let s := { s with b := logStaged s.b t c r.1 }
  match r.2 with
  | some fa =>
    let s := { s with b := s.b.logErr (chmPage t) { kind := 1, uc := true, addr := fa, ctx := some c } }
    (s.abandonStage t).quarantine t c
  | none => { s with cfg := fillBack s.cfg t (s.b.bchT t) ms l }.showPhase t 2 c

/-- STAGING_COMPLETE (05 R83): the 448 frames have been copied. -/
def execStagingComplete (t : Tower) (s : State) : Host.Outcome State Fault Refusal :=
  if s.cm t CHM.STAT_PHASE = 1 then .next (s.stageDone t) else .next s

/-! ### The swap (05 R84 to R86, R101, R103, R113) -/

/-- Do conditions 1 to 3 of R84 hold in tower `t` for context `c`? -/
def State.swapReady (s : State) (t c : Nat) : Bool :=
  s.cm t CHM.STAT_PHASE == 2 && (s.ch t).tgt == some c && s.cm t CHM.STAT_DWELL_MET == 1 && !s.frozen t

/-- Is the swap held: by a commit, a quarantine, or the rule that the tenant area never runs C0 beside a shell (05 R84 condition
4, R97, R98, R104)? -/
def State.swapHeld (s : State) (l c : Nat) (why : SwapWhy) : Bool :=
  (c == 0 && s.b.shellDecl) || why != .shell && (s.gangBusy l c || (s.gang l).any (fun t => nbit (s.cm t CHM.BUSY_COMMITTING) (s.cm t CHM.STAT_LIVE)))

/-- Do the switch clocks of tower `t` and of its leader `l` agree (05 R101)? -/
def State.inStep (s : State) (l t : Nat) : Bool :=
  t == l || s.b.gclkDiv t (s.b.swclk t) == s.b.gclkDiv l (s.b.swclk l)

/-- Does tower `l` make the swap itself? A follower swaps with its leader; a shell commit's swap it makes alone where its leader
makes none or is out of step (05 R97, R101, R103). -/
def State.swapsItself (s : State) (l : Nat) (why : SwapWhy) : Bool :=
  !s.follows l || (why == .shell && !(wantsShell (s.ch 0).want && s.inStep 0 l))

/-- May tower `l` swap into `c`? -/
def State.canSwap (s : State) (l c : Nat) (why : SwapWhy) : Bool :=
  !s.b.gated && s.swapsItself l why && !s.swapHeld l c why &&
    (s.gang l).all (fun t => s.swapReady t c || (why == .shell && !s.inStep l t))

/-- Banks that waited for their owner to become live leave their load state (06 R133). -/
def State.releaseLive (s : State) (t : Nat) : State :=
  [3 * t, 3 * t + 1, 3 * t + 2].foldl (fun s k =>
    if (s.ownerLive k && SMap.get (fun _ => false) s.pins.bankRel k && s.b.we t (s.b.fld (iobPage k) IOB.BANK_OWNER_CTX)) = true
    then { s with pins := s.pins.free k } else s) s

/-- The planes of the marshes of `ms` exchange, and those that waited rejoin the tenant area (05 R84, R113). -/
def State.exchangeTower (s : State) (t : Nat) (ms : List Nat) : State :=
  let back := ms.filter (s.cfg.isRejoining t)
  { s with cfg := back.foldl (fun x m => x.setOut t m false) (exchange s.cfg t ms.contains),
           b := back.foldl (fun b m => b.hold t m none) s.b }

/-- Tower `t` swaps into `c` (05 R84 to R86, R113; 03 R48, R87; 04 R66): planes exchange in the marshes staged, those
that waited rejoin, dwell restarts. -/
def State.swapTower (s : State) (t c : Nat) : State :=
  let ms := (s.ch t).staged
  let s := s.beforeSwap t ms.contains
  let old := s
  let s := s.exchangeTower t ms
  let s := (s.setCm t CHM.STAT_LIVE c).setCm t CHM.SWCOUNT (s.cm t CHM.SWCOUNT + 1)
  let s := { s with b := s.b.gkGate t }
  let s := ((s.setCm t CHM.DWELL_CYCLES 0).setCm t CHM.STAT_DWELL_MET 0).setCm t CHM.STAT_CMD_PEND 0
  let s := (s.abandonStage t).setCh t (fun x => { x with named := none, want := none })
  (((s.chmEvent t 8).releaseLive t).afterExchange old t ms.contains).markFresh t ms s.cfg.clutches

/-- A member whose switch-clock divider differs from the leader's slips (05 R101); a swap it makes itself for a shell commit is
still to come. -/
def State.memberSwap (s : State) (l t c : Nat) : State :=
  if s.inStep l t then s.swapTower t c
  else (if wantsShell (s.ch t).want then s else s.abandonStage t).chmEvent t 15

/-- After a shell commit's swap the chameleon takes up what it had put aside; an entry or operation refused meanwhile is passed
over (05 R99, R100). -/
def State.restoreSaved (s : State) (t : Nat) : State :=
  match (s.ch t).saved with
  | none => s
  | some (c, why) =>
    let s := s.setCh t (fun x => { x with saved := none })
    if why = .skip then s.walkOn t
    else if c = s.cm t CHM.STAT_LIVE then
      match why with
      | .slot => s.beginEntry t
      | .event => s.evStatus t c c 1
      | _ => s
    else
      let s := if why = .static then s.setCm t CHM.STAT_CMD_PEND 1 else s
      (s.setCh t (fun x => { x with want := some (c, why) })).stage t c

/-- What the chameleon does right after a swap, by the swap's reason (05 R93, R96, R103). -/
def State.afterSwap (s : State) (l c prev : Nat) (why : SwapWhy) : State :=
  match why with
  | .static => s
  | .slot => s.beginEntry l
  | .event => s.evStatus l c prev 0
  | .shell => s.restoreSaved l
  | .skip => s

/-- SWAP (05 R84): at a switch-clock edge of tower `l` at which every condition holds. -/
def execSwap (l : Tower) (s : State) : Host.Outcome State Fault Refusal :=
  match (s.ch l).want with
  | none => .next s
  | some (c, why) =>
    if s.canSwap l c why then
      let prev := s.cm l CHM.STAT_LIVE
      let s := (s.gang l).foldl (fun s t => s.memberSwap l t c) s
      .next (s.settle.afterSwap l c prev why)
    else .next s

/-- Ask for the swap to C1 that a shell commit makes (05 R97, R101, R103; 08 R170): every member of a gang stages what its leader
stages. -/
def State.shellSwap (s : State) (t : Nat) : State :=
  if s.cm t CHM.STAT_LIVE ≠ 0 ∨ wantsShell (s.ch t).want then s
  else (s.setCh t (fun x => { x with saved := x.want, want := some (1, .shell) })).stage t 1

/-- A shell is declared (05 R103, R104): nothing leads the tenant area of tower `t` to C0 any more. -/
def State.barC0 (s : State) (t : Nat) : State :=
  let s := if (s.ch t).tgt = some 0 then s.abandonStage t else s
  let s := match (s.ch t).want with
    | some (0, .slot) => ((s.setCh t (fun x => { x with want := none })).abandonGang t).walkOn t
    | some (0, _) => s.refuseWant t
    | _ => s
  if (s.ch t).named = some 0 then s.setCh t (fun x => { x with named := none }) else s

/-! ### Slot commands (05 R93, R94) -/

/-- SLOT_ENTRY_END (05 R93, R97): the running entry's duration has passed. -/
def execSlotEntryEnd (t : Tower) (s : State) : Host.Outcome State Fault Refusal :=
  if s.inMode t 1 ∧ (s.ch t).running ∧ ¬ s.frozen t then
    if s.gangCommitting t (s.cm t CHM.STAT_LIVE) then
      .next ((s.setCh t (fun x => { x with running := false, late := true })).chmEvent t 16)
    else .next (s.walkOn t)
  else .next s

/-- SLOT_PASS_END (05 R93): 256 cycles have passed in a pass in which no entry runs. -/
def execSlotPassEnd (t : Tower) (s : State) : Host.Outcome State Fault Refusal :=
  let x := s.ch t
  if s.inMode t 1 ∧ ¬ x.running ∧ ¬ x.ran ∧ x.want.isNone ∧ ¬ s.frozen t then .next (s.passEnd t)
  else .next s

/-- SLT_HALF_SWAP (05 R94): where the tower's own chameleon walks no table, or in SWITCH_FREEZE, a pending GO swaps the
halves. -/
def execSltHalfSwap (t : Tower) (s : State) : Host.Outcome State Fault Refusal :=
  if s.sltPend t ∧ (¬ s.inMode t 1 ∨ s.frozen t) then .next (s.swapHalves t) else .next s

/-- Copy the active half of SLT into the inactive one (05 R94). -/
def copyHalf (b : Base) (t : Nat) : Base :=
  let pg : Page := .slt (tw t)
  let a := b.fld pg SLT.STAT_ACTIVE
  let len := b.fld pg (if a = 0 then SLT.LEN_A_LEN else SLT.LEN_B_LEN)
  let b := b.setFld pg (if a = 0 then SLT.LEN_B_LEN else SLT.LEN_A_LEN) len
  (List.range 256).foldl (fun b e => b.setWord (slotAddr t (1 - a) e) (b.word (slotAddr t a e))) b

/-- SLT_CANCEL_COPY_DONE (05 R94). -/
def execSltCancelCopyDone (t : Tower) (s : State) : Host.Outcome State Fault Refusal :=
  if (s.ch t).copying then .next ({ s with b := copyHalf s.b t }.setCh t (fun x => { x with copying := false }))
  else .next s

/-- A GO or CANCEL of SLT changes which entry follows the last of a pass (05 R93). A staging of another context is discarded, and
after a CANCEL any staging is, and started again. -/
def State.sltChanged (s : State) (t : Nat) (cancel : Bool) : State :=
  if s.inMode t 1 ∧ (s.ch t).running ∧ (s.nextEntry t (s.walkHalf t) (s.walkIdx t + 1)).isNone then
    match s.peekCtx t with
    | some c => if (s.ch t).tgt = some c ∧ ¬ cancel then s else (s.abandonGang t).stageNext t
    | none => s.abandonGang t
  else s

/-- The rules of an SLT GO (05 R94). -/
def sltCommitOk (s : State) (t : Nat) : Bool :=
  let h := 1 - s.b.fld (.slt (tw t)) SLT.STAT_ACTIVE
  decide (s.slotLen t h ≤ 256) &&
  !(s.b.shellDecl && (List.range (s.slotLen t h)).any (fun e =>
      entCtx (s.slotEnt t h e) == 0 && entDur (s.slotEnt t h e) != 0))

/-- A write to a word of SLT (05 R94): an entry or LEN of the active half is not written; nothing is while a commit or
the copy of a CANCEL is pending. -/
def sltWrite (s : State) (t o : Nat) (v : Word) : State :=
  let pg : Page := .slt (tw t)
  let h := if o = 0x44 ∨ (0x800 ≤ o ∧ o < 0xC00) then 0 else 1
  if s.b.fld pg SLT.STAT_ACTIVE = h then s.chmEvent t 10
  else if s.sltPend t ∨ (s.ch t).copying then { s with b := s.b.event pg 5 }
  else { s with b := s.b.setWord (pbase pg + o) (if o < 0x800 then v &&& 0x1FF else v) }

/-! ### Modes and EVENT requests (05 R90, R95, R96) -/

/-- What a change of mode first discards (05 R90). -/
def State.leaveMode (s : State) (t : Nat) : State :=
  let keep := wantsShell (s.ch t).want
  let s := if keep then s.setCh t (fun x => { x with saved := none })
    else (s.abandonGang t).setCh t (fun x => { x with want := none })
  let s := (s.setCm t CHM.STAT_CMD_PEND 0).evRefuse t
  s.setCh t (fun x => { x with named := none, running := false, ran := false, late := false })

/-- The mode tower `t`'s chameleon acts on, none in a follower (05 R90, R101). -/
def State.ownMode (s : State) (t : Nat) : Option Nat := if s.follows t then none else some (s.mode t)

/-- What follows a new mode, FOLLOW or request port in force (05 R90, R95, R101). A tower that begins or ceases to follow
changes the mode it acts on; a new follower stages what its leader stages (DEDUCED, log entry 91). -/
def State.modeSet (s : State) (t : Nat) (oldMode : Option Nat) (oldPort : Word) (req : Bool) : State :=
  let port := s.b.word (pbase (chmPage t) + 0x5C)
  let changed : Bool := s.ownMode t != oldMode
  let s := if changed = true then s.leaveMode t else s
  let s := if (s.inMode t 2 && (changed || port != oldPort)) = true
    then s.setCh t (fun x => { x with evPrev := req }) else s
  let s := if (s.inMode t 1 && changed) = true then s.passBegin t else s
  if (s.follows t && changed) = true then (match (s.ch 0).tgt with | some c => s.stageOne t c | none => s) else s

/-- The fields of a CHM commit take effect (05 R90, R95): `req` is the level of REQ at that edge. An EVENT request they refuse is
answered under the new EVQ (DEDUCED, log entry 91); the chameleons it bears on wake (R119). -/
def State.applyChm (s : State) (t : Nat) (req : Bool) : State :=
  let pg := chmPage t
  let s1 := State.modeSet { s with b := (s.b.applyShadows pg).commitDone pg } t (s.ownMode t) (s.b.word (pbase pg + 0x5C)) req
  { s1 with b := (s1.gang (s1.leader t)).foldl (fun b u => (b.chmWake u).rouse (.slt (tw u))) s1.b }

/-- A request taken at a switch-clock edge (05 R95, R96, R100, R112). -/
def State.takeEvent (s : State) (t c : Nat) : State :=
  let live := s.cm t CHM.STAT_LIVE
  let s := (s.setCm t CHM.STAT_EV_PEND 1).setCh t (fun x => { x with evCtx := some c })
  if s.frozen t then s.evStatus t live live 3
  else if ¬ nbit (s.cm t CHM.ALLOW_CTX_MASK) c ∨ (c = 0 ∧ s.b.shellDecl) ∨ s.gangQuar t c then s.evRefuse t
  else if c = live then s.evStatus t live live 1
  else (s.setCh t (fun x => { x with want := some (c, .event) })).stage t c

/-- One sample of the request tap (05 R95): `req` and `c` are the tap's levels. -/
def State.sampleTap (s : State) (t : Nat) (req : Bool) (c : Nat) : State :=
  if s.inMode t 2 then
    let x := s.ch t
    let s := s.setCh t (fun x => { x with evPrev := req })
    if req && !x.evPrev && x.evCtx.isNone then s.takeEvent t c else s
  else s

/-- The marsh of the request tap (05 R95). -/
def State.evMarsh (s : State) (t : Nat) : Nat := 32 * s.cm t CHM.EVPORT_ROW + s.cm t CHM.EVPORT_COL

/-- The rules of a CHM GO (05 R116). -/
def chmCommitOk (s : State) (t : Nat) : Bool :=
  let m := s.b.shFld (chmPage t) CHM.CTRL_MODE
  let port := 32 * s.b.shFld (chmPage t) CHM.EVPORT_ROW + s.b.shFld (chmPage t) CHM.EVPORT_COL
  m != 3 && (m != 2 || s.b.isShell t port) && !(t == 0 && s.b.shFld (chmPage t) CHM.CTRL_FOLLOW == 1)

/-! ### Exclusion (05 R113, 21 R427) -/

/-- Bit `m` of the EXCLUDE array. -/
def excludeFld (m : Nat) : Fld := ⟨0x80 + 4 * (m / 32), m % 32, m % 32, 4⟩

/-- Setting an EXCLUDE bit (05 R113): at once. The lines that cross the marsh's boundary keep their values (04 R66, R73), the marsh
keeps its live context (R80), and a staging under way no longer includes it. -/
def State.excludeSet (s : State) (t m : Nat) : State :=
  let s := s.keepLines t (fun _ => true) s.cfg.clutches
  let b := if s.cfg.isRejoining t m ∨ s.b.isShell t m ∨ s.b.excludeBit t m then s.b else s.b.hold t m (some (s.b.liveOf t m))
  let s : State := { s with b := b.setFld (chmPage t) (excludeFld m) 1, cfg := s.cfg.setOut t m false }
  s.setCh t (fun x => { x with staged := x.staged.erase m })

/-- Clearing an EXCLUDE bit (05 R113, 21 R427): ignored while the marsh's bus is LAME or its domain is off. The marsh rejoins at
a later swap; a shell marsh, which no swap reaches, at once (DEDUCED, log entry 92). -/
def State.excludeClear (s : State) (t m : Nat) : State :=
  if s.b.lameCb t m ∨ s.b.domainDown t m ∨ ¬ s.b.excludeBit t m then s
  else { s with b := s.b.setFld (chmPage t) (excludeFld m) 0, cfg := s.cfg.setOut t m (!s.b.isShell t m) }

/-- A write of EXCLUDE word `j`: each bit that changes is set or cleared as above. -/
def State.excludeWrite (s : State) (t j : Nat) (v : Word) : State :=
  (List.range 32).foldl (fun s i =>
    if v.getLsbD i then (if s.b.excludeBit t (32 * j + i) then s else s.excludeSet t (32 * j + i))
    else s.excludeClear t (32 * j + i)) s

end Sys2Proof.Machine
end

