-- ==== Sys2Proof/Machine/ConfigMem.lean ====
section
/-! DEFINITION. Configuration memory: re-encoding, commit writes and refresh, the scrubber, readback and RAW writes
(06 R120 to R139). -/
namespace Sys2Proof.Machine

/-- The CFG page of tower `t`. -/
def cfgPage (t : Nat) : Page := .cfg (tw t)
/-- The SCB page of tower `t`. -/
def scbPage (t : Nat) : Page := .scb (tw t)

/-! ### Re-encoding (06 R125) -/

/-- The rules of a CFG GO (06 R125). -/
def cfgCommitOk (s : State) (t : Nat) : Bool :=
  let n := s.b.shFld (cfgPage t) CFG.BCH_T
  decide (2 ≤ n) && decide (n ≤ 16) && s.mode t == 0 && s.cm t CHM.STAT_PHASE == 0 && !s.follows t &&
    (s.gang t).length == 1 && s.cm t CHM.BUSY_COMMITTING == 0

/-- Re-encode one frame: corrected under the old strength, written under the new; an uncorrectable one stays, is
logged, and its context is quarantined. -/
def State.reencode (s : State) (t tOld tNew : Nat) (e : Nat × Frame) : State :=
  match frameDecode tOld e.2 with
  | some o => { s with cfg := s.cfg.setFrame e.1 (frameEncode tNew (BitVec.ofNat 4096 o.pay)) }
  | none => ({ s with b := s.b.logErr (cfgPage t) { kind := 1, uc := true, addr := e.1, ctx := some (faCtx e.1) } }).quarantine
      t (faCtx e.1)

/-- The re-encode of tower `t` ends: every frame has been re-encoded, the new T is live. -/
def State.reencodeEnd (s : State) (t : Nat) : State :=
  let p := cfgPage t
  if s.b.bit p CFG.STAT_REENC then
    let tOld := s.b.bchT t
    let tNew := s.b.shFld p CFG.BCH_T
    let s := (s.cfg.store.filter (fun e => faTower e.1 == t)).foldl (fun s e => s.reencode t tOld tNew e) s
    let b := ((s.b.applyShadows p).setFld p CFG.STAT_REENC 0).commitDone p
    { s with b := b.event p 9 }
  else s

/-- REENCODE_DONE (06 R125). -/
def execReencodeDone (t : Tower) (s : State) : Host.Outcome State Fault Refusal := .next (s.reencodeEnd t)

/-! ### Writing frames (06 R126, R128, R129) -/

/-- Write one payload to its targets with the tower's check bits (06 R124, R126). -/
def CfgMem.multicast (x : CfgMem) (bt : Nat) (pay : BitVec 4096) (targets : List Nat) : CfgMem :=
  targets.foldl (fun x a => x.setFrame a (frameEncode bt pay)) x

/-- The marshes of tower `t` that a commit refresh copies: those written whose live context is committed (06 R129); a marsh without
power has no planes to fill. -/
def State.refreshMarshes (s : State) (t : Nat) (written : Nat → Nat → Bool) : List Nat :=
  (List.range 384).filter (fun m => written m (s.b.liveOf t m) && !s.b.domainDown t m)

/-- The contexts, as a mask, live in the marshes of `ms`. -/
def State.liveMask (s : State) (t : Nat) (ms : List Nat) : Nat := ms.foldl (fun a m => nset a (s.b.liveOf t m)) 0

/-- Begin the commit refresh of the marshes of `ms` (06 R129): stagings held in their back planes are discarded. -/
def State.refreshBegin (s : State) (t : Nat) (ms : List Nat) : State :=
  let s := if ms.any ((s.ch t).staged.contains ·) then s.dropStage t else s
  { s with cfg := { s.cfg with refresh := SMap.set (fun _ => []) s.cfg.refresh t ms,
                               refreshCtx := SMap.set (fun _ => 0) s.cfg.refreshCtx t (s.liveMask t ms) },
           b := s.b.setBit (cfgPage t) CFG.STAT_REFRESH true }

/-- The marshes under refresh. -/
def CfgMem.refreshing (x : CfgMem) (t : Nat) : List Nat := SMap.get (fun _ => []) x.refresh t
/-- The contexts, as a mask, a refresh copies. -/
def CfgMem.refreshMask (x : CfgMem) (t : Nat) : Nat := SMap.get (fun _ => 0) x.refreshCtx t
/-- Forget a refresh. -/
def State.refreshEnd (s : State) (t : Nat) : State :=
  { s with cfg := { s.cfg with refresh := SMap.set (fun _ => []) s.cfg.refresh t [] },
           b := s.b.setBit (cfgPage t) CFG.STAT_REFRESH false }

/-- The refresh copies context `c` into the back planes of the marshes of `ms`; the result says whether an uncorrectable frame
ended it (06 R129): logged, and the context quarantined. -/
def State.refreshCopy (s : State) (t c : Nat) (ms : List Nat) : State × Bool :=
  let l := copyList s.cfg t c ms.contains
  let r := copyScan (s.b.bchT t) l
  let b := logStaged s.b t c r.1
  match r.2 with
  | some fa => ({ s with b := b.logErr (cfgPage t) { kind := 3, uc := true, addr := fa, ctx := some c } }.quarantine t c, true)
  | none => ({ s with b := b, cfg := fillBack s.cfg t (s.b.bchT t) ms.contains l }, false)

/-- The refresh copies of tower `t` are complete, and at the next switch-clock edge the planes exchange in the marshes of every
context that was copied whole (06 R129). The result names the contexts, as a mask, that were not. -/
def State.refreshDone (s : State) (t : Nat) : State × Nat :=
  let ms := s.cfg.refreshing t
  let x := (maskCtxs (s.cfg.refreshMask t)).foldl (fun x c =>
    let y := x.1.refreshCopy t c (ms.filter fun m => s.b.liveOf t m == c)
    (y.1, if y.2 then nset x.2 c else x.2)) (s, 0)
  let good := ms.filter fun m => !nbit x.2 (s.b.liveOf t m)
  let s := x.1.keepLines t good.contains x.1.cfg.clutches
  (({ s with cfg := exchange s.cfg t good.contains }.refreshEnd t).settle, x.2)

/-! ### The scrubber (06 R134 to R137) -/

/-- Saturating count. -/
def Base.count (b : Base) (p : Page) (f : Fld) : Base := b.addFld p f 1

/-- Has the scrubber an operation to do: PERIOD not 0, no re-encode? -/
def State.scrubs (s : State) (t : Nat) : Bool := s.b.fld (scbPage t) SCB.PERIOD_MS != 0 && !s.reencoding t

/-- Is the front-plane compare the next operation? -/
def CfgMem.compareNext (x : CfgMem) (t : Nat) : Bool := SMap.get (fun _ => false) x.cmpNext t
/-- Set that. -/
def CfgMem.setCompareNext (x : CfgMem) (t : Nat) (v : Bool) : CfgMem := { x with cmpNext := SMap.set (fun _ => false) x.cmpNext t v }
/-- AON time the pass began. -/
def CfgMem.passBegan (x : CfgMem) (t : Nat) : Nat := SMap.get (fun _ => 0) x.passAt t

/-- A scrubber's read of the store frame at its position: written back corrected, or logged and quarantined
(06 R135). -/
def State.scrubFrame (s : State) (t c a : Nat) : State :=
  let p := scbPage t
  let f := s.cfg.frame a
  match frameDecode (s.b.bchT t) f with
  | none =>
    let b := ((s.b.count p SCB.UC_CNT).logErr p { kind := 2, uc := true, addr := a, ctx := some c }).event p 11
    ({ s with b := b }).quarantine t c
  | some o =>
    if o.n = 0 then s
    else
      let b := (s.b.count p SCB.CORR_CNT).corrErr p { kind := 1, addr := a, ctx := some c, syn := o.n }
      { s with b := b, cfg := if s.b.bit p SCB.CTRL_WRITEBACK
          then s.cfg.setFrame a (frameEncode (s.b.bchT t) (BitVec.ofNat 4096 o.pay)) else s.cfg }

/-- SCRUB_READ (06 R134, R135): the scrubber's next operation is a read of a store frame. -/
def execScrubRead (t : Tower) (s : State) : Host.Outcome State Fault Refusal :=
  let p := scbPage t
  if s.scrubs t ∧ ¬ s.cfg.compareNext t then
    let c := s.b.fld p SCB.POS_STEP
    let s1 := s.scrubFrame t c (frameAddr t (s.b.fld p SCB.POS_MARSH) c (s.b.fld p SCB.POS_FRAME))
    .next (if c = 7 then { s1 with cfg := s1.cfg.setCompareNext t true }
           else { s1 with b := s1.b.setFld p SCB.POS_STEP (c + 1) })
  else .next s

/-- Is a compare of marsh `m` skipped (06 R137, 21 R427)? -/
def State.compareSkipped (s : State) (t m : Nat) : Bool :=
  s.b.lameCb t m || nbit (s.cm t CHM.BUSY_COMMITTING) (s.b.liveOf t m) ||
    (s.cm t CHM.STAT_PHASE == 1 && (s.ch t).staged.contains m) || (s.cfg.refreshing t).contains m ||
    !s.b.bit (scbPage t) SCB.CTRL_FP_CMP || s.b.domainDown t m

/-- The number of bits set in the low `n` bits. -/
def countBits : Nat → Nat → Nat
  | 0, _ => 0
  | n + 1, v => v % 2 + countBits n (v / 2)

/-- Compare frame `f` of marsh `m` with its store frame (06 R136, R137). -/
def State.compareFrame (s : State) (t m f : Nat) : State :=
  let p := scbPage t
  if s.compareSkipped t m then { s with b := s.b.count p SCB.SKIP_CNT }
  else
    let c := s.b.liveOf t m
    let a := frameAddr t m c f
    match frameDecode (s.b.bchT t) (s.cfg.frame a) with
    | none => { s with b := (s.b.count p SCB.SKIP_CNT).logErr p { kind := 4, addr := a, ctx := some c } }
    | some o =>
      let d := (s.cfg.frontFrame t m f).toNat ^^^ o.pay
      if d = 0 then s
      else
        let first := ((List.range 4096).find? (nbit d)).getD 0
        let b := (s.b.count p SCB.FP_CNT).corrErr p
          { kind := 3, addr := a, ctx := some c, syn := countBits 4096 d, det := first }
        if s.b.bit p SCB.CTRL_FP_FIX then
          ({ s with b := b.event p 10, cfg := s.cfg.setFront t m f (BitVec.ofNat 4096 o.pay) }).settle
        else { s with b := b }

/-- The position after a compare: next frame, next marsh, or the end of the pass (06 R134). -/
def State.scrubNext (s : State) (t : Nat) : State :=
  let p := scbPage t
  let m := s.b.fld p SCB.POS_MARSH
  let f := s.b.fld p SCB.POS_FRAME
  let b := s.b.setFld p SCB.POS_STEP 0
  let x := s.cfg.setCompareNext t false
  if f < 447 then { s with cfg := x, b := b.setFld p SCB.POS_FRAME (f + 1) }
  else if m < 383 then { s with cfg := x, b := (b.setFld p SCB.POS_FRAME 0).setFld p SCB.POS_MARSH (m + 1) }
  else
    let ms := (s.b.aonUs - s.cfg.passBegan t) / 1000
    let b := ((b.setFld p SCB.POS_FRAME 0).setFld p SCB.POS_MARSH 0).setFld p SCB.LAST_MS (satAdd 0xFFFF ms 0)
    let b := (b.setFld p SCB.PASS (b.fld p SCB.PASS + 1)).event p 8
    { s with cfg := { x with passAt := SMap.set (fun _ => 0) x.passAt t s.b.aonUs },
             b := b.eventIf (decide (s.b.fld p SCB.PERIOD_MS * 1000 < s.b.aonUs - s.cfg.passBegan t)) p 9 }

/-- FP_COMPARE (06 R134, R136): the scrubber's next operation is a front-plane compare; the last of a pass ends it. -/
def execFpCompare (t : Tower) (s : State) : Host.Outcome State Fault Refusal :=
  let p := scbPage t
  if s.scrubs t ∧ s.cfg.compareNext t then
    .next ((s.compareFrame t (s.b.fld p SCB.POS_MARSH) (s.b.fld p SCB.POS_FRAME)).scrubNext t)
  else .next s

/-! ### Readback and RAW writes (06 R138, R139) -/

/-- The operation of tower `t` in progress: RB_ADDR as latched when it began (DEDUCED, log entry 93), plus 2^32 for a RAW write. -/
def CfgMem.rbLatched (x : CfgMem) (t : Nat) : Nat := SMap.get (fun _ => 0) x.rbAt t

/-- A readback or RAW write begins (06 R138 to R140): RB_BUSY is 1, and the last operation is no longer complete (DEDUCED, log
entry 93). -/
def State.rbStart (s : State) (t op : Nat) : State :=
  let p := cfgPage t
  { s with b := (s.b.setBit p CFG.STAT_RB_BUSY true).setBit p CFG.RB_STAT_DONE false,
           cfg := { s.cfg with rbAt := SMap.set (fun _ => 0) s.cfg.rbAt t ((s.b.word (pbase p + 0x54)).toNat + 2 ^ 32 * op) } }

/-- A write of CFG.RB_CMD.RB_GO (06 R138): a readback begins; ignored while one is in progress. -/
def State.rbGo (s : State) (t : Nat) : State := if s.b.bit (cfgPage t) CFG.STAT_RB_BUSY then s else s.rbStart t 0

/-- Store a readback's data and check bits. -/
def Base.setReadback (b : Base) (t : Nat) (pay : BitVec 4096) (chk : BitVec 224) : Base :=
  let p := cfgPage t
  let b := (List.range 128).foldl (fun b i => b.setFld p (CFG.RB_DATA.nth i) (pay.extractLsb' (32 * i) 32).toNat) b
  (List.range 7).foldl (fun b i => b.setFld p (CFG.RB_CHK.nth i) (chk.extractLsb' (32 * i) 32).toNat) b

/-- RB_STAT after a readback (06 R140): DONE, NCORR, UC and DENIED are the readback's, REFUSED stays the last RAW write's. -/
def Base.rbResult (b : Base) (t ncorr : Nat) (uc denied : Bool) : Base :=
  let p := cfgPage t
  (((b.setBit p CFG.RB_STAT_DONE true).setFld p CFG.RB_STAT_NCORR (ncorr % 32)).setBit p CFG.RB_STAT_UC uc).setBit p
    CFG.RB_STAT_DENIED denied
/-- RB_STAT after a RAW write: DONE and REFUSED are its, the rest stays the last readback's. -/
def Base.rawResult (b : Base) (t : Nat) (refused : Bool) : Base :=
  let p := cfgPage t
  (b.setBit p CFG.RB_STAT_DONE true).setBit p CFG.RB_STAT_REFUSED refused

/-- The check bits a frame of tower `t` shows: those beyond 13 T read 0 (06 R120). -/
def Base.shownChk (b : Base) (t : Nat) (chk : BitVec 224) : BitVec 224 := chk &&& BitVec.ofNat 224 (2 ^ (13 * b.bchT t) - 1)

/-- The readback of tower `t` ends (06 R138, R32): denied, or the frame's data and check bits. Of an uncorrectable store frame it
returns what is stored (DEDUCED, log entry 93). -/
def State.readback (s : State) (t : Nat) : State :=
  let p := cfgPage t
  let w := s.cfg.rbLatched t
  let a := w % 0x800000
  let plane := listedOr .plane [0, 1] (w / 0x800000 % 4)
  let m := faMarsh a
  let f := faFrame a
  let c := if plane = 0 then faCtx a else s.b.liveOf t m
  let b0 := s.b.setBit p CFG.STAT_RB_BUSY false
  if ¬ faValid a ∨ faTower a ≠ t ∨ ¬ nbit (s.b.fld p CFG.RB_PERMIT_CTX) c then
    { s with b := (((b0.setReadback t 0 0).rbResult t 0 false true).event p 11).event p 10 }
  else if plane = 0 then
    let fr := s.cfg.frame a
    match frameDecode (s.b.bchT t) fr with
    | some o =>
      let b := b0.setReadback t (BitVec.ofNat 4096 o.pay) (s.b.shownChk t (BitVec.ofNat 224 o.chk))
      let b := b.countCorr p (if o.n = 0 then 0 else 1)
      { s with b := (b.rbResult t o.n false false).event p 10 }
    | none =>
      let b := (b0.setReadback t fr.pay (s.b.shownChk t (fr.chk.setWidth 224))).logErr p { kind := 4, uc := true, addr := a, ctx := some c }
      { s with b := (b.rbResult t 0 true false).event p 10 }
  else
    let d := if s.b.domainDown t m then Config.freeBits 4096 s.b.free else s.cfg.frontFrame t m f
    let k := s.b.shownChk t (Config.freeBits 224 (s.b.free + 1))
    { s with b := (((b0.bump.bump).setReadback t d k).rbResult t 0 false false).event p 10 }

/-- RB_DATA as a payload. -/
def Base.rbData (b : Base) (t : Nat) : BitVec 4096 :=
  BitVec.ofNat 4096 ((List.range 128).foldr (fun i a => b.fld (cfgPage t) (CFG.RB_DATA.nth i) + a * 2 ^ 32) 0)
/-- The first 13 t bits of RB_CHK. -/
def Base.rbChk (b : Base) (t : Nat) : BitVec 208 :=
  BitVec.ofNat 208 ((List.range 7).foldr (fun i a => b.fld (cfgPage t) (CFG.RB_CHK.nth i) + a * 2 ^ 32) 0 %
    2 ^ (13 * b.bchT t))

/-- Is a RAW write to the word `w` of RB_ADDR refused (06 R139)? -/
def State.rawRefused (s : State) (t w : Nat) : Bool :=
  let a := w % 0x800000
  !s.b.bit (cfgPage t) HDR.ERR_CFG_RAW || w / 0x800000 % 4 != 0 || !faValid a || faTower a != t ||
    s.b.liveOf t (faMarsh a) == faCtx a || nbit (s.cm t CHM.BUSY_COMMITTING) (faCtx a)

/-- The RAW write in progress is done (06 R139): the frame is stored as written, and its context quarantined. -/
def State.rawDone (s : State) (t : Nat) : State :=
  let a := s.cfg.rbLatched t % 0x800000
  { s with cfg := s.cfg.setFrame a ⟨s.b.rbData t, s.b.rbChk t⟩,
           b := (s.b.setBit (cfgPage t) CFG.STAT_RB_BUSY false).rawResult t false }.quarantine t (faCtx a)

/-- A write of CFG.RB_CMD.RAW_WR (06 R127, R139): refused, or done at once; during a re-encode it waits. A refused one is a
complete operation (DEDUCED, log entry 93). -/
def State.rawWrite (s : State) (t : Nat) : State :=
  if s.b.bit (cfgPage t) CFG.STAT_RB_BUSY then s
  else if s.rawRefused t (s.b.word (pbase (cfgPage t) + 0x54)).toNat then { s with b := s.b.rawResult t true }
  else if s.reencoding t then s.rbStart t 1
  else (s.rbStart t 1).rawDone t

/-- READBACK_DONE (06 R138, R139): the readback, or a RAW write that waited, completes; each waits for the end of a re-encode. -/
def execReadbackDone (t : Tower) (s : State) : Host.Outcome State Fault Refusal :=
  if s.b.bit (cfgPage t) CFG.STAT_RB_BUSY ∧ ¬ s.reencoding t then
    .next (if s.cfg.rbLatched t / 2 ^ 32 = 1 then s.rawDone t else s.readback t)
  else .next s

/-- RB_GO and RAW_WR in one write start neither (06 R139). -/
def State.rbBoth (s : State) (t : Nat) : State :=
  if s.b.bit (cfgPage t) CFG.STAT_RB_BUSY then s else { s with b := s.b.setBit (cfgPage t) CFG.RB_STAT_REFUSED true }

end Sys2Proof.Machine
end

