-- ==== Sys2Proof/Machine/Image.lean ====
section
/-! DEFINITION. The Momas image: header, placement, segment table, frame records and the driver census (07; 04 R67; 08
R164). A check answers what it found, or a status code of 08 R179 with its FAIL_INFO. -/
namespace Sys2Proof.Machine

/-- A failed check: the status code and FAIL_INFO (08 R179). -/
abbrev Reject := Nat × Nat

/-- `n` bytes at offset `o`, little-endian (07 R144). -/
def leAt (b : List Byte) (o n : Nat) : Nat := ((b.drop o).take n).foldr (fun x a => x.toNat + 256 * a) 0
/-- Are `n` bytes at offset `o` all zero? -/
def zeroAt (b : List Byte) (o n : Nat) : Bool := ((b.drop o).take n).all (· == 0)

/-! ### Header (07 R146 to R150; 08 R164 steps 1 to 5) -/

/-- IDCODE of stepping B1 (25 R513). -/
def idcode : Nat := 0x354805EF

/-- Is a region word well formed (07 R149)? -/
def imgRegionOk (w : Nat) : Bool :=
  if nbit w 24 then
    w / 0x2000000 == 0 && nget w 23 21 == 0 && nget w 15 13 == 0 &&
      decide (nget w 3 0 ≤ nget w 7 4) && decide (nget w 7 4 ≤ 11) && decide (nget w 12 8 ≤ nget w 20 16)
  else w == 0
/-- The region word that covers a whole tower (07 R148). -/
def fullRegion : Nat := 0x011F00B0
/-- Is a region word valid? -/
def regionValid (w : Nat) : Bool := nbit w 24

/-- Are the header checks of step 3 met but for the source and the shell (07 R147 to R150)? -/
def headerOk (b : List Byte) : Bool :=
  let kind := leAt b 0x12 1
  let cs := leAt b 0x13 1
  let flags := leAt b 0x14 2
  let segs := leAt b 0x1C 2
  let total := leAt b 0x20 8
  let regs := (List.range 4).map (fun t => leAt b (0x70 + 4 * t) 4)
  let valid := regs.filter regionValid
  decide (1 ≤ kind) && decide (kind ≤ 4) && leAt b 0x17 1 == 0 && flags / 4 == 0 &&
    zeroAt b 0x1E 2 && zeroAt b 0x68 8 && zeroAt b 0x80 128 &&
    decide (0xE70 + 32 * segs ≤ total) && (total - (0xE70 + 32 * segs)) % 8 == 0 &&
    regs.all imgRegionOk && !valid.isEmpty &&
    (if kind ≤ 2 then cs != 0 else cs == 1) &&
    (kind != 1 || valid.all (· == fullRegion)) &&
    (!nbit flags 0 || (decide (kind ≤ 2) && valid.length == 1))

/-- Is the signer's key present and accepted for the kind (07 R148, R152; 08 R164 step 8)? -/
def Base.keyOk (b : Base) (key kind : Nat) : Bool :=
  if key = 0 then kind == 4
  else if key = 1 then !b.part.op && b.fuse.enrolled
  else if key = 0x10 then b.part.op
  else if 0x11 ≤ key ∧ key ≤ 0x1F then
    b.part.op && nbit b.fuse.opKeys (key - 0x10) && !nbit b.fuse.opRevoke (key - 0x10)
  else false

/-- Column shift of LDR.PLACE, two's complement (08 R180). -/
def Base.placeShift (b : Base) : Int := toS 6 (b.fld .ldr LDR.PLACE_SHIFT)

/-- Apply the placement to the region words (07 R150, 08 R172): the placed words and the placement, or PLACEMENT. -/
def placeRegions (b : Base) (reloc : Bool) (regs : List Nat) : Except Reject (List Nat × Option (Nat × Int)) :=
  if b.fld .ldr LDR.PLACE_EN = 0 then .ok (regs, none)
  else
    let d := b.placeShift
    let w := (regs.find? regionValid).getD 0
    let c0 : Int := (nget w 12 8 : Nat) + d
    let c1 : Int := (nget w 20 16 : Nat) + d
    if ¬ reloc ∨ d % 3 ≠ 0 ∨ d < -30 ∨ 30 < d ∨ c0 < 0 ∨ 31 < c1 then .error (0x13, 0)
    else
      let w' := (w % 0x100) + c0.toNat * 0x100 + c1.toNat * 0x10000 + 0x1000000
      let u := b.fld .ldr LDR.PLACE_TOWER
      .ok ((List.range 4).map (fun t => if t = u then w' else 0), some (u, d))

/-- Steps 1 to 5 of 08 R164 on the first 256 bytes; `src` is the source of the image. -/
def headerCheck (base : Base) (b : List Byte) (src : Nat) : Except Reject ImgHdr :=
  let kind := leAt b 0x12 1
  let cs := leAt b 0x13 1
  if leAt b 0 4 ≠ 0x494D4F4D ∨ leAt b 4 2 ≠ 1 ∨ leAt b 6 2 ≠ 0 ∨ leAt b 8 2 ≠ 1 ∨ leAt b 0xA 2 ≠ 0x100 then .error (0x10, 0)
  else if leAt b 0xC 4 ≠ idcode % 2 ^ 28 ∨ ¬ nbit (leAt b 0x10 2) (idcode / 2 ^ 28) then .error (0x11, 0)
  else if ¬ headerOk b ∨ (src = 0 ∧ kind = 4) ∨ (src ≠ 0 ∧ kind ≠ 4) then .error (0x12, 0)
  else if kind ≤ 2 ∧ nbit cs 0 ∧ base.shellDecl then .error (0x23, 0)
  else
    match placeRegions base (nbit (leAt b 0x14 2) 0) ((List.range 4).map (fun t => leAt b (0x70 + 4 * t) 4)) with
    | .error e => .error e
    | .ok (regs, pl) =>
      if (base.fld .ldr LDR.STG_SIZE_SIZE - 1) * mib64 < leAt b 0x20 8 then .error (0x14, 0)
      else .ok ⟨kind, cs, nbit (leAt b 0x14 2) 1, leAt b 0x16 1, leAt b 0x18 4, leAt b 0x1C 2, leAt b 0x20 8,
                leAt b 0x28 8, (b.drop 0x30).take 16, (b.drop 0x40).take 40, regs, pl⟩

/-! ### Segment table (07 R153; 08 R164 step 6) -/

/-- Offset of segment table entry `i`. -/
def segEntry (i : Nat) : Nat := 0xE60 + 32 * i
/-- PT_LEN of segment `i`. -/
def segLen (b : List Byte) (i : Nat) : Nat := leAt b (segEntry i + 8) 4
/-- REC_COUNT of segment `i`. -/
def segRecs (b : List Byte) (i : Nat) : Nat := leAt b (segEntry i + 12) 4
/-- OFFSET of segment `i`. -/
def segOff (b : List Byte) (i : Nat) : Nat := leAt b (segEntry i) 8

/-- Entries `i` and up: `off` is where the next segment must start. The end of the segments, or the entry at fault. -/
def segTable (b : List Byte) : Nat → Nat → Nat → Except Reject Nat
  | 0, _, off => .ok off
  | n + 1, i, off =>
    let l := segLen b i
    if segOff b i ≠ off ∨ l % 8 ≠ 0 ∨ 0x4000000 < l ∨ (l = 0 ∧ segRecs b i ≠ 0) then .error (0x15, segEntry i)
    else segTable b n (i + 1) (off + l)

/-- Step 6: pad bytes and segment table. -/
def layoutCheck (b : List Byte) (h : ImgHdr) : Except Reject Unit :=
  match (List.range 3).find? (fun i => leAt b (0xE5D + i) 1 != 0) with
  | some i => .error (0x15, 0xE5D + i)
  | none =>
    match segTable b h.segs 0 (segEntry h.segs) with
    | .error e => .error e
    | .ok off =>
      if off + 16 ≠ h.total then .error (0x15, if h.segs = 0 then 0x20 else segEntry (h.segs - 1)) else .ok ()

/-- The manifest: SHA-384 over the header and the segment table (07 R151). -/
def manifestOk (b : List Byte) (h : ImgHdr) : Bool :=
  (b.drop 0x100).take 48 == sha384 (b.take 256 ++ (b.drop 0xE60).take (32 * h.segs))

/-! ### Signatures, keys and tags (07 R152, R154, R155; 22 R448) -/

/-- The public key that KEY_ID names, of one algorithm. -/
def Base.pubKey (b : Base) (a : SigAlg) (id : Nat) : List Byte :=
  if id = 0 ∨ id = 0x10 then Config.madeKey a id
  else
    let k := SMap.get (fun _ => []) b.fuse.pubKeys id
    match a with
    | .ed25519 => k.take 32
    | .mldsa65 => k.drop 32
/-- The key in the image-key slot: the owner's once installed. -/
def Base.imageKey (b : Base) : BitVec 256 := if b.fuse.ownIkey then b.fuse.ikey else Config.madeImageKey b.part.op
/-- Do both signatures verify, in order (00 R4)? Answers the first that fails. -/
def sigFails (ek mk msg es ms : List Byte) : Option SigAlg :=
  if ¬ Config.sigVerifies .ed25519 ek msg es then some .ed25519
  else if ¬ Config.sigVerifies .mldsa65 mk msg ms then some .mldsa65
  else none
/-- The signatures over an image's manifest (07 R145, R152). -/
def Base.imgSigFails (b : Base) (img : List Byte) (id : Nat) : Option SigAlg :=
  sigFails (b.pubKey .ed25519 id) (b.pubKey .mldsa65 id) ((img.drop 0x100).take 48) ((img.drop 0x130).take 64)
    ((img.drop 0x170).take 3309)

/-- A 32-bit integer as the image's derivations take it: little-endian (07 R144). -/
def le32 (i : Nat) : List Byte := (beList 4 i).reverse
/-- key(i) from key(0) (07 R154). -/
def segKey (nonce : List Byte) (key0 : List Byte) : Nat → List Byte
  | 0 => key0
  | i + 1 => (hmac384 (segKey nonce key0 i) ([0x53, 0x4B, 0x34, 0x38] ++ le32 (i + 1) ++ nonce)).take 32
/-- key(i) of an image. -/
def ImgHdr.key (h : ImgHdr) (key0 : BitVec 256) (i : Nat) : Nat := beNat (segKey h.nonce (beList 32 key0.toNat) i)
/-- The IV of segment `i`. -/
def ImgHdr.segIv (h : ImgHdr) (i : Nat) : Nat := beNat (h.nonce.take 8 ++ le32 i)
/-- TAG of segment table entry `i` (07 R153). -/
def segTag (img : List Byte) (i : Nat) : List Byte := (img.drop (segEntry i + 16)).take 16
/-- Does the ciphertext of segment `i` carry its tag (07 R154)? -/
def ImgHdr.segTagOk (h : ImgHdr) (img : List Byte) (key0 : BitVec 256) (i : Nat) (ct : List Byte) : Bool :=
  gcmTag (h.key key0 i) (h.segIv i) ((img.drop (segEntry i)).take 16) ct == segTag img i
/-- Words of eight bytes, the first byte lowest. -/
def wordsLe (l : List Byte) : List (BitVec 64) :=
  (List.range (l.length / 8)).map fun i => BitVec.ofNat 64 (leAt l (8 * i) 8)
/-- The plaintext of segment `i`, in words of eight bytes. -/
def ImgHdr.segPlain (h : ImgHdr) (key0 : BitVec 256) (i : Nat) (ct : List Byte) : List (BitVec 64) :=
  wordsLe (gcmCrypt (h.key key0 i) (h.segIv i) ct)
/-- The stream tag (07 R155). -/
def ImgHdr.streamTag (h : ImgHdr) (img : List Byte) (key0 : BitVec 256) : List Byte :=
  gcmTag (h.key key0 h.segs) (beNat (h.nonce.drop 8 ++ [0xFF, 0xFF, 0xFF, 0xFF])) ((List.range h.segs).flatMap (segTag img)) []

/-! ### Regions and frame names (07 R149, R150, R156 to R160; 08 R168) -/

/-- Does marsh `m` lie in the rectangle of a region word (07 R149)? -/
def inRegion (w m : Nat) : Bool :=
  regionValid w && decide (nget w 3 0 ≤ m / 32) && decide (m / 32 ≤ nget w 7 4) &&
    decide (nget w 12 8 ≤ m % 32) && decide (m % 32 ≤ nget w 20 16)
/-- The image's region word of tower `t`. -/
def ImgHdr.region (h : ImgHdr) (t : Nat) : Nat := h.regions.getD t 0
/-- May the image write marsh `m` of tower `t` (07 R148, 08 R168)? -/
def State.imgMarsh (s : State) (h : ImgHdr) (t m : Nat) : Bool :=
  inRegion (h.region t) m && !s.isOut t m && !s.b.lameCb t m && (decide (3 ≤ h.kind) || !s.b.isShell t m)

/-- Does the all-zero payload of a FULL, SHELL or GOLDEN image reach unnamed frames of marsh `m` of tower `t`: all of the region but
the shell and excluded marshes under a tenant image (07 R148)? -/
def State.imgZero (s : State) (h : ImgHdr) (t m : Nat) : Bool :=
  h.kind != 2 && inRegion (h.region t) m && (decide (3 ≤ h.kind) || (!s.isOut t m && !s.b.isShell t m))

/-- A frame address after placement (07 R150); none where the shift takes it off the columns. -/
def placeAddr (h : ImgHdr) (a : Nat) : Option Nat :=
  match h.place with
  | none => some a
  | some (u, d) =>
    let c : Int := (faMarsh a % 32 : Nat) + d
    if 0 ≤ c ∧ c ≤ 31 then some (frameAddr u (32 * (faMarsh a / 32) + c.toNat) (faCtx a) (faFrame a)) else none

/-- The frame an image names by address `a`, or ADDRESS or REGION (07 R160, 08 R168, R179). -/
def State.nameFrame (s : State) (h : ImgHdr) (a : Nat) : Except Reject Nat :=
  match placeAddr h a with
  | none => .error (if faValid a then 0x23 else 0x22, a)
  | some p =>
    if ¬ faValid p then .error (0x22, p)
    else if s.imgMarsh h (faTower p) (faMarsh p) ∧ nbit h.ctxSet (faCtx p) then .ok p
    else .error (0x23, p)

/-- Name a list of addresses. -/
def State.nameAll (s : State) (h : ImgHdr) : List Nat → Except Reject (List Nat)
  | [] => .ok []
  | a :: l =>
    match s.nameFrame h a with
    | .error e => .error e
    | .ok p =>
      match s.nameAll h l with
      | .error e => .error e
      | .ok ps => .ok (p :: ps)

/-- The next frame in fill order (07 R157). -/
def fillNext (a : Nat) : Nat := if faFrame a = 447 then a - 447 + 0x1000 else a + 1
/-- The `n` frames of a fill range from `a`, named one by one; a range that reaches marsh 384 names an invalid
address. -/
def State.nameRange (s : State) (h : ImgHdr) : Nat → Nat → Except Reject (List Nat)
  | 0, _ => .ok []
  | n + 1, a =>
    match s.nameFrame h a with
    | .error e => .error e
    | .ok p =>
      match s.nameRange h n (fillNext a) with
      | .error e => .error e
      | .ok ps => .ok (p :: ps)

/-- A payload from 64 words of eight bytes, the first lowest (07 R156). -/
def payloadOf (ws : List (BitVec 64)) : BitVec 4096 :=
  BitVec.ofNat 4096 ((ws.take 64).foldr (fun w a => w.toNat + 2 ^ 64 * a) 0)
/-- The payload of a FILL: PATTERN over and over (07 R156). -/
def fillPayload (pat : Nat) : BitVec 4096 :=
  BitVec.ofNat 4096 ((List.range 128).foldl (fun a _ => a * 2 ^ 32 + pat) 0)
/-- The 32-bit halves of words, low half first. -/
def halves (ws : List (BitVec 64)) : List Nat := ws.flatMap fun w => [w.toNat % 2 ^ 32, w.toNat / 2 ^ 32]

/-- What the records of the segments read so far have given: the dictionary, and payloads with the frames they
name. -/
structure RecState where
  dict : SMap (Option Stamp)
  recs : List FrameRec
  deriving DecidableEq, Repr

/-- One record at the front of `ws`, word `pos` of segment `seg` (07 R156): the new state and how many words it takes; `bad` is the
RECORD code. -/
def State.record (s : State) (h : ImgHdr) (seg pos : Nat) (x : RecState) (ws : List (BitVec 64)) (bad : Reject) :
    Except Reject (RecState × Nat) :=
  match ws with
  | [] => .error bad
  | w :: rest =>
    let w0 := w.toNat % 2 ^ 32
    let w1 := w.toNat / 2 ^ 32
    let op := w0 % 256
    let hi := w0 / 2 ^ 16
    let add := fun (p : BitVec 4096) (held : Option (Nat × Nat)) (r : Except Reject (List Nat)) (n : Nat) =>
      match r with
      | .error e => (.error e : Except Reject (RecState × Nat))
      | .ok as => .ok ({ x with recs := x.recs ++ [⟨p, held, as⟩] }, n)
    if w0 / 256 % 256 ≠ 0 then .error bad
    else if op = 1 then
      if rest.length < 64 ∨ hi ≠ 0 ∨ 2 ^ 23 ≤ w1 then .error bad
      else add (payloadOf rest) (some (seg, pos + 1)) (s.nameAll h [w1]) 65
    else if op = 2 then
      if rest.length < 64 ∨ 1023 < hi ∨ w1 ≠ 0 then .error bad
      else .ok ({ x with dict := SMap.set (fun _ => none) x.dict hi (some ⟨payloadOf rest, seg, pos + 1⟩) }, 65)
    else if op = 3 then
      let n := w1 % 2 ^ 16
      let words := (n + 1) / 2
      let as := (halves (rest.take words)).take n
      if 1023 < hi ∨ 2 ^ 16 ≤ w1 ∨ rest.length < words ∨ ((halves (rest.take words)).drop n).any (· != 0) ∨
          as.any (fun a => decide (2 ^ 23 ≤ a)) then .error bad
      else
        match SMap.get (fun _ => none) x.dict hi with
        | none => .error bad
        | some p => add p.pay (some (p.seg, p.word)) (s.nameAll h as) (1 + words)
    else if op = 4 ∨ op = 5 then
      match rest with
      | [] => .error bad
      | w2 :: _ =>
        let cnt := w2.toNat % 2 ^ 32
        let pat := w2.toNat / 2 ^ 32
        if hi ≠ 0 ∨ 2 ^ 23 ≤ w1 ∨ (op = 5 ∧ pat ≠ 0) then .error bad
        else add (if op = 5 then 0 else fillPayload pat) none (s.nameRange h cnt w1) 2
    else .error bad

/-- The records of a segment: `left` still to come by REC_COUNT, `i` the index of the next, `pos` its word (07 R156, R160). -/
def State.records (s : State) (h : ImgHdr) (seg : Nat) :
    Nat → Nat → Nat → RecState → List (BitVec 64) → Except Reject RecState
  | 0, i, _, x, ws => if ws.isEmpty then .ok x else .error (0x21, i % 2 ^ 16 * 2 ^ 16 + seg)
  | left + 1, i, pos, x, ws =>
    match s.record h seg pos x ws (0x21, i % 2 ^ 16 * 2 ^ 16 + seg) with
    | .error e => .error e
    | .ok (x', n) => s.records h seg left (i + 1) (pos + n) x' (ws.drop n)

/-! ### Driver census and shell geometry (04 R67; 00 R5; 05 R106; 08 R164 steps 14, 15) -/

/-- The last payload an image's records give frame `a` (07 R159). -/
def lastNamed (recs : List FrameRec) (a : Nat) : Option (BitVec 4096) :=
  (recs.reverse.find? (fun e => e.targets.contains a)).map FrameRec.pay

/-- Frame `a` as the commit of the image would leave it; the address at fault where a resident frame is
uncorrectable. -/
def State.frameAfter (s : State) (h : ImgHdr) (recs : List FrameRec) (a : Nat) : Except Nat (BitVec 4096) :=
  match lastNamed recs a with
  | some p => .ok p
  | none =>
    if s.imgZero h (faTower a) (faMarsh a) then .ok 0
    else match frameDecode (s.b.bchT (faTower a)) (s.cfg.frame a) with
      | some o => .ok (BitVec.ofNat 4096 o.pay)
      | none => .error a

/-- The frames that hold MODE of a tap, with the payload bits of MODE[0] and MODE[1] (03 R53, R54; 04 R58). -/
def tapModeBits (c : Nat) (v : Bool) : Nat × Nat × Nat :=
  let j := (cx c + 32 * (cy c % 8)) * 16
  (112 * (cy c / 8) + (if v then 84 else 83), j + (if v then 7 else 13), j + (if v then 8 else 14))

/-- Does a tap drive in context `k` once the image is committed? -/
def State.tapDrives (s : State) (h : ImgHdr) (recs : List FrameRec) (k c : Nat) (v : Bool) : Except Nat Bool :=
  let x := tapModeBits c v
  match s.frameAfter h recs (frameAddr (cTower c) (cMarsh c) k x.1) with
  | .error a => .error a
  | .ok p => .ok (!p.getLsbD x.2.1 && p.getLsbD x.2.2)

/-- The drivers among taps: how many on each side of the shell boundary, or the frame that cannot be read. -/
def State.countDrivers (s : State) (h : ImgHdr) (recs : List FrameRec) (k : Nat) (v : Bool) :
    List Nat → Except Nat (Nat × Nat)
  | [] => .ok (0, 0)
  | c :: l =>
    match s.tapDrives h recs k c v with
    | .error a => .error a
    | .ok d =>
      match s.countDrivers h recs k v l with
      | .error a => .error a
      | .ok (i, o) =>
        let shell := if 3 ≤ h.kind then inRegion (h.region (cTower c)) (cMarsh c) else s.b.isShell (cTower c) (cMarsh c)
        .ok (if shell then (i + b2n d, o) else (i, o + b2n d))

/-- Every deep line of tower `t`: vertical or horizontal, its coordinate, track and line (04 R62, R63). -/
def allLines : List (Bool × Nat × Nat × Nat) :=
  ((List.range 96).flatMap fun r => (List.range 3).flatMap fun s => (List.range 22).map fun j => (false, 2 + 4 * r, s, j)) ++
  (List.range 256).flatMap fun q => (List.range 3).flatMap fun s => (List.range 8).map fun j => (true, 2 + 4 * q, s, j)

/-- The census of one line in one context: the frame that cannot be read, or whether the line breaks the rule. -/
def State.lineCensus (s : State) (h : ImgHdr) (recs : List FrameRec) (t k : Nat) (e : Bool × Nat × Nat × Nat) :
    Except Nat Bool :=
  let taps := lineTaps t e.1 e.2.1 e.2.2.1 e.2.2.2
  if taps.any (fun c => inRegion (h.region t) (cMarsh c)) then
    match s.countDrivers h recs k e.1 taps with
    | .error a => .error a
    | .ok (i, o) => .ok (decide (1 < i) || decide (1 < o) || (s.b.lineFenced taps && decide (0 < i + o)))
  else .ok false

/-- The whole census (04 R67): frames that cannot be read, and identifiers of lines that break the rule. -/
def State.census (s : State) (h : ImgHdr) (recs : List FrameRec) : List Nat × List Nat :=
  towers.foldl (fun acc t =>
    if regionValid (h.region t) then
      (maskCtxs h.ctxSet).foldl (fun acc k => allLines.foldl (fun acc e =>
        match s.lineCensus h recs t k e with
        | .error a => (acc.1 ++ [a], acc.2)
        | .ok true => (acc.1, acc.2 ++ [deepId t e.1 e.2.1 e.2.2.1 e.2.2.2])
        | .ok false => acc) acc) acc
    else acc) ([], [])

/-- The shell word a SHELL or GOLDEN image gives tower `t` (07 R149, 05 R102). -/
def ImgHdr.shellWord (h : ImgHdr) (t : Nat) : Nat := if regionValid (h.region t) then h.region t % 0x2000000 else 0

/-- May marsh `m` of tower `t` enter or leave the shell: its frames of C1 to C7 are all zero (05 R106)? -/
def State.tenantZero (s : State) (t m : Nat) : Bool :=
  !s.cfg.store.any (fun e => faTower e.1 == t && faMarsh e.1 == m && faCtx e.1 != 0 &&
    (match frameDecode (s.b.bchT t) e.2 with | some o => o.pay != 0 | none => true))

/-- Step 15: is the shell geometry accepted (00 R5, 05 R106)? -/
def State.shellOk (s : State) (h : ImgHdr) : Bool :=
  decide (h.kind ≤ 2) ||
  (if s.b.part.op then towers.all (fun t => h.shellWord t == s.b.part.opShell.getD t 0 % 0x2000000)
   else towers.all fun t =>
     let w := w32 (h.shellWord t)
     let moved := (List.range 384).filter (fun m => inShellRect w m != s.b.isShell t m)
     moved.isEmpty || (s.mode (s.leader t) == 0 && moved.all (s.tenantZero t)))

end Sys2Proof.Machine
end

