-- ==== Sys2Proof/Machine/Loader.lean ====
section
/-! DEFINITION. The loader: deliveries, verification, commits, golden images and the load window (08; 06 R126 to R129;
24 R490). -/
namespace Sys2Proof.Machine

/-- The loader's phases (08 R180). -/
def State.phase (s : State) : Nat := s.b.fld .ldr LDR.STATE_PHASE
/-- Source of the current image: 0 host, 1 primary golden, 2 alternate golden. -/
def State.loadSrc (s : State) : Nat := s.b.fld .ldr LDR.STATE_SRC
/-- Set a field of the LDR page. -/
def State.setLdr (s : State) (f : Fld) (v : Nat) : State := { s with b := s.b.setFld .ldr f v }
/-- An event of the LDR page. -/
def State.ldrEvent (s : State) (i : Nat) : State := { s with b := s.b.event .ldr i }
/-- Change the loader's own state. -/
def State.ld (s : State) (f : Loader → Loader) : State := { s with ldr := f s.ldr }

/-- A loader that handles no image. -/
def Loader.idle (l : Loader) : Loader :=
  { l with rcvd := 0, img := [], hdr := none, last := false, sigOk := false, key0 := 0, seg := 0, dict := [], recs := [], stream := none,
           plan := [], towers := [], wrote := [], ucQuar := [] }

/-- The controllers that hold the staging region (08 R162, 16 R320). -/
def State.stagingCtrls (s : State) : List Nat :=
  let base := s.b.fld .ldr LDR.STG_BASE_BASE
  (((List.range (s.b.fld .ldr LDR.STG_SIZE_SIZE)).flatMap fun i => (List.range 16).map fun k =>
    (gdMap (s.b.gmode 0) ((base + i) * mib64 + 256 * k)).1)).eraseDups

/-- How many of the image's bytes have come. -/
def State.rcvd (s : State) : Nat := s.ldr.rcvd

/-- Note the bytes received (08 R180). -/
def State.noteRcvd (s : State) : State :=
  (s.setLdr LDR.RCVD_LO (s.rcvd % 2 ^ 32)).setLdr LDR.RCVD_HI (s.rcvd / 2 ^ 32)

/-- A load from source `src` begins (08 R163, R177): the block is awake (R182). -/
def State.beginLoad (s : State) (src : Nat) : State :=
  (((({ s with b := s.b.rouse .ldr } : State).ld Loader.idle).setLdr LDR.STATE_PHASE 1).setLdr LDR.STATE_SRC src).noteRcvd

/-- The load has ended: PHASE IDLE, nothing staged. -/
def State.endLoad (s : State) : State := ((s.ld Loader.idle).setLdr LDR.STATE_PHASE 0).setLdr LDR.STATE_DLV_BUSY 0

/-- CTX_SET of the image being handled. -/
def State.imgCtxSet (s : State) : Nat :=
  match s.ldr.hdr with
  | some h => h.ctxSet
  | none => leAt s.ldr.img 0x13 1

/-- STATUS and, for a golden attempt, GOLDEN_STAT take a code (08 R177, R179). -/
def State.setStatus (s : State) (code info : Nat) : State :=
  let src := s.loadSrc
  let s := (((s.setLdr LDR.STATUS_CTX_SET s.imgCtxSet).setLdr LDR.STATUS_SOURCE src).setLdr LDR.STATUS_CODE code).setLdr
    LDR.FAIL_INFO info
  if src = 1 then s.setLdr LDR.GOLDEN_STAT_PRI_CODE code else if src = 2 then s.setLdr LDR.GOLDEN_STAT_ALT_CODE code else s

/-- Stage 7 begins (24 R488). -/
def State.stageRun (s : State) : State :=
  if 5 ≤ s.b.fld .pkg PKG.RST_STAT_STAGE then { s with b := s.b.setFld .pkg PKG.RST_STAT_STAGE 7 } else s

/-- The size a golden image may have (08 R177). -/
def goldenMax : Nat := 80 * 2 ^ 20
/-- Where the golden images lie in flash: primary, alternate (08 R177). -/
def goldenAt (src : Nat) : Nat := if src = 1 then 0x02000000 else 0x0A000000
/-- The golden sequence reads image `src` from flash (08 R177). -/
def State.readFlash (s : State) (src : Nat) : State :=
  let s := (s.beginLoad src).ld (fun l => { l with golden := true })
  { s with b := s.b.send (.flashRead (goldenAt src) goldenMax) }.setLdr LDR.STATE_DLV_BUSY 1

/-- The golden sequence begins with the primary image (08 R177). -/
def State.goldenStart (s : State) : State := s.readFlash 1

/-- The bare state (08 R178). -/
def State.goBare (s : State) : State :=
  let s := ((s.setLdr LDR.STATE_BARE 1).ldrEvent 12).ld (fun l => { l with golden := false })
  State.stageRun { s with b := s.b.anoleCroak 0x231 539 2 (s.b.word (pbase .ldr + 0x80)).toNat 0 0 }

/-- The window expires now (08 R175, R177). -/
def State.expireNow (s : State) : State :=
  let s := ((s.setLdr LDR.STATE_WSTATE 3).ldrEvent 10).ld (fun l => { l with armed := false, winDue := false })
  if s.phase = 0 then s.goldenStart else s

/-- What follows the end of a load: the alternate golden image, the bare state, or an expiry that waited (08 R175,
R177, R178). `go`: a golden sequence continues. Under a BLOCK reset that waits for a commit's end nothing follows before it
(R181). -/
def State.afterFail (s : State) (src : Nat) (go : Bool) : State :=
  if s.ldr.resetDue then s.ld (fun l => { l with golden := false })
  else if s.ldr.golden ∧ go then
    if src = 1 then s.readFlash 2 else s.goBare
  else
    let s := s.ld (fun l => { l with golden := false })
    if s.ldr.winDue then s.expireNow else s

/-- The image fails with `code` (08 R165, R167): status, LOAD_FAIL, a croak record; everything staged is discarded. -/
def State.loadFail (s : State) (code info : Nat) (go : Bool) : State :=
  let src := s.loadSrc
  let s := (s.setStatus code info).ldrEvent 9
  let s := { s with b := s.b.anoleCroak 0x230 539 1 (s.b.word (pbase .ldr + 0x6C)).toNat (info % 2 ^ 32) 0 }
  s.endLoad.afterFail src go

/-- A rejected image. -/
def State.reject (s : State) (e : Reject) : State := s.loadFail e.1 e.2 true

/-! ### Verification (08 R164) -/

/-- Does GDDR6 fail to hold a staging region (08 R179, 24 R490)? -/
def State.noStaging (s : State) : Bool :=
  s.b.fld .ldr LDR.STG_SIZE_SIZE == 0 || s.stagingCtrls.any (fun c => s.b.bit (gdPage c) GD.STAT_TRAIN_FAIL)
/-- A staging access wakes the controllers of the region from self-refresh (08 R182, 14 R297); a power failure holds them there (21
R438). -/
def State.stagingWake (s : State) : State :=
  if s.pwr.pwrFail then s
  else s.stagingCtrls.foldl (fun s c =>
    if s.b.bit (gdPage c) GD.STAT_SREF then
      let y := gdRetry (gdWake s.b c) s.gdr c
      { s with b := y.1, gdr := y.2 }
    else s) s
/-- Can every staging access be made now: memory initialised (24 R490), nothing held at the region's controllers? -/
def State.stagingReady (s : State) : Bool :=
  s.stagingCtrls.all (fun c =>
    s.b.bit (gdPage c) GD.STAT_INIT_DONE && !s.b.gdAway c && (SMap.get (fun _ => []) s.gdr.reseal c).isEmpty)

/-! ### Staging (08 R162; 07 R153) -/

/-- The loader's request for one line: initiator 1009, privileged. -/
def stageReq (line : Nat) (be : BitVec 64) (d : BitVec 512) : HopReq := engineReq 1009 true 0 (64 * line) 64 be true d false false
/-- Where byte `o` of the image is staged: a DPA (log entry 94). -/
def State.stageAt (s : State) (o : Nat) : Nat := s.b.fld .ldr LDR.STG_BASE_BASE * mib64 + o
/-- The lines that hold `n` bytes from DPA `a`. -/
def linesOf (a n : Nat) : List Nat := (List.range ((a % 64 + n + 63) / 64)).map (a / 64 + ·)

/-- Write one line of the `bytes` staged from DPA `a`. -/
def State.stageLine (a : Nat) (bytes : List Byte) (s : State) (line : Nat) : State :=
  let lo := 64 * line - a
  let off := a - 64 * line
  let part := (bytes.drop lo).take (64 - off)
  let be := BitVec.ofNat 64 ((2 ^ part.length - 1) <<< off)
  match s.rawAccess 0 (stageReq line be (BitVec.ofNat 512 (leAt part 0 64 <<< (8 * off)))) true with
  | some (s', _) => s'
  | none => s
/-- Stage bytes `o` and up of the image (08 R162). -/
def State.stageImg (s : State) (o : Nat) (bytes : List Byte) : State :=
  (linesOf (s.stageAt o) bytes.length).foldl (State.stageLine (s.stageAt o) bytes) s

/-- What reading staged lines has given: the state, the bytes of the lines, and whether one was poisoned. -/
structure Unstaged where
  s : State
  bytes : List Byte
  poison : Bool

/-- Read one staged line: a poisoned one is logged in LDR (08 R173, R180). The bytes of an access its target refuses are free. -/
def Unstaged.line (x : Unstaged) (line : Nat) : Unstaged :=
  match x.s.rawAccess 0 (stageReq line 0 0) false with
  | none => x
  | some (s, a) =>
    if !a.isData then
      ⟨{ s with b := s.b.bump }, x.bytes ++ beList 64 (Config.freeBits 512 s.b.free).toNat, x.poison⟩
    else
      let bad := a.poisonL || a.poisonH
      ⟨if bad then { s with b := s.b.logErr .ldr { kind := 1, uc := true, poison := true, addr := 64 * line } } else s,
       x.bytes ++ (beList 64 a.data.toNat).reverse, x.poison || bad⟩
/-- Of the bytes read, the `n` from byte `k`. -/
def Unstaged.cut (x : Unstaged) (k n : Nat) : Unstaged := { x with bytes := (x.bytes.drop k).take n }
/-- Read `n` staged bytes from byte `o` of the image. -/
def State.unstage (s : State) (o n : Nat) : Unstaged :=
  ((linesOf (s.stageAt o) n).foldl Unstaged.line ⟨s, [], false⟩).cut (s.stageAt o % 64) n

/-- Of the bytes held, those behind the segment table go to the staging region (08 R162). -/
def State.stageRest (s : State) (h : ImgHdr) : State :=
  let keep := segEntry h.segs
  if s.ldr.img.length ≤ keep then s
  else
    let rest := s.ldr.img.drop keep
    (s.stageImg (s.rcvd - rest.length) rest).ld fun l => { l with img := l.img.take keep }

/-- The last byte is here and every segment has been verified: the stream tag decides (08 R164 step 13, 07 R155). -/
def State.streamStep (s : State) : State :=
  match s.ldr.hdr with
  | none => s
  | some h =>
    if s.ldr.sigOk ∧ s.ldr.seg = h.segs ∧ s.rcvd = h.total ∧ s.ldr.stream = none then
      let x := s.unstage (h.total - 16) 16
      if x.bytes = h.streamTag x.s.ldr.img x.s.ldr.key0 ∧ ¬ x.poison then x.s.ld fun l => { l with stream := some true }
      else x.s.reject (0x24, 0)
    else s

/-- The checks of steps 1 to 6 that the bytes received allow, after a chunk. -/
def State.chunkChecks (s : State) (lastChunk : Bool) : State :=
  match s.ldr.hdr with
  | none => if lastChunk then s.reject (0x25, s.rcvd % 2 ^ 32) else s
  | some h =>
    if h.total < s.rcvd then s.reject (0x15, h.total % 2 ^ 32)
    else
      let table := segEntry h.segs
      let lay := if table ≤ s.rcvd then layoutCheck s.ldr.img h else .ok ()
      match lay with
      | .error e => s.reject e
      | .ok _ =>
        if s.rcvd < h.total then (if lastChunk then s.reject (0x25, s.rcvd % 2 ^ 32) else s)
        else ((s.setLdr LDR.STATE_PHASE 2).setLdr LDR.STATE_DLV_BUSY 0).streamStep

/-- The header, once 256 bytes are here (08 R164 steps 1 to 5); from then on segments are staged. -/
def State.headerStep (s : State) (lastChunk : Bool) : State :=
  match s.ldr.hdr with
  | some h => (s.stageRest h).chunkChecks lastChunk
  | none =>
    if s.rcvd < 256 then s.chunkChecks lastChunk
    else match headerCheck s.b s.ldr.img s.loadSrc with
      | .error e => s.reject e
      | .ok h => ((s.ld (fun l => { l with hdr := some h })).stageRest h).chunkChecks lastChunk

/-- Append a chunk's bytes; one that would carry the image beyond TOTAL_LEN fails it (08 R166). A flash read stops at
TOTAL_LEN, and at 80 MiB, where an image that is not whole is truncated (R177; log entry 95). -/
def State.appendChunk (s : State) (bytes : List Byte) (lastChunk : Bool) : State :=
  let total := s.ldr.hdr.map ImgHdr.total
  let bytes := if s.loadSrc = 0 then bytes else
    match total with
    | some n => bytes.take (Nat.min n goldenMax - s.rcvd)
    | none => if 256 ≤ s.rcvd + bytes.length then bytes.take (Nat.min (leAt (s.ldr.img ++ bytes) 0x20 8) goldenMax - s.rcvd) else bytes
  if (match total with | some n => decide (n < s.rcvd + bytes.length) | none => false) then
    s.reject (0x15, (total.getD 0) % 2 ^ 32)
  else
    let s := (s.ld (fun l => { l with img := l.img ++ bytes, rcvd := l.rcvd + bytes.length })).noteRcvd
    let s := s.setLdr LDR.STATE_DLV_BUSY (if s.loadSrc = 0 then 0 else 1)
    s.headerStep (lastChunk || (s.loadSrc != 0 && s.rcvd == goldenMax))

/-- A write of LDR.DLV_CMD.GO, with LAST where `last` (08 R163). -/
def State.dlvGo (s : State) (last : Bool) : State :=
  if s.b.bit .ldr LDR.STATE_DLV_BUSY ∨ 2 ≤ s.phase ∨ (s.phase = 1 ∧ s.loadSrc ≠ 0) then s.ldrEvent 13
  else
    let s := if s.phase = 0 then s.beginLoad 0 else s
    if s.noStaging then s.reject (0x32, 0)
    else
      let n := 8 * s.b.fld .ldr LDR.DLV_LEN_LEN
      let s := (s.ld (fun l => { l with last := last, len := n })).setLdr LDR.STATE_DLV_BUSY 1
      if n = 0 then s.appendChunk [] last
      else
        let a := BitVec.ofNat 64 (s.b.fld .ldr LDR.DLV_ADDR_LO_ADDR * 8 + s.b.fld .ldr LDR.DLV_ADDR_HI * 2 ^ 32)
        if s.pci.shut then s else { s with b := s.b.send (.dlvRead a n) }

/-- CHUNK_COMPLETE (08 R163, R164, R166): the bytes of the chunk being fetched, from the host or from flash. `err`: a
completion error, a poisoned completion, or a flash read that cannot complete, after `bytes`. Held while the staging
controllers are not ready (24 R490); the host's fetches stop with the host interface (18 R383). -/
def execChunkComplete (bytes : List Byte) (err : Bool) (s : State) : Host.Outcome State Fault Refusal :=
  if s.phase = 1 ∧ s.b.bit .ldr LDR.STATE_DLV_BUSY ∧ ¬ (s.loadSrc = 0 ∧ s.pci.shut) then
    if s.noStaging then .next (s.reject (0x32, 0))
    else
      let s := s.stagingWake
      if ¬ s.stagingReady then .next s
      else if err then .next (s.reject (0x26, (s.rcvd + bytes.length) % 2 ^ 32))
      else if s.loadSrc = 0 ∧ bytes.length ≠ s.ldr.len then .next s
      else .next (s.appendChunk bytes (s.loadSrc == 0 && s.ldr.last))
  else .next s

/-- Steps 7 to 11 (08 R164, R165): manifest, key, signatures, rollback, unwrap of key(0). -/
def State.authCheck (s : State) (h : ImgHdr) : Except Reject (BitVec 256) :=
  if ¬ manifestOk s.ldr.img h then .error (0x16, 0)
  else if ¬ s.b.keyOk h.keyId h.kind then .error (0x17, 0)
  else match s.b.imgSigFails s.ldr.img h.keyId with
    | some .ed25519 => .error (0x18, 0)
    | some .mldsa65 => .error (0x19, 0)
    | none =>
      if h.svn < s.b.fuse.cfgCtr then .error (0x1A, 0)
      else match keyUnwrap s.b.imageKey.toNat h.wrapped with
        | none => .error (0x1B, 0)
        | some k => .ok (BitVec.ofNat 256 (beNat k))

/-- SIGNATURE_CHECK_DONE (08 R164 steps 7 to 11): the two signatures of the manifest under the key KEY_ID names, and the RFC 3394
unwrap of key(0) under the image-key slot. -/
def execSignatureCheckDone (s : State) : Host.Outcome State Fault Refusal :=
  match s.ldr.hdr with
  | none => .next s
  | some h =>
    if (s.phase = 1 ∨ s.phase = 2) ∧ segEntry h.segs ≤ s.rcvd ∧ ¬ s.ldr.sigOk then
      match s.authCheck h with
      | .error e => .next (s.reject e)
      | .ok k => .next (s.ld (fun l => { l with sigOk := true, key0 := k })).streamStep
    else .next s

/-- The ciphertext of segment `i` as it is staged. -/
def State.segStaged (s : State) (i : Nat) : Unstaged := s.unstage (segOff s.ldr.img i) (segLen s.ldr.img i)

/-- SEGMENT_VERIFIED (08 R164 step 12; 07 R154, R160): the next segment is read from the staging region, its tag checked, and its
records taken. -/
def execSegmentVerified (s : State) : Host.Outcome State Fault Refusal :=
  match s.ldr.hdr with
  | none => .next s
  | some h =>
    let i := s.ldr.seg
    if (s.phase = 1 ∨ s.phase = 2) ∧ s.ldr.sigOk ∧ i < h.segs ∧ segOff s.ldr.img i + segLen s.ldr.img i ≤ s.rcvd then
      let s := s.stagingWake
      if ¬ s.stagingReady then .next s
      else
        let x := s.segStaged i
        if x.poison ∨ ¬ h.segTagOk s.ldr.img s.ldr.key0 i x.bytes then .next (x.s.reject (0x20, i))
        else
          match x.s.records h i (segRecs s.ldr.img i) 0 0 ⟨s.ldr.dict, s.ldr.recs⟩ (h.segPlain s.ldr.key0 i x.bytes) with
          | .error e => .next (x.s.reject e)
          | .ok y => .next (x.s.ld (fun l => { l with dict := y.dict, recs := y.recs, seg := i + 1 })).streamStep
    else .next s

/-! ### Commit (08 R170; 06 R128 to R130; 05 R97, R103) -/

/-- The frames of a record that no later record names, in tower `t` and context `k`, each once (07 R159, 08 R170). -/
def ownTargets (t k : Nat) (later : List Nat) : List Nat → List Nat
  | [] => []
  | a :: l =>
    if faTower a = t ∧ faCtx a = k ∧ ¬ later.contains a ∧ ¬ l.contains a then a :: ownTargets t k later l
    else ownTargets t k later l

/-- The writes of context `k` in tower `t`, in record order; `no` numbers the records. -/
def planCtx (t k : Nat) : Nat → List FrameRec → List LinkWrite
  | _, [] => []
  | no, e :: l =>
    match ownTargets t k (l.flatMap FrameRec.targets) e.targets with
    | [] => planCtx t k (no + 1) l
    | as => ⟨e.pay, e.held, as, false, no, true⟩ :: planCtx t k (no + 1) l

/-- A record's payload crosses the link at its first write only (07 R159); `seen` are the records that have crossed. -/
def crossOnce (seen : List Nat) : List LinkWrite → List LinkWrite
  | [] => []
  | w :: l => { w with crosses := !seen.contains w.no } :: crossOnce (w.no :: seen) l

/-- The writes of tower `t`: contexts in ascending order, then the zero fill (08 R170 step 3). -/
def planTower (h : ImgHdr) (recs : List FrameRec) (t : Nat) : List LinkWrite :=
  crossOnce [] ((maskCtxs h.ctxSet).flatMap fun k => planCtx t k 0 recs) ++
    (if h.kind = 2 then [] else [⟨0, none, [], true, recs.length, true⟩])

/-- The plan of a tower. -/
def Loader.planOf (l : Loader) (t : Nat) : List LinkWrite := SMap.get (fun _ => []) l.plan t
/-- Set it. -/
def Loader.setPlan (l : Loader) (t : Nat) (p : List LinkWrite) : Loader := { l with plan := SMap.set (fun _ => []) l.plan t p }

/-- The towers an image may write. -/
def ImgHdr.towers (h : ImgHdr) : List Nat := Machine.towers.filter (fun t => regionValid (h.region t))

/-- The shell takes its rectangle from the image in tower `t` (05 R102, R103); marshes that leave it take the tenant's all-zero
image into their front planes (05 R80, R106), and those that enter it are staged and held outside the tenant area no more. -/
def State.declareIn (s : State) (h : ImgHdr) (t : Nat) : State :=
  let w := w32 (h.shellWord t)
  let left := fun m => s.b.isShell t m && !inShellRect w m
  let lock := s.cm t CHM.SHELL_LOCK
  let b := s.b.setWord (pbase (chmPage t) + 0x58) (w ||| w32 (lock * 2 ^ 25 + 2 ^ 26))
  let b := { b with heldCtx := SMap.keep (fun k => !(k / 384 == t && inShellRect w (k % 384))) b.heldCtx }
  { s with cfg := { s.cfg with front := clearPlane s.cfg.front t left }, b := b }.setCh t fun x =>
    { x with staged := x.staged.filter fun m => !inShellRect w m }

/-- The shell is declared in every tower; nothing leads a tenant area to C0 any more, and one that is there swaps to C1 (05 R103,
R104). -/
def State.declareShell (s : State) (h : ImgHdr) : State :=
  let s := towers.foldl (fun s t => s.declareIn h t) s
  let s := towers.foldl State.barC0 s
  towers.foldl (fun s t => s.shellSwap t) { s with b := s.b.measure 4 }

/-- The contexts of a set end their commit in tower `t`, those of `but` apart. -/
def State.endCtxs (s : State) (t set but : Nat) : State :=
  ((maskCtxs set).filter (fun c => !nbit but c)).foldl (fun s c => s.commitEnd t c) s

/-- Tower `t` has finished its part of the commit. -/
def State.towerDone (s : State) (t : Nat) : State :=
  { s with b := s.b.setBit (cfgPage t) CFG.STAT_WRITING false }.ld (fun l => { l with towers := l.towers.filter (· != t) })

/-- Was a frame of context `c` of marsh `m` of tower `t` written by the commit? -/
def State.wasWritten (s : State) (h : ImgHdr) (t m c : Nat) : Bool :=
  nbit h.ctxSet c &&
    (s.imgZero h t m ||
      s.ldr.recs.any (fun e => e.targets.any (fun a => faTower a == t && faMarsh a == m && faCtx a == c)))

/-- After the last frame of a tower, `ms` the marshes to refresh: the commit refresh begins where a committed context is live, and the other
contexts end their commit (06 R129, 08 R170 step 5). -/
def State.towerRefresh (s : State) (h : ImgHdr) (t : Nat) (ms : List Nat) : State :=
  if ms = [] then (s.endCtxs t h.ctxSet 0).towerDone t
  else (s.refreshBegin t ms).endCtxs t h.ctxSet (s.liveMask t ms)
/-- The last frame of a tower is written. -/
def State.towerWritten (s : State) (h : ImgHdr) (t : Nat) : State :=
  let s := { s with b := s.b.setBit (cfgPage t) CFG.STAT_WRITING false }
  s.towerRefresh h t (s.refreshMarshes t (s.wasWritten h t))

/-- The commit begins (08 R170 steps 1 and 2). -/
def State.commitStart (s : State) (h : ImgHdr) : State :=
  let s := (s.setLdr LDR.CONTENT_CTX (s.b.fld .ldr LDR.CONTENT_CTX &&& (255 - h.ctxSet % 256))).setLdr LDR.STATE_PHASE 3
  let s := s.weFallAll h.ctxSet
  let s := h.towers.foldl (fun s t => (maskCtxs h.ctxSet).foldl (fun s c => s.commitBegin t c) s) s
  let s := if 3 ≤ h.kind then s.declareShell h else s
  let s := s.ld (fun l => { h.towers.foldl (fun l t => l.setPlan t (planTower h l.recs t)) l with
    towers := h.towers, wrote := [], ucQuar := [], beganAt := s.b.aonUs })
  (h.towers.foldl (fun s t =>
    if (s.ldr.planOf t).isEmpty then s.towerWritten h t
    else { s with b := s.b.setBit (cfgPage t) CFG.STAT_WRITING true }) s).settle

/-- The driver census and the shell geometry (08 R164 steps 14 and 15; 04 R67; R165). -/
def State.finalChecks (s : State) (h : ImgHdr) : Except (State × Reject) Unit :=
  match s.census h s.ldr.recs with
  | (a :: _, _) => .error (s.quarantine (faTower a) (faCtx a), (0x29, a))
  | ([], []) => if s.shellOk h then .ok () else .error (s, (0x2A, 0))
  | ([], l) =>
    let n := (Config.freeBits 32 s.b.free).toNat % l.length
    .error ({ s with b := s.b.bump }, (0x28, l.getD n 0))

/-- CENSUS_DONE (08 R164 steps 14, 15; R170): the census and the geometry check end; a passing image begins its
commit, unless a re-encode runs, for whose end it waits (06 R125; log entry 96). -/
def execCensusDone (s : State) : Host.Outcome State Fault Refusal :=
  match s.ldr.hdr with
  | none => .next s
  | some h =>
    if s.phase = 2 ∧ s.ldr.sigOk ∧ s.ldr.seg = h.segs ∧ s.ldr.stream = some true then
      match s.finalChecks h with
      | .error e => .next (e.1.reject e.2)
      | .ok _ => .next (if towers.any s.reencoding then s else s.commitStart h)
    else .next s

/-- A BLOCK reset of LDR (08 R181): the registers but the sticky ones and WSTATE; the window's timing is kept. -/
def State.ldrReset (s : State) : State :=
  let w := s.b.fld .ldr LDR.STATE_WSTATE
  let b := s.b.blockRegs .ldr (fun _ => false)
  { s with b := b.setFld .ldr LDR.STATE_WSTATE w }.ld (fun l => { l with resetDue := false, goldenNext := false, golden := false })

/-- What waited for the end of a commit: a BLOCK reset, a window that expired meanwhile, a golden load (08 R174, R175, R181). -/
def State.afterCommit (s : State) : State :=
  if s.ldr.resetDue then
    let s := s.ldrReset
    if s.ldr.winDue then s.expireNow else s
  else
    let next := s.ldr.goldenNext
    let s := s.ld (fun l => { l with goldenNext := false })
    if next ∧ s.phase = 0 then s.goldenStart else s

/-- The contexts, as a mask, of which the commit has written a frame in tower `t`. -/
def Loader.wroteIn (l : Loader) (t : Nat) : Nat := SMap.get (fun _ => 0) l.wrote t
/-- Note contexts written in tower `t`. -/
def Loader.note (l : Loader) (t m : Nat) : Loader := { l with wrote := SMap.set (fun _ => 0) l.wrote t (l.wroteIn t ||| m) }

/-- A commit ends early (08 R173; 06 R128): the contexts written are quarantined in every tower written; their write enables stay
low. -/
def State.commitFail (s : State) (code : Nat) : State :=
  match s.ldr.hdr with
  | none => s
  | some h =>
    let m := towers.foldl (fun a t => a ||| s.ldr.wroteIn t) 0
    let s := h.towers.foldl (fun s t =>
      let s := if s.ldr.wroteIn t = 0 then s else (maskCtxs m).foldl (fun s c => s.quarantine t c) s
      let s := { s with b := s.b.setBit (cfgPage t) CFG.STAT_WRITING false }
      (s.refreshEnd t).endCtxs t h.ctxSet 0) s
    (s.loadFail code 0 true).afterCommit

/-- Does the zero fill of tower `t` write frame `a` (07 R148, 08 R170)? -/
def State.zeroFills (s : State) (h : ImgHdr) (t a : Nat) : Bool :=
  faTower a == t && nbit h.ctxSet (faCtx a) && s.imgZero h t (faMarsh a) && (lastNamed s.ldr.recs a).isNone
/-- The all-zero payload to every unnamed frame of the region. -/
def State.zeroFill (s : State) (h : ImgHdr) (t : Nat) : State :=
  { s with cfg := { s.cfg with store := SMap.keep (fun a => !s.zeroFills h t a) s.cfg.store } }
/-- The first frame that the zero fill writes, contexts and marshes in ascending order (log entry 97). -/
def State.zeroFirst (s : State) (h : ImgHdr) (t : Nat) : Nat :=
  let l := (maskCtxs h.ctxSet).flatMap fun c => (List.range 384).flatMap fun m => (List.range 448).map fun f => frameAddr t m c f
  (l.find? (s.zeroFills h t)).getD (frameAddr t 0 ((maskCtxs h.ctxSet).headD 0) 0)

/-- The targets of one write of tower `t` receive its payload. -/
def State.writeTargets (s : State) (h : ImgHdr) (t : Nat) (w : LinkWrite) : State :=
  if w.zeros then (s.zeroFill h t).ld fun l => l.note t h.ctxSet
  else { s with cfg := s.cfg.multicast (s.b.bchT t) w.pay w.targets }.ld fun l =>
    l.note t (w.targets.foldl (fun a x => nset a (faCtx x)) 0)

/-- The writes at the front that no longer cross the link follow at once (07 R159). -/
def State.writeKept (s : State) (h : ImgHdr) (t : Nat) : List LinkWrite → State × List LinkWrite
  | [] => (s, [])
  | w :: rest => if w.crosses then (s, w :: rest) else (s.writeTargets h t w).writeKept h t rest

/-- One payload `p` of tower `t` crosses the link and is written; after the last one the refresh follows. -/
def State.writeLink (s : State) (h : ImgHdr) (t : Nat) (w : LinkWrite) (p : BitVec 4096) (rest : List LinkWrite) : State :=
  let s := s.writeTargets h t { w with pay := p }
  let x := s.writeKept h t (rest.map fun e => if e.no = w.no ∧ ¬ e.crosses then { e with pay := p } else e)
  let s := x.1.ld (fun l => l.setPlan t x.2)
  if x.2.isEmpty then s.towerWritten h t else s

/-- Segment `i` is decrypted again from the staging region (08 R170 step 4, R173): its plaintext, or the code of the commit's
failure. -/
def State.segAgain (s : State) (h : ImgHdr) (i : Nat) : State × Except Nat (List (BitVec 64)) :=
  let x := s.segStaged i
  (x.s, if x.poison then .error 0x40
    else if h.segTagOk s.ldr.img s.ldr.key0 i x.bytes then .ok (h.segPlain s.ldr.key0 i x.bytes) else .error 0x41)

/-- The payload of a write, from the staged segment that holds it. -/
def State.payAgain (s : State) (h : ImgHdr) (w : LinkWrite) : State × Except Nat (BitVec 4096) :=
  match w.held with
  | none => (s, .ok w.pay)
  | some (i, word) =>
    let x := s.segAgain h i
    (x.1, x.2.map fun ws => payloadOf (ws.drop word))

/-- FRAME_WRITE (06 R126, R128; 08 R170, R173): the next payload of the commit is decrypted again and crosses tower `t`'s link;
`poison`: it reaches the controller poisoned. -/
def execFrameWrite (t : Tower) (poison : Bool) (s : State) : Host.Outcome State Fault Refusal :=
  match s.ldr.hdr, s.ldr.planOf t with
  | some h, w :: rest =>
    if s.phase = 3 ∧ ¬ s.reencoding t ∧ ¬ wantsShell (s.ch t).want then
      let s := s.stagingWake
      if ¬ s.stagingReady then .next s
      else
        let x := s.payAgain h w
        match x.2 with
        | .error code => .next (x.1.commitFail code)
        | .ok p =>
          if poison then
            let a := if w.zeros then x.1.zeroFirst h t else w.targets.headD 0
            let b := x.1.b.logErr (cfgPage t) { kind := 2, uc := true, poison := true, addr := a, ctx := some (faCtx a) }
            .next ({ x.1 with b := b.event (cfgPage t) 8 }.commitFail 0x40)
          else .next (x.1.writeLink h t w p rest)
    else .next s
  | _, _ => .next s

/-- COMMIT_REFRESH_EXCHANGE (06 R129): the refresh of tower `t` is complete and the planes exchange at the next
switch-clock edge. -/
def execCommitRefreshExchange (t : Tower) (s : State) : Host.Outcome State Fault Refusal :=
  if (s.cfg.refreshing t).isEmpty then .next s
  else
    let m := s.cfg.refreshMask t
    let r := s.refreshDone t
    let s := r.1.ld (fun l => { l with
      ucQuar := SMap.set (fun _ => 0) l.ucQuar t (SMap.get (fun _ => 0) l.ucQuar t ||| r.2) })
    .next ((s.endCtxs t m 0).towerDone t)

/-- Does a commit of a host image satisfy the window (08 R175, R176)? -/
def State.satisfies (s : State) (h : ImgHdr) : Bool :=
  s.loadSrc == 0 && (s.b.fld .ldr LDR.STATE_WSTATE == 1 || s.ldr.winDue) && (!s.b.part.op || h.kind == 3)

/-- What each committed context's registers take (08 R170 step 6, R180; 07 R147). -/
def State.noteCommitted (s : State) (h : ImgHdr) : State :=
  let b := towers.foldl (fun b t =>
    let v := b.fld (cfgPage t) CFG.RB_PERMIT_CTX
    b.setFld (cfgPage t) CFG.RB_PERMIT_CTX (if h.rbPermit then v ||| h.ctxSet else v &&& (255 - h.ctxSet % 256))) s.b
  let b := (maskCtxs h.ctxSet).foldl (fun b c =>
    ((b.measure (5 + c)).setFld .ldr (LDR.CTX_BUILD_LO.nth c) (h.build % 2 ^ 32)).setFld .ldr (LDR.CTX_BUILD_HI.nth c) (h.build / 2 ^ 32)) b
  let b := (b.setFld .ldr LDR.CONTENT_CTX (b.fld .ldr LDR.CONTENT_CTX ||| h.ctxSet)).setFld .ldr LDR.SVN h.svn
  let b := (b.setFld .ldr LDR.COMMIT_US (s.b.aonUs - s.ldr.beganAt)).setFld .ldr LDR.STATE_BARE 0
  { s with b := b }

/-- The towers a commit has written a frame in. -/
def State.written (s : State) : List Nat := towers.filter (fun t => s.ldr.wroteIn t != 0)

/-- The quarantines that a completed commit clears, in the towers written (08 R170 step 6). -/
def State.clearQuar (s : State) (h : ImgHdr) : State :=
  s.written.foldl (fun s t =>
    ((maskCtxs h.ctxSet).filter (fun c => !nbit (SMap.get (fun _ => 0) s.ldr.ucQuar t) c)).foldl
      (fun s c => s.unquarantine t c) s) s

/-- The contexts released after WARM (24 R495): committed ones, quarantined nowhere; on an -OP part none until CONTENT[0]. -/
def Base.warmMask (b : Base) : Nat :=
  let content := b.fld .ldr LDR.CONTENT_CTX
  let quar := towers.foldl (fun a t => a ||| b.fld (chmPage t) CHM.BUSY_QUAR) 0
  if b.part.op && !nbit content 0 then 0 else (List.range 8).foldl (fun m c => if nbit content c && !nbit quar c then nset m c else m) 0

/-- The contexts released with a commit: its own; with them, on an -OP part after WARM, the tenants that waited for the
shell (24 R495), once stage 5 has begun and every controller has retrained. The answer's second part says whether they are. -/
def State.commitMask (s : State) (own : Nat) : Nat × Bool :=
  if s.boot.relDue && s.b.part.op && nbit (s.b.fld .ldr LDR.CONTENT_CTX) 0 && (List.range 16).all (fun c => !s.b.gdTraining c)
  then (own ||| s.b.warmMask, true) else (own, false)

/-- The end of a successful commit (08 R170 step 6). -/
def State.committed (s : State) (h : ImgHdr) : State :=
  let src := s.loadSrc
  let auto := s.written.all (fun t => s.b.bit (cfgPage t) CFG.START_AUTO)
  let sat := s.satisfies h
  let due := s.ldr.winDue
  let s := ((((s.clearQuar h).noteCommitted h).setStatus 1 0).ldrEvent 8).stageRun
  let s := if sat then (s.setLdr LDR.STATE_WSTATE 2).ld (fun l => { l with winDue := false, armed := false }) else s
  let s := if src = 0 then s else (s.ldrEvent 11).ld (fun l => { l with golden := false })
  let s := s.endLoad
  let m := s.commitMask h.ctxSet
  let s := if auto then
      ({ s with boot := { s.boot with relDue := s.boot.relDue && !m.2 } }.release m.1).settle else s
  (if due ∧ ¬ sat ∧ ¬ s.ldr.resetDue then s.expireNow else s).afterCommit

/-- Every segment is decrypted again and its tag recomputed (08 R170 step 4): the code of the first that fails. -/
def State.allAgain (s : State) (h : ImgHdr) : State × Option Nat :=
  (List.range h.segs).foldl (fun x i =>
    match x.2 with
    | some e => (x.1, some e)
    | none =>
      let y := x.1.segAgain h i
      (y.1, match y.2 with | .error e => some e | .ok _ => none)) (s, none)

/-- COMMIT_COMPLETE (08 R170 steps 4 and 6): every tower has finished and every segment's tag has been recomputed. -/
def execCommitComplete (s : State) : Host.Outcome State Fault Refusal :=
  match s.ldr.hdr with
  | none => .next s
  | some h =>
    if s.phase = 3 ∧ s.ldr.towers = [] ∧ towers.all (fun t => !wantsShell (s.ch t).want) then
      let s := s.stagingWake
      if ¬ s.stagingReady then .next s
      else
        let x := s.allAgain h
        match x.2 with
        | some e => .next (x.1.commitFail e)
        | none => .next (x.1.committed h)
    else .next s

/-! ### Timeouts, commands, the window (08 R166, R174 to R177) -/

/-- DLV_TIMEOUT (08 R166): no chunk has been pending for DLV_TIMEOUT_MS milliseconds. -/
def execDlvTimeout (s : State) : Host.Outcome State Fault Refusal :=
  if s.phase = 1 ∧ s.loadSrc = 0 ∧ ¬ s.b.bit .ldr LDR.STATE_DLV_BUSY ∧ s.b.fld .ldr LDR.DLV_TIMEOUT_MS_MS ≠ 0
  then .next (s.reject (0x25, s.rcvd % 2 ^ 32)) else .next s

/-- The PCIe link goes down under a delivery (08 R166). -/
def State.ldrLinkDown (s : State) : State :=
  if s.phase = 1 ∧ s.loadSrc = 0 then s.reject (0x25, s.rcvd % 2 ^ 32) else s

/-- A write of LDR.CMD.ABORT (08 R174). -/
def State.ldrAbort (s : State) : State :=
  if s.phase = 0 then s else if s.phase = 3 then s.ldrEvent 14 else s.loadFail 0x30 0 false

/-- A write of LDR.CMD.GOLDEN (08 R174, R177). -/
def State.ldrGolden (s : State) : State :=
  if s.phase = 3 then s.ld (fun l => { l with goldenNext := true })
  else
    let s := if s.phase = 0 then s else s.loadFail 0x30 0 false
    if s.phase = 0 then s.goldenStart else s

/-- The link becomes active: the window opens, or expires at once where MS = 0 (08 R175). -/
def State.windowOpen (s : State) : State :=
  if s.ldr.armed ∧ s.b.fld .ldr LDR.STATE_WSTATE = 0 then
    let s := (s.setLdr LDR.STATE_WSTATE 1).ld (fun l => { l with openAt := s.b.aonUs })
    if s.b.fld .ldr LDR.LOAD_WINDOW_MS_MS = 0 then s.expireNow else s
  else s

/-- The window's time is over: a host load runs to its end first (08 R175). -/
def State.windowEnd (s : State) : State :=
  let w := s.b.fld .ldr LDR.STATE_WSTATE
  if w = 1 ∨ (w = 0 ∧ s.ldr.armed) then
    if s.phase ≠ 0 ∧ s.loadSrc = 0 then s.ld (fun l => { l with winDue := true }) else s.expireNow
  else s

/-- LOAD_WINDOW_EXPIRY (08 R175). -/
def execLoadWindowExpiry (s : State) : Host.Outcome State Fault Refusal := .next s.windowEnd

end Sys2Proof.Machine
end

