-- ==== Sys2Proof/Machine/Pcie.lean ====
section
/-! DEFINITION. The PCIe controller (18): functions, BAR sizes and windows, links, configuration requests, removal. -/
namespace Sys2Proof.Machine

/-! ### Functions (18 R369, R370) -/

/-- The PF a function belongs to. -/
def fnPf (f : Nat) : Nat := if f < 10 then f else (f - 10) / 32 + 1
/-- Is a function a VF? -/
def isVf (f : Nat) : Bool := decide (10 ≤ f)
/-- The context a function's requests carry: PF(c + 1) and its VFs serve c. -/
def fnCtx (f : Nat) : Nat := (fnPf f - 1) % 8
/-- The initiator ID of a function (14 R281). -/
def fnSrc (f : Nat) : Nat := if f < 10 then 776 + f else 512 + (f - 10)
/-- Function `v` (1 to 32) of PF(c + 1). -/
def vfNo (c v : Nat) : Nat := 10 + 32 * c + v - 1
/-- Every function. -/
def allFns : List Nat := List.range 266
/-- SR-IOV control of a PF: bit 0 VF Enable, bit 1 VF Memory Space Enable. -/
def Pcie.sriovOf (p : Pcie) (pf : Nat) : Nat := SMap.get (fun _ => 0) p.sriov pf
/-- Is the port bifurcated (18 R367)? -/
def Base.bif (b : Base) : Bool := b.bit .pci PCI.LINK_STAT_BIF
/-- Does a function exist: PF0B only when bifurcated, a VF up to NumVFs while its PF's VF Enable is set? -/
def State.fnPresent (s : State) (f : Nat) : Bool :=
  if f = 9 then s.b.bif else if isVf f then nbit (s.pci.sriovOf (fnPf f)) 0 && decide ((f - 10) % 32 < s.pci.sriovOf (fnPf f) / 4) else true
/-- Device ID (18 R369). -/
def fnDevice (f : Nat) : Nat := if f = 0 then 0x5480 else if f = 9 then 0x5483 else if f < 9 then 0x5481 else 0x5482
/-- MSI-X vectors (18 R369). -/
def fnVectors (f : Nat) : Nat := if f = 0 then 2048 else if f = 9 then 1 else if f < 9 then 256 else 0

/-! ### BARs (18 R369, R371, R372) -/

/-- The size a SIZE field gives: 2^SIZE for 26 to 36, absent for every other value. -/
def winSize (n : Nat) : Nat := if 26 ≤ n ∧ n ≤ 36 then 2 ^ n else 0
/-- The queues a QN or VF_QN field gives; it takes 0 to 14, and another value acts as 0. -/
def winQueues (n : Nat) : Nat := if n ≤ 14 then 2 ^ n else 1
/-- The address of register `o` of the tenant block of context `c` (18 R384). -/
def tenantReg (c o : Nat) : Nat := pbase .pci + 0x100 + 0x20 * c + o
/-- QN or VF_QN in effect. -/
def Base.qn (b : Base) (c : Nat) (vf : Bool) : Nat :=
  let w := b.latWord (tenantReg c 0x14)
  winQueues (if vf then wget w 12 8 else wget w 4 0)

/-- The size in bytes of BAR `bar` of a function; 0 for one it has not. -/
def Base.barSize (b : Base) (f bar : Nat) : Nat :=
  let c := fnCtx f
  if f = 0 then
    if bar = 0 then 2 ^ 27 else if bar = 2 then 2 ^ 26
    else if bar = 4 then winSize (wget (b.latWord (pbase .pci + 0x64)) 5 0) else 0
  else if f = 9 then if bar = 0 then 0x4000 else 0
  else if bar = 0 then winSize (wget (b.latWord (tenantReg c (if isVf f then 0xC else 4))) 5 0)
  else if bar = 2 then Nat.max 4096 (64 * b.qn c (isVf f))
  else if bar = 4 ∧ !isVf f then 0x2000 else 0

/-- Where an offset of a BAR leads (18 R371). -/
inductive BarTarget
  | ma (a : Nat)
  | dpa (a : Nat)
  | msix (o : Nat)
  | pf0b (o : Nat)
  | beyond
  deriving DecidableEq, Repr

/-- Translate offset `o` of BAR `bar` of function `f`. -/
def Base.barTarget (b : Base) (f bar o : Nat) : BarTarget :=
  let c := fnCtx f
  let v := (f - 10) % 32
  if f = 0 then
    if bar = 0 then .ma o
    else if bar = 2 then .dpa (0x30000000000 + o)
    else .dpa (b.fld .pci PCI.P0W_BASE_BASE * 2 ^ 26 + o)
  else if f = 9 then .pf0b o
  else if bar = 0 then
    let base := wget (b.word (tenantReg c (if isVf f then 8 else 0))) 21 0 * 2 ^ 26
    .dpa (if isVf f then base + v * 2 ^ wget (b.latWord (tenantReg c 0xC)) 5 0 + o else base + o)
  else if bar = 4 then .msix o
  else
    let first := wget (b.word (tenantReg c 0x10)) 15 0
    let q := if isVf f then first + b.qn c false + v * b.qn c true + o / 64 else first + o / 64
    if b.qn c (isVf f) ≤ o / 64 ∨ 65535 < q then .beyond else .dpa (doorbellDpa q + o % 64)

/-- Does a function claim a memory request at an offset of a BAR: ready, in D0, with Memory Space Enable, inside the
BAR (18 R371, R372, R378, R381)? -/
def State.fnClaims (s : State) (f bar o : Nat) : Bool :=
  let x := s.b.fn f
  s.fnPresent f && x.ready && !x.d3hot && !x.flr &&
    (if isVf f then nbit (s.pci.sriovOf (fnPf f)) 1 else x.mse) && decide (o < s.b.barSize f bar)

/-- Report an error in AER: a VF's stands in its PF's, with the VF in the header log (18 R376). -/
def State.aerNote (s : State) (f code : Nat) : State :=
  { s with pci := { s.pci with aer := s.pci.aer ++ [⟨fnPf f, code, f⟩] } }

/-! ### Resets of functions and ports (18 R372, R381) -/

/-- A function's configuration space, MSI-X state included, takes its reset values. -/
def Base.fnReset (b : Base) (f : Nat) : Base :=
  let b := b.setFn f (fun x => { FnState.init with ready := x.ready, flr := x.flr })
  { b with msixTab := SMap.keep (fun k => !(k / 8192 == f)) b.msixTab,
           msixPend := SMap.keep (fun k => !(k / 2048 == f)) b.msixPend }

/-- A PF's reset in configuration space takes its VFs away. -/
def State.pfReset (s : State) (f : Nat) : State :=
  let vfs := if 1 ≤ f ∧ f ≤ 8 then (List.range 32).map (fun v => vfNo (f - 1) (v + 1)) else []
  { s with b := (f :: vfs).foldl Base.fnReset s.b,
           pci := { s.pci with sriov := SMap.set (fun _ => 0) s.pci.sriov f 0 } }

/-- SIZE, QN and PORT_SEL of the functions that satisfy `p` take effect (18 R372). -/
def Base.latch (b : Base) (p : Nat → Bool) : Base :=
  let put (b : Base) (a : Nat) (w : Word) : Base := { b with lat := SMap.set (fun _ => 0) b.lat a w }
  let sel := pbase .pci + 0x50
  let old := b.latWord sel
  let new := b.word sel
  let b := if p 0 then put b (pbase .pci + 0x64) (b.word (pbase .pci + 0x64)) else b
  let b := (List.range 8).foldl (fun b c => if p (c + 1) then
      [4, 0xC, 0x14].foldl (fun b o => put b (tenantReg c o) (b.word (tenantReg c o))) b else b) b
  put b sel ((List.range 8).foldl (fun w c => if p (c + 1) then wput w (c + 1) (c + 1) (wget new (c + 1) (c + 1)) else w) old)

/-- The PFs of a port. -/
def Base.portPfs (b : Base) (portB : Bool) : List Nat :=
  (List.range 10).filter (fun f => b.onPortB f == portB && (f != 9 || b.bif))

/-- A port's link leaves the active state. -/
def portDown (b : Base) (portB : Bool) : Base :=
  let up := b.bit .pci (if portB then PCI.LINK_STAT_UP_B else PCI.LINK_STAT_UP_A)
  let b := if portB then ((b.setFld .pci PCI.LINK_STAT_UP_B 0).setFld .pci PCI.LINK_STAT_SPEED_B 0).setFld .pci PCI.LINK_STAT_WIDTH_B 0
    else ((b.setFld .pci PCI.LINK_STAT_UP_A 0).setFld .pci PCI.LINK_STAT_SPEED_A 0).setFld .pci PCI.WIDTH_A_WIDTH 0
  let b := b.eventIf up .pci (if portB then 11 else 9)
  if up && portB then b.msixSend 9 0 else b

/-- The requests of the functions that satisfy `p` are finished inside the device, and their completions discarded (18 R381, R382). -/
def Pcie.abandon (x : Pcie) (p : Nat → Bool) : Pcie := { x with held := x.held.map fun y => if p y.fn then { y with gone := true } else y }

/-- LINK_RESET (18 R381 to R383): the port's functions reset in configuration space, their sizes take effect, their
requests are abandoned; on port A a delivery in progress ends TRUNCATED and QUIESCED clears. -/
def linkReset (s : State) (portB : Bool) : State :=
  let pfs := s.b.portPfs portB
  let s := { s with b := portDown s.b portB }
  let s := pfs.foldl State.pfReset s
  let s := { s with b := s.b.latch (fun f => pfs.contains f),
                    pci := { s.pci with ide := SMap.keep (fun k => !(k / 16 == b2n portB)) s.pci.ide }.abandon fun f => pfs.contains (fnPf f) }
  if portB then s
  else ({ s with b := s.b.setBit .pci PCI.RMV_STAT_QUIESCED false, pci := { s.pci with shut := false } } : State).ldrLinkDown

/-- LINK_RESET: hot reset, DL_Down, surprise removal, or PE_PERST1_N, which also holds port B until its release. -/
def execLinkReset (portB perst : Bool) (s : State) : Host.Outcome State Fault Refusal :=
  if portB && !s.b.bif then .next s
  else
    let pfs := s.b.portPfs portB
    let s := linkReset s portB
    if portB && perst then
      .next { s with b := pfs.foldl (fun b f => b.setFn f (fun x => { x with ready := false })) s.b,
                     boot := { s.boot with perstB := false } }
    else .next s

/-- May a port train: stage 5 reached, its PERST# released, no pin control, no thermal shutdown (24 R488, R492; 25 R511)? -/
def State.portFree (s : State) (portB : Bool) : Bool :=
  decide (5 ≤ s.b.fld .pkg PKG.RST_STAT_STAGE) && (if portB then s.boot.perstB && s.b.bif else s.boot.perstA) &&
    !s.b.tapOwns && !s.b.gated && !s.boot.warm

/-- The widths a port can train to (18 R366, R367). -/
def Base.widthOk (b : Base) (n : Nat) : Bool := n == 1 || n == 4 || n == 8 || (n == 16 && !b.bif)

/-- LINK_UP (18 R366, R368, R377): a port reaches the active state at a rate MAX_SPEED, which is 1 to 6, allows; held messages go out, and
port A's first link opens the load window (08 R175). -/
def execLinkUp (portB : Bool) (speed : Fin 8) (width : Fin 17) (s : State) : Host.Outcome State Fault Refusal :=
  let up := s.b.bit .pci (if portB then PCI.LINK_STAT_UP_B else PCI.LINK_STAT_UP_A)
  let top := listedOr .maxSpeed [1, 2, 3, 4, 5, 6] (s.b.fld .pci PCI.LINK_CTRL_MAX_SPEED)
  if !s.portFree portB || up then .next s
  else if speed == 0 || decide (top < speed) || !s.b.widthOk width then .next s
  else
    let b := if portB then ((s.b.setFld .pci PCI.LINK_STAT_UP_B 1).setFld .pci PCI.LINK_STAT_SPEED_B speed).setFld .pci PCI.LINK_STAT_WIDTH_B width
      else ((s.b.setFld .pci PCI.LINK_STAT_UP_A 1).setFld .pci PCI.LINK_STAT_SPEED_A speed).setFld .pci PCI.WIDTH_A_WIDTH width
    let b := (b.wakePage .pci).event .pci (if portB then 10 else 8)
    let b := (if portB then b.msixSend 9 0 else b).msixFlush
    let s := { s with b := b }
    .next (if portB then s else s.windowOpen)

/-! ### Configuration requests (18 R369, R370, R378) -/

/-- What a configuration read returns. -/
def State.cfgValue (s : State) (f : Nat) : CfgReq → Nat
  | .ids => fnDevice f * 2 ^ 16 + s.b.part.vendor
  | .classRev => 0x120000B1
  | .barSize n => s.b.barSize f n
  | .sriovCap => if 1 ≤ f ∧ f ≤ 8 then 32 + 1 * 2 ^ 16 + (255 + 31 * (f - 1)) * 2 ^ 32 else 0
  | .msixVectors => fnVectors f
  | .readiness => 20 + 0 * 2 ^ 16 + 10 * 2 ^ 32
  | _ => 0

/-- Is a configuration request a read? -/
def cfgIsRead : CfgReq → Bool
  | .command .. | .msixControl .. | .sriovControl .. => false
  | _ => true

/-- What a configuration write changes. -/
def State.cfgWrite (s : State) (f : Nat) : CfgReq → State
  | .command mse bme => { s with b := (s.b.setFn f (fun x => { x with mse := mse, bme := bme })).msixFlush }
  | .msixControl en fm => { s with b := (s.b.setFn f (fun x => { x with msixEn := en && fnVectors f != 0, fmask := fm })).msixFlush }
  | .sriovControl num en m =>
    if 1 ≤ f ∧ f ≤ 8 then
      let was := nbit (s.pci.sriovOf f) 0
      let vfs := (List.range 32).map (fun v => vfNo (f - 1) (v + 1))
      let b := if was && !en then vfs.foldl Base.fnReset s.b
        else if !was && en then vfs.foldl (fun b v => b.setFn v (fun x => { x with ready := true })) s.b else s.b
      let num := if was then s.pci.sriovOf f / 4 else num.val
      { s with b := b, pci := { s.pci with sriov := SMap.set (fun _ => 0) s.pci.sriov f (b2n en + 2 * b2n m + 4 * num) } }
    else s
  | _ => s

/-- CONFIG_REQUEST (18 R378): Request Retry Status until the function is ready, during its FLR, and for reads while the
clocks are gated; a function that does not exist is an Unsupported Request; a removal under way aborts (R383). -/
def execConfigRequest (f : FnNo) (q : CfgReq) (s : State) : Host.Outcome State Fault Refusal :=
  if !s.b.fnLinkUp f then .next s
  else if !s.fnPresent f then .next { s with b := s.b.send (.cfgCpl f 1 0) }
  else if s.pci.shut then .next ({ s with b := s.b.send (.cfgCpl f 4 0) } : State)
  else if !(s.b.fn f).ready || (s.b.fn f).flr || (s.b.gated && cfgIsRead q) then .next { s with b := s.b.send (.cfgCpl f 2 0) }
  else
    let s := s.cfgWrite f q
    .next { s with b := s.b.send (.cfgCpl f 0 (s.cfgValue f q)) }

/-- D3HOT (18 R381): the function's BARs claim nothing and its messages stay pending; the return to D0 resets nothing. -/
def execD3hot (f : FnNo) (enter : Bool) (s : State) : Host.Outcome State Fault Refusal :=
  if s.b.fnLinkUp f && s.fnPresent f && (s.b.fn f).ready then
    .next { s with b := (s.b.setFn f (fun x => { x with d3hot := enter })).msixFlush }
  else .next s

/-! ### Orderly removal (18 R383) -/

/-- Is no request of a PF or VF in progress (18 R372)? -/
def State.pcieIdle (s : State) : Bool :=
  s.pci.held.isEmpty && !(s.hop.tags.any fun e => let n := e.1 / 4096; (decide (512 ≤ n) && decide (n < 768)) || (decide (776 ≤ n) && decide (n < 786)))

/-- QUIESCED, once the requests outstanding have completed (18 R383 steps 3, 4). -/
def State.quiesceEnd (s : State) : State :=
  if s.pci.shut && !s.b.bit .pci PCI.RMV_STAT_QUIESCED && s.pcieIdle then
    { s with b := (s.b.setBit .pci PCI.RMV_STAT_QUIESCED true).event .pci 14 }
  else s

/-- The functions abort what comes in from now on, and the host interface quiesces. -/
def quiesceHost (s : State) : State := State.quiesceEnd { s with pci := { s.pci with rmvWait := false, shut := true } }

/-- An orderly removal is requested; TMO_S = 0 does not wait. -/
def rmvReq (s : State) : State :=
  if s.pci.rmvWait || s.pci.shut then s
  else
    let b := (s.b.setBit .pci PCI.RMV_STAT_REQ true).event .pci 13
    let b := if b.bif then b.msixSend 9 0 else b
    let s := { s with b := b, pci := { s.pci with rmvWait := true, rmvAt := b.aonUs } }
    if b.fld .pci PCI.RMV_CTRL_TMO_S = 0 then quiesceHost s else s

/-- RMV_REQ: PCI.RMV_CMD.REQ. -/
def execRmvReq (s : State) : Host.Outcome State Fault Refusal := .next (rmvReq s)

/-- PCI.RMV_CMD.ACK. -/
def rmvAck (s : State) : State := if s.pci.rmvWait then quiesceHost s else s

/-- RMV_TIMEOUT: TMO_S seconds of AON time without ACK. -/
def execRmvTimeout (s : State) : Host.Outcome State Fault Refusal :=
  if s.b.aonUs < s.pci.rmvAt + 1000000 * s.b.fld .pci PCI.RMV_CTRL_TMO_S then .next s else .next (rmvAck s)

end Sys2Proof.Machine
end

