-- ==== Sys2Proof/Machine/Vbd.lean ====
section
/-! DEFINITION. Vertical bond groups and the repair records (23 R472 to R484). -/
namespace Sys2Proof.Machine

/-! ### Groups (01 R13) -/

/-- KIND of a group index: 0 configuration bus, 1 pond port, 2 deep-line drop, 3 ring lift, 4 bridge drop, 5 service;
none for a reserved index. -/
def grpKind (g : Nat) : Option Nat :=
  if g < 0x6000 then some 0 else if g < 0x9600 then some 1 else if g < 0xA200 then some 2
  else if g < 0xA2E0 then some 3 else if g < 0xA320 then some 4 else if g < 0xA330 then some 5 else none

/-- The VBD page of tower `t`. -/
def vbdPage (t : Nat) : Page := .vbd (tw t)
/-- STATE of a group (23 R472). -/
def Base.grpState (b : Base) (t g : Nat) : Nat := b.fld (vbdPage t) (VBD.GTAB_ST_STATE.nth g)
/-- Set it. -/
def Base.setGrpState (b : Base) (t g v : Nat) : Base := b.setFld (vbdPage t) (VBD.GTAB_ST_STATE.nth g) v
/-- Byte of spare `i`: [7] used, [6] failed, [5:0] the signal it replaces. -/
def Base.spare (b : Base) (t g i : Nat) : Nat := wget (b.word (pbase (vbdPage t) + VBD.GTAB_SP.off + 8 * g)) (8 * i + 7) (8 * i)
/-- Set it. -/
def Base.setSpare (b : Base) (t g i v : Nat) : Base :=
  let a := pbase (vbdPage t) + VBD.GTAB_SP.off + 8 * g
  b.setWord a (wput (b.word a) (8 * i + 7) (8 * i) v)
/-- The unused spares, lowest first. -/
def Base.unused (b : Base) (t g : Nat) : List Nat := (List.range 4).filter fun i => b.spare t g i < 64
/-- Watch 1 and watch 2: the highest-numbered unused spare, and the next below it (23 R473). -/
def Base.watches (b : Base) (t g : Nat) : List Nat := (b.unused t g).reverse.take 2
/-- The state a group's spares give when it holds no fault (23 R472). -/
def spareGrade (n : Nat) : Nat := if n = 0 then 2 else if n = 1 then 1 else 0
/-- A group takes that state; a BARE group has no watch, and its k reads 0 (DEDUCED from the worked example). -/
def Base.regrade (b : Base) (t g : Nat) : Base :=
  let v := spareGrade (b.unused t g).length
  let b := b.setGrpState t g v
  if v = 2 then b.setFld (vbdPage t) (VBD.GTAB_ST_WATCH_K.nth g) 0 else b
/-- Signals a good spare carries. -/
def Base.carried (b : Base) (t g : Nat) : List Nat :=
  ((List.range 4).filter fun i => 128 ≤ b.spare t g i && b.spare t g i < 192).map fun i => b.spare t g i % 64

/-- The key of a group. -/
def grpKey (t g : Nat) : Nat := 65536 * t + g
/-- Bonds known failed. -/
def Vbd.badOf (x : Vbd) (t g : Nat) : BitVec 68 := SMap.get (fun _ => 0) x.bad (grpKey t g)
/-- Set them. -/
def Vbd.setBad (x : Vbd) (t g : Nat) (v : BitVec 68) : Vbd := { x with bad := SMap.set (fun _ => 0) x.bad (grpKey t g) v }
/-- A change for the repair records (23 R479). -/
def Vbd.note (x : Vbd) (r : Nat) : Vbd := { x with todo := x.todo ++ [BitVec.ofNat 64 r] }

/-! ### Records (23 R481) -/

/-- PAD_COL. -/
def recPad (t p n sb k col : Nat) : Nat := 1 + t <<< 4 + p <<< 6 + n <<< 11 + sb <<< 16 + k <<< 18 + col <<< 19
/-- BOND_STEER. -/
def recSteer (t g i sig : Nat) : Nat := 2 + t <<< 4 + g <<< 6 + i <<< 22 + sig <<< 24
/-- BOND_LAME. -/
def recLame (t g : Nat) : Nat := 3 + t <<< 4 + g <<< 6
/-- SPARE_FAIL. -/
def recFail (t g i : Nat) : Nat := 4 + t <<< 4 + g <<< 6 + i <<< 22

/-! ### Watches (23 R473, R474) -/

/-- WATCH_ADVANCE: 1,024 cycles of the group's clock. -/
def execWatchAdvance (t : Tower) (g : Fin 65536) (s : State) : Host.Outcome State Fault Refusal :=
  let k := VBD.GTAB_ST_WATCH_K.nth g.val
  if (grpKind g).isSome && !s.b.gated && s.b.bit (vbdPage t) VBD.CTRL_MON_EN && decide (s.b.grpState t g ≤ 1) then
    .next { s with b := s.b.setFld (vbdPage t) k ((s.b.fld (vbdPage t) k + 1) % 64) }
  else .next s

/-- A spare is found failed. -/
def spareFail (s : State) (t g i : Nat) : State :=
  let pg := vbdPage t
  let b := s.b.setSpare t g i (64 + s.b.spare t g i % 64)
  let b := (b.logErr pg { kind := 4, addr := g, syn := i }).event pg 12
  { s with b := b, vbd := s.vbd.note (recFail t g i) }

/-- WATCH_DISAGREE: for 4 cycles the copy `who` (0 S(k), 1 watch 1, 2 watch 2) differs from the others. With one watch
the copies merely differ. -/
def execWatchDisagree (t : Tower) (g : Fin 65536) (who : Fin 3) (s : State) : Host.Outcome State Fault Refusal :=
  let pg := vbdPage t
  let k := s.b.fld pg (VBD.GTAB_ST_WATCH_K.nth g.val)
  if !((grpKind g).isSome && !s.b.gated && s.b.bit pg VBD.CTRL_MON_EN && decide (s.b.grpState t g ≤ 1)) then .next s
  else match s.b.watches t g with
    | [w1, w2] =>
      if who = 0 then
        let b := (s.b.setGrpState t g 3).setFld pg (VBD.GTAB_ST_LAST_SIG.nth g.val) k
        .next { s with b := b.event pg 9, vbd := s.vbd.setBad t g (s.vbd.badOf t g ||| (1#68 <<< k)) }
      else
        let s := spareFail s t g (if who = 1 then w1 else w2)
        .next { s with b := s.b.regrade t g }
    | [_] => .next { s with b := (s.b.setGrpState t g 4).event pg 9 }
    | _ => .next s

/-! ### LAME groups (23 R476 to R478) -/

/-- The deep-line identifiers of the lines a drop group carries (04 R65, R78). -/
def dropLines (t g : Nat) : List Nat :=
  let m := (g - 0x9600) / 8
  let y := 2 + 4 * ((g - 0x9600) % 8)
  let xs := (List.range 8).map fun i => 32 * (m % 32) + 2 + 4 * i
  let ya := 32 * (m / 32) + y
  xs.map (fun x => deepId t true x (tapTrack ya) (tapLine ya)) ++ xs.map (fun x => deepId t false ya (tapTrack x) (tapLine x))

/-- Enter a group in the lame-resource map. -/
def lameMap (b : Base) (t g kind : Nat) : Base :=
  let pg := vbdPage t
  let n := b.fld pg VBD.MAP_CNT_N
  if n < 256 then
    let b := b.setWord (pbase pg + 0x1000 + 8 * n) (w32 (0x80000000 + kind * 0x10000 + g))
    let b := if kind = 2 then b.setWord (pbase pg + 0x1004 + 8 * n) (w32 ((dropLines t g).foldl Nat.min (2 ^ 32))) else b
    b.setFld pg VBD.MAP_CNT_N (n + 1)
  else b.event pg 14

/-- Is the service pair of group `k` lost? -/
def svcPairLost (b : Base) (t k : Nat) : Bool :=
  nbit (b.fld (vbdPage t) VBD.SVC_STAT_LAME) k && nbit (b.fld (vbdPage t) VBD.SVC_STAT_LAME) ((k + 8) % 16)

/-- The outcome of a LAME group (23 R477, R478); at boot a configuration-bus group excludes its marsh and causes no
freeze (05 R115, 24 R491). -/
def lameOutcome (s : State) (t g : Nat) (boot : Bool) : State :=
  match grpKind g with
  | some 0 =>
    let m := g / 64
    let f : Fld := ⟨0xC0 + 4 * (m / 32), m % 32, m % 32, 4⟩
    let s := { s with b := (s.b.setFld (chmPage t) f 1).chmWake t }
    if boot then { s with b := s.b.setFld (chmPage t) (excludeFld m) 1 }
    else if s.b.isShell t m || s.isOut t m then s else s.freeze t
  | some 1 =>
    let m := (g - 0x6000) / 36
    let i := 2 * (m / 32) + (g - 0x6000) % 36 / 18
    let pg := pond (32 * t + m % 32)
    { s with b := (s.b.setFld pg PND.LAMEPP_PORT (nset (s.b.fld pg PND.LAMEPP_PORT) i)).event pg 16 }
  | some 3 =>
    let pg : Page := .hop (tw t)
    { s with b := (s.b.setFld pg HOP.LAME_LIFT_LIFT (nset (s.b.fld pg HOP.LAME_LIFT_LIFT) ((g - 0xA200) / 28))).event pg 13 }
  | some 5 =>
    let k := g - 0xA320
    let pg := vbdPage t
    let s := { s with b := s.b.setFld pg VBD.SVC_STAT_LAME (nset (s.b.fld pg VBD.SVC_STAT_LAME) k) }
    if svcPairLost s.b t k && !s.b.bit pg VBD.SVC_STAT_UPPER_DOWN then
      { s with b := (s.b.setBit pg VBD.SVC_STAT_UPPER_DOWN true).event pg 13 }.freeze t
    else s
  | _ => s

/-- A group becomes LAME with failed signal `sig` (23 R476). -/
def groupLames (s : State) (t g sig : Nat) (boot : Bool) : State :=
  let pg := vbdPage t
  let b := (s.b.setGrpState t g 5).setFld pg (VBD.GTAB_ST_LAST_SIG.nth g) sig
  let b := b.setFld pg (VBD.GTAB_ST_WATCH_K.nth g) 0
  let b := (b.logErr pg { kind := 2, uc := true, addr := g, syn := sig }).event pg 10
  let b := b.anoleCroak 0x201 (psrc pg) 2 (t * 65536 + g) 0 0
  let b := lameMap (b.setFld pg VBD.STAT_LAME (satAdd 0xFFFF (b.fld pg VBD.STAT_LAME) 1)) t g ((grpKind g).getD 0)
  lameOutcome { s with b := b, vbd := (s.vbd.setBad t g 0).note (recLame t g) } t g boot

/-- Signal `sig` is steered to spare `i` (23 R476). -/
def steer (s : State) (t g : Nat) (e : Nat × Nat) : State :=
  let pg := vbdPage t
  let b := (s.b.setSpare t g e.2 (128 + e.1)).setFld pg (VBD.GTAB_ST_LAST_SIG.nth g) e.1
  let b := b.setFld pg VBD.STAT_STEERED (satAdd 0xFFFF (b.fld pg VBD.STAT_STEERED) 1)
  let b := (b.logErr pg { kind := 1, addr := g, syn := e.1 + 64 * e.2 }).event pg 8
  { s with b := b, vbd := s.vbd.note (recSteer t g e.2 e.1) }

/-- The bond test of a group at its quiet point: `fails` are the bonds the walking patterns fail, signals 0 to 63 and
spares 64 to 67 (23 R475, R476). -/
def bondTest (s : State) (t g : Nat) (fails : BitVec 68) (boot : Bool) : State :=
  let s := ((List.range 4).filter fun i => fails.getLsbD (64 + i) && !nbit (s.b.spare t g i) 6).foldl
    (fun s i =>
      let used := nbit (s.b.spare t g i) 7
      let sig := s.b.spare t g i % 64
      let s := spareFail s t g i
      if used then { s with vbd := s.vbd.setBad t g (s.vbd.badOf t g ||| (1#68 <<< sig)) } else s) s
  let held := s.vbd.badOf t g ||| fails
  let carried := s.b.carried t g
  let sigs := (List.range 64).filter fun j => held.getLsbD j && !carried.contains j
  let free := s.b.unused t g
  let s := { s with vbd := { s.vbd with testAt := SMap.set (fun _ => 0) s.vbd.testAt (grpKey t g) s.b.aonUs } }
  if free.length < sigs.length then groupLames s t g (sigs.getLastD 0) boot
  else
    let s := (sigs.zip free).foldl (fun s e => steer s t g e) s
    { s with b := s.b.regrade t g, vbd := s.vbd.setBad t g 0 }

/-- The edge marshes of a bridge drop group, in its own tower and across the bridge (04 R74). -/
def bridgeMarshes (t g : Nat) : List (Nat × Nat) :=
  let e := (g - 0xA2E0) / 16
  let k := (g - 0xA2E0) % 16
  let col := if e = 1 ∨ e = 3 then (if k < 12 then [k] else []) else [2 * k, 2 * k + 1]
  let here := col.map fun x => if e = 0 then x else if e = 2 then 352 + x else if e = 1 then 32 * x + 31 else 32 * x
  let there := col.map fun x => if e = 0 then 352 + x else if e = 2 then x else if e = 1 then 32 * x else 32 * x + 31
  let u := if e = 0 then (if 2 ≤ t then some (t - 2) else none) else if e = 2 then (if t < 2 then some (t + 2) else none)
    else if e = 1 then (if t % 2 = 0 then some (t + 1) else none) else (if t % 2 = 1 then some (t - 1) else none)
  here.map (fun m => (t, m)) ++ (match u with | some u => there.map (fun m => (u, m)) | none => [])

/-- Is a group at a quiet point now (23 R475)? -/
def State.quiet (s : State) (t g : Nat) : Bool :=
  let out := fun m => s.b.excludeBit t m
  match grpKind g with
  | some 0 =>
    let m := g / 64
    !((s.ch t).staged.contains m && s.cm t CHM.STAT_PHASE == 1) && !(s.cfg.refreshing t).contains m &&
      !s.b.bit (cfgPage t) CFG.STAT_WRITING && !s.b.bit (cfgPage t) CFG.STAT_RB_BUSY
  | some 1 =>
    let m := (g - 0x6000) / 36
    out m || !s.b.bit (.hop (tw t)) ((if (g - 0x6000) % 36 < 18 then HOP.PPCLK_EN0 else HOP.PPCLK_EN1).nth m)
  | some 2 => out ((g - 0x9600) / 8) || (s.cfg.refreshing t).contains ((g - 0x9600) / 8)
  | some 3 =>
    let i := (g - 0xA200) / 28
    [0, 1, 2].all fun l => !nbit (s.hop.mapFld t l false HOP.MAPCTL_LIFT_EN) i && !nbit (s.hop.mapFld t l true HOP.MAPCTL_LIFT_EN) i
  | some 4 => (bridgeMarshes t g).all fun x => s.b.excludeBit x.1 x.2
  | some 5 => s.b.fld .pkg PKG.RST_STAT_STAGE == 4
  | _ => false

/-- May a bond test run: enabled, its clock running (R484), at a quiet point, not LAME, and TEST.US apart unless the group is VOTING or SUSPECT? -/
def State.testDue (s : State) (t g : Nat) : Bool :=
  !s.b.gated && s.b.bit (vbdPage t) VBD.CTRL_TEST_EN && s.b.grpState t g != 5 && s.quiet t g &&
    (s.b.grpState t g == 3 || s.b.grpState t g == 4 ||
      decide (SMap.get (fun _ => 0) s.vbd.testAt (grpKey t g) + s.b.fld (vbdPage t) VBD.TEST_US ≤ s.b.aonUs))

/-- BOND_TEST. -/
def execBondTest (t : Tower) (g : Fin 65536) (fails : BitVec 68) (s : State) : Host.Outcome State Fault Refusal :=
  .next (if s.testDue t g then bondTest s t g fails (s.b.fld .pkg PKG.RST_STAT_STAGE == 4) else s)

/-! ### The repair records (23 R481, R482) -/

/-- One bit of CRC-32, IEEE 802.3, reflected. -/
def crc32Bit (c : Nat) : Nat := if c % 2 = 1 then (c / 2) ^^^ 0xEDB88320 else c / 2
/-- One byte. -/
def crc32Byte (c x : Nat) : Nat := (List.range 8).foldl (fun c _ => crc32Bit c) (c ^^^ x)
/-- CRC-32 of a list of positions, 8 bytes each, little-endian. -/
def crc32 (l : List (BitVec 64)) : Nat :=
  (l.foldl (fun c w => (List.range 8).foldl (fun c i => crc32Byte c (nbyte w.toNat i)) c) 0xFFFFFFFF) ^^^ 0xFFFFFFFF

/-- The burnt positions of copy `k`, up to the first unburnt one. -/
def Vbd.copy (x : Vbd) (k : Nat) : List (BitVec 64) :=
  ((List.range 4096).map fun i => SMap.get (fun _ => 0) x.records (4096 * k + i)).takeWhile (· != 0)

/-- Is position `i` of a copy a trailer whose CRC passes? -/
def trailerOk (l : List (BitVec 64)) (i : Nat) : Bool :=
  match l[i]? with
  | some w => nget w.toNat 3 0 == 15 && nget w.toNat 63 32 == crc32 (l.take i)
  | none => false

/-- The last passing trailer of a copy. -/
def lastTrailer (l : List (BitVec 64)) : Option Nat := ((List.range l.length).filter (trailerOk l)).getLast?

/-- SEQ of the trailer at `i`. -/
def trailerSeq (l : List (BitVec 64)) (i : Nat) : Nat := match l[i]? with | some w => nget w.toNat 31 16 | none => 0

/-- Positions left in the fullest copy. -/
def Vbd.freeRecs (x : Vbd) : Nat := 4096 - [0, 1, 2].foldl (fun n k => Nat.max n (x.copy k).length) 0

/-- Write records at the end of copy `k`. -/
def Vbd.append (x : Vbd) (k : Nat) (l : List (BitVec 64)) : Vbd :=
  let n := (x.copy k).length
  let m := (l.zip (List.range l.length)).foldl (fun m e => SMap.set (fun _ => 0) m (4096 * k + n + e.2) e.1) x.records
  { x with records := m }

/-- FUS.REPAIR_FREE follows; REPAIR_LOW when it falls below 16. -/
def repairFree (b : Base) (n : Nat) : Base :=
  let old := b.fld .fus FUS.REPAIR_FREE_RECORDS
  (b.setFld .fus FUS.REPAIR_FREE_RECORDS n).eventIf (decide (16 ≤ old ∧ n < 16)) .fus 9

/-- The highest SEQ of a passing trailer in any copy. -/
def Vbd.topSeq (x : Vbd) : Nat :=
  [0, 1, 2].foldl (fun n k => match lastTrailer (x.copy k) with | some i => Nat.max n (trailerSeq (x.copy k) i) | none => n) 0

/-- Append records `new` and a trailer to the three copies; `copies` of them take every bit. True when all three did. -/
def recordCommit (s : State) (new : List (BitVec 64)) (copies : Nat) : State × Bool :=
  let seq := Nat.max (s.b.fld .fus FUS.REPAIR_SEQ) s.vbd.topSeq + 1
  if s.vbd.freeRecs < Nat.max 2 (new.length + 1) then (s, false)
  else
    let put (x : Vbd) (k : Nat) : Vbd :=
      let body := x.copy k ++ new
      x.append k (new ++ [BitVec.ofNat 64 (15 + (seq % 65536) <<< 16 + crc32 body <<< 32)])
    let x := ((List.range 3).filter (· < copies)).foldl put s.vbd
    let b := repairFree s.b x.freeRecs
    if 3 ≤ copies then
      ({ s with b := (b.setFld .fus FUS.REPAIR_SEQ seq).event .fus 8, vbd := { x with todo := [] } }, true)
    else ({ s with b := b, vbd := x }, false)

/-- REPAIR_RECORD_WRITE (23 R479): Anole writes the changes not yet recorded. -/
def execRepairRecordWrite (copies : Fin 4) (s : State) : Host.Outcome State Fault Refusal :=
  if s.vbd.todo = [] ∨ s.ano.run = 0 then .next s else .next (recordCommit s s.vbd.todo copies).1

/-- The soft column repairs that no record names yet: what only REPAIR_COMMIT writes (23 R479). -/
def softRepairs (s : State) : List (BitVec 64) :=
  let known := s.vbd.copy 0
  (s.b.regs.flatMap fun e =>
    match pageAt e.1 with
    | some (.pnd p) =>
      let o := e.1 - pbase (.pnd p)
      if 0x200 ≤ o ∧ o < 0x400 then
        ((List.range 2).filter fun k => spareState e.2 k == 2).map fun k =>
          BitVec.ofNat 64 (recPad (p.val / 32) (p.val % 32) ((o - 0x200) / 16) ((o - 0x200) % 16 / 4) k (spareCol e.2 k))
      else []
    | _ => []).filter fun r => !known.contains r

/-- The records in use at POR, the winning SEQ, the copies that pass, and whether they diverge (23 R482). -/
def Vbd.choose (x : Vbd) : List (BitVec 64) × Nat × Nat × Bool :=
  let cs := (List.range 3).map fun k => x.copy k
  let passing := (List.range 3).filterMap fun k => (lastTrailer (cs.getD k [])).map fun i => (k, i, trailerSeq (cs.getD k []) i)
  let mask := passing.foldl (fun m e => nset m e.1) 0
  match passing with
  | [] =>
    let at_ (k i : Nat) : BitVec 64 := SMap.get (fun _ => 0) x.records (4096 * k + i)
    let maj (i : Nat) : BitVec 64 := (at_ 0 i &&& at_ 1 i) ||| (at_ 0 i &&& at_ 2 i) ||| (at_ 1 i &&& at_ 2 i)
    (((List.range 4096).map maj).filter (· != 0), 0, 0, true)
  | e :: rest =>
    let w := rest.foldl (fun b e => if b.2.2 < e.2.2 then e else b) e
    let body (e : Nat × Nat × Nat) : List (BitVec 64) := (cs.getD e.1 []).take (e.2.1 + 1)
    (body w, w.2.2, mask, passing.any fun e => body e != body w)

/-- Apply one record at POR. -/
def applyRecord (s : State) (r : BitVec 64) : State :=
  let n := r.toNat
  let t := nget n 5 4
  let g := nget n 21 6
  match nget n 3 0 with
  | 1 =>
    let a := spareAddr (32 * t + nget n 10 6) (nget n 15 11) (nget n 17 16)
    { s with b := s.b.setWord a (spareSet (s.b.word a) (nget n 18 18) 1 (nget n 27 19)) }
  | 2 =>
    let b := s.b.setSpare t g (nget n 23 22) (128 + nget n 29 24)
    { s with b := if b.grpState t g = 5 then b else b.setGrpState t g (spareGrade (b.unused t g).length) }
  | 3 =>
    let s := { s with b := lameMap (s.b.setGrpState t g 5) t g ((grpKind g).getD 0) }
    let s := { s with b := s.b.setFld (vbdPage t) VBD.STAT_LAME (satAdd 0xFFFF (s.b.fld (vbdPage t) VBD.STAT_LAME) 1) }
    lameOutcome s t g true
  | 4 =>
    let b := s.b.setSpare t g (nget n 23 22) 64
    { s with b := if b.grpState t g = 5 then b else b.setGrpState t g (spareGrade (b.unused t g).length) }
  | _ => s

/-! ### A GO of the HOP page (14 R292, R293; 16 R322) -/

/-- Does the aperture entry that holds page offset `o` pass R293 in the shadow: BASE at most LIMIT where enabled? -/
def apertureOk (b : Base) (pg : Page) (o : Nat) : Bool :=
  let i := (o - 0x8000) / 16
  o < 0x8000 || b.shFld pg (HOP.AP_CTRL_EN.nth i) == 0 ||
    decide (b.shFld pg (HOP.AP_BASE.nth i) ≤ b.shFld pg (HOP.AP_LIMIT.nth i))

/-- The rules of a HOP GO. -/
def hopShadowOk (b : Base) (t : Nat) : Bool :=
  let pg : Page := .hop (tw t)
  let up := b.shFld pg HOP.MAPCTL_LIFT_EN
  (up % 16 != 0 && up / 16 != 0) && b.shFld pg HOP.MAPCTL_DEGRADE_L != 3 && b.shFld pg HOP.MAPCTL_DEGRADE_M != 3 &&
    b.shFld pg HOP.MAPCTL_DEGRADE_B != 3 &&
    (b.shFld pg HOP.MAPCTL_GMODE == b.fld pg HOP.MAPCTL_GMODE || (List.finRange 16).all fun c => !b.enabled (.gd c)) &&
    ((b.pageKeys pg).all fun a => apertureOk b pg (a - pbase pg))

/-- GO of a page (02 R27, R28): nothing while a commit is pending; rejected where a rule fails; else pending with its
parts. -/
def Base.go (b : Base) (p : Page) (ok : Bool) (parts : Nat) : Base :=
  if b.commitPend p then b
  else if ok then (b.setFld p HDR.BLK_STAT_COMMIT_PEND 1).setParts p parts
  else (b.setFld p HDR.BLK_STAT_COMMIT_RES 3).event p 4

/-- GO of the HOP page: a part for each level and one for its arbiters. -/
def hopGo (b : Base) (t : Nat) : Base := b.go (.hop (tw t)) (hopShadowOk b t) 15

end Sys2Proof.Machine
end

