-- ==== Sys2Proof/Machine/Anole.lean ====
section
/-! DEFINITION. The Anole management subsystem (22): mailbox commands, failover, keys and fuses, firmware, attestation,
the service button, telemetry and the archive; the policies of 23 R469, R470. -/
namespace Sys2Proof.Machine

/-- Change Anole's own state. -/
def State.an (s : State) (f : Anole → Anole) : State := { s with ano := f s.ano }
/-- Set an ANO event. -/
def State.anoEvent (s : State) (i : Nat) : State := { s with b := s.b.event .ano i }
/-- The number `n` as `k` bytes, little-endian. -/
def leBytes (n k : Nat) : List Byte := (List.range k).map fun i => BitVec.ofNat 8 (nbyte n i)
/-- Does some Anole run? -/
def State.anoRuns (s : State) : Bool := s.ano.run != 0
/-- Is a command served: firmware is ready, or ROM recovery serves its four (22 R452, R489)? -/
def State.anoReady (s : State) : Bool := s.anoRuns && (s.b.bit .ano ANO.STAT_READY || s.b.bit .ano ANO.STAT_ROM)
/-- The opcodes ROM recovery serves. -/
def romOp (op : Nat) : Bool := op == 1 || op == 0x20 || op == 0x21 || op == 0x22

/-- The status codes of 22 R447. -/
def mbOK : Nat := 0
def mbBADOP : Nat := 1
def mbBADLEN : Nat := 2
def mbBADARG : Nat := 3
def mbDENIED : Nat := 4
def mbSIG : Nat := 5
def mbROLLBACK : Nat := 6
def mbINUSE : Nat := 7
def mbFLASH : Nat := 8
def mbFAILOVER : Nat := 9
def mbFUSE : Nat := 10
def mbSESSION : Nat := 11

/-! ### The mailbox (22 R445) -/

/-- Byte `i` of the mailbox buffer. -/
def Anole.byte (x : Anole) (i : Nat) : Byte := BitVec.ofNat 8 (nbyte (SMap.get (fun _ => 0) x.buf (i / 4)).toNat (i % 4))
/-- Write bytes at the start of the buffer. -/
def Anole.fill (x : Anole) (l : List Byte) : Anole :=
  let word (i : Nat) : Word := w32 (leAt (l ++ [0, 0, 0]) (4 * i) 4)
  { x with buf := (List.range ((l.length + 3) / 4)).foldl (fun m i => SMap.set (fun _ => 0) m i (word i)) x.buf }

/-- A write of MB_CMD with GO = 1: the request is taken from the registers and the buffer. -/
def mbGo (s : State) : State :=
  if !s.anoReady || s.b.bit .ano ANO.MB_STAT_BUSY then s.anoEvent 9
  else
    let n := s.b.fld .ano ANO.MB_LEN_LEN
    let c : MbCmd := ⟨false, s.b.fld .ano ANO.MB_CMD_OP, s.b.word (pbase .ano + 0x5C), s.b.word (pbase .ano + 0x60),
      (List.range n).map s.ano.byte, none⟩
    { s with b := (s.b.setBit .ano ANO.MB_STAT_BUSY true).setBit .ano ANO.MB_STAT_DONE false }.an
      fun x => { x with cmds := x.cmds ++ [c] }

/-- What serving a command gives: the state, its status, its response. -/
abbrev Reply := State × Nat × List Byte

/-- A refusal with no effect. -/
def deny (s : State) (st : Nat) : Reply := (s, st, [])

/-- Serve the oldest command when it is opcode `op` and not served yet (22 R445): `f` gives effect and answer. In ROM
recovery any other opcode than its four is not served; the status of its answer is not stated and free. -/
def serve (s : State) (op : Nat) (f : MbCmd → State → Reply) : State :=
  match s.ano.cmds with
  | c :: rest =>
    if c.op = op ∧ c.res = none ∧ s.anoRuns then
      let y := if s.b.bit .ano ANO.STAT_ROM && !romOp op then ({ s with b := s.b.bump }, (Config.freeBits 8 s.b.free).toNat, [])
        else f c s
      y.1.an fun x => { x with cmds := { c with res := some y.2 } :: rest }
    else s
  | [] => s

/-- Publish an answer: to the mailbox, or over MCTP. -/
def publish (s : State) (c : MbCmd) (st : Nat) (rsp : List Byte) : State :=
  if c.mctp then { s with b := s.b.send (.mctp st rsp) }
  else
    let b := ((s.b.setFld .ano ANO.MB_STAT_STATUS st).setFld .ano ANO.MB_STAT_RSP_LEN rsp.length).setBit .ano ANO.MB_STAT_BUSY false
    { s with b := (b.setBit .ano ANO.MB_STAT_DONE true).event .ano 8 }.an fun x => x.fill rsp

/-- The opcodes of 22 R446. -/
def mbOps : List Nat := [1, 2, 3, 0x10, 0x11, 0x12, 0x20, 0x21, 0x22, 0x28, 0x30, 0x31, 0x32, 0x38, 0x40, 0x41, 0x48, 0x49]

/-- MB_DONE (22 R445 to R447): Anole finishes the oldest command; a reserved opcode answers BAD_OP. -/
def execMbDone (s : State) : Host.Outcome State Fault Refusal :=
  match s.ano.cmds with
  | c :: rest =>
    let s' := s.an fun x => { x with cmds := rest }
    match c.res with
    | some (st, rsp) => .next (publish s' c st rsp)
    | none => if s.anoRuns && !mbOps.contains c.op then .next (publish s' c mbBADOP []) else .next s
  | [] => .next s

/-! ### Fuses (22 R448 to R451, R462) -/

/-- The FUS page takes what the fuses hold. -/
def fusLoad (b : Base) : Base :=
  let f := b.fuse
  let b := ((b.setBit .fus FUS.STATE_OWN_IKEY f.ownIkey).setBit .fus FUS.STATE_ENROLLED f.enrolled).setBit .fus FUS.STATE_OP b.part.op
  let b := ((b.setFld .fus FUS.FW_CTR_VALUE f.fwCtr).setFld .fus FUS.CFG_CTR_VALUE f.cfgCtr).setFld .fus FUS.OP_REVOKE_KEY f.opRevoke
  (b.setFld .fus FUS.SERIAL_LO (b.part.serial % 2 ^ 32)).setFld .fus FUS.SERIAL_HI (b.part.serial / 2 ^ 32)

/-- A fuse has been burnt: FUS follows, measurement 3 is updated, the burn is reported and croaked. How the record names
the fuse is not stated, so DATA0 is free. -/
def burnt (s : State) (f : Fuse → Fuse) (new : Nat) : State :=
  let b := fusLoad { s.b with fuse := f s.b.fuse }
  let b := (b.measure 3).event .fus 8
  { s with b := (b.anoleCroak 0x302 0x3FF 0 (Config.freeBits 32 b.free).toNat new 0).bump }

/-- Is an SPDM session open, on a DOE mailbox or on MCTP? -/
def Anole.open_ (x : Anole) (id : Word) : Bool := x.sessions.any fun k => k % 2 ^ 32 == id.toNat

/-! ### Information and attestation (22 R446, R453, R454) -/

/-- GET_INFO: 64 bytes, whose layout the spec does not give. -/
def execGetInfo (s : State) : Host.Outcome State Fault Refusal :=
  .next (serve s 0x01 fun c s =>
    if c.req ≠ [] then deny s mbBADLEN
    else ({ s with b := s.b.bump }, mbOK, leBytes (Config.freeBits 512 s.b.free).toNat 64))

/-- The indexes a mask names. -/
def measIndexes (m : Nat) : List Nat := (List.range 32).filter (nbit m)
/-- A measurement block: index and digest (22 R454). -/
def measBlock (b : Base) (i : Nat) : List Byte := leBytes i 4 ++ leBytes (b.digest i).toNat 48
/-- Does a mask name only measurements that exist? -/
def maskOk (m : Nat) : Bool := (measIndexes m).all fun i => decide (1 ≤ i ∧ i ≤ 13)

/-- GET_MEAS: the blocks of ARG0; 0 means all. -/
def execGetMeas (s : State) : Host.Outcome State Fault Refusal :=
  .next (serve s 0x02 fun c s =>
    let m := if c.a0 = 0 then 0x3FFE else c.a0.toNat
    if c.req ≠ [] then deny s mbBADLEN
    else if !maskOk m then deny s mbBADARG
    else (s, mbOK, (measIndexes m).flatMap (measBlock s.b)))

/-- ATTEST: the report over a 32-byte nonce, signed twice. A signature's value is free. -/
def execAttest (s : State) : Host.Outcome State Fault Refusal :=
  .next (serve s 0x03 fun c s =>
    if c.req.length ≠ 32 then deny s mbBADLEN
    else if !maskOk c.a0.toNat then deny s mbBADARG
    else
      let body := leBytes c.a0.toNat 4 ++ c.req ++ leBytes s.b.aonUs 8 ++ (measIndexes c.a0.toNat).flatMap (measBlock s.b)
      ({ s with b := s.b.bump.bump }, mbOK, body ++ leBytes (Config.freeBits 512 s.b.free).toNat 64 ++
        leBytes (Config.freeBits 26472 (s.b.free + 1)).toNat 3309))

/-! ### Keys (22 R448 to R450) -/

/-- KEY_GEN: an EMPTY slot is filled from the TRNG. -/
def execKeyGen (s : State) : Host.Outcome State Fault Refusal :=
  .next (serve s 0x10 fun c s =>
    let k := c.a0.toNat
    if c.req ≠ [] then deny s mbBADLEN
    else if 256 ≤ k then deny s mbBADARG
    else if s.b.slotState k ≠ 0 then deny s mbINUSE
    else
      let y := slotLoad s.b s.gdr k (.gen s.b.free)
      ({ s with b := y.1.bump, gdr := y.2 }, mbOK, []))

/-- The transport key of a session: 32 bytes of HMAC-SHA-384 under its export master secret, over "SK48 TK" (22 R450). -/
def transportKey (session : Nat) : Nat :=
  beNat ((hmac384 (Config.sessionSecret session) [0x53, 0x4B, 0x34, 0x38, 0x20, 0x54, 0x4B]).take 32)
/-- What `c` wraps under the transport key of the open session `id`. -/
def Anole.unwrap (x : Anole) (id : Word) (c : List Byte) : Option (List Byte) :=
  match x.sessions.find? fun k => k % 2 ^ 32 == id.toNat with
  | some k => keyUnwrap (transportKey k) c
  | none => none

/-- KEY_IMPORT: an EMPTY slot takes KE and KT, as the unwrap under the session's transport key gives them. -/
def execKeyImport (s : State) : Host.Outcome State Fault Refusal :=
  .next (serve s 0x11 fun c s =>
    let k := c.a0.toNat
    if c.req.length ≠ 72 then deny s mbBADLEN
    else if 256 ≤ k then deny s mbBADARG
    else if !s.ano.open_ c.a1 then deny s mbSESSION
    else match s.ano.unwrap c.a1 c.req with
    | none => deny s mbSESSION
    | some l =>
      if s.b.slotState k ≠ 0 then deny s mbINUSE
      else
        let y := slotLoad s.b s.gdr k (.imp (BitVec.ofNat 256 (beNat (l.take 32))) (BitVec.ofNat 256 (beNat (l.drop 32))))
        ({ s with b := y.1, gdr := y.2 }, mbOK, []))

/-- IKEY_SET: the owner image key, on an enrolled standard part. -/
def execIkeySet (flashOk : Bool) (s : State) : Host.Outcome State Fault Refusal :=
  .next (serve s 0x12 fun c s =>
    if c.req.length ≠ 40 then deny s mbBADLEN
    else if s.b.part.op ∨ ¬ s.b.fuse.enrolled then deny s mbDENIED
    else match s.ano.unwrap c.a1 c.req with
    | none => deny s mbSESSION
    | some l =>
      if ¬ flashOk then deny s mbFLASH
      else (burnt s (fun f => { f with ownIkey := true, ikey := BitVec.ofNat 256 (beNat l) }) 1, mbOK, []))

/-- ENROLL: the owner's public keys, once, on a standard part, within 60 s of an identify press (22 R449). -/
def execEnroll (flashOk fuseOk : Bool) (s : State) : Host.Outcome State Fault Refusal :=
  .next (serve s 0x30 fun c s =>
    let pressed : Bool := match s.ano.identAt with | some t => decide (s.b.aonUs - t ≤ 60000000) | none => false
    if c.req.length ≠ 1984 then deny s mbBADLEN
    else if s.b.part.op ∨ s.b.fuse.enrolled ∨ ¬ pressed then deny s mbDENIED
    else if ¬ flashOk then deny s mbFLASH
    else if ¬ fuseOk then deny s mbFUSE
    else (burnt { s with b := s.b.send (.flash 0x10000 c.req) } (fun f =>
      { f with enrolled := true, pubKeys := SMap.set (fun _ => []) f.pubKeys 1 c.req }) 1, mbOK, []))

/-- Do both signatures of operator root key 0 at the end of `l` verify over what precedes them (22 R446, R448; 00 R4)? -/
def rootSigned (b : Base) (l : List Byte) : Bool :=
  let n := l.length - 3373
  (sigFails (b.pubKey .ed25519 0x10) (b.pubKey .mldsa65 0x10) (l.take n) ((l.drop n).take 64) (l.drop (n + 64))).isNone

/-- OPKEY_INSTALL: operator key ARG0 (1 to 15), signed by root key 0, on an -OP part; never a revoked one. -/
def execOpkeyInstall (flashOk : Bool) (s : State) : Host.Outcome State Fault Refusal :=
  .next (serve s 0x31 fun c s =>
    let n := c.a0.toNat
    if c.req.length ≠ 5357 then deny s mbBADLEN
    else if ¬ s.b.part.op then deny s mbDENIED
    else if n = 0 ∨ 15 < n then deny s mbBADARG
    else if nbit s.b.fuse.opRevoke n then deny s mbDENIED
    else if ¬ rootSigned s.b c.req then deny s mbSIG
    else if ¬ flashOk then deny s mbFLASH
    else ({ s with b := { s.b with fuse := { s.b.fuse with
      opKeys := nset s.b.fuse.opKeys n,
      pubKeys := SMap.set (fun _ => []) s.b.fuse.pubKeys (0x10 + n) (c.req.take 1984) } } }, mbOK, []))

/-- OPKEY_REVOKE: operator key ARG0 is revoked for good. -/
def execOpkeyRevoke (fuseOk : Bool) (s : State) : Host.Outcome State Fault Refusal :=
  .next (serve s 0x32 fun c s =>
    let n := c.a0.toNat
    if c.req.length < 3374 then deny s mbBADLEN
    else if ¬ s.b.part.op then deny s mbDENIED
    else if n = 0 ∨ 15 < n then deny s mbBADARG
    else if leAt c.req 0 (c.req.length - 3373) ≠ n ∨ ¬ rootSigned s.b c.req then deny s mbSIG
    else if ¬ fuseOk then deny s mbFUSE
    else (burnt s (fun f => { f with opRevoke := nset f.opRevoke n }) (nset s.b.fuse.opRevoke n), mbOK, []))

/-- SVN_ADVANCE (22 R451): counter ARG0 (0 FW, 1 CFG) is burnt up to ARG1; `reach` is where the first bit fails. -/
def execSvnAdvance (reach : Fin 65) (s : State) : Host.Outcome State Fault Refusal :=
  .next (serve s 0x28 fun c s =>
    let v := c.a1.toNat
    let cur := if c.a0 = 0 then s.b.fuse.fwCtr else s.b.fuse.cfgCtr
    let top := if c.a0 = 0 then s.b.fld .ano ANO.FW_SVN else s.b.fld .ldr LDR.SVN
    if c.req ≠ [] then deny s mbBADLEN
    else if 1 < c.a0.toNat then deny s mbBADARG
    else if 64 < v ∨ v < cur ∨ top < v then deny s mbROLLBACK
    else
      let got := Nat.max cur (Nat.min reach v)
      let s := if got = cur then s
        else burnt s (fun f => if c.a0 = 0 then { f with fwCtr := got } else { f with cfgCtr := got }) got
      (s, if got = v then mbOK else mbFUSE, []))

/-! ### Firmware and golden images (22 R452) -/

/-- The activation record of a slot. -/
def Anole.slot (x : Anole) (i : Nat) : FwSlot := SMap.get (fun _ => ⟨0, false, false, 0⟩) x.slots i
/-- Set it. -/
def Anole.setSlot (x : Anole) (i : Nat) (v : FwSlot) : Anole :=
  { x with slots := SMap.set (fun _ => ⟨0, false, false, 0⟩) x.slots i v }
/-- The slot that is not running. -/
def Base.otherSlot (b : Base) : Nat := 1 - b.fld .ano ANO.STAT_SLOT
/-- Where a target lies in flash, and its size for STAGE. -/
def flashArea (b : Base) (target : Nat) : Nat × Nat :=
  if target = 0 then (if b.otherSlot = 0 then 0x100000 else 0x900000, 0x7FF000)
  else if target = 1 then (0x2000000, 0x5000000) else (0xA000000, 0x5000000)

/-- STAGE: a chunk at byte ARG1 of target ARG0; LEN = 0 erases the target. -/
def execStage (flashOk : Bool) (s : State) : Host.Outcome State Fault Refusal :=
  .next (serve s 0x20 fun c s =>
    let t := c.a0.toNat
    let area := flashArea s.b t
    if 16384 < c.req.length then deny s mbBADLEN
    else if 2 < t ∨ area.2 < c.a1.toNat + c.req.length then deny s mbBADARG
    else if t ≠ 0 ∧ (s.phase = 1 ∨ s.phase = 2) ∧ s.loadSrc = t then deny s mbDENIED
    else
      let s := s.an fun x => { x with verified := x.verified &&& ~~~ (1#3 <<< t) }
      if ¬ flashOk then deny s mbFLASH
      else ({ s with b := s.b.send (.flash (area.1 + (if c.req = [] then 0 else c.a1.toNat)) c.req) }, mbOK, []))

/-- VERIFY: `header`, `ed` and `ml` are what the checks of the target's flash contents find, header and both signatures (00 R4), `svn` the
SVN they hold. The status of a failed header check is not stated and free. -/
def execVerify (header ed ml : Bool) (svn : Word) (s : State) : Host.Outcome State Fault Refusal :=
  .next (serve s 0x21 fun c s =>
    let t := c.a0.toNat
    let mark (s : State) (ok : Bool) : State := s.an fun x =>
      { x with verified := (x.verified &&& ~~~ (1#3 <<< t)) ||| (if ok then 1#3 <<< t else 0) }
    if c.req ≠ [] then deny s mbBADLEN
    else if 2 < t then deny s mbBADARG
    else if ¬ header then (mark { s with b := s.b.bump } false, (Config.freeBits 8 s.b.free).toNat, [])
    else if ¬ (ed ∧ ml) then deny (mark s false) mbSIG
    else if t = 0 ∧ svn.toNat < s.b.fuse.fwCtr then deny (mark s false) mbROLLBACK
    else deny (mark s true) mbOK)

/-- The bytes of the croak log, its 4,096 records in index order (22 R457, R458). -/
def Base.crkBytes (b : Base) : List Byte :=
  (List.range 4096).flatMap fun i => (List.range 8).flatMap fun w => leBytes ((b.crkAt i).word w).toNat 4

/-- Copy the croak log to the next archive slot and clear FROZEN (22 R458). -/
def archiveLog (s : State) : State :=
  let n := s.ano.life.archives
  let k := n % 16
  let e := SMap.get (fun _ => 0) s.ano.erases k + 1
  let b := (s.b.send (.archive k n (s.ano.life.pors + s.ano.life.warms) (s.b.crkNext - 4096) (s.b.fld .ano ANO.CRK_SEQ) e
    (sha384 s.b.crkBytes) s.b.crkLog)).setBit .ano ANO.CRK_FROZEN false
  { s with b := b.event .ano 13 }.an fun x =>
    { x with erases := SMap.set (fun _ => 0) x.erases k e, life := { x.life with archives := n + 1 } }

/-- Firmware of slot `i` finishes booting (22 R452, R453, R457, R458): CONFIRMED, READY, the boot count, measurements 2 and
3, the boot record, and a frozen log is archived. -/
def anoleBoot (s : State) (i : Nat) (ver svn : Word) : State :=
  let n := s.ano.life.pors + s.ano.life.warms
  let b := (((s.b.setBit .ano ANO.STAT_READY true).setBit .ano ANO.STAT_ROM false).setFld .ano ANO.STAT_SLOT i)
  let b := ((b.setFld .ano ANO.FW_VER ver.toNat).setFld .ano ANO.FW_SVN svn.toNat).setBit .ano ANO.STAT_STBY_OK (s.ano.run == 3)
  let b := { (b.measure 2).measure 3 with crkBoot := n % 65536 }
  let b := b.anoleCroak 1 0x3FF 0 ver.toNat i 0
  let s := { s with b := b }.an fun x =>
    let r := x.slot i
    { x.setSlot i { r with confirmed := true, boots := r.boots + b2n r.trial } with btnPor := false, hbAt := b.aonUs }
  if s.b.bit .ano ANO.CRK_FROZEN then archiveLog s else s

/-- ACTIVATE: the verified slot's activation record; ARG0 = 1 restarts both Anoles on it, version `ver`, SVN `svn`. -/
def execActivate (flashOk : Bool) (ver svn : Word) (s : State) : Host.Outcome State Fault Refusal :=
  .next (serve s 0x22 fun c s =>
    let i := s.b.otherSlot
    if c.req ≠ [] then deny s mbBADLEN
    else if 1 < c.a0.toNat then deny s mbBADARG
    else if !s.ano.verified.getLsbD 0 then deny s mbDENIED
    else if ¬ flashOk then deny s mbFLASH
    else
      let seq := Nat.max (s.ano.slot 0).seq (s.ano.slot 1).seq + 1
      let s := s.an fun x => x.setSlot i ⟨seq, true, false, 0⟩
      let s := { s with b := s.b.anoleCroak 0x301 0x3FF 0 i svn.toNat 0 }
      (if c.a0 = 1 then (anoleBoot s i ver svn).an fun x => { x with verified := x.verified &&& 6, sessions := [] } else s, mbOK, []))

/-- ANOLE_READY (22 R452, R489; 00 R4): the boot choice. `ed0`, `ml0`, `ed1`, `ml1`: which of each slot's two signatures verify; with
their versions and SVNs. No slot with both: ROM recovery. -/
def execAnoleReady (ed0 ml0 ed1 ml1 : Bool) (ver0 svn0 ver1 svn1 : Word) (s : State) : Host.Outcome State Fault Refusal :=
  if s.ano.run = 0 ∨ s.b.bit .ano ANO.STAT_READY ∨ (s.b.fld .pkg PKG.RST_STAT_STAGE < 4) then .next s
  else
    let good (i : Nat) (ok : Bool) (svn : Word) : Bool :=
      let r := s.ano.slot i
      ok && decide (s.b.fuse.fwCtr ≤ svn.toNat) && !(r.trial && !r.confirmed && decide (3 ≤ r.boots))
    let g0 := good 0 (ed0 && ml0) svn0
    let g1 := good 1 (ed1 && ml1) svn1
    let b1 := s.ano.btnPor || decide ((s.ano.slot 0).seq < (s.ano.slot 1).seq)
    if !g0 && !g1 then .next { s with b := s.b.setBit .ano ANO.STAT_ROM true }
    else if g1 && (b1 || !g0) then .next (anoleBoot s 1 ver1 svn1)
    else .next (anoleBoot s 0 ver0 svn0)

/-! ### Repair, log, telemetry (22 R446, R458, R459) -/

/-- REPAIR_COMMIT: the changes not yet recorded and the soft pad repairs; answered with the records written. -/
def execRepairCommit (copies : Fin 4) (s : State) : Host.Outcome State Fault Refusal :=
  .next (serve s 0x38 fun c s =>
    if c.req ≠ [] then deny s mbBADLEN
    else
      let l := s.vbd.todo ++ softRepairs s
      let y := recordCommit s l copies
      if y.2 then (y.1, mbOK, leBytes l.length 4) else deny y.1 mbFUSE)

/-- CRK_ARCHIVE: answered with the archive number. -/
def execCrkArchive (flashOk : Bool) (s : State) : Host.Outcome State Fault Refusal :=
  .next (serve s 0x40 fun c s =>
    if c.req ≠ [] then deny s mbBADLEN
    else if ¬ flashOk then deny s mbFLASH
    else (archiveLog s, mbOK, leBytes s.ano.life.archives 4))

/-- CRK_UNFREEZE. -/
def execCrkUnfreeze (s : State) : Host.Outcome State Fault Refusal :=
  .next (serve s 0x41 fun c s =>
    if c.req ≠ [] then deny s mbBADLEN else ({ s with b := s.b.setBit .ano ANO.CRK_FROZEN false }, mbOK, []))

/-- The sampled value of sensor `i`. -/
def Anole.sensor (x : Anole) (i : Nat) : Word := SMap.get (fun _ => 0) x.tele i

/-- TELEMETRY: the values of sensors 1 to 34 in order. -/
def execTelemetry (s : State) : Host.Outcome State Fault Refusal :=
  .next (serve s 0x48 fun c s =>
    if c.req ≠ [] then deny s mbBADLEN
    else (s, mbOK, (List.range 34).flatMap fun i => leBytes (s.ano.sensor (i + 1)).toNat 4))

/-- The lifetime block, in the order of 22 R459. -/
def lifeBlock (s : State) : List Byte :=
  let l := s.ano.life
  ([l.hours, l.bands.1, l.bands.2.1, l.bands.2.2.1, l.bands.2.2.2, l.pors, l.warms, s.pwr.trips, l.failovers, l.archives] ++
    (List.range 16).map (fun k => SMap.get (fun _ => 0) s.ano.erases k)).flatMap fun n => leBytes n 4

/-- LIFETIME. -/
def execLifetime (s : State) : Host.Outcome State Fault Refusal :=
  .next (serve s 0x49 fun c s => if c.req ≠ [] then deny s mbBADLEN else (s, mbOK, lifeBlock s))

/-- What sensor `i` measures (22 R459). -/
def sampleSensor (s : State) (i : Nat) : Word :=
  if i ≤ 4 then w32 (s.b.fld (.thm (tw (i - 1))) THM.HOT_T)
  else if i ≤ 8 then w32 (s.b.pinPwr (i - 5))
  else if i = 9 then s.b.word (pbase .bgt + BGT.PKG_PWR.off)
  else if i = 10 then w32 (s.b.fld .bgt BGT.LEVEL_LMAX)
  else if i ≤ 26 then s.b.word (pbase (gdPage (i - 11)) + GD.TEMP.off)
  else w32 (s.b.eflState (i - 27))

/-- TELEMETRY_SAMPLE: once per second. -/
def execTelemetrySample (s : State) : Host.Outcome State Fault Refusal :=
  if s.anoRuns then
    let m := (List.range 34).foldl (fun m i => SMap.set (fun _ => 0) m (i + 1) (sampleSensor s (i + 1))) s.ano.tele
    .next (s.an fun x => { x with tele := m })
  else .next s

/-- The package's T_hot, in 0.25 °C. -/
def Base.pkgHot (b : Base) : Int := towers.foldl (fun a t => if a < b.tHot t then b.tHot t else a) (b.tHot 0)

/-- LIFETIME_WRITE: every hour, to the two sectors alternately. -/
def execLifetimeWrite (s : State) : Host.Outcome State Fault Refusal :=
  if s.anoRuns then
    let h := s.b.pkgHot
    let s := s.an fun x =>
      let l := x.life
      let (a, c, d, e) := l.bands
      let l := { l with hours := l.hours + 1, bands := if h < 340 then (a + 1, c, d, e) else if h < 380 then (a, c + 1, d, e)
        else if h < 420 then (a, c, d + 1, e) else (a, c, d, e + 1) }
      { x with life := l }
    .next { s with b := s.b.send (.flash (if s.ano.life.hours % 2 = 1 then 0xF400000 else 0xF410000) (lifeBlock s)) }
  else .next s

/-! ### Active and standby (22 R444) -/

/-- The bit of the active instance. -/
def Base.activeBit (b : Base) : BitVec 2 := 1#2 <<< b.fld .ano ANO.STAT_ACTIVE

/-- A command in progress ends with status FAILOVER. -/
def failCommand (s : State) : State :=
  match s.ano.cmds with
  | c :: rest => publish (s.an fun x => { x with cmds := rest }) c mbFAILOVER []
  | [] => s

/-! ### The service button (22 R456) -/

/-- Act on a classed press and croak it: 0 identify, 1 none, 2 quiesce, 3 golden. -/
def actPress (s : State) (e : Nat × Nat) : State :=
  let s := { s with b := s.b.anoleCroak 0x300 0x3FF 0 e.1 e.2 0 }
  if e.1 = 0 then s.an fun x => { x with blink := true, identAt := some s.b.aonUs }
  else if e.1 = 2 then
    if s.b.bit .pci PCI.RMV_STAT_REQ then s
    else (List.range 8).foldl (fun s n => if s.b.eflState n = eUP then eflQuiesce s n else s) (rmvReq s)
  else if e.1 = 3 then s.ldrGolden
  else s

/-- Are presses acted on now: an Anole runs, its firmware is ready, and the device is not in SAFE? -/
def State.pressable (s : State) : Bool := s.anoRuns && s.b.bit .ano ANO.STAT_READY && s.b.fld .ckr CKR.STAT_REF != 3

/-- Act on every queued press that may be acted on. -/
def runPresses (s : State) : State :=
  if s.pressable then s.ano.presses.foldl actPress (s.an fun x => { x with presses := [] }) else s

/-- A press is classed. -/
def takePress (s : State) (cls ms : Nat) : State :=
  let b := ((s.b.setFld .ano ANO.BTN_CLASS cls).setFld .ano ANO.BTN_MS (Nat.min ms 65535)).event .ano 12
  runPresses ({ s with b := b }.an fun x => { x with presses := x.presses ++ [(cls, ms)] })

/-- BUTTON_RELEASE: the button is released after `ms` milliseconds. A press held through POR, or acted on at 8 s, is not
classed again. -/
def execButtonRelease (ms : Fin 131072) (s : State) : Host.Outcome State Fault Refusal :=
  let s1 := { s with b := s.b.setBit .ano ANO.BTN_HELD false }
  if s.ano.skip then
    .next ({ s1 with b := s1.b.setFld .ano ANO.BTN_MS (Nat.min ms 65535) }.an fun x => { x with skip := false })
  else .next (takePress s1 (if ms < 1000 then 0 else if ms < 3000 then 1 else if ms < 8000 then 2 else 3) ms)

/-- BUTTON_HOLD_GOLDEN: the button has been held 8 s, and still is. -/
def execButtonHoldGolden (s : State) : Host.Outcome State Fault Refusal :=
  if s.ano.skip then .next s
  else .next ((takePress { s with b := s.b.setBit .ano ANO.BTN_HELD true } 3 8000).an fun x => { x with skip := true })

/-- IDENTIFY_END (25 R502): 30 s after the press. -/
def execIdentifyEnd (s : State) : Host.Outcome State Fault Refusal := .next (s.an fun x => { x with blink := false })

/-! ### Heartbeat and failover (22 R444) -/

/-- HEARTBEAT: the active Anole runs and says so; it also turns to what waited for it. -/
def execHeartbeat (s : State) : Host.Outcome State Fault Refusal :=
  if s.ano.run &&& s.b.activeBit = 0 then .next s
  else .next (runPresses (s.an fun x => { x with hbAt := s.b.aonUs }))

/-- FAILOVER: the standby takes over, 4 ms after the last heartbeat. `sram`: the active instance met an uncorrectable SRAM word, logged with KIND 0x1. -/
def execFailover (sram : Bool) (s : State) : Host.Outcome State Fault Refusal :=
  if s.b.fld .ano ANO.STAT_ACTIVE ≠ 0 ∨ ¬ s.ano.run.getLsbD 1 ∨ (¬ sram ∧ s.b.aonUs < s.ano.hbAt + 4000) then .next s
  else
    let b := if sram then s.b.logErr .ano { kind := 1, uc := true } else s.b
    let b := ((b.setFld .ano ANO.STAT_ACTIVE 1).setBit .ano ANO.STAT_STBY_OK false).raiseNme 3 536 false 0
    let s := { s with b := b.event .ano 10 }.an fun x =>
      { x with run := 2, hbAt := b.aonUs, sessions := [], life := { x.life with failovers := x.life.failovers + 1 } }
    .next (runPresses (failCommand s))

/-- NO_ANOLE_LEFT: no instance runs. The wake logic writes the fatal record, which freezes the log; records then carry boot
count 0. -/
def execNoAnoleLeft (s : State) : Host.Outcome State Fault Refusal :=
  let b := { s.b.setBit .ano ANO.STAT_READY false with crkBoot := 0 }
  let b := (b.setBit .ano ANO.STAT_STBY_OK false).croak 0x250 536 3 2 0 0 0
  .next ({ s with b := b }.an fun x => { x with run := 0, sessions := [] })

/-! ### MCTP and SPDM (22 R454, R455; 18 R379, R380) -/

/-- MCTP_MESSAGE: before READY only Control messages are answered. What PLDM Base, Platform and FRU messages are answered the spec leaves
to PLDM, so those bytes are free. -/
def execMctpMessage (m : MctpMsg) (s : State) : Host.Outcome State Fault Refusal :=
  if !s.anoRuns then .next s
  else
    let queue (op : Nat) (a0 a1 : Word) (req : List Byte) : State :=
      s.an fun x => { x with cmds := x.cmds ++ [⟨true, op, a0, a1, req, none⟩] }
    match m with
    | .setEid e => .next { s with b := (s.b.setFld .ano ANO.MCTP_CFG_EID e.toNat).send (.mctp 0 [e]) }
    | .getEid => .next { s with b := s.b.send (.mctp 0 (leBytes (s.b.fld .ano ANO.MCTP_CFG_EID) 1)) }
    | .sensor i => .next (if s.b.bit .ano ANO.STAT_READY then { s with b := s.b.send (.mctp 0 (leBytes (s.ano.sensor i).toNat 4)) } else s)
    | .fwChunk c o d => .next (if s.anoReady && c != 0 then queue 0x20 (w32 (c.val - 1)) o d else s)
    | .fwVerify c => .next (if s.anoReady && c != 0 then queue 0x21 (w32 (c.val - 1)) 0 [] else s)
    | .fwActivate now => .next (if s.anoReady then queue 0x22 (w32 (b2n now)) 0 [] else s)
    | .pldm _ _ => .next (if s.b.bit .ano ANO.STAT_READY then { s with b := (s.b.send (.mctp 0 (Config.freeBytes s.b.free))).bump } else s)
    | .vendor op a0 a1 req => .next (if s.b.bit .ano ANO.STAT_READY || (s.anoReady && romOp op.toNat) then queue op.toNat a0 a1 req else s)
    | .other => .next s

/-- SPDM_REQUEST: on the DOE mailbox of port A (0) or B (1), or on MCTP (2). Until READY the mailboxes report DOE Busy.
IDE keys are programmed only over a secured session of the port's own mailbox. -/
def execSpdmRequest (port : Fin 3) (q : SpdmReq) (s : State) : Host.Outcome State Fault Refusal :=
  let f := if port = 1 then 9 else 0
  let doe := port == 2 || (s.fnPresent f && s.b.fnLinkUp f && (s.b.fn f).ready)
  let key (id : Word) : Nat := port.val * 2 ^ 32 + id.toNat
  let answer (s : State) (x : Option (BitVec 512 × BitVec 26472)) : State := { s with b := s.b.send (.spdm port x) }
  if !(s.anoRuns && s.b.bit .ano ANO.STAT_READY && doe) then .next s
  else match q with
    | .discovery => .next (answer s none)
    | .signed =>
      .next (answer { s with b := s.b.bump.bump } (some (Config.freeBits 512 s.b.free, Config.freeBits 26472 (s.b.free + 1))))
    | .openSession id => .next (answer (s.an fun x => { x with sessions := if x.sessions.contains (key id) then x.sessions else key id :: x.sessions }) none)
    | .closeSession id => .next (answer (s.an fun x => { x with sessions := x.sessions.filter (· != key id) }) none)
    | .ideKey id n =>
      if s.ano.sessions.contains (key id) && port != 2 then
        .next (answer { s with pci := { s.pci with ide := SMap.set (fun _ => 0) s.pci.ide (16 * port.val + n.val) 1 } } none)
      else .next s
    | .ideStop id n =>
      if s.ano.sessions.contains (key id) && port != 2 then
        .next (answer { s with pci := { s.pci with ide := SMap.set (fun _ => 0) s.pci.ide (16 * port.val + n.val) 0 } } none)
      else .next s

/-! ### Policies (23 R469, R470) -/

/-- The column a held pad entry names: 13 B + i for bit i of byte B, from the Hamming syndrome and the parity (09 R190,
R202). -/
def padColumn (syn : Nat) : Option Nat :=
  let i := if syn % 16 = 0 then (if nbit syn 4 then some 12 else none) else padPos.findIdx? (· == syn % 16)
  i.map fun i => 13 * (syn / 32 % 32) + i

/-- Release a held log entry (02 R25). -/
def Base.releaseLog (b : Base) (p : Page) : Base := (b.setFld p HDR.ERR_LOG0_VALID 0).setFld p HDR.ERR_LOG0_OVF 0

/-- The default policy for a pond: the second ERR_THR that names the same column repairs it softly. -/
def pondPolicy (s : State) (p : Nat) : State :=
  let pg := pond p
  let syn := s.b.fld pg HDR.ERR_LOG3
  let a := s.b.fld pg HDR.ERR_LOG1 + s.b.fld pg HDR.ERR_LOG2_ADDR_HI * 2 ^ 32
  match padColumn syn with
  | none => s
  | some col =>
    if s.b.fld pg HDR.ERR_LOG0_VALID = 1 ∧ s.b.fld pg HDR.ERR_LOG0_KIND = 1 then
      let n := padOfDpa a % 32
      let sb := syn / 1024 % 4
      let k := (n * 4 + sb) * 512 + col
      if SMap.get (fun _ => none) s.ano.pndCol p = some k then
        { s with b := (srCmdWrite s.b p n sb col).releaseLog pg }.an fun x => { x with pndCol := SMap.set (fun _ => none) x.pndCol p none }
      else s.an fun x => { x with pndCol := SMap.set (fun _ => none) x.pndCol p (some k) }
    else s

/-- ANOLE_DEGRADE (23 R470): Anole reads and releases the FLIT_UC entry of tower `t`; the second within 1 s for one level
and direction commits DEGRADE of that level to the other direction. -/
def degradePolicy (s : State) (t : Nat) : State :=
  let pg : Page := .hop (tw t)
  if s.b.fld pg HDR.ERR_LOG0_VALID = 1 ∧ s.b.fld pg HDR.ERR_LOG0_KIND = 2 then
    let syn := s.b.fld pg HDR.ERR_LOG3
    let k := 8 * t + syn % 8
    let prev := SMap.get (fun _ => none) s.ano.flits k
    let s := { s with b := s.b.releaseLog pg }.an fun x => { x with flits := SMap.set (fun _ => none) x.flits k (some s.b.aonUs) }
    match prev with
    | some u =>
      if s.b.aonUs - u ≤ 1000000 ∧ syn % 4 < 3 then
        let f := if syn % 4 = 0 then HOP.MAPCTL_DEGRADE_L else if syn % 4 = 1 then HOP.MAPCTL_DEGRADE_M else HOP.MAPCTL_DEGRADE_B
        if s.b.commitPend pg then { s with b := s.b.event pg 5 }
        else { s with b := hopGo (s.b.setShFld pg f (if nbit syn 2 then 1 else 2)) t }
      else s
    | none => s
  else s

/-- ANOLE_DEGRADE. -/
def execAnoleDegrade (t : Tower) (s : State) : Host.Outcome State Fault Refusal :=
  .next (if s.anoRuns && s.b.bit .ano ANO.STAT_READY then degradePolicy s t else s)

/-- ANOLE_THRESHOLD_POLICY (23 R469), after ERR_THR of page `p`; THRESH = 0 disables it. -/
def execAnoleThresholdPolicy (p : Page) (s : State) : Host.Outcome State Fault Refusal :=
  if !(s.anoRuns && s.b.bit .ano ANO.STAT_READY) || s.b.fld p HDR.ERR_CFG_THRESH == 0 ||
      s.b.word (pbase p + 0x14) &&& 1 == 0 then .next s
  else match p with
    | .pnd n => .next (pondPolicy s n)
    | .gd c =>
      let v := s.b.fld (.gd c) GD.PATROL_S
      .next { s with b := s.b.setFld (.gd c) GD.PATROL_S (if v ≤ 600 then v else Nat.max 600 (v / 2)) }
    | .hop t => .next (degradePolicy s t)
    | _ => .next s

end Sys2Proof.Machine
end

