-- ==== Sys2Proof/Machine/ChamEvent.lean ====
section
/-! DEFINITION. Where the chameleon meets the fabric: changes of mode, EVENT requests, logic-domain power and deep-line
contention (05 R90, R95; 21 R427; 04 R68, R69). -/
namespace Sys2Proof.Machine

/-! ### Modes and requests -/

/-- O of eft `n` of the request tap (05 R95). -/
def State.tapSig (s : State) (t n : Nat) : Option Bool :=
  let m := s.evMarsh t
  s.val (.o (clutchAt t (32 * (m % 32)) (32 * (m / 32))) n)

/-- The levels of the request tap at a switch-clock edge: REQ and CTX; a level the spec leaves open is free. -/
def State.tapSample (s : State) (t : Nat) : Base × Bool × Nat :=
  let r := settleBit s.b (s.tapSig t 0)
  let c0 := settleBit r.1 (s.tapSig t 1)
  let c1 := settleBit c0.1 (s.tapSig t 2)
  let c2 := settleBit c1.1 (s.tapSig t 3)
  (c2.1, r.2, b2n c0.2 + 2 * b2n c1.2 + 4 * b2n c2.2)

/-- The fields of a CHM commit take effect at a switch-clock edge; the tap sampled is the one then named (05 R90,
R95). -/
def State.commitChm (s : State) (t : Nat) : State :=
  let after := { s with b := s.b.applyShadows (chmPage t) }
  let x := after.tapSample t
  { s with b := s.b.bump }.applyChm t x.2.1

/-- MODE_CHANGE (05 R90): the commit edge of CHM's CTRL, EVPORT and EVQ fields. -/
def execModeChange (t : Tower) (s : State) : Host.Outcome State Fault Refusal :=
  if s.b.commitPend (chmPage t) then .next (s.commitChm t) else .next s

/-- EVENT_REQUEST (05 R95): the chameleon samples the request tap at a switch-clock edge. -/
def execEventRequest (t : Tower) (s : State) : Host.Outcome State Fault Refusal :=
  if s.b.gated then .next s
  else
    let x := s.tapSample t
    .next ({ s with b := x.1 }.sampleTap t x.2.1 x.2.2)

/-! ### Logic-domain power (21 R427) -/

/-- The marshes of a logic domain (21 R426). -/
def domainMarshes (d : Nat) : List Nat := (List.range 384).filter (fun m => domainOf m == d)
/-- PWR page of tower `t`. -/
def pwrPage (t : Nat) : Page := .pwr (tw t)

/-- Setting bit `d` of LPD_CTRL (21 R427). -/
def State.lpdOff (s : State) (t d : Nat) : State :=
  let p := pwrPage t
  if nbit (s.b.fld p PWR.LPD_CTRL_OFF) d then s
  else if (domainMarshes d).all (s.b.excludeBit t) then
    let b := s.b.setFld p PWR.LPD_CTRL_OFF (nset (s.b.fld p PWR.LPD_CTRL_OFF) d)
    { s with b := b.setFld p PWR.LPD_STAT_BUSY (nset (s.b.fld p PWR.LPD_STAT_BUSY) d) }
  else { s with b := s.b.event p 9 }

/-- Clearing bit `d` of LPD_CTRL (21 R427). -/
def State.lpdOn (s : State) (t d : Nat) : State :=
  let p := pwrPage t
  if nbit (s.b.fld p PWR.LPD_CTRL_OFF) d then
    let b := s.b.setFld p PWR.LPD_CTRL_OFF (nclr (s.b.fld p PWR.LPD_CTRL_OFF) d)
    { s with b := b.setFld p PWR.LPD_STAT_BUSY (nset (s.b.fld p PWR.LPD_STAT_BUSY) d) }
  else s

/-- A write of LPD_CTRL: each bit that changes is set or cleared. -/
def State.lpdWrite (s : State) (t : Nat) (v : Word) : State :=
  (List.range 16).foldl (fun s d => if v.getLsbD d then s.lpdOff t d else s.lpdOn t d) s

/-- Every plane bit, flip-flop copy and banked routing register of a domain is gone (21 R427). -/
def State.domainLost (s : State) (t d : Nat) : State :=
  let here := fun u m => u == t && domainOf m == d
  { s with
    cfg := { s.cfg with front := clearPlane s.cfg.front t (fun m => domainOf m == d),
                        back := clearPlane s.cfg.back t (fun m => domainOf m == d) },
    fab := { s.fab with
      q := SMap.keep (fun k => !here (cTower (k / 9 / 16)) (cMarsh (k / 9 / 16))) s.fab.q,
      rr := SMap.keep (fun k =>
        let r := k / 8
        let i := r % 0x1000000
        if r / 0x1000000 = 1 then !here (cTower (i / 2)) (cMarsh (i / 2)) else !here (i / 128 / 384) (i / 128 % 384)) s.fab.rr } }

/-- LPD_OFF_DONE (21 R427): the power-off completes. -/
def execLpdOffDone (t : Tower) (d : Fin 16) (s : State) : Host.Outcome State Fault Refusal :=
  let p := pwrPage t
  if nbit (s.b.fld p PWR.LPD_CTRL_OFF) d ∧ nbit (s.b.fld p PWR.LPD_STAT_BUSY) d then
    let s := s.domainLost t d
    let b := s.b.setFld p PWR.LPD_STAT_BUSY (nclr (s.b.fld p PWR.LPD_STAT_BUSY) d)
    .next { s with b := b.setFld p PWR.LPD_STAT_OFF (nset (s.b.fld p PWR.LPD_STAT_OFF) d) }
  else .next s

/-- The tower's live context is copied from the store into a domain's front planes; an uncorrectable frame is logged as by a
refresh, its context quarantined, and its plane frame is left open (21 R427; 06 R129). -/
def State.domainLoad (s : State) (t d : Nat) : State :=
  let own := (domainMarshes d).filter fun m => !s.b.isShell t m
  let s : State := { s with b := own.foldl (fun b m => b.hold t m (some (s.cm t CHM.STAT_LIVE))) s.b }
  let l := s.cfg.store.filter (fun e => faTower e.1 == t && domainOf (faMarsh e.1) == d && faMarsh e.1 < 384 &&
    faCtx e.1 == s.b.liveOf t (faMarsh e.1))
  l.foldl (fun s e =>
    match frameDecode (s.b.bchT t) e.2 with
    | some o => { s with cfg := s.cfg.setFront t (faMarsh e.1) (faFrame e.1) (BitVec.ofNat 4096 o.pay),
                         b := logStaged s.b t (faCtx e.1) (if o.n = 0 then [] else [(e.1, o.n)]) }
    | none =>
      let s := { s with b := (s.b.bump).logErr (.cfg (tw t)) { kind := 3, uc := true, addr := e.1, ctx := some (faCtx e.1) },
                        cfg := s.cfg.setFront t (faMarsh e.1) (faFrame e.1) (Config.freeBits 4096 s.b.free) }
      s.quarantine t (faCtx e.1)) s

/-- LPD_DONE (21 R427): a power-on completes: state copies 0, front planes loaded, OFF cleared. -/
def execLpdDone (t : Tower) (d : Fin 16) (s : State) : Host.Outcome State Fault Refusal :=
  let p := pwrPage t
  if nbit (s.b.fld p PWR.LPD_CTRL_OFF) d = false ∧ nbit (s.b.fld p PWR.LPD_STAT_BUSY) d then
    let s := (s.domainLost t d).domainLoad t d
    let b := s.b.setFld p PWR.LPD_STAT_BUSY (nclr (s.b.fld p PWR.LPD_STAT_BUSY) d)
    .next ({ s with b := (b.setFld p PWR.LPD_STAT_OFF (nclr (s.b.fld p PWR.LPD_STAT_OFF) d)).event p 8 } : State).resettle
  else .next s

/-! ### Deep-line contention (04 R68, R69) -/

/-- The taps of a line's segment that request to drive: `taps` names them by their number on the line. -/
def tapsOf (line : List Nat) (taps : BitVec 4) (seg : List Nat) : List Nat :=
  (line.zipIdx.filter (fun e => taps.getLsbD e.2 && seg.contains e.1)).map Prod.fst
/-- The numbers on the line of the taps of `req`, as a mask. -/
def tapMask (line req : List Nat) : Nat := (line.zipIdx.filter (fun e => req.contains e.1)).foldl (fun a e => nset a e.2) 0

/-- The detector of one segment finds the taps of `req` requesting at once (04 R68, R69): their drivers go off, the keeper holds
what the segment carried, TFLT rises at each, the event is raised and croaked. -/
def State.contend (s : State) (t : Nat) (v : Bool) (id : Nat) (line seg req : List Nat) : State :=
  let pg : Page := .vbd (tw t)
  let x := settleBit s.b (s.val (.deep (req.headD 0) v))
  let fab := seg.foldl (fun f c => { f with keep := SMap.set (fun _ => false) f.keep (tapKey c v) x.2 }) s.fab
  let fab := req.foldl (fun f c => { f with flt := SMap.set (fun _ => false) f.flt (tapKey c v) true }) fab
  let b := (x.1.addFld pg VBD.DLC_CNT 1).logErr pg { kind := 3, addr := id, syn := tapMask line req }
  { s with fab := fab, b := (b.event pg 11).anoleCroak 0x240 (psrc pg) 1 id 0 0 }

/-- DEEP_LINE_CONTENTION (04 R68, R73): on line (a, s, j) of tower `t`, vertical or horizontal, the taps of `taps` request to
drive. Each segment's own detector acts where two or more of its taps do. -/
def execDeepLineContention (t : Tower) (v : Bool) (a : Fin 1024) (sg : Fin 3) (j : Fin 22) (taps : BitVec 4) (s : State) :
    Host.Outcome State Fault Refusal :=
  let line := lineTaps t v a sg j
  if s.b.lineFenced line then .next s
  else .next (((s.segments t line []).filter fun g => decide (2 ≤ (tapsOf line taps g).length)).foldl
    (fun s g => s.contend t v (deepId t v a sg j) line g (tapsOf line taps g)) s).resettle

/-- DEEP_LINE_CONTENTION_END (04 R68): the taps of `taps` still request to drive. In each segment where at most one does, drivers
are enabled again and TFLT falls at every tap. -/
def execDeepLineContentionEnd (t : Tower) (v : Bool) (a : Fin 1024) (sg : Fin 3) (j : Fin 22) (taps : BitVec 4) (s : State) :
    Host.Outcome State Fault Refusal :=
  let line := lineTaps t v a sg j
  let free := ((s.segments t line []).filter fun g => decide ((tapsOf line taps g).length ≤ 1)).flatten
  .next ({ s with fab := free.foldl (fun f c =>
    { f with flt := SMap.set (fun _ => false) f.flt (tapKey c v) false }) s.fab } : State).resettle

end Sys2Proof.Machine
end

