-- ==== Sys2Proof/Machine/HopPort.lean ====
section
/-! DEFINITION. The ports of the user design: fabric hop ports and pond ports sample their input signals, and take a request (14 R294,
R298 to R300; 09 R185, R195); the end of a pad command, which lets the requests that waited for its pad go on (09 R198). -/
namespace Sys2Proof.Machine

/-! ### Fabric hop ports (14 R294, R298, R299) -/

/-- A request a fabric hop port has taken (14 R298, R299): the two 32-byte beats of a write joined. -/
structure PortReq where
  write : Bool
  addr : BitVec 48
  bytes : Fin 128
  prio : Fin 4
  tag : Fin 4096
  data : BitVec 512
  be : BitVec 64
  poisonL : Bool
  poisonH : Bool
  deriving DecidableEq, Repr

/-- Does window `w` of port `h` for context `c` admit the bytes [lo, hi] for a read or a write (14 R294)? -/
def Hop.windowAdmits (x : Hop) (t h c w : Nat) (e write : Bool) (lo hi : Nat) : Bool :=
  let i := 32 * h + 4 * c + w
  let f := fun (g : Fld) => x.mapFld t 0 e (g.nth i)
  f HOP.AP_CTRL_EN == 1 && (if write then f HOP.AP_CTRL_WR == 1 else f HOP.AP_CTRL_RD == 1) &&
    decide (f HOP.AP_BASE ≤ lo / 65536) && decide (hi / 65536 ≤ f HOP.AP_LIMIT)

/-- Does the port sample its inputs: enabled, its clock distributed and running, its marsh powered (14 R299)? -/
def State.hopSampled (s : State) (t h : Nat) : Bool :=
  let pg : Page := .hop (tw t)
  s.b.bit pg (fhpEn h) && s.b.gclkEn t (s.b.fld pg (fhpClk h)) && !s.b.domainDown t (hopPortMarsh h) && !s.b.gated

/-- Input signal `i` of port `h` of tower `t`: the local source that its select names in the clutch that carries it (14 R298, 04 R58). -/
def State.hopIn (s : State) (t h i : Nat) : Option Bool :=
  let c := clutchAt t (32 * (h / 2)) (if h % 2 = 0 then 0 else 383) + i / 16
  s.val (.src c (s.cfg.swb c (562 + 6 * (i % 16)) 6))

/-- What a port samples from `n` signals: a signal with no defined value is a free bit. -/
def sampleBits (n free : Nat) (sig : Nat → Option Bool) : Nat :=
  (List.range n).foldr (fun i a => b2n ((sig i).getD ((Config.freeBits n free).getLsbD i)) + 2 * a) 0

/-- A request as its signals give it: `lo` and `hi` are the beats of a write, whose enables and data they hold. -/
def portReq (write : Bool) (lo hi : Nat) : PortReq :=
  { write := write
    addr := BitVec.ofNat 48 (nget hi 335 288)
    bytes := ⟨nget hi 342 336 % 128, Nat.mod_lt _ (by decide)⟩
    prio := ⟨nget hi 346 345 % 4, Nat.mod_lt _ (by decide)⟩
    tag := ⟨nget hi 358 347 % 4096, Nat.mod_lt _ (by decide)⟩
    data := BitVec.ofNat 512 (nget lo 255 0 + nget hi 255 0 <<< 256)
    be := BitVec.ofNat 64 (nget lo 287 256 + nget hi 287 256 <<< 32)
    poisonL := nget lo 360 360 == 1
    poisonH := nget hi 360 360 == 1 }

/-- Complete a port's request at the port itself, counted in the statistics. -/
def portLocal (s : State) (r : HopReq) (a : HopRsp) : State :=
  let y := hstCount s.b s.hop r.src r.bytes (isRefusal a)
  { s with b := y.1, hop := y.2.present r.src r.ctx r.tag a }

/-- Port `h` of tower `t` has a request: it refuses it, completes it itself, or injects it (14 R294, R299). An excluded marsh's ports
refuse with DISABLED (05 R113). -/
def portTake (s : State) (t : Tower) (h : Fin 64) (q : PortReq) : State :=
  let src : Fin 1024 := ⟨64 * t.val + h.val, by omega⟩
  let pg : Page := .hop t
  let c := s.b.liveOf t (hopPortMarsh h)
  let n := if q.write then 64 else q.bytes.val
  let r : HopReq := ⟨src, false, ⟨c % 8, Nat.mod_lt _ (by decide)⟩, q.prio, q.tag, q.addr, ⟨n % 65, Nat.mod_lt _ (by decide)⟩,
    q.write, q.be, q.data, q.poisonL, q.poisonH⟩
  let lo := q.addr.toNat
  if s.b.upperDown t || s.isOut t (hopPortMarsh h) then portLocal s r (rspStatus stDISABLED)
  else if (q.write && lo % 64 != 0) || (!q.write && decide (64 < lo % 64 + n)) then
    portLocal { s with b := hopUnsup s.b r } r (rspStatus stUNSUPPORTED)
  else if (q.write && q.be == 0) || (!q.write && n == 0) then portLocal s r (rspStatus stOK)
  else
    let s := { s with b := s.b.decUses pg ((List.range 8).map fun j => pbase pg + 0x8000 + 16 * (32 * h.val + 4 * c) + 8 * j) }
    if (List.range 4).any fun w => s.hop.windowAdmits t h c w (s.b.epoch t 0) q.write lo (lo + n - 1) then
      s.inject r q.write false
    else
      let b := (s.b.logErr pg { kind := 3, addr := lo, ctx := some c, src := some src.val }).event pg 8
      portLocal { s with b := b } r (rspStatus stFENCE)

/-- Set or drop the first beat of a write that port `src` has taken. -/
def Hop.setBeat (h : Hop) (src : Nat) (x : Option (BitVec 364)) : Hop := { h with beat := SMap.set (fun _ => none) h.beat src x }

/-- Do two accepted beats belong to one write: the same ADDR, TAG and PRIO, in the same context (14 R299)? -/
def sameWrite (lo hi : Nat) : Bool :=
  nget lo 335 288 == nget hi 335 288 && nget lo 358 345 == nget hi 358 345 && nget lo 363 361 == nget hi 363 361

/-- The port accepts a cycle whose signals are `x`: a read is complete; the first beat of a write waits for the second; beats that
make no write are dropped (DESIGN CHOICE, log entry 100). -/
def portAccept (s : State) (t : Tower) (h : Fin 64) (x : Nat) : State :=
  let src := 64 * t.val + h.val
  let old := SMap.get (fun _ => none) s.hop.beat src
  let s0 := { s with hop := s.hop.setBeat src none }
  if nget x 344 343 = 1 then portTake s0 t h (portReq false x x)
  else if nget x 359 359 = 0 then { s with hop := s.hop.setBeat src (some (BitVec.ofNat 364 x)) }
  else match old with
    | some lo => if sameWrite lo.toNat x then portTake s0 t h (portReq true lo.toNat x) else s0
    | none => s0

/-- FABRIC_HOP_PORT_REQUEST (14 R298, R299): an edge of the port's clock, at which it samples its inputs as they stand before the edge
and accepts a request where OP is 1 or 2 and REQ_READY was 1. -/
def execFabricHopPortRequest (t : Tower) (h : Fin 64) (s : State) : Host.Outcome State Fault Refusal :=
  if !s.hopSampled t h then .next s
  else
    let x := sampleBits 361 s.b.free (s.hopIn t h)
    let s := { s with b := s.b.bump }
    if (nget x 344 343 = 1 ∨ nget x 344 343 = 2) ∧ s.hop.ready (64 * t + h) (nget x 358 347) = true then
      .next (portAccept s t h (x + s.b.liveOf t (hopPortMarsh h) <<< 361))
    else .next s

/-! ### Pond ports (14 R300, 09 R185 to R195) -/

/-- Input `j` of pond port `i` of pond `p`: Q of an eft of its marsh (14 R300). -/
def State.pondIn (s : State) (p i j : Nat) : Bool :=
  let m := portMarsh p i
  let c := clutchAt (p / 32) (32 * (m % 32) + j / 16 % 32) (32 * (m / 32) + 14 + 2 * (i % 2) + j / 512)
  s.qOf c (j % 16)

/-- What pond port `i` of pond `p` samples: a request where OP is 1 or 2. -/
def State.pondSample (s : State) (p : Nat) (i : Fin 24) : Option PondReq :=
  let x := (List.range 596).foldr (fun j a => b2n (s.pondIn p i j) + 2 * a) 0
  let op := nget x 594 593
  if op = 1 ∨ op = 2 then
    some ⟨i, op == 2, ⟨nget x 592 588 % 32, Nat.mod_lt _ (by decide)⟩, ⟨nget x 587 576 % 4096, Nat.mod_lt _ (by decide)⟩,
      BitVec.ofNat 64 (nget x 575 512), BitVec.ofNat 512 (nget x 511 0), nget x 595 595 == 1⟩
  else none

/-- Is a port's request entitled to its pad, its port not LAME (09 R193, R195, R200)? -/
def State.pondEntitled (s : State) (p : Nat) (q : PondReq) : Bool :=
  s.b.entitled p q.port q.pad && !nbit (s.b.fld (pond p) PND.LAMEPP_PORT) q.port

/-- Does a request lose its pad to an entitled port of lower OWNER in the same cycle (09 R195)? -/
def State.pondLoses (s : State) (p : Nat) (qs : List PondReq) (q : PondReq) : Bool :=
  qs.any fun r => decide (r.port < q.port) && r.pad == q.pad && s.pondEntitled p r

/-- A port-B write that reaches its pad in the very cycle of the pond's port-A requests (09 R188). -/
def pondWrite (s : State) (p : Nat) (r : HopReq) : State :=
  let t := s.b.srcTower r.src
  let e := s.reqEpoch r true
  let pad := padOfDpa r.addr.toNat
  if pad / 32 ≠ p ∨ s.mayArrive r true = false ∨ oneBlock r = false ∨ s.ponds.held p (pad % 32) = true ∨
      s.reach t (srcLevel r.src) (p / 32) 1 e = false ∨ s.pathDegraded t (srcLevel r.src) (p / 32) 1 e = true then s
  else
    let s1 := (if (s.hop.sent r true).isNone then s.inject r true false else s).arrived r true false
    match portBFence s1.b r with
    | (b, some a) => { s1 with b := b.answer r a }
    | (b, none) =>
      let y := portBPerform (wakeGroup b p (pad % 32)) s1.ponds r true true
      ({ s1 with b := y.1.answer r y.2.2, ponds := y.2.1 } : State).arbAtTarget t r

/-- POND_PORT_REQUEST (14 R300; 09 R185 to R195): an edge at which the pond ports `ports` of pond `p` sample their inputs: each takes one
request. The lower OWNER is served where several ask for one pad. `w` is a port-B write that reaches a pad of the pond in the same
cycle. -/
def execPondPortRequest (p : Fin 128) (ports : BitVec 24) (w : Option HopReq) (s : State) : Host.Outcome State Fault Refusal :=
  if s.b.gated then .next s
  else
    let qs := ((List.finRange 24).filter fun (i : Fin 24) => ports.getLsbD i && s.portSampled p i).filterMap (s.pondSample p)
    let y := qs.foldl (fun x q => portA x p q (s.pondLoses p qs q)) (s.b, s.ponds)
    let s1 := State.pondShow { s with b := y.1, ponds := y.2 } s.b.out.length
    .next (match w with
      | some r => match dpaRegion r.addr.toNat with
        | .pads _ => pondWrite s1 p r
        | _ => s1
      | none => s1)

/-- PAD_CMD_DONE (09 R198): BIST or ZERO on a pad of pond `p` ends, and everything that waited for the pad goes on. -/
def execPadCmdDone (p : Fin 128) (fails : List (Fin 4 × Fin 416)) (s : State) : Host.Outcome State Fault Refusal :=
  match s.ponds.cmdOf p with
  | none => .next s
  | some c => .next (gkRetry ((padCmdEnd s p c fails).deliver (.pad p ⟨c.pad % 32, Nat.mod_lt _ (by decide)⟩)) p)

end Sys2Proof.Machine
end

