-- ==== Sys2Proof/Machine/Reset.lean ====
section
/-! DEFINITION. The reset classes below POR (24 R493 to R495, 02 R516): BLOCK resets, WARM and its release, CONTEXT
resets and FLRs. -/
namespace Sys2Proof.Machine

/-! ### BLOCK resets (02 R516 and each chapter's reset table) -/

/-- Registers of a page, by offset, that a BLOCK reset keeps although no field of them is sticky: what the block's own
chapter keeps, and read-only fields that show state which the reset does not touch. -/
def blockKeeps (p : Page) (o : Nat) : Bool :=
  match p with
  | .gd _ => o == 0x4C || o == 0x6C || o == 0x70 || o == 0x74
  | .enc _ => o == 0x40 || o == 0x50
  | .pnd _ => decide (0x200 ≤ o ∧ o < 0x400)
  | .cfg _ => o == 0x48
  | .chm _ | .clk _ | .iob _ => decide (0x40 ≤ o)
  | .pwr _ => o == 0x44
  | .thm _ => o == 0x50 || o == 0x58 || decide (0x400 ≤ o)
  | .vbd _ => decide (0x1000 ≤ o)
  | .pkg => o == 0x4C || o == 0x80 || o == 0x90
  | .pci => o == 0x44 || o == 0x48 || o == 0x7C || o == 0x80
  | .efl _ => o == 0x48
  | .bgt => o == 0x88
  | .ckr => o == 0x44 || o == 0x58 || o == 0x5C
  | .ano => o == 0x40 || o == 0x44 || o == 0x48
  | .fus => o == 0x58 || o == 0x5C
  | .twr _ | .molt _ | .que _ | .hop _ | .hst _ | .gkc _ | .scb _ | .slt _ | .evr | .ldr => false

/-- The registers of page `p` after a BLOCK reset of it. -/
def State.blockRegs (s : State) (p : Page) : State := { s with b := s.b.blockRegs p (blockKeeps p) }

/-- Must work of the page's block end before a BLOCK reset takes effect: a reseal (17 R351), requests
that a controller accepted (16 R337), a pad command or a soft-repair copy
(09 R203), a commit, refresh or re-encode (06 R142), a commit of the loader (08 R181), a command of Anole (22)? -/
def State.blockBusy (s : State) (p : Page) : Bool :=
  match p with
  | .gd c => !(SMap.get (fun _ => []) s.gdr.held c).isEmpty || s.hop.homes.any (fun w => w.home == c.val)
  | .enc c => !(SMap.get (fun _ => []) s.gdr.reseal c).isEmpty
  | .pnd n => (s.ponds.cmdOf n).isSome || s.b.bit p PND.SR_STAT_BUSY
  | .cfg t => s.reencoding t || s.b.bit p CFG.STAT_WRITING || s.b.bit p CFG.STAT_REFRESH || s.cm t CHM.BUSY_COMMITTING != 0
  | .ldr => s.phase == 3
  | .hop t => [0, 1, 2].any fun l => s.remains t l false || s.remains t l true
  | .ano => !s.ano.cmds.isEmpty
  | _ => false

/-- The chameleon of tower `t` under a BLOCK reset of CHM (05 R118): MODE STATIC, staging and any EVENT request
abandoned without a status word. -/
def State.chmReset (s : State) (t : Nat) : State :=
  let s := s.abandonStage t
  let b := (s.b.setBoth (chmPage t) CHM.CTRL_MODE 0).setFld (chmPage t) CHM.STAT_EV_PEND 0
  { s with b := b.setFld (chmPage t) CHM.STAT_CMD_PEND 0 }.setCh t (fun x =>
    if wantsShell x.want then { x with evCtx := none, running := false, ran := false, late := false, named := none, saved := none }
    else { Cham.init with copying := x.copying })

/-- Reload the shadows of the tables of chapter 17 from their live values (02 R27, R516). -/
def Base.encReload (b : Base) : Base :=
  let keys := (b.regs.map Prod.fst ++ b.shad.map Prod.fst).filter (fun a => decide (0x24000 ≤ a) && decide (a < 0x26000))
  keys.foldl (fun b a => b.setShWord a (rwsMix a (b.shWord a) (b.word a))) b

/-- The commit of the tables of chapter 17 is one for all sixteen ENC pages: a BLOCK reset of one abandons it in all. -/
def State.encAbandon (s : State) : State :=
  if s.b.encPending then
    let b := (List.range 16).foldl (fun b c => (b.setFld (encPage c) HDR.BLK_STAT_COMMIT_PEND 0).setParts (encPage c) 0) s.b
    { s with b := b.encReload }
  else s

/-- Gecko `g` stopped and cleared (11 R243): line cache empty, registers 0, channels stopped; its memories are kept. -/
def State.gkClear (s : State) (g : Nat) : State :=
  let s := gkEmpty s g
  { s with gko := s.gko.put g Gecko.init }

/-- The hop network of tower `t` under a BLOCK reset of HOP (14 R305): maps and apertures at their reset values. -/
def State.hopClear (s : State) (t : Nat) : State :=
  { s with arb := arbReset s.arb (.bridge (tw t)),
           hop := { s.hop with maps := SMap.keep (fun k => !(k / 65536 / 6 == t)) s.hop.maps,
                               fhpPend := SMap.keep (fun k => !(k / 64 == t)) s.hop.fhpPend } }

/-- The statistics of tower `t` begin again (14 R305). -/
def State.hstClear (s : State) (t : Nat) : State :=
  { s with hop := { s.hop with hst := SMap.keep (fun k => !(k / 32 / 1024 == t)) s.hop.hst,
                               hstAt := SMap.set (fun _ => 0) s.hop.hstAt t s.b.aonUs } }

/-- An Efmel port is taken DOWN and, under AUTO, trains (19 R402). -/
def State.eflClear (s : State) (n : Nat) (train : Bool) : State :=
  let st := if s.b.bit (eflPage n) EFL.STAT_PRSNT then eDOWN else eABSENT
  let s := eflDown s n st
  let s := s.blockRegs (eflPage n)
  let s := s.eflUpd n fun x => { Efl.init with pinLow := x.pinLow, pinAt := x.pinAt }
  if train && st == eDOWN then eflTrain s n else s

/-- A load not yet committing is discarded with code RESET; a golden sequence ends without BARE (08 R181). -/
def State.ldrDiscard (s : State) (code : Nat) : State := if s.phase = 0 then s else s.loadFail code 0 false

/-- A BLOCK reset of LDR with no commit in progress (08 R181): the load is discarded, the registers reset; a window whose time was over
while the load ran expires now. -/
def State.ldrBlock (s : State) : State :=
  let due := s.ldr.winDue
  let s := ((s.ld (fun l => { l with winDue := false })).ldrDiscard 0x31).ldrReset
  if due then s.expireNow else s

/-- What a BLOCK reset of page `p` does; none while memory cannot take what must be written back first. -/
def State.blockEffect (s : State) (p : Page) : Option State :=
  match p with
  | .gd c => some (({ s with arb := arbReset s.arb (.gd c), b := gdLeaveSref s.b c,
                             gdr := { s.gdr with passAt := SMap.set (fun _ => 0) s.gdr.passAt c s.b.aonUs } } : State).blockRegs p)
  | .enc _ => some (s.encAbandon.blockRegs p)
  | .que t => match drainTower s t with
    | .ok s => some ((s.blockRegs p).pendCnt t)
    | .error _ => none
  | .hop t => some ((s.hopClear t).blockRegs p)
  | .hst t => some ((s.hstClear t).blockRegs p)
  | .gkc g => (gkFlush s g).map (fun s => (s.gkClear g).blockRegs p)
  | .pnd n => some (({ s with arb := arbReset s.arb (.pond n),
                              ponds := { s.ponds with passAt := SMap.set (fun _ => 0) s.ponds.passAt n s.b.aonUs } } : State).blockRegs p)
  | .cfg t => some (({ s with cfg := { s.cfg with rbAt := SMap.set (fun _ => 0) s.cfg.rbAt t 0 } } : State).blockRegs p)
  | .chm t => some ((s.chmReset t).blockRegs p)
  | .scb t => some (({ s with cfg := { s.cfg with cmpNext := SMap.set (fun _ => false) s.cfg.cmpNext t false,
                                                  passAt := SMap.set (fun _ => 0) s.cfg.passAt t s.b.aonUs } } : State).blockRegs p)
  | .slt t =>
    let s := (s.blockRegs p).setCh t (fun x => { x with copying := false })
    some (s.sltChanged t true)
  | .thm t =>
    let s := s.blockRegs p
    let b := recomputeTl s.b [t]
    some { s with b := updateLevels b s.pwr.pwrFail,
                  pwr := { s.pwr with cnt := SMap.keep (fun k => !(k / 448 == t)) s.pwr.cnt } }
  | .bgt =>
    let s := s.blockRegs p
    some { s with b := updateLevels s.b s.pwr.pwrFail, pwr := { s.pwr with under := 0 } }
  | .ckr => some ((s.blockRegs p))
  | .efl n => some (s.eflClear n (s.b.bit p EFL.CTRL_AUTO))
  | .ano => some ((s.an fun x => { x with buf := [] }).blockRegs p)
  | .fus => some { (s.blockRegs p) with b := fusLoad (s.blockRegs p).b }
  | .ldr => some s.ldrBlock
  | .twr _ | .molt _ | .pwr _ | .clk _ | .vbd _ | .pkg | .pci | .iob _ | .evr => some (s.blockRegs p)

/-- Is the effect of a BLOCK reset of the page with event source `n` still due? -/
def Boot.srstDue (x : Boot) (n : Nat) : Bool := SMap.get (fun _ => false) x.srst n

/-- Record whether it is. -/
def State.setSrst (s : State) (p : Page) (v : Bool) : State :=
  { s with boot := { s.boot with srst := SMap.set (fun _ => false) s.boot.srst (psrc p) v } }

/-- Perform a BLOCK reset whose block has no work left; otherwise it stays due. -/
def State.blockTry (s : State) (p : Page) : State :=
  if s.blockBusy p then s.setSrst p true
  else match s.blockEffect p with
    | none => s.setSrst p true
    | some s' => s'.setSrst p false

/-- A write of BLK_CTRL.SRST = 1 (02 R25, R516): STATE reads RESETTING; the reset takes effect once the block's work has ended. A
commit of the loader that must end first performs the reset itself (08 R181). -/
def State.srst (s : State) (p : Page) : State :=
  let s := { s with b := s.b.setFld p HDR.BLK_STAT_STATE stResetting }
  if p = .ldr ∧ s.phase = 3 then (s.ld (fun l => { l with resetDue := true }))
  else s.blockTry p

/-- The state a page shows when its reset has ended: FAULT stays with a controller whose training failed (16 R318). -/
def Base.resetEndState (b : Base) (p : Page) : Nat :=
  match p with
  | .gd _ => if b.bit p GD.STAT_TRAIN_FAIL then stFault else b.restState p
  | _ => b.restState p

/-- BLOCK_RESET_DONE (02 R516): the reset of page `p` ends, unless its effect is still due; the page accepts writes again. -/
def execBlockResetDone (p : Page) (s : State) : Host.Outcome State Fault Refusal :=
  if s.b.fld p HDR.BLK_STAT_STATE ≠ stResetting then .next s
  else
    let s := if s.boot.srstDue (psrc p) then s.blockTry p else s
    if s.boot.srstDue (psrc p) || (p == .ldr && s.ldr.resetDue) then .next s
    else .next { s with b := s.b.setFld p HDR.BLK_STAT_STATE (s.b.resetEndState p) }

/-! ### CONTEXT resets (24 R494) -/

/-- The contexts of a mask that CHM.BUSY names in some tower. -/
def Base.busyCtxs (b : Base) : Nat :=
  towers.foldl (fun a t => a ||| b.fld (chmPage t) CHM.BUSY_COMMITTING ||| b.fld (chmPage t) CHM.BUSY_QUAR) 0

/-- Completions of context `c` for fabric hop ports are discarded, those that ports hold and those still to come (14 R305). -/
def Hop.flrPorts (h : Hop) (c : Nat) : Hop :=
  { h with ports := SMap.mapKV (fun _ => []) (fun _ l => l.filter fun o => o.ctx != c) h.ports
           tags := SMap.mapKV (fun _ => none) (fun k x => if k / 4096 < 256 then x.map fun x =>
             if x.req.ctx.val = c then { x with expired := true } else x else x) h.tags }

/-- A write of PKG.CTX_RST with GO: the write enables of the contexts named fall and stay low. -/
def ctxRst (s : State) (mask : Nat) : State :=
  if mask % 256 = 0 then s
  else if s.b.fld .pkg PKG.CTX_STAT_ACTIVE ≠ 0 then { s with b := s.b.event .pkg 10 }
  else
    let rej := mask % 256 &&& s.b.busyCtxs
    let act := mask % 256 - rej
    let b := (s.b.setFld .pkg PKG.CTX_STAT_REJ rej).setFld .pkg PKG.CTX_STAT_ACTIVE act
    let s := ({ s with b := b, hop := (maskCtxs act).foldl Hop.flrPorts s.hop } : State).weFallAll act
    ({ s with b := s.b.eventIf (rej != 0) .pkg 10 } : State).settle

/-- CTX_RST_END (24 R494): CTX_HOLD.CYCLES switch-clock cycles have passed; release follows R132. -/
def execCtxRstEnd (s : State) : Host.Outcome State Fault Refusal :=
  let act := s.b.fld .pkg PKG.CTX_STAT_ACTIVE
  if act = 0 then .next s
  else
    let s := { s with b := (s.b.setFld .pkg PKG.CTX_STAT_ACTIVE 0).event .pkg 9 }
    .next (s.release act).settle

/-! ### Function-level resets (18 R381) -/

/-- The function's own flag, and FLR_STAT: an FLR of a PF or of one of its VFs is in progress (18 R384). -/
def State.setFlr (s : State) (f : Nat) (v : Bool) : State :=
  let b := s.b.setFn f (fun x => { x with flr := v })
  let pf := fnPf f
  if pf < 9 then
    { s with b := b.setFld .pci PCI.FLR_STAT_PF (nwr (b.fld .pci PCI.FLR_STAT_PF) pf (allFns.any fun g => fnPf g == pf && (b.fn g).flr)) }
  else { s with b := b }

/-- Every gecko bound to context `c` stops (11 R243): its registers, PC among them, are 0; BIND is kept. -/
def State.flrGeckos (s : State) (c : Nat) : State :=
  (List.range 128).foldl (fun s g =>
    if s.b.gkCtx g = c then
      let b := ((s.b.setFld (gkPage g) GKC.STAT 0).setFld (gkPage g) GKC.AGS_OUTWIN 0).setPc g 0
      let b := (List.range 4).foldl (fun b n => b.setDmaBusy g n false) b
      ({ s with b := b } : State).gkClear g
    else s) s


/-- FLR of PF(c + 1): the PF and its VFs, and what each chapter resets of context `c`. -/
def flrContext (s : State) (c : Nat) : State :=
  let f := c + 1
  let s := (s.pfReset f).setFlr f true
  let s := { s with pci := s.pci.abandon fun g => fnPf g == f }
  let s := ({ s with b := s.b.event .pci 15, hop := s.hop.flrPorts c } : State).flrQueues c
  ((s.flrGeckos c).weFallAll (1 <<< c)).settle

/-- FLR (18 R381): an FLR of PF(c + 1). -/
def execFlr (c : Ctx) (s : State) : Host.Outcome State Fault Refusal :=
  if s.b.fnLinkUp (c.val + 1) && (s.b.fn (c.val + 1)).ready then .next (flrContext s c) else .next s

/-- FLR_PF0 (18 R381; 08 R181; 22 R461): PF0's configuration space; a host load not yet committing is discarded with code
ABORTED; a mailbox command that Anole has not started is discarded. -/
def execFlrPf0 (s : State) : Host.Outcome State Fault Refusal :=
  if s.b.fnLinkUp 0 && (s.b.fn 0).ready then
    let s := (s.pfReset 0).setFlr 0 true
    let s := { s with b := s.b.event .pci 15, pci := s.pci.abandon fun g => g == 0 }
    let s := if s.loadSrc = 0 ∧ (s.phase = 1 ∨ s.phase = 2) then s.loadFail 0x30 0 false else s
    let gone := s.ano.cmds.any (fun c => !c.mctp && c.res.isNone)
    let s := s.an fun x => { x with cmds := x.cmds.filter (fun c => c.mctp || c.res.isSome) }
    .next (if gone then { s with b := s.b.setBit .ano ANO.MB_STAT_BUSY false } else s)
  else .next s

/-- FLR_VF (18 R381): the configuration space of VF `v` (0 to 31) of PF(c + 1). -/
def execFlrVf (c : Ctx) (v : Fin 32) (s : State) : Host.Outcome State Fault Refusal :=
  let f := vfNo c (v.val + 1)
  if s.b.fnLinkUp f && s.fnPresent f then
    .next (({ s with b := (s.b.fnReset f).event .pci 15, pci := s.pci.abandon fun g => g == f } : State).setFlr f true)
  else .next s

/-- FLR_DONE (18 R381): an FLR ends; the context of a PF is released under R132. -/
def execFlrDone (f : FnNo) (s : State) : Host.Outcome State Fault Refusal :=
  if (s.b.fn f).flr then
    let s := s.setFlr f false
    .next (if 1 ≤ f.val ∧ f.val < 9 then (s.release (1 <<< (f.val - 1))).settle else s)
  else .next s

/-! ### WARM (24 R493, R495) -/

/-- Registers, by offset, that WARM keeps although no field of them is sticky. -/
def warmKeeps (p : Page) (o : Nat) : Bool :=
  match p with
  | .gd _ => o == 0x4C || o == 0x6C || o == 0x70 || o == 0x74
  | .enc _ => o == 0x40 || o == 0x50
  | .pnd _ => decide (0x200 ≤ o ∧ o < 0x400)
  | .cfg _ => o == 0x48
  | .chm _ => o == 0x48 || o == 0x4C || o == 0x58 || o == 0x64 || o == 0xC0 || decide (0xC0 ≤ o ∧ o < 0xF0)
  | .pwr _ => o == 0x44
  | .thm _ => o == 0x50 || o == 0x58 || decide (0x400 ≤ o)
  | .bgt => decide (0x80 ≤ o ∧ o < 0x8C)
  | .clk _ => o == 0x48 || decide (0x100 ≤ o)
  | .ckr => o == 0x44 || o == 0x58 || o == 0x5C
  | .vbd _ => decide (0x1000 ≤ o)
  | .pkg => o == 0x4C || o == 0x80
  | .pci => o == 0x44 || o == 0x48
  | .efl _ => o == 0x48
  | .iob _ => o == 0x44
  | .fus => o == 0x58 || o == 0x5C
  | .twr _ | .molt _ | .que _ | .hop _ | .hst _ | .gkc _ | .scb _ | .slt _ | .ano | .evr | .ldr => false

/-- Reseals, re-encodes, commits, soft-repair copies and line caches end first, or are cut off, as WARM begins (17 R351,
06 R142, 08 R181, 09 R203, 11 R243). -/
def warmWork (s : State) : State :=
  let s := (List.range 16).foldl (fun s c => (SMap.get (fun _ => []) s.gdr.reseal c).foldl (fun s _ => resealEnd s c) s) s
  let s := towers.foldl State.reencodeEnd s
  let s := s.ld (fun l => { l with goldenNext := false, resetDue := false, winDue := false, golden := false })
  let s := if s.phase = 3 then s.commitFail 0x42 else s.ldrDiscard 0x31
  let s := (List.range 128).foldl softRepairEnd s
  let s := (List.range 128).foldl gkEmpty s
  let s := (heldOrder s.hop.heldFlits).foldl goOn { s with hop := { s.hop with heldFlits := [], levels := [] } }
  (List.range 16).foldl (fun s c => let x := gdRetry (gdWake s.b c) s.gdr c; { s with b := x.1, gdr := x.2 }) s

/-- The chameleons return to STATIC with their live contexts kept (05 R118). -/
def warmCham (s : State) : State :=
  towers.foldl (fun s t =>
    let s := s.abandonStage t
    let pg := chmPage t
    let ph := if s.frozenOne t && s.lameExcluded t then 0 else s.cm t CHM.STAT_PHASE
    let live := s.cm t CHM.STAT_LIVE
    let quar := s.cm t CHM.BUSY_QUAR
    let b := (s.b.setWord (pbase pg + 0x48) 0).setWord (pbase pg + 0x64) 0
    { s with b := ((b.setFld pg CHM.STAT_LIVE live).setFld pg CHM.STAT_PHASE (if ph = 3 then 3 else 0)).setFld pg CHM.BUSY_QUAR quar }.setCh
      t (fun _ => Cham.init)) s

/-- The hop network after WARM (14 R305). -/
def Hop.init : Hop := ⟨[], 0, [], [], [], [], [], [], [], [], [], [], [], [], [], []⟩

/-- Is a message an answer on the hop network? -/
def Msg.isHop : Msg → Bool
  | .hop _ _ _ _ _ _ _ => true
  | _ => false

/-- Both Anole instances restart (22 R461): a command in progress ends with FAILOVER; what their memories held is gone. -/
def warmAnole (s : State) : State :=
  let s := failCommand s
  { s with b := { s.b with crkBoot := 0 } }.an fun x =>
    { x with run := 3, cmds := [], buf := [], verified := 0, sessions := [], tele := [], blink := false, presses := [],
             flits := [], pndCol := [], life := { x.life with warms := x.life.warms + 1 } }

/-- The PCIe functions after WARM: not ready, every link down, every size register in effect (18 R372, R381, R383). -/
def warmPcie (s : State) : State :=
  let s := linkReset (linkReset s false) true
  { s with b := { s.b with fns := [], msixTab := [], msixPend := [] }.latch (fun _ => true),
           pci := { s.pci with sriov := [], rmvWait := false, shut := false, held := [] } }

/-- The registers after WARM, and what is computed from them. -/
def warmPages (s : State) : State :=
  let b := allPages.foldl (fun b p => b.warmRegs p (warmKeeps p)) s.b
  let b := b.encReload
  let b := (List.range 16).foldl (fun b c => if b.bit (gdPage c) GD.STAT_TRAIN_FAIL
    then b.setFld (gdPage c) HDR.BLK_STAT_STATE stFault else b) b
  let b := fusLoad (recomputeTl b towers)
  let k := { s.clk with tgt := [] }
  let b := towers.foldl (fun b t => updateRampst b k t) b
  { s with b := updateLevels b s.pwr.pwrFail, clk := k, pwr := { s.pwr with under := 0 } }

/-- WARM is entered. -/
def warmEnter (s : State) : State :=
  let s := warmCham ((warmWork s).weFallAll 255)
  let s := (List.range 8).foldl (fun s n => s.eflClear n false) s
  let s := warmAnole (warmPcie s)
  let s := { s with arb := [], que := [], hop := Hop.init, ponds := { s.ponds with cmd := [], aRows := [], waitA := [], passAt := passAll 128 s.b.aonUs },
                    b := { s.b with out := s.b.out.filter fun m => !m.isHop },
                    gdr := { s.gdr with passAt := passAll 16 s.b.aonUs },
                    gko := { s.gko with g := [] },
                    fab := { s.fab with keep := [], flt := [], pondOut := [] },
                    cfg := { s.cfg with refresh := [], rbAt := [], cmpNext := [], passAt := passAll 4 s.b.aonUs } }
  let s := warmPages s
  let b := (List.range 16).foldl (fun b c => if b.fld (gdPage c) GD.RATE_CUR = 0 then b else gdEnterSref b c) s.b
  let b := (b.setFld .pkg PKG.RST_STAT_STAGE 4).setFld .pkg PKG.RST_STAT_CAUSE 1
  let again := s.b.fld .ldr LDR.CONTENT_CTX == 0 || (s.b.part.op && !nbit (s.b.fld .ldr LDR.CONTENT_CTX) 0)
  let s := { s with b := b, boot := { s.boot with perstA := false, warm := true, relDue := false, srst := [] } }
  (s.ld (fun l => { l with armed := again })).settle

/-- WARM (24 R493): PE_PERST0_N falls. In stages 0 to 4 it is absorbed (R491). -/
def execWarm (s : State) : Host.Outcome State Fault Refusal :=
  if s.b.fld .pkg PKG.RST_STAT_STAGE ≤ 4 ∨ s.b.dead then .next { s with boot := { s.boot with perstA := false } }
  else .next (warmEnter s)

/-- The functions of the released ports become ready (18 R378). -/
def State.fnsReady (s : State) : State :=
  if 5 ≤ s.b.fld .pkg PKG.RST_STAT_STAGE then
    { s with b := (List.range 10).foldl (fun b f =>
        if (if b.onPortB f then s.boot.perstB else s.boot.perstA) && (f != 9 || b.bif)
        then b.setFn f (fun x => { x with ready := true }) else b) s.b }
  else s

/-- BOOT_MS, saturating, as stage 5 begins (24 R496). -/
def State.bootMs (s : State) : State :=
  { s with b := s.b.setFld .pkg PKG.RST_STAT_BOOT_MS (Nat.min 65535 ((s.b.aonUs - s.boot.since) / 1000)) }

/-- Stage 5 begins (24 R488): functions ready, Efmel ports train under AUTO. -/
def State.stageReady (s : State) : State :=
  let s := s.bootMs
  let s := { s with b := (s.b.setFld .pkg PKG.RST_STAT_STAGE 5).event .pkg 8 }
  (List.range 8).foldl (fun s n => if s.b.bit (eflPage n) EFL.CTRL_AUTO then eflTrain s n else s) s.fnsReady

/-- WARM_RELEASE (24 R493, R484): PE_PERST0_N is released in WARM. The service groups are tested, with the failures of
`fails`; stage 5 begins; the controllers leave self-refresh and repeat read and write training (16 R337). -/
def execWarmRelease (fails : List (Tower × Fin 65536 × BitVec 68)) (s : State) : Host.Outcome State Fault Refusal :=
  if s.boot.warm then
    let s := { s with boot := { s.boot with warm := false, perstA := true, since := s.b.aonUs } }
    let s := fails.foldl (fun s e => if grpKind e.2.1 = some 5 then bondTest s e.1 e.2.1 e.2.2 true else s) s
    let s := (List.range 16).foldl (fun s c =>
      if s.b.fld (gdPage c) GD.RATE_CUR = 0 then s
      else
        let x := gdTrainBegin (gdLeaveSref s.b c) s.gdr c 2
        { s with b := x.1, gdr := x.2 }) s
    let s := s.stageReady
    .next { s with boot := { s.boot with relDue := s.b.bit .pkg PKG.RST_CFG_WARM_REL } }
  else .next s

/-- WARM_REL (24 R495): the first switch-clock edge after WARM at which stage 5 has begun and every controller has
retrained. -/
def execWarmRel (s : State) : Host.Outcome State Fault Refusal :=
  if s.boot.relDue && (List.range 16).all (fun c => !s.b.gdTraining c) &&
      !(s.b.part.op && !nbit (s.b.fld .ldr LDR.CONTENT_CTX) 0) then
    let s := { s with boot := { s.boot with relDue := false } }
    .next (s.release s.b.warmMask).settle
  else .next s

end Sys2Proof.Machine
end

