-- ==== Sys2Proof/Machine/Startup.lean ====
section
/-! DEFINITION. Power-on reset, brown-out, the boot stages (24 R485 to R492), the supplies of the I/O banks (25 R507) and
the test access port (25 R509 to R513). -/
namespace Sys2Proof.Machine

/-! ### Power-on reset (24 R487, R488) -/

/-- Words of the ANO page that hold the croak log's state. -/
def crkWords : List Nat := [pbase .ano + ANO.CRK.off, pbase .ano + ANO.CRK_SEQ.off, pbase .ano + ANO.CRK_LOST.off]

/-- Take the words at `l` of `b` from `old`. -/
def Base.takeWords (b old : Base) (l : List Nat) : Base := l.foldl (fun b a => b.setWord a (old.word a)) b

/-- The croak log of `old`, with the registers that describe it. -/
def Base.takeLog (b old : Base) : Base :=
  { b with crkLog := old.crkLog, crkNext := old.crkNext }.takeWords old crkWords

/-- What every power-on leaves: the part, its fuses and records, the flash's activation records and lifetime block, what
stands outside the device, what it has sent, the free values used, and the queue; all else at its reset value. A new
counter key is drawn (17 R364), and the measurements are taken anew (22 R453). -/
def powerOn (s : State) : State :=
  let b := { Base.reset with part := s.b.part, fuse := s.b.fuse, out := s.b.out, free := s.b.free + 1, meas := s.b.meas }
  let b := b.setBit .pkg PKG.JTAG_CTRL_PINCTL (!s.b.part.op)
  { State.reset with
    b := (List.range 13).foldl (fun b i => b.measure (i + 1)) b,
    pins := { State.reset.pins with ext := s.pins.ext },
    gdr := { State.reset.gdr with ctrKey := s.b.free },
    ano := { State.reset.ano with slots := s.ano.slots, erases := s.ano.erases,
                                  life := { s.ano.life with pors := s.ano.life.pors + 1 } },
    vbd := { State.reset.vbd with records := s.vbd.records },
    boot := { State.reset.boot with perstA := s.boot.perstA, perstB := s.boot.perstB },
    pending := s.pending }

/-- The presence pins as `prsnt` samples them, bit n for port n (24 R488, 19 R399). -/
def samplePresence (s : State) (prsnt : BitVec 8) : State :=
  (List.range 8).foldl (fun s n =>
    if prsnt.getLsbD n then
      { s with b := (s.b.setBit (eflPage n) EFL.STAT_PRSNT true).setEflState n eDOWN }.eflUpd n fun x => { x with pinLow := true }
    else s) s

/-- POR (24 R488, stage 0): `sram`: the croak log's SRAM passes its check, else the log is lost and says so; `button`: the
service button is held; `prsnt`: the ports whose presence pin is low. -/
def execPor (sram button : Bool) (prsnt : BitVec 8) (s : State) : Host.Outcome State Fault Refusal :=
  let t := samplePresence (powerOn s) prsnt
  let b := if sram then t.b.takeLog s.b else t.b.anoleCroak 2 0x3FF 1 0 0 0
  .next ({ t with b := b.setBit .ano ANO.BTN_HELD button }.an fun x => { x with btnPor := button, skip := button })

/-- BROWNOUT (24 R487): a core supply leaves tolerance after T0. The AON domain keeps its time base, the croak log, the
presence state and the service button's, RST_STAT and RST_CFG (24 R496), and PWR_FAIL_N stays as it is. -/
def execBrownout (s : State) : Host.Outcome State Fault Refusal :=
  if s.b.fld .pkg PKG.RST_STAT_STAGE < 2 then .next s
  else
    let t := powerOn s
    let held := s.b.bit .ano ANO.BTN_HELD
    let b := ({ t.b with aonUs := s.b.aonUs }.takeLog s.b).takeWords s.b
      [pbase .pkg + PKG.RST_STAT.off, pbase .pkg + PKG.RST_CFG.off, pbase .ano + ANO.BTN.off]
    let b := (b.setFld .pkg PKG.RST_STAT_CAUSE 2).setFld .pkg PKG.RST_STAT_STAGE 1
    let t := { t with b := updateLevels b s.pwr.pwrFail, pwr := { t.pwr with pwrFail := s.pwr.pwrFail },
                      cfg := { t.cfg with passAt := passAll 4 b.aonUs }, ponds := { t.ponds with passAt := passAll 128 b.aonUs },
                      gdr := { t.gdr with passAt := passAll 16 b.aonUs } }
    let t := (List.range 8).foldl (fun t n =>
      let pr := s.b.bit (eflPage n) EFL.STAT_PRSNT
      { t with b := (t.b.setBit (eflPage n) EFL.STAT_PRSNT pr).setEflState n (if pr then eDOWN else eABSENT) }.eflUpd n fun x =>
        { x with pinLow := (eflAt s.efl n).pinLow, pinAt := (eflAt s.efl n).pinAt }) t
    .next (t.an fun x => { x with btnPor := held, skip := held, presses := s.ano.presses })

/-! ### The boot stages (24 R486, R488) -/

/-- Set STAGE. -/
def Base.setStage (b : Base) (n : Nat) : Base := b.setFld .pkg PKG.RST_STAT_STAGE n

/-- Bank `k` senses its supply (25 R504). -/
def senseVio (b : Base) (k : Nat) (ok v18 : Bool) : Base :=
  (b.setBit (iobPage k) IOB.BANK_CFG_VIO_OK ok).setBit (iobPage k) IOB.BANK_CFG_VIO_18 (ok && v18)

/-- T0 (24 R486): stage CLOCKS begins, PE_BIF and each bank's supply are sampled: `vio` names the banks whose supply is within
tolerance, `v18` those at 1.8 V. -/
def execT0 (peBif : Bool) (vio v18 : BitVec 12) (s : State) : Host.Outcome State Fault Refusal :=
  if 2 ≤ s.b.fld .pkg PKG.RST_STAT_STAGE then .next s
  else
    let b := ((s.b.setStage 2).setBit .pkg PKG.STRAP_PE_BIF peBif).setBit .pci PCI.LINK_STAT_BIF peBif
    let b := (List.range 12).foldl (fun b k => senseVio b k (vio.getLsbD k) (v18.getLsbD k)) b
    .next ({ s with b := b, boot := { s.boot with since := b.aonUs } } : State).settle

/-- CLOCKS_DONE (24 R488): FIO runs and is qualified, the root locks to REFCLK, or to FIO in holdover when REFCLK is not
good, and RC starts at 0. -/
def execClocksDone (refOk : Bool) (s : State) : Host.Outcome State Fault Refusal :=
  if s.b.fld .pkg PKG.RST_STAT_STAGE ≠ 2 then .next s
  else
    let b := { (s.b.setStage 3) with rc := 0 }
    let b := ((b.setBit .ckr CKR.STAT_FIO_RUN true).setBit .ckr CKR.STAT_FIO_QUAL true).setBit .ckr CKR.STAT_LOCK true
    if refOk then .next { s with b := fioIdle ((b.setFld .ckr CKR.STAT_REF 0).setBit .ckr CKR.STAT_REF_GOOD true) }
    else
      let x := clockTrip b s.clk
      .next { s with b := x.1.setBit .pkg PKG.RST_STAT_HOLDOVER true, clk := x.2 }

/-- The fused shell geometry of an -OP part stands in force (00 R5, 05 R102). -/
def fusedShell (b : Base) : Base :=
  if b.part.op then
    towers.foldl (fun b t =>
      let w := w32 (b.part.opShell.getD t 0) ||| 0x06000000
      (b.setWord (pbase (chmPage t) + CHM.SHELL.off) w).setFld (chmPage t) CHM.STAT_LIVE 1) b
  else b

/-- FUSES_DONE (24 R488, 23 R482): the fuses load, the repair records are chosen and applied; stage TEST begins, and with it
GDDR6 training in every controller whose RATE.MAX asks for it (16 R317). -/
def execFusesDone (s : State) : Host.Outcome State Fault Refusal :=
  if s.b.fld .pkg PKG.RST_STAT_STAGE ≠ 3 then .next s
  else
    let c := s.vbd.choose
    let b := fusedShell (fusLoad (s.b.setStage 4))
    let b := (b.setFld .fus FUS.REPAIR_SEQ c.2.1).setFld .fus FUS.REPAIR_CRC_OK c.2.2.1
    let b := (b.setBit .fus FUS.REPAIR_DIVERGE c.2.2.2).setFld .fus FUS.REPAIR_FREE_RECORDS s.vbd.freeRecs
    let b := if c.2.2.2 then b.anoleCroak 0x200 0x3FF 1 c.2.1 c.2.2.1 0 else b
    let s := c.1.foldl applyRecord { s with b := b }
    .next ((List.range 16).foldl (fun (s : State) g =>
      if s.b.rateMax g = 0 then s
      else
        let x := gdTrainBegin s.b s.gdr g 3
        { s with b := x.1, gdr := x.2 }) s)

/-- The load window's time begins to run: stage LOAD (24 R488, 08 R175). -/
def State.loadStage (s : State) : State :=
  if s.ldr.armed && s.boot.perstA && s.b.fld .pkg PKG.RST_STAT_STAGE == 5 then { s with b := s.b.setStage 6 } else s

/-- TEST_DONE (24 R488): the tests of stage TEST end, with the bond failures of `fails`; stage READY begins. -/
def execTestDone (fails : List (Tower × Fin 65536 × BitVec 68)) (s : State) : Host.Outcome State Fault Refusal :=
  if s.b.fld .pkg PKG.RST_STAT_STAGE ≠ 4 ∨ s.boot.warm then .next s
  else
    let s := fails.foldl (fun s e =>
      if (grpKind e.2.1).isSome && s.b.grpState e.1 e.2.1 != 5 then bondTest s e.1 e.2.1 e.2.2 true else s) s
    .next (s.stageReady.ld (fun l => { l with armed := true })).loadStage

/-- PERST_RELEASE (18 R378, 24 R488): the PERST# of a port is released. -/
def execPerstRelease (portB : Bool) (s : State) : Host.Outcome State Fault Refusal :=
  if portB then .next { s with boot := { s.boot with perstB := true } }.fnsReady
  else if s.boot.warm then .next s
  else .next ({ s with boot := { s.boot with perstA := true } } : State).fnsReady.loadStage

/-! ### Supplies of the banks (25 R507) -/

/-- VIO_LOST: bank `k`'s supply leaves tolerance. -/
def execVioLost (k : Fin 12) (s : State) : Host.Outcome State Fault Refusal :=
  if s.b.vioOk k then
    .next ({ s with b := (s.b.setBit (.iob k) IOB.BANK_CFG_VIO_OK false).event (.iob k) 8 } : State).settle
  else .next s

/-- VIO_BACK: it has been within tolerance for 1 ms again; `v18`: at 1.8 V. -/
def execVioBack (k : Fin 12) (v18 : Bool) (s : State) : Host.Outcome State Fault Refusal :=
  if !s.b.vioOk k && decide (2 ≤ s.b.fld .pkg PKG.RST_STAT_STAGE) then
    .next ({ s with b := (senseVio s.b k true v18).event (.iob k) 9 } : State).settle
  else .next s

/-! ### The status LEDs (25 R502) -/

/-- What a status LED shows. -/
inductive Led | off | on | blink1Hz | blink2Hz
  deriving DecidableEq, Repr

/-- LED `n` of the four: all blink at 2 Hz during an identify press, whatever LED_CTRL holds; else the override where it is set, and the
LED's own rule. Port A is active while its link is up. -/
def State.led (s : State) (n : Fin 4) : Led :=
  let c := s.b.word (pbase .pkg + PKG.LED_CTRL.off)
  let stage := s.b.fld .pkg PKG.RST_STAT_STAGE
  let lit (v : Bool) : Led := if v then .on else .off
  if s.ano.blink then .blink2Hz
  else if c.getLsbD n then lit (c.getLsbD (4 + n))
  else match n with
    | 0 => if stage = 7 then .on else if 2 ≤ stage then .blink1Hz else .off
    | 1 => lit s.b.alertN
    | 2 => lit (s.b.fnLinkUp 0)
    | 3 => .off

/-! ### The TAP (25 R509 to R512) -/

/-- Does a TAP opcode take pin control (25 R510)? -/
def tapControl (op : BitVec 8) : Bool := decide (op.toNat ≤ 6 ∧ op.toNat ≠ 1)

/-- May the TAP take the pins: PKG.JTAG_CTRL.PINCTL? -/
def Base.pinctl (b : Base) : Bool := b.bit .pkg PKG.JTAG_CTRL_PINCTL

/-- Pin control begins (25 R511): the PCIe ports undergo a link reset and every Efmel link goes down. -/
def tapBegin (s : State) : State :=
  let s := { s with b := (s.b.setBit .pkg PKG.JTAG_CTRL_CUR true).event .pkg 11, pins := { s.pins with tapAt := s.b.aonUs } }
  let s := linkReset s false
  let s := if s.b.bif then linkReset s true else s
  (List.range 8).foldl (fun s n => if s.b.eflState n = eABSENT then s else eflDown s n eDOWN) s

/-- Pin control ends: each pin returns to its own rules, and the controllers check how long they went without refresh
(16 R334). -/
def tapEnd (s : State) : State :=
  let x := gdResume (s.b.setBit .pkg PKG.JTAG_CTRL_CUR false) s.gdr (s.b.aonUs - s.pins.tapAt)
  { s with b := x.1, gdr := x.2 }

/-- Pin control follows the current instruction and PINCTL. -/
def tapFollow (s : State) : State :=
  let now := tapControl s.pins.ir && s.b.pinctl
  if now && !s.b.tapOwns then (tapBegin s).settle
  else if !now && s.b.tapOwns then (tapEnd s).settle
  else if now then { s with b := s.b.event .pkg 11 }
  else s

/-- What the instruction register captures: 0b0000_0P01 (25 R509). -/
def tapCapture (b : Base) : BitVec 8 := if b.pinctl then 5 else 1

/-- The levels the boundary cells of the I/O banks capture, pin 16 k + j at that bit; where nothing decides a level it is
free, and a bank without its supply captures 0. -/
def captureBits (s : State) : Nat :=
  let f := (Config.freeBits 192 s.b.free).toNat
  (List.range 192).foldl (fun n i =>
    nwr n i (s.b.vioOk (i / 16) && (match s.pinLevel (i / 16) (i % 16) with | some v => v | none => nbit f i))) 0

/-- Shift into the boundary cells: for each pin named, its output and its enable. -/
def shiftCells (p : Pins) (cells : List (Fin 192 × Bool × Bool)) : Pins :=
  { p with bscan := cells.foldl (fun m c =>
      SMap.set (fun _ => false) (SMap.set (fun _ => false) m (2 * c.1.val) c.2.1) (2 * c.1.val + 1) c.2.2) p.bscan }

/-- An instruction that selects the boundary register is loaded, and its register scanned: the cells take what is shifted
in, and what they captured is shifted out. Without PINCTL it acts as BYPASS (25 R511). -/
def tapBoundary (s : State) (op : BitVec 8) (cells : List (Fin 192 × Bool × Bool)) : State :=
  let ir := tapCapture s.b
  let s := tapFollow { s with pins := { s.pins with ir := op } }
  if s.b.pinctl then
    let b := (s.b.send (.tap ir 192 (captureBits s))).bump
    ({ s with b := b, pins := shiftCells s.pins cells } : State).settle
  else { s with b := s.b.send (.tap ir 1 0) }

/-- An instruction that selects another register, of `width` bits, which captures `dr`. -/
def tapOther (s : State) (op : BitVec 8) (width dr : Nat) : State :=
  let ir := tapCapture s.b
  let s := tapFollow { s with pins := { s.pins with ir := op } }
  { s with b := s.b.send (.tap ir width dr) }

/-- EXTEST. -/
def execExtest (cells : List (Fin 192 × Bool × Bool)) (s : State) : Host.Outcome State Fault Refusal := .next (tapBoundary s 0 cells)
/-- SAMPLE_PRELOAD. -/
def execSamplePreload (cells : List (Fin 192 × Bool × Bool)) (s : State) : Host.Outcome State Fault Refusal := .next (tapBoundary s 2 cells)
/-- EXTEST_PULSE: on the pins with digital cells, as EXTEST. -/
def execExtestPulse (cells : List (Fin 192 × Bool × Bool)) (s : State) : Host.Outcome State Fault Refusal := .next (tapBoundary s 5 cells)
/-- EXTEST_TRAIN: as EXTEST_PULSE. -/
def execExtestTrain (cells : List (Fin 192 × Bool × Bool)) (s : State) : Host.Outcome State Fault Refusal := .next (tapBoundary s 6 cells)
/-- HIGHZ. -/
def execHighz (s : State) : Host.Outcome State Fault Refusal := .next (tapOther s 3 1 0)
/-- CLAMP. -/
def execClamp (s : State) : Host.Outcome State Fault Refusal := .next (tapOther s 4 1 0)
/-- IDCODE (25 R513). -/
def execIdcode (s : State) : Host.Outcome State Fault Refusal := .next (tapOther s 1 32 (s.b.word (pbase .pkg + PKG.IDCODE.off)).toNat)
/-- BYPASS: opcode 0xFF, and every opcode R510 does not list. -/
def execBypass (op : BitVec 8) (s : State) : Host.Outcome State Fault Refusal := .next (tapOther s (if op.toNat ≤ 6 then 0xFF else op) 1 0)
/-- TAP_RESET (25 R512): the IDCODE instruction becomes current. -/
def execTapReset (s : State) : Host.Outcome State Fault Refusal := .next (tapFollow { s with pins := { s.pins with ir := 1 } })

/-- A write of JTAG_CTRL.PINCTL (25 R511): a change updates measurement 13; 0 ends pin control at once. -/
def pinctlWrite (s : State) (v : Bool) : State :=
  if s.b.pinctl = v then s else tapFollow { s with b := (s.b.setBit .pkg PKG.JTAG_CTRL_PINCTL v).measure 13 }

end Sys2Proof.Machine
end

