-- ==== Sys2Proof/Machine/MaMap.lean ====
section
/-! DEFINITION. Reading the management address space (02 R20 to R25, R38): what each MA address holds, what a read
returns, and what a read changes. -/
namespace Sys2Proof.Machine

/-! ### What an address names (02 R21) -/

/-- The EVT_STAT bits a page defines (02 R25, and the event list of its chapter): bits 0 to 6, and 8 up to its last. -/
def evtMask (p : Page) : Word :=
  let up (n : Nat) : Word := w32 (0x7F + (2 ^ n - 0x100))
  match p with
  | .twr _ | .hst _ | .slt _ => w32 0x7F
  | .evr | .clk _ => up 9
  | .molt _ | .iob _ | .fus => up 10
  | .pwr _ | .bgt => up 11
  | .cfg _ | .scb _ | .pkg => up 12
  | .thm _ => up 13
  | .ckr | .ano => up 14
  | .enc _ | .que _ | .hop _ | .vbd _ | .efl _ | .ldr => up 15
  | .pci => up 16
  | .gd _ | .gkc _ | .pnd _ => up 17
  | .chm _ => up 19

/-- What lies at an aligned MA address: a register at offset `o` of a page; a word of the tables of chapter 17, by its offset
in a tower window; word `w` of queue `q`'s descriptor; word `w` of croak record `i`; PF0's MSI-X table and PBA; a debug
window of a gecko; or nothing. -/
inductive MaTarget
  | reg (p : Page) (o : Nat)
  | enct (t : Tower) (o : Nat)
  | qdt (q w : Nat)
  | crk (i w : Nat)
  | msix (k : Nat)
  | pba (w : Nat)
  | gdbg (g : Fin 128) (o : Nat)
  | reserved
  deriving DecidableEq, Repr

/-- The debug windows of a GKC page (11 R242). -/
def dbgOffset (o : Nat) : Bool :=
  (decide (0x400 ≤ o) && decide (o < 0x534)) || (decide (0x540 ≤ o) && decide (o < 0x5A0)) ||
    (decide (0x600 ≤ o) && decide (o < 0x1000))

/-- What lies at aligned MA address `a` (02 R21; 10 R219; 17 R338; 18 R369; 22 R461). -/
def maTarget (a : Nat) : MaTarget :=
  match pageAt a with
  | some p =>
    let o := a - pbase p
    match p with
    | .pci =>
      if 0x8000 ≤ o then .msix ((o - 0x8000) / 4)
      else if 0x7000 ≤ o ∧ o < 0x7100 then .pba ((o - 0x7000) / 4)
      else if (pageReg p o).isSome then .reg p o else .reserved
    | .gkc g => if dbgOffset o then .gdbg g o else if (pageReg p o).isSome then .reg p o else .reserved
    | _ => if (pageReg p o).isSome then .reg p o else .reserved
  | none =>
    match encTableAt a with
    | some t => if (findReg ENCT.regs (a % 0x1000000 - 0x20000)).isSome then .enct t (a % 0x1000000) else .reserved
    | none =>
      if a < 0x4000000 ∧ 0x40000 ≤ a % 0x1000000 ∧ a % 0x1000000 < 0xC0000 then
        .qdt (16384 * (a / 0x1000000) + (a % 0x1000000 - 0x40000) / 32) (a % 32 / 4)
      else if 0x4070000 ≤ a ∧ a < 0x4090000 then .crk ((a - 0x4070000) / 32) (a % 32 / 4)
      else .reserved

/-- The page whose block answers at a target. -/
def MaTarget.owner : MaTarget → Option Page
  | .reg p _ => some p
  | .enct t _ => some (.enc ⟨4 * t.val + 3, by omega⟩)
  | .qdt q _ => some (quePage q)
  | .crk _ _ => some .ano
  | .msix _ | .pba _ => some .pci
  | .gdbg g _ => some (.gkc g)
  | .reserved => none

/-! ### Blocks that stand still or sleep (02 R38) -/

/-- The pages that run on AON (02 R27, R38). -/
def onAon : Page → Bool
  | .pkg | .ckr | .ano | .evr | .bgt | .pwr _ | .thm _ => true
  | _ => false

/-- Does the page's block stand still: in SAFE state, or in thermal shutdown, on a gated clock (02 R38; 20 R419; 21 R437)? -/
def Base.standsStill (b : Base) (p : Page) : Bool := (b.fld .ckr CKR.STAT_REF == 3 || b.dead) && !onAon p

/-- A register access wakes a sleeping block's control logic and sets WAKE; a controller stays in self-refresh (02 R38). -/
def State.maWake (s : State) (p : Page) : State :=
  if s.b.sleeps p then
    let s := { s with b := s.b.event p 6 }
    match p with
    | .gd _ => { s with b := s.b.setBit p HDR.BLK_STAT_AWAKE true }
    | .que t => wakeDomain s (.queue t)
    | .gkc g => wakeDomain s (.gecko g)
    | .chm t => { s with b := s.b.chmWake t }
    | _ => { s with b := s.b.setState p (s.b.restState p) }
  else s

/-- An access to a reserved address, or one treated as such (02 R22, R23). -/
def Base.badAccess (b : Base) (a : Nat) : Base := (b.setFld .evr EVR.BAD_ADDR_ADDR a).event .evr 8

/-! ### What a word holds -/

/-- Register `o` of the QUE window, which shows the queue that Q_SEL names (10 R222). -/
def Queue.window (x : Queue) (o : Nat) : Option Word :=
  if o = 0x44 then some (w32 (x.shBase / 64 * 64))
  else if o = 0x48 then some (w32 (x.shCtx * 0x10000 + x.shBase / 2 ^ 32 % 0x10000))
  else if o = 0x4C then some (w32 x.shLen)
  else if o = 0x50 then some (w32 x.level)
  else if o = 0x58 then some (w32 (4 * x.res + b2n x.pend))
  else if o = 0x5C then some (x.last.setWidth 32)
  else if o = 0x60 then some ((x.last >>> 32).setWidth 32)
  else if o = 0x64 then some (w32 (b2n x.lastP))
  else none

/-- Word `w` of a queue's descriptor (10 R219). -/
def Queue.descriptor (x : Queue) (w : Nat) : Word :=
  if w = 0 then w32 (x.base / 64 * 64)
  else if w = 1 then w32 (x.ctx * 0x10000 + x.base / 2 ^ 32 % 0x10000)
  else if w = 2 then w32 x.len
  else if w = 3 then w32 x.level
  else if w = 4 then w32 x.rel
  else if w = 5 then w32 (2 ^ 31 * b2n x.pend + 2 ^ 30 * b2n x.fault + 2 ^ 29 * b2n x.relclamp + 2 ^ 28 * b2n x.underrun + x.markD)
  else if w = 6 then w32 x.readD
  else w32 x.writeD

/-- Word `i` of a 64-bit value. -/
def half64 (v : BitVec 64) (i : Nat) : Word := (v >>> (32 * i)).setWidth 32

/-- The AG field that block `i` of the AG debug windows shows. -/
def dbgAgField (i : Nat) : AgField := if i = 0 then .ab else if i = 1 then .al else if i = 2 then .ap else .am

/-- What a debug window of a gecko shows at page offset `o`; `sel` is DBG_ACSEL (11 R242). -/
def Gecko.debug (k : Gecko) (sel o : Nat) : Word :=
  if o < 0x480 then k.sreg ((o - 0x400) / 4)
  else if o < 0x500 then k.agv (o % 0x20 / 4) (dbgAgField ((o - 0x480) / 0x20))
  else if o < 0x530 then k.loopv ((o - 0x500) / 0x10) (o % 0x10 / 4)
  else if o < 0x534 then w32 k.depth
  else if o < 0x580 then half64 (k.preg ((o - 0x540) / 8)) (o % 8 / 4)
  else if o < 0x5A0 then half64 (k.ov ((o - 0x580) / 8)) (o % 8 / 4)
  else if o < 0x800 then
    let v := accLane (k.acc sel) ((o - 0x600) / 8)
    if o % 8 = 0 then w32 v else w32 (v / 2 ^ 32)
  else (k.vreg ((o - 0x800) / 128) >>> (32 * (o % 128 / 4))).setWidth 32

/-- The event lines of sources 32 j to 32 j + 31 (02 R35). -/
def Base.lines (b : Base) (j : Nat) : Word :=
  allPages.foldl (fun w p => if psrc p / 32 = j ∧ b.line p = true then w ||| evt (psrc p % 32) else w) 0

/-- Word `j` of LVL_SUM of tower `t` (10 R222). -/
def Base.levelSum (b : Base) (t j : Nat) : Word :=
  (List.range 32).foldl (fun w i => if b.word (pbase (.que (tw t)) + 0x800 + 4 * (32 * j + i)) = 0 then w else w ||| evt i) 0

/-- PIN_IN of bank `k`: the level at each pin whatever the owner, 0 where VIO is out of tolerance; a pin whose level nothing
decides is free (25 R508). -/
def State.pinWord (s : State) (k : Nat) : Word :=
  let f := Config.freeBits 16 s.b.free
  (List.range 16).foldl (fun w j => if s.b.vioOk k && (s.pinLevel k j).getD (f.getLsbD j) then w ||| evt j else w) 0

/-- FHP_CLK`j`: what was last written, in effect or waiting (14 R299). -/
def State.fhpWord (s : State) (t j : Nat) : Word :=
  [0, 1].foldl (fun w i => match SMap.get (fun _ => none) s.hop.fhpPend (64 * t + 2 * j + i) with
    | some n => wput (wput w (8 * i + 5) (8 * i + 5) (n / 32)) (8 * i + 4) (8 * i) n
    | none => w) (s.b.word (pbase (.hop (tw t)) + 0x80 + 4 * j))

/-- What is left of the load window, in ms (08 R175). -/
def State.winRemain (s : State) : Nat :=
  if s.b.fld .ldr LDR.STATE_WSTATE = 1 then
    s.b.fld .ldr LDR.LOAD_WINDOW_MS_MS - (s.b.aonUs - s.ldr.openAt) / 1000
  else 0

/-- A register whose value is kept elsewhere than in the register file: what a read of page `p` at offset `o` returns. -/
def State.computed (s : State) (p : Page) (o : Nat) : Option Word :=
  match p with
  | .pkg => if o = 0x44 then some (w32 (s.b.part.grade % 4 * 256 + 16 * b2n s.b.part.tempI + b2n s.b.part.op)) else none
  | .pci => if o = 0x40 then some (w32 (s.b.part.vendor % 0x10000)) else none
  | .pwr _ => if o = 0x48 then some (w32 s.b.part.vset) else none
  | .cfg t =>
    if 0xA00 ≤ o ∧ o < 0xA1C then some (((s.b.rbChk t).setWidth 224).extractLsb' (8 * (o - 0xA00)) 32) else none
  | .ckr =>
    if o = 0x44 then some (w32 (s.b.part.rootMhz * 0x10000 + s.b.part.grade % 4 * 256) ||| (s.b.word (pbase .ckr + 0x44) &&& 0x7F))
    else if o = 0x58 then some (w32 s.b.aonUs) else none
  | .evr => if 0x80 ≤ o ∧ o < 0x100 then some (s.b.lines ((o - 0x80) / 4)) else none
  | .que t =>
    if 0x100 ≤ o ∧ o < 0x140 then some (s.b.levelSum t ((o - 0x100) / 4))
    else (queueAt s.que (s.b.qSel t)).window o
  | .iob k => if o = 0xC0 then some (s.pinWord k) else none
  | .ldr => if o = 0x7C then some (w32 s.winRemain) else none
  | .gkc g => if o = 0x60 then some (s.b.gst g (s.gko.at g)) else none
  | .hop t => if 0x80 ≤ o ∧ o < 0x100 then some (s.fhpWord t ((o - 0x80) / 4)) else none
  | .ano =>
    if 0x800 ≤ o ∧ o < 0x1000 then
      some (SMap.get (fun _ => 0) s.ano.buf (512 * s.b.fld .ano ANO.MB_WIN_PART + (o - 0x800) / 4)) else none
  | _ => none

/-- What a read of a target returns. -/
def State.maValue (s : State) : MaTarget → Word
  | .reg p o =>
    match s.computed p o, pageReg p o with
    | some w, _ => w
    | none, some r => r.readValue (s.b.word (pbase p + o)) (s.b.shWord (pbase p + o))
    | none, none => 0
  | .enct _ o =>
    match findReg ENCT.regs (o - 0x20000) with
    | some r =>
      let w := r.readValue (s.b.word o) (s.b.shWord o)
      if 0x25000 ≤ o ∧ o % 16 = 4 then wput w 15 8 (satAdd 255 0 (s.b.slotUsers ((o - 0x25000) / 16))) else w
    | none => 0
  | .qdt q w => (queueAt s.que q).descriptor w
  | .crk i w => (s.b.crkAt i).word w
  | .msix k => s.b.msixWord 0 (k / 4) (k % 4)
  | .pba w => (List.range 32).foldl (fun x i => if s.b.msixPending 0 (32 * w + i) then x ||| evt i else x) 0
  | .gdbg g o => if s.b.gkIdle g then (s.gko.at g).debug (s.b.fld (.gkc g) GKC.DBG_ACSEL_AC) o else 0
  | .reserved => 0

/-! ### What a read changes -/

/-- A read of a word of page `p` through the MA (23 R471). -/
def Base.decRead (b : Base) (p : Page) (a : Nat) : Base := if b.decPlanted a then b.decError p a else b

/-- A read of a register clears its RC fields; one of TIME_LO latches TIME_HI (02 R23, 20 R414). -/
def Base.readClears (b : Base) (p : Page) (o : Nat) : Base :=
  let a := pbase p + o
  let b := match pageReg p o with
    | some r => b.setWord a (b.word a &&& ~~~ r.mask .rc)
    | none => b
  if p = .ckr ∧ o = 0x58 then b.setFld .ckr CKR.TIME_HI (b.aonUs / 2 ^ 32) else b

/-- The MA address of a word of the tables of chapter 17 in its one home, tower 0's window; any other address itself. -/
def homeAddr (tg : MaTarget) (a : Nat) : Nat := match tg with | .enct _ o => o | _ => a

/-- What a read of a target does to the device besides waking its block. -/
def State.readEffect (s : State) (tg : MaTarget) (a : Nat) : State :=
  let s := match tg.owner with | some p => { s with b := s.b.decRead p (homeAddr tg a) } | none => s
  match tg with
  | .reg p o =>
    let s := { s with b := s.b.readClears p o }
    match p with
    | .iob _ => if o = 0xC0 then { s with b := s.b.bump } else s
    | _ => s
  | .gdbg g _ => if s.b.gkIdle g then s else { s with b := s.b.event (.gkc g) 14 }
  | _ => s

/-- A read of the word at aligned MA address `a` (02 R22, R23, R38). -/
def State.maRead (s : State) (a : Nat) : State × Word :=
  let tg := maTarget a
  match tg.owner with
  | none => ({ s with b := s.b.badAccess a }, 0)
  | some p =>
    if s.b.standsStill p then (s, BitVec.allOnes 32)
    else
      let s := State.maWake { s with b := s.b.decReport } p
      (s.readEffect tg a, s.maValue tg)

/-- Read `n` words from aligned address `a` on, lowest first (02 R23). -/
def State.maReadWords : Nat → Nat → State → State × List Word
  | 0, _, s => (s, [])
  | n + 1, a, s =>
    let x := s.maRead a
    let y := State.maReadWords n (a + 4) x.1
    (y.1, x.2 :: y.2)

/-- The bytes of words, least significant first. -/
def wordBytes (ws : List Word) : List Byte := ws.flatMap fun w => (List.range 4).map fun i => BitVec.ofNat 8 (nbyte w.toNat i)

/-- Read `n` bytes from address `a` on: the words they lie in are read (02 R23). -/
def State.maReadBytes (s : State) (a n : Nat) : State × List Byte :=
  if n = 0 then (s, [])
  else
    let x := s.maReadWords ((a % 4 + n + 3) / 4) (a / 4 * 4)
    (x.1, ((wordBytes x.2).drop (a % 4)).take n)

end Sys2Proof.Machine
end

