-- ==== Sys2Proof/Machine/MaCommit.lean ====
section
/-! DEFINITION. COMMIT: GO with each page's consistency rules, CANCEL, and the commit points (02 R26 to R28, R35; 05 R94; 08
R162; 11 R236; 17 R338; 25 R506). -/
namespace Sys2Proof.Machine

/-! ### Consistency rules -/

/-- The rules of EVR for one route entry (02 R35), over its shadow. -/
def routeOk (b : Base) (n : Nat) : Bool :=
  let w := b.shWord (routeAddr n 0)
  let fn := wget w 14 11
  decide (fn ≤ 8) &&
    (wget w 15 15 == 0 || ((fn != 0 || wget w 10 0 != 0) && (fn == 0 || decide (wget w 10 0 < 256)))) &&
    !(srcReserved n && (wget w 26 26 == 1 || wget w 17 17 == 1 || wget w 16 16 == 1 || wget w 15 15 == 1))

/-- The rules of an EVR GO: every entry either register map lists; an entry neither lists holds its reset value, which
passes (02 R35). -/
def evrCommitOk (b : Base) : Bool :=
  ((b.pageKeys .evr).filter fun a => decide (routeAddr 0 0 ≤ a)).all fun a => routeOk b ((a - routeAddr 0 0) / 8)

/-- MODE of pin `j` in the shadow of bank `k`. -/
def Base.shMode (b : Base) (k j : Nat) : Nat := b.shFld (iobPage k) (IOB.PIN_CFG_MODE.nth j)

/-- The rules of an IOB GO (25 R506). -/
def iobCommitOk (b : Base) (k : Nat) : Bool :=
  let c := b.shFld (iobPage k) IOB.BANK_OWNER_CTX
  let inShell := b.isShell (k / 3) (64 + 128 * (k % 3))
  ((List.range 16).all fun j =>
    b.shMode k j != 3 &&
    (b.shMode k j != 2 || (j % 2 == 0 && b.bit (iobPage k) IOB.BANK_CFG_VIO_18)) &&
    (j % 2 == 0 || b.shMode k j == 0 || b.shMode k (j - 1) != 2)) &&
    (c != 0 || !b.shellDecl || inShell) && (c == 0 || !inShell)

/-- The rules of an LDR GO (08 R162). -/
def ldrCommitOk (s : State) : Bool :=
  let n := s.b.shFld .ldr LDR.STG_SIZE_SIZE
  decide (n ≤ 64) && decide (s.b.shFld .ldr LDR.STG_BASE_BASE + n ≤ 2048) && s.phase == 0

/-- Does a page's shadow pass its consistency rules (02 R28)? -/
def State.commitOk (s : State) (p : Page) : Bool :=
  match p with
  | .evr => evrCommitOk s.b
  | .chm t => chmCommitOk s t
  | .slt t => sltCommitOk s t
  | .cfg t => cfgCommitOk s t
  | .pnd n => pndCommitOk s.b n
  | .hop t => hopShadowOk s.b t
  | .gd c => gdCommitOk s.b c
  | .enc _ => encCommitOk s.b
  | .thm t => thmCommitOk s.b t
  | .bgt => bgtCommitOk s.b
  | .clk t => clkCommitOk s.b t
  | .iob k => iobCommitOk s.b k
  | .ldr => ldrCommitOk s
  | .gkc g => s.b.gkIdle g && !s.b.dmaAny g
  | .twr _ | .molt _ | .que _ | .hst _ | .scb _ | .pwr _ | .vbd _ | .pkg | .pci | .efl _ | .ckr | .ano | .fus => true

/-- The parts in which a page's commit takes effect, one bit each: the arbiter fields and the rest apart (09 R202, 15 R312,
16 R336), the levels of the hop maps (14 R292), a CLK page that waits for RAMP.GO (20 R411). -/
def State.commitPartsOf (s : State) (p : Page) : Nat :=
  match p with
  | .pnd _ | .gd _ => 3
  | .hop _ => 15
  | .clk t => clkCommitParts s.b t
  | _ => 0

/-! ### GO and CANCEL -/

/-- GO of an ENC page: one commit of both tables for all sixteen pages (17 R338). -/
def encGo (s : State) (p : Page) : State :=
  if s.b.encPending then s
  else if encCommitOk s.b then { s with b := encCommitStart s.b }
  else { s with b := (s.b.setFld p HDR.BLK_STAT_COMMIT_RES 3).event p 4 }

/-- A write of BLK_COMMIT.GO (02 R27, R28). A re-encode begins with the GO of CFG (06 R125); a GO of SLT may change which
entry comes next (05 R93). -/
def State.commitGo (s : State) (p : Page) : State :=
  match p with
  | .enc _ => encGo s p
  | _ =>
    if s.b.commitPend p then s
    else
      let ok := s.commitOk p
      let s := { s with b := s.b.go p ok (s.commitPartsOf p) }
      if ok then
        match p with
        | .cfg t => { s with b := s.b.setBit (.cfg t) CFG.STAT_REENC true }
        | .slt t => s.sltChanged t false
        | _ => s
      else s

/-- The header after a CANCEL: nothing pending, COMMIT_RES 2, COMMIT_DONE (02 R27). -/
def Base.cancelled (b : Base) (p : Page) : Base :=
  (((b.setFld p HDR.BLK_STAT_COMMIT_PEND 0).setFld p HDR.BLK_STAT_COMMIT_RES 2).setParts p 0).event p 3

/-- A write of BLK_COMMIT.CANCEL (02 R27): any pending commit is abandoned, and the shadows reload. A re-encode cannot be
cancelled (06 R125). SLT copies its active half into the other (05 R94). The tables of chapter 17 have one commit, so a
CANCEL in any ENC page is one of all sixteen (DEDUCED). -/
def State.commitCancel (s : State) (p : Page) : State :=
  match p with
  | .cfg t => if s.reencoding t then s else { s with b := (s.b.reloadShadows p).cancelled p }
  | .slt t => ({ s with b := s.b.cancelled p }.setCh t fun x => { x with copying := true }).sltChanged t true
  | .enc _ => { s with b := (List.range 16).foldl (fun b c => b.cancelled (encPage c)) s.b.encReload }
  | _ => { s with b := (s.b.reloadShadows p).cancelled p }

/-- A write of BLK_COMMIT: CANCEL beats GO (02 R27). -/
def State.commitWrite (s : State) (p : Page) (v : Word) : State :=
  if v.getLsbD 1 then s.commitCancel p else if v.getLsbD 0 then s.commitGo p else s

/-! ### Commit points -/

/-- The default commit point: every shadow of the page over its live value, at once (02 R26, R27). -/
def State.applyAll (s : State) (p : Page) : State := { s with b := (s.b.applyShadows p).commitDone p }

/-- A new owner of bank `k` has come into force (25 R506, 06 R131): with its write enable low the pins take the load state;
else they hold what was last driven until the owner is live. -/
def bankOwned (s : State) (k : Nat) (old : Nat) : State :=
  let c := s.b.fld (iobPage k) IOB.BANK_OWNER_CTX
  if c = old then s
  else { s with pins := if s.b.we (k / 3) c then s.pins.free k else s.pins.load k }

/-- The commit point of page `p` is reached (02 R26, R27). Commits whose points are commands of their own are left to
them: SLT, CFG, HOP, ENC, CLK, and the arbiter fields of PND and GD. -/
def State.commitPoint (s : State) (p : Page) : State :=
  match p with
  | .chm t => s.commitChm t
  | .pnd n => if nbit (s.b.parts p) 1 && !s.padsBusy n then { s with b := (s.b.applySh p fun o => decide (0x400 ≤ o)).partDone p 1 } else s
  | .gd c =>
    if nbit (s.b.parts p) 1 then
      let x := gdApplyK s.b s.gdr c
      { s with b := x.1, gdr := x.2 }
    else s
  | .bgt => if s.b.fld .bgt BGT.PERIOD_MS = 0 then s.applyAll p else s
  | .gkc g => if (s.gko.at g).fills.isEmpty then match gkFlush s g with | some s => s.applyAll p | none => s
    else s
  | .efl n => if (eflAt s.efl n).slots.isEmpty && (eflAt s.efl n).inb.isEmpty then s.applyAll p else s
  | .iob k => (bankOwned (s.applyAll p) k (s.b.fld (.iob k) IOB.BANK_OWNER_CTX)).settle
  | .pci => if s.pcieIdle then s.applyAll p else s
  | .slt _ | .cfg _ | .hop _ | .enc _ | .clk _ => s
  | .twr _ | .molt _ | .que _ | .hst _ | .scb _ | .thm _ | .pwr _ | .vbd _ | .pkg | .ckr | .ano | .evr | .fus | .ldr =>
    s.applyAll p

end Sys2Proof.Machine
end

