-- ==== Sys2Proof/Machine/MaWrite.lean ====
section
/-! DEFINITION. Writing the management address space (02 R22 to R36): the common header, and the registers whose write acts. -/
namespace Sys2Proof.Machine

/-! ### The common header (02 R25) -/

/-- The state a page shows when it is enabled again: a controller in self-refresh sleeps on (02 R515). -/
def Base.activeState (b : Base) (p : Page) : Nat :=
  match p with
  | .gd _ => if b.bit p GD.STAT_SREF then stAsleep else stActive
  | _ => stActive

/-- A write of BLK_CTRL.EN (02 R515). Enabling a controller is refused where its carve-out would meet the staging region or a
protected region (16 R325). -/
def State.blkEn (s : State) (p : Page) (en : Bool) : State :=
  if s.b.enabled p = en then s
  else
    let refused := match p with | .gd c => en && s.b.gdEnRefused c | _ => false
    if refused then { s with b := s.b.event p 15 }
    else
      let b := s.b.setBit p HDR.BLK_CTRL_EN en
      { s with b := b.setState p (if en then b.activeState p else stDraining) }

/-- A write of BLK_CTRL. -/
def State.blkCtrl (s : State) (p : Page) (v : Word) : State :=
  let s := State.blkEn { s with b := s.b.setBit p HDR.BLK_CTRL_SLEEP_PERMIT (v.getLsbD 2) } p (v.getLsbD 0)
  if v.getLsbD 1 then s.srst p else s

/-- A write of EVT_STAT: 1 clears; a line left high sends another message (02 R33). -/
def Base.evtClear (b : Base) (p : Page) (v : Word) : Base :=
  let b := b.setWord (pbase p + 0x14) (b.word (pbase p + 0x14) &&& ~~~ v)
  if b.line p then b.route (psrc p) else b

/-- A write of EVT_EN; a message when the line rises (02 R33). -/
def Base.evtEnable (b : Base) (p : Page) (v : Word) : Base :=
  let b' := b.setWord (pbase p + 0x18) (v &&& evtMask p)
  if !b.line p && b'.line p then b'.route (psrc p) else b'

/-- The NME causes that a page's events raise, each with its EVT_STAT bit (02 R36): a clock trip, a thermal trip, a failover,
a SWITCH_FREEZE; and ERR_UC of a page that holds a DEC-protected store, whose uncorrectable path EVT_FORCE tests (23 R471). -/
def pageNmes (p : Page) : List (Nat × Nat) :=
  match p with
  | .ckr => [(0, 8)]
  | .thm _ => [(2, 12)]
  | .ano => [(3, 10), (5, 1)]
  | .chm _ => [(4, 14), (5, 1)]
  | .evr | .que _ | .hop _ | .pnd _ | .slt _ | .enc _ => [(5, 1)]
  | _ => []

/-- A write of EVT_FORCE (02 R25, R36): each bit is set as its event would set it, with its routing; an event that raises an NME
raises it, marked FORCED. -/
def Base.evtForce (b : Base) (p : Page) (v : Word) : Base :=
  let b := b.setEvt p (v &&& evtMask p)
  (pageNmes p).foldl (fun b e =>
    if v.getLsbD e.2 then b.raiseNme e.1 (psrc p) true (if e.1 = 5 then psrc p else 0) else b) b

/-- A write of ERR_CFG (02 R30, R32): a change of LEAK restarts the leak timer; one of RAW is measured (22 R453). -/
def Base.errCfg (b : Base) (p : Page) (v : Word) : Base :=
  let old := b.word (pbase p + 0x24)
  let b := b.setWord (pbase p + 0x24) (v &&& 0x1FFFFFFF)
  let b := if wget old 28 28 = wget v 28 28 then b else b.measure 13
  if wget old 11 4 = wget v 11 4 then b
  else { b with leakAt := SMap.set (fun _ => 0) b.leakAt (psrc p) b.aonUs }

/-- Has one more leak of page `p` come due: LEAK ms since the last one or since LEAK was written (02 R30)? -/
def Base.leakDue (b : Base) (p : Page) : Bool :=
  b.fld p HDR.ERR_CFG_LEAK != 0 &&
    decide (SMap.get (fun _ => 0) b.leakAt (psrc p) + 1000 * b.fld p HDR.ERR_CFG_LEAK ≤ b.aonUs)

/-- One count leaks, never below zero (02 R30). -/
def Base.leak (b : Base) (p : Page) : Base :=
  let at' := SMap.get (fun _ => 0) b.leakAt (psrc p) + 1000 * b.fld p HDR.ERR_CFG_LEAK
  let b := b.setFld p HDR.ERR_CNT_COUNT (b.fld p HDR.ERR_CNT_COUNT - 1)
  { b with leakAt := SMap.set (fun _ => 0) b.leakAt (psrc p) at' }

/-- A write to the common header at offset `o`; BLK_ID, BLK_VER, BLK_STAT, ERR_CNT and the rest of the log are read-only. -/
def State.headerWrite (s : State) (p : Page) (o : Nat) (v : Word) : State :=
  if o = 8 then s.blkCtrl p v
  else if o = 0x10 then s.commitWrite p v
  else if o = 0x14 then { s with b := s.b.evtClear p v }
  else if o = 0x18 then { s with b := s.b.evtEnable p v }
  else if o = 0x1C then { s with b := s.b.evtForce p v }
  else if o = 0x24 then { s with b := s.b.errCfg p v }
  else if o = 0x28 ∧ v.getLsbD 0 = true then { s with b := s.b.releaseLog p }
  else s

/-! ### Registers whose write only stores -/

/-- The DEC-protected register tables (23 R465): routes, hop maps and apertures, pad ownership, CHM, SLT. -/
def decTable (p : Page) (o : Nat) : Bool :=
  match p with
  | .evr => decide (0x1000 ≤ o)
  | .hop _ => o == 0x40 || decide (0x8000 ≤ o)
  | .pnd _ => decide (0x400 ≤ o)
  | .chm _ | .slt _ => decide (0x40 ≤ o)
  | _ => false

/-- A write to a register as its fields' access types say; a pending commit keeps its shadow (00 "Access types", 02 R26, R27). -/
def Base.store (b : Base) (p : Page) (o : Nat) (r : RegSpec) (v : Word) : Base :=
  let a := pbase p + o
  let b := b.setWord a (r.writeLive (b.word a) v)
  let b := if r.mask .rws = 0 then b
    else if b.commitPend p then b.event p 5 else b.setShWord a (r.writeShadow (b.shWord a) v)
  if decTable p o then b.decStore p a else b

/-! ### The QUE window (10 R222) -/

/-- A write to a register that acts on the queue Q_SEL names. -/
def queWrite (s : State) (t o : Nat) (v : Word) : State :=
  let busy := (queueAt s.que (s.b.qSel t)).pend
  let shadow (f : Queue → Queue) : State := if busy then { s with b := s.b.event (.que (tw t)) 5 } else onSel s t f
  if o = 0x44 then shadow fun x => { x with shBase := x.shBase / 2 ^ 32 * 2 ^ 32 + v.toNat / 64 * 64 }
  else if o = 0x48 then shadow fun x => { x with shCtx := wget v 18 16, shBase := wget v 15 0 * 2 ^ 32 + x.shBase % 2 ^ 32 }
  else if o = 0x4C then shadow fun x => { x with shLen := wget v 27 0 }
  else if o = 0x50 then
    let s := onSel s t fun x => { x with level := wget v 27 0 }
    { s with b := qStored s.b (s.b.qSel t) }
  else if o = 0x54 then
    let s := if v.getLsbD 1 then qCancel s t else if v.getLsbD 0 then qGo s t else s
    if v.getLsbD 2 then qFlush s t else s
  else if o = 0x90 then (if v.getLsbD 0 then qPflip s t else s)
  else s

/-! ### Gecko pages (11 R235 to R242) -/

/-- Word `i` of a 64-bit value replaced. -/
def setHalf64 (x : BitVec 64) (i : Nat) (v : Word) : BitVec 64 :=
  if i = 0 then (x >>> 32 <<< 32) ||| v.setWidth 64 else (x &&& 0xFFFFFFFF) ||| (v.setWidth 64 <<< 32)

/-- A write to a debug window, which leaves poison tags as they are (11 R242). LDEPTH takes the depths 0 to 4 (GST, R234). -/
def Gecko.setDebug (k : Gecko) (sel o : Nat) (v : Word) : Gecko :=
  if o < 0x480 then
    let i := (o - 0x400) / 4
    k.setS i v (k.sTag i)
  else if o < 0x500 then k.dbgAg (o % 0x20 / 4) (dbgAgField ((o - 0x480) / 0x20)) v
  else if o < 0x530 then
    let w := (o - 0x500) / 0x10
    k.setLoop w (o % 0x10 / 4) (if w = 0 then v else v &&& 0xFFF)
  else if o < 0x534 then { k with depth := listedOr .loopDepth [0, 1, 2, 3, 4] (wget v 2 0) }
  else if o < 0x580 then
    let i := (o - 0x540) / 8
    k.setP i (setHalf64 (k.preg i) (o % 8 / 4) v)
  else if o < 0x5A0 then
    let i := (o - 0x580) / 8
    k.setOv i (setHalf64 (k.ov i) (o % 8 / 4) v)
  else if o < 0x800 then
    let i := (o - 0x600) / 8
    let a := k.acc sel
    let x := accLane a i
    let n := if o % 8 = 0 then x / 2 ^ 32 * 2 ^ 32 + v.toNat else x % 2 ^ 32 + v.toNat % 256 * 2 ^ 32
    k.setAcc sel (a - BitVec.ofNat 2560 (x <<< (40 * i)) + BitVec.ofNat 2560 (n <<< (40 * i))) (k.aTag sel)
  else
    let i := (o - 0x800) / 128
    let sh := 32 * (o % 128 / 4)
    let a := k.vreg i
    let mask : BitVec 1024 := BitVec.ofNat 1024 (0xFFFFFFFF <<< sh)
    k.setV i ((a &&& ~~~ mask) ||| (v.setWidth 1024 <<< sh)) (k.vTag i)

/-- A write to a debug window: only in the debug states, else discarded with DBG_BUSY (11 R235). -/
def gkDebugWrite (s : State) (g : Fin 128) (o : Nat) (v : Word) : State :=
  if s.b.gkIdle g then
    { s with gko := s.gko.put g ((s.gko.at g).setDebug (s.b.fld (.gkc g) GKC.DBG_ACSEL_AC) o v) }
  else { s with b := s.b.event (.gkc g) 14 }

/-- A write of GKC.CTRL; with several bits set they act in the order START, STOP, RESUME, STEP. -/
def gkCtrl (s : State) (g : Nat) (v : Word) : State :=
  let s := if v.getLsbD 0 then gkStart s g else s
  let s := if v.getLsbD 1 then gkStop s g else s
  let s := if v.getLsbD 2 then gkResume s g else s
  if v.getLsbD 3 then gkStep s g else s

/-- A write of a GKC register that acts; none where its write only stores. -/
def gkcWrite (s : State) (g o : Nat) (v : Word) : Option State :=
  if o = 0x40 then some (gkCtrl s g v)
  else if o = 0x48 then some { s with b := gkPcWrite s.b g v.toNat }
  else if o = 0x60 then
    some (if s.b.gkIdle g then { s with gko := s.gko.upd g fun k => { k with ovtrap := v.getLsbD 0 } } else s)
  else if o = 0x64 then some (if v.getLsbD 0 then { s with b := gkWbinv s.b g } else s)
  else if o = 0x78 then
    some (if listedOr .gkcOp [0, 1] (wget v 1 0) = 1 then gkZero s g else s)
  else none

/-- After a register of a GKC page is stored: GO of a DMA channel (11 R238). -/
def gkcAfter (s : State) (g o : Nat) (v : Word) : State :=
  if 0x100 ≤ o ∧ o < 0x180 ∧ o % 0x20 = 0x10 ∧ v.getLsbD 0 = true then gkDmaGo s g ((o - 0x100) / 0x20) else s

/-! ### Memory pages -/

/-- A pad command (09 R198). -/
def State.padCommand (s : State) (n op pad : Nat) : State :=
  let x := padCmdWrite s.b s.ponds n op pad
  { s with b := x.1, ponds := x.2 }

/-- RAW access to a row (23 R471). -/
def State.padRaw (s : State) (n : Nat) (wr : Bool) : State :=
  let x := padRawCmd s.b s.ponds n wr
  { s with b := x.1, ponds := x.2 }

/-- A write of a PND register that acts (09 R197, R198, R202); with RD and WR both set, WR acts first. -/
def pndWrite (s : State) (n o : Nat) (v : Word) : Option State :=
  if o = 0x60 then
    let op := listedOr .padOp [0, 1, 2] (wget v 9 8)
    some (if op = 0 then s else s.padCommand n op (wget v 4 0))
  else if o = 0x68 then
    some (if v.getLsbD 16 then { s with b := srCmdWrite s.b n (wget v 4 0) (wget v 6 5) (wget v 15 7) } else s)
  else if o = 0xA4 then
    let s := if v.getLsbD 1 then s.padRaw n true else s
    some (if v.getLsbD 0 then s.padRaw n false else s)
  else none

/-- GD.TRAIN.GO (16 R317). -/
def State.trainGo (s : State) (c : Nat) : State :=
  let x := gdTrainGo s.b s.gdr c
  { s with b := x.1, gdr := x.2 }

/-- RAW access to a line (16 R333). -/
def State.gdRaw (s : State) (c : Nat) (wr : Bool) : State :=
  let x := gdRawCmd s.b s.gdr c wr
  { s with b := x.1, gdr := x.2 }

/-- A write of a GD register that acts (16 R317, R331, R333); with RD and WR both set, WR acts first. -/
def gdWrite (s : State) (c o : Nat) (v : Word) : Option State :=
  if o = 0x48 then
    some (if v.getLsbD 0 then s.trainGo c else s)
  else if o = 0x50 then some (if v.getLsbD 0 then { s with b := gdInitWrite s.b c } else s)
  else if o = 0xC4 then
    let s := if v.getLsbD 1 then s.gdRaw c true else s
    some (if v.getLsbD 0 then s.gdRaw c false else s)
  else none

/-- MOLT.CMD with operation `op`, region `r` and key slot `kb` (17 R353, R357). -/
def State.moltGo (s : State) (t op r kb : Nat) : State :=
  let x := moltCmd s.b s.gdr t op r kb
  { s with b := x.1, gdr := x.2 }

/-- KS_CMD.ERASE of slot `k` (17 R342). -/
def State.slotErase (s : State) (k : Nat) : State :=
  let x := ksErase s.b s.gdr k
  { s with b := x.1, gdr := x.2 }

/-- A write of MOLT.CMD (17 R353, R357, R363). -/
def moltWrite (s : State) (t o : Nat) (v : Word) : Option State :=
  if o = 0x40 then
    let op := listedOr .moltOp [0, 1, 2] (wget v 17 16)
    some (if v.getLsbD 24 = false ∨ op = 0 then s else s.moltGo t op (wget v 15 8) (wget v 7 0))
  else none

/-- A write to register `reg` of the tables of chapter 17, through tower `t`'s window: one shared shadow (17 R338, R342). -/
def enctStore (s : State) (t : Tower) (o : Nat) (v : Word) (reg : Option RegSpec) : State :=
  match reg with
  | none => s
  | some r =>
    if 0x25000 ≤ o ∧ o % 16 = 8 then
      if v.getLsbD 0 then s.slotErase ((o - 0x25000) / 16) else s
    else if r.mask .rws = 0 then s
    else
      let p : Page := .enc ⟨4 * t.val + 3, by omega⟩
      if s.b.encPending then { s with b := s.b.event p 5 }
      else { s with b := (s.b.setShWord o (r.writeShadow (s.b.shWord o) v)).decStore p o }

/-- A write to a word of the tables, whatever register lies there. -/
def enctWrite (s : State) (t : Tower) (o : Nat) (v : Word) : State := enctStore s t o v (findReg ENCT.regs (o - 0x20000))

/-! ### Tower pages -/

/-- A write of a CHM register that acts (05 R91, R112, R113). THAW acts before a STAGE or SWAP of the same write. -/
def chmWrite (s : State) (t o : Nat) (v : Word) : Option State :=
  if o = 0x44 then
    let s := if v.getLsbD 5 then s.thaw t else s
    some (if v.getLsbD 3 || v.getLsbD 4 then s.chmCmd t (v.getLsbD 3) (v.getLsbD 4) (wget v 2 0) else s)
  else if 0x80 ≤ o ∧ o < 0xB0 then some (s.excludeWrite t ((o - 0x80) / 4) v).resettle
  else none

/-- A write of a CFG register that acts (06 R132, R138, R139). -/
def cfgPageWrite (s : State) (t o : Nat) (v : Word) : Option State :=
  if o = 0x4C then some (if v.getLsbD 8 then (s.release (wget v 7 0)).settle else s)
  else if o = 0x58 then
    some (if v.getLsbD 0 && v.getLsbD 1 then s.rbBoth t
      else if v.getLsbD 1 then s.rawWrite t
      else if v.getLsbD 0 then s.rbGo t
      else s)
  else none

/-! ### Package pages -/

/-- What follows the store of an EFL register (19 R387, R397, R400). -/
def eflAfter (s : State) (n o : Nat) (v : Word) (test : Bool) : State :=
  if o = 0x40 then
    let s := if v.getLsbD 4 = test then s else eflTest s n (v.getLsbD 4)
    let s := if v.getLsbD 2 then eflDownCmd s n else s
    let s := if v.getLsbD 3 then eflQuiesce s n else s
    if v.getLsbD 1 then eflTrain s n else s
  else if 0x58 ≤ o ∧ o < 0x68 then { s with b := s.b.setWord (pbase (eflPage n) + o) v }
  else if o = 0x80 then
    let b := if v.getLsbD 8 then prbsInject s.b n else s.b
    { s with b := if v.getLsbD 9 then prbsClear b n else b }
  else s

/-- What follows the store of an LDR register (08 R163, R174): GOLDEN acts after ABORT of the same write. -/
def ldrAfter (s : State) (o : Nat) (v : Word) : State :=
  if o = 0x5C then (if v.getLsbD 0 then s.dlvGo (v.getLsbD 1) else s)
  else if o = 0x64 then
    let s := if v.getLsbD 0 then s.ldrAbort else s
    if v.getLsbD 1 then s.ldrGolden else s
  else s

/-- A write of an ANO register that acts (22 R445): MB_LEN and MB_DATA are held while BUSY. -/
def anoWrite (s : State) (o : Nat) (v : Word) : Option State :=
  if o = 0x50 ∧ s.b.bit .ano ANO.MB_STAT_BUSY = true then some s
  else if 0x800 ≤ o ∧ o < 0x1000 then
    some (if s.b.bit .ano ANO.MB_STAT_BUSY then s
      else s.an fun x =>
        { x with buf := SMap.set (fun _ => 0) x.buf (512 * s.b.fld .ano ANO.MB_WIN_PART + (o - 0x800) / 4) v })
  else none

/-- A write that acts instead of being stored; none where the write is stored first. -/
def State.actWrite (s : State) (p : Page) (o : Nat) (v : Word) : Option State :=
  match p with
  | .gkc g => gkcWrite s g o v
  | .pnd n => pndWrite s n o v
  | .gd c => gdWrite s c o v
  | .molt t => moltWrite s t o v
  | .que t => if 0x44 ≤ o ∧ o < 0x70 ∨ o = 0x90 then some (queWrite s t o v) else none
  | .chm t => chmWrite s t o v
  | .slt t =>
    if o = 0x44 ∨ o = 0x48 ∨ 0x800 ≤ o then
      let s := sltWrite s t o v
      some { s with b := s.b.decStore p (pbase p + o) }
    else none
  | .cfg t => cfgPageWrite s t o v
  | .pwr t => if o = 0x40 then some (s.lpdWrite t v).resettle else none
  | .hop t => if 0x80 ≤ o ∧ o < 0x100 then some (fhpWrite s t ((o - 0x80) / 4) v) else none
  | .ano => anoWrite s o v
  | .pkg => if o = 0x4C then some (pinctlWrite s (v.getLsbD 0)) else none
  | .twr _ | .enc _ | .hst _ | .scb _ | .thm _ | .clk _ | .vbd _ | .pci | .efl _ | .iob _ | .bgt | .ckr | .evr | .fus | .ldr => none

/-- A period of 0 stops a pass where it is; a nonzero one resumes it (06 R134, 09 R199, 16 R332): does the write of `v` do either, `old`
the period before? -/
def passTurns (old v : Nat) : Bool := (old == 0) != (v == 0)

/-- What follows once the register has been stored; `s0` is the state before. -/
def State.afterWrite (s s0 : State) (p : Page) (o : Nat) (v : Word) : State :=
  match p with
  | .gkc g => gkcAfter s g o v
  | .efl n => eflAfter s n o v (s0.b.bit (.efl n) EFL.CTRL_TEST)
  | .iob _ => if o = 0x44 then s.settle else s
  | .scb t =>
    if o = SCB.PERIOD_MS.off ∧ passTurns (s0.b.fld p SCB.PERIOD_MS) (s.b.fld p SCB.PERIOD_MS) = true then
      { s with cfg := { s.cfg with passAt := passFlip s.cfg.passAt t s.b.aonUs } }
    else s
  | .pnd n =>
    if o = PND.PATROL_MS.off ∧ passTurns (s0.b.fld p PND.PATROL_MS) (s.b.fld p PND.PATROL_MS) = true then
      { s with ponds := { s.ponds with passAt := passFlip s.ponds.passAt n s.b.aonUs } }
    else s
  | .gd c =>
    if o = GD.PATROL_S.off ∧ passTurns (s0.b.fld p GD.PATROL_S) (s.b.fld p GD.PATROL_S) = true then
      { s with gdr := { s.gdr with passAt := passFlip s.gdr.passAt c s.b.aonUs } }
    else s
  | .bgt => if o = 0x64 then { s with b := updateLevels s.b s.pwr.pwrFail } else s
  | .ckr =>
    if o = 0x40 then { s with b := ckrCtrlChanged s.b }
    else if o = 0x4C ∧ v.getLsbD 0 = true then { s with b := ckrReturn s.b }
    else if o = 0x50 ∧ v.getLsbD 0 = true then { s with b := rampGo s.b }
    else s
  | .ano => if o = 0x4C ∧ v.getLsbD 31 = true then mbGo s else s
  | .pkg => if o = 0x88 ∧ v.getLsbD 8 = true then ctxRst s (wget v 7 0) else s
  | .pci =>
    if o = 0x74 then
      let s := if v.getLsbD 0 then rmvReq s else s
      if v.getLsbD 1 then rmvAck s else s
    else s
  | .ldr => ldrAfter s o v
  | _ => s

/-- A write to register `r` at offset `o` of page `p`. -/
def State.regWrite (s : State) (p : Page) (o : Nat) (r : RegSpec) (v : Word) : State :=
  if o < 0x40 then s.headerWrite p o v
  else match s.actWrite p o v with
    | some x => x
    | none => State.afterWrite { s with b := s.b.store p o r v } s p o v

/-! ### The MSI-X table (18 R377) -/

/-- A write to word `w` of table entry `v` of function `f`: an entry that is unmasked sends its pending message. -/
def Base.msixWrite (b : Base) (f v w : Nat) (x : Word) : Base :=
  let x := if w = 3 then x &&& 1 else x
  ({ b with msixTab := SMap.set msixReset b.msixTab (f * 8192 + v * 4 + w) x } : Base).msixFlush

/-! ### A write to the MA -/

/-- A write that reaches page `p`: discarded while the block stands still (02 R38) or is under BLOCK reset (02 R37), else it
wakes a sleeping block and acts. -/
def State.admitWrite (s : State) (p : Page) (act : State → State) : State :=
  if s.b.standsStill p then s
  else if s.b.fld p HDR.BLK_STAT_STATE = stResetting then s
  else act (s.maWake p)

/-- A write of a whole word to aligned MA address `a` (02 R22 to R24, R37, R38). -/
def State.maWrite (s : State) (a : Nat) (v : Word) : State :=
  let tg := maTarget a
  match tg.owner with
  | none => { s with b := s.b.badAccess a }
  | some p => s.admitWrite p fun s =>
    match tg with
    | .reg p o => match pageReg p o with
      | some r => s.regWrite p o r v
      | none => s
    | .enct t o => enctWrite s t o v
    | .msix k => { s with b := s.b.msixWrite 0 (k / 4) (k % 4) v }
    | .gdbg g o => gkDebugWrite s g o v
    | .pba _ => s
    | .qdt _ _ | .crk _ _ | .reserved => { s with b := s.b.badAccess a }

/-- A write of bytes whose words are given lowest first from aligned address `a` on: a word of which every byte is enabled is
written, one with some bytes is discarded as under R22, one with none is not touched (02 R23). -/
def State.maWriteWords : List (List (Option Byte)) → Nat → State → State
  | [], _, s => s
  | w :: ws, a, s =>
    match w with
    | [some b0, some b1, some b2, some b3] =>
      State.maWriteWords ws (a + 4) (s.maWrite a (b3 ++ b2 ++ b1 ++ b0))
    | _ => State.maWriteWords ws (a + 4) (if w.any Option.isSome then { s with b := s.b.badAccess a } else s)

/-- Cut a list of bytes into words. -/
def byWords : Nat → List (Option Byte) → List (List (Option Byte))
  | 0, _ => []
  | n + 1, l => (l.take 4 ++ List.replicate (4 - (l.take 4).length) none) :: byWords n (l.drop 4)

/-- A write of bytes from address `a` on, each with its enable. -/
def State.maWriteBytes (s : State) (a : Nat) (l : List (Option Byte)) : State :=
  s.maWriteWords (byWords ((a % 4 + l.length + 3) / 4) (List.replicate (a % 4) none ++ l)) (a / 4 * 4)

end Sys2Proof.Machine
end

