-- ==== Sys2Proof/Machine/MaAccess.lean ====
section
/-! DEFINITION. The commands on the management address space: register accesses, the common header, commits, leaks, wakes, and
configuration requests at a management stop (02 R20 to R38; 14 R295). -/
namespace Sys2Proof.Machine

/-- REGISTER_WRITE (02 R24): a write of a word to a register. -/
def execRegisterWrite (a : Fin 0x8000000) (v : Word) (s : State) : Host.Outcome State Fault Refusal :=
  .next (s.maWrite (a / 4 * 4) v)

/-- RC_READ (02 R22, R23): a read of a word; what it returns goes out, and the register's RC fields clear. -/
def execRcRead (a : Fin 0x8000000) (s : State) : Host.Outcome State Fault Refusal :=
  let x := s.maRead (a / 4 * 4)
  .next { x.1 with b := x.1.b.send (.readData x.2.toNat) }

/-- Is an address one that a whole write treats as reserved (02 R22): nothing there, a queue descriptor, a croak record? -/
def writeReserved (a : Nat) : Bool :=
  match maTarget a with
  | .reserved | .qdt _ _ | .crk _ _ => true
  | _ => false

/-- RESERVED_ACCESS (02 R22, R23): a read of a reserved offset returns zero; a write of one, or one that does not cover a whole
register, is discarded; each sets BAD_ACCESS and captures the address. -/
def execReservedAccess (a : Fin 0x8000000) (k : AccessKind) (s : State) : Host.Outcome State Fault Refusal :=
  let w := a / 4 * 4
  let bad : State := { s with b := s.b.badAccess w }
  match k with
  | .read => if maTarget w = .reserved then .next { bad with b := bad.b.send (.readData 0) } else .next s
  | .write => if writeReserved w then .next bad else .next s
  | .partialWrite => .next bad

/-- BLK_CTRL_EN (02 R515): a write of EN. -/
def execBlkCtrlEn (p : Page) (en : Bool) (s : State) : Host.Outcome State Fault Refusal :=
  .next (s.admitWrite p fun s => s.blkEn p en)

/-- Has a disabled block no accepted work left: requests held or outstanding, running programs, stagings, molts, loads
(02 R515)? -/
def State.drained (s : State) (p : Page) : Bool :=
  !s.blockBusy p &&
  match p with
  | .gd c => (SMap.get (fun _ => []) s.gdr.held c).isEmpty && !s.b.gdTraining c && !s.b.bit p GD.STAT_INIT_BUSY
  | .molt _ => !s.b.moltBusy
  | .efl n => (eflAt s.efl n).slots.isEmpty && (eflAt s.efl n).inb.isEmpty
  | .hop t => !s.hop.tags.any (fun e => s.b.srcTower (e.1 / 4096) == t.val) && s.hop.stray.isEmpty
  | .pci => s.pcieIdle && !s.pci.rmvWait
  | .chm t => s.cm t CHM.STAT_PHASE != 1 && (s.ch t).want.isNone && (s.ch t).evCtx.isNone
  | .slt t => !(s.ch t).copying
  | .ldr => s.phase == 0 && !s.b.bit .ldr LDR.STATE_DLV_BUSY
  | .que t => (towerQueues s t).all fun q => (queueAt s.que q).wait.isEmpty
  | .gkc g => !s.b.dmaAny g && (s.gko.at g).stall.isNone && !(s.b.gkRun g == rRUNNING || s.b.gkRun g == rPAUSED || s.b.gkRun g == rWAITING)
  | .cfg t => !s.b.bit (.cfg t) CFG.STAT_RB_BUSY
  | .twr _ | .enc _ | .hst _ | .pnd _ | .scb _ | .pwr _ | .thm _ | .clk _ | .vbd _ | .pkg | .iob _ | .bgt | .ckr | .ano | .evr
  | .fus => true

/-- DRAIN_COMPLETE (02 R515): a draining block has finished its accepted work. -/
def execDrainComplete (p : Page) (s : State) : Host.Outcome State Fault Refusal :=
  if s.b.fld p HDR.BLK_STAT_STATE = stDraining ∧ s.drained p = true then .next { s with b := s.b.setState p stDisabled } else .next s

/-- COMMIT_GO (02 R27, R28): BLK_COMMIT.GO. -/
def execCommitGo (p : Page) (s : State) : Host.Outcome State Fault Refusal := .next (s.admitWrite p fun s => s.commitGo p)
/-- COMMIT_CANCEL (02 R27): BLK_COMMIT.CANCEL. -/
def execCommitCancel (p : Page) (s : State) : Host.Outcome State Fault Refusal :=
  .next (s.admitWrite p fun s => s.commitCancel p)
/-- COMMIT_APPLY (02 R26): the commit point of a page whose commit is pending. -/
def execCommitApply (p : Page) (s : State) : Host.Outcome State Fault Refusal :=
  if s.b.commitPend p then .next (s.commitPoint p) else .next s

/-- EVT_STAT_CLEAR (02 R33). -/
def execEvtStatClear (p : Page) (v : Word) (s : State) : Host.Outcome State Fault Refusal :=
  .next (s.admitWrite p fun s => { s with b := s.b.evtClear p v })
/-- EVT_FORCE (02 R25, R36). -/
def execEvtForce (p : Page) (v : Word) (s : State) : Host.Outcome State Fault Refusal :=
  .next (s.admitWrite p fun s => { s with b := s.b.evtForce p v })
/-- NME_STAT_CLEAR (02 R36): ALERT_N follows NME_STAT, whose causes 1 clears. -/
def execNmeStatClear (v : Word) (s : State) : Host.Outcome State Fault Refusal :=
  .next (s.admitWrite .evr fun s => { s with b := s.b.setWord (pbase .evr + 0x40) (s.b.word (pbase .evr + 0x40) &&& ~~~ v) })

/-- ERR_LEAK (02 R30): one leak, once it has come due. -/
def execErrLeak (p : Page) (s : State) : Host.Outcome State Fault Refusal :=
  if s.b.leakDue p then .next { s with b := s.b.leak p } else .next s
/-- ERR_CFG_WRITE (02 R30, R32). -/
def execErrCfgWrite (p : Page) (v : Word) (s : State) : Host.Outcome State Fault Refusal :=
  .next (s.admitWrite p fun s => { s with b := s.b.errCfg p v })
/-- ERR_LOG_RELEASE (02 R31). -/
def execErrLogRelease (p : Page) (s : State) : Host.Outcome State Fault Refusal :=
  .next (s.admitWrite p fun s => { s with b := s.b.releaseLog p })

/-- BLOCK_WAKE (02 R38): a register access, a read or a write of a word, to a block that sleeps wakes it and is completed. -/
def execBlockWake (a : Fin 0x8000000) (v : Option Word) (s : State) : Host.Outcome State Fault Refusal :=
  match (maTarget (a / 4 * 4)).owner with
  | none => .next s
  | some p =>
    if s.b.sleeps p then match v with
      | some v => execRegisterWrite a v s
      | none => execRcRead a s
    else .next s

/-! ### Configuration requests at a management stop (14 R295, 02 R20) -/

/-- The tower at whose management stop an MA address is served; the package window is served at tower 0's. -/
def mgtTower (a : Nat) : Nat := if a < 0x4000000 then a / 0x1000000 else 0

/-- The requests a management stop admits: privileged, from PF0, Anole or the loader, to an MA address. -/
def mgtAdmits (r : HopReq) : Bool :=
  r.priv && (r.src.val == 776 || r.src.val == 1008 || r.src.val == 1009) && decide (r.addr.toNat < 0x8000000)

/-- Put bytes in their places of a 64-byte block. -/
def placeBytes (o : Nat) (l : List Byte) : BitVec 512 :=
  BitVec.ofNat 512 ((l.foldr (fun x n => n * 256 + x.toNat) 0) <<< (8 * o))

/-- The bytes of a request's range, each with its enable. -/
def reqByteList (r : HopReq) : List (Option Byte) :=
  let o := r.addr.toNat % 64
  let be := reqEnables r
  (List.range r.bytes).map fun i =>
    if be.getLsbD (o + i) then some ((r.data >>> (8 * (o + i))).setWidth 8) else none

/-- A configuration request is served: a read's bytes, or a write's effect. -/
def mgtServe (s : State) (r : HopReq) (write : Bool) : State :=
  if !mgtAdmits r || !oneBlock r then { s with b := (hopUnsup s.b r).answer r (rspStatus stUNSUPPORTED) }
  else if write then
    let s := s.maWriteBytes r.addr.toNat (reqByteList r)
    { s with b := s.b.answer r (rspStatus stOK) }
  else
    let x := s.maReadBytes r.addr.toNat r.bytes
    { x.1 with b := x.1.b.answer r (rspData (placeBytes (r.addr.toNat % 64) x.2) false false) }

/-- A configuration request reaches a management stop. -/
def mgtArrive (s : State) (r : HopReq) (write : Bool) (w : Wire) : State :=
  if !s.mayArrive r write then s
  else
    let s2 := if (s.hop.sent r write).isNone then s.inject r write false else s
    let s3 := (s2.arrived r write w.uc).wired w (mgtTower r.addr.toNat) 0 r.src r.addr.toNat
    if w.uc then s3
    else if w.resv then { s3 with b := s3.b.answer r (rspStatus stUNSUPPORTED) }
    else mgtServe s3 r write

/-- CFG_RD (14 R282, R295). -/
def execCfgRd (r : HopReq) (w : Wire) (s : State) : Host.Outcome State Fault Refusal := .next (mgtArrive s r false w)
/-- CFG_WR (14 R282, R295). -/
def execCfgWr (r : HopReq) (w : Wire) (s : State) : Host.Outcome State Fault Refusal := .next (mgtArrive s r true w)

end Sys2Proof.Machine
end

