-- ==== Sys2Proof/Machine/PcieTlp.lean ====
section
/-! DEFINITION. Memory requests of the host: what a BAR leads to, the requests a TLP is split into, their completion, poison,
and IDE (18 R371 to R376, R380, R383). -/
namespace Sys2Proof.Machine

/-! ### Admission -/

/-- The TLP's IDE stream and the verdict of its check (18 R380): one on a stream that is not secure is discarded; one that fails
is discarded, logged and reported, and its stream becomes insecure. None where the TLP may go on. -/
def State.ideFails (s : State) (f : Nat) (x : Option (Fin 9 × Bool)) : Option State :=
  match x with
  | none => none
  | some (n, ok) =>
    let k := 16 * b2n (s.b.onPortB f) + n.val
    if SMap.get (fun _ => 0) s.pci.ide k ≠ 1 then some s
    else if ok then none
    else
      let s := { s with b := s.b.logErr .pci { kind := 3, src := some (fnSrc f) } }
      some (State.aerNote { s with pci := { s.pci with ide := SMap.set (fun _ => 0) s.pci.ide k 2 } } f 2)

/-- The pieces of a range of `len` bytes from offset `o` on, each within one 64-byte block (18 R373): offset and length. -/
def tlpPieces : Nat → Nat → Nat → List (Nat × Nat)
  | 0, _, _ => []
  | n + 1, o, len =>
    if len = 0 then []
    else
      let k := Nat.min len (64 - o % 64)
      (o, k) :: tlpPieces n (o + k) (len - k)

/-- The request of one piece: PRIO 1, the function's initiator and context; PF0 is privileged (18 R370, R373). -/
def tlpReq (f a : Nat) (bytes : Nat) (bex : Bool) (be : BitVec 64) (d : BitVec 512) (ep : Bool) : HopReq :=
  { engineReq (fnSrc f) (f == 0) (if f == 0 then 0 else fnCtx f) a bytes be bex d ep ep with prio := 1 }

/-! ### Registers of the controller behind a BAR (18 R369) -/

/-- Word `w` of a function's MSI-X table from offset 0, or of its PBA from offset `pba`; zero elsewhere. -/
def Base.msixBar (b : Base) (f pba o : Nat) : Word :=
  if o < 16 * fnVectors f then b.msixWord f (o / 16) (o % 16 / 4)
  else if pba ≤ o ∧ o < pba + (fnVectors f + 31) / 32 * 4 then
    (List.range 32).foldl (fun x i => if b.msixPending f (32 * ((o - pba) / 4) + i) then x ||| evt i else x) 0
  else 0

/-- The word at aligned offset `o` of PF0B's BAR0: copies of LINK_STAT and RMV_STAT, the MSI-X table at 0x1000, the PBA at
0x2000. -/
def Base.pf0bWord (b : Base) (o : Nat) : Word :=
  if o = 0 then b.word (pbase .pci + 0x44)
  else if o = 4 then b.word (pbase .pci + 0x7C)
  else if o < 0x1000 then 0
  else b.msixBar 9 0x1000 (o - 0x1000)

/-- Bytes `o` to `o + n - 1` of a range of words. -/
def wordRange (word : Nat → Word) (o n : Nat) : List Byte :=
  ((wordBytes ((List.range ((o % 4 + n + 3) / 4)).map fun i => word (o / 4 * 4 + 4 * i))).drop (o % 4)).take n

/-- Write the words of a function's MSI-X table of which every byte is enabled; the rest of the range is not written. -/
def Base.msixBarWrite (b : Base) (f : Nat) : List (List (Option Byte)) → Nat → Base
  | [], _ => b
  | w :: ws, o =>
    let b := match w with
      | [some b0, some b1, some b2, some b3] =>
        if o < 16 * fnVectors f then b.msixWrite f (o / 16) (o % 16 / 4) (b3 ++ b2 ++ b1 ++ b0) else b
      | _ => b
    Base.msixBarWrite b f ws (o + 4)

/-- Write bytes from offset `o` of a function's MSI-X table on. -/
def Base.msixBytes (b : Base) (f o : Nat) (l : List (Option Byte)) : Base :=
  b.msixBarWrite f (byWords ((o % 4 + l.length + 3) / 4) (List.replicate (o % 4) none ++ l)) (o / 4 * 4)

/-! ### Reads (18 R373, R374) -/

/-- The bytes of a request's range in an answer's block. -/
def takeBytes (d : BitVec 512) (o n : Nat) : List Byte := (List.range n).map fun i => (d >>> (8 * (o + i))).setWidth 8

/-- Read the pieces of a TLP in address order; the request itself while its target cannot answer. Each answer with its bytes; a piece whose
doorbell lies beyond its queue count is unsupported and reaches nothing. -/
def State.readPieces (f : Nat) : List (Option Nat × Nat) → State → List HopRsp →
    Except (HopReq × Bool) (State × List (HopRsp × List Byte))
  | [], s, _ => .ok (s, [])
  | (some a, k) :: ps, s, remote =>
    match s.engineAccess (tlpReq f a k false 0 0 false) false remote with
    | .error e => .error e
    | .ok (s, ans, remote) =>
      (State.readPieces f ps s remote).map fun y => (y.1, (ans, takeBytes ans.data (a % 64) k) :: y.2)
  | (none, _) :: ps, s, remote => (State.readPieces f ps s remote).map fun y => (y.1, (rspStatus stUNSUPPORTED, []) :: y.2)

/-- Is an answer good for a read: data, or status OK? -/
def rspGood (a : HopRsp) : Bool := a.isData || a.status == stOK

/-- The PCIe completion of a read (18 R374): the status of the first request in address order that is not OK, the bytes of a
successful one, and EP where any of its data is poisoned. -/
def tlpStatus (l : List (HopRsp × List Byte)) : Nat × List Byte × Bool :=
  let bytes := l.flatMap fun x => x.2
  match l.find? fun x => !rspGood x.1 with
  | none => (0, bytes, l.any fun x => x.1.poisonL || x.1.poisonH)
  | some (a, _) => if a.status = stPOISONED then (0, bytes, true) else if a.status = stUNSUPPORTED then (1, [], false) else (4, [], false)

/-- Send a completion; a Completer Abort or an Unsupported Request is reported in AER (18 R376). -/
def State.complete (s : State) (f tag : Nat) (x : Nat × List Byte × Bool) : State :=
  let s := if x.1 = 4 then s.aerNote f 0 else if x.1 = 1 then s.aerNote f 3 else s
  { s with b := s.b.send (.tlp f tag x.1 x.2.1 x.2.2) }

/-- Does a memory request find the function, its BAR and every byte of its range (18 R371, R372)? -/
def State.tlpClaimed (s : State) (f bar o len : Nat) : Bool := s.fnClaims f bar o && decide (o + len ≤ s.b.barSize f bar)

/-! ### Posted writes (18 R373 to R375) -/

/-- The 64 byte enables and the block of bytes placed from byte `o` of a block on. -/
def placeEnabled (o : Nat) (l : List (Option Byte)) : BitVec 64 × BitVec 512 :=
  (BitVec.ofNat 64 ((l.foldr (fun x n => n * 2 + b2n x.isSome) 0) <<< o), placeBytes o (l.map fun x => x.getD 0))

/-- A posted write's request was not answered OK (18 R374): counted, logged, PW_FAIL. -/
def State.pwFail (s : State) (f a : Nat) : State :=
  let b := s.b.addFld .pci PCI.PW_FAIL_CNT 1
  let b := b.logErr .pci { kind := 1, addr := a, ctx := if f = 0 then none else some (fnCtx f), src := some (fnSrc f) }
  { s with b := b.event .pci 12 }

/-- Write the pieces of a TLP in address order; the request itself while its target cannot answer. A piece with no byte enabled writes nothing;
one beyond its doorbells is an Unsupported Request. -/
def State.writePieces (f : Nat) (ep : Bool) :
    List (Option Nat × Nat) → List (Option Byte) → State → List HopRsp → Except (HopReq × Bool) State
  | [], _, s, _ => .ok s
  | (x, k) :: ps, bytes, s, remote =>
    let l := bytes.take k
    if !l.any Option.isSome then State.writePieces f ep ps (bytes.drop k) s remote
    else match x with
    | some a =>
      let x := placeEnabled (a % 64) l
      match s.engineAccess (tlpReq f a k (!l.all Option.isSome) x.1 x.2 ep) true remote with
      | .error e => .error e
      | .ok (s, ans, remote) =>
        State.writePieces f ep ps (bytes.drop k) (if ans.status = stOK then s else s.pwFail f a) remote
    | none => State.writePieces f ep ps (bytes.drop k) (s.aerNote f 3) remote

/-- The address that an error log gives for an access through a BAR (02 R25): the DPA, else the block's own. -/
def BarTarget.addr : BarTarget → Nat
  | .ma a => a
  | .dpa a => a
  | .msix o => o
  | .pf0b o => o
  | .beyond => 0

/-- A poisoned write is logged and reported (18 R375). -/
def State.epNote (s : State) (f bar o : Nat) : State :=
  State.aerNote { s with b := s.b.logErr .pci { kind := 2, poison := true, addr := (s.b.barTarget f bar o).addr, ctx := if f = 0 then none else some (fnCtx f),
                                                src := some (fnSrc f) } } f 1

/-! ### Order, and TLPs that wait (18 R373, R381 to R383; 14 R288) -/

/-- The pieces of a TLP of `len` bytes from offset `o` of a BAR, translated (18 R371). -/
def Base.tlpSplit (b : Base) (f bar o len : Nat) : List (Option Nat × Nat) :=
  (tlpPieces 65 o len).map fun x => (match b.barTarget f bar x.1 with | .dpa a => some a | _ => none, x.2)

/-- The target stops of a TLP's requests. -/
def State.tlpStops (s : State) (x : Tlp) : List (Option Nat) :=
  x.pieces.filterMap fun p => p.1.map (targetStop (s.b.gmode (s.b.srcTower (fnSrc x.fn))))

/-- Must TLP `x` wait for the earlier TLP `y` of the same function: a posted write, unless `x` is a write with Relaxed Ordering, or any
TLP to the same target stop? -/
def State.tlpAfter (s : State) (x y : Tlp) : Bool :=
  y.fn == x.fn && ((match y.body, x.body with
    | .write .., .write _ _ relaxed => !relaxed
    | .write .., .read _ => true
    | .read _, _ => false) || (s.tlpStops x).any fun a => (s.tlpStops y).contains a)

/-- Make the requests of a TLP and send its completion, unless that is to be discarded; the request that its target cannot answer yet. -/
def State.tlpRun (s : State) (x : Tlp) : Except (HopReq × Bool) State :=
  match x.body with
  | .read tag => (s.readPieces x.fn x.pieces x.remote).map fun y => if x.gone then y.1 else y.1.complete x.fn tag (tlpStatus y.2)
  | .write l ep _ => s.writePieces x.fn ep x.pieces l x.remote

/-- A TLP waits in the controller. -/
def State.tlpHold (s : State) (x : Tlp) : State := { s with pci := { s.pci with held := s.pci.held ++ [x] } }

/-- Take a TLP, which waits behind those it must follow, for its targets, and while the clocks are gated. -/
def State.tlpTake (s : State) (x : Tlp) : State :=
  if s.b.gated || s.pci.held.any (s.tlpAfter x) then s.tlpHold x
  else match s.tlpRun x with
    | .error e => (s.await e).tlpHold x
    | .ok s => s

/-- The TLPs that wait are tried again, oldest first; a removal under way ends when none is left. -/
def State.pcieGo (s : State) : State := (s.pci.held.foldl State.tlpTake { s with pci := { s.pci with held := [] } }).quiesceEnd

/-- A read TLP that reached its function. -/
def tlpRead (s : State) (f bar o len tag : Nat) (remote : List HopRsp) : State :=
  if s.pci.shut then s.complete f tag (4, [], false)
  else if !s.tlpClaimed f bar o len then s.complete f tag (1, [], false)
  else match s.b.barTarget f bar o with
    | .ma a =>
      let x := s.maReadBytes a len
      x.1.complete f tag (0, x.2, false)
    | .msix o => s.complete f tag (0, wordRange (s.b.msixBar f 0x1000) o len, false)
    | .pf0b o => s.complete f tag (0, wordRange s.b.pf0bWord o len, false)
    | .beyond => s.complete f tag (1, [], false)
    | .dpa _ => s.tlpTake ⟨f, s.b.tlpSplit f bar o len, .read tag, remote, false⟩

/-- MEM_READ_TLP (18 R371, R373, R374): a memory read of `len` bytes from offset `o` of a BAR. -/
def execMemReadTlp (f : FnNo) (bar : Fin 6) (o : Nat) (len : Fin 4097) (tag : Fin 16384) (ide : Option (Fin 9 × Bool))
    (remote : List HopRsp) (s : State) : Host.Outcome State Fault Refusal :=
  if !s.b.fnLinkUp f then .next s
  else match s.ideFails f ide with
    | some s => .next s
    | none => .next (tlpRead s f bar o len tag remote)

/-- A posted write that reached its function. -/
def tlpWrite (s : State) (f bar o : Nat) (l : List (Option Byte)) (ep relaxed : Bool) (remote : List HopRsp) : State :=
  if s.pci.shut then s.aerNote f 0
  else if !s.tlpClaimed f bar o l.length then s.aerNote f 3
  else
    let noted := if ep then s.epNote f bar o else s
    match s.b.barTarget f bar o with
    | .ma a => noted.maWriteBytes a l
    | .msix o => { noted with b := noted.b.msixBytes f o l }
    | .pf0b o => if 0x1000 ≤ o then { noted with b := noted.b.msixBytes 9 (o - 0x1000) l } else noted
    | .beyond => s.aerNote f 3
    | .dpa _ => noted.tlpTake ⟨f, s.b.tlpSplit f bar o l.length, .write l ep relaxed, remote, false⟩

/-- MEM_WRITE_TLP (18 R371, R373 to R375): a posted write from offset `o` of a BAR on, each byte with its enable. -/
def execMemWriteTlp (f : FnNo) (bar : Fin 6) (o : Nat) (bytes : List (Option Byte)) (ep relaxed : Bool)
    (ide : Option (Fin 9 × Bool)) (remote : List HopRsp) (s : State) : Host.Outcome State Fault Refusal :=
  if !s.b.fnLinkUp f then .next s
  else match s.ideFails f ide with
    | some s => .next s
    | none => .next (tlpWrite s f bar o bytes ep relaxed remote)

end Sys2Proof.Machine
end

