-- ==== Sys2Proof/Machine/RowWrites.lean ====
section
/-! DEFINITION. The commands that are a write of one register whose write acts: each reaches its page as any write does (02 R24,
R38, R516), and then has the effect of that register's write. -/
namespace Sys2Proof.Machine

/-- CMD_STAGE (05 R91): CHM.CMD with STAGE, and SWAP in the same write where `swap`. -/
def execCmdStage (t : Tower) (c : Ctx) (swap : Bool) (s : State) : Host.Outcome State Fault Refusal :=
  .next (s.admitWrite (.chm t) fun s => s.chmCmd t true swap c)
/-- CMD_SWAP (05 R91): CHM.CMD with SWAP. -/
def execCmdSwap (t : Tower) (s : State) : Host.Outcome State Fault Refusal :=
  .next (s.admitWrite (.chm t) fun s => s.chmCmd t false true 0)
/-- CMD_THAW: CHM.CMD.THAW. -/
def execCmdThaw (t : Tower) (s : State) : Host.Outcome State Fault Refusal :=
  .next (s.admitWrite (.chm t) fun s => s.thaw t)
/-- EXCLUDE_SET: a marsh's bit of CHM.EXCLUDE is set. -/
def execExcludeSet (t : Tower) (m : Marsh) (s : State) : Host.Outcome State Fault Refusal :=
  .next (s.admitWrite (.chm t) fun s => (s.excludeSet t m).resettle)
/-- EXCLUDE_CLEAR: a marsh's bit of CHM.EXCLUDE is cleared. -/
def execExcludeClear (t : Tower) (m : Marsh) (s : State) : Host.Outcome State Fault Refusal :=
  .next (s.admitWrite (.chm t) fun s => (s.excludeClear t m).resettle)
/-- LPD_OFF: bit `d` of PWR.LPD_CTRL is set. -/
def execLpdOff (t : Tower) (d : Fin 16) (s : State) : Host.Outcome State Fault Refusal :=
  .next (s.admitWrite (.pwr t) fun s => (s.lpdOff t d).resettle)
/-- LPD_ON: bit `d` of PWR.LPD_CTRL is cleared. -/
def execLpdOn (t : Tower) (d : Fin 16) (s : State) : Host.Outcome State Fault Refusal :=
  .next (s.admitWrite (.pwr t) fun s => (s.lpdOn t d).resettle)
/-- WE_RELEASE (06 R132): CFG.WE_CMD.RELEASE with CTX_MASK in tower `t`'s page, at the next switch-clock edge of each tower. -/
def execWeRelease (t : Tower) (mask : BitVec 8) (s : State) : Host.Outcome State Fault Refusal :=
  .next (s.admitWrite (.cfg t) fun s => (s.release mask.toNat).settle)
/-- RB_GO (06 R138): a readback begins; ignored while one is in progress. -/
def execRbGo (t : Tower) (s : State) : Host.Outcome State Fault Refusal :=
  .next (s.admitWrite (.cfg t) fun s => s.rbGo t)
/-- RAW_WR (06 R139): CFG.RB_CMD.RAW_WR is written. -/
def execRawWr (t : Tower) (s : State) : Host.Outcome State Fault Refusal :=
  .next (s.admitWrite (.cfg t) fun s => s.rawWrite t)
/-- DLV_GO (08 R163): LDR.DLV_CMD.GO, with LAST where `last`. -/
def execDlvGo (last : Bool) (s : State) : Host.Outcome State Fault Refusal :=
  .next (s.admitWrite .ldr fun s => s.dlvGo last)
/-- ABORT (08 R174). -/
def execAbort (s : State) : Host.Outcome State Fault Refusal :=
  .next (s.admitWrite .ldr fun s => s.ldrAbort)
/-- GOLDEN (08 R174). -/
def execGolden (s : State) : Host.Outcome State Fault Refusal :=
  .next (s.admitWrite .ldr fun s => s.ldrGolden)
/-- SOFT_REPAIR: PND.SR_CMD with GO = 1. -/
def execSoftRepair (p : Fin 128) (pad : Fin 32) (sub : Fin 4) (col : Fin 512) (s : State) : Host.Outcome State Fault Refusal :=
  .next (s.admitWrite (.pnd p) fun s => { s with b := srCmdWrite s.b p pad sub col })
/-- BIST: PND.CMD with OP = 1. -/
def execBist (p : Fin 128) (pad : Fin 32) (s : State) : Host.Outcome State Fault Refusal :=
  .next (s.admitWrite (.pnd p) fun s => s.padCommand p 1 pad)
/-- ZERO: PND.CMD with OP = 2. -/
def execZero (p : Fin 128) (pad : Fin 32) (s : State) : Host.Outcome State Fault Refusal :=
  .next (s.admitWrite (.pnd p) fun s => s.padCommand p 2 pad)
/-- PAD_RAW_WRITE: the row and its check bits are stored as written (23 R471). -/
def execPadRawWrite (p : Fin 128) (s : State) : Host.Outcome State Fault Refusal :=
  .next (s.admitWrite (.pnd p) fun s => s.padRaw p true)
/-- PAD_RAW_READ: the row is read without decoding (23 R471). -/
def execPadRawRead (p : Fin 128) (s : State) : Host.Outcome State Fault Refusal :=
  .next (s.admitWrite (.pnd p) fun s => s.padRaw p false)
/-- Q_LEVEL_WRITE (10 R210): takes effect for the next change of AVAIL. -/
def execQLevelWrite (t : Tower) (v : Word) (s : State) : Host.Outcome State Fault Refusal :=
  .next (s.admitWrite (.que t) fun s => queWrite s t 0x50 v)
/-- Q_GO: Q_CMD.GO. -/
def execQGo (t : Tower) (s : State) : Host.Outcome State Fault Refusal :=
  .next (s.admitWrite (.que t) fun s => qGo s t)
/-- Q_CANCEL: Q_CMD.CANCEL. -/
def execQCancel (t : Tower) (s : State) : Host.Outcome State Fault Refusal :=
  .next (s.admitWrite (.que t) fun s => qCancel s t)
/-- FLUSH: Q_CMD.FLUSH. -/
def execFlush (t : Tower) (s : State) : Host.Outcome State Fault Refusal :=
  .next (s.admitWrite (.que t) fun s => qFlush s t)
/-- PFLIP: QUE.RAW_CMD.PFLIP. -/
def execPflip (t : Tower) (s : State) : Host.Outcome State Fault Refusal :=
  .next (s.admitWrite (.que t) fun s => qPflip s t)
/-- START (11 R235). -/
def execStart (g : Fin 128) (s : State) : Host.Outcome State Fault Refusal :=
  .next (s.admitWrite (.gkc g) fun s => gkStart s g)
/-- RESUME (11 R235). -/
def execResume (g : Fin 128) (s : State) : Host.Outcome State Fault Refusal :=
  .next (s.admitWrite (.gkc g) fun s => gkResume s g)
/-- STOP (11 R235). -/
def execStop (g : Fin 128) (s : State) : Host.Outcome State Fault Refusal :=
  .next (s.admitWrite (.gkc g) fun s => gkStop s g)
/-- STEP (11 R235). -/
def execStep (g : Fin 128) (s : State) : Host.Outcome State Fault Refusal :=
  .next (s.admitWrite (.gkc g) fun s => gkStep s g)
/-- GKC_PC_WRITE (11 R235). -/
def execGkcPcWrite (g : Fin 128) (v : Word) (s : State) : Host.Outcome State Fault Refusal :=
  .next (s.admitWrite (.gkc g) fun s => { s with b := gkPcWrite s.b g v.toNat })
/-- DMA_GO (11 R238). -/
def execDmaGo (g : Fin 128) (ch : Fin 4) (s : State) : Host.Outcome State Fault Refusal :=
  .next (s.admitWrite (.gkc g) fun s => gkDmaGo s g ch)
/-- WBINV (11 R240). -/
def execWbinv (g : Fin 128) (s : State) : Host.Outcome State Fault Refusal :=
  .next (s.admitWrite (.gkc g) fun s => { s with b := gkWbinv s.b g })
/-- GECKO_ZERO (11 R242). -/
def execGeckoZero (g : Fin 128) (s : State) : Host.Outcome State Fault Refusal :=
  .next (s.admitWrite (.gkc g) fun s => gkZero s g)
/-- FHP_CLK_WRITE (14 R299): each port's enable and clock take effect once it has no request outstanding. -/
def execFhpClkWrite (t : Tower) (j : Fin 32) (v : Word) (s : State) : Host.Outcome State Fault Refusal :=
  .next (s.admitWrite (.hop t) fun s => fhpWrite s t j v)
/-- TRAIN_GO (16 R317): GD.TRAIN.GO. -/
def execTrainGo (g : Fin 16) (s : State) : Host.Outcome State Fault Refusal :=
  .next (s.admitWrite (.gd g) fun s => s.trainGo g)
/-- INIT: GD.CMD.INIT. -/
def execInit (g : Fin 16) (s : State) : Host.Outcome State Fault Refusal :=
  .next (s.admitWrite (.gd g) fun s => { s with b := gdInitWrite s.b g })
/-- GD_RAW_WRITE: GD.RAW_CMD.WR. -/
def execGdRawWrite (g : Fin 16) (s : State) : Host.Outcome State Fault Refusal :=
  .next (s.admitWrite (.gd g) fun s => s.gdRaw g true)
/-- GD_RAW_READ: GD.RAW_CMD.RD. -/
def execGdRawRead (g : Fin 16) (s : State) : Host.Outcome State Fault Refusal :=
  .next (s.admitWrite (.gd g) fun s => s.gdRaw g false)
/-- ERASE (17 R342): KS_CMD.ERASE of slot `k`, through tower `t`'s window. -/
def execErase (t : Tower) (k : Fin 256) (s : State) : Host.Outcome State Fault Refusal :=
  .next (s.admitWrite (.enc ⟨4 * t.val + 3, by omega⟩) fun s => s.slotErase k)
/-- MOLT: MOLT.CMD with OP = MOLT, through tower `t`'s page. -/
def execMolt (t : Tower) (r kb : Fin 256) (s : State) : Host.Outcome State Fault Refusal :=
  .next (s.admitWrite (.molt t) fun s => s.moltGo t 1 r kb)
/-- FILL: MOLT.CMD with OP = FILL, through tower `t`'s page. -/
def execFill (t : Tower) (r : Fin 256) (s : State) : Host.Outcome State Fault Refusal :=
  .next (s.admitWrite (.molt t) fun s => s.moltGo t 2 r 0)
/-- GCLK_EN_WRITE (20 R408): EN is written; the gate follows at the clock's next edge. -/
def execGclkEnWrite (t : Tower) (n : Fin 32) (en : Bool) (s : State) : Host.Outcome State Fault Refusal :=
  .next (s.admitWrite (.clk t) fun s => { s with b := s.b.setBit (.clk t) (CLK.GCLK_CFG_EN.nth n) en })
/-- RAMP_GO: CKR.RAMP.GO. -/
def execRampGo (s : State) : Host.Outcome State Fault Refusal :=
  .next (s.admitWrite .ckr fun s => { s with b := rampGo s.b })
/-- RETURN: CKR.CMD.RETURN. -/
def execReturn (s : State) : Host.Outcome State Fault Refusal :=
  .next (s.admitWrite .ckr fun s => { s with b := ckrReturn s.b })
/-- EFL_TRAIN (19 R388). -/
def execEflTrain (n : Fin 8) (s : State) : Host.Outcome State Fault Refusal :=
  .next (s.admitWrite (.efl n) fun s => eflTrain s n)
/-- DOWN (19 R397). -/
def execDown (n : Fin 8) (s : State) : Host.Outcome State Fault Refusal :=
  .next (s.admitWrite (.efl n) fun s => eflDownCmd s n)
/-- QUIESCE (19 R399). -/
def execQuiesce (n : Fin 8) (s : State) : Host.Outcome State Fault Refusal :=
  .next (s.admitWrite (.efl n) fun s => eflQuiesce s n)
/-- PRBS_TEST (19 R400). -/
def execPrbsTest (n : Fin 8) (on : Bool) (s : State) : Host.Outcome State Fault Refusal :=
  .next (s.admitWrite (.efl n) fun s => eflTest s n on)
/-- PRBS_INJ (19 R400). -/
def execPrbsInj (n : Fin 8) (s : State) : Host.Outcome State Fault Refusal :=
  .next (s.admitWrite (.efl n) fun s => { s with b := prbsInject s.b n })
/-- PRBS_CLR (19 R400). -/
def execPrbsClr (n : Fin 8) (s : State) : Host.Outcome State Fault Refusal :=
  .next (s.admitWrite (.efl n) fun s => { s with b := prbsClear s.b n })
/-- RMV_ACK. -/
def execRmvAck (s : State) : Host.Outcome State Fault Refusal :=
  .next (s.admitWrite .pci fun s => rmvAck s)
/-- CTX_RST (24 R494): PKG.CTX_RST.GO with CTX_MASK. -/
def execCtxRst (mask : BitVec 8) (s : State) : Host.Outcome State Fault Refusal :=
  .next (s.admitWrite .pkg fun s => ctxRst s mask.toNat)
/-- PINCTL_WRITE. -/
def execPinctlWrite (v : Bool) (s : State) : Host.Outcome State Fault Refusal :=
  .next (s.admitWrite .pkg fun s => pinctlWrite s v)
/-- SRST (02 R516): BLK_CTRL.SRST of page `p`. -/
def execSrst (p : Page) (s : State) : Host.Outcome State Fault Refusal :=
  .next (s.admitWrite p fun s => s.srst p)

end Sys2Proof.Machine
end

