-- ==== Sys2Proof/Machine/Dispatch.lean ====
section
/-! DEFINITION. The dispatcher: one arm per command, each one call of that command's meaning. -/
namespace Sys2Proof.Machine

def exec (i : Instr) (s : State) : Host.Outcome State Fault Refusal :=
  match i with
  | .registerWrite a v => Sys2Proof.Machine.execRegisterWrite a v s
  | .reservedAccess a k => Sys2Proof.Machine.execReservedAccess a k s
  | .rcRead a => Sys2Proof.Machine.execRcRead a s
  | .blkCtrlEn p en => Sys2Proof.Machine.execBlkCtrlEn p en s
  | .drainComplete p => Sys2Proof.Machine.execDrainComplete p s
  | .srst p => Sys2Proof.Machine.execSrst p s
  | .blockResetDone p => Sys2Proof.Machine.execBlockResetDone p s
  | .commitGo p => Sys2Proof.Machine.execCommitGo p s
  | .commitCancel p => Sys2Proof.Machine.execCommitCancel p s
  | .commitApply p => Sys2Proof.Machine.execCommitApply p s
  | .evtStatClear p v => Sys2Proof.Machine.execEvtStatClear p v s
  | .evtForce p v => Sys2Proof.Machine.execEvtForce p v s
  | .nmeStatClear v => Sys2Proof.Machine.execNmeStatClear v s
  | .errLeak p => Sys2Proof.Machine.execErrLeak p s
  | .errCfgWrite p v => Sys2Proof.Machine.execErrCfgWrite p v s
  | .errLogRelease p => Sys2Proof.Machine.execErrLogRelease p s
  | .blockWake a v => Sys2Proof.Machine.execBlockWake a v s
  | .cmdStage t c swap => Sys2Proof.Machine.execCmdStage t c swap s
  | .cmdSwap t => Sys2Proof.Machine.execCmdSwap t s
  | .cmdThaw t => Sys2Proof.Machine.execCmdThaw t s
  | .stagingComplete t => Sys2Proof.Machine.execStagingComplete t s
  | .swap l => Sys2Proof.Machine.execSwap l s
  | .modeChange t => Sys2Proof.Machine.execModeChange t s
  | .slotEntryEnd t => Sys2Proof.Machine.execSlotEntryEnd t s
  | .slotPassEnd t => Sys2Proof.Machine.execSlotPassEnd t s
  | .sltHalfSwap t => Sys2Proof.Machine.execSltHalfSwap t s
  | .sltCancelCopyDone t => Sys2Proof.Machine.execSltCancelCopyDone t s
  | .eventRequest t => Sys2Proof.Machine.execEventRequest t s
  | .excludeSet t m => Sys2Proof.Machine.execExcludeSet t m s
  | .excludeClear t m => Sys2Proof.Machine.execExcludeClear t m s
  | .reencodeDone t => Sys2Proof.Machine.execReencodeDone t s
  | .frameWrite t poison => Sys2Proof.Machine.execFrameWrite t poison s
  | .commitRefreshExchange t => Sys2Proof.Machine.execCommitRefreshExchange t s
  | .weRelease t mask => Sys2Proof.Machine.execWeRelease t mask s
  | .bankRelease t c => Sys2Proof.Machine.execBankRelease t c s
  | .scrubRead t => Sys2Proof.Machine.execScrubRead t s
  | .fpCompare t => Sys2Proof.Machine.execFpCompare t s
  | .rbGo t => Sys2Proof.Machine.execRbGo t s
  | .readbackDone t => Sys2Proof.Machine.execReadbackDone t s
  | .rawWr t => Sys2Proof.Machine.execRawWr t s
  | .dlvGo last => Sys2Proof.Machine.execDlvGo last s
  | .chunkComplete bytes err => Sys2Proof.Machine.execChunkComplete bytes err s
  | .pondPortRequest p ports w => Sys2Proof.Machine.execPondPortRequest p ports w s
  | .bStarve p => Sys2Proof.Machine.execBStarve p s
  | .softRepair p pad sub col => Sys2Proof.Machine.execSoftRepair p pad sub col s
  | .softRepairDone p => Sys2Proof.Machine.execSoftRepairDone p s
  | .bist p pad => Sys2Proof.Machine.execBist p pad s
  | .zero p pad => Sys2Proof.Machine.execZero p pad s
  | .padCmdDone p fails => Sys2Proof.Machine.execPadCmdDone p fails s
  | .patrolRow p => Sys2Proof.Machine.execPatrolRow p s
  | .padGroupSleep p g => Sys2Proof.Machine.execPadGroupSleep p g s
  | .padRawWrite p => Sys2Proof.Machine.execPadRawWrite p s
  | .padRawRead p => Sys2Proof.Machine.execPadRawRead p s
  | .push q w items poison => Sys2Proof.Machine.execPush q w items poison s
  | .pop q w => Sys2Proof.Machine.execPop q w s
  | .popSt q w => Sys2Proof.Machine.execPopSt q w s
  | .status q w => Sys2Proof.Machine.execStatus q w s
  | .mark q w => Sys2Proof.Machine.execMark q w s
  | .rewind q w => Sys2Proof.Machine.execRewind q w s
  | .release q w n => Sys2Proof.Machine.execRelease q w n s
  | .clear q w => Sys2Proof.Machine.execClear q w s
  | .qLevelWrite t v => Sys2Proof.Machine.execQLevelWrite t v s
  | .qGo t => Sys2Proof.Machine.execQGo t s
  | .qCancel t => Sys2Proof.Machine.execQCancel t s
  | .queueBoundsApply q => Sys2Proof.Machine.execQueueBoundsApply q s
  | .flush t => Sys2Proof.Machine.execFlush t s
  | .bodyWrite q => Sys2Proof.Machine.execBodyWrite q s
  | .bodyReadDone q => Sys2Proof.Machine.execBodyReadDone q s
  | .pflip t => Sys2Proof.Machine.execPflip t s
  | .queueEngineSleep t => Sys2Proof.Machine.execQueueEngineSleep t s
  | .start g => Sys2Proof.Machine.execStart g s
  | .resume g => Sys2Proof.Machine.execResume g s
  | .stop g => Sys2Proof.Machine.execStop g s
  | .step g => Sys2Proof.Machine.execStep g s
  | .gkcPcWrite g v => Sys2Proof.Machine.execGkcPcWrite g v s
  | .dmaGo g ch => Sys2Proof.Machine.execDmaGo g ch s
  | .dmaDone g ch remote => Sys2Proof.Machine.execDmaDone g ch remote s
  | .wbinv g => Sys2Proof.Machine.execWbinv g s
  | .wbinvDone g => Sys2Proof.Machine.execWbinvDone g s
  | .geckoZero g => Sys2Proof.Machine.execGeckoZero g s
  | .geckoZeroDone g => Sys2Proof.Machine.execGeckoZeroDone g s
  | .geckoMemoryRequest r write => Sys2Proof.Machine.execGeckoMemoryRequest r write s
  | .lineFill g line => Sys2Proof.Machine.execLineFill g line s
  | .geckoEventWake g => Sys2Proof.Machine.execGeckoEventWake g s
  | .geckoSleep g => Sys2Proof.Machine.execGeckoSleep g s
  | .nop g slot w0 w1 w2 => Sys2Proof.Machine.execNop g slot w0 w1 w2 s
  | .add g sd sa sb x y v => Sys2Proof.Machine.execAdd g sd sa sb x y v s
  | .sub g sd sa sb x y v => Sys2Proof.Machine.execSub g sd sa sb x y v s
  | .and g sd sa sb x y v => Sys2Proof.Machine.execAnd g sd sa sb x y v s
  | .or g sd sa sb x y v => Sys2Proof.Machine.execOr g sd sa sb x y v s
  | .xor g sd sa sb x y v => Sys2Proof.Machine.execXor g sd sa sb x y v s
  | .sll g sd sa sb x y v => Sys2Proof.Machine.execSll g sd sa sb x y v s
  | .srl g sd sa sb x y v => Sys2Proof.Machine.execSrl g sd sa sb x y v s
  | .sra g sd sa sb x y v => Sys2Proof.Machine.execSra g sd sa sb x y v s
  | .mul g sd sa sb x y v => Sys2Proof.Machine.execMul g sd sa sb x y v s
  | .slt g sd sa sb x y v => Sys2Proof.Machine.execSlt g sd sa sb x y v s
  | .sltu g sd sa sb x y v => Sys2Proof.Machine.execSltu g sd sa sb x y v s
  | .mov g sd sa x y v => Sys2Proof.Machine.execMov g sd sa x y v s
  | .addi g sd sa imm x y v => Sys2Proof.Machine.execAddi g sd sa imm x y v s
  | .andi g sd sa imm x y v => Sys2Proof.Machine.execAndi g sd sa imm x y v s
  | .ori g sd sa imm x y v => Sys2Proof.Machine.execOri g sd sa imm x y v s
  | .xori g sd sa imm x y v => Sys2Proof.Machine.execXori g sd sa imm x y v s
  | .slli g sd sa imm x y v => Sys2Proof.Machine.execSlli g sd sa imm x y v s
  | .srli g sd sa imm x y v => Sys2Proof.Machine.execSrli g sd sa imm x y v s
  | .srai g sd sa imm x y v => Sys2Proof.Machine.execSrai g sd sa imm x y v s
  | .lui g sd imm x y v => Sys2Proof.Machine.execLui g sd imm x y v s
  | .slti g sd sa imm x y v => Sys2Proof.Machine.execSlti g sd sa imm x y v s
  | .br g target x y v => Sys2Proof.Machine.execBr g target x y v s
  | .beqz g sa target x y v => Sys2Proof.Machine.execBeqz g sa target x y v s
  | .bnez g sa target x y v => Sys2Proof.Machine.execBnez g sa target x y v s
  | .bltz g sa target x y v => Sys2Proof.Machine.execBltz g sa target x y v s
  | .bgez g sa target x y v => Sys2Proof.Machine.execBgez g sa target x y v s
  | .jal g sd target x y v => Sys2Proof.Machine.execJal g sd target x y v s
  | .jr g sa x y v => Sys2Proof.Machine.execJr g sa x y v s
  | .loop g sa fin x y v => Sys2Proof.Machine.execLoop g sa fin x y v s
  | .loopi g n fin x y v => Sys2Proof.Machine.execLoopi g n fin x y v s
  | .loopEnd g => Sys2Proof.Machine.execLoopEnd g s
  | .mvag g n f sa x y v => Sys2Proof.Machine.execMvag g n f sa x y v s
  | .mvga g sd n f x y v => Sys2Proof.Machine.execMvga g sd n f x y v s
  | .agc g mask x y v => Sys2Proof.Machine.execAgc g mask x y v s
  | .mvgs g sd x y v => Sys2Proof.Machine.execMvgs g sd x y v s
  | .setov g b x y v => Sys2Proof.Machine.execSetov g b x y v s
  | .dma g ch sa dir qen x y v => Sys2Proof.Machine.execDma g ch sa dir qen x y v s
  | .dwait g ch x y v => Sys2Proof.Machine.execDwait g ch x y v s
  | .wait g e x y v => Sys2Proof.Machine.execWait g e x y v s
  | .halt g x y v => Sys2Proof.Machine.execHalt g x y v s
  | .ldv g y vd a w0 other v => Sys2Proof.Machine.execLdv g y vd a w0 other v s
  | .stv g y vs a k w0 other v => Sys2Proof.Machine.execStv g y vs a k w0 other v s
  | .lds g y sd a w0 other v => Sys2Proof.Machine.execLds g y sd a w0 other v s
  | .sts g y ss a w0 other v => Sys2Proof.Machine.execSts g y ss a w0 other v s
  | .ldbh g y vd a w0 other v => Sys2Proof.Machine.execLdbh g y vd a w0 other v s
  | .ldbb g y vd a w0 other v => Sys2Proof.Machine.execLdbb g y vd a w0 other v s
  | .pref g y a w0 other v => Sys2Proof.Machine.execPref g y a w0 other v s
  | .vmac g w sat acd va vb k w0 x y => Sys2Proof.Machine.execVmac g w sat acd va vb k w0 x y s
  | .vmsu g w sat acd va vb k w0 x y => Sys2Proof.Machine.execVmsu g w sat acd va vb k w0 x y s
  | .vmul g w sat acd va vb k w0 x y => Sys2Proof.Machine.execVmul g w sat acd va vb k w0 x y s
  | .vclr g w acd k w0 x y => Sys2Proof.Machine.execVclr g w acd k w0 x y s
  | .vldac g w acd va k w0 x y => Sys2Proof.Machine.execVldac g w acd va k w0 x y s
  | .vshr g w sat vd aca n k w0 x y => Sys2Proof.Machine.execVshr g w sat vd aca n k w0 x y s
  | .clrov g w acd k w0 x y => Sys2Proof.Machine.execClrov g w acd k w0 x y s
  | .vadd g w sat vd va vb k w0 x y => Sys2Proof.Machine.execVadd g w sat vd va vb k w0 x y s
  | .vsub g w sat vd va vb k w0 x y => Sys2Proof.Machine.execVsub g w sat vd va vb k w0 x y s
  | .vmin g w vd va vb k w0 x y => Sys2Proof.Machine.execVmin g w vd va vb k w0 x y s
  | .vmax g w vd va vb k w0 x y => Sys2Proof.Machine.execVmax g w vd va vb k w0 x y s
  | .vand g w vd va vb k w0 x y => Sys2Proof.Machine.execVand g w vd va vb k w0 x y s
  | .vor g w vd va vb k w0 x y => Sys2Proof.Machine.execVor g w vd va vb k w0 x y s
  | .vxor g w vd va vb k w0 x y => Sys2Proof.Machine.execVxor g w vd va vb k w0 x y s
  | .vshl g w sat vd va n k w0 x y => Sys2Proof.Machine.execVshl g w sat vd va n k w0 x y s
  | .vsra g w vd va n k w0 x y => Sys2Proof.Machine.execVsra g w vd va n k w0 x y s
  | .vmov g w vd va k w0 x y => Sys2Proof.Machine.execVmov g w vd va k w0 x y s
  | .vsel g w vd va vb k w0 x y => Sys2Proof.Machine.execVsel g w vd va vb k w0 x y s
  | .vbc g w vd sa k w0 x y => Sys2Proof.Machine.execVbc g w vd sa k w0 x y s
  | .vcmpeq g w pd va vb k w0 x y => Sys2Proof.Machine.execVcmpeq g w pd va vb k w0 x y s
  | .vcmplt g w pd va vb k w0 x y => Sys2Proof.Machine.execVcmplt g w pd va vb k w0 x y s
  | .vcmple g w pd va vb k w0 x y => Sys2Proof.Machine.execVcmple g w pd va vb k w0 x y s
  | .pand g pd pa pb w0 x y => Sys2Proof.Machine.execPand g pd pa pb w0 x y s
  | .predOr g pd pa pb w0 x y => Sys2Proof.Machine.execPredOr g pd pa pb w0 x y s
  | .pnot g pd pa w0 x y => Sys2Proof.Machine.execPnot g pd pa w0 x y s
  | .rd r w => Sys2Proof.Machine.execRd r w s
  | .rdShr g line w => Sys2Proof.Machine.execRdShr g line w s
  | .rdOwn g line w => Sys2Proof.Machine.execRdOwn g line w s
  | .wr r w => Sys2Proof.Machine.execWr r w s
  | .wb g line w => Sys2Proof.Machine.execWb g line w s
  | .cfgRd r w => Sys2Proof.Machine.execCfgRd r w s
  | .cfgWr r w => Sys2Proof.Machine.execCfgWr r w s
  | .cmp src tag w lat => Sys2Proof.Machine.execCmp src tag w lat s
  | .vnRdata src tag w lat => Sys2Proof.Machine.execVnRdata src tag w lat s
  | .rsv src point count w => Sys2Proof.Machine.execRsv src point count w s
  | .grant point count w => Sys2Proof.Machine.execGrant point count w s
  | .snpInv g line w => Sys2Proof.Machine.execSnpInv g line w s
  | .snpShr g line w => Sys2Proof.Machine.execSnpShr g line w s
  | .snpRsp g line w => Sys2Proof.Machine.execSnpRsp g line w s
  | .tagTimeout src tag => Sys2Proof.Machine.execTagTimeout src tag s
  | .epochFlip t l => Sys2Proof.Machine.execEpochFlip t l s
  | .targetWakeDone d => Sys2Proof.Machine.execTargetWakeDone d s
  | .fabricHopPortRequest t h => Sys2Proof.Machine.execFabricHopPortRequest t h s
  | .fhpClkWrite t j v => Sys2Proof.Machine.execFhpClkWrite t j v s
  | .hstWindowEnd t => Sys2Proof.Machine.execHstWindowEnd t s
  | .arbiterWindow g => Sys2Proof.Machine.execArbiterWindow g s
  | .arbiterGrant a reqs => Sys2Proof.Machine.execArbiterGrant a reqs s
  | .trainGo g => Sys2Proof.Machine.execTrainGo g s
  | .trainingDone g early pass id0 id1 => Sys2Proof.Machine.execTrainingDone g early pass id0 id1 s
  | .retrain g ok => Sys2Proof.Machine.execRetrain g ok s
  | .refresh g temp => Sys2Proof.Machine.execRefresh g temp s
  | .selfRefreshEntry g => Sys2Proof.Machine.execSelfRefreshEntry g s
  | .init g => Sys2Proof.Machine.execInit g s
  | .initDone g => Sys2Proof.Machine.execInitDone g s
  | .gdPatrol g => Sys2Proof.Machine.execGdPatrol g s
  | .gdRawWrite g => Sys2Proof.Machine.execGdRawWrite g s
  | .gdRawRead g => Sys2Proof.Machine.execGdRawRead g s
  | .encTableApply c => Sys2Proof.Machine.execEncTableApply c s
  | .erase t k => Sys2Proof.Machine.execErase t k s
  | .resealDone c => Sys2Proof.Machine.execResealDone c s
  | .autoMoltFill r => Sys2Proof.Machine.execAutoMoltFill r s
  | .molt t r kb => Sys2Proof.Machine.execMolt t r kb s
  | .fill t r => Sys2Proof.Machine.execFill t r s
  | .moltLineMove c => Sys2Proof.Machine.execMoltLineMove c s
  | .linkUp portB speed width => Sys2Proof.Machine.execLinkUp portB speed width s
  | .linkReset portB perst => Sys2Proof.Machine.execLinkReset portB perst s
  | .memReadTlp f bar o len tag ide remote => Sys2Proof.Machine.execMemReadTlp f bar o len tag ide remote s
  | .memWriteTlp f bar o bytes ep relaxed ide remote => Sys2Proof.Machine.execMemWriteTlp f bar o bytes ep relaxed ide remote s
  | .configRequest f q => Sys2Proof.Machine.execConfigRequest f q s
  | .flr c => Sys2Proof.Machine.execFlr c s
  | .flrVf c v => Sys2Proof.Machine.execFlrVf c v s
  | .flrDone f => Sys2Proof.Machine.execFlrDone f s
  | .d3hot f enter => Sys2Proof.Machine.execD3hot f enter s
  | .eflTrain n => Sys2Proof.Machine.execEflTrain n s
  | .idleCell n cell => Sys2Proof.Machine.execIdleCell n cell s
  | .reqCell n cell => Sys2Proof.Machine.execReqCell n cell s
  | .wdataCell n cell => Sys2Proof.Machine.execWdataCell n cell s
  | .cmpCell n cell => Sys2Proof.Machine.execCmpCell n cell s
  | .rdataCell n cell => Sys2Proof.Machine.execRdataCell n cell s
  | .efmelOutbound r typ => Sys2Proof.Machine.execEfmelOutbound r typ s
  | .down n => Sys2Proof.Machine.execDown n s
  | .quiesce n => Sys2Proof.Machine.execQuiesce n s
  | .quiesceDone n => Sys2Proof.Machine.execQuiesceDone n s
  | .prsntChange n low => Sys2Proof.Machine.execPrsntChange n low s
  | .rampStep t n => Sys2Proof.Machine.execRampStep t n s
  | .gclkEnWrite t n en => Sys2Proof.Machine.execGclkEnWrite t n en s
  | .fineMeasurement dev => Sys2Proof.Machine.execFineMeasurement dev s
  | .lpdOff t d => Sys2Proof.Machine.execLpdOff t d s
  | .lpdOn t d => Sys2Proof.Machine.execLpdOn t d s
  | .lpdDone t d => Sys2Proof.Machine.execLpdDone t d s
  | .sensorSample pw rd => Sys2Proof.Machine.execSensorSample pw rd s
  | .failover sram => Sys2Proof.Machine.execFailover sram s
  | .anoleReady ed0 ml0 ed1 ml1 ver0 svn0 ver1 svn1 => Sys2Proof.Machine.execAnoleReady ed0 ml0 ed1 ml1 ver0 svn0 ver1 svn1 s
  | .anoleThresholdPolicy p => Sys2Proof.Machine.execAnoleThresholdPolicy p s
  | .watchAdvance t g => Sys2Proof.Machine.execWatchAdvance t g s
  | .bondTest t g fails => Sys2Proof.Machine.execBondTest t g fails s
  | .por sram button prsnt => Sys2Proof.Machine.execPor sram button prsnt s
  | .t0 peBif vio v18 => Sys2Proof.Machine.execT0 peBif vio v18 s
  | .clocksDone refOk => Sys2Proof.Machine.execClocksDone refOk s
  | .testDone fails => Sys2Proof.Machine.execTestDone fails s
  | .warmRelease fails => Sys2Proof.Machine.execWarmRelease fails s
  | .ctxRst mask => Sys2Proof.Machine.execCtxRst mask s
  | .pinctlWrite v => Sys2Proof.Machine.execPinctlWrite v s
  | .fabricClockEdge rise fall recov => Sys2Proof.Machine.execFabricClockEdge rise fall recov s
  | .pinInputChange k j v => Sys2Proof.Machine.execPinInputChange k j v s
  | .perstRelease portB => Sys2Proof.Machine.execPerstRelease portB s
  | .lpdOffDone t d => Sys2Proof.Machine.execLpdOffDone t d s
  | .deepLineContention t v a sg j taps => Sys2Proof.Machine.execDeepLineContention t v a sg j taps s
  | .deepLineContentionEnd t v a sg j taps => Sys2Proof.Machine.execDeepLineContentionEnd t v a sg j taps s
  | .spdmRequest port q => Sys2Proof.Machine.execSpdmRequest port q s
  | .trainingPhaseEnd n good adv reversed pol => Sys2Proof.Machine.execTrainingPhaseEnd n good adv reversed pol s
  | .attemptEnd n ok => Sys2Proof.Machine.execAttemptEnd n ok s
  | .trainRetry n => Sys2Proof.Machine.execTrainRetry n s
  | .marker n ws => Sys2Proof.Machine.execMarker n ws s
  | .replayTimeout n => Sys2Proof.Machine.execReplayTimeout n s
  | .retrainTimeout n => Sys2Proof.Machine.execRetrainTimeout n s
  | .presenceDebounced n => Sys2Proof.Machine.execPresenceDebounced n s
  | .prbsTest n on => Sys2Proof.Machine.execPrbsTest n on s
  | .prbsInj n => Sys2Proof.Machine.execPrbsInj n s
  | .prbsClr n => Sys2Proof.Machine.execPrbsClr n s
  | .ivrLimit t rail => Sys2Proof.Machine.execIvrLimit t rail s
  | .ikeySet flashOk => Sys2Proof.Machine.execIkeySet flashOk s
  | .stage flashOk => Sys2Proof.Machine.execStage flashOk s
  | .verify header ed ml svn => Sys2Proof.Machine.execVerify header ed ml svn s
  | .activate flashOk ver svn => Sys2Proof.Machine.execActivate flashOk ver svn s
  | .svnAdvance reach => Sys2Proof.Machine.execSvnAdvance reach s
  | .enroll flashOk fuseOk => Sys2Proof.Machine.execEnroll flashOk fuseOk s
  | .opkeyInstall flashOk => Sys2Proof.Machine.execOpkeyInstall flashOk s
  | .opkeyRevoke fuseOk => Sys2Proof.Machine.execOpkeyRevoke fuseOk s
  | .repairCommit copies => Sys2Proof.Machine.execRepairCommit copies s
  | .crkArchive flashOk => Sys2Proof.Machine.execCrkArchive flashOk s
  | .mctpMessage m => Sys2Proof.Machine.execMctpMessage m s
  | .buttonRelease ms => Sys2Proof.Machine.execButtonRelease ms s
  | .anoleDegrade t => Sys2Proof.Machine.execAnoleDegrade t s
  | .watchDisagree t g who => Sys2Proof.Machine.execWatchDisagree t g who s
  | .repairRecordWrite copies => Sys2Proof.Machine.execRepairRecordWrite copies s
  | .vioLost k => Sys2Proof.Machine.execVioLost k s
  | .vioBack k v18 => Sys2Proof.Machine.execVioBack k v18 s
  | .extest cells => Sys2Proof.Machine.execExtest cells s
  | .samplePreload cells => Sys2Proof.Machine.execSamplePreload cells s
  | .extestPulse cells => Sys2Proof.Machine.execExtestPulse cells s
  | .extestTrain cells => Sys2Proof.Machine.execExtestTrain cells s
  | .bypass op => Sys2Proof.Machine.execBypass op s
  | .missingMarker n => Sys2Proof.Machine.execMissingMarker n s
  | .prbsLock n l errs => Sys2Proof.Machine.execPrbsLock n l errs s
  | .signatureCheckDone => Sys2Proof.Machine.execSignatureCheckDone s
  | .segmentVerified => Sys2Proof.Machine.execSegmentVerified s
  | .censusDone => Sys2Proof.Machine.execCensusDone s
  | .commitComplete => Sys2Proof.Machine.execCommitComplete s
  | .dlvTimeout => Sys2Proof.Machine.execDlvTimeout s
  | .abort => Sys2Proof.Machine.execAbort s
  | .golden => Sys2Proof.Machine.execGolden s
  | .loadWindowExpiry => Sys2Proof.Machine.execLoadWindowExpiry s
  | .moltDone => Sys2Proof.Machine.execMoltDone s
  | .flrPf0 => Sys2Proof.Machine.execFlrPf0 s
  | .rmvReq => Sys2Proof.Machine.execRmvReq s
  | .rmvAck => Sys2Proof.Machine.execRmvAck s
  | .rmvTimeout => Sys2Proof.Machine.execRmvTimeout s
  | .rampTick => Sys2Proof.Machine.execRampTick s
  | .rampGo => Sys2Proof.Machine.execRampGo s
  | .coarseTrip => Sys2Proof.Machine.execCoarseTrip s
  | .fioQualified => Sys2Proof.Machine.execFioQualified s
  | .fioFail => Sys2Proof.Machine.execFioFail s
  | .safeExit => Sys2Proof.Machine.execSafeExit s
  | .refOk => Sys2Proof.Machine.execRefOk s
  | .clkReturn => Sys2Proof.Machine.execReturn s
  | .budgetRun => Sys2Proof.Machine.execBudgetRun s
  | .thermalShutdown => Sys2Proof.Machine.execThermalShutdown s
  | .pwrFail => Sys2Proof.Machine.execPwrFail s
  | .pwrFailRecover => Sys2Proof.Machine.execPwrFailRecover s
  | .heartbeat => Sys2Proof.Machine.execHeartbeat s
  | .noAnoleLeft => Sys2Proof.Machine.execNoAnoleLeft s
  | .getInfo => Sys2Proof.Machine.execGetInfo s
  | .getMeas => Sys2Proof.Machine.execGetMeas s
  | .attest => Sys2Proof.Machine.execAttest s
  | .keyGen => Sys2Proof.Machine.execKeyGen s
  | .keyImport => Sys2Proof.Machine.execKeyImport s
  | .crkUnfreeze => Sys2Proof.Machine.execCrkUnfreeze s
  | .telemetry => Sys2Proof.Machine.execTelemetry s
  | .lifetime => Sys2Proof.Machine.execLifetime s
  | .mbDone => Sys2Proof.Machine.execMbDone s
  | .buttonHoldGolden => Sys2Proof.Machine.execButtonHoldGolden s
  | .identifyEnd => Sys2Proof.Machine.execIdentifyEnd s
  | .telemetrySample => Sys2Proof.Machine.execTelemetrySample s
  | .lifetimeWrite => Sys2Proof.Machine.execLifetimeWrite s
  | .brownout => Sys2Proof.Machine.execBrownout s
  | .fusesDone => Sys2Proof.Machine.execFusesDone s
  | .warm => Sys2Proof.Machine.execWarm s
  | .warmRel => Sys2Proof.Machine.execWarmRel s
  | .ctxRstEnd => Sys2Proof.Machine.execCtxRstEnd s
  | .idcode => Sys2Proof.Machine.execIdcode s
  | .highz => Sys2Proof.Machine.execHighz s
  | .clamp => Sys2Proof.Machine.execClamp s
  | .tapReset => Sys2Proof.Machine.execTapReset s

end Sys2Proof.Machine
end

