-- ==== Sys2Proof/Machine/Sleep.lean ====
section
/-! DEFINITION. When blocks and ring levels that no command puts to sleep go to sleep: each chapter's idle rule (05 R119, 06 R143,
08 R182, 14 R306, 17 R365, 18 R385, 19 R403, 20 R423, 23, 25). -/
namespace Sys2Proof.Machine

/-! ### Blocks -/

/-- Does a commit, refresh, re-encode or readback use tower `t`'s configuration controller (06 R143)? A RAW write ends in the step that
writes it, or waits for the re-encode. -/
def State.cfgWorks (s : State) (t : Nat) : Bool :=
  let p : Page := .cfg (tw t)
  s.reencoding t || s.b.bit p CFG.STAT_RB_BUSY || s.b.bit p CFG.STAT_REFRESH || s.b.bit p CFG.STAT_WRITING ||
    s.cm t CHM.BUSY_COMMITTING != 0

/-- Is the link of an Efmel port in ABSENT, DOWN or FAIL (19 R403)? -/
def Base.eflRests (b : Base) (n : Nat) : Bool :=
  b.eflState n == eABSENT || b.eflState n == eDOWN || b.eflState n == eFAIL

/-- The idle rule of a page whose control logic sleeps by itself; the blocks left out never sleep, or do so by a command. -/
def State.mayRest (s : State) (p : Page) : Bool :=
  match p with
  | .chm t => s.mode t == 0 && s.cm t CHM.STAT_PHASE == 0 && s.cm t CHM.CTRL_FOLLOW == 0 && (s.gang t).length == 1 &&
      s.cm t CHM.BUSY_COMMITTING == 0
  | .slt t => s.mode t != 1 && s.mode (s.leader t) != 1 && !(s.ch t).copying
  | .cfg t => s.b.sleeps (.chm t) && !s.cfgWorks t
  | .scb t => s.b.fld (.scb t) SCB.PERIOD_MS == 0
  | .ldr => s.phase == 0 && s.b.fld .ldr LDR.STATE_WSTATE != 1
  | .enc c => s.b.bit (gdPage c) GD.STAT_SREF && (SMap.get (fun _ => []) s.gdr.reseal c).isEmpty
  | .molt _ => !s.b.moltBusy
  | .efl n => s.b.eflRests n
  | .pci => !s.b.bit .pci PCI.LINK_STAT_UP_A && !s.b.bit .pci PCI.LINK_STAT_UP_B
  | .clk t => s.b.fld (.clk t) CLK.RAMPST == 0
  | .vbd _ | .iob _ => true
  | .twr _ | .gd _ | .que _ | .hop _ | .hst _ | .gkc _ | .pnd _ | .pwr _ | .thm _ | .pkg | .bgt | .ckr | .ano | .evr | .fus => false

/-- The pages with an idle rule, a chameleon before its configuration controller. -/
def restPages : List Page :=
  (towers.flatMap fun t => [.chm (tw t), .slt (tw t), .cfg (tw t), .scb (tw t), .molt (tw t), .clk (tw t), .vbd (tw t)]) ++
    (List.finRange 16).map .enc ++ (List.finRange 8).map .efl ++ (List.finRange 12).map .iob ++ [.ldr, .pci]

/-- A page sleeps under its idle rule; a commit pending keeps it awake. -/
def State.restPage (s : State) (p : Page) : State :=
  if s.mayRest p && !s.b.commitPend p then { s with b := s.b.rest p } else s

/-! ### Ring levels (14 R306) -/

/-- Does the stop of a hop port rest: nothing of it outstanding, and nothing for it to present? -/
def State.portRests (s : State) (src : Nat) : Bool :=
  s.hop.outstanding src == 0 && (SMap.get (fun _ => []) s.hop.ports src).isEmpty

/-- Does a pond's port B rest: all its pad groups asleep? -/
def Base.pondRests (b : Base) (p : Nat) : Bool := b.fld (pond p) PND.GSLEEP_ASLEEP == 15

/-- Are all stops on level `l` of tower `t` asleep? A hop port, a management stop or a bridge has no sleep state of its own and counts
as asleep while it has no request outstanding; Anole never sleeps (22 R460). -/
def State.stopsRest (s : State) (t l : Nat) : Bool :=
  if l = 0 then (List.range 64).all fun h => s.portRests (64 * t + h)
  else if l = 1 then (List.range 32).all fun p => s.b.sleeps (gkPage (32 * t + p)) && s.b.pondRests (32 * t + p)
  else t % 2 == 1 && ((List.finRange 4).all fun n => s.b.bit (gdPage (4 * t + n.val)) GD.STAT_SREF) &&
    [Page.que (tw t), .molt (tw t), .cfg (tw t), .scb (tw t)].all s.b.sleeps &&
    [2 * t, 2 * t + 1].all fun n => s.b.sleeps (eflPage n)

/-- A ring level that no flit waits on sleeps with its stops. -/
def State.restLevel (s : State) (t l : Nat) : State :=
  if s.b.bit (.hop (tw t)) HDR.BLK_CTRL_SLEEP_PERMIT && s.hop.levelState t l == 0 && s.hop.heldFlits.isEmpty &&
      !(s.remains t l false || s.remains t l true) && s.stopsRest t l then
    { s with hop := s.hop.setLevel t l 1 }
  else s

/-- A controller in self-refresh whose registers were read stops its control logic again (02 R38). -/
def Base.restSref (b : Base) (c : Nat) : Base :=
  if b.fld (gdPage c) HDR.BLK_STAT_STATE = stAsleep then b.setState (gdPage c) stAsleep else b

/-- What is idle goes to sleep: pages, then ring levels. -/
def State.rest (s : State) : State :=
  let s := restPages.foldl State.restPage s
  let s := { s with b := (List.range 16).foldl Base.restSref s.b }
  towers.foldl (fun s t => [0, 1, 2].foldl (fun s l => s.restLevel t l) s) s

end Sys2Proof.Machine
end

