-- ==== Sys2Proof/Machine/Ops.lean ====
section
/-! DEFINITION. What the device does when no command waits: time passes (05 R85; 20 R405, R414; 24 R488). -/
namespace Sys2Proof.Machine

/-- The switch-clock edges of tower `t` between root cycles `r0` and `r1`: those of the clock's ungated output (05 R82, 20 R408).
The count begins at the first edge after root cycle 0: an edge at cycle 0 itself is not counted (DESIGN CHOICE, log entry 101). -/
def Base.swEdges (b : Base) (t r0 r1 : Nat) : Nat :=
  let d := b.gclkDiv t (b.swclk t)
  r1 / d - r0 / d

/-- `n` switch-clock edges of tower `t` pass: the dwell count saturates, and 256 of them meet the minimum (05 R85). -/
def Base.dwell (b : Base) (t n : Nat) : Base :=
  let pg : Page := .chm (tw t)
  let b := b.addFld pg CHM.DWELL_CYCLES n
  if 256 ≤ b.fld pg CHM.DWELL_CYCLES then b.setBit pg CHM.STAT_DWELL_MET true else b

/-- One microsecond of AON time: the time base counts, the AON stage ends after 1 ms (24 R488), and while the root runs its
cycles and the towers' dwell counts advance. -/
def Base.tick (b : Base) : Base :=
  let b := { b.decReport with aonUs := b.aonUs + 1 }
  let b := if b.fld .pkg PKG.RST_STAT_STAGE = 0 ∧ 1000 ≤ b.aonUs then b.setFld .pkg PKG.RST_STAT_STAGE 1 else b
  if b.gated then b
  else
    let r := b.rc + b.part.rootMhz
    { [0, 1, 2, 3].foldl (fun b' t => b'.dwell t (b.swEdges t b.rc r)) b with rc := r }

/-- The ring cycles of a microsecond by which AGE counts, one each eight cycles of RC / 2 (14 R291). -/
def Base.ageTicks (b : Base) : Nat := b.part.rootMhz / 16

/-- What passes with a microsecond of root cycles: homes try again what their controllers could not take, TLPs that wait are tried again, Efmel ports report, pads have no port-A access left in their row's cycle, flits that wait age (14 R291),
and what is idle goes to sleep. -/
def State.pass (s : State) : State :=
  let s := (s.hop.homes.map fun w => w.home).eraseDups.foldl State.homeGo s
  let s := (List.range 8).foldl eflReport s.pcieGo
  State.rest { s with
    ponds := { s.ponds with aRows := [] },
    hop := { s.hop with heldFlits := s.hop.heldFlits.map fun f => { f with flits := f.flits.aged s.b.ageTicks } } }

/-- The idle step: one microsecond of AON time. -/
def State.idle (s : State) : State :=
  let s1 := { s with b := s.b.tick }
  if s.b.gated then s1 else s1.pass

end Sys2Proof.Machine
end

