-- ==== Sys2Proof/Safety.lean ====
section
/-! DEFINITION. What counts as a safe step, and the form every reachable state has. -/
namespace Sys2Proof.Machine

/-- A step that is neither a fault nor a refusal. -/
def goesOn : Host.Outcome State Fault Refusal → Prop
  | .next _ => True
  | .fault _ | .refused _ => False

/-- Command `c` completes in state `s`, in a next state that satisfies `post`. -/
def Completes (c : Instr) (s : State) (post : State → Prop) : Prop :=
  ∃ t, exec c s = .next t ∧ post t

/-- The MA address of the register that field `f` of page `p` lies in. -/
def regOf (p : Page) (f : Fld) : Nat := pbase p + f.off
/-- The MA address of EVT_STAT of page `p` (02 R25). -/
def evtOf (p : Page) : Nat := pbase p + 0x14

/-- From `b` to `c` no register word outside `l` changes, and nothing of the base beside the registers. -/
def Base.sets (b c : Base) (l : List Nat) : Prop :=
  c = { b with regs := c.regs } ∧ ∀ a, a ∉ l → c.word a = b.word a

/-- From `b` to `c` no register word outside `l` changes, and nothing of the base beside the registers but messages that
go out, MSI-X pending bits and the notes of planted words that were read (02 R32). -/
def Base.raises (b c : Base) (l : List Nat) : Prop :=
  c = { b with regs := c.regs, out := c.out, msixPend := c.msixPend, decSeen := c.decSeen } ∧ ∀ a, a ∉ l → c.word a = b.word a

/-- Field `f` of page `p` takes `v`, and the rest of its register is kept. -/
def Base.put (b c : Base) (p : Page) (f : Fld) (v : Nat) : Prop :=
  c.word (regOf p f) = wput (b.word (regOf p f)) f.hi f.lo v

/-- No register word outside `l` differs. -/
def Base.keeps (b c : Base) (l : List Nat) : Prop := ∀ a, a ∉ l → c.word a = b.word a

/-- BLK_STAT of page `p` shows STATE `v`, AWAKE following it (02 R25), and keeps its other fields. -/
def Base.shows (b c : Base) (p : Page) (v : Nat) : Prop :=
  c.word (regOf p HDR.BLK_STAT_STATE) =
    wput (wput (b.word (regOf p HDR.BLK_STAT_STATE)) HDR.BLK_STAT_STATE.hi HDR.BLK_STAT_STATE.lo v)
      HDR.BLK_STAT_AWAKE.hi HDR.BLK_STAT_AWAKE.lo (b2n (v != stAsleep))

/-- A write that reaches page `p` acts: its block neither stands still (02 R38) nor is under BLOCK reset (02 R516). -/
def State.admits (s : State) (p : Page) : Prop :=
  s.b.standsStill p = false ∧ s.b.fld p HDR.BLK_STAT_STATE ≠ stResetting

/-- A request flit has come to its target's stop (14 R282, R286): its tag knows of it, and what the wire did to it on network `net` of
tower `t` is noted. -/
def State.flitIn (s : State) (r : HopReq) (write : Bool) (w : Wire) (t net : Nat) : State :=
  ((if (s.hop.sent r write).isNone then s.inject r write false else s).arrived r write w.uc).wired w t net r.src r.addr.toNat

/-- The page that a command writes one register of. -/
def rowPage : Instr → Option Page
  | .cmdStage t _ _ | .cmdSwap t | .cmdThaw t | .excludeSet t _ | .excludeClear t _ => some (.chm t)
  | .lpdOff t _ | .lpdOn t _ => some (.pwr t)
  | .weRelease t _ | .rbGo t | .rawWr t => some (.cfg t)
  | .dlvGo _ | .abort | .golden => some .ldr
  | .softRepair p _ _ _ | .bist p _ | .zero p _ | .padRawWrite p | .padRawRead p => some (.pnd p)
  | .qLevelWrite t _ | .qGo t | .qCancel t | .flush t | .pflip t => some (.que t)
  | .start g | .resume g | .stop g | .step g | .gkcPcWrite g _ | .dmaGo g _ | .wbinv g | .geckoZero g => some (.gkc g)
  | .fhpClkWrite t _ _ => some (.hop t)
  | .trainGo g | .init g | .gdRawWrite g | .gdRawRead g => some (.gd g)
  | .molt t _ _ | .fill t _ => some (.molt t)
  | .gclkEnWrite t _ _ => some (.clk t)
  | .rampGo | .clkReturn => some .ckr
  | .eflTrain n | .down n | .quiesce n | .prbsTest n _ | .prbsInj n | .prbsClr n => some (.efl n)
  | .erase t _ => some (.enc ⟨4 * t.val + 3, by omega⟩)
  | .rmvAck => some .pci
  | .ctxRst _ | .pinctlWrite _ => some .pkg
  | .srst p | .blkCtrlEn p _ | .commitGo p | .commitCancel p | .evtStatClear p _ | .evtForce p _ | .errCfgWrite p _
  | .errLogRelease p => some p
  | .nmeStatClear _ => some .evr
  | _ => none

/-- Pages whose BLOCK reset touches nothing but their registers. -/
def plainPage : Page → Bool
  | .twr _ | .molt _ | .pwr _ | .clk _ | .vbd _ | .pkg | .pci | .iob _ | .evr | .ckr => true
  | .gd _ | .enc _ | .que _ | .hop _ | .hst _ | .gkc _ | .pnd _ | .cfg _ | .chm _ | .scb _ | .slt _ | .thm _ | .bgt
  | .efl _ | .ano | .fus | .ldr => false

/-- Pages whose commits only their own named commit point applies (05 R94, 06 R125, 14 R292, 17 R338, 20 R411). -/
def ownPoint : Page → Bool
  | .slt _ | .cfg _ | .hop _ | .enc _ | .clk _ => true
  | .twr _ | .molt _ | .que _ | .hst _ | .scb _ | .thm _ | .pwr _ | .vbd _ | .pkg | .ckr | .ano | .evr | .fus | .ldr
  | .gd _ | .gkc _ | .pnd _ | .chm _ | .pci | .efl _ | .iob _ | .bgt => false

/-- Pages whose commit applies every shadow at once and does nothing more (02 R26, R27). -/
def plainCommit : Page → Bool
  | .twr _ | .molt _ | .que _ | .hst _ | .scb _ | .thm _ | .pwr _ | .vbd _ | .pkg | .ckr | .ano | .evr | .fus | .ldr => true
  | .slt _ | .cfg _ | .hop _ | .enc _ | .clk _ | .gd _ | .gkc _ | .pnd _ | .chm _ | .pci | .efl _ | .iob _ | .bgt => false

/-- The RWS bits of register word `w` at MA address `a`. -/
def rwsBits (a : Nat) (w : Word) : Word := rwsMix a 0 w

/-- A load has ended with `code` and `info` (08 R165, R167): STATUS and FAIL_INFO say so, LOAD_FAIL is raised, the loader is IDLE
and nothing is staged. -/
def State.loadFailed (t : State) (code info : Nat) : Prop :=
  t.b.fld .ldr LDR.STATUS_CODE = code ∧ t.b.fld .ldr LDR.FAIL_INFO = info ∧ t.b.word (pbase .ldr + 0x14) &&& evt 9 = evt 9 ∧
    t.phase = 0 ∧ t.b.fld .ldr LDR.STATE_DLV_BUSY = 0 ∧ t.ldr.img = [] ∧ t.ldr.hdr = none

/-- No golden sequence, window expiry, golden load or BLOCK reset waits for the load to end (08 R174, R175, R177, R181). -/
def State.loadAlone (s : State) : Prop :=
  s.ldr.golden = false ∧ s.ldr.winDue = false ∧ s.ldr.goldenNext = false ∧ s.ldr.resetDue = false

/-- A doorbell access of `w` to queue `q` runs at once (10 R208, R214, R223, R224): the page enabled, the queue's context `w`'s own and
not under FLR where `w` is not privileged, the engine awake and nothing waiting. -/
def State.doorbellOpen (s : State) (q : QueueNo) (w : Who) : Prop :=
  s.b.enabled (quePage q) = true ∧ (w.priv = true ∨ (s.b.flrCtx w.ctx = false ∧ (queueAt s.que q).ctx = w.ctx)) ∧
    qAsleep s.b q = false ∧ (queueAt s.que q).wait = []

/-- The last message out answers `w` with `a` (14 R283). -/
def State.answered (t : State) (w : Who) (a : HopRsp) : Prop :=
  t.b.out.getLast? = some (.hop w.src w.tag a.status a.isData a.data a.poisonL a.poisonH)

/-! ### Geckos -/

/-- A stored word that decodes without an error: poisoned (11 R227), or each of its 32 codes good. -/
def rowQuiet (r : BitVec 416) : Prop := rowPoisoned r = true ∨ ∀ i, i < 32 → (padDec (rowCode r i)).2 = .good

/-- Gecko `g` issues a bundle next, holding none, and the instruction-memory word at its PC may execute and is good (11 R227, R235). -/
def State.gkReady (s : State) (g : Nat) : Prop :=
  s.gkIssues g = true ∧ (s.gko.at g).stall = none ∧ (s.gko.at g).looked = false ∧ gkFetchOk s.gko g (s.b.gkPc g) = true ∧ rowQuiet (s.gko.word g (imWord (s.b.gkPc g)))

/-- The registers that every bundle writes: PC, BUNDLES and CYCLES (11 R235). -/
def bundleRegs (g : Nat) : List Nat :=
  [regOf (gkPage g) GKC.PC, regOf (gkPage g) GKC.BUNDLES, regOf (gkPage g) GKC.CYCLES]

/-- From `s` to `t` gecko `g` counts a bundle and leaves `pc` in PC, no register word outside those and `l` changes, and nothing
changes but registers, messages, notes of DEC words read, the geckos, and which pad rows port A wrote last. -/
def State.counted (s t : State) (g pc : Nat) (l : List Nat) : Prop :=
  t = { s with b := t.b, gko := t.gko, ponds := { s.ponds with aRows := t.ponds.aRows } } ∧
    t.b = { s.b with regs := t.b.regs, free := t.b.free, out := t.b.out, msixPend := t.b.msixPend, decSeen := t.b.decSeen } ∧
    (∀ a, a ∉ bundleRegs g ++ l → t.b.word a = s.b.word a) ∧ t.b.gkPc g = pc ∧
    t.b.fld (gkPage g) GKC.BUNDLES = (s.b.fld (gkPage g) GKC.BUNDLES + 1) % 2 ^ 32

/-- Gecko `g` has issued a bundle that left it as `k`: no other gecko and no memory changed. -/
def State.issued (s t : State) (g : Nat) (k : Gecko) (pc : Nat) (l : List Nat) : Prop :=
  s.counted t g pc l ∧ t.ponds = s.ponds ∧ t.gko.mem = s.gko.mem ∧ t.gko.at g = k ∧ ∀ j, j ≠ g → t.gko.at j = s.gko.at j

/-- The bundle wrote `v` with tag `p` to scalar register `d`, S0 discarding it (12 R250), and loop ends were evaluated (11 R233). -/
def State.scalar (s t : State) (g d : Nat) (v : Word) (p : Bool) : Prop :=
  let r := ((s.gko.at g).setS d v p).loopEnd (s.b.gkPc g) 8
  s.issued t g r.1 r.2 [] ∧ (t.gko.at g).sreg d = (if d = 0 then 0 else v) ∧ ∀ j, j ≠ d → (t.gko.at g).sreg j = (s.gko.at g).sreg j

/-- Gecko `g` has taken an exception (11 R234): cause, slot and address are recorded, EPC and PC hold `pc`, the event is raised,
and no gecko register or memory changed. -/
def State.trapped (s t : State) (g slot cause eaddr pc : Nat) : Prop :=
  t = { s with b := t.b, gko := t.gko } ∧ t.gko.mem = s.gko.mem ∧ (∀ j, t.gko.at j = s.gko.at j) ∧
    s.b.raises t.b ([GKC.STAT, GKC.EPC, GKC.PC, GKC.ECAUSE, GKC.EADDR].map (regOf (gkPage g)) ++ [evtOf (gkPage g)]) ∧
    s.b.put t.b (gkPage g) GKC.STAT_RUN rEXCEPTION ∧ t.b.fld (gkPage g) GKC.EPC_EPC = pc ∧ t.b.gkPc g = pc ∧
    t.b.fld (gkPage g) GKC.ECAUSE_CAUSE = cause ∧ t.b.fld (gkPage g) GKC.ECAUSE_SLOT = slot ∧
    t.b.fld (gkPage g) GKC.EADDR = eaddr ∧ t.b.word (evtOf (gkPage g)) = s.b.word (evtOf (gkPage g)) ||| evt 8

/-- What one cell of an access holds: its data and its poison (11 R227, R240; 09 R190). -/
def State.cellData (s : State) (g : Nat) : GCell → BitVec 256 × Bool
  | .word w => rowDecode (s.gko.word g w)
  | .row pad r => rowDecode (s.ponds.mem.row pad r)
  | .half l h => match (s.gko.at g).line l with
    | some c => (half c.data h, c.poison)
    | none => (0, false)

/-- A cell that an access of gecko `g` reaches at once: a pad that admits it (11 R228) and runs no command (09 R198), a line held, owned for a store, while no
write-back runs (11 R240). -/
def State.cellOpen (s : State) (g : Nat) (own : Bool) : GCell → Prop
  | .word _ => True
  | .row pad _ => padAdmits s.b g pad = true ∧ s.ponds.held (pad / 32) (pad % 32) = false
  | .half l _ => (s.gko.at g).ready (l, own) = true ∧ s.b.bit (gkPage g) GKC.LCTRL_BUSY = false

/-- A cell whose access logs no error and wakes no pad group. -/
def State.cellQuiet (s : State) (g : Nat) : GCell → Prop
  | .word w => rowQuiet (s.gko.word g w)
  | .row pad r => rowQuiet (s.ponds.mem.row pad r) ∧ nbit (s.b.fld (pond (pad / 32)) PND.GSLEEP_ASLEEP) (pad % 32 / 8) = false
  | .half _ _ => True

/-- An X (`y` false) or Y access runs at once on the cells `cs`: a legal form, an aligned mapped address from no tagged register
(12 R256, R257; 11 R225), each cell open. -/
def State.reaches (s : State) (g : Nat) (y : Bool) (m : MemSlot) (own : Bool) (cs : List GCell) : Prop :=
  memLegal m = true ∧ (∀ c ∈ cs, s.cellOpen g own c) ∧ match m with
  | .nop => False
  | .acc op _ a _ => (s.gko.at g).addrTag a = false ∧ ((s.gko.at g).address op a).toNat % opUnit op = 0 ∧
      gkCells s.b g y ((s.gko.at g).address op a).toNat (opCells op) = some cs

/-- The gecko after a slot's post-modification, from `k` before the bundle and `x` with the slot's results (12 R257, 13 R274). -/
def Gecko.stepped (k x : Gecko) (op : MemOp) (a : AddrForm) : Gecko :=
  match k.stepPtr op a with
  | some (n, v) => x.postModify n v
  | none => x

/-- AGS reports the generator whose window the access lay outside of, and no other (13 R275). -/
def State.windowNoted (s t : State) (g : Nat) (a : AddrForm) : Prop :=
  t.b.fld (gkPage g) GKC.AGS_OUTWIN = match (s.gko.at g).outWin a with
    | some n => nset (s.b.fld (gkPage g) GKC.AGS_OUTWIN) n
    | none => s.b.fld (gkPage g) GKC.AGS_OUTWIN

/-- A load left the gecko `x`, then its pointer was stepped and loop ends evaluated; every memory is unchanged, and on quiet cells
every register word but PC, BUNDLES, CYCLES, LC_HIT and AGS. -/
def State.loaded (s t : State) (g : Nat) (op : MemOp) (a : AddrForm) (cs : List GCell) (x : Gecko) : Prop :=
  let r := ((s.gko.at g).stepped x op a).loopEnd (s.b.gkPc g) 8
  t = { s with b := t.b, gko := t.gko, ponds := { s.ponds with aRows := t.ponds.aRows } } ∧ t.gko.mem = s.gko.mem ∧ t.gko.at g = r.1 ∧ (∀ j, j ≠ g → t.gko.at j = s.gko.at j) ∧
    t.b.gkPc g = r.2 ∧ s.windowNoted t g a ∧
    ((∀ c ∈ cs, s.cellQuiet g c) → s.counted t g r.2 [regOf (gkPage g) GKC.LC_HIT, regOf (gkPage g) GKC.AGS])

/-- A store left the gecko `x` but for its line cache, then its pointer was stepped and loop ends evaluated. -/
def State.stored (s t : State) (g : Nat) (op : MemOp) (a : AddrForm) : Prop :=
  let r := ((s.gko.at g).stepped (s.gko.at g) op a).loopEnd (s.b.gkPc g) 8
  t = { s with b := t.b, gko := t.gko, ponds := t.ponds } ∧ t.gko.at g = { r.1 with cache := (t.gko.at g).cache } ∧
    (∀ j, j ≠ g → t.gko.at j = s.gko.at j) ∧ t.b.gkPc g = r.2 ∧ s.windowNoted t g a

/-- A vector instruction gave vector register `d` the lanes `f` where predicate `k` governs, and tags `tg`; every other lane of it is
the lane `old` names (12 R260, R261). -/
def State.lanes (s t : State) (g : Nat) (w : Bool) (d k : Nat) (old : BitVec 1024) (f : Nat → Nat) (tg : BitVec 64) : Prop :=
  ∃ v : BitVec 1024, (∀ i, i < laneN w → vlane w v i =
      if ((s.gko.at g).preg k).getLsbD (laneTagIx w i) then f i else vlane w old i) ∧
    let r := ((s.gko.at g).setV d v tg).loopEnd (s.b.gkPc g) 8
    s.issued t g r.1 r.2 []

/-- A vector instruction gave accumulator `d` the elements `f` where predicate `k` governs and tags `tg`, and changed the gecko
further by `z`. -/
def State.accs (s t : State) (g : Nat) (w : Bool) (d k : Nat) (f : Nat → Nat) (tg : BitVec 64) (z : Gecko → Gecko) : Prop :=
  ∃ v : BitVec 2560, (∀ i, i < laneN w → accElt w v i =
      if ((s.gko.at g).preg k).getLsbD (laneTagIx w i) then f i else accElt w ((s.gko.at g).acc d) i) ∧
    let r := (z ((s.gko.at g).setAcc d v tg)).loopEnd (s.b.gkPc g) 8
    s.issued t g r.1 r.2 []

/-- A vector instruction gave predicate `d` the bits `f`, P0 discarding them (12 R261). -/
def State.predicate (s t : State) (g d : Nat) (f : Nat → Bool) : Prop :=
  ∃ v : BitVec 64, (∀ i, i < 64 → v.getLsbD i = f i) ∧
    let r := ((s.gko.at g).setP d v).loopEnd (s.b.gkPc g) 8
    s.issued t g r.1 r.2 []

/-- Lane `i` as a signed number (13 R265). -/
def signedLane (w : Bool) (v : BitVec 1024) (i : Nat) : Int := toS (laneW w) (vlane w v i)

/-- A port has gone down in state `st`, or tests where CTRL.TEST is set (19 R397, R400): no width, rate, request or answer is left, and each outbound request was answered DISABLED. -/
def portIsDown (s t : State) (n : Fin 8) (st : Nat) : Prop :=
  t = { s with b := t.b, efl := t.efl, hop := t.hop } ∧ t.b.eflState n = (if s.b.bit (.efl n) EFL.CTRL_TEST then eTEST else st) ∧ t.b.fld (.efl n) EFL.STAT_WIDTH = 0 ∧ t.b.fld (.efl n) EFL.STAT_RATE = 0 ∧
    (eflAt t.efl n).step = 0 ∧ (eflAt t.efl n).slots = [] ∧ (eflAt t.efl n).inb = [] ∧ (eflAt t.efl n).replay = [] ∧ (eflAt t.efl n).credits = 128 ∧
    (eflAt t.efl n).quiescing = false ∧ (∀ m, m ≠ n.val → eflAt t.efl m = eflAt s.efl m) ∧
    ∀ k w r, (k, some (w, r)) ∈ (eflAt s.efl n).slots → answerMsg r (rspStatus stDISABLED) ∈ t.b.out

/-- The last message out is a cell of port `n` with these header fields and this packet (19 R390), in clear where the port does not
scramble. -/
def State.sentCell (t : State) (n : Nat) (ack nak credit seq : Nat) (p : EflPkt) (scr : Bool) : Prop :=
  ∃ key, (scr = false → key = 0) ∧ t.b.out.getLast? = some (.eflCell n (eflCellOf ack nak credit seq (some p) key))

/-- The last message out is the training blocks that port `n` repeats in an attempt on its first `w` lanes (19 R387). -/
def State.sentBlocks (t : State) (n : Nat) (x : Efl) (attempt w : Nat) (good : BitVec 16) : Prop :=
  t.b.out.getLast? = some (.eflTrain n ((List.range w).map fun l => eflBlock x attempt l good))

/-- Command `c` is the oldest, has opcode `op`, waits to be served, some Anole runs, and ROM recovery, if it runs, serves it (22 R445, R452). -/
def State.serving (s : State) (op : Nat) (c : MbCmd) (rest : List MbCmd) : Prop :=
  s.ano.cmds = c :: rest ∧ c.op = op ∧ c.res = none ∧ s.anoRuns = true ∧ (s.b.bit .ano ANO.STAT_ROM = true → romOp op = true)

/-- The oldest command has its status and response, and waits for MB_DONE (22 R445). -/
def State.replied (s : State) (c : MbCmd) (rest : List MbCmd) (st : Nat) (rsp : List Byte) : State :=
  { s with ano := { s.ano with cmds := { c with res := some (st, rsp) } :: rest } }

/-- The pointers of a queue lie in the ranges of 10 R206. -/
def Queue.ordered (x : Queue) : Prop :=
  x.markD ≤ x.readD ∧ x.readD ≤ x.writeD ∧ x.writeD ≤ x.len ∧ (x.rel < x.len ∨ x.len = 0)

/-- The stores a program's data lies in are in their one canonical form: pad rows, GDDR6 lines, gecko memories, stored
configuration frames and the two planes, and the queues' table. -/
def State.canonical (s : State) : Prop :=
  SMap.wf (fun _ => (0 : BitVec 416)) s.ponds.mem = true ∧ SMap.wf (fun _ => Gline.zero) s.gdr.lines = true ∧
  SMap.wf (fun _ => (0 : BitVec 416)) s.gko.mem = true ∧ SMap.wf (fun _ => Frame.zero) s.cfg.store = true ∧
  SMap.wf (fun _ => (0 : BitVec 4096)) s.cfg.front = true ∧ SMap.wf (fun _ => (0 : BitVec 4096)) s.cfg.back = true ∧
  SMap.wf (fun _ => Queue.init) s.que = true

/-- The invariant of the device: canonical stores, and every queue's pointers in their ranges. -/
def State.Inv (s : State) : Prop := s.canonical ∧ ∀ q, (queueAt s.que q).ordered

end Sys2Proof.Machine
end

