-- ==== Sys2Proof/Certificates/Slice0/Obligations.lean ====
section
/-! DEFINITION. What is stated of the SK48 for the provers.

Throughout: `Completes c s post` says that `exec c s` answers a next state that satisfies `post`. Where a clause says that a
command whose conditions do not hold leaves the state as it is, that is the model's choice (log entry 6), as is when a timed
event happens (5) and that work spread over time is done at once (7). A free value (10) is never compared with a number:
each statement holds whatever it is. -/
open Sys2Proof Sys2Proof.Machine

/-! ### The command queue, time and reset -/

/-- A step takes the command at the front of the queue and performs it with the queue's rest (95, "What each step holds"). -/
def Obligations.StepPerformsFrontCommand : Prop :=
  ∀ (s : State) (c : Instr) (rest : List Instr), s.pending = c :: rest → step s = exec c { s with pending := rest }

/-- With no command waiting, one microsecond of AON time passes (20 R414, 24 R488, 05 R85): the time base counts, stage AON ends after 1 ms,
the root runs unless gated, and where no block has read a planted word no register but the reset stage and the towers' dwell counts changes
with it. While the root is gated nothing more happens; else what waits for its moment goes on, and a page whose idle rule holds and whose
SLEEP_PERMIT is set falls asleep (02 R25, R38). That an idle step is one microsecond is the model's choice (log entry IDLE). What rests on
the model's choices: log entries 4, 101, 105. -/
def Obligations.IdleStepAdvancesTime : Prop :=
  (∀ s : State, s.pending = [] → ∃ b : Base,
    step s = .next (if s.b.gated then { s with b := b } else State.pass { s with b := b }) ∧ b.aonUs = s.b.aonUs + 1 ∧
    b.rc = (if s.b.gated then s.b.rc else s.b.rc + s.b.part.rootMhz) ∧
    (s.b.decSeen = [] → b = { s.b with regs := b.regs, aonUs := b.aonUs, rc := b.rc } ∧
      (s.b.fld .pkg PKG.RST_STAT_STAGE = 0 → 1000 ≤ s.b.aonUs + 1 → b.fld .pkg PKG.RST_STAT_STAGE = 1) ∧
      ∀ a, a ≠ regOf .pkg PKG.RST_STAT_STAGE →
        (∀ k : Tower, a ≠ regOf (.chm k) CHM.DWELL_CYCLES ∧ a ≠ regOf (.chm k) CHM.STAT_DWELL_MET) → b.word a = s.b.word a)) ∧
  ∀ (s : State) (p : Page),
    (s.mayRest p = false ∨ s.b.commitPend p = true ∨ s.b.bit p HDR.BLK_CTRL_SLEEP_PERMIT = false ∨
      s.b.fld p HDR.BLK_STAT_STATE ≠ stActive → s.restPage p = s) ∧
    (s.mayRest p = true → s.b.commitPend p = false → s.b.bit p HDR.BLK_CTRL_SLEEP_PERMIT = true →
      s.b.fld p HDR.BLK_STAT_STATE = stActive → s.restPage p = { s with b := (s.restPage p).b } ∧
        s.b.sets (s.restPage p).b [regOf p HDR.BLK_STAT_STATE] ∧ s.b.shows (s.restPage p).b p stAsleep)

/-- Every command leaves the waiting commands as they are; only a step takes one away. A write of one register, whatever it does, is
discarded while its block stands still (02 R38) or is under BLOCK reset (02 R516). -/
def Obligations.CommandsKeepTheQueue : Prop :=
  (∀ (c : Instr) (s t : State), exec c s = .next t → t.pending = s.pending) ∧
  (∀ (c : Instr) (p : Page) (s : State), rowPage c = some p → ¬ s.admits p → Completes c s fun t => t = s)

/-- The state after power-on reset meets the invariant. -/
def Obligations.ResetMeetsInvariant : Prop :=
  State.reset.Inv

/-- Every step keeps the invariant: canonical stores, and the pointer ranges of 10 R206. -/
def Obligations.StepKeepsInvariant : Prop :=
  ∀ s t : State, s.Inv → step s = .next t → t.Inv

/-- After power-on reset (24 R488; 02 R25) every register but JTAG_CTRL holds the reset value of its table, the stage is AON, no event line
is high, no NME stands, nothing was sent, and no commit is pending. -/
def Obligations.ResetRegistersHoldTheirTables : Prop :=
  (∀ a, a ≠ 0x400004C → State.reset.b.word a = regReset a) ∧ State.reset.b.fld .pkg PKG.RST_STAT_STAGE = 0 ∧
  (∀ p ∈ allPages, State.reset.b.line p = false ∧ State.reset.b.commitPend p = false ∧ State.reset.b.word (pbase p) = blkId p) ∧
  State.reset.b.alertN = false ∧ State.reset.b.out = [] ∧ State.reset.pending = []

/-! ### The common header -/

/-- 02 R515, R25: a write of EN that changes it makes STATE read DRAINING, or what the enabled block shows, with AWAKE following it, but
where RESETTING, LAME or FAULT shows in its place; one that does not, or that 16 R325 turns away, changes neither. 02 R515, R516: a draining
block without accepted work reads DISABLED, and one with work left drains on; SRST makes STATE read RESETTING, at once for a page that has
only registers, whose own EVT_STAT and ERR_CNT take their reset values and whose commit is abandoned, with no register of another page
changed; while the block has work to end the reset stays due. When the reset is over STATE shows what the block rests in. What rests on the
model's choices: log entries 21, 83. -/
def Obligations.EnableDrainAndBlockReset : Prop :=
  (∀ (r : State) (p : Page) (en : Bool), r.admits p → ∀ s, s = r.maWake p →
    (s.b.enabled p = en → Completes (.blkCtrlEn p en) r fun t => t = s) ∧
    (s.b.enabled p ≠ en → (∀ c, p = .gd c → en = true → s.b.gdEnRefused c = false) →
      Completes (.blkCtrlEn p en) r fun t => t = { s with b := t.b } ∧
        s.b.sets t.b [regOf p HDR.BLK_CTRL_EN, regOf p HDR.BLK_STAT_STATE] ∧ s.b.put t.b p HDR.BLK_CTRL_EN (b2n en) ∧
        (if s.b.fld p HDR.BLK_STAT_STATE ∈ [stResetting, stLame, stFault]
         then t.b.word (regOf p HDR.BLK_STAT_STATE) = s.b.word (regOf p HDR.BLK_STAT_STATE)
         else s.b.shows t.b p (if en then s.b.activeState p else stDraining))) ∧
    (∀ c, p = .gd c → en = true → s.b.enabled p = false → s.b.gdEnRefused c = true →
      Completes (.blkCtrlEn p en) r fun t => t = { s with b := s.b.event p 15 })) ∧
  ((∀ (s : State) (p : Page),
    (s.b.fld p HDR.BLK_STAT_STATE = stDraining → s.drained p = true →
      Completes (.drainComplete p) s fun t => t = { s with b := t.b } ∧
        s.b.sets t.b [regOf p HDR.BLK_STAT_STATE] ∧ s.b.shows t.b p stDisabled) ∧
    (s.b.fld p HDR.BLK_STAT_STATE ≠ stDraining ∨ s.drained p = false → Completes (.drainComplete p) s fun t => t = s) ∧
    (s.b.fld p HDR.BLK_STAT_STATE = stResetting → s.boot.srstDue (psrc p) = false → (p = .ldr → s.ldr.resetDue = false) →
      Completes (.blockResetDone p) s fun t => t = { s with b := t.b } ∧
        s.b.sets t.b [regOf p HDR.BLK_STAT_STATE] ∧ s.b.put t.b p HDR.BLK_STAT_STATE (s.b.resetEndState p))) ∧
  ∀ (r : State) (p : Page), r.admits p → ∀ s, s = r.maWake p →
    (plainPage p = true →
      Completes (.srst p) r fun t => t.b.fld p HDR.BLK_STAT_STATE = stResetting ∧ t.b.commitPend p = false ∧
        t.b.fld p HDR.BLK_STAT_COMMIT_RES = 0 ∧ t.b.word (evtOf p) = regReset (evtOf p) ∧
        t.b.word (regOf p HDR.ERR_CNT) = regReset (regOf p HDR.ERR_CNT) ∧ t.b.word (regOf p HDR.EVT_EN) = r.b.word (regOf p HDR.EVT_EN) ∧
        ∀ a, inPage p a = false → t.b.word a = r.b.word a) ∧
    (s.blockBusy p = true → p ≠ .ldr →
      Completes (.srst p) r fun t => t = { s with b := t.b, boot := t.boot } ∧
        s.b.sets t.b [regOf p HDR.BLK_STAT_STATE] ∧ s.b.put t.b p HDR.BLK_STAT_STATE stResetting ∧ t.boot.srstDue (psrc p) = true))

/-! ### Commits (02 R26 to R28) -/

/-- 02 R27, R28: GO has no effect while a commit is pending; a shadow that fails its rules leaves COMMIT_RES 3 and COMMIT_REJ; else
COMMIT_PEND is set, in all sixteen pages for the tables of chapter 17, and no live value changes. A write to a block that stands still or is
under BLOCK reset is discarded (R38, R516). 02 R27: CANCEL abandons a pending commit, reloads every shadow of the page from its live value,
and leaves COMMIT_RES 2 and COMMIT_DONE, whether or not a commit was pending. (A re-encode it cannot reach is in `ReencodeAndWriteEnables`;
the SLT page's copy in `SlotTableWalks`; a CANCEL of an ENC page is one of all sixteen.) 02 R26, R27: at the commit point of a page without
one of its own every RWS field takes its shadow at once, COMMIT_PEND clears, COMMIT_RES is 1 and COMMIT_DONE is set; other fields, other
pages and the shadows stay. With no commit pending, and on the pages whose chapter names another commit point, nothing changes. -/
def Obligations.CommitsStartCancelAndEnd : Prop :=
  (∀ (s : State) (p : Page), (¬ s.admits p → Completes (.commitGo p) s fun t => t = s) ∧ (s.admits p →
    (∀ c, p ≠ .enc c) → ((s.maWake p).b.commitPend p = true → Completes (.commitGo p) s fun t => t = s.maWake p) ∧
    ((s.maWake p).b.commitPend p = false → (s.maWake p).commitOk p = false →
      Completes (.commitGo p) s fun t => t = { s.maWake p with b := t.b } ∧
        (s.maWake p).b.raises t.b [regOf p HDR.BLK_STAT_STATE, evtOf p] ∧ (s.maWake p).b.put t.b p HDR.BLK_STAT_COMMIT_RES 3 ∧
        t.b.word (evtOf p) = (s.maWake p).b.word (evtOf p) ||| evt 4) ∧
    ((s.maWake p).b.commitPend p = false → (s.maWake p).commitOk p = true → (∀ k, p ≠ .cfg k ∧ p ≠ .slt k) →
      Completes (.commitGo p) s fun t => t = { s.maWake p with b := t.b } ∧ (s.maWake p).b.put t.b p HDR.BLK_STAT_COMMIT_PEND 1 ∧
        ∀ a, a ≠ regOf p HDR.BLK_STAT_STATE → t.b.word a = (s.maWake p).b.word a)) ∧
    (∀ k : Tower, s.admits (.cfg k) → (s.maWake (.cfg k)).b.commitPend (.cfg k) = false → (s.maWake (.cfg k)).commitOk (.cfg k) = true →
      Completes (.commitGo (.cfg k)) s fun t => t.b.commitPend (.cfg k) = true ∧ t.b.bit (.cfg k) CFG.STAT_REENC = true) ∧
    (∀ c : Fin 16, s.admits (.enc c) → (s.maWake (.enc c)).b.encPending = false → encCommitOk (s.maWake (.enc c)).b = true →
      Completes (.commitGo (.enc c)) s fun t => ∀ d : Fin 16, t.b.commitPend (.enc d) = true)) ∧
  (∀ (s : State) (p : Page), s.admits p → (∀ k, p ≠ .cfg k ∧ p ≠ .slt k) → (∀ c, p ≠ .enc c) →
    Completes (.commitCancel p) s fun t => t = { s.maWake p with b := t.b } ∧ t.b.commitPend p = false ∧
      t.b.fld p HDR.BLK_STAT_COMMIT_RES = 2 ∧ t.b.word (evtOf p) = (s.maWake p).b.word (evtOf p) ||| evt 3 ∧
      (∀ a, a ∉ [regOf p HDR.BLK_STAT_STATE, evtOf p] → t.b.word a = (s.maWake p).b.word a) ∧
      (∀ a, inPage p a = true → rwsBits a (t.b.shWord a) = rwsBits a (t.b.word a)) ∧
      ∀ a, inPage p a = false → t.b.shWord a = (s.maWake p).b.shWord a) ∧
  (∀ (s : State) (p : Page),
    ((s.b.commitPend p = false ∨ ownPoint p = true) → Completes (.commitApply p) s fun t => t = s) ∧
    (s.b.commitPend p = true → plainCommit p = true → Completes (.commitApply p) s fun t =>
      t = { s with b := t.b } ∧ t.b.shad = s.b.shad ∧ t.b.commitPend p = false ∧ t.b.fld p HDR.BLK_STAT_COMMIT_RES = 1 ∧
      t.b.word (evtOf p) = s.b.word (evtOf p) ||| evt 3 ∧
      (∀ a, inPage p a = true → a ∉ [regOf p HDR.BLK_STAT_STATE, evtOf p] → t.b.word a = rwsMix a (s.b.word a) (s.b.shWord a)) ∧
      ∀ a, inPage p a = false → t.b.word a = s.b.word a))

/-! ### Events, NMEs and errors (02 R30 to R36) -/

/-- 02 R33, R34, R36; 23 R471: a write of EVT_STAT clears bits and sends another message when the line stays high; EVT_FORCE sets the bits
the page defines as its events would; a message goes to Anole where the source's route says so; a forced NME event also raises its cause,
whatever EVT_EN says; a write of NME_STAT clears causes, and ALERT_N follows them. 02 R30, R31: one count leaks each LEAK ms, never below
zero; a write of ERR_CFG takes effect, and restarts the leak timer where it changes LEAK; writing 1 to ERR_LOG0.VALID releases the entry and
clears OVF. What rests on the model's choices: log entries 15, 16, 17. -/
def Obligations.EventsAndErrorCounters : Prop :=
  ((∀ (r : State) (p : Page) (v : Word), r.admits p → ∀ s, s = r.maWake p →
    (Completes (.evtStatClear p v) r fun t => t = { s with b := t.b } ∧
      s.b.raises t.b [evtOf p] ∧ t.b.word (evtOf p) = s.b.word (evtOf p) &&& ~~~ v ∧
      (t.b.line p = false → t.b.out = s.b.out ∧ t.b.msixPend = s.b.msixPend) ∧
      (t.b.line p = true → wget (t.b.word (routeAddr (psrc p) 0)) 16 16 = 1 → Msg.anole (psrc p) ∈ t.b.out)) ∧
    (pageNmes p = [] → Completes (.evtForce p v) r fun t => t = { s with b := t.b } ∧
      s.b.raises t.b [evtOf p] ∧ t.b.word (evtOf p) = s.b.word (evtOf p) ||| (v &&& evtMask p) ∧
      (s.b.line p = true ∨ t.b.line p = false → t.b.out = s.b.out) ∧
      (s.b.line p = false → t.b.line p = true → wget (t.b.word (routeAddr (psrc p) 0)) 16 16 = 1 →
        wget (t.b.word (routeAddr (psrc p) 0)) 15 15 = 0 → t.b.out = s.b.out ++ [.anole (psrc p)])) ∧
    (∀ e ∈ pageNmes p, v.getLsbD e.2 = true → Completes (.evtForce p v) r fun t =>
      nbit (t.b.fld .evr EVR.NME_STAT_CAUSE) e.1 = true ∧ t.b.alertN = true ∧ Msg.anoleNme e.1 ∈ t.b.out)) ∧
  ∀ (r : State) (v : Word), r.admits .evr → ∀ s, s = r.maWake .evr → Completes (.nmeStatClear v) r fun t => t = { s with b := t.b } ∧
    s.b.sets t.b [pbase .evr + 0x40] ∧ t.b.word (pbase .evr + 0x40) = s.b.word (pbase .evr + 0x40) &&& ~~~ v ∧
    (t.b.alertN = true ↔ t.b.fld .evr EVR.NME_STAT_CAUSE ≠ 0)) ∧
  (∀ (s : State) (p : Page) (v : Word),
    (s.b.leakDue p = true → Completes (.errLeak p) s fun t => t = { s with b := t.b } ∧
      s.b.put t.b p HDR.ERR_CNT_COUNT (s.b.fld p HDR.ERR_CNT_COUNT - 1) ∧
      (∀ a, a ≠ regOf p HDR.ERR_CNT_COUNT → t.b.word a = s.b.word a) ∧
      t.b = { s.b with regs := t.b.regs, leakAt := t.b.leakAt } ∧
      SMap.get (fun _ => 0) t.b.leakAt (psrc p) = SMap.get (fun _ => 0) s.b.leakAt (psrc p) + 1000 * s.b.fld p HDR.ERR_CFG_LEAK) ∧
    (s.b.leakDue p = false → Completes (.errLeak p) s fun t => t = s) ∧
    (s.admits p → Completes (.errCfgWrite p v) s fun t => t = { s.maWake p with b := t.b } ∧
      t.b.word (regOf p HDR.ERR_CFG_LEAK) = v &&& 0x1FFFFFFF ∧
      (∀ a, a ≠ regOf p HDR.ERR_CFG_LEAK → t.b.word a = (s.maWake p).b.word a) ∧
      SMap.get (fun _ => 0) t.b.leakAt (psrc p) = (if wget v 11 4 = (s.maWake p).b.fld p HDR.ERR_CFG_LEAK
        then SMap.get (fun _ => 0) (s.maWake p).b.leakAt (psrc p) else (s.maWake p).b.aonUs)) ∧
    (s.admits p → Completes (.errLogRelease p) s fun t => t = { s.maWake p with b := t.b } ∧
      (s.maWake p).b.sets t.b [regOf p HDR.ERR_LOG0_VALID] ∧ t.b.fld p HDR.ERR_LOG0_VALID = 0 ∧ t.b.fld p HDR.ERR_LOG0_OVF = 0 ∧
      t.b.fld p HDR.ERR_LOG0_UC = (s.maWake p).b.fld p HDR.ERR_LOG0_UC ∧
      t.b.fld p HDR.ERR_LOG0_KIND = (s.maWake p).b.fld p HDR.ERR_LOG0_KIND))

/-! ### Register accesses (02 R22 to R24, R38; 14 R295) -/

/-- 02 R24, R26, R27: a write to a register without behaviour of its own stores it by its fields' access types, its RWS fields in the
shadow, or not at all while a commit is pending, which sets SHADOW_BUSY; no other register changes. The header's registers act. 02 R22, R23,
R38: a read answers what the register reads as and clears its RC fields; one of a reserved offset answers zero and one of a block that
stands still all ones; a reserved write, or one that covers no whole register, is discarded; each reserved access sets BAD_ACCESS and
captures the address. An access to a sleeping block wakes it and is completed. 14 R282, R286, R295: a management stop serves a configuration
request that is privileged, from PF0, Anole or the loader, and to the MA: a read answers the register's bytes, a write is the register
write; any other, and a flit of a reserved TYPE, is completed UNSUPPORTED. A request that may not arrive, and a flit lost on the wire, are
not served. What rests on the model's choices: log entries 18, 20, 21, 22. -/
def Obligations.RegisterAccesses : Prop :=
  (∀ (s : State) (a : Fin 0x8000000) (v : Word) (p : Page) (o : Nat), maTarget (a / 4 * 4) = .reg p o → s.admits p →
    (o = 0x14 → exec (.registerWrite a v) s = exec (.evtStatClear p v) s) ∧
    (o = 0x1C → exec (.registerWrite a v) s = exec (.evtForce p v) s) ∧
    (o = 0x24 → exec (.registerWrite a v) s = exec (.errCfgWrite p v) s) ∧
    (o = 0x10 → v = 1 → exec (.registerWrite a v) s = exec (.commitGo p) s) ∧
    (o = 0x10 → v.getLsbD 1 = true → exec (.registerWrite a v) s = exec (.commitCancel p) s) ∧
    ∀ r : RegSpec, 0x40 ≤ o → pageReg p o = some r → (s.maWake p).actWrite p o v = none →
      (∀ x, State.afterWrite x (s.maWake p) p o v = x) →
      Completes (.registerWrite a v) s fun t => t = { s.maWake p with b := t.b } ∧
        t.b.word (pbase p + o) = r.writeLive ((s.maWake p).b.word (pbase p + o)) v ∧
        (∀ k, k ∉ [pbase p + o, evtOf p] → t.b.word k = (s.maWake p).b.word k) ∧
        (r.mask .rws ≠ 0 → (s.maWake p).b.commitPend p = true → t.b.shad = (s.maWake p).b.shad ∧
          t.b.word (evtOf p) = (s.maWake p).b.word (evtOf p) ||| evt 5) ∧
        (r.mask .rws ≠ 0 → (s.maWake p).b.commitPend p = false →
          t.b.shWord (pbase p + o) = r.writeShadow ((s.maWake p).b.shWord (pbase p + o)) v ∧
          ∀ k, k ≠ pbase p + o → t.b.shWord k = (s.maWake p).b.shWord k)) ∧
  (∀ (s : State) (a : Fin 0x8000000) (v : Word),
    (maTarget (a / 4 * 4) = .reserved → ∀ c ∈ [Instr.rcRead a, .reservedAccess a .read], Completes c s fun t =>
      t = { s with b := t.b } ∧ s.b.raises t.b [regOf .evr EVR.BAD_ADDR_ADDR, evtOf .evr] ∧
      s.b.put t.b .evr EVR.BAD_ADDR_ADDR (a / 4 * 4) ∧ t.b.word (evtOf .evr) = s.b.word (evtOf .evr) ||| evt 8 ∧
      t.b.out.getLast? = some (.readData 0)) ∧
    (∀ c ∈ [Instr.reservedAccess a .partialWrite, .reservedAccess a .write, .registerWrite a v],
      maTarget (a / 4 * 4) = .reserved ∨ c = .reservedAccess a .partialWrite → Completes c s fun t =>
      t = { s with b := s.b.badAccess (a / 4 * 4) }) ∧
    (∀ p o r, maTarget (a / 4 * 4) = .reg p o → pageReg p o = some r →
      (s.b.standsStill p = true → Completes (.rcRead a) s fun t => t = { s with b := s.b.send (.readData 0xFFFFFFFF) }) ∧
      (s.b.standsStill p = false → ∀ u, u = State.maWake { s with b := s.b.decReport } p → Completes (.rcRead a) s fun t =>
        t.b.out.getLast? = some (.readData (u.maValue (.reg p o)).toNat) ∧ t.b.word (pbase p + o) &&& r.mask .rc = 0) ∧
      (s.b.sleeps p = true → (Completes (.blockWake a none) s fun t => exec (.rcRead a) s = .next t) ∧
        exec (.blockWake a (some v)) s = exec (.registerWrite a v) s ∧
        ((∀ k, p ≠ .que k) → (s.maWake p).b.word (evtOf p) = s.b.word (evtOf p) ||| evt 6)))) ∧
  (∀ (s : State) (r : HopReq) (w : Wire) (write : Bool) (c : Instr), c = (if write then .cfgWr r w else .cfgRd r w) →
    ∀ u, u = s.flitIn r write w (mgtTower r.addr.toNat) 0 →
    (s.mayArrive r write = false → Completes c s fun t => t = s) ∧
    (s.mayArrive r write = true → w.uc = true → Completes c s fun t => t = u) ∧
    (s.mayArrive r write = true → w.uc = false → w.resv = true → Completes c s fun t =>
      t = { u with b := u.b.answer r (rspStatus stUNSUPPORTED) }) ∧
    (s.mayArrive r write = true → w.uc = false → w.resv = false →
      (mgtAdmits r = false ∨ oneBlock r = false → Completes c s fun t =>
        t = { u with b := (hopUnsup u.b r).answer r (rspStatus stUNSUPPORTED) }) ∧
      (mgtAdmits r = true → oneBlock r = true → write = false → Completes c s fun t =>
        t = { (u.maReadBytes r.addr.toNat r.bytes).1 with
          b := (u.maReadBytes r.addr.toNat r.bytes).1.b.answer r
            (rspData (placeBytes (r.addr.toNat % 64) (u.maReadBytes r.addr.toNat r.bytes).2) false false) }) ∧
      (mgtAdmits r = true → oneBlock r = true → write = true → ∀ x, u.maWriteBytes r.addr.toNat (reqByteList r) = x →
        Completes c s fun t => t = { x with b := x.b.answer r (rspStatus stOK) })))

/-! ### The chameleon (05) -/

/-- 05 R91, R83, R101: a CHM.CMD that R91 refuses has no effect but CMD_REJ; STAGE names a context, and stages it in every tower of the gang
unless it is live; with SWAP the swap into it is wanted and CMD_PEND shows it; SWAP alone wants the context named last, and does nothing
where none is named or it is live. No plane changes. 05 R83, R84, R90, R98: a staging that ends without an uncorrectable frame leaves the
staged context in the back planes and phase COMPLETE, front planes untouched; an uncorrectable frame quarantines the context. A swap makes
the named context live, counts, restarts the dwell and raises SWAP_DONE; with no condition met nothing happens. A committed change of mode
takes effect at its edge. What rests on the model's choices: log entries 33, 91. -/
def Obligations.StagesSwapsAndModes : Prop :=
  (∀ (r : State) (k : Tower) (c : Ctx), r.admits (.chm k) → ∀ s, s = r.maWake (.chm k) →
    (∀ sw, s.cmdRefused k true sw (some c) = true → Completes (.cmdStage k c sw) r fun t => t = s.chmEvent k 11) ∧
    (s.cmdRefused k false true (s.ch k).named = true → Completes (.cmdSwap k) r fun t => t = s.chmEvent k 11) ∧
    (s.cmdRefused k true false (some c) = false → c.val = s.cm k CHM.STAT_LIVE →
      Completes (.cmdStage k c false) r fun t => t = s.setCh k fun x => { x with named := some c.val }) ∧
    (∀ sw, s.cmdRefused k true sw (some c) = false → c.val ≠ s.cm k CHM.STAT_LIVE → Completes (.cmdStage k c sw) r fun t =>
      t = { s with b := t.b, cham := t.cham } ∧ (t.ch k).named = some c.val ∧ (∀ u ∈ s.gang k, (t.ch u).tgt = some c.val) ∧
      t.cm k CHM.STAT_LIVE = s.cm k CHM.STAT_LIVE ∧
      (sw = true → (t.ch k).want = some (c.val, .static) ∧ t.cm k CHM.STAT_CMD_PEND = 1) ∧
      ∀ a, (∀ u ∈ s.gang k, a ≠ regOf (chmPage u) CHM.STAT) → t.b.word a = s.b.word a) ∧
    (s.cmdRefused k true false (some c) = false → c.val ≠ s.cm k CHM.STAT_LIVE → s.gang k = [k.val] → (s.ch k).tgt ≠ some c.val →
      s.refreshing k = false → s.gangCommitting k c = false → Completes (.cmdStage k c false) r fun t =>
      t.cm k CHM.STAT_PHASE = 1 ∧ t.cm k CHM.STAT_TARGET = c ∧ (t.ch k).staged = s.stageMarshes k) ∧
    (s.cmdRefused k false true (s.ch k).named = false → ((s.ch k).named = none ∨ (s.ch k).named = some (s.cm k CHM.STAT_LIVE)) →
      Completes (.cmdSwap k) r fun t => t = s) ∧
    (∀ d, s.cmdRefused k false true (some d) = false → (s.ch k).named = some d → d ≠ s.cm k CHM.STAT_LIVE →
      Completes (.cmdSwap k) r fun t => t = { s with b := t.b, cham := t.cham } ∧ (t.ch k).want = some (d, .static) ∧
        t.cm k CHM.STAT_CMD_PEND = 1 ∧ ∀ u ∈ s.gang k, (t.ch u).tgt = some d)) ∧
  (∀ (s : State) (k : Tower),
    (s.cm k CHM.STAT_PHASE ≠ 1 → Completes (.stagingComplete k) s fun t => t = s) ∧
    (s.cm k CHM.STAT_PHASE = 1 → ∀ ms l, ms = (fun m => (s.ch k).staged.contains m && !s.b.excludeBit k m) →
      l = copyList s.cfg k (s.cm k CHM.STAT_TARGET) ms →
      ((copyScan (s.b.bchT k) l).2 = none → Completes (.stagingComplete k) s fun t =>
        t.cm k CHM.STAT_PHASE = 2 ∧ t.cm k CHM.STAT_TARGET = s.cm k CHM.STAT_TARGET ∧ t.cm k CHM.STAT_LIVE = s.cm k CHM.STAT_LIVE ∧
        t.cfg = fillBack s.cfg k (s.b.bchT k) ms l ∧ t = { s with b := t.b, cfg := t.cfg, cham := t.cham }) ∧
      ((copyScan (s.b.bchT k) l).2 ≠ none → Completes (.stagingComplete k) s fun t =>
        nbit (t.cm k CHM.BUSY_QUAR) (s.cm k CHM.STAT_TARGET) = true ∧ t.cfg = s.cfg)) ∧
    ((s.ch k).want = none → Completes (.swap k) s fun t => t = s) ∧
    (∀ c why, (s.ch k).want = some (c, why) → s.canSwap k c why = false → Completes (.swap k) s fun t => t = s) ∧
    (∀ c : Ctx, (s.ch k).want = some (c.val, .static) → s.canSwap k c .static = true → s.gang k = [k.val] →
      Completes (.swap k) s fun t => t.cm k CHM.STAT_LIVE = c ∧ t.cm k CHM.SWCOUNT = (s.cm k CHM.SWCOUNT + 1) % 2 ^ 32 ∧
        t.cm k CHM.DWELL_CYCLES = 0 ∧ t.cm k CHM.STAT_DWELL_MET = 0 ∧ t.cm k CHM.STAT_CMD_PEND = 0 ∧ t.cm k CHM.STAT_PHASE = 0 ∧
        t.b.word (evtOf (.chm k)) = s.b.word (evtOf (.chm k)) ||| evt 8 ∧ (t.ch k).want = none ∧ (t.ch k).named = none ∧
        t.cfg.front = (exchange s.cfg k (s.ch k).staged.contains).front ∧
        t.cfg.back = (exchange s.cfg k (s.ch k).staged.contains).back ∧ t.cfg.store = s.cfg.store) ∧
    (s.b.commitPend (.chm k) = false → Completes (.modeChange k) s fun t => t = s) ∧
    (s.b.commitPend (.chm k) = true → (s.ch k).evCtx = none → wantsShell (s.ch k).want = false → s.b.shFld (.chm k) CHM.CTRL_MODE ≠ 1 →
      Completes (.modeChange k) s fun t => t.mode k = s.b.shFld (.chm k) CHM.CTRL_MODE ∧ t.b.commitPend (.chm k) = false ∧
        t.b.fld (.chm k) HDR.BLK_STAT_COMMIT_RES = 1 ∧
        (s.ownMode k ≠ t.ownMode k → (t.ch k).want = none ∧ (t.ch k).named = none ∧ (t.ch k).running = false ∧
          t.cm k CHM.STAT_CMD_PEND = 0)))

/-- 05 R93, R94, R97, R101: the slot walk. An entry that ends while a commit holds its context is late; else the walk goes to the next entry
that is not skipped, which runs at once where its context is live and else has its swap wanted. A pass counts when it ends, and a committed
GO then swaps the halves; where the tower's chameleon walks no table they swap at once. CANCEL copies the active half. What rests on the
model's choices: log entry 5. -/
def Obligations.SlotTableWalks : Prop :=
  ∀ (s : State) (k : Tower),
    (s.inMode k 1 = false ∨ (s.ch k).running = false ∨ s.frozen k = true → Completes (.slotEntryEnd k) s fun t => t = s) ∧
    (s.inMode k 1 = true → (s.ch k).running = true → s.frozen k = false →
      (s.gangCommitting k (s.cm k CHM.STAT_LIVE) = true → Completes (.slotEntryEnd k) s fun t =>
        t = (s.setCh k fun x => { x with running := false, late := true }).chmEvent k 16) ∧
      (s.gangCommitting k (s.cm k CHM.STAT_LIVE) = false → ∀ e, e < 256 → s.nextEntry k (s.walkHalf k) (s.walkIdx k + 1) = some e →
        Completes (.slotEntryEnd k) s fun t => t.cm k CHM.STAT_SLOT_IDX = e ∧ t.cm k CHM.STAT_SLOT_HALF = s.walkHalf k ∧
          (entCtx (s.slotEnt k (s.walkHalf k) e) = s.cm k CHM.STAT_LIVE → (t.ch k).running = true) ∧
          (entCtx (s.slotEnt k (s.walkHalf k) e) ≠ s.cm k CHM.STAT_LIVE → (t.ch k).running = false ∧
            (t.ch k).want = some (entCtx (s.slotEnt k (s.walkHalf k) e), .slot))) ∧
      (s.gangCommitting k (s.cm k CHM.STAT_LIVE) = false → (s.ch k).ran = true →
        s.nextEntry k (s.walkHalf k) (s.walkIdx k + 1) = none → Completes (.slotEntryEnd k) s fun t =>
          t.b.fld (.slt k) SLT.STAT_PASS = (s.b.fld (.slt k) SLT.STAT_PASS + 1) % 2 ^ 16)) ∧
    (s.inMode k 1 = true → (s.ch k).running = false → (s.ch k).ran = false → (s.ch k).want = none → s.frozen k = false →
      Completes (.slotPassEnd k) s fun t => t.b.fld (.slt k) SLT.STAT_PASS = (s.b.fld (.slt k) SLT.STAT_PASS + 1) % 2 ^ 16 ∧
        t.b.fld (.slt k) SLT.STAT_ACTIVE = (if s.sltPend k then 1 - s.b.fld (.slt k) SLT.STAT_ACTIVE else s.b.fld (.slt k) SLT.STAT_ACTIVE) ∧
        t.b.commitPend (.slt k) = false) ∧
    (s.sltPend k = true → s.inMode k 1 = false ∨ s.frozen k = true → Completes (.sltHalfSwap k) s fun t => t = { s with b := t.b } ∧
      t.b.fld (.slt k) SLT.STAT_ACTIVE = 1 - s.b.fld (.slt k) SLT.STAT_ACTIVE ∧ t.b.commitPend (.slt k) = false ∧
      t.b.fld (.slt k) HDR.BLK_STAT_COMMIT_RES = 1 ∧ t.b.word (evtOf (.slt k)) = s.b.word (evtOf (.slt k)) ||| evt 3 ∧
      s.b.raises t.b [regOf (.slt k) SLT.STAT, regOf (.slt k) HDR.BLK_STAT, evtOf (.slt k)]) ∧
    (s.admits (.slt k) → Completes (.commitCancel (.slt k)) s fun t => (t.ch k).copying = true ∧ t.b.commitPend (.slt k) = false) ∧
    ((s.ch k).copying = true → Completes (.sltCancelCopyDone k) s fun t => t = { s with b := t.b, cham := t.cham } ∧
      (t.ch k).copying = false ∧ t.b.fld (.slt k) SLT.STAT_ACTIVE = s.b.fld (.slt k) SLT.STAT_ACTIVE ∧
      t.slotLen k (1 - s.b.fld (.slt k) SLT.STAT_ACTIVE) = s.slotLen k (s.b.fld (.slt k) SLT.STAT_ACTIVE) ∧
      ∀ e, e < 256 → t.slotEnt k (1 - s.b.fld (.slt k) SLT.STAT_ACTIVE) e = s.slotEnt k (s.b.fld (.slt k) SLT.STAT_ACTIVE) e ∧
        t.slotEnt k (s.b.fld (.slt k) SLT.STAT_ACTIVE) e = s.slotEnt k (s.b.fld (.slt k) SLT.STAT_ACTIVE) e)

/-- 05 R95, R96, R100, R112: at a switch-clock edge the request tap is sampled; a rising REQ with no request outstanding is taken: for an
allowed context that is not live its swap is wanted and EV_PEND shows it; a refused one raises EV_REJ and is answered. 05 R113, R114, R101:
THAW is refused in a follower, during a re-encode and while a LAME marsh is not excluded; else it ends SWITCH_FREEZE; setting an EXCLUDE bit
acts at once, the marsh keeping its live context and leaving the staging under way; clearing one is ignored while the marsh is LAME, its
domain is off, or it is clear, and else a tenant marsh waits to rejoin. What rests on the model's choices: log entries 33, 91, 92. -/
def Obligations.EventRequestsThawAndExclude : Prop :=
  (∀ (s : State) (k : Tower) (c : Ctx), s.b.gated = false → s.inMode k 2 = true →
    ((s.tapSample k).2.1 = false → Completes (.eventRequest k) s fun t =>
      t = State.setCh { s with b := (s.tapSample k).1 } k fun x => { x with evPrev := false }) ∧
    ((s.tapSample k).2.1 = true → (s.ch k).evPrev = false → (s.ch k).evCtx = none → (s.tapSample k).2.2 = c → s.frozen k = false →
      (nbit (s.cm k CHM.ALLOW_CTX_MASK) c = true → ¬ (c = 0 ∧ s.b.shellDecl = true) → s.gangQuar k c = false →
        c.val ≠ s.cm k CHM.STAT_LIVE → Completes (.eventRequest k) s fun t => (t.ch k).want = some (c.val, .event) ∧
          (t.ch k).evCtx = some c.val ∧ (t.ch k).evPrev = true ∧ t.cm k CHM.STAT_EV_PEND = 1 ∧ t.cm k CHM.STAT_LIVE = s.cm k CHM.STAT_LIVE) ∧
      (nbit (s.cm k CHM.ALLOW_CTX_MASK) c = false → Completes (.eventRequest k) s fun t => (t.ch k).evCtx = none ∧
        t.cm k CHM.STAT_EV_PEND = 0 ∧ t.b.word (evtOf (.chm k)) &&& evt 12 = evt 12 ∧ t.cm k CHM.STAT_LIVE = s.cm k CHM.STAT_LIVE))) ∧
  (∀ (r : State) (k : Tower) (m : Marsh), r.admits (.chm k) → ∀ s, s = r.maWake (.chm k) →
    (s.follows k = true ∨ (s.gang k).any s.reencoding = true ∨ s.lameExcluded k = false →
      Completes (.cmdThaw k) r fun t => t = s.chmEvent k 11) ∧
    (s.follows k = false → (s.gang k).any s.reencoding = false → s.lameExcluded k = true →
      (s.frozenOne k = false → Completes (.cmdThaw k) r fun t => t = s) ∧
      (s.frozenOne k = true → Completes (.cmdThaw k) r fun t => t.frozenOne k = false ∧ t = { s with b := t.b, cham := t.cham } ∧
        ∀ a, (∀ u ∈ s.gang k, a ≠ regOf (chmPage u) CHM.STAT) → t.b.word a = s.b.word a)) ∧
    (Completes (.excludeSet k m) r fun t => t = { s with b := t.b, cfg := t.cfg, fab := t.fab, pins := t.pins, cham := t.cham } ∧
      t.b.excludeBit k m = true ∧ s.b.keeps t.b [regOf (.chm k) (excludeFld m)] ∧
      (∀ n : Marsh, n ≠ m → t.b.excludeBit k n = s.b.excludeBit k n) ∧
      t.cfg = { s.cfg with out := t.cfg.out } ∧ t.cfg.isRejoining k m = false ∧ (∀ n : Marsh, t.b.liveOf k n = s.b.liveOf k n) ∧
      (t.ch k).staged = (s.ch k).staged.erase m) ∧
    (s.b.lameCb k m = true ∨ s.b.domainDown k m = true ∨ s.b.excludeBit k m = false → Completes (.excludeClear k m) r fun t =>
      t = { s with b := t.b, fab := t.fab, pins := t.pins } ∧ t.b.regs = s.b.regs) ∧
    (s.b.lameCb k m = false → s.b.domainDown k m = false → s.b.excludeBit k m = true → Completes (.excludeClear k m) r fun t =>
      t = { s with b := t.b, cfg := t.cfg, fab := t.fab, pins := t.pins } ∧ t.b.excludeBit k m = false ∧
      s.b.keeps t.b [regOf (.chm k) (excludeFld m)] ∧ (∀ n : Marsh, n ≠ m → t.b.excludeBit k n = s.b.excludeBit k n) ∧
      t.cfg = { s.cfg with out := t.cfg.out } ∧ t.cfg.isRejoining k m = !s.b.isShell k m))

/-- 21 R427, 04 R68, R73: a logic domain powers off only when all its marshes are excluded, else LPD_REJ; each way BUSY shows the change,
and when it ends OFF shows the domain's state, every flip-flop copy of a domain that went off gone and LPD_DONE raised at power-on.
Contending taps of a segment are held off, counted and croaked, until at most one of them requests to drive. What rests on the model's
choices: log entries 40, 89. -/
def Obligations.DomainPowerAndContention : Prop :=
  ∀ (k : Tower),
    (∀ (r : State) (d : Fin 16), r.admits (.pwr k) → ∀ s, s = r.maWake (.pwr k) →
      (nbit (s.b.fld (.pwr k) PWR.LPD_CTRL_OFF) d = false →
        ((domainMarshes d).all (s.b.excludeBit k) = false → Completes (.lpdOff k d) r fun t =>
          t = { s with b := t.b, fab := t.fab, pins := t.pins } ∧ t.b.regs = (s.b.event (.pwr k) 9).regs) ∧
        ((domainMarshes d).all (s.b.excludeBit k) = true → Completes (.lpdOff k d) r fun t =>
          t = { s with b := t.b, fab := t.fab, pins := t.pins } ∧
          s.b.keeps t.b [regOf (.pwr k) PWR.LPD_CTRL, regOf (.pwr k) PWR.LPD_STAT] ∧
          t.b.fld (.pwr k) PWR.LPD_CTRL_OFF = nset (s.b.fld (.pwr k) PWR.LPD_CTRL_OFF) d ∧
          t.b.fld (.pwr k) PWR.LPD_STAT_BUSY = nset (s.b.fld (.pwr k) PWR.LPD_STAT_BUSY) d)) ∧
      (nbit (s.b.fld (.pwr k) PWR.LPD_CTRL_OFF) d = true → Completes (.lpdOn k d) r fun t =>
          t = { s with b := t.b, fab := t.fab, pins := t.pins } ∧
          s.b.keeps t.b [regOf (.pwr k) PWR.LPD_CTRL, regOf (.pwr k) PWR.LPD_STAT] ∧
          t.b.fld (.pwr k) PWR.LPD_CTRL_OFF = nclr (s.b.fld (.pwr k) PWR.LPD_CTRL_OFF) d ∧
          t.b.fld (.pwr k) PWR.LPD_STAT_BUSY = nset (s.b.fld (.pwr k) PWR.LPD_STAT_BUSY) d)) ∧
    (∀ (s : State) (d : Fin 16),
      (nbit (s.b.fld (.pwr k) PWR.LPD_CTRL_OFF) d = true → nbit (s.b.fld (.pwr k) PWR.LPD_STAT_BUSY) d = true →
        Completes (.lpdOffDone k d) s fun t => t = { s with b := t.b, cfg := (s.domainLost k d).cfg, fab := (s.domainLost k d).fab } ∧
          s.b.sets t.b [regOf (.pwr k) PWR.LPD_STAT] ∧ nbit (t.b.fld (.pwr k) PWR.LPD_STAT_OFF) d = true ∧
          nbit (t.b.fld (.pwr k) PWR.LPD_STAT_BUSY) d = false) ∧
      (nbit (s.b.fld (.pwr k) PWR.LPD_CTRL_OFF) d = false → nbit (s.b.fld (.pwr k) PWR.LPD_STAT_BUSY) d = true →
        Completes (.lpdDone k d) s fun t => nbit (t.b.fld (.pwr k) PWR.LPD_STAT_OFF) d = false ∧
          nbit (t.b.fld (.pwr k) PWR.LPD_STAT_BUSY) d = false ∧ t.b.word (evtOf (.pwr k)) = s.b.word (evtOf (.pwr k)) ||| evt 8 ∧
          t.cfg.store = s.cfg.store)) ∧
    ∀ (s : State) (v : Bool) (a : Fin 1024) (sg : Fin 3) (j : Fin 22) (taps : BitVec 4) (line : List Nat), line = lineTaps k v a sg j →
      (Completes (.deepLineContentionEnd k v a sg j taps) s fun t => t = { s with b := t.b, fab := t.fab, pins := t.pins } ∧
        t.b.regs = s.b.regs ∧ ∀ g ∈ s.segments k line [], ∀ c ∈ g, SMap.get (fun _ => false) t.fab.flt (tapKey c v) =
          (if (tapsOf line taps g).length ≤ 1 then false else SMap.get (fun _ => false) s.fab.flt (tapKey c v))) ∧
      (s.b.lineFenced line = true → Completes (.deepLineContention k v a sg j taps) s fun t => t = s) ∧
      (s.b.lineFenced line = false → Completes (.deepLineContention k v a sg j taps) s fun t =>
        t = { s with b := t.b, fab := t.fab, pins := t.pins } ∧
        (∀ g ∈ s.segments k line [], 2 ≤ (tapsOf line taps g).length →
          (∀ c ∈ tapsOf line taps g, SMap.get (fun _ => false) t.fab.flt (tapKey c v) = true) ∧
          t.b.word (evtOf (.vbd k)) &&& evt 11 = evt 11) ∧
        t.b.fld (.vbd k) VBD.DLC_CNT = satAdd (2 ^ 32 - 1) (s.b.fld (.vbd k) VBD.DLC_CNT)
          ((s.segments k line []).filter fun g => decide (2 ≤ (tapsOf line taps g).length)).length)

/-! ### Configuration memory (06) -/

/-- 06 R134 to R137: the scrubber's next store read is written back corrected and counted, or an uncorrectable frame is counted, raises
SCRUB_UC and quarantines its context; the compare after eight reads rewrites a front-plane frame that differs, or counts a skip, and moves
the position on. 06 R138 to R140, R127: RB_GO latches the address and sets RB_BUSY; a readback ends denied without RB_PERMIT, else with the
corrected data; RAW_WR stores the frame and check bits as written and quarantines the context, waits for a re-encode, or is refused. What
rests on the model's choices: log entries 41, 93, 107. -/
def Obligations.ScrubReadbackAndRawWrite : Prop :=
  (∀ (s : State) (k : Tower),
    (s.scrubs k = false → ∀ i ∈ [Instr.scrubRead k, .fpCompare k], Completes i s fun t => t = s) ∧
    (s.scrubs k = true → s.cfg.compareNext k = false → ∀ c a, c = s.b.fld (.scb k) SCB.POS_STEP →
      a = frameAddr k (s.b.fld (.scb k) SCB.POS_MARSH) c (s.b.fld (.scb k) SCB.POS_FRAME) →
      Completes (.scrubRead k) s (fun t => (if c = 7 then t.cfg.compareNext k = true else t.b.fld (.scb k) SCB.POS_STEP = c + 1) ∧
        t.cfg.front = s.cfg.front ∧ t.cfg.back = s.cfg.back ∧ ∀ x, x ≠ a → t.cfg.frame x = s.cfg.frame x) ∧
      (∀ o, frameDecode (s.b.bchT k) (s.cfg.frame a) = some o → o.n ≠ 0 → s.b.bit (.scb k) SCB.CTRL_WRITEBACK = true →
        Completes (.scrubRead k) s fun t => t.cfg.frame a = frameEncode (s.b.bchT k) (BitVec.ofNat 4096 o.pay) ∧
          t.b.fld (.scb k) SCB.CORR_CNT = satAdd (2 ^ 32 - 1) (s.b.fld (.scb k) SCB.CORR_CNT) 1) ∧
      (frameDecode (s.b.bchT k) (s.cfg.frame a) = none → Completes (.scrubRead k) s fun t => t.cfg.frame a = s.cfg.frame a ∧
        t.b.fld (.scb k) SCB.UC_CNT = satAdd (2 ^ 32 - 1) (s.b.fld (.scb k) SCB.UC_CNT) 1 ∧
        t.b.word (evtOf (.scb k)) &&& evt 11 = evt 11 ∧ nbit (t.cm k CHM.BUSY_QUAR) c = true)) ∧
    (s.scrubs k = true → s.cfg.compareNext k = true → ∀ m f, m = s.b.fld (.scb k) SCB.POS_MARSH → f = s.b.fld (.scb k) SCB.POS_FRAME →
      Completes (.fpCompare k) s (fun t => t.cfg.compareNext k = false ∧ t.b.fld (.scb k) SCB.POS_STEP = 0 ∧ t.cfg.store = s.cfg.store ∧
        (f < 447 → t.b.fld (.scb k) SCB.POS_FRAME = f + 1 ∧ t.b.fld (.scb k) SCB.POS_MARSH = m) ∧
        (447 ≤ f → m < 383 → t.b.fld (.scb k) SCB.POS_FRAME = 0 ∧ t.b.fld (.scb k) SCB.POS_MARSH = m + 1) ∧
        (447 ≤ f → 383 ≤ m → t.b.fld (.scb k) SCB.PASS = (s.b.fld (.scb k) SCB.PASS + 1) % 2 ^ 32 ∧
          t.b.word (evtOf (.scb k)) &&& evt 8 = evt 8)) ∧
      (s.compareSkipped k m = true → Completes (.fpCompare k) s fun t => t.cfg.front = s.cfg.front ∧
        t.b.fld (.scb k) SCB.SKIP_CNT = satAdd (2 ^ 32 - 1) (s.b.fld (.scb k) SCB.SKIP_CNT) 1) ∧
      (∀ o, s.compareSkipped k m = false → frameDecode (s.b.bchT k) (s.cfg.frame (frameAddr k m (s.b.liveOf k m) f)) = some o →
        (s.cfg.frontFrame k m f).toNat ^^^ o.pay ≠ 0 → s.b.bit (.scb k) SCB.CTRL_FP_FIX = true →
        Completes (.fpCompare k) s fun t => t.cfg.frontFrame k m f = BitVec.ofNat 4096 o.pay ∧
          t.b.fld (.scb k) SCB.FP_CNT = satAdd (2 ^ 32 - 1) (s.b.fld (.scb k) SCB.FP_CNT) 1 ∧
          t.b.word (evtOf (.scb k)) &&& evt 10 = evt 10))) ∧
  ((∀ (r : State) (k : Tower), r.admits (.cfg k) → ∀ s w, s = r.maWake (.cfg k) → w = (s.b.word (regOf (.cfg k) CFG.RB_ADDR)).toNat →
    (s.b.bit (.cfg k) CFG.STAT_RB_BUSY = true → ∀ i ∈ [Instr.rbGo k, .rawWr k], Completes i r fun t => t = s) ∧
    (s.b.bit (.cfg k) CFG.STAT_RB_BUSY = false →
      (Completes (.rbGo k) r fun t => t = { s with b := t.b, cfg := t.cfg } ∧
        s.b.sets t.b [regOf (.cfg k) CFG.STAT, regOf (.cfg k) CFG.RB_STAT] ∧ t.b.bit (.cfg k) CFG.STAT_RB_BUSY = true ∧
        t.b.fld (.cfg k) CFG.RB_STAT_DONE = 0 ∧ t.cfg = { s.cfg with rbAt := t.cfg.rbAt } ∧ t.cfg.rbLatched k = w) ∧
      (s.rawRefused k w = true → Completes (.rawWr k) r fun t => t = { s with b := t.b } ∧
        s.b.sets t.b [regOf (.cfg k) CFG.RB_STAT] ∧ t.b.fld (.cfg k) CFG.RB_STAT_DONE = 1 ∧ t.b.fld (.cfg k) CFG.RB_STAT_REFUSED = 1) ∧
      (s.rawRefused k w = false → s.reencoding k = true → Completes (.rawWr k) r fun t => t = { s with b := t.b, cfg := t.cfg } ∧
        t.b.bit (.cfg k) CFG.STAT_RB_BUSY = true ∧ t.cfg = { s.cfg with rbAt := t.cfg.rbAt }) ∧
      (s.rawRefused k w = false → s.reencoding k = false → ∀ a, a = w % 0x800000 → Completes (.rawWr k) r fun t =>
        t.cfg.frame a = ⟨s.b.rbData k, s.b.rbChk k⟩ ∧ (∀ x, x ≠ a → t.cfg.frame x = s.cfg.frame x) ∧ t.cfg.front = s.cfg.front ∧
        t.cfg.back = s.cfg.back ∧ t.b.bit (.cfg k) CFG.STAT_RB_BUSY = false ∧ t.b.fld (.cfg k) CFG.RB_STAT_DONE = 1 ∧
        t.b.fld (.cfg k) CFG.RB_STAT_REFUSED = 0 ∧ nbit (t.cm k CHM.BUSY_QUAR) (faCtx a) = true))) ∧
  ∀ (s : State) (k : Tower),
    (s.b.bit (.cfg k) CFG.STAT_RB_BUSY = false ∨ s.reencoding k = true → Completes (.readbackDone k) s fun t => t = s) ∧
    (s.b.bit (.cfg k) CFG.STAT_RB_BUSY = true → s.reencoding k = false → ∀ a, a = s.cfg.rbLatched k → a < 0x800000 →
      (faValid a = false ∨ faTower a ≠ k.val ∨ nbit (s.b.fld (.cfg k) CFG.RB_PERMIT_CTX) (faCtx a) = false →
        Completes (.readbackDone k) s fun t => t = { s with b := t.b } ∧ t.b.bit (.cfg k) CFG.STAT_RB_BUSY = false ∧
          t.b.fld (.cfg k) CFG.RB_STAT_DONE = 1 ∧ t.b.fld (.cfg k) CFG.RB_STAT_DENIED = 1 ∧ t.b.fld (.cfg k) CFG.RB_STAT_UC = 0 ∧
          (∀ i, i < 128 → t.b.word (regOf (.cfg k) (CFG.RB_DATA.nth i)) = 0) ∧
          t.b.word (evtOf (.cfg k)) = s.b.word (evtOf (.cfg k)) ||| evt 11 ||| evt 10) ∧
      (∀ o, faValid a = true → faTower a = k.val → nbit (s.b.fld (.cfg k) CFG.RB_PERMIT_CTX) (faCtx a) = true →
        frameDecode (s.b.bchT k) (s.cfg.frame a) = some o → Completes (.readbackDone k) s fun t => t = { s with b := t.b } ∧
          t.b.bit (.cfg k) CFG.STAT_RB_BUSY = false ∧ t.b.fld (.cfg k) CFG.RB_STAT_DONE = 1 ∧
          t.b.fld (.cfg k) CFG.RB_STAT_DENIED = 0 ∧ t.b.fld (.cfg k) CFG.RB_STAT_NCORR = o.n % 32 ∧
          t.b.word (evtOf (.cfg k)) &&& evt 10 = evt 10 ∧
          ∀ i, i < 128 → t.b.word (regOf (.cfg k) (CFG.RB_DATA.nth i)) = (BitVec.ofNat 4096 o.pay).extractLsb' (32 * i) 32)))

/-- 06 R125: a CANCEL written while a re-encode runs has no effect; when it ends every frame of the tower that decodes lies in the store
under the new strength, the others and other towers' frames stay, T is live and the commit is done. 06 R130, R132, R133: a release raises
the write enables of the named contexts in every tower, but of those under commit, quarantined or held by a reset, and of no other; a bank
of an owner that is live then leaves its load state, at once or IO_LAG later, and one whose owner is not waits until it is. -/
def Obligations.ReencodeAndWriteEnables : Prop :=
  (∀ (s : State) (k : Tower), s.canonical →
    (s.admits (.cfg k) → (s.maWake (.cfg k)).reencoding k = true → Completes (.commitCancel (.cfg k)) s fun t => t = s.maWake (.cfg k)) ∧
    (s.b.bit (.cfg k) CFG.STAT_REENC = false → Completes (.reencodeDone k) s fun t => t = s) ∧
    (s.b.bit (.cfg k) CFG.STAT_REENC = true → Completes (.reencodeDone k) s fun t =>
      (∀ e ∈ s.cfg.store, faTower e.1 = k.val → ∀ o, frameDecode (s.b.bchT k) e.2 = some o →
        t.cfg.frame e.1 = frameEncode (s.b.shFld (.cfg k) CFG.BCH_T) (BitVec.ofNat 4096 o.pay)) ∧
      (∀ e ∈ s.cfg.store, frameDecode (s.b.bchT k) e.2 = none → t.cfg.frame e.1 = e.2) ∧
      (∀ a, faTower a ≠ k.val → t.cfg.frame a = s.cfg.frame a) ∧ t.b.bchT k = s.b.shFld (.cfg k) CFG.BCH_T ∧
      t.reencoding k = false ∧ t.b.commitPend (.cfg k) = false ∧ t.b.word (evtOf (.cfg k)) &&& evt 9 = evt 9)) ∧
  ((∀ (r : State) (k : Tower) (mask : BitVec 8), r.admits (.cfg k) → ∀ s, s = r.maWake (.cfg k) → Completes (.weRelease k mask) r fun t =>
    (∀ (j : Tower) (c : Ctx), t.b.we j c = (s.b.we j c || (mask.getLsbD c && !s.b.releaseBarred c)) ∧
      (s.b.we j c = false → mask.getLsbD c = true → s.b.releaseBarred c = false → ∀ n ∈ s.b.banksOf j c,
        if s.ownerLive n = false then SMap.get (fun _ => false) t.pins.bankRel n = true
        else if s.b.fld (.cfg j) CFG.START_IO_LAG = 0 then SMap.get (fun _ => true) t.pins.bankLoad n = false
        else SMap.get (fun _ => false) t.pins.bankLag n = true)) ∧
    s.b.keeps t.b (towers.map fun j => regOf (cfgPage j) CFG.WE)) ∧
  ∀ (s : State) (k : Tower) (c : Ctx), (s.b.we k c = false → Completes (.bankRelease k c) s fun t => t = s) ∧
    (s.b.we k c = true → Completes (.bankRelease k c) s fun t => t = { s with b := t.b, fab := t.fab, pins := t.pins } ∧
      t.b.regs = s.b.regs ∧ ∀ n ∈ s.b.banksOf k c, SMap.get (fun _ => true) t.pins.bankLoad n =
        (SMap.get (fun _ => true) s.pins.bankLoad n && !SMap.get (fun _ => false) s.pins.bankLag n)))

/-- 06 R124 to R129; 08 R170, R173: the next payload of a commit is decrypted again and written to all its targets with computed check bits
and to no other frame; a segment that no longer verifies ends the commit with code 0x41, one staged or carried poisoned with 0x40, and what
was written is quarantined; when the refresh copy is done the planes of the refreshed marshes exchange. What rests on the model's choices:
log entries 97, 98. -/
def Obligations.CommitWritesFrames : Prop :=
  (∀ (r : State) (k : Tower) (h : ImgHdr) (w : LinkWrite) (rest : List LinkWrite), r.ldr.hdr = some h → r.ldr.planOf k = w :: rest →
    r.phase = 3 → r.reencoding k = false → wantsShell (r.ch k).want = false → r.stagingWake.stagingReady = true →
    ∀ s p, s = (r.stagingWake.payAgain h w).1 → p = (r.stagingWake.payAgain h w).2 →
    (∀ d, p = .ok d → rest ≠ [] → (∀ e ∈ rest, e.crosses = true) →
      (w.zeros = false → Completes (.frameWrite k false) r fun t => t = { s with cfg := t.cfg, ldr := t.ldr } ∧
        (∀ a ∈ w.targets, t.cfg.frame a = frameEncode (s.b.bchT k) d) ∧ (∀ a, a ∉ w.targets → t.cfg.frame a = s.cfg.frame a) ∧
        t.cfg.front = s.cfg.front ∧ t.cfg.back = s.cfg.back ∧ t.ldr.planOf k = rest) ∧
      (w.zeros = true → Completes (.frameWrite k false) r fun t => t = { s with cfg := t.cfg, ldr := t.ldr } ∧
        ∀ a, t.cfg.frame a = if s.zeroFills h k a then Frame.zero else s.cfg.frame a)) ∧
    (s.loadAlone → (∀ e, p = .error e → e < 256 → Completes (.frameWrite k false) r fun t => t.loadFailed e 0 ∧
        ∀ u ∈ h.towers, s.ldr.wroteIn u ≠ 0 → ∀ c, c < 8 → nbit (s.ldr.wroteIn u) c = true → nbit (t.cm u CHM.BUSY_QUAR) c = true) ∧
      (∀ d, p = .ok d → Completes (.frameWrite k true) r fun t => t.loadFailed 0x40 0 ∧ t.b.word (evtOf (.cfg k)) &&& evt 8 = evt 8))) ∧
  ∀ (s : State) (k : Tower),
    (s.cfg.refreshing k = [] → Completes (.commitRefreshExchange k) s fun t => t = s) ∧
    (s.cfg.refreshing k ≠ [] → ∀ c l ms, c < 8 → s.cfg.refreshMask k = 2 ^ c →
      ms = ((s.cfg.refreshing k).filter fun m => s.b.liveOf k m == c).contains →
      l = copyList s.cfg k c ms → (copyScan (s.b.bchT k) l).2 = none →
      Completes (.commitRefreshExchange k) s fun t => t.cfg.refreshing k = [] ∧ k.val ∉ t.ldr.towers ∧
        t.cfg.front = (exchange (fillBack s.cfg k (s.b.bchT k) ms l) k (s.cfg.refreshing k).contains).front ∧
        nbit (t.cm k CHM.BUSY_COMMITTING) c = false)

/-! ### Image loading (08) -/

/-- 08 R163, R166, R182: GO is refused while a chunk is fetched or an image is verified or committed; it begins a load from the host and
fetches a chunk of DLV_LEN words from DLV_ADDR; a chunk's bytes are appended and counted while the image is not whole; one whose fetch fails
ends the load with 0x26, and one that would go beyond TOTAL_LEN with 0x15. What rests on the model's choices: log entries 37, 94, 95. -/
def Obligations.DeliveriesAppendChunks : Prop :=
  (∀ (r : State) (last : Bool), r.admits .ldr → ∀ s, s = r.maWake .ldr →
    (s.b.bit .ldr LDR.STATE_DLV_BUSY = true ∨ 2 ≤ s.phase ∨ (s.phase = 1 ∧ s.loadSrc ≠ 0) →
      Completes (.dlvGo last) r fun t => t = s.ldrEvent 13) ∧
    (s.b.bit .ldr LDR.STATE_DLV_BUSY = false → s.noStaging = false → s.b.fld .ldr LDR.DLV_LEN_LEN ≠ 0 →
      (s.phase = 0 → Completes (.dlvGo last) r fun t => t = { s with b := t.b, ldr := t.ldr } ∧ t.phase = 1 ∧ t.loadSrc = 0 ∧
        t.b.bit .ldr LDR.STATE_DLV_BUSY = true ∧ t.ldr.last = last ∧ t.ldr.len = 8 * s.b.fld .ldr LDR.DLV_LEN_LEN ∧ t.ldr.img = [] ∧
        t.ldr.hdr = none ∧ t.rcvd = 0 ∧ s.b.keeps t.b [regOf .ldr LDR.STATE, regOf .ldr LDR.RCVD_LO, regOf .ldr LDR.RCVD_HI]) ∧
      (s.phase = 1 → s.loadSrc = 0 → Completes (.dlvGo last) r fun t => t = { s with b := t.b, ldr := t.ldr } ∧
        t.ldr = { s.ldr with last := last, len := 8 * s.b.fld .ldr LDR.DLV_LEN_LEN } ∧
        s.b.keeps t.b [regOf .ldr LDR.STATE] ∧ t.phase = 1 ∧ t.b.bit .ldr LDR.STATE_DLV_BUSY = true) ∧
      (s.phase = 0 ∨ (s.phase = 1 ∧ s.loadSrc = 0) → Completes (.dlvGo last) r fun t => t.b.out =
        if s.pci.shut then s.b.out else s.b.out ++ [.dlvRead
          (BitVec.ofNat 64 (s.b.fld .ldr LDR.DLV_ADDR_LO_ADDR * 8 + s.b.fld .ldr LDR.DLV_ADDR_HI * 2 ^ 32))
          (8 * s.b.fld .ldr LDR.DLV_LEN_LEN)]))) ∧
  ∀ (r : State) (bytes : List Byte), r.phase = 1 → r.b.bit .ldr LDR.STATE_DLV_BUSY = true → r.loadSrc = 0 → r.pci.shut = false →
    r.noStaging = false → ∀ s, s = r.stagingWake → s.stagingReady = true →
      (s.loadAlone → Completes (.chunkComplete bytes true) r fun t => t.loadFailed 0x26 ((s.rcvd + bytes.length) % 2 ^ 32)) ∧
      (bytes.length = s.ldr.len → s.ldr.last = false → s.ldr.hdr = none → s.rcvd + bytes.length < 256 →
        Completes (.chunkComplete bytes false) r fun t =>
          t = { s with b := t.b, ldr := { s.ldr with img := s.ldr.img ++ bytes, rcvd := s.rcvd + bytes.length } } ∧
          s.b.sets t.b [regOf .ldr LDR.STATE, regOf .ldr LDR.RCVD_LO, regOf .ldr LDR.RCVD_HI] ∧ t.phase = 1 ∧
          t.b.fld .ldr LDR.RCVD_LO = s.rcvd + bytes.length ∧ t.b.bit .ldr LDR.STATE_DLV_BUSY = false) ∧
      (bytes.length = s.ldr.len → ∀ h, s.ldr.hdr = some h → h.total < s.rcvd + bytes.length → s.loadAlone →
        Completes (.chunkComplete bytes false) r fun t => t.loadFailed 0x15 (h.total % 2 ^ 32)) ∧
      (bytes.length = s.ldr.len → s.ldr.hdr = none → 256 ≤ s.rcvd + bytes.length → s.loadAlone →
        ∀ e, headerCheck s.b (s.ldr.img ++ bytes) 0 = .error e → e.2 < 2 ^ 32 → e.1 < 256 →
        Completes (.chunkComplete bytes false) r fun t => t.loadFailed e.1 e.2)

/-- 08 R164, R165; 07 R152 to R154, R160: the signature step passes, or fails the image with the first check that does not hold, in the
order of R165: manifest, key, both signatures, rollback, unwrap; a staged segment that is poisoned or whose tag is wrong fails it with 0x20,
and one whose records are in order is taken; the census of a whole, verified image begins its commit or fails it. What rests on the model's
choices: log entries 35, 36, 96, 102. -/
def Obligations.VerificationStepsDecide : Prop :=
  ∀ (r : State) (h : ImgHdr), r.ldr.hdr = some h → r.loadAlone →
    ((r.phase = 1 ∨ r.phase = 2) → segEntry h.segs ≤ r.rcvd → r.ldr.sigOk = false → ∀ sig un, sig = r.b.imgSigFails r.ldr.img h.keyId →
      un = keyUnwrap r.b.imageKey.toNat h.wrapped →
      (manifestOk r.ldr.img h = false → Completes .signatureCheckDone r fun t => t.loadFailed 0x16 0) ∧
      (manifestOk r.ldr.img h = true → r.b.keyOk h.keyId h.kind = false → Completes .signatureCheckDone r fun t => t.loadFailed 0x17 0) ∧
      (manifestOk r.ldr.img h = true → r.b.keyOk h.keyId h.kind = true →
        (sig = some .ed25519 → Completes .signatureCheckDone r fun t => t.loadFailed 0x18 0) ∧
        (sig = some .mldsa65 → Completes .signatureCheckDone r fun t => t.loadFailed 0x19 0) ∧
        (sig = none → h.svn < r.b.fuse.cfgCtr → Completes .signatureCheckDone r fun t => t.loadFailed 0x1A 0) ∧
        (sig = none → r.b.fuse.cfgCtr ≤ h.svn →
          (un = none → Completes .signatureCheckDone r fun t => t.loadFailed 0x1B 0) ∧
          ∀ x, un = some x → r.ldr.stream ≠ none ∨ r.rcvd ≠ h.total → Completes .signatureCheckDone r fun t =>
            t = r.ld fun l => { l with sigOk := true, key0 := BitVec.ofNat 256 (beNat x) }))) ∧
    (∀ i, i = r.ldr.seg → (r.phase = 1 ∨ r.phase = 2) → r.ldr.sigOk = true → i < h.segs →
      segOff r.ldr.img i + segLen r.ldr.img i ≤ r.rcvd → r.stagingWake.stagingReady = true → ∀ x, x = r.stagingWake.segStaged i →
      (x.poison = true ∨ h.segTagOk r.ldr.img r.ldr.key0 i x.bytes = false → i < 2 ^ 32 →
        Completes .segmentVerified r fun t => t.loadFailed 0x20 i) ∧
      (x.poison = false → h.segTagOk r.ldr.img r.ldr.key0 i x.bytes = true → r.ldr.stream ≠ none ∨ r.rcvd ≠ h.total → ∀ y,
        x.s.records h i (segRecs r.ldr.img i) 0 0 ⟨r.ldr.dict, r.ldr.recs⟩ (h.segPlain r.ldr.key0 i x.bytes) = .ok y →
        Completes .segmentVerified r fun t => t = x.s.ld fun l => { l with dict := y.dict, recs := y.recs, seg := i + 1 })) ∧
    (r.phase = 2 → r.ldr.sigOk = true → r.ldr.seg = h.segs → r.ldr.stream = some true →
      (r.finalChecks h = .ok () → towers.any r.reencoding = true → Completes .censusDone r fun t => t = r) ∧
      (r.finalChecks h = .ok () → towers.any r.reencoding = false → h.kind < 3 →
        (∀ u ∈ h.towers, (planTower h r.ldr.recs u).isEmpty = false) →
        Completes .censusDone r fun t => t.phase = 3 ∧ t.ldr.towers = h.towers ∧
          (∀ u ∈ h.towers, t.b.bit (cfgPage u) CFG.STAT_WRITING = true ∧ t.ldr.planOf u = planTower h r.ldr.recs u) ∧
          (∀ c ∈ maskCtxs h.ctxSet, nbit (t.b.fld .ldr LDR.CONTENT_CTX) c = false ∧ ∀ k : Tower, t.b.we k c = false) ∧ t.cfg.store = r.cfg.store) ∧
      (∀ u e, r.finalChecks h = .error (u, e) → e.1 < 256 → e.2 < 2 ^ 32 → Completes .censusDone r fun t => t.loadFailed e.1 e.2))

/-- 08 R166, R170, R174, R175, R177: when every tower has finished and every staged segment verifies again, a commit records the committed
contexts, code 1 and LOAD_DONE, and fails else; a delivery that stalls fails as TRUNCATED; ABORT discards an image but not a commit; GOLDEN
begins the golden sequence, or waits for a commit; when the window ends a host load runs on, and else the golden sequence begins. What rests
on the model's choices: log entries 38, 39, 94. -/
def Obligations.LoaderCommandsAndWindow : Prop :=
  (∀ r : State,
    (∀ h, r.ldr.hdr = some h → r.phase = 3 → r.ldr.towers = [] → towers.all (fun k => !wantsShell (r.ch k).want) = true → r.loadAlone →
      r.stagingWake.stagingReady = true → ∀ s e, s = (r.stagingWake.allAgain h).1 → e = (r.stagingWake.allAgain h).2 →
      (∀ x, e = some x → x < 256 → Completes .commitComplete r fun t => t.loadFailed x 0) ∧
      (e = none → h.ctxSet < 256 → Completes .commitComplete r fun t => t.phase = 0 ∧ t.ldr.hdr = none ∧ t.b.fld .ldr LDR.STATUS_CODE = 1 ∧
        t.b.fld .ldr LDR.STATUS_CTX_SET = h.ctxSet ∧ t.b.fld .ldr LDR.CONTENT_CTX = s.b.fld .ldr LDR.CONTENT_CTX ||| h.ctxSet ∧
        t.b.fld .ldr LDR.STATE_BARE = 0 ∧ t.b.word (pbase .ldr + 0x14) &&& evt 8 = evt 8 ∧
        ∀ k : Tower, t.b.fld (.cfg k) CFG.RB_PERMIT_CTX = (if h.rbPermit then s.b.fld (.cfg k) CFG.RB_PERMIT_CTX ||| h.ctxSet
          else s.b.fld (.cfg k) CFG.RB_PERMIT_CTX &&& (255 - h.ctxSet)))) ∧
    (r.phase = 1 → r.loadSrc = 0 → r.b.bit .ldr LDR.STATE_DLV_BUSY = false → r.b.fld .ldr LDR.DLV_TIMEOUT_MS_MS ≠ 0 → r.loadAlone →
      Completes .dlvTimeout r fun t => t.loadFailed 0x25 (r.rcvd % 2 ^ 32)) ∧
    (r.b.fld .ldr LDR.STATE_WSTATE = 1 → r.phase ≠ 0 → r.loadSrc = 0 → Completes .loadWindowExpiry r fun t =>
      t = r.ld fun l => { l with winDue := true }) ∧
    (r.b.fld .ldr LDR.STATE_WSTATE = 1 → r.phase = 0 → Completes .loadWindowExpiry r fun t => t.b.fld .ldr LDR.STATE_WSTATE = 3 ∧
      t.phase = 1 ∧ t.loadSrc = 1 ∧ t.ldr.golden = true ∧ t.b.word (pbase .ldr + 0x14) = r.b.word (pbase .ldr + 0x14) ||| evt 10)) ∧
  ∀ r : State, r.admits .ldr → ∀ s, s = r.maWake .ldr →
    (s.phase = 0 → Completes .abort r fun t => t = s) ∧ (s.phase = 3 → Completes .abort r fun t => t = s.ldrEvent 14) ∧
    (s.phase ≠ 0 → s.phase ≠ 3 → s.loadAlone → Completes .abort r fun t => t.loadFailed 0x30 0) ∧
    (s.phase = 3 → Completes .golden r fun t => t = s.ld fun l => { l with goldenNext := true }) ∧
    (s.phase ≠ 3 → s.loadAlone → Completes .golden r fun t => t.phase = 1 ∧ t.loadSrc = 1 ∧ t.ldr.golden = true ∧
      t.b.bit .ldr LDR.STATE_DLV_BUSY = true ∧ t.ldr.img = [] ∧ t.b.out.getLast? = some (.flashRead 0x02000000 (80 * 2 ^ 20)))

/-! ### Ponds (09) and arbiters (15) -/

/-- 09 R185, R190, R193, R198, R200; 14 R300: while the clock runs, the one pond port that samples a request writes a whole block of the pad
it owns, storing both rows with their codes and presenting WACK, or reads what the rows decode to; a LAME port, and one that does not own
the pad, changes no row and gets ERR, logged with its event; a request to a pad under BIST or ZERO waits. Every row not addressed is
unchanged. With the root clock gated nothing is sampled. B_STARVE raises its event where STARVE.CYC is not 0. What rests on the model's
choices: log entries 12, 43, 108. -/
def Obligations.PondPortReadsAndWrites : Prop :=
  ∀ (s : State) (p : Fin 128) (ports : BitVec 24) (qs : List PondReq),
    qs = ((List.finRange 24).filter fun (i : Fin 24) => ports.getLsbD i && s.portSampled p i).filterMap (s.pondSample p) →
    (∀ w, s.b.gated = true → Completes (.pondPortRequest p ports w) s fun t => t = s) ∧
    (s.b.gated = false → qs = [] → Completes (.pondPortRequest p ports none) s fun t => t = s) ∧
    (∀ q, s.b.gated = false → qs = [q] → s.ponds.waitingA p = [] →
      (s.b.pondUp p = true → nbit (s.b.fld (.pnd p) PND.LAMEPP_PORT) q.port = false → s.b.entitled p q.port q.pad = true →
        (s.ponds.held p q.pad = true → Completes (.pondPortRequest p ports none) s fun t => t = { s with b := t.b, ponds := t.ponds } ∧
          t.ponds = { s.ponds with waitA := t.ponds.waitA } ∧ t.ponds.waitingA p = [(q, true)] ∧ t.b.out = s.b.out) ∧
        (s.ponds.held p q.pad = false → q.write = true → q.be = BitVec.allOnes 64 → q.poison = false →
          Completes (.pondPortRequest p ports none) s fun t =>
            t.ponds.mem.row (32 * p.val + q.pad.val) (2 * q.block.val) = rowMerge (s.ponds.mem.row (32 * p.val + q.pad.val) (2 * q.block.val)) (half q.data 0) (BitVec.allOnes 32) ∧
            t.ponds.mem.row (32 * p.val + q.pad.val) (2 * q.block.val + 1) =
              rowMerge (s.ponds.mem.row (32 * p.val + q.pad.val) (2 * q.block.val + 1)) (half q.data 1) (BitVec.allOnes 32) ∧
            (∀ pad row : Nat, row < 8192 → ¬ (pad = 32 * p.val + q.pad.val ∧ row / 2 = q.block.val) → t.ponds.mem.row pad row = s.ponds.mem.row pad row) ∧
            t.b.out.getLast? = some (.pond (24 * p.val + q.port.val) 2 0 false) ∧ t = { s with b := t.b, ponds := t.ponds, fab := t.fab }) ∧
        (s.ponds.held p q.pad = false → q.write = false → Completes (.pondPortRequest p ports none) s fun t => t.ponds.mem = s.ponds.mem ∧
          t = { s with b := t.b, ponds := t.ponds, fab := t.fab } ∧
          t.b.out.getLast? = some (.pond (24 * p.val + q.port.val) 1
            (joinHalves (rowDecode (s.ponds.mem.row (32 * p.val + q.pad.val) (2 * q.block.val))).1
              (rowDecode (s.ponds.mem.row (32 * p.val + q.pad.val) (2 * q.block.val + 1))).1)
            ((rowDecode (s.ponds.mem.row (32 * p.val + q.pad.val) (2 * q.block.val))).2 ||
              (rowDecode (s.ponds.mem.row (32 * p.val + q.pad.val) (2 * q.block.val + 1))).2)))) ∧
      (nbit (s.b.fld (.pnd p) PND.LAMEPP_PORT) q.port = true ∨ s.b.pondUp p = false ∨ s.b.entitled p q.port q.pad = false →
        Completes (.pondPortRequest p ports none) s fun t => t.ponds = s.ponds ∧ t = { s with b := t.b, fab := t.fab } ∧
          (nbit (s.b.fld (.pnd p) PND.LAMEPP_PORT) q.port = false → s.b.pondUp p = true → t.b.word (evtOf (.pnd p)) &&& evt 9 = evt 9) ∧
          t.b.out.getLast? = some (.pond (24 * p.val + q.port.val) 3 0 false))) ∧
    (s.b.fld (.pnd p) PND.STARVE_CYC = 0 → Completes (.bStarve p) s fun t => t = s) ∧
    (s.b.fld (.pnd p) PND.STARVE_CYC ≠ 0 → Completes (.bStarve p) s fun t => t = { s with b := s.b.event (.pnd p) 11 })

/-- 09 R197, R198: a soft repair that may start takes a free spare in state COPYING, and its end makes it SOFT; one that may not is refused.
BIST and ZERO start only on a pad without owner, port-B access or running command; their end, where nothing waits for it, leaves the pad
zero, every other pad unchanged, and DONE. -/
def Obligations.PondRepairAndCommands : Prop :=
  ∀ (r : State) (p : Fin 128) (pad : Fin 32), (r.admits (.pnd p) → ∀ s, s = r.maWake (.pnd p) →
    (∀ (sub : Fin 4) (col : Fin 512),
      (softRepairOk s.b p pad sub col = false → Completes (.softRepair p pad sub col) r fun t => t = { s with b := t.b } ∧
        s.b.sets t.b [regOf (.pnd p) PND.SR_STAT] ∧ t.b.bit (.pnd p) PND.SR_STAT_REFUSED = true) ∧
      (softRepairOk s.b p pad sub col = true → ∀ k, k = (if spareState (s.b.word (spareAddr p pad sub)) 0 = 0 then 0 else 1) →
        Completes (.softRepair p pad sub col) r fun t => t = { s with b := t.b } ∧
          s.b.sets t.b [regOf (.pnd p) PND.SR_STAT, spareAddr p pad sub] ∧ t.b.bit (.pnd p) PND.SR_STAT_REFUSED = false ∧
          t.b.bit (.pnd p) PND.SR_STAT_DONE = false ∧ t.b.bit (.pnd p) PND.SR_STAT_BUSY = true ∧
          spareState (t.b.word (spareAddr p pad sub)) k = 3 ∧ spareCol (t.b.word (spareAddr p pad sub)) k = col)) ∧
    ∀ c ∈ [(Instr.bist p pad, 1), (.zero p pad, 2)],
      (padFree s.b s.ponds p pad = false → Completes c.1 r fun t => t = { s with b := t.b } ∧
        s.b.sets t.b [regOf (.pnd p) PND.CMD_STAT] ∧ t.b.bit (.pnd p) PND.CMD_STAT_REFUSED = true ∧ t.b.fld (.pnd p) PND.CMD_STAT_PAD = pad) ∧
      (padFree s.b s.ponds p pad = true → Completes c.1 r fun t => t = { s with b := t.b, ponds := t.ponds } ∧
        s.b.sets t.b [regOf (.pnd p) PND.CMD_STAT] ∧ t.b.bit (.pnd p) PND.CMD_STAT_BUSY = true ∧
        t.b.bit (.pnd p) PND.CMD_STAT_DONE = false ∧ t.b.fld (.pnd p) PND.CMD_STAT_PAD = pad ∧ t.ponds.cmdOf p = some ⟨c.2, pad⟩ ∧
        t.ponds.mem = s.ponds.mem)) ∧ ∀ s : State,
    (∀ n sb k, s.canonical → copyingSpare s.b p = some (n, sb, k) → n < 32 → sb < 4 → k < 2 → Completes (.softRepairDone p) s fun t =>
      t = { s with b := t.b, ponds := t.ponds } ∧ spareState (t.b.word (spareAddr p n sb)) k = 2 ∧
        spareCol (t.b.word (spareAddr p n sb)) k = spareCol (s.b.word (spareAddr p n sb)) k ∧ t.b.bit (.pnd p) PND.SR_STAT_BUSY = false ∧
        t.b.bit (.pnd p) PND.SR_STAT_DONE = true ∧ t.b.word (evtOf (.pnd p)) = s.b.word (evtOf (.pnd p)) ||| evt 15 ∧
        ∀ d row : Nat, row < 8192 → t.ponds.mem.row d row = if d = 32 * p.val + n ∧ row % 4 = sb
          then fixColumn (s.ponds.mem.row d row) (spareCol (s.b.word (spareAddr p n sb)) k) else s.ponds.mem.row d row) ∧
    (copyingSpare s.b p = none → Completes (.softRepairDone p) s fun t => t = s) ∧
    (s.ponds.cmdOf p = none → ∀ fails, Completes (.padCmdDone p fails) s fun t => t = s) ∧
    ∀ (c : PadCmd) (fails : List (Fin 4 × Fin 416)), s.ponds.cmdOf p = some c → s.ponds.waitingA p = [] → (s.gko.at p).stall = none →
      (∀ f ∈ s.hop.heldFlits, f.dom ≠ .pad p ⟨c.pad % 32, Nat.mod_lt _ (by decide)⟩) → Completes (.padCmdDone p fails) s fun t =>
      t = { s with b := t.b, ponds := t.ponds } ∧ t.ponds.cmdOf p = none ∧ t.b.bit (.pnd p) PND.CMD_STAT_BUSY = false ∧
        t.b.bit (.pnd p) PND.CMD_STAT_DONE = true ∧ t.b.word (evtOf (.pnd p)) = s.b.word (evtOf (.pnd p)) ||| evt 14 ∧
        (c.op = 1 → t.b.bit (.pnd p) PND.CMD_STAT_BIST_FAIL = !fails.isEmpty) ∧
        ∀ d row : Nat, row < 8192 → t.ponds.mem.row d row = if d = 32 * p.val + c.pad then 0 else s.ponds.mem.row d row

/-- 09 R199, R201; 23 R471: patrol writes its row back repaired, skips a sleeping or held pad, and moves on; a pad group sleeps where it is
permitted to; RAW access stores the row and check bits as written, or reads them undecoded, and is refused without RAW. What rests on the
model's choices: log entries 5, 107. -/
def Obligations.PatrolSleepAndRaw : Prop :=
  ∀ (s : State) (p : Fin 128) (n row : Nat),
    (s.b.fld (.pnd p) PND.PATROL_MS = 0 → Completes (.patrolRow p) s fun t => t = s) ∧
    (s.b.fld (.pnd p) PND.PATROL_MS ≠ 0 → n = s.b.fld (.pnd p) PND.PATROL_POS_PAD → row = s.b.fld (.pnd p) PND.PATROL_POS_ROW →
      Completes (.patrolRow p) s fun t => t = { s with b := t.b, ponds := t.ponds } ∧
        (∀ d x : Nat, x < 8192 → t.ponds.mem.row d x = if d = 32 * p.val + n ∧ x = row ∧ s.b.groupAsleep p n = false ∧ s.ponds.held p n = false
          then patrolFix (s.ponds.mem.row d x) else s.ponds.mem.row d x) ∧
        (row + 1 < 8192 → t.b.fld (.pnd p) PND.PATROL_POS_ROW = row + 1 ∧ t.b.fld (.pnd p) PND.PATROL_POS_PAD = n) ∧
        (row + 1 = 8192 → t.b.fld (.pnd p) PND.PATROL_POS_ROW = 0 ∧ t.b.fld (.pnd p) PND.PATROL_POS_PAD = (n + 1) % 32) ∧
        (row + 1 = 8192 → n + 1 = 32 → t.b.word (evtOf (.pnd p)) &&& evt 12 = evt 12)) ∧
    (∀ g : Fin 4, (s.b.bit (.pnd p) HDR.BLK_CTRL_SLEEP_PERMIT && nbit (s.b.fld (.pnd p) PND.GSLEEP_PERMIT) g) = true →
      Completes (.padGroupSleep p g) s fun t => t = { s with b := t.b } ∧ s.b.sets t.b [regOf (.pnd p) PND.GSLEEP] ∧
        s.b.put t.b (.pnd p) PND.GSLEEP_ASLEEP (nset (s.b.fld (.pnd p) PND.GSLEEP_ASLEEP) g)) ∧
    (s.admits (.pnd p) → ∀ u, u = s.maWake (.pnd p) →
      (padRawRefused u.b u.ponds p = true → ∀ c ∈ [Instr.padRawWrite p, .padRawRead p], Completes c s fun t =>
        t = { u with b := t.b } ∧ u.b.sets t.b [regOf (.pnd p) PND.RAW_STAT] ∧ t.b.bit (.pnd p) PND.RAW_STAT_REFUSED = true) ∧
      (padRawRefused u.b u.ponds p = false → ∀ pad r, pad = 32 * p.val + u.b.fld (.pnd p) PND.RAW_ADDR_PAD →
        r = u.b.fld (.pnd p) PND.RAW_ADDR_ROW →
        Completes (.padRawWrite p) s (fun t => t = { u with b := t.b, ponds := t.ponds } ∧ t.b.bit (.pnd p) PND.RAW_STAT_DONE = true ∧
          t.b.bit (.pnd p) PND.RAW_STAT_REFUSED = false ∧ u.b.keeps t.b [regOf (.pnd p) PND.RAW_STAT, regOf (.pnd p) PND.GSLEEP, evtOf (.pnd p)] ∧
          t.b.groupAsleep p (u.b.fld (.pnd p) PND.RAW_ADDR_PAD) = false ∧
          ∀ d x : Nat, x < 8192 → t.ponds.mem.row d x = if d = pad ∧ x = r then rawRow u.b (.pnd p) else s.ponds.mem.row d x) ∧
        Completes (.padRawRead p) s fun t => t = { u with b := t.b } ∧ t.b.bit (.pnd p) PND.RAW_STAT_DONE = true ∧
          rawRow t.b (.pnd p) = s.ponds.mem.row pad r))

/-- 15 R308, R309, R311, R312, R314: while a group's clock stands still neither a boundary nor a grant happens; else at a window boundary a
pending commit's weights take effect first, then every counter becomes the smaller of credit and weight plus the weight; with a window of 0
nothing happens. A grant goes to the requester with the largest credit, the first upward from the last winner among equals, and costs it one
credit; no register changes. What rests on the model's choices: log entries 9, 113. -/
def Obligations.ArbitersRefillAndGrant : Prop :=
  ∀ (s : State) (g : ArbGroup) (a : ArbInst) (reqs : BitVec 32),
    (s.arbStill g = true → Completes (.arbiterWindow g) s fun t => t = s) ∧
    (s.arbStill (instGroup a) = true → Completes (.arbiterGrant a reqs) s fun t => t = s) ∧
    (s.arbStill g = false →
      (s.b.arbPending g = false → s.b.arbWindow g = 0 → Completes (.arbiterWindow g) s fun t => t = s) ∧
      (s.b.arbPending g = false → s.b.arbWindow g ≠ 0 → Completes (.arbiterWindow g) s fun t => t = { s with arb := t.arb } ∧
        (∀ k ∈ grpKeys g, (arbAt t.arb k).last = (arbAt s.arb k).last ∧ (arbAt t.arb k).cred.length = (arbAt s.arb k).cred.length ∧
          ∀ r, r < (arbAt s.arb k).cred.length → (arbAt t.arb k).cred.getD r 0 =
            Nat.min ((arbAt s.arb k).cred.getD r 0) (s.b.arbWeight g r) + s.b.arbWeight g r) ∧
        ∀ k, k ∉ grpKeys g → arbAt t.arb k = arbAt s.arb k) ∧
      (s.b.arbPending g = true → Completes (.arbiterWindow g) s fun t => t = { s with b := t.b, arb := t.arb } ∧
        t.b.arbPending g = false ∧ t.b.arbWindow g = wget (s.b.shWord (pbase (grpPage g) + grpOff g)) 15 0 ∧
        ∀ k ∈ grpKeys g, ∀ r, r < (arbAt s.arb k).cred.length → (arbAt t.arb k).cred.getD r 0 =
            Nat.min ((arbAt s.arb k).cred.getD r 0) (t.b.arbWeight g r) + t.b.arbWeight g r)) ∧
    (s.arbStill (instGroup a) = false → ∀ x : Arb, x = arbAt s.arb (instKey a) →
      (x.winner (s.b.arbWindow (instGroup a) != 0) (fun r => reqs.getLsbD r) = none → Completes (.arbiterGrant a reqs) s fun t =>
        t = { s with arb := t.arb } ∧ arbAt t.arb (instKey a) = { x with holder := none }) ∧
      ∀ w, x.winner (s.b.arbWindow (instGroup a) != 0) (fun r => reqs.getLsbD r) = some w → Completes (.arbiterGrant a reqs) s fun t =>
        t = { s with b := s.b.send (.grant (instKey a) w), arb := t.arb } ∧ reqs.getLsbD w = true ∧ (arbAt t.arb (instKey a)).last = w ∧
        (∀ k, k ≠ instKey a → arbAt t.arb k = arbAt s.arb k) ∧
        (s.b.arbWindow (instGroup a) = 0 → (arbAt t.arb (instKey a)).cred = x.cred) ∧
        (s.b.arbWindow (instGroup a) ≠ 0 → (∀ r, r < x.cred.length → reqs.getLsbD r = true → x.cred.getD r 0 ≤ x.cred.getD w 0) ∧
          ∀ r, r < x.cred.length → (arbAt t.arb (instKey a)).cred.getD r 0 = if r = w then x.cred.getD r 0 - 1 else x.cred.getD r 0))

/-! ### Spawn queues (10) -/

/-- 10 R207, R209, R211, R212, R214, R215: a PUSH stores its items at WRITE_D and answers OK, or all of it is refused with QFULL; a POP of a
cached item answers it and advances READ_D; one of an empty queue answers the last value with UNDERRUN; POP_ST adds the status word; a POP
of an item that is not cached waits. A disabled page and the fence refuse, and no queue but the named one changes. No operation comes with a
tag that is not its initiator's (05 R107). What rests on the model's choices: log entries 45, 46. -/
def Obligations.QueuePushAndPop : Prop :=
  ∀ (s : State) (q : QueueNo) (w : Who) (items : List (BitVec 64)) (po : Bool) (x : Queue), x = queueAt s.que q →
    (s.b.tagOk w.src w.priv w.ctx = false →
      ∀ c ∈ [Instr.push q w items po, .pop q w, .popSt q w, .status q w, .mark q w, .rewind q w, .release q w 1, .clear q w],
      Completes c s fun t => t = s) ∧
    (s.b.tagOk w.src w.priv w.ctx = true →
    (4 < items.length → Completes (.push q w items po) s fun t => t.answered w (rspStatus stUNSUPPORTED) ∧ t.que = s.que) ∧
    (s.b.enabled (quePage q) = false → ∀ c ∈ [Instr.pop q w, .popSt q w, .status q w, .mark q w, .rewind q w, .clear q w], Completes c s fun t =>
      t.answered w (rspStatus stDISABLED) ∧ t = { s with b := t.b }) ∧
    (s.b.enabled (quePage q) = true → w.priv = false → s.b.flrCtx w.ctx = false → x.ctx ≠ w.ctx.val → Completes (.pop q w) s fun t =>
      t.answered w (rspStatus stFENCE) ∧ t = { s with b := t.b } ∧ t.b.word (evtOf (quePage q)) &&& evt 12 = evt 12) ∧
    (s.doorbellOpen q w →
      (1 ≤ items.length → items.length ≤ 4 → x.fault = false → items.length ≤ x.freeSlots → x.noRoom items.length = false →
        Completes (.push q w items po) s fun t => t = { s with b := t.b, que := t.que } ∧ t.answered w (rspStatus stOK) ∧
          (queueAt t.que q).writeD = x.writeD + items.length ∧ (queueAt t.que q).readD = x.readD ∧
          (∀ i v, items[i]? = some v → ((queueAt t.que q).cached (x.dpa (x.writeD + i))).map QItem.val = some v) ∧
          t.b.fld (quePage q) QUE.PUSH_CNT = satAdd (2 ^ 32 - 1) (s.b.fld (quePage q) QUE.PUSH_CNT) items.length ∧
          ∀ k, k ≠ q.val → queueAt t.que k = queueAt s.que k) ∧
      (1 ≤ items.length → items.length ≤ 4 → x.fault = false → x.freeSlots < items.length → Completes (.push q w items po) s fun t =>
        t.answered w (rspStatus stQFULL) ∧ (∀ k, queueAt t.que k = queueAt s.que k) ∧
          t.b.fld (quePage q) QUE.QFULL_CNT = satAdd (2 ^ 32 - 1) (s.b.fld (quePage q) QUE.QFULL_CNT) 1) ∧
      (x.avail = 0 → Completes (.pop q w) s (fun t => t.answered w (qData 0x20 x.last x.lastP) ∧
          t.b.word (evtOf (quePage q)) = s.b.word (evtOf (quePage q)) ||| evt 9 ∧ queueAt t.que q = { x with underrun := true } ∧
          ∀ k, k ≠ q.val → queueAt t.que k = queueAt s.que k) ∧
        Completes (.popSt q w) s fun t => t.answered w (qData2 x.last (Queue.status { x with underrun := true }) x.lastP)) ∧
      (∀ i, x.avail ≠ 0 → x.fault = false → x.cached (x.dpa x.readD) = some i → i.flip = false → SMap.get (fun _ => false) x.bad (x.dpa x.readD) = false →
        Completes (.pop q w) s (fun t => t = { s with b := t.b, que := t.que } ∧ t.answered w (qData 0x20 i.val i.poison) ∧
          (queueAt t.que q).readD = x.readD + 1 ∧ (queueAt t.que q).writeD = x.writeD ∧ (queueAt t.que q).last = i.val ∧
          ∀ k, k ≠ q.val → queueAt t.que k = queueAt s.que k) ∧
        Completes (.popSt q w) s fun t => (queueAt t.que q).readD = x.readD + 1 ∧
          t.answered w (qData2 i.val (queueAt t.que q).status i.poison)) ∧
      (x.avail ≠ 0 → x.fault = false → x.cached (x.dpa x.readD) = none → Completes (.pop q w) s fun t =>
        queueAt t.que q = { x with wait := [⟨some w, .pop⟩] } ∧ t.b.out = s.b.out ∧ ∀ a, t.b.word a = s.b.word a)))

/-- 10 R207, R213: STATUS answers the status word and changes no queue; MARK remembers READ_D, REWIND returns to it, RELEASE frees popped
items and no more, clamping with RELCLAMP, CLEAR clears UNDERRUN and RELCLAMP; each is answered OK and leaves every other queue. 10 R215,
R217, R218, R224: the engine writes a due block of the tail cache to the body, whose slots then need no write, while a faulty queue writes
nothing and one whose memory cannot answer yet waits; a body read for the waiting POP completes it with the item of its slot; an engine
without waiting operations sleeps once its tail caches are written. What rests on the model's choices: log entry 44. -/
def Obligations.QueueMarksReleasesAndEngine : Prop :=
  (∀ (s : State) (q : QueueNo) (w : Who) (n : Word) (x : Queue), x = queueAt s.que q → s.doorbellOpen q w →
    s.b.tagOk w.src w.priv w.ctx = true →
    (Completes (.status q w) s fun t => t.answered w (qData 0x28 x.status false) ∧ (∀ k, queueAt t.que k = queueAt s.que k) ∧
      ∀ a, t.b.word a = s.b.word a) ∧
    (Completes (.mark q w) s fun t => t.answered w (rspStatus stOK) ∧ (∀ k, k ≠ q.val → queueAt t.que k = queueAt s.que k) ∧
      queueAt t.que q = (if x.len = 0 then x else { x with markD := x.readD }) ∧ ∀ a, t.b.word a = s.b.word a) ∧
    (Completes (.rewind q w) s fun t => t.answered w (rspStatus stOK) ∧ (∀ k, k ≠ q.val → queueAt t.que k = queueAt s.que k) ∧
      queueAt t.que q = if x.len = 0 then x else { x with readD := x.markD }) ∧
    (Completes (.clear q w) s fun t => t.answered w (rspStatus stOK) ∧ (∀ k, k ≠ q.val → queueAt t.que k = queueAt s.que k) ∧
      queueAt t.que q = { x with underrun := false, relclamp := false } ∧ ∀ a, t.b.word a = s.b.word a) ∧
    (x.len ≠ 0 → n ≠ 0 → Completes (.release q w n) s fun t => t.answered w (rspStatus stOK) ∧
      (∀ k, k ≠ q.val → queueAt t.que k = queueAt s.que k) ∧ (queueAt t.que q).rel = (x.rel + Nat.min n.toNat x.readD) % x.len ∧
      (queueAt t.que q).readD = x.readD - Nat.min n.toNat x.readD ∧ (queueAt t.que q).markD = x.markD - Nat.min n.toNat x.readD ∧
      (queueAt t.que q).writeD = x.writeD - Nat.min n.toNat x.readD ∧
      (queueAt t.que q).relclamp = (x.relclamp || decide (x.readD < n.toNat)) ∧
      (x.readD < n.toNat → t.b.word (evtOf (quePage q)) = s.b.word (evtOf (quePage q)) ||| evt 10)) ∧
    (x.len = 0 ∨ n = 0 → Completes (.release q w n) s fun t => t.answered w (rspStatus stOK) ∧ ∀ k, queueAt t.que k = queueAt s.que k)) ∧
  (∀ (s : State) (q : QueueNo) (x : Queue) (y : State × HopRsp), x = queueAt s.que q →
    (x.fault = true ∨ x.dueBlock x.mustMakeRoom = none → Completes (.bodyWrite q) s fun t => t = s) ∧
    (∀ b e, x.fault = false → x.dueBlock x.mustMakeRoom = some b → s.access (q / 16384) (x.blockReq q b) true = .error e →
      Completes (.bodyWrite q) s fun t => t = s.await e) ∧
    (∀ b, x.fault = false → x.wait = [] → SMap.rising 0 x.cache = true → x.dueBlock false = some b → s.access (q / 16384) (x.blockReq q b) true = .ok y →
      y.2.status = stOK → Completes (.bodyWrite q) s fun t => (queueAt t.que q).writeD = x.writeD ∧ (queueAt t.que q).readD = x.readD ∧
        (∀ a ∈ x.blockSlots b, (queueAt t.que q).cached a = none) ∧ t.ponds = y.1.ponds ∧ t.gdr = y.1.gdr ∧ (queueAt t.que q).fault = false) ∧
    (∀ w, x.wait = [⟨some w, .pop⟩] → x.avail ≠ 0 → x.cached (x.dpa x.readD) = none → x.fault = false → qAsleep s.b q = false →
      s.access (q / 16384) (x.readReq q) false = .ok y → y.2.isData = true → Completes (.bodyReadDone q) s fun t =>
        (queueAt t.que q).readD = x.readD + 1 ∧ (queueAt t.que q).wait = [] ∧
        (queueAt t.que q).last = (y.2.data >>> (8 * (x.dpa x.readD % 64))).setWidth 64 ∧
        t.answered w (qData 0x20 (queueAt t.que q).last (queueAt t.que q).lastP)) ∧
    (x.wait = [] → Completes (.bodyReadDone q) s fun t => t = s) ∧
    ∀ k : Tower, s.b.bit (.que k) HDR.BLK_CTRL_SLEEP_PERMIT = true → s.b.fld (.que k) HDR.BLK_STAT_STATE = stActive →
      (∀ n ∈ towerQueues s k, (queueAt s.que n).wait = []) →
      (∀ e, drainTower s k = .error e → Completes (.queueEngineSleep k) s fun t => t = s.await e) ∧
      (∀ u, drainTower s k = .ok u → Completes (.queueEngineSleep k) s fun t => t = { u with b := u.b.setState (.que k) stAsleep }) ∧
      ((∀ n ∈ towerQueues s k, (queueAt s.que n).dirtySlots = []) → Completes (.queueEngineSleep k) s fun t => t = { s with b := t.b } ∧
        s.b.sets t.b [regOf (.que k) HDR.BLK_STAT_STATE] ∧ s.b.shows t.b (.que k) stAsleep))

/-- 10 R210, R220 to R222: writes to the QUE page act on the queue that Q_SEL names and no other: LEVEL takes effect without an event; GO
makes a change of bounds pending or rejects it, CANCEL abandons it, it takes effect when the occupied span fits; FLUSH empties the queue
without writing the body; PFLIP acts only with RAW. -/
def Obligations.QueuePageCommands : Prop :=
  ∀ (r : State) (k : Tower) (v : Word), (r.admits (.que k) → ∀ (s : State) (q : Nat) (x : Queue), s = r.maWake (.que k) → q = s.b.qSel k → x = queueAt s.que q →
    (Completes (.qLevelWrite k v) r fun t => t = { s with b := t.b, que := t.que } ∧ t.b.regs = s.b.regs ∧
      queueAt t.que q = { x with level := v.toNat % 2 ^ 28 } ∧ ∀ j, j ≠ q → queueAt t.que j = queueAt s.que j) ∧
    (x.pend = true → Completes (.qGo k) r fun t => t = s) ∧
    (x.pend = false → ((x.shLen ≠ 0 ∧ ¬ bodyOk k x.shBase x.shLen) ∨ (x.shCtx ≠ x.ctx ∧ x.writeD ≠ 0)) → Completes (.qGo k) r fun t =>
      t = { s with b := s.b.event (.que k) 14, que := t.que } ∧ queueAt t.que q = { x with res := 3 } ∧
      ∀ j, j ≠ q → queueAt t.que j = queueAt s.que j) ∧
    (x.pend = false → (x.shLen = 0 ∨ bodyOk k x.shBase x.shLen = true) → (x.shCtx = x.ctx ∨ x.writeD = 0) → Completes (.qGo k) r fun t =>
      t = { s with b := t.b, que := t.que } ∧ queueAt t.que q = { x with pend := true } ∧
      s.b.sets t.b [regOf (.que k) QUE.PEND_CNT_COUNT] ∧ ∀ j, j ≠ q → queueAt t.que j = queueAt s.que j) ∧
    (Completes (.qCancel k) r fun t => t = { s with b := t.b, que := t.que } ∧
      queueAt t.que q = { x with pend := false, res := 2, shBase := x.base, shCtx := x.ctx, shLen := x.len } ∧
      t.b.word (evtOf (.que k)) = s.b.word (evtOf (.que k)) ||| evt 13 ∧ ∀ j, j ≠ q → queueAt t.que j = queueAt s.que j) ∧
    (qAsleep s.b q = false → x.wait = [] → Completes (.flush k) r fun t => t = { s with b := t.b, que := t.que } ∧
      (queueAt t.que q).writeD = 0 ∧ (queueAt t.que q).readD = 0 ∧ (queueAt t.que q).markD = 0 ∧ (queueAt t.que q).cache = [] ∧
      (queueAt t.que q).underrun = false ∧ (queueAt t.que q).fault = false ∧ (∀ a, t.b.word a = s.b.word a) ∧
      ∀ j, j ≠ q → queueAt t.que j = queueAt s.que j) ∧
    (Completes (.pflip k) r fun t => t = { s with que := t.que } ∧ (∀ j, j ≠ q → queueAt t.que j = queueAt s.que j) ∧
      queueAt t.que q = if s.b.bit (.que k) HDR.ERR_CFG_RAW then { x with pflip := true } else x)) ∧
    ∀ (s : State) (n : QueueNo) (y : Queue), y = queueAt s.que n →
      ((y.pend && y.fits) = false → Completes (.queueBoundsApply n) s fun t => t = s) ∧
      ((y.pend && y.fits) = true → Completes (.queueBoundsApply n) s fun t => (queueAt t.que n).base = y.shBase ∧
        (queueAt t.que n).len = y.shLen ∧ (queueAt t.que n).ctx = y.shCtx ∧ (queueAt t.que n).pend = false ∧ (queueAt t.que n).res = 1 ∧
        (queueAt t.que n).readD = y.readD ∧ (queueAt t.que n).writeD = y.writeD ∧ (queueAt t.que n).fault = false ∧
        (y.writeD ≠ 0 → y.base + 8 * y.rel = y.shBase + 8 * ((y.base + 8 * y.rel - y.shBase) / 8) →
          (queueAt t.que n).base + 8 * (queueAt t.que n).rel = y.base + 8 * y.rel) ∧
        t.b.word (evtOf (quePage n)) = s.b.word (evtOf (quePage n)) ||| evt 13 ∧ ∀ j, j ≠ n.val → queueAt t.que j = queueAt s.que j)

/-! ### Geckos (11, 12, 13) -/

/-- 11 R233; 12 R246, R249, R250: a scalar instruction gives its destination the value of the table, S0 discarding it; mov carries the tag;
a tagged operand of the others raises POISON and a shift count above 31 raises ILLEGAL, and then nothing but the exception registers
changes. What rests on the model's choices: log entries 47, 48, 49. -/
def Obligations.ScalarInstructions : Prop :=
  ∀ (s : State) (g : Fin 128) (d a c : Fin 32) (i : BitVec 16) (k : Gecko), k = s.gko.at g → s.gkReady g →
    (k.sTag a = false → k.sTag c = false → ∀ e ∈ [(Instr.add g d a c 0 0 0, k.sreg a + k.sreg c), (.sub g d a c 0 0 0, k.sreg a - k.sreg c),
        (.and g d a c 0 0 0, k.sreg a &&& k.sreg c), (.or g d a c 0 0 0, k.sreg a ||| k.sreg c), (.xor g d a c 0 0 0, k.sreg a ^^^ k.sreg c),
        (.sll g d a c 0 0 0, k.sreg a <<< (k.sreg c).extractLsb' 0 5), (.srl g d a c 0 0 0, k.sreg a >>> (k.sreg c).extractLsb' 0 5),
        (.sra g d a c 0 0 0, (k.sreg a).sshiftRight ((k.sreg c).extractLsb' 0 5).toNat), (.mul g d a c 0 0 0, k.sreg a * k.sreg c),
        (.slt g d a c 0 0 0, if (k.sreg a).slt (k.sreg c) then 1 else 0), (.sltu g d a c 0 0 0, if (k.sreg a).ult (k.sreg c) then 1 else 0)],
      Completes e.1 s fun t => s.scalar t g d e.2 false) ∧
    (k.sTag a = false → ∀ e ∈ [(Instr.addi g d a i 0 0 0, k.sreg a + i.signExtend 32), (.andi g d a i 0 0 0, k.sreg a &&& i.setWidth 32),
        (.ori g d a i 0 0 0, k.sreg a ||| i.setWidth 32), (.xori g d a i 0 0 0, k.sreg a ^^^ i.setWidth 32),
        (.slti g d a i 0 0 0, if (k.sreg a).slt (i.signExtend 32) then 1 else 0)], Completes e.1 s fun t => s.scalar t g d e.2 false) ∧
    (k.sTag a = false → i.toNat < 32 → ∀ e ∈ [(Instr.slli g d a i 0 0 0, k.sreg a <<< i.toNat), (.srli g d a i 0 0 0, k.sreg a >>> i.toNat),
        (.srai g d a i 0 0 0, (k.sreg a).sshiftRight i.toNat)], Completes e.1 s fun t => s.scalar t g d e.2 false) ∧
    Completes (.lui g d i 0 0 0) s (fun t => s.scalar t g d (i ++ 0#16) false) ∧
    Completes (.mov g d a 0 0 0) s (fun t => s.scalar t g d (k.sreg a) (k.sTag a)) ∧
    (k.sTag a = true → ∀ e ∈ [Instr.add g d a c 0 0 0, .sub g d c a 0 0 0, .and g d a c 0 0 0, .or g d c a 0 0 0, .xor g d a c 0 0 0,
        .sll g d c a 0 0 0, .srl g d a c 0 0 0, .sra g d c a 0 0 0, .mul g d a c 0 0 0, .slt g d c a 0 0 0, .sltu g d a c 0 0 0,
        .addi g d a i 0 0 0, .andi g d a i 0 0 0, .ori g d a i 0 0 0, .xori g d a i 0 0 0, .slti g d a i 0 0 0],
      Completes e s fun t => s.trapped t g 0 cPOISON 0 (s.b.gkPc g)) ∧
    (32 ≤ i.toNat → ∀ e ∈ [Instr.slli g d a i 0 0 0, .srli g d a i 0 0 0, .srai g d a i 0 0 0],
      Completes e s fun t => s.trapped t g 0 cILLEGAL 0 (s.b.gkPc g))

/-- 11 R233; 12 R251, R252: a taken branch goes to its target and keeps only the loop levels that hold it; jal writes the link; a loop of a
count that is not 0 pushes a level, of 0 goes behind its end, and a fifth level raises LOOP; at the end of a level its bundle is repeated
from the start while its count exceeds 1, and then the level ends. What rests on the model's choices: log entry 47. -/
def Obligations.BranchesAndLoops : Prop :=
  ∀ (s : State) (g : Fin 128) (d a : Fin 32) (n : Fin 16384) (u : Fin 4096) (k : Gecko) (pc : Nat), k = s.gko.at g → pc = s.b.gkPc g → s.gkReady g →
    (let jump := fun (x : Gecko) (v : Nat) (t : State) => s.issued t g (x.keepLevels (x.levelsWith v)) v []
    Completes (.br g u 0 0 0) s (jump k u) ∧
    Completes (.jal g d u 0 0 0) s (jump (k.setS d (w32 ((pc + 1) % 4096)) false) u) ∧
    (k.sTag a = false → Completes (.jr g a 0 0 0) s (jump k ((k.sreg a).toNat % 4096)) ∧
      ∀ e ∈ [(Instr.beqz g a u 0 0 0, decide (k.sreg a = 0)), (.bnez g a u 0 0 0, decide (k.sreg a ≠ 0)),
          (.bltz g a u 0 0 0, decide ((k.sreg a).toInt < 0)), (.bgez g a u 0 0 0, decide (0 ≤ (k.sreg a).toInt))],
        Completes e.1 s fun t => if e.2 then jump k u t else s.issued t g (k.loopEnd pc 8).1 (k.loopEnd pc 8).2 []) ∧
    (pc < u.val → (k.depth = 0 ∨ u.val ≤ (k.loopv 2 (k.depth - 1)).toNat) → k.depth < 4 →
      ∀ e ∈ [(Instr.loopi g n u 0 0 0, w32 n)] ++ (if k.sTag a then [] else [(Instr.loop g a u 0 0 0, k.sreg a)]),
        (e.2 = 0 → Completes e.1 s (jump k ((u.val + 1) % 4096))) ∧
        (e.2 ≠ 0 → Completes e.1 s fun t => (t.gko.at g).depth = k.depth + 1 ∧ (t.gko.at g).loopv 0 k.depth = e.2 ∧
          (t.gko.at g).loopv 1 k.depth = w32 (pc + 1) ∧ (t.gko.at g).loopv 2 k.depth = w32 u ∧
          s.issued t g { k with depth := k.depth + 1, loops := (t.gko.at g).loops } (pc + 1) [] ∧
          ∀ w l, w < 3 → l < k.depth → (t.gko.at g).loopv w l = k.loopv w l))) ∧
    (pc < u.val → (k.depth = 0 ∨ u.val ≤ (k.loopv 2 (k.depth - 1)).toNat) → 4 ≤ k.depth →
      Completes (.loopi g n u 0 0 0) s fun t => s.trapped t g 0 cLOOP 0 pc) ∧
    (u.val ≤ pc → Completes (.loopi g n u 0 0 0) s fun t => s.trapped t g 0 cILLEGAL 0 pc) ∧
    (k.depth = 0 ∨ (k.loopv 2 (k.depth - 1)).toNat ≠ pc → Completes (.loopEnd g) s fun t => t = s) ∧
    (k.depth ≠ 0 → (k.loopv 2 (k.depth - 1)).toNat = pc → gkFetch s.gko g pc = decBundle 0 0 0 0 →
      (1 < (k.loopv 0 (k.depth - 1)).toNat → Completes (.loopEnd g) s fun t =>
        s.issued t g (k.setLoop 0 (k.depth - 1) (k.loopv 0 (k.depth - 1) - 1)) ((k.loopv 1 (k.depth - 1)).toNat % 4096) []) ∧
      ((k.loopv 0 (k.depth - 1)).toNat ≤ 1 → (k.depth = 1 ∨ (k.loopv 2 (k.depth - 2)).toNat ≠ pc) → Completes (.loopEnd g) s fun t =>
        s.issued t g { k with depth := k.depth - 1 } ((pc + 1) % 4096) []))

/-- 11 R232, R235; 12 R245, R253, R254: nop changes nothing but the program counter; mvag writes a shadow of a generator, agc makes the
shadows of the generators it names live, mvga reads a live field; mvgs reads GST; setov writes OVTRAP; wait waits for a low event input;
halt ends in HALTED. What rests on the model's choices: log entries 48, 49, 114. -/
def Obligations.GeckoControlInstructions : Prop :=
  ∀ (s : State) (g : Fin 128) (d a : Fin 32) (n : Fin 8) (f : AgField) (m : BitVec 8) (b : Bool) (e : Fin 4) (slot : Fin 4) (k : Gecko) (pc : Nat),
    k = s.gko.at g → pc = s.b.gkPc g → s.gkReady g →
    (let goes := fun (x : Gecko) (l : List Nat) (t : State) => s.issued t g (x.loopEnd pc 8).1 (x.loopEnd pc 8).2 l
    Completes (.nop g slot 0 0 0) s (goes k []) ∧
    (k.sTag a = false → Completes (.mvag g n f a 0 0 0) s fun t => goes (k.mvag n f (k.sreg a)) [] t ∧ (t.gko.at g).agShadow n f = k.sreg a ∧
      ∀ j h, (t.gko.at g).agv j h = k.agv j h) ∧
    Completes (.mvga g d n f 0 0 0) s (fun t => s.scalar t g d (k.agv n f) false) ∧
    Completes (.agc g m 0 0 0) s (fun t => goes (k.agc m) [] t ∧
      ∀ (j : Fin 8) h, (t.gko.at g).agv j h = (if m.getLsbD j then k.agShadow j h else k.agv j h) ∧ (t.gko.at g).agShadow j h = k.agShadow j h) ∧
    Completes (.mvgs g d 0 0 0) s (fun t => s.scalar t g d (s.b.gst g k) false) ∧
    Completes (.setov g b 0 0 0) s (goes { k with ovtrap := b } []) ∧
    (s.b.geckoLine g e = true → Completes (.wait g e 0 0 0) s (goes { k with waitOn := e } [])) ∧
    (s.b.geckoLine g e = false → Completes (.wait g e 0 0 0) s fun t => goes { k with waitOn := e } [regOf (gkPage g) GKC.STAT] t ∧
      s.b.put t.b (gkPage g) GKC.STAT_RUN rWAITING) ∧
    Completes (.halt g 0 0 0) s (fun t => goes k [regOf (gkPage g) GKC.STAT, evtOf (gkPage g)] t ∧ s.b.put t.b (gkPage g) GKC.STAT_RUN rHALTED ∧
      t.b.word (evtOf (gkPage g)) = s.b.word (evtOf (gkPage g)) ||| evt 9)) ∧
    (k.sTag a = true → Completes (.mvag g n f a 0 0 0) s fun t => s.trapped t g 0 cPOISON 0 pc)

/-- 11 R225, R228, R232, R240; 12 R256 to R258: a load writes its register and tags from the cells of its address, in X memory, Y memory,
pads or the window; pref asks for the line it names and for nothing where the line is held or asked for. Each steps its pointer; a tagged
address register raises POISON and an address that is not aligned raises ADDR, with the slot and the address. What rests on the model's
choices: log entry 51. -/
def Obligations.LoadInstructions : Prop :=
  ∀ (s : State) (g : Fin 128) (y : Bool) (vd : Fin 16) (sd : Fin 32) (a : AddrForm) (k : Gecko) (ad : MemOp → Nat), k = s.gko.at g → s.gkReady g →
    ad = (fun op => (k.address op a).toNat) →
    (∀ c, s.reaches g y (.acc .lds sd a 0) false [c] → Completes (.lds g y sd a 0 0 0) s fun t =>
      s.loaded t g .lds a [c] (k.setS sd (((s.cellData g c).1 >>> (8 * (ad .lds % 32))).setWidth 32) (s.cellData g c).2)) ∧
    (∀ c, s.reaches g y (.acc .ldbh ⟨vd, by omega⟩ a 0) false [c] → Completes (.ldbh g y vd a 0 0 0) s fun t =>
      s.loaded t g .ldbh a [c] (k.setV vd (vecOf false (List.replicate 64 (cellElt (s.cellData g c).1 (ad .ldbh % 32) 2))) (spread (s.cellData g c).2))) ∧
    (∀ c, s.reaches g y (.acc .ldbb ⟨vd, by omega⟩ a 0) false [c] → Completes (.ldbb g y vd a 0 0 0) s fun t =>
      s.loaded t g .ldbb a [c] (k.setV vd (vecOf true (List.replicate 128 (cellElt (s.cellData g c).1 (ad .ldbb % 32) 1))) (spread (s.cellData g c).2))) ∧
    (∀ c0 c1 c2 c3, s.reaches g y (.acc .ldv ⟨vd, by omega⟩ a 0) false [c0, c1, c2, c3] → Completes (.ldv g y vd a 0 0 0) s fun t =>
      let tag := fun c => if (s.cellData g c).2 then BitVec.allOnes 16 else 0#16
      s.loaded t g .ldv a [c0, c1, c2, c3] (k.setV vd ((s.cellData g c3).1 ++ (s.cellData g c2).1 ++ (s.cellData g c1).1 ++ (s.cellData g c0).1)
        (tag c3 ++ tag c2 ++ tag c1 ++ tag c0))) ∧
    (memLegal (.acc .pref 0 a 0) = true → k.addrTag a = false → ∀ l, l = (s.b.fld (gkPage g) GKC.GWIN_BASE * 2 ^ 30 + (ad .pref - 0x40000000)) / 64 →
      Completes (.pref g y a 0 0 0) s fun t => s.loaded t g .pref a []
        (if 0x40000000 ≤ ad .pref ∧ ad .pref < 0x80000000 ∧ (k.line l).isSome = false ∧ k.fills.any (fun f => f.line == l) = false
          then { k with fills := k.fills ++ [⟨l, false, true, none, none⟩] } else k)) ∧
    (∀ e ∈ [(Instr.lds g y sd a 0 0 0, MemSlot.acc .lds sd a 0, ad .lds), (.ldv g y vd a 0 0 0, .acc .ldv ⟨vd, by omega⟩ a 0, ad .ldv),
        (.ldbh g y vd a 0 0 0, .acc .ldbh ⟨vd, by omega⟩ a 0, ad .ldbh), (.ldbb g y vd a 0 0 0, .acc .ldbb ⟨vd, by omega⟩ a 0, ad .ldbb),
        (.pref g y a 0 0 0, .acc .pref 0 a 0, ad .pref)],
      memLegal e.2.1 = true → k.addrTag a = true → Completes e.1 s fun t => s.trapped t g (if y then 2 else 1) cPOISON e.2.2 (s.b.gkPc g)) ∧
    ∀ e ∈ [(Instr.lds g y sd a 0 0 0, ad .lds % 4 ≠ 0, ad .lds), (.ldbh g y vd a 0 0 0, ad .ldbh % 2 ≠ 0, ad .ldbh), (.ldv g y vd a 0 0 0, ad .ldv % 128 ≠ 0, ad .ldv)],
      memLegal (.acc .ldv 0 a 0) = true → k.addrTag a = false → e.2.1 →
        Completes e.1 s fun t => s.trapped t g (if y then 2 else 1) cADDR e.2.2 (s.b.gkPc g)

/-- 11 R232, R240; 12 R256, R257; 13 R273: sts stores its register's word into its cell, a tagged one poisoning the word; stv stores the
lanes its predicate governs, and a predicate of zeros stores nothing; a line stored to becomes Modified. Every other word, row and line is
unchanged. What rests on the model's choices: log entry 53. -/
def Obligations.StoreInstructions : Prop :=
  ∀ (s : State) (g : Fin 128) (y : Bool) (vs : Fin 16) (ss : Fin 32) (p : Fin 8) (a : AddrForm) (k : Gecko) (ad : Nat) (d : BitVec 256) (be : BitVec 32),
    k = s.gko.at g → s.gkReady g → ad = (k.address .sts a).toNat → d = (k.sreg ss).setWidth 256 <<< (8 * (ad % 32)) → be = 15#32 <<< (ad % 32) →
    (∀ w, s.reaches g y (.acc .sts ss a 0) true [.word w] → Completes (.sts g y ss a 0 0 0) s fun t => s.stored t g .sts a ∧ t.ponds = s.ponds ∧
      t.gko.word g w = (if k.sTag ss then rowSetCode (rowMerge (s.gko.word g w) d be) 0 poisonCode else (rowStore (s.gko.word g w) d be false).1) ∧
      (t.gko.at g).cache = k.cache ∧ ∀ j v, v < 16384 → ¬ (j = g.val ∧ v = w) → t.gko.word j v = s.gko.word j v) ∧
    (∀ pad r, s.reaches g y (.acc .sts ss a 0) true [.row pad r] → Completes (.sts g y ss a 0 0 0) s fun t => s.stored t g .sts a ∧ t.gko.mem = s.gko.mem ∧
      (t.gko.at g).cache = k.cache ∧ t.ponds = { s.ponds with mem := t.ponds.mem, aRows := t.ponds.aRows } ∧
      t.ponds.mem.row pad r = (rowStore (s.ponds.mem.row pad r) d be (k.sTag ss)).1 ∧
      ∀ q v, v < 8192 → ¬ (q = pad ∧ v = r) → t.ponds.mem.row q v = s.ponds.mem.row q v) ∧
    (∀ l h c, s.reaches g y (.acc .sts ss a 0) true [.half l h] → k.line l = some c → Completes (.sts g y ss a 0 0 0) s fun t =>
      s.stored t g .sts a ∧ t.gko.mem = s.gko.mem ∧ t.ponds = s.ponds ∧ (t.gko.at g).line l =
        some ⟨3, mergeHalf c.data h d be, c.poison || k.sTag ss⟩ ∧ ∀ j, j ≠ l → (t.gko.at g).line j = k.line j) ∧
    (∀ cs, k.preg p ≠ 0 → s.reaches g y (.acc .stv ⟨vs, by omega⟩ a p) true cs → Completes (.stv g y vs a p 0 0 0) s fun t => s.stored t g .stv a ∧
      (∀ (i : Nat) (c : GCell), cs[i]? = some c → ∃ e : BitVec 32, (∀ n, n < 32 → e.getLsbD n = (k.preg p).getLsbD (16 * i + n / 2)) ∧
        ∀ x tag, x = (k.vreg vs >>> (256 * i)).setWidth 256 → tag = (((k.vTag vs &&& k.preg p) >>> (16 * i)).setWidth 16 != 0#16) → match c with
          | .word w => t.gko.word g w = if tag then rowSetCode (rowMerge (s.gko.word g w) x e) 0 poisonCode else (rowStore (s.gko.word g w) x e false).1
          | .row pad r => t.ponds.mem.row pad r = (rowStore (s.ponds.mem.row pad r) x e tag).1
          | .half l h => ∃ b c, k.line l = some b ∧ (t.gko.at g).line l = some c ∧ c.st = 3 ∧ ∀ n, n < 32 →
              cellElt (half c.data h) n 1 = if e.getLsbD n then cellElt x n 1 else cellElt (half b.data h) n 1) ∧
      (∀ j v, v < 16384 → (j ≠ g.val ∨ .word v ∉ cs) → t.gko.word j v = s.gko.word j v) ∧
      (∀ q v, v < 8192 → .row q v ∉ cs → t.ponds.mem.row q v = s.ponds.mem.row q v) ∧
      ∀ l, (∀ h, .half l h ∉ cs) → (t.gko.at g).line l = k.line l) ∧
    (k.preg p = 0 → ∀ cs, gkCells s.b g y (k.address .stv a).toNat 4 = some cs → memLegal (.acc .stv ⟨vs, by omega⟩ a p) = true → k.addrTag a = false →
      (k.address .stv a).toNat % 128 = 0 → Completes (.stv g y vs a p 0 0 0) s fun t => s.stored t g .stv a ∧ t.gko.mem = s.gko.mem ∧
        t.ponds = s.ponds ∧ (t.gko.at g).cache = k.cache)

/-- 12 R260, R261; 13 R265, R271 to R273: a vector instruction gives each lane its predicate governs the table's result and every other lane
of the destination its old value (vsel: the second source), with the tags of what it copies; a comparison writes a predicate, P0 discarding
it. A consumed tag raises POISON and a shift count beyond the lane raises ILLEGAL, in slot 3. What rests on the model's choices: log entry
49. -/
def Obligations.VectorLanes : Prop :=
  ∀ (s : State) (g : Fin 128) (w sat : Bool) (d a b : Fin 16) (ac : Fin 4) (n : Fin 512) (m : Fin 64) (sa : Fin 32) (pd pa pb p : Fin 8) (k : Gecko)
    (x y : Nat → Int) (kept : BitVec 64), k = s.gko.at g → s.gkReady g → x = signedLane w (k.vreg a) → y = signedLane w (k.vreg b) →
    kept = mixTags (k.preg p) (k.vTag d) 0 →
    ((k.vTag a ||| k.vTag b) &&& k.preg p = 0 →
      (∀ e ∈ [(Instr.vadd g w sat d a b p 0 0 0, fun i => narrow (laneW w) sat (x i + y i)), (.vsub g w sat d a b p 0 0 0, fun i => narrow (laneW w) sat (x i - y i)),
          (.vmin g w d a b p 0 0 0, fun i => ofS (laneW w) (min (x i) (y i))), (.vmax g w d a b p 0 0 0, fun i => ofS (laneW w) (max (x i) (y i))),
          (.vand g w d a b p 0 0 0, fun i => vlane w (k.vreg a &&& k.vreg b) i), (.vor g w d a b p 0 0 0, fun i => vlane w (k.vreg a ||| k.vreg b) i),
          (.vxor g w d a b p 0 0 0, fun i => vlane w (k.vreg a ^^^ k.vreg b) i)],
        Completes e.1 s fun t => s.lanes t g w d p (k.vreg d) e.2 kept) ∧
      (∀ e ∈ [(Instr.vcmpeq g w pd a b p 0 0 0, fun i => decide (x i = y i)), (.vcmplt g w pd a b p 0 0 0, fun i => decide (x i < y i)),
          (.vcmple g w pd a b p 0 0 0, fun i => decide (x i ≤ y i))],
        Completes e.1 s fun t => s.predicate t g pd fun i => (k.preg p).getLsbD i && if w then e.2 (2 * i) && e.2 (2 * i + 1) else e.2 i)) ∧
    (k.vTag a &&& k.preg p = 0 → n.val < laneW w →
      Completes (.vshl g w sat d a n p 0 0 0) s (fun t => s.lanes t g w d p (k.vreg d) (fun i => narrow (laneW w) sat (x i * 2 ^ n.val)) kept) ∧
      Completes (.vsra g w d a n p 0 0 0) s fun t => s.lanes t g w d p (k.vreg d) (fun i => ofS (laneW w) (x i / 2 ^ n.val)) kept) ∧
    (k.aTag ac &&& k.preg p = 0 → m.val < (if w then 20 else 40) → Completes (.vshr g w sat d ac m p 0 0 0) s fun t =>
      s.lanes t g w d p (k.vreg d) (fun i => narrow (laneW w) sat (toS (accW w) (accElt w (k.acc ac) i) / 2 ^ m.val)) kept) ∧
    Completes (.vmov g w d a p 0 0 0) s (fun t => s.lanes t g w d p (k.vreg d) (vlane w (k.vreg a)) (mixTags (k.preg p) (k.vTag d) (k.vTag a))) ∧
    Completes (.vsel g w d a b p 0 0 0) s (fun t => s.lanes t g w d p (k.vreg b) (vlane w (k.vreg a)) (mixTags (k.preg p) (k.vTag b) (k.vTag a))) ∧
    Completes (.vbc g w d sa p 0 0 0) s (fun t => s.lanes t g w d p (k.vreg d) (fun _ => (k.sreg sa).toNat % 2 ^ laneW w)
      (mixTags (k.preg p) (k.vTag d) (if k.sTag sa then BitVec.allOnes 64 else 0))) ∧
    Completes (.pand g pd pa pb 0 0 0) s (fun t => s.predicate t g pd fun i => (k.preg pa).getLsbD i && (k.preg pb).getLsbD i) ∧
    Completes (.predOr g pd pa pb 0 0 0) s (fun t => s.predicate t g pd fun i => (k.preg pa).getLsbD i || (k.preg pb).getLsbD i) ∧
    Completes (.pnot g pd pa 0 0 0) s (fun t => s.predicate t g pd fun i => !(k.preg pa).getLsbD i) ∧
    (k.vTag a &&& k.preg p ≠ 0 → ∀ e ∈ [Instr.vadd g w sat d a b p 0 0 0, .vsub g w sat d b a p 0 0 0, .vmin g w d a b p 0 0 0, .vmax g w d b a p 0 0 0,
        .vand g w d a b p 0 0 0, .vor g w d b a p 0 0 0, .vxor g w d a b p 0 0 0, .vcmpeq g w pd b a p 0 0 0, .vcmplt g w pd a b p 0 0 0,
        .vcmple g w pd b a p 0 0 0] ++ (if n.val < laneW w then [.vshl g w sat d a n p 0 0 0, .vsra g w d a n p 0 0 0] else []),
      Completes e s fun t => s.trapped t g 3 cPOISON 0 (s.b.gkPc g)) ∧
    (laneW w ≤ n.val → ∀ e ∈ [Instr.vshl g w sat d a n p 0 0 0, .vsra g w d a n p 0 0 0], Completes e s fun t => s.trapped t g 3 cILLEGAL 0 (s.b.gkPc g)) ∧
    ((if w then 20 else 40) ≤ m.val → Completes (.vshr g w sat d ac m p 0 0 0) s fun t => s.trapped t g 3 cILLEGAL 0 (s.b.gkPc g))

/-- 13 R267 to R270, R273: vmac, vmsu and vmul give each governed accumulator element the exact sum, saturated or cut to its width, clear
its tag and set the sticky overflow bit of each lane that overflowed; with OVTRAP an overflow also raises OVERFLOW behind the bundle. vclr,
vldac and clrov write what they name and overflow nothing. -/
def Obligations.MultiplyAccumulate : Prop :=
  ∀ (s : State) (g : Fin 128) (w sat : Bool) (d : Fin 4) (a b : Fin 16) (p : Fin 8) (k : Gecko) (x y acc : Nat → Int) (kept : BitVec 64),
    k = s.gko.at g → s.gkReady g → x = signedLane w (k.vreg a) → y = signedLane w (k.vreg b) → acc = (fun i => toS (accW w) (accElt w (k.acc d) i)) →
    kept = mixTags (k.preg p) (k.aTag d) 0 →
    (∀ e ∈ [(Instr.vmac g w sat d a b p 0 0 0, fun i => acc i + x i * y i, k.aTag d), (.vmsu g w sat d a b p 0 0 0, fun i => acc i - x i * y i, k.aTag d),
        (.vmul g w sat d a b p 0 0 0, fun i => x i * y i, 0)],
      (k.vTag a ||| k.vTag b ||| e.2.2) &&& k.preg p = 0 → ∀ o : BitVec 64,
        (∀ i, i < 64 → o.getLsbD i = ((k.preg p).getLsbD i && if w then overflows 20 (e.2.1 (2 * i)) || overflows 20 (e.2.1 (2 * i + 1)) else overflows 40 (e.2.1 i))) →
        (k.ovtrap = false ∨ o = 0 → Completes e.1 s fun t =>
          s.accs t g w d p (fun i => narrow (accW w) sat (e.2.1 i)) kept fun z => z.setOv d (k.ov d ||| o)) ∧
        (k.ovtrap = true → o ≠ 0 → Completes e.1 s fun t => (t.gko.at g).ov d = k.ov d ||| o ∧ t.b.gkRun g = rEXCEPTION ∧
          t.b.fld (gkPage g) GKC.ECAUSE_CAUSE = cOVERFLOW ∧ t.b.fld (gkPage g) GKC.ECAUSE_SLOT = 3 ∧ t.b.fld (gkPage g) GKC.EADDR = 0 ∧
          t.b.gkPc g = (k.loopEnd (s.b.gkPc g) 8).2 ∧ t.b.fld (gkPage g) GKC.EPC_EPC = t.b.gkPc g ∧
          (∀ i, i < laneN w → accElt w ((t.gko.at g).acc d) i =
            if (k.preg p).getLsbD (laneTagIx w i) then narrow (accW w) sat (e.2.1 i) else accElt w (k.acc d) i) ∧
          t.b.fld (gkPage g) GKC.BUNDLES = (s.b.fld (gkPage g) GKC.BUNDLES + 1) % 2 ^ 32)) ∧
    Completes (.vclr g w d p 0 0 0) s (fun t => s.accs t g w d p (fun _ => 0) kept id) ∧
    Completes (.vldac g w d a p 0 0 0) s (fun t => s.accs t g w d p (fun i => ofS (accW w) (x i)) (mixTags (k.preg p) (k.aTag d) (k.vTag a)) id) ∧
    Completes (.clrov g w d p 0 0 0) s (fun t => s.issued t g ((k.setOv d (k.ov d &&& ~~~ k.preg p)).loopEnd (s.b.gkPc g) 8).1
      (k.loopEnd (s.b.gkPc g) 8).2 []) ∧
    (k.vTag a &&& k.preg p ≠ 0 → ∀ e ∈ [Instr.vmac g w sat d a b p 0 0 0, .vmsu g w sat d b a p 0 0 0, .vmul g w sat d a b p 0 0 0],
      Completes e s fun t => s.trapped t g 3 cPOISON 0 (s.b.gkPc g)) ∧
    (k.aTag d &&& k.preg p ≠ 0 → ∀ e ∈ [Instr.vmac g w sat d a b p 0 0 0, .vmsu g w sat d b a p 0 0 0],
      Completes e s fun t => s.trapped t g 3 cPOISON 0 (s.b.gkPc g))

/-- 09 R193; 11 R227, R228, R234, R235; 12 R246, R247, R263: a gecko that does not run issues nothing; a word that may not execute raises
IM_UC; of the faults of a bundle, which has no effect, the lowest slot's is reported, ILLEGAL first, and a refused pad access also at the
pond; else every slot reads its operands as they stood before the bundle. What rests on the model's choices: log entries 48, 49. -/
def Obligations.BundlesFaultOrIssue : Prop :=
  ∀ (s : State) (g : Fin 128) (slot : Fin 4) (w0 w1 w2 : Word) (bu : Bundle) (pc : Nat) (k : Gecko), pc = s.b.gkPc g → k = s.gko.at g →
    bu = (match slot.val with | 0 => decBundle 0 w0 w1 w2 | 1 => decBundle w0 0 w1 w2 | 2 => decBundle w0 w1 0 w2 | _ => decBundle w0 w1 w2 0) →
    (s.gkIssues g = false → s.b.gkRun g ≠ rRUNNING ∨ k.looked = true ∨ k.stall = none → Completes (.nop g slot w0 w1 w2) s fun t => t = s) ∧
    (s.gkIssues g = true → gkFetchOk s.gko g pc = false → Completes (.nop g slot w0 w1 w2) s fun t => t.b.gkRun g = rEXCEPTION ∧
      t.b.fld (gkPage g) GKC.ECAUSE_CAUSE = cIMUC ∧ t.b.fld (gkPage g) GKC.ECAUSE_SLOT = 0 ∧ t.b.fld (gkPage g) GKC.EADDR = 16 * pc ∧
      t.b.fld (gkPage g) GKC.EPC_EPC = pc ∧ t = { s with b := t.b }) ∧
    (s.gkReady g → ∀ i f, (bundleFaults s.b g k pc bu).head? = some (i, f) → Completes (.nop g slot w0 w1 w2) s fun t =>
      (f.1 ≠ cFENCE → s.trapped t g i f.1 f.2 pc) ∧
      (f.1 = cFENCE → t = { s with b := t.b, gko := t.gko } ∧ t.gko.mem = s.gko.mem ∧ (∀ j, t.gko.at j = s.gko.at j) ∧ t.b.gkRun g = rEXCEPTION ∧
        t.b.fld (gkPage g) GKC.ECAUSE_CAUSE = cFENCE ∧ t.b.fld (gkPage g) GKC.ECAUSE_SLOT = i ∧ t.b.fld (gkPage g) GKC.EADDR = f.2 ∧
        t.b.fld (gkPage g) GKC.EPC_EPC = pc ∧ t.b.gkPc g = pc ∧ (s.b.pondUp g = true → t.b.word (evtOf (pond g)) &&& evt 9 = evt 9))) ∧
    (∀ j ∈ illegalSlots k pc bu, ∃ i, i ≤ j ∧ ∃ f, (bundleFaults s.b g k pc bu).head? = some (i, f)) ∧
    (s.gkReady g → ∀ (d a c : Fin 32) (w : Nat), k.sTag a = false → k.sTag c = false → k.sTag d = false → d ≠ 0 →
      ∀ x : Word, decMem x = some (.acc .sts d (.sreg 0 0) 0) → Completes (.add g d a c x 0 0) s fun t =>
        (t.gko.at g).sreg d = k.sreg a + k.sreg c ∧ (t.gko.word g xmWord0) = (rowStore (s.gko.word g xmWord0) ((k.sreg d).setWidth 256) 15#32 false).1 ∧
        (w < 16384 → w ≠ xmWord0 → t.gko.word g w = s.gko.word g w))

/-- 11 R233, R235, R236, R241, R244: START clears the loop stack and runs, RESUME runs on (at EPC after an exception), each only in STOPPED,
HALTED or EXCEPTION, else CMD_REJ; STOP stops, after a bundle that waits for its line; STEP issues one bundle in STOPPED, unless GATE holds
it; a write of PC is taken only in those states; the event that a WAITING gecko names lets it run on; an idle gecko sleeps. GATE makes a
gecko that is to run PAUSED. -/
def Obligations.GeckoRunControl : Prop :=
  ∀ (g : Fin 128) (v : Word),
    (∀ r : State, r.admits (.gkc g) → ∀ (s : State) (k : Gecko), s = r.maWake (.gkc g) → k = s.gko.at g →
      let idle := s.b.gkRun g = rSTOPPED ∨ s.b.gkRun g = rHALTED ∨ s.b.gkRun g = rEXCEPTION
      let runs := [regOf (gkPage g) GKC.STAT, regOf (gkPage g) HDR.BLK_STAT_STATE, regOf (gkPage g) GKC.PC]
      let run := if s.b.bit (gkPage g) GKC.BIND_GATE = true ∧ s.b.gkCtx g ≠ s.b.fld (.chm (tw (g / 32))) CHM.STAT_LIVE then rPAUSED else rRUNNING
      (idle → Completes (.start g) r fun t => t = { s with b := t.b, gko := t.gko } ∧ t.gko.mem = s.gko.mem ∧
        t.gko.at g = Gecko.runs { k with depth := 0 } ∧
        (∀ j, j ≠ g.val → t.gko.at j = s.gko.at j) ∧ t.b.gkRun g = run ∧ s.b.sets t.b runs ∧ t.b.gkPc g = s.b.gkPc g) ∧
      (idle → Completes (.resume g) r fun t => t = { s with b := t.b, gko := t.gko } ∧ t.gko.mem = s.gko.mem ∧ t.gko.at g = k.runs ∧
        (∀ j, j ≠ g.val → t.gko.at j = s.gko.at j) ∧ t.b.gkRun g = run ∧ s.b.sets t.b runs ∧
        t.b.gkPc g = if s.b.gkRun g = rEXCEPTION then s.b.fld (gkPage g) GKC.EPC_EPC else s.b.gkPc g) ∧
      (idle → Completes (.gkcPcWrite g v) r fun t => t = { s with b := t.b } ∧ s.b.sets t.b [regOf (gkPage g) GKC.PC] ∧ t.b.gkPc g = v.toNat % 4096) ∧
      (¬ idle → ∀ c ∈ [Instr.start g, .resume g, .gkcPcWrite g v], Completes c r fun t => t = { s with b := s.b.event (gkPage g) 16 }) ∧
      (idle ∨ 3 < s.b.gkRun g → Completes (.stop g) r fun t => t = s) ∧
      (1 ≤ s.b.gkRun g → s.b.gkRun g ≤ 3 →
        (k.looked = false → Completes (.stop g) r fun t => t = { s with b := t.b, gko := t.gko } ∧ s.b.sets t.b [regOf (gkPage g) GKC.STAT] ∧
          s.b.put t.b (gkPage g) GKC.STAT_RUN rSTOPPED ∧ t.gko.mem = s.gko.mem ∧ (∀ j, j ≠ g.val → t.gko.at j = s.gko.at j) ∧
          t.gko.at g = { k with stall := none, looked := false }) ∧
        (k.looked = true → Completes (.stop g) r fun t => t = { s with gko := t.gko } ∧ t.gko.mem = s.gko.mem ∧
          (∀ j, j ≠ g.val → t.gko.at j = s.gko.at j) ∧ t.gko.at g = { k with stall := k.stall.map fun x => (x.1, true) })) ∧
      (s.b.gkRun g ≠ rSTOPPED ∨ k.stall ≠ none ∨ s.b.gated = true ∨ run = rPAUSED → Completes (.step g) r fun t => t = s) ∧
      (s.b.gkRun g = rSTOPPED → k.stall = none → k.looked = false → s.b.gated = false → run = rRUNNING →
        gkFetchOk s.gko g (s.b.gkPc g) = true → rowQuiet (s.gko.word g (imWord (s.b.gkPc g))) → gkFetch s.gko g (s.b.gkPc g) = decBundle 0 0 0 0 →
        Completes (.step g) r fun t => s.issued t g (k.runs.loopEnd (s.b.gkPc g) 8).1 (k.runs.loopEnd (s.b.gkPc g) 8).2 [] ∧ t.b.gkRun g = rSTOPPED)) ∧
    ∀ (s : State) (k : Gecko), k = s.gko.at g →
    (s.b.gkRun g = rWAITING ∧ s.b.geckoLine g k.waitOn = true → Completes (.geckoEventWake g) s fun t => t = { s with b := t.b } ∧
      s.b.raises t.b [regOf (gkPage g) GKC.STAT, regOf (gkPage g) HDR.BLK_STAT_STATE, evtOf (gkPage g)] ∧
      t.b.gkRun g = s.b.runOrPause g ∧ s.b.runOrPause g ≠ rWAITING) ∧
    (¬ (s.b.gkRun g = rWAITING ∧ s.b.geckoLine g k.waitOn = true) → Completes (.geckoEventWake g) s fun t => t = s) ∧
    (s.b.bit (gkPage g) HDR.BLK_CTRL_SLEEP_PERMIT = false ∨ s.b.gkRun g = rRUNNING ∨ s.b.dmaAny g = true ∨ k.stall ≠ none ∨ k.fills ≠ [] →
      Completes (.geckoSleep g) s fun t => t = s) ∧
    (s.b.bit (gkPage g) HDR.BLK_CTRL_SLEEP_PERMIT = true → s.b.gkRun g ≠ rRUNNING → s.b.dmaAny g = false → k.stall = none → k.fills = [] →
      s.b.fld (gkPage g) HDR.BLK_STAT_STATE = stActive → (∀ e ∈ k.cache, ∀ c, e.2 = some c → c.st ≠ 3) → Completes (.geckoSleep g) s fun t =>
        t = { s with b := t.b, gko := t.gko } ∧ s.b.sets t.b [regOf (gkPage g) HDR.BLK_STAT_STATE] ∧ s.b.shows t.b (gkPage g) stAsleep ∧
        t.gko.mem = s.gko.mem ∧ t.gko.at g = { k with cache := [] } ∧ ∀ j, j ≠ g.val → t.gko.at j = s.gko.at j)

/-- 11 R238, R239; 12 R254: a start of a busy channel is refused with DMA_REJ; one of an idle channel latches its registers and runs, or
ends at once with its code; dma loads the registers from four scalars first; the end of a transfer reports DONE, ERR, POISON and the code,
and frees the channel, while one whose target cannot answer yet goes on; dwait is held while its channel is busy and else goes on. -/
def Obligations.DmaChannels : Prop :=
  ∀ (r s : State) (g : Fin 128) (ch : Fin 4) (c : Chan) (k : Gecko), k = s.gko.at g →
    c = ⟨s.b.fld (gkPage g) (GKC.DMA_LADDR.nth ch), s.b.fld (gkPage g) (GKC.DMA_DPA_LO.nth ch) + 2 ^ 32 * s.b.fld (gkPage g) (GKC.DMA_DPA_HI_ADDR.nth ch),
      s.b.fld (gkPage g) (GKC.DMA_COUNT_COUNT.nth ch), s.b.bit (gkPage g) (GKC.DMA_CTRL_DIR.nth ch), s.b.bit (gkPage g) (GKC.DMA_CTRL_QEN.nth ch),
      s.b.fld (gkPage g) (GKC.DMA_CTRL_QUEUE.nth ch), false⟩ →
    (let dmaRegs := [regOf (gkPage g) (GKC.DMA_STAT.nth ch), regOf (gkPage g) GKC.STAT]
    (r.admits (.gkc g) → s = r.maWake (.gkc g) →
    (s.b.dmaBusy g ch = true → Completes (.dmaGo g ch) r fun t => t = { s with b := s.b.event (gkPage g) 15 }) ∧
    (s.b.dmaBusy g ch = false → chanEnds s.b g c = none → Completes (.dmaGo g ch) r fun t => t = { s with b := t.b, gko := t.gko } ∧
      s.b.sets t.b dmaRegs ∧ t.b.word (regOf (gkPage g) (GKC.DMA_STAT.nth ch)) = 1 ∧ nbit (t.b.fld (gkPage g) GKC.STAT_DMAB) ch = true ∧
      t.gko.mem = s.gko.mem ∧ t.gko.at g = { k with chan := SMap.set (fun _ => none) k.chan ch (some c) } ∧ ∀ j, j ≠ g.val → t.gko.at j = s.gko.at j) ∧
    (∀ e, s.b.dmaBusy g ch = false → chanEnds s.b g c = some e → c.qen = false → Completes (.dmaGo g ch) r fun t => t = { s with b := t.b, gko := t.gko } ∧
      s.b.raises t.b (dmaRegs ++ [evtOf (gkPage g)]) ∧ t.b.dmaBusy g ch = false ∧ t.b.bit (gkPage g) (GKC.DMA_STAT_DONE.nth ch) = true ∧
      t.b.bit (gkPage g) (GKC.DMA_STAT_ERR.nth ch) = (e != 0) ∧ t.b.fld (gkPage g) (GKC.DMA_STAT_ECODE.nth ch) = e ∧ t.gko.mem = s.gko.mem ∧
      t.b.word (evtOf (gkPage g)) = (s.b.word (evtOf (gkPage g)) ||| evt 10) ||| (if e = 0 then 0 else evt 11))) ∧
    (SMap.get (fun _ => none) k.chan ch = none → ∀ rs, Completes (.dmaDone g ch rs) s fun t => t = s) ∧
    (∀ x rs e, SMap.get (fun _ => none) k.chan ch = some x → dmaRun s g x rs = .error e → Completes (.dmaDone g ch rs) s fun t => t = s.await e) ∧
    (∀ x rs u moved e p, SMap.get (fun _ => none) k.chan ch = some x → dmaRun s g x rs = .ok (u, moved, e, p) → x.qen = false → e < 16 →
      SMap.get (fun _ => none) (u.gko.at g).chan ch = some x → (u.gko.at g).stall = none → Completes (.dmaDone g ch rs) s fun t =>
        t = { u with b := t.b, gko := t.gko } ∧ t.gko.mem = u.gko.mem ∧ SMap.get (fun _ => none) (t.gko.at g).chan ch = none ∧
        u.b.raises t.b (dmaRegs ++ [evtOf (gkPage g)]) ∧ t.b.dmaBusy g ch = false ∧ t.b.bit (gkPage g) (GKC.DMA_STAT_DONE.nth ch) = true ∧
        t.b.bit (gkPage g) (GKC.DMA_STAT_ERR.nth ch) = (e != 0) ∧ t.b.bit (gkPage g) (GKC.DMA_STAT_POISON.nth ch) = p ∧
        t.b.fld (gkPage g) (GKC.DMA_STAT_ECODE.nth ch) = e)) ∧
    (∀ x rs u a l, SMap.get (fun _ => none) k.chan ch = some x → x.ran = false → x.toDpa = false → x.qen = false → x.count = 64 → x.dpa % 64 = 0 → k.stall = none →
      (∀ w, chanWord x = some w → s.engineAccess (engineReq (256 + g) false (s.b.gkCtx g) x.dpa 64 0 false 0 false false) false rs = .ok (u, a, l) →
        a.isData = true → a.poisonL = false → a.poisonH = false → (u.gko.at g).stall = none →
        Completes (.dmaDone g ch rs) s fun t => t.gko.word g w = (rowStore (u.gko.word g w) (half a.data 0) (BitVec.allOnes 32) false).1 ∧
          t.gko.word g (w + 1) = (rowStore (u.gko.word g (w + 1)) (half a.data 1) (BitVec.allOnes 32) false).1 ∧
          ∀ j v, v < 16384 → ¬ (j = g.val ∧ (v = w ∨ v = w + 1)) → t.gko.word j v = u.gko.word j v)) ∧
    (s.gkReady g → (s.b.dmaBusy g ch = false → Completes (.dwait g ch 0 0 0) s fun t =>
        s.issued t g (k.loopEnd (s.b.gkPc g) 8).1 (k.loopEnd (s.b.gkPc g) 8).2 []) ∧
      (s.b.dmaBusy g ch = true → Completes (.dwait g ch 0 0 0) s fun t => t = { s with gko := t.gko } ∧ t.gko.mem = s.gko.mem ∧
        t.gko.at g = { k with stall := some (⟨some (.dwait ch), some .nop, some .nop, some .nop⟩, false) } ∧ ∀ j, j ≠ g.val → t.gko.at j = s.gko.at j)) ∧
    (∀ (sa : Fin 32) (dir : Bool) (v : Nat → Word), s.gkReady g → sa.val % 4 = 0 → 4 ≤ sa.val → sa.val ≤ 28 → (∀ i, i < 4 → k.sTag (sa.val + i) = false) →
      v = (fun i => k.sreg (sa.val + i)) → s.b.dmaBusy g ch = false → ∀ y : Chan,
      y = ⟨(v 0).toNat, (v 1).toNat + 2 ^ 32 * ((v 2).toNat % 65536), (v 3).toNat % 2 ^ 18, dir, false, c.queue, false⟩ → chanEnds s.b g y = none →
      Completes (.dma g ch sa dir false 0 0 0) s fun t => s.issued t g { (k.loopEnd (s.b.gkPc g) 8).1 with chan := SMap.set (fun _ => none) k.chan ch (some y) }
        (k.loopEnd (s.b.gkPc g) 8).2 ([GKC.DMA_LADDR, GKC.DMA_DPA_LO, GKC.DMA_DPA_HI, GKC.DMA_COUNT, GKC.DMA_CTRL, GKC.DMA_STAT].map
          (fun f => regOf (gkPage g) (f.nth ch)) ++ [regOf (gkPage g) GKC.STAT]) ∧ t.b.dmaBusy g ch = true ∧
        t.b.fld (gkPage g) (GKC.DMA_LADDR.nth ch) = (v 0).toNat ∧ t.b.fld (gkPage g) (GKC.DMA_COUNT_COUNT.nth ch) = (v 3).toNat % 2 ^ 18)

/-- 11 R237, R240, R242: WBINV makes the cache busy, and its end writes Modified lines back, empties the cache and raises the event; an
answered fill gives the line its data and state; ZERO starts only on an idle gecko without transfers, and its end clears the gecko's
memories; a request to them is stored or answered with data, poisoned by the words its bytes lie in alone, and is refused to another context
or while the page is disabled. What rests on the model's choices: log entry 51. -/
def Obligations.GeckoCachesAndMemories : Prop :=
  ∀ (u s : State) (g : Fin 128) (l : BitVec 42) (k : Gecko), k = s.gko.at g →
    (u.admits (.gkc g) → s = u.maWake (.gkc g) → Completes (.wbinv g) u fun t =>
      t = { s with b := t.b } ∧ s.b.sets t.b [regOf (gkPage g) GKC.LCTRL] ∧ s.b.put t.b (gkPage g) GKC.LCTRL_BUSY 1) ∧
    (s.b.bit (gkPage g) GKC.LCTRL_BUSY = false → Completes (.wbinvDone g) s fun t => t = s) ∧
    (s.b.bit (gkPage g) GKC.LCTRL_BUSY = true → k.stall = none →
      ((∀ e ∈ k.cache, ∀ c, e.2 = some c → c.st ≠ 3) → Completes (.wbinvDone g) s fun t => t = { s with b := t.b, gko := t.gko } ∧
        s.b.raises t.b [regOf (gkPage g) GKC.LCTRL, evtOf (gkPage g)] ∧ t.b.bit (gkPage g) GKC.LCTRL_BUSY = false ∧
        t.b.word (evtOf (gkPage g)) = s.b.word (evtOf (gkPage g)) ||| evt 12 ∧ t.gko.at g = { k with cache := [] } ∧ t.gko.mem = s.gko.mem) ∧
      (∀ n c u, k.cache = [(n, some c)] → c.st = 3 → s.writeBackReq g n c.data c.poison = some (u, false) → (u.gko.at g).stall = none →
        Completes (.wbinvDone g) s fun t => t = { u with b := t.b, gko := t.gko } ∧ (t.gko.at g).cache = [] ∧
          t.b.bit (gkPage g) GKC.LCTRL_BUSY = false)) ∧
    ((k.fills.find? fun f => f.line == l.toNat && f.ans.isSome) = none → Completes (.lineFill g l) s fun t => t = s) ∧
    (∀ f a st, (k.fills.find? fun f => f.line == l.toNat && f.ans.isSome) = some f → f.ans = some (a, st) → k.stall = none →
      (a.isData = true → gkVictim s g l.toNat = none → k.line l.toNat = none → Completes (.lineFill g l) s fun t =>
        t = { s with b := t.b, hop := t.hop, gko := t.gko } ∧ t.gko.mem = s.gko.mem ∧
        (t.gko.at g).line l.toNat = some ⟨st, a.data, a.poisonL || a.poisonH⟩ ∧ (∀ j, j ≠ l.toNat → (t.gko.at g).line j = k.line j) ∧
        t.gko.at g = { k with cache := (t.gko.at g).cache, fills := k.fills.filter fun x => !(x.line == l.toNat && x.own == f.own) }) ∧
      (a.isData = false → Completes (.lineFill g l) s fun t => t = { s with b := t.b, hop := t.hop, gko := t.gko } ∧
        t.gko.at g = { k with fills := k.fills.filter fun x => !(x.line == l.toNat && x.own == f.own) }) ∧
      (f.tag = none → a.isData = false ∨ gkVictim s g l.toNat = none → ∀ t, exec (.lineFill g l) s = .next t → t.hop = s.hop ∧ t.b = s.b)) ∧
    (let free := (s.b.gkRun g = rSTOPPED ∨ s.b.gkRun g = rHALTED ∨ s.b.gkRun g = rEXCEPTION) ∧ s.b.dmaAny g = false ∧ k.zeroing = false
    (u.admits (.gkc g) → s = u.maWake (.gkc g) → (free → Completes (.geckoZero g) u fun t => t = { s with b := t.b, gko := t.gko } ∧ s.b.sets t.b [regOf (gkPage g) GKC.CMD_STAT] ∧
      t.b.bit (gkPage g) GKC.CMD_STAT_REFUSED = false ∧ t.b.bit (gkPage g) GKC.CMD_STAT_DONE = false ∧ t.gko.mem = s.gko.mem ∧
      t.gko.at g = { k with zeroing := true }) ∧
    (¬ free → Completes (.geckoZero g) u fun t => t = { s with b := t.b } ∧ s.b.sets t.b [regOf (gkPage g) GKC.CMD_STAT] ∧
      s.b.put t.b (gkPage g) GKC.CMD_STAT_REFUSED 1))) ∧
    (k.zeroing = false → Completes (.geckoZeroDone g) s fun t => t = s) ∧
    (k.zeroing = true → s.canonical → Completes (.geckoZeroDone g) s fun t => t = { s with b := t.b, gko := t.gko } ∧
      s.b.raises t.b [regOf (gkPage g) GKC.CMD_STAT, evtOf (gkPage g)] ∧ t.b.bit (gkPage g) GKC.CMD_STAT_DONE = true ∧
      t.b.word (evtOf (gkPage g)) = s.b.word (evtOf (gkPage g)) ||| evt 13 ∧ t.gko.at g = { k with zeroing := false } ∧
      ∀ j v, v < 16384 → t.gko.word j v = if j = g.val then 0 else s.gko.word j v) ∧
    ∀ (r : HopReq) (o w : Nat), dpaRegion r.addr.toNat = .gecko g o → w = gkWordOf (o / 64 * 64) →
      (s.b.tagOk r.src r.priv r.ctx = false → ∀ wr, Completes (.geckoMemoryRequest r wr) s fun t => t = s) ∧
      (s.b.tagOk r.src r.priv r.ctx = true → oneBlock r = false → ∀ wr, Completes (.geckoMemoryRequest r wr) s fun t =>
        t = { s with b := t.b } ∧ t.answered (reqWho r) (rspStatus stUNSUPPORTED)) ∧
      (s.b.tagOk r.src r.priv r.ctx = true → oneBlock r = true → s.b.sleeps (gkPage g) = false →
      (s.b.enabled (gkPage g) = false → ∀ wr, Completes (.geckoMemoryRequest r wr) s fun t => t.gko = s.gko ∧ t.answered (reqWho r) (rspStatus stDISABLED) ∧
        t = { s with b := t.b, gko := t.gko }) ∧
      (s.b.enabled (gkPage g) = true → s.b.upperDown (g / 32) = false →
        (r.priv = false → r.ctx.val ≠ s.b.gkCtx g → ∀ wr, Completes (.geckoMemoryRequest r wr) s fun t => t.gko = s.gko ∧ t.answered (reqWho r) (rspStatus stFENCE) ∧
          t = { s with b := t.b, gko := t.gko }) ∧
        (r.priv = true ∨ r.ctx.val = s.b.gkCtx g →
          (0x10000 ≤ o ∨ s.b.gkRun g = rSTOPPED → r.poisonL = false → r.poisonH = false → reqEnables r = BitVec.allOnes 64 →
            Completes (.geckoMemoryRequest r true) s fun t => t = { s with b := t.b, gko := t.gko } ∧ t.answered (reqWho r) (rspStatus stOK) ∧
              t.gko.word g w = rowMerge (s.gko.word g w) (half r.data 0) (BitVec.allOnes 32) ∧
              t.gko.word g (w + 1) = rowMerge (s.gko.word g (w + 1)) (half r.data 1) (BitVec.allOnes 32) ∧
              ∀ j v, v < 16384 → ¬ (j = g.val ∧ (v = w ∨ v = w + 1)) → t.gko.word j v = s.gko.word j v) ∧
          (o < 0x10000 → (s.b.gkRun g = rRUNNING ∨ s.b.gkRun g = rPAUSED ∨ s.b.gkRun g = rWAITING) → Completes (.geckoMemoryRequest r true) s fun t =>
            t.gko = s.gko ∧ t.answered (reqWho r) (rspStatus stDISABLED)) ∧
          ∀ cell : Nat → BitVec 256 × Bool, (∀ h, cell h = if 32 * h < r.addr.toNat % 64 + r.bytes ∧ r.addr.toNat % 64 < 32 * h + 32
              then rowDecode (s.gko.word g (w + h)) else (0, false)) →
            Completes (.geckoMemoryRequest r false) s fun t => t = { s with b := t.b, gko := t.gko } ∧ t.gko = s.gko ∧
              t.answered (reqWho r) (rspData (maskRead (joinHalves (cell 0).1 (cell 1).1) r.addr.toNat r.bytes) (cell 0).2 (cell 1).2))))

/-! ### The hop network (14) -/

/-- 05 R107, R108; 14 R282, R283, R285, R286, R289, R290, R297, R302, R306: an arriving request is answered by its target, held while a ring
level on its way or its target sleeps, refused at once where its fence refuses it, and lost with an uncorrectable flit; one that may not
arrive, or lacks a grant or credits, does nothing. A woken domain gets its held flits; a completion ends its tag and is presented at its
port, a late one is counted, and a tag outstanding too long ends with TIMEOUT. The flits of a write carry the whole request. What rests on
the model's choices: log entries 14, 55, 57, 111, 112. -/
def Obligations.HopRequestsAndCompletions : Prop :=
  ∀ (s : State) (r : HopReq) (wr : Bool) (w : Wire),
    (∀ c, c = (if wr then Instr.wr r w else .rd r w) →
      (s.mayArrive r wr = false ∨ s.hasGrant r (s.reqEpoch r wr) = none → Completes c s fun t => t = s) ∧
      ∀ (v u : State) (e : Bool) (x : Option Nat), s.mayArrive r wr = true → e = s.reqEpoch r wr → s.hasGrant r e = some v → w.corr = 0 →
        u = State.wired ((if (v.hop.sent r wr).isNone then v.inject r wr false else v).arrived r wr w.uc) w (v.arrivalTower r) 0 r.src r.addr.toNat →
        x = targetStop (u.b.gmode (u.b.srcTower r.src)) r.addr.toNat →
        (w.uc = true → Completes c s fun t => t = u ∧ t.b.word (evtOf (.hop (tw (s.arrivalTower r)))) &&& evt 12 = evt 12) ∧
        (w.uc = false → w.resv = true → Completes c s fun t => t = { u with b := t.b } ∧ t.answered (reqWho r) (rspStatus stUNSUPPORTED)) ∧
        (w.uc = false → w.resv = false → w.edc = 0 →
          (x = none → Completes c s fun t => t = { u with b := t.b } ∧ t.answered (reqWho r) (rspStatus stUNSUPPORTED) ∧
            t.b.word (evtOf (.hop (tw (u.b.srcTower r.src)))) &&& evt 9 = evt 9) ∧
          ∀ st, x = some st →
            (oneBlock r = false → Completes c s fun t => t = { u with b := t.b } ∧ t.answered (reqWho r) (rspStatus stUNSUPPORTED)) ∧
            (oneBlock r = true → u.reach (u.b.srcTower r.src) (srcLevel r.src) (st / 256) (st / 64 % 4) e = false → Completes c s fun t =>
              t = { u with b := t.b } ∧ t.answered (reqWho r) (rspStatus stDISABLED)) ∧
            (oneBlock r = true → u.reach (u.b.srcTower r.src) (srcLevel r.src) (st / 256) (st / 64 % 4) e = true →
              (∀ d, u.levelAsleep (u.b.srcTower r.src) (srcLevel r.src) st = some d → Completes c s fun t => t = u.holdFlits d r wr e ∧
                ∃ f, t.hop.heldFlits = u.hop.heldFlits ++ [f] ∧ f.dom = d ∧ f.write = wr ∧ f.going = [] ∧ f.flits.dst = st % 1024) ∧
              (u.levelAsleep (u.b.srcTower r.src) (srcLevel r.src) st = none →
                (u.flows r wr ((u.b.srcStop r.src).getD 0) st e = false → Completes c s fun t => t = s) ∧
                (u.flows r wr ((u.b.srcStop r.src).getD 0) st e = true →
                  (∀ d y, u.sleeper r = some d → u.fenceOf r = (y, none) → Completes c s fun t => t = y.holdFlits d r wr e ∧
                    ∃ f, t.hop.heldFlits = y.hop.heldFlits ++ [f] ∧ f.dom = d ∧ f.write = wr) ∧
                  (∀ d y a, u.sleeper r = some d → u.fenceOf r = (y, some a) → Completes c s fun t => t = { y with b := t.b } ∧ t.answered (reqWho r) a) ∧
                  (∀ y a, u.sleeper r = none → isGddr r.addr.toNat = false → u.serve r wr e true false = .ans y a → Completes c s fun t =>
                    t = { y with b := y.b.answer r a } ∧ t.answered (reqWho r) a) ∧
                  (∀ y, u.sleeper r = none → isGddr r.addr.toNat = false → u.serve r wr e true false = .sent y → Completes c s fun t => t = y) ∧
                  (∀ y a, u.sleeper r = none → isGddr r.addr.toNat = true → u.hop.homes = [] → u.fenced (u.b.srcTower r.src) r = (y, some a) →
                    Completes c s fun t => t = { y with b := t.b } ∧ t.answered (reqWho r) a) ∧
                  (∀ y z a, u.sleeper r = none → isGddr r.addr.toNat = true → u.hop.homes = [] → u.fenced (u.b.srcTower r.src) r = (y, none) →
                    homeNeed y.gko (if wr then 3 else 0) 0 (r.addr.toNat / 64) = [] → y.serveMem (y.b.srcTower r.src) r wr = some (z, a) →
                    Completes c s fun t => t = { z with b := z.b.answer r a } ∧ t.answered (reqWho r) a)))))) ∧
    (∀ g : Fin 128, (∀ f ∈ s.hop.heldFlits, f.dom ≠ .gecko g) → Completes (.targetWakeDone (.gecko g)) s fun t => t = { s with b := t.b } ∧
      s.b.raises t.b [regOf (.gkc g) HDR.BLK_STAT_STATE, evtOf (.gkc g)] ∧ t.b.sleeps (.gkc g) = false) ∧
    (∀ (g : Fin 128) f y a, s.hop.heldFlits = [f] → f.dom = .gecko g → isGddr f.flits.read.addr.toNat = false →
      (wakeDomain { s with hop := { s.hop with heldFlits := [] } } (.gecko g)).serve f.flits.read f.write f.flits.epoch true true = .ans y a →
      Completes (.targetWakeDone (.gecko g)) s fun t => t = { y with b := y.b.answer f.flits.read a }) ∧
    (∀ (p : Fin 128) (n : Fin 4), (∀ f ∈ s.hop.heldFlits, f.dom ≠ .group p n) → Completes (.targetWakeDone (.group p n)) s fun t => t = { s with b := t.b } ∧
      nbit (t.b.fld (.pnd p) PND.GSLEEP_ASLEEP) n = false) ∧
    (∀ (k : Tower) (l : Fin 3), (∀ f ∈ s.hop.heldFlits, f.dom ≠ .level k l) → Completes (.targetWakeDone (.level k l)) s fun t => t = { s with hop := t.hop } ∧
      t.hop.levelState k l = 0 ∧ t.hop = { s.hop with levels := t.hop.levels }) ∧
    (s.pwr.pwrFail = true → ∀ c, Completes (.targetWakeDone (.gddr c)) s fun t => t = s) ∧
    (∀ (src : Fin 1024) (tag : Fin 4096) (data : Bool) (lat : Word) (x : HopTag) (i : Instr), i = (if data then .vnRdata src tag w lat else .cmp src tag w lat) →
      (takeAnswer s.b.out src tag data = none → Completes i s fun t => t = s) ∧
      (∀ a out, takeAnswer s.b.out src tag data = some (a, out) → w.corr = 0 → s.hop.tagOf src tag = some x →
        (w.uc = true → s.hop.isLate src tag = false → Completes i s fun t => t = { s with b := t.b, hop := t.hop } ∧
          t.hop = s.hop.setTag src tag (some { x with lost := true })) ∧
        (w.uc = false → s.hop.isLate src tag = true → Completes i s fun t => t = { s with b := t.b, hop := t.hop } ∧
          t.hop.tagOf src tag = some x ∧ SMap.get (fun _ => 0) t.hop.late (tagKey src tag) = SMap.get (fun _ => 0) s.hop.late (tagKey src tag) - 1 ∧
          t.b.fld (.hop (tw (s.b.srcTower src))) HOP.LATE_CMP = satAdd (2 ^ 32 - 1) (s.b.fld (.hop (tw (s.b.srcTower src))) HOP.LATE_CMP) 1) ∧
        (w.uc = false → s.hop.isLate src tag = false → src.val < 256 → x.req.src = src → SMap.get (fun _ => none) s.hop.fhpPend src = none →
          Completes i s fun t => t = { s with b := t.b, hop := t.hop } ∧ t.hop.tagOf src tag = none ∧ t.b.out = out ∧
            SMap.get (fun _ => []) t.hop.ports src = SMap.get (fun _ => []) s.hop.ports src ++ (if x.expired then [] else [⟨x.req.ctx, portCycles x.req.tag a⟩]) ∧
            ∀ j, j ≠ src.val → SMap.get (fun _ => []) t.hop.ports j = SMap.get (fun _ => []) s.hop.ports j)) ∧
      (∀ p, p = Page.hop (tw (s.b.srcTower src)) →
        (s.hop.tagOf src tag = none ∨ s.b.fld p HOP.TAGTO_US = 0 → Completes (.tagTimeout src tag) s fun t => t = s) ∧
        (s.hop.tagOf src tag = some x → s.b.aonUs < x.issuedAt + s.b.fld p HOP.TAGTO_US → Completes (.tagTimeout src tag) s fun t => t = s) ∧
        (s.hop.tagOf src tag = some x → s.b.fld p HOP.TAGTO_US ≠ 0 → x.issuedAt + s.b.fld p HOP.TAGTO_US ≤ s.b.aonUs →
          (x.engine = true → x.expired = false → Completes (.tagTimeout src tag) s fun t => t = { s with b := t.b, hop := t.hop } ∧
            t.hop = s.hop.setTag src tag (some { x with expired := true }) ∧ t.b.word (evtOf p) &&& evt 10 = evt 10) ∧
          (x.engine = false → src.val < 256 → x.req.src = src → SMap.get (fun _ => none) s.hop.fhpPend src = none →
            Completes (.tagTimeout src tag) s fun t => t = { s with b := t.b, hop := t.hop } ∧
            t.hop.tagOf src tag = none ∧ t.b.word (evtOf p) &&& evt 10 = evt 10 ∧
            SMap.get (fun _ => 0) t.hop.late (tagKey src tag) = SMap.get (fun _ => 0) s.hop.late (tagKey src tag) + (if x.lost then 0 else 1) ∧
            SMap.get (fun _ => []) t.hop.ports src = SMap.get (fun _ => []) s.hop.ports src ++
              (if x.expired then [] else [⟨x.req.ctx, portCycles x.req.tag (rspStatus stTIMEOUT)⟩]))))) ∧
    (∀ (dst : Nat) (e rsvd : Bool), r.bex = true → (r.priv = true → r.ctx = 0) → (reqFlits r true dst e rsvd).read = r ∧ (reqFlits r true dst e rsvd).epoch = e)

/-- 05 R113; 14 R286, R289, R292, R294, R298, R299, R302; 19 R394: reservations queue and are granted in order, within what an Efmel port
covers, and one lost on the network waits for ever; an epoch flips once no flit of the old one remains; a fabric port samples a read in one
cycle and a write in two, and its request is refused, completed or injected by its windows, and DISABLED where its marsh is excluded;
FHP_CLK takes effect once its port has nothing outstanding; the end of a statistics window moves the counters into the records and clears
them. What rests on the model's choices: log entries 56, 100, 104, 110. -/
def Obligations.HopPortsAndEpochs : Prop :=
  ∀ s : State,
    (∀ (src point : Fin 1024) (count : Fin 17) (w : Wire) (q : List (Nat × Nat)), q = s.hop.rsvAt point → w.corr = 0 →
      (count = 0 ∨ q.any (fun e => e.1 == src.val) = true → Completes (.rsv src point count w) s fun t => t = s) ∧
      (count ≠ 0 → q.any (fun e => e.1 == src.val) = false →
        (w.uc = true → Completes (.rsv src point count w) s fun t => t = { s with b := t.b, hop := t.hop } ∧ t.hop = s.hop.setRsv point (q ++ [(src.val, 0)]) ∧
          t.b.word (evtOf (.hop (tw (point / 256)))) &&& evt 12 = evt 12) ∧
        (w.uc = false → eflOfStop point = none → Completes (.rsv src point count w) s fun t => t = { s with hop := t.hop } ∧
          t.hop.grant src point = 0 ∧ t.hop.rsvAt point = q ++ [(src.val, count.val)] ∧ t.hop = { s.hop with rsv := t.hop.rsv, grants := t.hop.grants }) ∧
        (∀ n, w.uc = false → eflOfStop point = some n → s.b.eflState n ≠ eUP → Completes (.rsv src point count w) s fun t =>
          t = { s with hop := t.hop, efl := t.efl } ∧ t.hop.grant src point = count ∧ (eflAt t.efl n).granted = (eflAt s.efl n).granted - s.hop.grant src point)) ∧
      (q.find? (fun e => e.2 != 0) = none → Completes (.grant point count w) s fun t => t = s) ∧
      (∀ i n give, q.find? (fun e => e.2 != 0) = some (i, n) → give = (match eflOfStop point with
          | some p => if (eflAt s.efl p).quiescing then 0 else min n (eflCover (eflAt s.efl p)) | none => min n count) →
        (give = 0 → Completes (.grant point count w) s fun t => t = s) ∧
        (give ≠ 0 → Completes (.grant point count w) s fun t => t = { s with b := t.b, hop := t.hop, efl := t.efl } ∧
          (w.uc = false → t.b = s.b ∧ t.hop.grant i point = give ∧ t.hop.rsvAt point = q.erase (i, n)) ∧
          (w.uc = true → t.hop.grants = s.hop.grants ∧ t.hop.rsvAt point = q.erase (i, n) ++ [(i, 0)]) ∧
          t.hop = { s.hop with rsv := t.hop.rsv, grants := t.hop.grants } ∧
          (∀ p, eflOfStop point = some p → eflAt t.efl p = { eflAt s.efl p with granted := (eflAt s.efl p).granted + give })))) ∧
    (∀ (k : Tower) (l : Fin 3) (e : Bool), e = s.b.epoch k l →
      ((s.b.commitPend (.hop k) && nbit (s.b.parts (.hop k)) l && !s.remains k l (!e)) = false →
        Completes (.epochFlip k l) s fun t => t = s) ∧
      ((s.b.commitPend (.hop k) && nbit (s.b.parts (.hop k)) l && !s.remains k l (!e)) = true →
        Completes (.epochFlip k l) s fun t => t = { s with b := t.b, hop := t.hop } ∧ (∀ j, j < 3 → t.b.epoch k j = if j = l.val then !e else s.b.epoch k j) ∧
          t.hop = { s.hop with maps := t.hop.maps } ∧ t.b.word (evtOf (.hop k)) &&& evt 14 = evt 14 ∧
          (pbase (.hop k) + 0x40 ∈ s.b.pageKeys (.hop k) → t.hop.mapWord k l (!e) 0x40 = rwsMix (pbase (.hop k) + 0x40) 0 (s.b.shWord (pbase (.hop k) + 0x40))))) ∧
    (∀ (k : Tower) (h : Fin 64) (src : Fin 1024) (c x : Nat) (u : State), src.val = 64 * k.val + h.val → c = s.b.liveOf k (hopPortMarsh h) →
      x = sampleBits 361 s.b.free (s.hopIn k h) → u = { s with b := s.b.bump, hop := s.hop.setBeat src none } →
      let op := nget x 344 343
      let cycle := x + c <<< 361
      let took := fun (q : PortReq) (t : State) => ∀ (n : Nat) (r : HopReq), n = (if q.write then 64 else q.bytes.val) →
        r = ⟨src, false, ⟨c % 8, Nat.mod_lt _ (by decide)⟩, q.prio, q.tag, q.addr, ⟨n % 65, Nat.mod_lt _ (by decide)⟩, q.write, q.be, q.data, q.poisonL, q.poisonH⟩ →
        let shown := fun (a : HopRsp) => t.hop.tags = s.hop.tags ∧
          SMap.get (fun _ => []) t.hop.ports src = SMap.get (fun _ => []) s.hop.ports src ++ [⟨c % 8, portCycles q.tag a⟩]
        let out := s.b.upperDown k = true ∨ s.isOut k (hopPortMarsh h) = true
        let split := (q.write = true ∧ q.addr.toNat % 64 ≠ 0) ∨ (q.write = false ∧ 64 < q.addr.toNat % 64 + n)
        let empty := (q.write = true ∧ q.be = 0) ∨ (q.write = false ∧ n = 0)
        let adm := (List.range 4).any fun w => s.hop.windowAdmits k h c w (s.b.epoch k 0) q.write q.addr.toNat (q.addr.toNat + n - 1)
        t = { s with b := t.b, hop := t.hop } ∧ SMap.get (fun _ => none) t.hop.beat src = none ∧
        (out → shown (rspStatus stDISABLED)) ∧ (¬ out → split → shown (rspStatus stUNSUPPORTED)) ∧ (¬ out → ¬ split → empty → shown (rspStatus stOK)) ∧
        (¬ out → ¬ split → ¬ empty → adm = false → shown (rspStatus stFENCE) ∧ t.b.word (evtOf (.hop k)) &&& evt 8 = evt 8) ∧
        (¬ out → ¬ split → ¬ empty → adm = true → t.hop.tagOf src q.tag = some ⟨q.write, r, s.b.aonUs, false, false, s.hop.next, s.b.epoch k 0, false, false⟩ ∧
          t.hop.ports = s.hop.ports)
      (s.hopSampled k h = false → Completes (.fabricHopPortRequest k h) s fun t => t = s) ∧
      (s.hopSampled k h = true → (op ≠ 1 ∧ op ≠ 2) ∨ s.hop.ready src (nget x 358 347) = false → Completes (.fabricHopPortRequest k h) s fun t =>
        t = { s with b := s.b.bump }) ∧
      (s.hopSampled k h = true → op = 1 → s.hop.ready src (nget x 358 347) = true → Completes (.fabricHopPortRequest k h) s (took (portReq false cycle cycle))) ∧
      (s.hopSampled k h = true → op = 2 → s.hop.ready src (nget x 358 347) = true →
        (nget x 359 359 = 0 → Completes (.fabricHopPortRequest k h) s fun t =>
          t = { s with b := s.b.bump, hop := s.hop.setBeat src (some (BitVec.ofNat 364 cycle)) }) ∧
        (nget x 359 359 = 1 → SMap.get (fun _ => none) s.hop.beat src = none → Completes (.fabricHopPortRequest k h) s fun t => t = u) ∧
        (∀ lo, nget x 359 359 = 1 → SMap.get (fun _ => none) s.hop.beat src = some lo →
          (sameWrite lo.toNat cycle = false → Completes (.fabricHopPortRequest k h) s fun t => t = u) ∧
          (sameWrite lo.toNat cycle = true → Completes (.fabricHopPortRequest k h) s (took (portReq true lo.toNat cycle)))))) ∧
    (∀ (r : State) (k : Tower) (j : Fin 32) (v : Word), r.admits (.hop k) → s = r.maWake (.hop k) →
      (s.hop.outstanding (64 * k.val + 2 * j.val) = 0 → s.hop.outstanding (64 * k.val + 2 * j.val + 1) = 0 →
        Completes (.fhpClkWrite k j v) r fun t => t = { s with b := t.b, hop := t.hop } ∧ s.b.sets t.b [regOf (.hop k) (HOP.FHP_CLK_EN0.nth j)] ∧
        t.b.fld (.hop k) (HOP.FHP_CLK_EN0.nth j) = wget v 5 5 ∧ t.b.fld (.hop k) (HOP.FHP_CLK_CLK0.nth j) = wget v 4 0 ∧
        t.b.fld (.hop k) (HOP.FHP_CLK_EN1.nth j) = wget v 13 13 ∧ t.b.fld (.hop k) (HOP.FHP_CLK_CLK1.nth j) = wget v 12 8) ∧
      (s.hop.outstanding (64 * k.val + 2 * j.val) ≠ 0 → s.hop.outstanding (64 * k.val + 2 * j.val + 1) ≠ 0 →
        Completes (.fhpClkWrite k j v) r fun t => t = { s with hop := t.hop } ∧ t.hop = { s.hop with fhpPend := t.hop.fhpPend } ∧
        SMap.get (fun _ => none) t.hop.fhpPend (64 * k.val + 2 * j.val) = some (wget v 5 5 * 32 + wget v 4 0))) ∧
    ∀ k : Tower, (s.b.fld (.hst k) HST.WINDOW_US = 0 → Completes (.hstWindowEnd k) s fun t => t = s) ∧
      (s.b.fld (.hst k) HST.WINDOW_US ≠ 0 → Completes (.hstWindowEnd k) s fun t => t = { s with b := t.b, hop := t.hop } ∧
        t.b.fld (.hst k) HST.SEQ = (s.b.fld (.hst k) HST.SEQ + 1) % 2 ^ 32 ∧ (∀ i n, i < 1024 → n < 32 → t.hop.stat k i n = 0) ∧
        (s.b.bit (.hst k) HST.CTRL_FREEZE = true → s.b.sets t.b [regOf (.hst k) HST.SEQ]) ∧
        (s.b.bit (.hst k) HST.CTRL_FREEZE = false → ∀ i n, i < 1024 → n < 32 → s.hop.stat k i n ≠ 0 → ∀ o ∈ recOffsets,
          t.b.word (pbase (.hst k) + 0x1000 + 0x80 * i + o) = s.hop.recWord k i o))

/-- 14 R284, R286, R290, R296; 11 R240: a line read reaches its home under a free tag; with no other transaction there it is answered,
Exclusive where no other cache holds the line and always for ownership, unless the fence or a missing lift refuses it or a snoop is needed
first; a snoop takes the copy away or makes it Shared and sends Modified data along; the last answer serves the waiting read; a write-back
reaches its home and ends the copy. A flit removed on its way leaves its sender waiting. What rests on the model's choices: log entries 86,
99. -/
def Obligations.LineHomesKeepCoherence : Prop :=
  ∀ (s : State) (g : Fin 128) (line : BitVec 42) (wr : Wire) (l : Nat), l = line.toNat →
    (∀ (own : Bool) (i : Instr) (kind : Nat) (k : Gecko) (n : Fin 4096) (r : HopReq), i = (if own then .rdOwn g line wr else .rdShr g line wr) →
      kind = (if own then 2 else 1) → k = s.gko.at g → n = s.hop.newTag (256 + g) → r = lineReq s.b g l n →
      ((k.fills.find? fun f => f.line == l && f.own == own && f.ans.isNone) = none → Completes i s fun t => t = s) ∧
      (∀ f m, (k.fills.find? fun f => f.line == l && f.own == own && f.ans.isNone) = some f → f.tag = some m →
        (s.hop.homes.find? fun v => v.req.src.val == 256 + g.val && v.req.tag.val == m) = none → Completes i s fun t => t = s) ∧
      (∀ f c u, (k.fills.find? fun f => f.line == l && f.own == own && f.ans.isNone) = some f → f.tag = none → c = (gdMap (s.b.gmode (g / 32)) r.addr.toNat).1 →
        u = ((s.inject r false true).wired wr (c / 4) 0 r.src r.addr.toNat).wakeLevels (g / 32) 1 (c / 4) 2 →
        (s.hop.writesBlock r.src (tagKey r.src n) s.hop.next l = true → Completes i s fun t => t = s) ∧
        (s.hop.writesBlock r.src (tagKey r.src n) s.hop.next l = false →
          let asks := fun (t : State) => (∀ j, j ≠ g.val → t.gko.at j = s.gko.at j) ∧ t.gko.mem = s.gko.mem ∧
            t.gko.at g = { k with fills := (t.gko.at g).fills }
          let now := fun (t : State) (a : Option (HopRsp × Nat)) => asks t ∧ (t.gko.at g).fills = k.fills.map fun x =>
            if x = f then { x with tag := some n.val, ans := a } else x
          (wr.uc = true → Completes i s fun t => t = { u.markTag r true with gko := t.gko } ∧ now t none) ∧
          (wr.uc = false → u.reach (g / 32) 1 (c / 4) 2 (s.b.epoch (g / 32) 1) = false → (∀ x ∈ k.fills, x.tag ≠ some n.val) →
            Completes i s fun t => t = { u with gko := t.gko } ∧ now t (some (rspStatus stDISABLED, 0))) ∧
          (wr.uc = false → u.reach (g / 32) 1 (c / 4) 2 (s.b.epoch (g / 32) 1) = true → s.hop.homes = [] → s.hop.isLate r.src n = false →
            (∀ x ∈ k.fills, x.tag ≠ some n.val) →
            (∀ v a, u.fenced (u.b.srcTower r.src) r = (v, some a) → a.isData = false → Completes i s fun t => t = { v with gko := t.gko } ∧ now t (some (a, 0))) ∧
            (∀ v, u.fenced (u.b.srcTower r.src) r = (v, none) →
              (∀ y a, homeNeed s.gko kind g l = [] → v.serveMem (v.b.srcTower r.src) r false = some (y, a) → a.isData = true → Completes i s fun t =>
                t = { y with gko := t.gko } ∧ t.hop.homes = [] ∧
                  now t (some (a, if own = true ∨ (s.gko.holders l).all (· == g.val) = true then 2 else 1))) ∧
              (homeNeed s.gko kind g l ≠ [] → Completes i s fun t => t = { v with hop := t.hop, gko := t.gko } ∧ now t none ∧
                t.hop = { v.hop with homes := [⟨c, some 0, kind, g, l, r, homeNeed s.gko kind g l, [], none, false⟩] })))))) ∧
    (s.hop.homeOf l = none → ∀ c ∈ [Instr.snpInv g line wr, .snpShr g line wr, .snpRsp g line wr], Completes c s fun t => t = s) ∧
    (∀ j w inv, s.hop.homeOf l = some (j, w) → ∀ i, i = (if inv then Instr.snpInv g line wr else .snpShr g line wr) →
      ((w.need.contains g.val && (inv == decide (2 ≤ w.kind))) = false → Completes i s fun t => t = s) ∧
      (w.need.contains g.val = true → inv = decide (2 ≤ w.kind) → wr.corr = 0 →
        (wr.uc = true → Completes i s fun t => t = { s with b := t.b, hop := t.hop } ∧
          t.hop = s.hop.setHome j { w with need := w.need.erase g.val, lost := true }) ∧
        (wr.uc = false → Completes i s fun t => t = { s with gko := t.gko, hop := t.hop } ∧ t.gko.mem = s.gko.mem ∧
          (∀ n, n ≠ g.val → t.gko.at n = s.gko.at n) ∧ t.gko.at g = { s.gko.at g with cache := (t.gko.at g).cache, fills := (t.gko.at g).fills } ∧
          (∀ n, n ≠ l → (t.gko.at g).line n = (s.gko.at g).line n ∧ (t.gko.at g).holds n = (s.gko.at g).holds n) ∧
          (t.gko.at g).line l = (if inv then none else ((s.gko.at g).line l).map fun c => { c with st := 1 }) ∧
          (inv = true → (t.gko.at g).holds l = none) ∧
          t.hop = s.hop.setHome j { w with need := w.need.erase g.val, answering := w.answering ++ [g.val], wb := match (s.gko.at g).line l with
            | some c => if c.st = 3 then some (c.data, c.poison) else w.wb
            | none => w.wb }))) ∧
    (∀ j w, s.hop.homeOf l = some (j, w) →
      (w.answering.contains g.val = false → Completes (.snpRsp g line wr) s fun t => t = s) ∧
      (w.answering.contains g.val = true → wr.corr = 0 →
        (wr.uc = true → Completes (.snpRsp g line wr) s fun t => t = { s with b := t.b, hop := t.hop } ∧
          t.hop = s.hop.setHome j { w with answering := w.answering.erase g.val, lost := true }) ∧
        (wr.uc = false → (w.need ≠ [] ∨ w.answering.erase g.val ≠ [] ∨ w.lost = true) → Completes (.snpRsp g line wr) s fun t =>
          t = { s with hop := t.hop } ∧ t.hop = s.hop.setHome j { w with answering := w.answering.erase g.val }) ∧
        (∀ y a, wr.uc = false → s.hop.homes = [w] → w.kind = 2 → w.need = [] → w.answering = [g.val] → w.lost = false → w.wb = none → homeNeed s.gko 2 w.gecko l = [] →
          s.hop.isLate w.req.src w.req.tag = false → s.serveMem (s.b.srcTower w.req.src) w.req false = some (y, a) → Completes (.snpRsp g line wr) s fun t =>
            t = { y with gko := t.gko, hop := t.hop } ∧ t.hop = { s.hop with homes := [] } ∧
              t.gko.at w.gecko = (s.gko.at w.gecko).answered w.req.tag a (if a.isData then 2 else 0) false))) ∧
    ((s.gko.at g).line l = none → Completes (.wb g line wr) s fun t => t = s) ∧
    (∀ c, (s.gko.at g).line l = some c → wr.corr = 0 →
      (c.st ≠ 3 → Completes (.wb g line wr) s fun t => t = { s with gko := t.gko } ∧ t.gko.mem = s.gko.mem ∧ (t.gko.at g).line l = none ∧
        ∀ n, n ≠ l → (t.gko.at g).line n = (s.gko.at g).line n) ∧
      (∀ u, c.st = 3 → wr.uc = false → s.writeBackReq g l c.data c.poison = some (u, false) → Completes (.wb g line wr) s fun t => t = { u with gko := t.gko } ∧
        t.gko.mem = u.gko.mem ∧ (t.gko.at g).line l = none ∧ ∀ n, n ≠ l → (t.gko.at g).line n = (u.gko.at g).line n) ∧
      (c.st = 3 → wr.uc = true → Completes (.wb g line wr) s fun t => t = { s with b := t.b, hop := t.hop, gko := t.gko } ∧ (t.gko.at g).line l = none ∧
        ∃ x, t.hop.tagOf (256 + g) (s.hop.newTag (256 + g)) = some x ∧ x.write = true ∧ x.lost = true))

/-! ### Fabric, GDDR6 and encryption (03, 16, 17, 25) -/

/-- 03 R43; 04 R72; 20 R408, R418; 25 R505: a clock edge loads each flip-flop whose control set has an active edge with the value its
configuration selects and keeps every other copy; without asynchronous sets and local-line clocks nothing else changes a flip-flop; none
comes while clocks are gated. A change of a pin's outside level is taken as it is. What rests on the model's choices: log entries 29, 30,
13, 90. -/
def Obligations.ClockEdgesLoadFlipFlops : Prop :=
  ∀ (s x : State) (rise fall : BitVec 128) (recov : Bool), x = s.settle →
    (s.b.gated = true → Completes (.fabricClockEdge rise fall recov) s fun t => t = s) ∧
    (s.b.gated = false → Completes (.fabricClockEdge rise fall recov) s fun t =>
      t = { s with b := { s.b with free := t.b.free }, fab := t.fab, clk := t.clk, hop := { s.hop with ports := t.hop.ports, shown := t.hop.shown }, pins := t.pins }) ∧
    (s.b.gated = false → (∀ c ∈ s.cfg.clutches, (∀ n, n < 16 → s.cfg.srType c n ≠ 2) ∧ ∀ k, k < 2 → s.cfg.clkSrc c k < 32 ∨ 62 ≤ s.cfg.clkSrc c k) →
      ∀ act : Nat → Nat → Bool, act = (fun c k => decide (s.cfg.clkSrc c k < 32) &&
        if s.cfg.clkInv c k then edgeBit fall (cTower c) (s.cfg.clkSrc c k) && SMap.get (fun _ => false) s.clk.high (32 * cTower c + s.cfg.clkSrc c k) && !s.fab.held c k
        else edgeBit rise (cTower c) (s.cfg.clkSrc c k) && edgePasses s.b s.clk (cTower c) (s.cfg.clkSrc c k)) →
      ∀ c n, n < 16 →
        (c ∈ s.cfg.clutches → s.b.we (cTower c) (s.liveAt c) = true → s.cutOff (cTower c) (cMarsh c) = false → act c (s.cfg.csOf c n) = true →
          ∀ v, x.edgeNext recov false c n = some v → Completes (.fabricClockEdge rise fall recov) s fun t => t.fab.copy c n (s.copyNo c) = v ∧
            ∀ k, k < 9 → k ≠ s.copyNo c → t.fab.copy c n k = s.fab.copy c n k) ∧
        ((c ∉ s.cfg.clutches ∨ s.b.we (cTower c) (s.liveAt c) = false ∨ s.cutOff (cTower c) (cMarsh c) = true ∨ act c (s.cfg.csOf c n) = false) →
          Completes (.fabricClockEdge rise fall recov) s fun t => ∀ k, k < 9 → t.fab.copy c n k = s.fab.copy c n k)) ∧
    ∀ (k : Fin 12) (j : Fin 16) (v : Option Bool), Completes (.pinInputChange k j v) s fun t =>
      t = { s with b := { s.b with free := t.b.free }, fab := t.fab, pins := t.pins } ∧ SMap.get (fun _ => none) t.pins.ext (16 * k.val + j.val) = v ∧
        ∀ i, i ≠ 16 * k.val + j.val → SMap.get (fun _ => none) t.pins.ext i = SMap.get (fun _ => none) s.pins.ext i

/-- 16 R317 to R319, R329 to R333: training begins only where the page is disabled and untrained, passes at the highest rate that works or
leaves FAULT at its step; retraining ends or fails; a refresh records the temperature; self-refresh, INIT, the patrol and RAW accesses act
as their rules say. What rests on the model's choices: log entries 13, 62, 115. -/
def Obligations.GddrControllers : Prop :=
  ∀ (z s : State) (g : Fin 16) (p : Page), p = .gd g →
    (z.admits p → s = z.maWake p →
      (s.b.enabled p = true ∨ s.b.gdTraining g = true ∨ s.b.rateMax g = 0 → Completes (.trainGo g) z fun t => t = s) ∧
      (s.b.enabled p = false → s.b.gdTraining g = false → s.b.rateMax g ≠ 0 →
        Completes (.trainGo g) z fun t => t = { s with b := t.b, gdr := { s.gdr with trKind := t.gdr.trKind } } ∧ s.b.sets t.b [regOf p GD.STAT] ∧
          s.b.put t.b p GD.STAT_TRAINING 1 ∧ SMap.get (fun _ => 0) t.gdr.trKind g = 1) ∧
      (s.b.enabled p = true → Completes (.init g) z fun t => t = { s with b := t.b } ∧ s.b.sets t.b [regOf p GD.STAT] ∧ s.b.put t.b p GD.STAT_INIT_REF 1) ∧
      (s.b.enabled p = false → Completes (.init g) z fun t => t = { s with b := t.b } ∧ s.b.sets t.b [regOf p GD.STAT] ∧ t.b.bit p GD.STAT_INIT_REF = false ∧
        t.b.bit p GD.STAT_INIT_BUSY = true ∧ t.b.bit p GD.STAT_INIT_DONE = false) ∧
      ∀ n, n = s.b.fld p GD.RAW_ADDR_LINE →
        (s.b.bit p HDR.ERR_CFG_RAW = false ∨ s.b.covered g (64 * n) = false → ∀ c ∈ [Instr.gdRawWrite g, .gdRawRead g], Completes c z fun t => t = { s with b := t.b } ∧
          s.b.sets t.b [regOf p GD.RAW_STAT] ∧ s.b.put t.b p GD.RAW_STAT_REFUSED 1) ∧
        (s.b.bit p HDR.ERR_CFG_RAW = true → s.b.covered g (64 * n) = true →
          Completes (.gdRawWrite g) z (fun t => t = { s with b := t.b, gdr := { s.gdr with lines := t.gdr.lines, touched := t.gdr.touched } } ∧
            s.b.sets t.b [regOf p GD.RAW_STAT] ∧ t.b.bit p GD.RAW_STAT_DONE = true ∧ t.b.bit p GD.RAW_STAT_REFUSED = false ∧
            (∀ i, i < 16 → ((t.gdr.line g n).data >>> (32 * i)).setWidth 32 = s.b.word (regOf p (GD.RAW_DATA.nth i))) ∧
            (t.gdr.line g n).md = s.b.word (regOf p GD.RAW_META_HI) ++ s.b.word (regOf p GD.RAW_META_LO) ∧
            ∀ c m, m < 2 ^ 27 → ¬ (c = g.val ∧ m = n) → t.gdr.line c m = s.gdr.line c m) ∧
          Completes (.gdRawRead g) z fun t => t = { s with b := t.b } ∧ t.b.bit p GD.RAW_STAT_DONE = true ∧
            (∀ i, i < 16 → t.b.word (regOf p (GD.RAW_DATA.nth i)) = ((Gdr.stored s.b s.gdr g n).data >>> (32 * i)).setWidth 32) ∧
            t.b.word (regOf p GD.RAW_META_LO) = (Gdr.stored s.b s.gdr g n).md.setWidth 32 ∧ t.b.word (regOf p GD.RAW_META_HI) = ((Gdr.stored s.b s.gdr g n).md >>> 32).setWidth 32)) ∧
    (∀ (early : Option (Fin 3)) (pass : List (Fin 32)) (id0 id1 : Word) (kind : Nat), kind = SMap.get (fun _ => 0) s.gdr.trKind g →
      (let ends := fun (t : State) => t = { s with b := t.b, gdr := { s.gdr with trKind := t.gdr.trKind, trTemp := t.gdr.trTemp } } ∧ t.b.gdTraining g = false
      let failed := fun (n : Nat) (t : State) => ends t ∧ t.b.bit p GD.STAT_TRAIN_FAIL = true ∧ t.b.fld p GD.TRAIN_STEP = n ∧ t.b.fld p GD.RATE_CUR = 0 ∧
        t.b.fld p HDR.BLK_STAT_STATE = stFault ∧ t.b.word (evtOf p) &&& evt 10 = evt 10 ∧ SMap.get (fun _ => 0) t.gdr.trKind g = 0
      (s.b.gdTraining g = false ∨ kind = 2 → Completes (.trainingDone g early pass id0 id1) s fun t => t = s) ∧
      (s.b.gdTraining g = true → kind ≠ 2 → SMap.get (fun _ => []) s.gdr.held g = [] →
        (∀ n, early = some n → Completes (.trainingDone g early pass id0 id1) s (failed n)) ∧
        (early = none → (gdRates 13 (s.b.rateMax g)).find? (fun r => pass.any (fun q => q.val == r)) = none → Completes (.trainingDone g early pass id0 id1) s (failed 3)) ∧
        (∀ r, early = none → (gdRates 13 (s.b.rateMax g)).find? (fun r => pass.any (fun q => q.val == r)) = some r →
          Completes (.trainingDone g early pass id0 id1) s fun t => ends t ∧ t.b.fld p GD.RATE_CUR = r ∧ t.b.bit p GD.STAT_TRAIN_FAIL = false ∧
            t.b.word (regOf p GD.DEV_ID0) = id0 ∧ t.b.word (regOf p GD.DEV_ID1) = id1 ∧ t.b.word (evtOf p) = s.b.word (evtOf p) ||| evt 9 ∧
            t.b.fld p HDR.BLK_STAT_STATE = (if s.b.enabled p then stActive else stDisabled) ∧ (kind = 3 → t.b.bit p GD.STAT_INIT_BUSY = true))) ∧
      (gdRetrainDue s.b s.gdr g = false → ∀ ok, Completes (.retrain g ok) s fun t => t = s) ∧
      (gdRetrainDue s.b s.gdr g = true → SMap.get (fun _ => []) s.gdr.held g = [] → Completes (.retrain g false) s (fun t => t.b.gdTraining g = false ∧
          t.b.bit p GD.STAT_TRAIN_FAIL = true ∧ t.b.fld p GD.TRAIN_STEP = 3 ∧ t.b.fld p GD.RATE_CUR = 0 ∧ t.gdr.lines = s.gdr.lines ∧ t = { s with b := t.b, gdr := t.gdr }) ∧
        Completes (.retrain g true) s fun t => t = { s with b := t.b, gdr := t.gdr } ∧ t.gdr.lines = s.gdr.lines ∧ s.b.sets t.b [regOf p GD.STAT, regOf (.enc g) ENC.STAT] ∧
          t.b.gdTraining g = false ∧ SMap.get (fun _ => 0) t.gdr.trKind g = 0 ∧ SMap.get (fun _ => 0) t.gdr.trTemp g = s.b.fld p GD.TEMP_C))) ∧
    (∀ temp : Fin 256, (s.b.fld p GD.RATE_CUR = 0 ∨ s.b.bit p GD.STAT_SREF = true ∨ s.b.gated = true → Completes (.refresh g temp) s fun t => t = s) ∧
      (s.b.fld p GD.RATE_CUR ≠ 0 → s.b.bit p GD.STAT_SREF = false → s.b.gated = false → Completes (.refresh g temp) s fun t => t = { s with b := t.b } ∧
        s.b.raises t.b [regOf p GD.TEMP, regOf p GD.STAT, evtOf p] ∧ t.b.fld p GD.TEMP_C = temp ∧ t.b.bit p GD.STAT_HOT = decide (85 < temp.val) ∧
        (85 < temp.val → s.b.bit p GD.STAT_HOT = false → t.b.word (evtOf p) = s.b.word (evtOf p) ||| evt 16))) ∧
    (s.b.bit p HDR.BLK_CTRL_SLEEP_PERMIT = false ∨ s.b.fld p GD.RATE_CUR = 0 ∨ s.b.bit p GD.STAT_INIT_BUSY = true ∨ s.b.gdTraining g = true ∨
      s.b.gated = true ∨ s.b.moltsAt g = true ∨ SMap.get (fun _ => []) s.gdr.held g ≠ [] → Completes (.selfRefreshEntry g) s fun t => t = s) ∧
    (s.b.bit p HDR.BLK_CTRL_SLEEP_PERMIT = true → s.b.fld p GD.RATE_CUR ≠ 0 → s.b.bit p GD.STAT_INIT_BUSY = false → s.b.gdTraining g = false →
      s.b.gated = false → s.b.moltsAt g = false → SMap.get (fun _ => []) s.gdr.held g = [] → Completes (.selfRefreshEntry g) s fun t => t = { s with b := t.b } ∧
        s.b.sets t.b [regOf p GD.STAT, regOf p HDR.BLK_STAT_STATE, regOf (.enc g) HDR.BLK_STAT_STATE] ∧ s.b.put t.b p GD.STAT_SREF 1 ∧
        (s.b.enabled p = true → s.b.fld p HDR.BLK_STAT_STATE = stActive → s.b.shows t.b p stAsleep) ∧
        (s.b.enabled p = false → s.b.put t.b p HDR.BLK_STAT_AWAKE 0)) ∧
    (s.b.bit p GD.STAT_INIT_BUSY = false → Completes (.initDone g) s fun t => t = s) ∧
    (s.b.bit p GD.STAT_INIT_BUSY = true → s.canonical → SMap.get (fun _ => []) s.gdr.held g = [] → Completes (.initDone g) s fun t =>
      t = { s with b := t.b, gdr := t.gdr } ∧ s.b.raises t.b [regOf p GD.STAT, regOf (.enc g) ENC.STAT, evtOf p] ∧ t.b.bit p GD.STAT_INIT_BUSY = false ∧ t.b.bit p GD.STAT_INIT_DONE = true ∧
      t.b.word (evtOf p) = s.b.word (evtOf p) ||| evt 8 ∧ ∀ c n, n < 2 ^ 27 → t.gdr.line c n = if c = g.val then Gline.zero else s.gdr.line c n) ∧
    ∀ n q, n = s.b.carveLo g / 64 → q = s.b.fld p GD.PATROL_POS_LINE % n →
      (n = 0 ∨ s.b.fld p GD.PATROL_S = 0 ∨ s.b.bit p GD.STAT_SREF = true ∨ s.b.fld p GD.RATE_CUR = 0 ∨ s.b.gdTraining g = true ∨
        s.b.bit p GD.STAT_INIT_BUSY = true ∨ s.b.gated = true → Completes (.gdPatrol g) s fun t => t = s) ∧
      (n ≠ 0 → s.b.fld p GD.PATROL_S ≠ 0 → s.b.bit p GD.STAT_SREF = false → s.b.fld p GD.RATE_CUR ≠ 0 → s.b.gdTraining g = false →
        s.b.bit p GD.STAT_INIT_BUSY = false → s.b.gated = false →
        Completes (.gdPatrol g) s (fun t => t = { s with b := t.b, gdr := { s.gdr with lines := t.gdr.lines, passAt := t.gdr.passAt }, arb := t.arb } ∧
          t.b.fld p GD.PATROL_POS_LINE = (if q + 1 < n then q + 1 else 0) ∧ (n = q + 1 → t.b.word (evtOf p) &&& evt 12 = evt 12) ∧
          (∀ c m, m < 2 ^ 27 → ¬ (c = g.val ∧ m = q) → t.gdr.line c m = s.gdr.line c m) ∧ ∀ k, k ≠ 160 + g.val → arbAt t.arb k = arbAt s.arb k) ∧
        ((gdDecode (s.gdr.line g q)).2 = .corrected → Completes (.gdPatrol g) s fun t => t.gdr.line g q = (gdDecode (s.gdr.line g q)).1) ∧
        ((gdDecode (s.gdr.line g q)).2 = .bad → Completes (.gdPatrol g) s fun t => t.gdr.line g q = gdPoison (s.gdr.line g q) ∧
          t.b.fld p GD.UC_CNT = satAdd (2 ^ 32 - 1) (s.b.fld p GD.UC_CNT) 1))

/-- 17 R338, R339, R342, R351 to R358: a stop applies committed tables unless a held request stands on an entry that changes, and the last
one ends the commit; a key slot in use is not erased; molt and fill start or are refused, move line by line under key B, and the end names B
as the region's key; a reseal ends its page's wait. What rests on the model's choices: log entry 61. -/
def Obligations.EncryptionAndMolts : Prop :=
  ∀ z s : State,
    (∀ c : Fin 16, (s.b.encPending = false ∨ s.b.encWaits c = false ∨ (s.admittedAt c).any (encBlocks s.b c) = true →
        Completes (.encTableApply c) s fun t => t = s) ∧
      (s.b.encPending = true → s.b.encWaits c = true → (s.admittedAt c).any (encBlocks s.b c) = false →
        ((∃ d : Fin 16, d ≠ c ∧ s.b.encWaits d = true) → Completes (.encTableApply c) s fun t => t = { s with b := s.b.setParts (.enc c) 0 }) ∧
        ((∀ d : Fin 16, d ≠ c → s.b.encWaits d = false) → Completes (.encTableApply c) s fun t => t = { s with b := t.b } ∧
          (∀ d : Fin 16, t.b.commitPend (.enc d) = false ∧ t.b.fld (.enc d) HDR.BLK_STAT_COMMIT_RES = 1 ∧
            t.b.word (evtOf (.enc d)) = s.b.word (evtOf (.enc d)) ||| evt 3) ∧
          ∀ a, 0x24000 ≤ a → a < 0x26000 → a ∈ s.b.regs.map Prod.fst ++ s.b.shad.map Prod.fst → t.b.word a = rwsMix a (s.b.word a) (s.b.shWord a)))) ∧
    (∀ (k : Fin 256) (tw : Tower), z.admits (.enc ⟨4 * tw.val + 3, by omega⟩) → s = z.maWake (.enc ⟨4 * tw.val + 3, by omega⟩) →
      (let used := s.b.slotUsers k ≠ 0 ∨ (s.b.fld (.molt 0) MOLT.STAT_BUSY = 1 ∧ s.b.fld (.molt 0) MOLT.STAT_KEY_B = k.val ∧ s.b.fld (.molt 0) MOLT.STAT_OP = 1)
      (used → Completes (.erase tw k) z fun t => t = { s with b := t.b } ∧ s.b.sets t.b [regOf encHome (ENCT.KS_STAT.nth k)] ∧ s.b.put t.b encHome (ENCT.KS_STAT_ERASE_REF.nth k) 1) ∧
      (¬ used → Completes (.erase tw k) z fun t => t = { s with b := t.b, gdr := { s.gdr with keys := t.gdr.keys } } ∧ s.b.sets t.b [regOf encHome (ENCT.KS_STAT.nth k)] ∧
        t.b.slotState k = 0 ∧ t.b.fld encHome (ENCT.KS_STAT_ERASE_REF.nth k) = 0 ∧ SMap.get (fun _ => none) t.gdr.keys k = none ∧
        ∀ j, j ≠ k.val → SMap.get (fun _ => none) t.gdr.keys j = SMap.get (fun _ => none) s.gdr.keys j))) ∧
    (∀ c : Fin 16, (SMap.get (fun _ => []) s.gdr.reseal c = [] → Completes (.resealDone c) s fun t => t = s) ∧
      (∀ p rest r u, SMap.get (fun _ => []) s.gdr.reseal c = p :: rest → u = s.gdAwake c → u.b.regionAt c (u.b.dpaOf c (4096 * p)) = some r →
        (u.b.gdAway c = true → Completes (.resealDone c) s fun t => t = u) ∧
        (u.b.gdAway c = false → u.b.molting r.no = true → u.b.bound c / 64 = p → Completes (.resealDone c) s fun t => t = { u with arb := t.arb }) ∧
        (u.b.gdAway c = false → ¬ (u.b.molting r.no = true ∧ u.b.bound c / 64 = p) → SMap.get (fun _ => []) u.gdr.held c = [] → Completes (.resealDone c) s fun t =>
          t = { u with b := t.b, gdr := t.gdr, arb := t.arb } ∧ SMap.get (fun _ => []) t.gdr.reseal c = rest ∧ t.b.bit (.enc c) ENC.STAT_RESEAL = !rest.isEmpty ∧
          t.b.fld (.enc c) ENC.RESEAL_CNT = satAdd (2 ^ 32 - 1) (u.b.fld (.enc c) ENC.RESEAL_CNT) 1 ∧ t.b.word (evtOf (.enc c)) &&& evt 10 = evt 10))) ∧
    (∀ (k : Tower) (r kb : Fin 256), z.admits (.molt k) → s = z.maWake (.molt k) → ∀ e ∈ [(Instr.molt k r kb, 1, kb.val), (.fill k r, 2, 0)],
      (moltOk s.b e.2.1 r e.2.2 = false → Completes e.1 z fun t => t = { s with b := t.b } ∧ s.b.raises t.b [regOf (.molt k) MOLT.STAT, evtOf (.molt k)] ∧
        t.b.bit (.molt k) MOLT.STAT_REFUSED = true ∧ t.b.word (evtOf (.molt k)) = s.b.word (evtOf (.molt k)) ||| evt 9) ∧
      (moltOk s.b e.2.1 r e.2.2 = true → Completes e.1 z fun t => t = { s with b := t.b, gdr := { s.gdr with moltAuto := false } } ∧
        (∀ u : Tower, t.b.bit (.molt u) MOLT.STAT_BUSY = true ∧ t.b.bit (.molt u) MOLT.STAT_DONE = false ∧ t.b.bit (.molt u) MOLT.STAT_REFUSED = false ∧
          t.b.fld (.molt u) MOLT.STAT_OP = e.2.1 ∧ t.b.fld (.molt u) MOLT.STAT_REGION = r ∧ t.b.fld (.molt u) MOLT.STAT_KEY_B = e.2.2) ∧
        t.b.mstate r = (if e.2.1 = 1 then 2 else s.b.mstate r) ∧
        ∀ c : Fin 16, (s.b.regionPa c (regionOf (s.b.fld encHome) r)).1 / 64 < 2 ^ 27 → t.b.bound c = (s.b.regionPa c (regionOf (s.b.fld encHome) r)).1 / 64)) ∧
    (∀ (r : Fin 256) q, q = regionOf (s.b.fld encHome) r →
      (s.b.emptySlot = none ∨ q.en = false ∨ q.auto = false ∨ s.b.mstate r ≠ 1 → Completes (.autoMoltFill r) s fun t => t = s) ∧
      (∀ k, s.b.emptySlot = some k → q.en = true → q.auto = true → s.b.mstate r = 1 → SMap.get (fun _ => none) s.gdr.moltQ r = none → s.b.moltBusy = true →
        Completes (.autoMoltFill r) s fun t => t = { s with b := t.b, gdr := { s.gdr with keys := t.gdr.keys, moltQ := t.gdr.moltQ } } ∧ t.b.slotState k = 1 ∧
          SMap.get (fun _ => none) t.gdr.keys k = some (.gen s.b.free) ∧ SMap.get (fun _ => none) t.gdr.moltQ r = some k ∧
          t.b.fld encHome (ENCT.KS_CTRL_OWNER.nth k) = s.b.fld encHome (ENCT.KS_CTRL_OWNER.nth q.key))) ∧
    (∀ (c : Fin 16) (p : Page) q n, p = .molt (tw (c / 4)) → q = regionOf (s.b.fld encHome) (s.b.fld p MOLT.STAT_REGION) → n = s.b.bound c →
      (s.b.moltBusy = false ∨ (s.b.regionPa c q).2 ≤ 64 * n → Completes (.moltLineMove c) s fun t => t = s) ∧
      (s.b.moltBusy = true → 64 * n < (s.b.regionPa c q).2 → ∀ u, u = s.gdAwake c →
        (u.b.gdAway c = true ∨ u.b.gdRefuses c = true → Completes (.moltLineMove c) s fun t => t = u) ∧
        (u.b.gdAway c = false → u.b.gdRefuses c = false → SMap.get (fun _ => []) u.gdr.held c = [] →
          Completes (.moltLineMove c) s (fun t => t = { u with b := t.b, gdr := t.gdr, arb := t.arb } ∧ t.b.bound c = (n + 1) % 2 ^ 27 ∧
            t.b.fld p MOLT.MOVED = satAdd (2 ^ 32 - 1) (u.b.fld p MOLT.MOVED) 1 ∧ t.b.moltBusy = true) ∧
          (∀ b g d key, u.b.fld p MOLT.STAT_OP = 1 → moltRead u.b u.gdr c n (u.b.dpaOf c (64 * n)) q = (b, g, d, false) → slotKey b g (u.b.fld p MOLT.STAT_KEY_B) = some key →
            (n + 1) % 64 ≠ 0 → Completes (.moltLineMove c) s fun t =>
              let x := sealText ⟨q.mode, key, 0⟩ (u.b.dpaOf c (64 * n)) 0 d
              t.gdr.line c n = gdSeal x.1 x.2 0)))) ∧
    ∀ r q, r = s.b.fld (.molt 0) MOLT.STAT_REGION → q = regionOf (s.b.fld encHome) r →
      (s.b.moltBusy = false ∨ moltPassed s.b q = false → Completes .moltDone s fun t => t = s) ∧
      (s.b.moltBusy = true → moltPassed s.b q = true → s.gdr.moltAuto = false → s.gdr.moltQ = [] → Completes .moltDone s fun t => t = { s with b := t.b } ∧
        (∀ u : Tower, t.b.bit (.molt u) MOLT.STAT_BUSY = false ∧ t.b.bit (.molt u) MOLT.STAT_DONE = true ∧
          t.b.word (evtOf (.molt u)) = s.b.word (evtOf (.molt u)) ||| evt 8) ∧
        (s.b.fld (.molt 0) MOLT.STAT_OP = 1 → t.b.mstate r = 0 ∧ t.b.fld encHome (ENCT.RG_CTRL_KEY.nth r) = s.b.fld (.molt 0) MOLT.STAT_KEY_B))

/-! ### The host interface (18) -/

/-- 18 R366 to R368, R372, R377 to R383: a link reset takes the port's functions to their reset values and its sizes into effect and
abandons their requests; a link comes up at an allowed rate and width, a MAX_SPEED its table does not list acting as one it lists (log entry
13); configuration requests are answered, retried, aborted or unsupported; D3hot and orderly removal change what they name, QUIESCED
following the last request outstanding. What rests on the model's choices: log entries 13, 66, 68, 69, 117. -/
def Obligations.LinksConfigurationAndRemoval : Prop :=
  ∀ s : State,
    (s.b.bif = false → ∀ perst, Completes (.linkReset true perst) s fun t => t = s) ∧
    (∀ (portB perst : Bool), (portB = true → s.b.bif = true) → (portB = true ∨ s.phase ≠ 1 ∨ s.loadSrc ≠ 0) → Completes (.linkReset portB perst) s fun t =>
      t = { s with b := t.b, pci := { s.pci with sriov := t.pci.sriov, ide := t.pci.ide, held := t.pci.held, shut := t.pci.shut },
                   boot := if portB && perst then { s.boot with perstB := false } else s.boot } ∧
      t.pci.held = (s.pci.held.map fun y => if (s.b.portPfs portB).contains (fnPf y.fn) then { y with gone := true } else y) ∧
      (if portB then t.b.bit .pci PCI.LINK_STAT_UP_B = false ∧ t.b.fld .pci PCI.LINK_STAT_SPEED_B = 0 ∧ t.b.fld .pci PCI.LINK_STAT_WIDTH_B = 0 ∧ t.pci.shut = s.pci.shut
        else t.b.bit .pci PCI.LINK_STAT_UP_A = false ∧ t.b.fld .pci PCI.LINK_STAT_SPEED_A = 0 ∧ t.b.fld .pci PCI.WIDTH_A_WIDTH = 0 ∧ t.b.bit .pci PCI.RMV_STAT_QUIESCED = false ∧
          t.pci.shut = false) ∧
      (s.b.bit .pci (if portB then PCI.LINK_STAT_UP_B else PCI.LINK_STAT_UP_A) = true → t.b.word (evtOf .pci) = s.b.word (evtOf .pci) ||| evt (if portB then 11 else 9)) ∧
      (∀ f ∈ s.b.portPfs portB, t.pci.sriovOf f = 0 ∧ t.b.fn f = { FnState.init with ready := (s.b.fn f).ready && !(portB && perst), flr := (s.b.fn f).flr }) ∧
      (∀ c, c < 8 → c + 1 ∈ s.b.portPfs portB → ∀ o ∈ [4, 0xC, 0x14], t.b.latWord (tenantReg c o) = s.b.word (tenantReg c o)) ∧
      ∀ n, n < 16 → SMap.get (fun _ => 0) t.pci.ide (16 * b2n portB + n) = 0) ∧
    (s.phase = 1 → s.loadSrc = 0 → s.loadAlone → ∀ perst, Completes (.linkReset false perst) s fun t => t.loadFailed 0x25 (s.rcvd % 2 ^ 32) ∧
      t.b.bit .pci PCI.LINK_STAT_UP_A = false ∧ t.b.bit .pci PCI.RMV_STAT_QUIESCED = false ∧ t.pci.shut = false) ∧
    (∀ (portB : Bool) (speed : Fin 8) (width : Fin 17) (up : Fld) (top : Nat), up = (if portB then PCI.LINK_STAT_UP_B else PCI.LINK_STAT_UP_A) →
      top = listedOr .maxSpeed [1, 2, 3, 4, 5, 6] (s.b.fld .pci PCI.LINK_CTRL_MAX_SPEED) →
      (s.portFree portB = false ∨ s.b.bit .pci up = true ∨ speed = 0 ∨ top < speed.val ∨ s.b.widthOk width = false → Completes (.linkUp portB speed width) s fun t => t = s) ∧
      (s.portFree portB = true → s.b.bit .pci up = false → speed ≠ 0 → speed.val ≤ top → s.b.widthOk width = true → Completes (.linkUp portB speed width) s fun t =>
        (portB = true ∨ s.ldr.armed = false ∨ s.b.fld .ldr LDR.STATE_WSTATE ≠ 0 → t = { s with b := t.b } ∧ t.b.bit .pci up = true ∧
          t.b.fld .pci (if portB then PCI.LINK_STAT_SPEED_B else PCI.LINK_STAT_SPEED_A) = speed ∧
          t.b.fld .pci (if portB then PCI.LINK_STAT_WIDTH_B else PCI.WIDTH_A_WIDTH) = width ∧
          t.b.word (evtOf .pci) = s.b.word (evtOf .pci) ||| (if s.b.sleeps .pci then evt 6 else 0) ||| evt (if portB then 10 else 8) ∧
          (s.b.sleeps .pci = true → s.b.shows t.b .pci (s.b.restState .pci)) ∧
          s.b.keeps t.b ([regOf .pci PCI.LINK_STAT, regOf .pci PCI.WIDTH_A, evtOf .pci] ++ if s.b.sleeps .pci then [regOf .pci HDR.BLK_STAT_STATE] else [])) ∧
        (portB = false → s.ldr.armed = true → s.b.fld .ldr LDR.STATE_WSTATE = 0 → s.b.fld .ldr LDR.LOAD_WINDOW_MS_MS ≠ 0 →
          t = { s with b := t.b, ldr := { s.ldr with openAt := s.b.aonUs } } ∧ t.b.bit .pci up = true ∧ t.b.fld .ldr LDR.STATE_WSTATE = 1))) ∧
    (∀ (f : FnNo) (q : CfgReq),
      (s.b.fnLinkUp f = false → Completes (.configRequest f q) s fun t => t = s) ∧
      (s.b.fnLinkUp f = true → s.fnPresent f = false → Completes (.configRequest f q) s fun t => t = { s with b := s.b.send (.cfgCpl f 1 0) }) ∧
      (s.b.fnLinkUp f = true → s.fnPresent f = true → s.pci.shut = true → Completes (.configRequest f q) s fun t => t = { s with b := s.b.send (.cfgCpl f 4 0) }) ∧
      (s.b.fnLinkUp f = true → s.fnPresent f = true → s.pci.shut = false → ((s.b.fn f).ready = false ∨ (s.b.fn f).flr = true ∨ (s.b.gated = true ∧ cfgIsRead q = true)) →
        Completes (.configRequest f q) s fun t => t = { s with b := s.b.send (.cfgCpl f 2 0) }) ∧
      (s.b.fnLinkUp f = true → s.fnPresent f = true → s.pci.shut = false → (s.b.fn f).ready = true → (s.b.fn f).flr = false →
        (s.b.gated = false → cfgIsRead q = true → Completes (.configRequest f q) s fun t => t = { s with b := s.b.send (.cfgCpl f 0 (s.cfgValue f q)) }) ∧
        (s.b.msixPend = [] → ∀ a m, q = .command a m → Completes (.configRequest f q) s fun t =>
          t = { s with b := t.b } ∧ t.b = { s.b with fns := t.b.fns, out := s.b.out ++ [.cfgCpl f 0 0] } ∧ t.b.fn f = { s.b.fn f with mse := a, bme := m } ∧
            ∀ j, j ≠ f.val → t.b.fn j = s.b.fn j) ∧
        (s.b.msixPend = [] → ∀ a m, q = .msixControl a m → Completes (.configRequest f q) s fun t =>
          t = { s with b := t.b } ∧ t.b = { s.b with fns := t.b.fns, out := s.b.out ++ [.cfgCpl f 0 0] } ∧
            t.b.fn f = { s.b.fn f with msixEn := a && fnVectors f != 0, fmask := m } ∧ ∀ j, j ≠ f.val → t.b.fn j = s.b.fn j) ∧
        (∀ num a m, q = .sriovControl num a m → 1 ≤ f.val → f.val ≤ 8 → Completes (.configRequest f q) s fun t =>
          t = { s with b := t.b, pci := { s.pci with sriov := t.pci.sriov } } ∧
          t.pci.sriovOf f = b2n a + 2 * b2n m + 4 * (if nbit (s.pci.sriovOf f) 0 then s.pci.sriovOf f / 4 else num.val) ∧
          ∀ v, v < 32 → ∀ n, n = vfNo (f.val - 1) (v + 1) → t.b.fn n = (if nbit (s.pci.sriovOf f) 0 && !a then { FnState.init with ready := (s.b.fn n).ready, flr := (s.b.fn n).flr }
            else if !nbit (s.pci.sriovOf f) 0 && a then { s.b.fn n with ready := true } else s.b.fn n))) ∧
      (∀ enter, ¬ (s.b.fnLinkUp f = true ∧ s.fnPresent f = true ∧ (s.b.fn f).ready = true) → Completes (.d3hot f enter) s fun t => t = s) ∧
      (∀ enter, s.b.fnLinkUp f = true → s.fnPresent f = true → (s.b.fn f).ready = true → s.b.msixPend = [] → Completes (.d3hot f enter) s fun t =>
        t = { s with b := { s.b with fns := t.b.fns } } ∧ t.b.fn f = { s.b.fn f with d3hot := enter } ∧ ∀ j, j ≠ f.val → t.b.fn j = s.b.fn j)) ∧
    (s.pci.rmvWait = true ∨ s.pci.shut = true → Completes .rmvReq s fun t => t = s) ∧
    (let quieted := fun (s t : State) => t = { s with b := t.b, pci := { s.pci with rmvWait := false, shut := true } } ∧
      (s.pcieIdle = true → s.b.bit .pci PCI.RMV_STAT_QUIESCED = false → s.b.raises t.b [regOf .pci PCI.RMV_STAT, evtOf .pci] ∧ s.b.put t.b .pci PCI.RMV_STAT_QUIESCED 1 ∧
        t.b.word (evtOf .pci) = s.b.word (evtOf .pci) ||| evt 14) ∧
      (s.pcieIdle = false ∨ s.b.bit .pci PCI.RMV_STAT_QUIESCED = true → t.b = s.b)
    (s.pci.rmvWait = false → s.pci.shut = false → Completes .rmvReq s fun t => t = { s with b := t.b, pci := t.pci } ∧
      s.b.raises t.b [regOf .pci PCI.RMV_STAT, evtOf .pci] ∧ t.b.bit .pci PCI.RMV_STAT_REQ = true ∧ t.b.word (evtOf .pci) &&& evt 13 = evt 13 ∧
      (if s.b.fld .pci PCI.RMV_CTRL_TMO_S = 0 then t.pci = { s.pci with rmvWait := false, rmvAt := s.b.aonUs, shut := true } ∧
          (s.pcieIdle = true → s.b.bit .pci PCI.RMV_STAT_QUIESCED = false → t.b.bit .pci PCI.RMV_STAT_QUIESCED = true ∧ t.b.word (evtOf .pci) &&& evt 14 = evt 14)
        else t.b.bit .pci PCI.RMV_STAT_QUIESCED = s.b.bit .pci PCI.RMV_STAT_QUIESCED ∧ t.pci = { s.pci with rmvWait := true, rmvAt := s.b.aonUs })) ∧
    (s.pci.rmvWait = false ∨ s.b.aonUs < s.pci.rmvAt + 1000000 * s.b.fld .pci PCI.RMV_CTRL_TMO_S → Completes .rmvTimeout s fun t => t = s) ∧
    (s.pci.rmvWait = true → s.pci.rmvAt + 1000000 * s.b.fld .pci PCI.RMV_CTRL_TMO_S ≤ s.b.aonUs → Completes .rmvTimeout s (quieted s)) ∧
    ∀ r : State, r.admits .pci → s = r.maWake .pci →
      (s.pci.rmvWait = false → Completes .rmvAck r fun t => t = s) ∧ (s.pci.rmvWait = true → Completes .rmvAck r (quieted s)))

/-- 18 R371 to R376, R380, R383: a memory request on a link that is down, or that fails its IDE check, reaches nothing; during a removal it
is aborted, and one no BAR claims is unsupported; one that must follow an earlier one, or whose target cannot answer yet, waits; a read of
one block is completed with the answer's bytes; a write of one block is made, and one not answered OK is counted. What rests on the model's
choices: log entries 63, 64, 65. -/
def Obligations.MemoryRequestsOfTheHost : Prop :=
  ∀ (s : State) (f : FnNo) (bar : Fin 6) (o : Nat) (len : Fin 4097) (tag : Fin 16384) (rs : List HopRsp) (l : List (Option Byte)) (ep rx : Bool),
    (∀ ide, s.b.fnLinkUp f = false → Completes (.memReadTlp f bar o len tag ide rs) s (fun t => t = s) ∧ Completes (.memWriteTlp f bar o l ep rx ide rs) s fun t => t = s) ∧
    (∀ (n : Fin 9) (k : Nat), k = 16 * b2n (s.b.onPortB f) + n.val → s.b.fnLinkUp f = true →
      (∀ ok, SMap.get (fun _ => 0) s.pci.ide k ≠ 1 → Completes (.memReadTlp f bar o len tag (some (n, ok)) rs) s (fun t => t = s) ∧
        Completes (.memWriteTlp f bar o l ep rx (some (n, ok)) rs) s fun t => t = s) ∧
      (SMap.get (fun _ => 0) s.pci.ide k = 1 → ∀ i ∈ [Instr.memReadTlp f bar o len tag (some (n, false)) rs, .memWriteTlp f bar o l ep rx (some (n, false)) rs],
        Completes i s fun t => t = { s with b := t.b, pci := { s.pci with ide := t.pci.ide, aer := t.pci.aer } } ∧ SMap.get (fun _ => 0) t.pci.ide k = 2 ∧
          t.pci.aer = s.pci.aer ++ [⟨fnPf f, 2, f⟩])) ∧
    (s.b.fnLinkUp f = true → s.pci.shut = true →
      Completes (.memReadTlp f bar o len tag none rs) s (fun t => t = { s with b := s.b.send (.tlp f tag 4 [] false), pci := { s.pci with aer := s.pci.aer ++ [⟨fnPf f, 0, f⟩] } }) ∧
      Completes (.memWriteTlp f bar o l ep rx none rs) s fun t => t = { s with pci := { s.pci with aer := s.pci.aer ++ [⟨fnPf f, 0, f⟩] } }) ∧
    (s.b.fnLinkUp f = true → s.pci.shut = false →
      (s.tlpClaimed f bar o len = false ∨ s.b.barTarget f bar o = .beyond → Completes (.memReadTlp f bar o len tag none rs) s fun t =>
        t = { s with b := s.b.send (.tlp f tag 1 [] false), pci := { s.pci with aer := s.pci.aer ++ [⟨fnPf f, 3, f⟩] } }) ∧
      (s.tlpClaimed f bar o l.length = false ∨ s.b.barTarget f bar o = .beyond → Completes (.memWriteTlp f bar o l ep rx none rs) s fun t =>
        t = { s with pci := { s.pci with aer := s.pci.aer ++ [⟨fnPf f, 3, f⟩] } }) ∧
      (s.tlpClaimed f bar o len = true →
        (∀ a, s.b.barTarget f bar o = .ma a → ∀ x, x = s.maReadBytes a len → Completes (.memReadTlp f bar o len tag none rs) s fun t =>
          t = { x.1 with b := x.1.b.send (.tlp f tag 0 x.2 false) }) ∧
        (∀ a, s.b.barTarget f bar o = .msix a → Completes (.memReadTlp f bar o len tag none rs) s fun t =>
          t = { s with b := s.b.send (.tlp f tag 0 (wordRange (s.b.msixBar f 0x1000) a len) false) }) ∧
        (∀ a, s.b.barTarget f bar o = .pf0b a → Completes (.memReadTlp f bar o len tag none rs) s fun t =>
          t = { s with b := s.b.send (.tlp f tag 0 (wordRange s.b.pf0bWord a len) false) })) ∧
      (s.tlpClaimed f bar o l.length = true → ∀ n, n = (if ep then s.epNote f bar o else s) →
        (∀ a, s.b.barTarget f bar o = .ma a → Completes (.memWriteTlp f bar o l ep rx none rs) s fun t => t = n.maWriteBytes a l) ∧
        (∀ a, s.b.barTarget f bar o = .msix a → Completes (.memWriteTlp f bar o l ep rx none rs) s fun t => t = { n with b := n.b.msixBytes f a l })) ∧
      (∀ a, s.b.barTarget f bar o = .dpa a →
        (s.tlpClaimed f bar o len = true → ∀ x : Tlp, x = ⟨f, s.b.tlpSplit f bar o len, .read tag, rs, false⟩ →
          (s.b.gated = true ∨ (∃ y ∈ s.pci.held, s.tlpAfter x y = true) → Completes (.memReadTlp f bar o len tag none rs) s fun t =>
            t = { s with pci := { s.pci with held := s.pci.held ++ [x] } }) ∧
          (s.b.gated = false → (∀ y ∈ s.pci.held, s.tlpAfter x y = false) → len ≠ 0 → o % 64 + len.val ≤ 64 →
            (∀ e, s.engineAccess (tlpReq f a len false 0 0 false) false rs = .error e → Completes (.memReadTlp f bar o len tag none rs) s fun t =>
              t = { s.await e with pci := { (s.await e).pci with held := (s.await e).pci.held ++ [x] } }) ∧
            (∀ u ans m, s.engineAccess (tlpReq f a len false 0 0 false) false rs = .ok (u, ans, m) → ans.isData = true → Completes (.memReadTlp f bar o len tag none rs) s fun t =>
              t = { u with b := u.b.send (.tlp f tag 0 (takeBytes ans.data (a % 64) len) (ans.poisonL || ans.poisonH)) }))) ∧
        (s.tlpClaimed f bar o l.length = true → ∀ n, n = (if ep then s.epNote f bar o else s) → ∀ x : Tlp, x = ⟨f, s.b.tlpSplit f bar o l.length, .write l ep rx, rs, false⟩ →
          (n.b.gated = true ∨ (∃ y ∈ n.pci.held, n.tlpAfter x y = true) → Completes (.memWriteTlp f bar o l ep rx none rs) s fun t =>
            t = { n with pci := { n.pci with held := n.pci.held ++ [x] } }) ∧
          (n.b.gated = false → (∀ y ∈ n.pci.held, n.tlpAfter x y = false) → l ≠ [] → o % 64 + l.length ≤ 64 → l.any Option.isSome = true → ∀ z, z = placeEnabled (a % 64) l →
            ∀ u ans m, n.engineAccess (tlpReq f a l.length (!l.all Option.isSome) z.1 z.2 ep) true rs = .ok (u, ans, m) →
            (ans.status = stOK → Completes (.memWriteTlp f bar o l ep rx none rs) s fun t => t = u) ∧
            (ans.status ≠ stOK → Completes (.memWriteTlp f bar o l ep rx none rs) s fun t => t = { u with b := t.b } ∧
              t.b.fld .pci PCI.PW_FAIL_CNT = satAdd (2 ^ 32 - 1) (u.b.fld .pci PCI.PW_FAIL_CNT) 1 ∧ t.b.word (evtOf .pci) &&& evt 12 = evt 12)))))

/-! ### Efmel ports (19) -/

/-- 19 R387 to R389, R391, R397, R399: training runs its steps, and ends UP or failed with its reason; a marker fault or a missing marker
retrains an UP link; DOWN, QUIESCE and presence take the link where they say. What rests on the model's choices: log entries 72, 116. -/
def Obligations.EfmelTrainingAndPresence : Prop :=
  ∀ (s : State) (n : Fin 8) (p : Page) (x : Efl) (st : Nat), p = .efl n → x = eflAt s.efl n → st = s.b.eflState n →
    (let begun := fun (re : Bool) (t : State) => t = { s with b := t.b, efl := t.efl } ∧ (∀ m, m ≠ n.val → eflAt t.efl m = eflAt s.efl m) ∧
        eflAt t.efl n = { x with step := 1, cands := [], attempt := 0, retrain := re, since := s.b.aonUs, rxCount := 0, scr := s.b.bit p EFL.CFG_SCR, rates := s.b.fld p EFL.CFG_RATES, widths := s.b.fld p EFL.CFG_WIDTHS, txKey := keyOf s.b n EFL.TX_KEY_LO EFL.TX_KEY_HI, rxKey := keyOf s.b n EFL.RX_KEY_LO EFL.RX_KEY_HI } ∧
        t.sentBlocks n (eflAt t.efl n) 0x3F 16 0 ∧
        (if re then t.b.eflState n = eRETRAIN ∧ t.b.fld p EFL.RETRAIN_CNT = satAdd (2 ^ 32 - 1) (s.b.fld p EFL.RETRAIN_CNT) 1 ∧
            t.b.word (evtOf p) = s.b.word (evtOf p) ||| evt 12
          else t.b.eflState n = eTRAINING ∧ t.b.fld p EFL.STAT_FAIL_WHY = 0)
    let failed := fun (why : Nat) (t : State) => t.b.eflState n = eFAIL ∧ t.b.fld p EFL.STAT_FAIL_WHY = why ∧ t.b.word (evtOf p) &&& evt 11 = evt 11 ∧
        (eflAt t.efl n).step = 0 ∧ (eflAt t.efl n).retrain = false ∧ t = { s with b := t.b, efl := t.efl, hop := t.hop }
    (∀ r : State, r.admits p → s = r.maWake p →
      (s.b.bit p EFL.STAT_PRSNT = false ∨ s.b.tapOwns = true ∨ st = eTEST ∨ st = eTRAINING ∨ st = eRETRAIN → Completes (.eflTrain n) r fun t => t = s) ∧
      (s.b.bit p EFL.STAT_PRSNT = true → s.b.tapOwns = false → st = eUP → Completes (.eflTrain n) r (begun true)) ∧
      (s.b.bit p EFL.STAT_PRSNT = true → s.b.tapOwns = false → (st = eABSENT ∨ st = eDOWN ∨ st = eFAIL ∨ st = eQUIESCED) → Completes (.eflTrain n) r (begun false)) ∧
      (st = eTEST → Completes (.down n) r fun t => t = s) ∧
      (st ≠ eTEST → Completes (.down n) r fun t => portIsDown s t n (if s.b.bit p EFL.STAT_PRSNT then eDOWN else eABSENT) ∧
        (st = eUP → t.b.word (evtOf p) &&& evt 10 = evt 10)) ∧
      ((st = eUP ∨ st = eRETRAIN) → Completes (.quiesce n) r fun t => t = { s with efl := t.efl } ∧ eflAt t.efl n = { x with quiescing := true, quietAt := s.b.aonUs }) ∧
      (¬ (st = eUP ∨ st = eRETRAIN) → Completes (.quiesce n) r fun t => t = s)) ∧
    (∀ (good : BitVec 16) (adv : EflAdvert) (rev : Bool) (pol : BitVec 16) (cs : List (Nat × Nat)),
      cs = eflCands (adv.rates.toNat &&& x.rates) (adv.widths.toNat &&& x.widths) (good &&& adv.good).toNat →
      (x.step ≠ 1 → Completes (.trainingPhaseEnd n good adv rev pol) s fun t => t = s) ∧
      (x.step = 1 → cs = [] → Completes (.trainingPhaseEnd n good adv rev pol) s (failed 1)) ∧
      (x.step = 1 → cs ≠ [] → adv.scr ≠ x.scr → Completes (.trainingPhaseEnd n good adv rev pol) s (failed 3)) ∧
      (x.step = 1 → cs ≠ [] → adv.scr = x.scr → adv.kchk ≠ kchk x.rxKey → Completes (.trainingPhaseEnd n good adv rev pol) s (failed 4)) ∧
      (x.step = 1 → cs ≠ [] → adv.scr = x.scr → adv.kchk = kchk x.rxKey → Completes (.trainingPhaseEnd n good adv rev pol) s fun t =>
        t = { s with b := t.b, efl := t.efl } ∧ eflAt t.efl n = { x with step := 2, cands := cs, attempt := 0 } ∧ s.b.raises t.b [regOf p EFL.LANES, regOf p EFL.STAT] ∧
          (∀ w r l, cs = (w, r) :: l → t.sentBlocks n (eflAt t.efl n) 0 w good) ∧
          t.b.fld p EFL.LANES_GOOD = good.toNat ∧ t.b.fld p EFL.LANES_PARTNER = adv.good.toNat ∧ t.b.fld p EFL.STAT_POL = pol.toNat ∧
          t.b.bit p EFL.STAT_REVERSED = rev ∧ t.b.eflState n = st)) ∧
    (x.step ≠ 2 → ∀ ok, Completes (.attemptEnd n ok) s fun t => t = s) ∧
    (x.step = 2 → (∀ w r, x.cands[x.attempt]? = some (w, r) → w < 32 → r < 7 → Completes (.attemptEnd n true) s fun t => t = { s with b := t.b, efl := t.efl } ∧
        eflAt t.efl n = { x with step := 3, rxCount := 0 } ∧ s.b.sets t.b [regOf p EFL.STAT] ∧ t.b.fld p EFL.STAT_WIDTH = w ∧ t.b.fld p EFL.STAT_RATE = r + 1 ∧ t.b.eflState n = st) ∧
      (x.cands.length ≤ x.attempt → Completes (.attemptEnd n true) s fun t => t = s) ∧
      (x.attempt + 1 < x.cands.length → Completes (.attemptEnd n false) s fun t => t = { s with b := t.b, efl := t.efl } ∧ t.b = { s.b with out := t.b.out } ∧
        eflAt t.efl n = { x with attempt := x.attempt + 1 } ∧
        ∀ w r, x.cands[x.attempt + 1]? = some (w, r) → t.sentBlocks n (eflAt t.efl n) (x.attempt + 1) w (BitVec.ofNat 16 (s.b.fld p EFL.LANES_GOOD))) ∧
      (x.cands.length ≤ x.attempt + 1 → Completes (.attemptEnd n false) s (failed 2))) ∧
    (∀ ms, ms = s.b.fld p EFL.CFG_RETRY_MS → (st ≠ eFAIL ∨ ms = 0 ∨ s.b.aonUs < x.since + 1000 * ms → Completes (.trainRetry n) s fun t => t = s) ∧
      (st = eFAIL → s.b.bit p EFL.STAT_PRSNT = false ∨ s.b.tapOwns = true → Completes (.trainRetry n) s fun t => t = s) ∧
      (st = eFAIL → ms ≠ 0 → x.since + 1000 * ms ≤ s.b.aonUs → s.b.bit p EFL.STAT_PRSNT = true → s.b.tapOwns = false → Completes (.trainRetry n) s (begun false))) ∧
    (∀ ws ok, ok = (markerOk ws (s.b.fld p EFL.STAT_WIDTH) x.rxCount && (st != eUP || x.rxCells == s.b.markerCells n)) →
      (st ≠ eUP → x.step ≠ 3 → Completes (.marker n ws) s fun t => t = s) ∧
      (st ≠ eUP → x.step = 3 → ok = true → x.retrain = false → Completes (.marker n ws) s fun t => t = { s with b := t.b, efl := t.efl } ∧ t.b.eflState n = eUP ∧
        t.b.fld p EFL.MCOUNT = 0 ∧ t.b.word (evtOf p) = s.b.word (evtOf p) ||| evt 9 ∧ s.b.raises t.b [regOf p EFL.STAT, regOf p EFL.MCOUNT, evtOf p] ∧
        eflAt t.efl n = { x with rxState := lfsrLoad x.rxKey x.rxCount, rxCount := (x.rxCount + 1) % 2 ^ 32, rxCells := 0, step := 0, replay := [], resends := 0, nextSeq := 0, expSeq := 0, nak := false, acked := 1023, credits := 128, owed := 0, slots := [], granted := 0, inWrite := none, inb := [], ackAt := s.b.aonUs }) ∧
      (st ≠ eUP → x.step = 3 → ok = true → x.retrain = true → Completes (.marker n ws) s fun t => t = { s with b := t.b, efl := t.efl } ∧ t.b.eflState n = eUP ∧
        t.b.word (evtOf p) = s.b.word (evtOf p) ||| evt 9 ∧ (eflAt t.efl n).step = 0 ∧ (eflAt t.efl n).retrain = false ∧ (eflAt t.efl n).resends = 0 ∧
        (eflAt t.efl n).replay = x.replay ∧ (eflAt t.efl n).slots = x.slots ∧ (eflAt t.efl n).inb = x.inb ∧ (eflAt t.efl n).nextSeq = x.nextSeq) ∧
      (st = eUP → ok = true → Completes (.marker n ws) s fun t => t = { s with b := t.b, efl := t.efl } ∧ t.b = { s.b with regs := t.b.regs, free := s.b.free + 1 } ∧
        (∀ a, a ≠ regOf p EFL.MCOUNT → t.b.word a = s.b.word a) ∧ eflAt t.efl n = { x with rxState := lfsrLoad x.rxKey x.rxCount, rxCount := (x.rxCount + 1) % 2 ^ 32, rxCells := 0 }) ∧
      (st = eUP → ok = false → Completes (.marker n ws) s (begun true)) ∧
      (st ≠ eUP → x.step = 3 → ok = false → Completes (.marker n ws) s fun t => t = s)) ∧
    (st = eUP → Completes (.missingMarker n) s (begun true)) ∧ (st ≠ eUP → Completes (.missingMarker n) s fun t => t = s) ∧
    (¬ (st = eRETRAIN ∧ x.since + 10000 ≤ s.b.aonUs) → Completes (.retrainTimeout n) s fun t => t = s) ∧
    (st = eRETRAIN → x.since + 10000 ≤ s.b.aonUs → Completes (.retrainTimeout n) s fun t => portIsDown s t n eDOWN ∧ t.b.fld p EFL.STAT_FAIL_WHY = 5 ∧
      t.b.word (evtOf p) &&& evt 10 = evt 10) ∧
    (x.quiescing = true → ((x.slots = [] ∧ x.inb = []) ∨ x.quietAt + 10000 ≤ s.b.aonUs) → Completes (.quiesceDone n) s fun t => portIsDown s t n eQUIESCED) ∧
    (¬ (x.quiescing = true ∧ ((x.slots = [] ∧ x.inb = []) ∨ x.quietAt + 10000 ≤ s.b.aonUs)) → Completes (.quiesceDone n) s fun t => t = s) ∧
    (∀ low, Completes (.prsntChange n low) s fun t => t = { s with efl := t.efl } ∧ eflAt t.efl n = { x with pinLow := low, pinAt := s.b.aonUs } ∧
      ∀ m, m ≠ n.val → eflAt t.efl m = eflAt s.efl m) ∧
    (s.b.bit p EFL.STAT_PRSNT = x.pinLow ∨ s.b.aonUs < x.pinAt + 10000 → Completes (.presenceDebounced n) s fun t => t = s) ∧
    (s.b.bit p EFL.STAT_PRSNT ≠ x.pinLow → x.pinAt + 10000 ≤ s.b.aonUs →
      (x.pinLow = true → st = eABSENT → Completes (.presenceDebounced n) s fun t => t = { s with b := t.b, efl := t.efl } ∧ t.b.bit p EFL.STAT_PRSNT = true ∧
        t.b.word (evtOf p) = s.b.word (evtOf p) ||| (if s.b.sleeps p then evt 6 else 0) ||| evt 8 ∧
        (if s.b.bit p EFL.CTRL_AUTO && !s.b.tapOwns then t.b.eflState n = eTRAINING ∧ (eflAt t.efl n).step = 1 else t.b.eflState n = eDOWN ∧ t.efl = s.efl)) ∧
      (st = eTEST → Completes (.presenceDebounced n) s fun t => t = { s with b := t.b } ∧ t.b.bit p EFL.STAT_PRSNT = x.pinLow ∧ t.b.eflState n = eTEST) ∧
      (x.pinLow = false → st ≠ eTEST → Completes (.presenceDebounced n) s fun t => portIsDown s t n eABSENT ∧ t.b.bit p EFL.STAT_PRSNT = false)))

/-- 19 R390 to R392, R394 to R398, R400: a damaged cell is counted and NAKed, one of another kind is no such event; an accepted request is
injected or answered at the port, write data completes its request, and a completion answers its initiator and frees its slot; an outbound
request is refused or sent; replay and PRBS act as described. What rests on the model's choices: log entries 71, 111, 116. -/
def Obligations.EfmelCellsAndTests : Prop :=
  ∀ (s : State) (n : Fin 8) (p : Page) (x : Efl) (st : Nat), p = .efl n → x = eflAt s.efl n → st = s.b.eflState n →
    (∀ (c : BitVec 640) (pay : List (BitVec 64) × BitVec 64) (bad : Prop), pay = cellPayload x.scr x.rxState c →
      bad = (hdrField c 63 48 ≠ cellCrc c ∨ 2 ≤ hdrField c 1 0 ∨ (hdrField c 1 0 = 1 ∧ 5 ≤ hdrField c 4 2)) →
      ∀ cells, cells = [Instr.idleCell n c, .reqCell n c, .wdataCell n c, .cmpCell n c, .rdataCell n c] →
      (st ≠ eUP → ∀ i ∈ cells, Completes i s fun t => t = s) ∧
      (st = eUP → x.rxCells = s.b.markerCells n → ∀ i ∈ cells, Completes i s fun t => t.b.eflState n = eRETRAIN ∧ (eflAt t.efl n).step = 1 ∧ (eflAt t.efl n).replay = x.replay) ∧
      (st = eUP → x.rxCells ≠ s.b.markerCells n → bad → ∀ i ∈ cells, Completes i s fun t =>
        t = { s with b := t.b, efl := t.efl } ∧ t.b.fld p EFL.CRC_CNT = satAdd (2 ^ 32 - 1) (s.b.fld p EFL.CRC_CNT) 1 ∧
          eflAt t.efl n = { x with rxState := pay.2, rxCells := x.rxCells + 1, nak := true }) ∧
      (st = eUP → x.rxCells ≠ s.b.markerCells n → ¬ bad → ∀ i ∈ [(Instr.idleCell n c, [5]), (.reqCell n c, [0, 1]), (.wdataCell n c, [2]), (.cmpCell n c, [3]), (.rdataCell n c, [4])],
        (if hdrField c 1 0 = 0 then 5 else hdrField c 4 2) ∉ i.2 → Completes i.1 s fun t => t = s) ∧
      (st = eUP → x.rxCells ≠ s.b.markerCells n → ¬ bad → x.replay = [] → ∀ y : Efl, y = { x with rxState := pay.2, rxCells := x.rxCells + 1, credits := min 128 (x.credits + hdrField c 33 26) } →
        (hdrField c 1 0 = 0 → Completes (.idleCell n c) s fun t => t = { s with efl := t.efl } ∧ eflAt t.efl n = y ∧ ∀ m, m ≠ n.val → eflAt t.efl m = eflAt s.efl m) ∧
        (hdrField c 1 0 = 1 → hdrField c 14 5 = x.expSeq → ∀ z : Efl, z = { y with expSeq := (x.expSeq + 1) % 1024, nak := false } →
          (∀ tag typ prio addr bytes be r, hdrField c 4 2 ≤ 1 → cellPacket (hdrField c 4 2) pay.1 = some (.req tag typ prio addr bytes be) →
            r = eflInReq s.b n (s.eflNewTag n) prio addr bytes be 0 false false → bytes ≤ 64 →
            (typ = 4 → Completes (.reqCell n c) s fun t => t = { s with efl := t.efl } ∧ eflAt t.efl n = { z with inWrite := some (tag, prio, addr, bytes, be) }) ∧
            (typ = 1 → s.b.bit p EFL.BIND_EN = true → s.b.ctxResets r.ctx = false → (∀ m, dpaRegion addr.toNat ≠ .efmel m) → Completes (.reqCell n c) s fun t =>
              t = { s with b := t.b, efl := t.efl, hop := t.hop } ∧ eflAt t.efl n = { z with inb := x.inb ++ [(r.tag.val, tag)] } ∧
                t.hop.tagOf r.src r.tag = some ⟨false, r, s.b.aonUs, false, false, s.hop.next, s.b.epoch (s.b.srcTower r.src) (srcLevel r.src), false, false⟩) ∧
            (typ = 1 → s.b.bit p EFL.BIND_EN = false ∨ s.b.ctxResets r.ctx = true → (∀ e ∈ x.inb, e.1 ≠ r.tag.val ∧ e.2 ≠ tag) → Completes (.reqCell n c) s fun t =>
              t = { s with b := t.b, efl := t.efl } ∧ t.sentCell n ((z.expSeq + 1023) % 1024) 0 (x.owed + 1) x.nextSeq (.cmp tag stDISABLED) x.scr ∧ (eflAt t.efl n).inb = x.inb)) ∧
          (∀ tag d pl ph, hdrField c 4 2 = 2 → cellPacket 2 pay.1 = some (.wdata tag d pl ph) →
            (x.inWrite = none → Completes (.wdataCell n c) s fun t => t = { s with efl := t.efl } ∧ eflAt t.efl n = z) ∧
            (∀ tg prio addr bytes be r, x.inWrite = some (tg, prio, addr, bytes, be) → r = eflInReq s.b n (s.eflNewTag n) prio addr bytes be d pl ph → bytes ≤ 64 →
              s.b.bit p EFL.BIND_EN = true → s.b.ctxResets r.ctx = false → (∀ m, dpaRegion addr.toNat ≠ .efmel m) → Completes (.wdataCell n c) s fun t =>
                t = { s with b := t.b, efl := t.efl, hop := t.hop } ∧ eflAt t.efl n = { z with inWrite := none, inb := x.inb ++ [(r.tag.val, tg)] } ∧
                  t.hop.tagOf r.src r.tag = some ⟨true, r, s.b.aonUs, false, false, s.hop.next, s.b.epoch (s.b.srcTower r.src) (srcLevel r.src), false, false⟩)) ∧
          (∀ tag pkt i a, (i, pkt, a) ∈ ((List.range 16).map fun k => (Instr.cmpCell n c, EflPkt.cmp tag k, rspStatus k)) → hdrField c 4 2 = 3 → cellPacket 3 pay.1 = some pkt →
            (SMap.get (fun _ => none) x.slots tag = none → Completes i s fun t => t = { s with efl := t.efl } ∧ eflAt t.efl n = z) ∧
            (∀ w r, SMap.get (fun _ => none) x.slots tag = some (w, r) → Completes i s fun t => t = { s with b := t.b, efl := t.efl } ∧ t.answered (reqWho r) a ∧
              SMap.get (fun _ => none) (eflAt t.efl n).slots tag = none ∧ eflAt t.efl n = { z with slots := (eflAt t.efl n).slots })) ∧
          (∀ tag d pl ph w r, hdrField c 4 2 = 4 → cellPacket 4 pay.1 = some (.rdata tag d pl ph) → SMap.get (fun _ => none) x.slots tag = some (w, r) →
            Completes (.rdataCell n c) s fun t => t = { s with b := t.b, efl := t.efl } ∧ t.answered (reqWho r) (rspData d pl ph) ∧
              SMap.get (fun _ => none) (eflAt t.efl n).slots tag = none ∧ eflAt t.efl n = { z with slots := (eflAt t.efl n).slots })))) ∧
    (st ≠ eUP ∨ x.replay = [] → Completes (.replayTimeout n) s fun t => t = s) ∧
    (st = eUP → x.replay ≠ [] → ¬ (256 ≤ x.replay.length ∧ x.ackAt + 1000 ≤ s.b.aonUs) →
      (s.b.aonUs < x.ackAt + 10 → Completes (.replayTimeout n) s fun t => t = s) ∧
      (x.ackAt + 10 ≤ s.b.aonUs → x.resends < 3 → Completes (.replayTimeout n) s fun t => t = { s with b := t.b, efl := t.efl } ∧
        t.b.fld p EFL.REPLAY_CNT = satAdd (2 ^ 32 - 1) (s.b.fld p EFL.REPLAY_CNT) 1 ∧ eflAt t.efl n = { x with resends := x.resends + 1, ackAt := s.b.aonUs, nak := false, owed := 0, acked := (x.expSeq + 1023) % 1024 } ∧
        t.b.out.length = s.b.out.length + (x.replay.take 256).length ∧
        (x.scr = false → x.nak = false → x.owed = 0 →
          t.b.out = s.b.out ++ (x.replay.take 256).map fun e => .eflCell n (eflCellOf ((x.expSeq + 1023) % 1024) 0 0 e.1 (some e.2) 0))) ∧
      (x.ackAt + 10 ≤ s.b.aonUs → 3 ≤ x.resends → Completes (.replayTimeout n) s fun t => t.b.eflState n = eRETRAIN ∧ (eflAt t.efl n).step = 1 ∧
        t.b.fld p EFL.REPLAY_CNT = satAdd (2 ^ 32 - 1) (s.b.fld p EFL.REPLAY_CNT) 1)) ∧
    (st = eUP → x.replay ≠ [] → 256 ≤ x.replay.length → x.ackAt + 1000 ≤ s.b.aonUs → Completes (.replayTimeout n) s fun t => t.b.eflState n = eRETRAIN ∧ (eflAt t.efl n).step = 1) ∧
    (∀ (r : HopReq) (typ : Fin 16),
      ((∀ m, dpaRegion r.addr.toNat ≠ .efmel m) → Completes (.efmelOutbound r typ) s fun t => t = s) ∧
      (dpaRegion r.addr.toNat = .efmel n →
        (typ.val ≠ 1 → typ.val ≠ 4 → Completes (.efmelOutbound r typ) s fun t => t = { s with b := s.b.answer r (rspStatus stUNSUPPORTED) }) ∧
        (typ.val = 1 ∨ typ.val = 4 → s.mayArrive r (decide (typ.val = 4)) = false → Completes (.efmelOutbound r typ) s fun t => t = s) ∧
        (typ.val = 1 ∨ typ.val = 4 → s.mayArrive r (decide (typ.val = 4)) = true →
          (s.b.enabled p = false → Completes (.efmelOutbound r typ) s fun t => t = { s with b := t.b, hop := t.hop } ∧ t.answered (reqWho r) (rspStatus stDISABLED)) ∧
          (s.b.enabled p = true → r.priv = false → nbit (s.b.fld p EFL.TXMASK_CTX) r.ctx = false → Completes (.efmelOutbound r typ) s fun t =>
            t = { s with b := t.b, hop := t.hop } ∧ t.answered (reqWho r) (rspStatus stFENCE) ∧ t.b.word (evtOf p) &&& evt 13 = evt 13) ∧
          (∀ k, s.b.enabled p = true → (r.priv = true ∨ nbit (s.b.fld p EFL.TXMASK_CTX) r.ctx = true) → st = eUP → x.quiescing = false → s.hop.grant r.src (eflStop n) ≠ 0 →
            x.freeTag = some k → x.credits ≠ 0 → x.replay.length < 256 → typ.val = 1 → Completes (.efmelOutbound r typ) s fun t =>
              t = { s with b := t.b, efl := t.efl, hop := t.hop } ∧ t.hop.grant r.src (eflStop n) = s.hop.grant r.src (eflStop n) - 1 ∧
                (eflAt t.efl n).credits = x.credits - 1 ∧ SMap.get (fun _ => none) (eflAt t.efl n).slots k = some (false, r) ∧ (eflAt t.efl n).nextSeq = (x.nextSeq + 1) % 1024 ∧
                t.sentCell n ((x.expSeq + 1023) % 1024) (b2n x.nak) x.owed x.nextSeq (.req k 1 r.prio (BitVec.ofNat 48 (eflRemote r.addr.toNat)) r.bytes none) x.scr)))) ∧
    (∀ (l : Fin 16) (errs : Word), (st ≠ eTEST → Completes (.prbsLock n l errs) s fun t => t = s) ∧
      (st = eTEST → Completes (.prbsLock n l errs) s fun t => t = { s with b := t.b } ∧ s.b.sets t.b [regOf p EFL.PRBS, regOf p (EFL.PRBS_ERR.nth l)] ∧
        nbit (t.b.fld p EFL.PRBS_LOCK) l = true ∧ t.b.fld p (EFL.PRBS_ERR.nth l) = satAdd (2 ^ 32 - 1) (s.b.fld p (EFL.PRBS_ERR.nth l)) errs.toNat)) ∧
    ∀ r : State, r.admits p → s = r.maWake p →
    (∀ on, (on = true → (st = eUP ∨ st = eRETRAIN) → Completes (.prbsTest n on) r fun t => t = { s with b := t.b } ∧ s.b.sets t.b [regOf p EFL.CTRL] ∧ s.b.put t.b p EFL.CTRL_TEST 1) ∧
      (on = true → ¬ (st = eUP ∨ st = eRETRAIN) → Completes (.prbsTest n on) r fun t => t = { s with b := t.b, efl := t.efl } ∧ t.b.eflState n = eTEST ∧
        t.b.bit p EFL.CTRL_TEST = true ∧ eflAt t.efl n = { x with step := 0 } ∧ s.b.sets t.b [regOf p EFL.CTRL, regOf p EFL.STAT]) ∧
      (on = false → st ≠ eTEST → Completes (.prbsTest n on) r fun t => t = { s with b := t.b } ∧ s.b.sets t.b [regOf p EFL.CTRL] ∧ s.b.put t.b p EFL.CTRL_TEST 0) ∧
      (on = false → st = eTEST → s.b.bit p EFL.CTRL_AUTO = false → Completes (.prbsTest n on) r fun t => t = { s with b := t.b } ∧
        t.b.eflState n = (if s.b.bit p EFL.STAT_PRSNT then eDOWN else eABSENT) ∧ t.b.fld p EFL.PRBS_LOCK = 0 ∧ ∀ l, l < 16 → t.b.word (regOf p (EFL.PRBS_ERR.nth l)) = 0) ∧
      (on = false → st = eTEST → s.b.bit p EFL.CTRL_AUTO = true → Completes (.prbsTest n on) r fun t => t.b.bit p EFL.CTRL_TEST = false ∧
        t.b.eflState n = (if !s.b.bit p EFL.STAT_PRSNT then eABSENT else if s.b.tapOwns then eDOWN else eTRAINING))) ∧
    Completes (.prbsInj n) r (fun t => t = if st = eTEST then { s with b := s.b.send (.eflInject n) } else s) ∧
    Completes (.prbsClr n) r (fun t => t = { s with b := t.b } ∧ t.b.fld p EFL.PRBS_LOCK = 0 ∧ (∀ l, l < 16 → t.b.word (regOf p (EFL.PRBS_ERR.nth l)) = 0) ∧
      s.b.sets t.b (regOf p EFL.PRBS :: (List.range 16).map fun l => regOf p (EFL.PRBS_ERR.nth l)))

/-! ### Clocks, power and temperature (20, 21) -/

/-- 20 R408 to R411, R415 to R420; 21 R430: a ramp tick applies due CLK commits and takes the effective targets; a step moves one divider
and RAMPST shows what still moves; EN is written; a trip of either detector goes to holdover, or gates the clocks where FIO is not
qualified; the clocks resume from FIO, or at the end of SAFE; REF_OK and RETURN go back to REFCLK. What rests on the model's choices: log
entry 5. -/
def Obligations.ClocksRampAndHoldOver : Prop :=
  ∀ s : State,
    (let ramps := fun (u : Tower) (t : State) => (∀ n, n < 32 → nbit (t.b.fld (.clk u) CLK.RAMPST) n = !(t.b.gclkDiv u n == t.clk.target u n)) ∧
        (s.b.fld (.clk u) CLK.RAMPST ≠ 0 → t.b.fld (.clk u) CLK.RAMPST = 0 → t.b.word (evtOf (.clk u)) &&& evt 8 = evt 8)
    (s.b.gated = true → Completes .rampTick s fun t => t = s) ∧
    (s.b.gated = false → Completes .rampTick s fun t => t = { s with b := t.b, clk := { s.clk with tgt := t.clk.tgt } } ∧ ∀ u : Tower, ramps u t ∧
      (∀ n, n < 32 → t.clk.target u n = effTarget t.b u n) ∧ (∀ n, n < 32 → t.b.gclkDiv u n = s.b.gclkDiv u n) ∧
      (if s.b.commitPend (.clk u) = true ∧ s.b.parts (.clk u) = 1 then t.b.commitPend (.clk u) = false ∧ t.b.fld (.clk u) HDR.BLK_STAT_COMMIT_RES = 1 ∧
          t.b.word (evtOf (.clk u)) &&& evt 3 = evt 3 ∧ ∀ n, n < 32 → t.b.fld (.clk u) (CLK.GCLK_CFG_DIV.nth n) = s.b.shFld (.clk u) (CLK.GCLK_CFG_DIV.nth n)
        else ∀ n, n < 32 → t.b.word (regOf (.clk u) (CLK.GCLK_CFG_DIV.nth n)) = s.b.word (regOf (.clk u) (CLK.GCLK_CFG_DIV.nth n)))) ∧
    ∀ (u : Tower) (n : Fin 32),
      (s.b.gated = true ∨ s.b.gclkDiv u n = s.clk.target u n → Completes (.rampStep u n) s fun t => t = s) ∧
      (s.b.gated = false → s.b.gclkDiv u n ≠ s.clk.target u n → s.clk.target u n < 4096 → Completes (.rampStep u n) s fun t => t = { s with b := t.b } ∧
        s.b.raises t.b [regOf (.clk u) (CLK.GCLK_CUR_DIV.nth n), regOf (.clk u) CLK.RAMPST, regOf (.clk u) HDR.BLK_STAT_STATE, evtOf (.clk u)] ∧
        t.b.gclkDiv u n = rampNext (s.b.gclkDiv u n) (s.clk.target u n) ∧ ramps u t) ∧
      ∀ (en : Bool) (r : State), r.admits (.clk u) → s = r.maWake (.clk u) → Completes (.gclkEnWrite u n en) r fun t => t = { s with b := t.b } ∧ s.b.sets t.b [regOf (.clk u) (CLK.GCLK_CFG_EN.nth n)] ∧
        s.b.put t.b (.clk u) (CLK.GCLK_CFG_EN.nth n) (b2n en)) ∧
    (∀ r : State, r.admits .ckr → s = r.maWake .ckr → Completes .rampGo r fun t => t = { s with b := { s.b with commitParts := t.b.commitParts } } ∧
      ∀ u : Tower, t.b.parts (.clk u) = if s.b.commitPend (.clk u) then 1 else s.b.parts (.clk u)) ∧
    (let ref := s.b.fld .ckr CKR.STAT_REF
    let tripped := fun (t : State) => t = { s with b := t.b, clk := t.clk } ∧ t.b.fld .ckr CKR.TRIPS = satAdd (2 ^ 32 - 1) (s.b.fld .ckr CKR.TRIPS) 1 ∧
        t.b.bit .ckr CKR.STAT_REF_GOOD = false ∧ t.b.word (evtOf .ckr) &&& evt 8 = evt 8 ∧ t.clk.finePass = false ∧ t.clk.tgt = s.clk.tgt ∧ t.clk.gate = s.clk.gate ∧
        (ref = 2 ∨ ref = 3 → t.b.fld .ckr CKR.STAT_REF = ref ∧ 0 ∈ t.b.nmeQueued ∧ t.b.gated = s.b.gated) ∧
        (ref ≠ 2 → ref ≠ 3 → s.b.bit .ckr CKR.STAT_FIO_QUAL = true → t.b.fld .ckr CKR.STAT_REF = 1 ∧ (ref ≠ 1 → t.b.word (evtOf .ckr) &&& evt 9 = evt 9) ∧
          nbit (t.b.fld .evr EVR.NME_STAT_CAUSE) 0 = true ∧ t.b.gated = s.b.gated) ∧
        (ref ≠ 2 → ref ≠ 3 → s.b.bit .ckr CKR.STAT_FIO_QUAL = false → t.b.fld .ckr CKR.STAT_REF = 2 ∧ t.b.bit .ckr CKR.STAT_FIO_RUN = true ∧ t.b.gated = true ∧
          (∀ u : Tower, t.b.bit (.clk u) CLK.GATED_TRIP = true) ∧ t.b.nmeQueued = s.b.nmeQueued ++ [0] ∧ t.clk.tripAt = s.b.aonUs)
    let resumed := fun (r : Nat) (t : State) => t = { s with b := t.b, gdr := t.gdr } ∧ t.b.fld .ckr CKR.STAT_REF = r ∧ t.b.gated = false ∧ t.b.nmeQueued = [] ∧
        (∀ u : Tower, t.b.bit (.clk u) CLK.GATED_TRIP = false) ∧ (0 ∈ s.b.nmeQueued → nbit (t.b.fld .evr EVR.NME_STAT_CAUSE) 0 = true)
    let returned := fun (ev : Word) (t : State) => t = { s with b := t.b } ∧ t.b.fld .ckr CKR.STAT_REF = 0 ∧ t.b.word (evtOf .ckr) = s.b.word (evtOf .ckr) ||| ev ||| evt 12 ∧
        s.b.raises t.b [regOf .ckr CKR.STAT, evtOf .ckr] ∧ (s.b.bit .ckr CKR.CTRL_FINE = false → t.b.bit .ckr CKR.STAT_FIO_RUN = false ∧ t.b.bit .ckr CKR.STAT_FIO_QUAL = false)
    Completes .coarseTrip s tripped ∧
    (∀ dev : Word, (¬ (s.b.bit .ckr CKR.CTRL_FINE = true ∧ s.b.bit .ckr CKR.STAT_FIO_QUAL = true) → Completes (.fineMeasurement dev) s fun t => t = s) ∧
      (s.b.bit .ckr CKR.CTRL_FINE = true → s.b.bit .ckr CKR.STAT_FIO_QUAL = true →
        (s.b.fld .ckr CKR.MON_PPM ≠ 0 → s.b.fld .ckr CKR.MON_PPM < devSize dev → Completes (.fineMeasurement dev) s fun t => tripped t ∧ t.b.word (regOf .ckr CKR.MEAS) = dev) ∧
        (s.b.fld .ckr CKR.MON_PPM = 0 ∨ devSize dev ≤ s.b.fld .ckr CKR.MON_PPM → Completes (.fineMeasurement dev) s fun t =>
          t = { s with b := t.b, clk := { s.clk with finePass := true } } ∧ s.b.sets t.b [regOf .ckr CKR.MEAS] ∧ t.b.word (regOf .ckr CKR.MEAS) = dev))) ∧
    (s.b.bit .ckr CKR.STAT_FIO_RUN = false → Completes .fioQualified s fun t => t = s) ∧
    (s.b.bit .ckr CKR.STAT_FIO_RUN = true → (ref ≠ 2 ∨ s.b.dead = true) → Completes .fioQualified s fun t => t = { s with b := t.b } ∧ s.b.sets t.b [regOf .ckr CKR.STAT] ∧
      s.b.put t.b .ckr CKR.STAT_FIO_QUAL 1) ∧
    (s.b.bit .ckr CKR.STAT_FIO_RUN = true → ref = 2 → s.b.dead = false → Completes .fioQualified s fun t => resumed 1 t ∧ t.b.bit .ckr CKR.STAT_FIO_QUAL = true) ∧
    (ref ≠ 2 ∨ s.b.aonUs < s.clk.tripAt + 1000 → Completes .fioFail s fun t => t = s) ∧
    (ref = 2 → s.clk.tripAt + 1000 ≤ s.b.aonUs → Completes .fioFail s fun t => t = { s with b := t.b } ∧ t.b.fld .ckr CKR.STAT_REF = 3 ∧ t.b.nmeQueued = [] ∧
      t.b.word (evtOf .ckr) = s.b.word (evtOf .ckr) ||| (evt 13 ||| evt 10) ∧ t.b.gated = s.b.gated) ∧
    (ref ≠ 3 ∨ s.b.dead = true → Completes .safeExit s fun t => t = s) ∧
    (ref = 3 → s.b.dead = false → Completes .safeExit s fun t => resumed 0 t ∧ t.b.bit .ckr CKR.STAT_REF_GOOD = true) ∧
    (let may := ref = 1 ∧ s.b.bit .ckr CKR.STAT_REF_GOOD = false ∧ (s.b.bit .ckr CKR.CTRL_FINE = true → s.clk.finePass = true)
    (¬ may → Completes .refOk s fun t => t = s) ∧
    (may → s.b.bit .ckr CKR.CTRL_AUTO_RET = false → Completes .refOk s fun t => t = { s with b := t.b } ∧ s.b.raises t.b [regOf .ckr CKR.STAT, evtOf .ckr] ∧
      s.b.put t.b .ckr CKR.STAT_REF_GOOD 1 ∧ t.b.word (evtOf .ckr) = s.b.word (evtOf .ckr) ||| evt 11) ∧
    (may → s.b.bit .ckr CKR.CTRL_AUTO_RET = true → Completes .refOk s (returned (evt 11)))) ∧
    ∀ r : State, r.admits .ckr → s = r.maWake .ckr → (ref = 1 → s.b.bit .ckr CKR.STAT_REF_GOOD = true → Completes .clkReturn r (returned 0)) ∧
      (ref ≠ 1 ∨ s.b.bit .ckr CKR.STAT_REF_GOOD = false → Completes .clkReturn r fun t => t = s))

/-- 21 R428 to R438, R441: a run of the budget arbiter moves PL by one and recomputes the levels; a rail's current limit sets PL to 7; a
sample records what the sensors read, fails those out of range or missing four times, finds T_hot, moves TL and trips; shutdown stops the
clocks for good; PWR_FAIL puts every tower at level 7 and the memories in self-refresh. What rests on the model's choices: log entries 73,
74. -/
def Obligations.BudgetAndTemperature : Prop :=
  ∀ s : State,
    (let levels := fun (pf : Bool) (t : State) => (∀ u : Tower, t.b.lvl u = dueLevel t.b pf u) ∧
        t.b.fld .bgt BGT.LEVEL_LMAX = Nat.max (Nat.max (t.b.lvl 0) (t.b.lvl 1)) (Nat.max (t.b.lvl 2) (t.b.lvl 3)) ∧ t.b.fld .bgt BGT.LEVEL_FCODE = t.b.fld .bgt BGT.LEVEL_LMAX / 2 ∧
        (s.b.fld .bgt BGT.LEVEL_LMAX = 0 → t.b.fld .bgt BGT.LEVEL_LMAX ≠ 0 → t.b.word (evtOf .bgt) &&& evt 9 = evt 9) ∧
        (s.b.fld .bgt BGT.LEVEL_LMAX ≠ 0 → t.b.fld .bgt BGT.LEVEL_LMAX = 0 → t.b.word (evtOf .bgt) &&& evt 10 = evt 10)
    (s.b.fld .bgt BGT.PERIOD_MS = 0 → Completes .budgetRun s fun t => t = s) ∧
    (∀ p bud, s.b.fld .bgt BGT.PERIOD_MS ≠ 0 → p = s.b.pkgPower → bud = s.b.fld .bgt BGT.BUDGET_UNITS → s.b.commitPend .bgt = false → Completes .budgetRun s fun t =>
      t = { s with b := t.b, pwr := { s.pwr with under := t.pwr.under } } ∧ levels s.pwr.pwrFail t ∧ (p < 65536 → t.b.fld .bgt BGT.PKG_PWR_UNITS = p) ∧
      (bud < p → t.b.word (evtOf .bgt) &&& evt 8 = evt 8 ∧ t.pwr.under = 0 ∧ ∀ u : Tower, t.b.pl u = if raiseTower s.b = some u.val then s.b.pl u + 1 else s.b.pl u) ∧
      (p ≤ bud → 15 * bud ≤ 16 * p → t.pwr.under = 0 ∧ ∀ u : Tower, t.b.pl u = s.b.pl u) ∧
      (p ≤ bud → 16 * p < 15 * bud →
        (s.pwr.under + 1 < Nat.max 1 (s.b.fld .bgt BGT.DWELL_RUNS) → t.pwr.under = s.pwr.under + 1 ∧ ∀ u : Tower, t.b.pl u = s.b.pl u) ∧
        (Nat.max 1 (s.b.fld .bgt BGT.DWELL_RUNS) ≤ s.pwr.under + 1 → t.pwr.under = 0 ∧
          ∀ u : Tower, t.b.pl u = if lowerTower s.b = some u.val then s.b.pl u - 1 else s.b.pl u)) ∧
      t.b.fld .bgt BGT.THR_CNT = (if t.b.fld .bgt BGT.LEVEL_LMAX = 0 then s.b.fld .bgt BGT.THR_CNT else satAdd (2 ^ 32 - 1) (s.b.fld .bgt BGT.THR_CNT) 1)) ∧
    (s.b.fld .bgt BGT.PERIOD_MS ≠ 0 → s.b.commitPend .bgt = true → Completes .budgetRun s fun t =>
      t.b.commitPend .bgt = false ∧ t.b.fld .bgt HDR.BLK_STAT_COMMIT_RES = 1 ∧ t.b.word (evtOf .bgt) &&& evt 3 = evt 3) ∧
    (∀ (u : Tower) (r : Fin 4), Completes (.ivrLimit u r) s fun t => t = { s with b := t.b } ∧ levels s.pwr.pwrFail t ∧ t.b.pl u = 7 ∧
      (∀ v : Tower, v ≠ u → t.b.pl v = s.b.pl v) ∧ t.b.word (evtOf (.pwr u)) &&& evt 10 = evt 10 ∧
      t.b.fld (.pwr u) PWR.LIMIT_CNT = satAdd (2 ^ 32 - 1) (s.b.fld (.pwr u) PWR.LIMIT_CNT) 1) ∧
    (∀ (pw : List PowerRep) (rd : List SensorRead), Completes (.sensorSample pw rd) s fun t => t = { s with b := t.b, pwr := t.pwr } ∧ t.pwr.under = s.pwr.under ∧
      t.pwr.pwrFail = s.pwr.pwrFail ∧ levels s.pwr.pwrFail t ∧ (∀ r, pw = [r] → t.b.pinPwr r.tower = r.pin.toNat) ∧
      (∀ (u : Tower) (i : Fin 448) (q : SensorRead), rd.find? (fun r => r.tower.val == u.val && r.sensor.val == i.val) = some q →
        (∀ v, q.value = some v → t.b.fld (.thm u) (THM.SENSOR_READ.nth i) = v.toNat ∧
          (s.b.sState u i ≠ 2 → (v.toInt < -240 ∨ 600 < v.toInt) → t.b.sState u i = 2 ∧ t.b.word (evtOf (.thm u)) &&& evt 10 = evt 10)) ∧
        (q.value = none → t.b.fld (.thm u) (THM.SENSOR_READ.nth i) = s.b.fld (.thm u) (THM.SENSOR_READ.nth i) ∧
          (s.b.sState u i ≠ 2 → (if (s.pwr.cntOf u i).missing < 3 then t.b.sState u i = s.b.sState u i ∧ (t.pwr.cntOf u i).missing = (s.pwr.cntOf u i).missing + 1
            else t.b.sState u i = 2)))) ∧
      (∀ u : Tower, t.b.fld (.thm u) THM.HOT_T = ofS 11 (hottest t.b u).1 ∧ t.b.fld (.thm u) THM.HOT_SENSOR = (hottest t.b u).2 ∧
        t.b.tl u = (if s.b.tl u < dueTl t.b u then dueTl t.b u else if dueTl t.b u < s.b.tl u ∧ 10 ≤ SMap.get (fun _ => 10) s.pwr.sinceFall u.val then s.b.tl u - 1 else s.b.tl u) ∧
        SMap.get (fun _ => 0) t.pwr.tripMs u.val = (if t.b.atTrip u then SMap.get (fun _ => 0) s.pwr.tripMs u.val + 1 else 0) ∧
        (t.b.atTrip u = true → SMap.get (fun _ => 0) s.pwr.tripMs u.val = 0 → t.b.word (evtOf (.thm u)) &&& evt 12 = evt 12 ∧ nbit (t.b.fld .evr EVR.NME_STAT_CAUSE) 2 = true ∧
          t.pwr.trips = s.pwr.trips + 1))) ∧
    (let over_ := fun u : Tower => s.b.fld (.thm u) THM.TRIP_HOLD_MS < SMap.get (fun _ => 0) s.pwr.tripMs u.val
    (s.b.dead = true ∨ (∀ u, ¬ over_ u) → Completes .thermalShutdown s fun t => t = s) ∧
    (s.b.dead = false → (∃ u, over_ u) → Completes .thermalShutdown s fun t => t = { s with b := t.b } ∧ t.b.dead = true ∧ t.b.gated = true ∧
      (∀ u : Tower, t.b.bit (.clk u) CLK.GATED_TRIP = true) ∧ t.b.bit .ano ANO.CRK_FROZEN = true)) ∧
    (s.pwr.pwrFail = true → Completes .pwrFail s fun t => t = s) ∧
    (s.pwr.pwrFail = false → Completes .pwrFail s fun t => t = { s with b := t.b, pwr := { s.pwr with pwrFail := true } } ∧ levels true t ∧ (∀ u : Tower, t.b.lvl u = 7) ∧
      nbit (t.b.fld .evr EVR.NME_STAT_CAUSE) 1 = true ∧ t.b.bit .ano ANO.CRK_FROZEN = true ∧
      ∀ c : Fin 16, t.b.bit (.gd c) GD.STAT_SREF = (s.b.bit (.gd c) GD.STAT_SREF || s.b.fld (.gd c) GD.RATE_CUR != 0)) ∧
    (s.pwr.pwrFail = false → Completes .pwrFailRecover s fun t => t = s) ∧
    (s.pwr.pwrFail = true → Completes .pwrFailRecover s fun t => t = { s with b := t.b, pwr := { s.pwr with pwrFail := false } } ∧ levels false t ∧
      s.b.raises t.b [regOf .bgt BGT.LEVEL, evtOf .bgt]))

/-! ### Bond groups, resets (23, 24, 18 R381) -/

/-- 23 R472 to R479, R481: the watched signal advances; copies that disagree take a group to VOTING, fail a watch, or take it to SUSPECT; a
bond test that is due steers each failed signal to an unused spare, or leaves the group LAME where too few are left; the changes not yet
recorded are written with a trailer to the copies, when they fit. What rests on the model's choices: log entry 79. -/
def Obligations.BondGroupsAndRecords : Prop :=
  ∀ s : State,
    (∀ (u : Tower) (g : Fin 65536) (p : Page) (k : Nat), p = .vbd u → k = s.b.fld p (VBD.GTAB_ST_WATCH_K.nth g) →
      (let watched := (grpKind g).isSome = true ∧ s.b.gated = false ∧ s.b.bit p VBD.CTRL_MON_EN = true ∧ s.b.grpState u g ≤ 1
      (¬ watched → Completes (.watchAdvance u g) s (fun t => t = s) ∧ ∀ w, Completes (.watchDisagree u g w) s fun t => t = s) ∧
      (watched → Completes (.watchAdvance u g) s (fun t => t = { s with b := t.b } ∧ s.b.sets t.b [regOf p (VBD.GTAB_ST_WATCH_K.nth g)] ∧
          s.b.put t.b p (VBD.GTAB_ST_WATCH_K.nth g) ((k + 1) % 64)) ∧
        (s.b.watches u g = [] → ∀ w, Completes (.watchDisagree u g w) s fun t => t = s) ∧
        (∀ w1, s.b.watches u g = [w1] → ∀ w, Completes (.watchDisagree u g w) s fun t => t = { s with b := t.b } ∧ t.b.grpState u g = 4 ∧
          s.b.raises t.b [regOf p (VBD.GTAB_ST_STATE.nth g), evtOf p] ∧ t.b.word (evtOf p) = s.b.word (evtOf p) ||| evt 9) ∧
        ∀ w1 w2, s.b.watches u g = [w1, w2] →
          Completes (.watchDisagree u g 0) s (fun t => t = { s with b := t.b, vbd := { s.vbd with bad := t.vbd.bad } } ∧ t.b.grpState u g = 3 ∧
            t.b.fld p (VBD.GTAB_ST_LAST_SIG.nth g) = k ∧ t.vbd.badOf u g = s.vbd.badOf u g ||| (1#68 <<< k) ∧
            s.b.raises t.b [regOf p (VBD.GTAB_ST_STATE.nth g), evtOf p] ∧ t.b.word (evtOf p) = s.b.word (evtOf p) ||| evt 9) ∧
          ∀ e ∈ [((1 : Fin 3), w1), (2, w2)], Completes (.watchDisagree u g e.1) s fun t =>
            t = { s with b := t.b, vbd := { s.vbd with todo := s.vbd.todo ++ [BitVec.ofNat 64 (recFail u g e.2)] } } ∧
            t.b.spare u g e.2 = 64 + s.b.spare u g e.2 % 64 ∧ (∀ i, i < 4 → i ≠ e.2 → t.b.spare u g i = s.b.spare u g i) ∧
            t.b.grpState u g = spareGrade (t.b.unused u g).length ∧ t.b.word (evtOf p) &&& evt 12 = evt 12))) ∧
    (∀ (u : Tower) (g : Fin 65536) (p : Page) (fails : BitVec 68), p = .vbd u → (s.testDue u g = false → Completes (.bondTest u g fails) s fun t => t = s) ∧
      (∀ sigs free, s.testDue u g = true → (∀ i, i < 4 → fails.getLsbD (64 + i) = false) → free = s.b.unused u g →
        sigs = (List.range 64).filter (fun j => (s.vbd.badOf u g ||| fails).getLsbD j && !(s.b.carried u g).contains j) →
        (free.length < sigs.length → Completes (.bondTest u g fails) s fun t => t.b.grpState u g = 5 ∧ t.b.fld p (VBD.GTAB_ST_LAST_SIG.nth g) = sigs.getLastD 0 ∧
          t.b.fld p (VBD.GTAB_ST_WATCH_K.nth g) = 0 ∧ t.vbd.badOf u g = 0 ∧ BitVec.ofNat 64 (recLame u g) ∈ t.vbd.todo ∧ t.b.word (evtOf p) &&& evt 10 = evt 10) ∧
        (sigs.length ≤ free.length → Completes (.bondTest u g fails) s fun t => t = { s with b := t.b, vbd := t.vbd } ∧
          t.vbd.todo = s.vbd.todo ++ (sigs.zip free).map (fun e => BitVec.ofNat 64 (recSteer u g e.2 e.1)) ∧ t.vbd.records = s.vbd.records ∧ t.vbd.badOf u g = 0 ∧
          (∀ e ∈ sigs.zip free, t.b.spare u g e.2 = 128 + e.1) ∧ (∀ i, i < 4 → (∀ e ∈ sigs.zip free, e.2 ≠ i) → t.b.spare u g i = s.b.spare u g i) ∧
          t.b.grpState u g = spareGrade (t.b.unused u g).length ∧ SMap.get (fun _ => 0) t.vbd.testAt (grpKey u g) = s.b.aonUs ∧
          t.b.fld p VBD.STAT_STEERED = satAdd 0xFFFF (s.b.fld p VBD.STAT_STEERED) sigs.length)) ∧
      (s.testDue u g = true → ∀ i, i < 4 → fails.getLsbD (64 + i) = true → Completes (.bondTest u g fails) s fun t => nbit (t.b.spare u g i) 6 = true)) ∧
    ∀ (copies : Fin 4) (n q : Nat), n = s.vbd.todo.length → q = Nat.max (s.b.fld .fus FUS.REPAIR_SEQ) s.vbd.topSeq + 1 →
      (s.vbd.todo = [] ∨ s.ano.run = 0 ∨ s.vbd.freeRecs < Nat.max 2 (n + 1) → Completes (.repairRecordWrite copies) s fun t => t = s) ∧
      (s.vbd.todo ≠ [] → s.ano.run ≠ 0 → Nat.max 2 (n + 1) ≤ s.vbd.freeRecs → Completes (.repairRecordWrite copies) s fun t =>
        t = { s with b := t.b, vbd := { s.vbd with records := t.vbd.records, todo := t.vbd.todo } } ∧ s.b.raises t.b [regOf .fus FUS.REPAIR_SEQ, regOf .fus FUS.REPAIR_FREE_RECORDS, evtOf .fus] ∧
        (∀ k i, k < 3 → i < 4096 → SMap.get (fun _ => 0) t.vbd.records (4096 * k + i) =
          if k < copies.val ∧ (s.vbd.copy k).length ≤ i ∧ i ≤ (s.vbd.copy k).length + n then
            (s.vbd.todo ++ [BitVec.ofNat 64 (15 + (q % 65536) <<< 16 + crc32 (s.vbd.copy k ++ s.vbd.todo) <<< 32)]).getD (i - (s.vbd.copy k).length) 0
          else SMap.get (fun _ => 0) s.vbd.records (4096 * k + i)) ∧
        (if copies.val = 3 then t.vbd.todo = [] ∧ t.b.fld .fus FUS.REPAIR_SEQ = q % 65536 ∧ t.b.word (evtOf .fus) &&& evt 8 = evt 8 else t.vbd.todo = s.vbd.todo))

/-- 24 R493 to R495; 18 R381; 08 R181; 22 R461: a CONTEXT reset rejects busy contexts and drops the others' write enables until its end
releases them; an FLR resets its function and the queues, geckos and write enables of its context until FLR_DONE; WARM stops what runs and
begins stage 4 again; its release begins stage 5; WARM_REL releases what is committed. What rests on the model's choices: log entries 42,
84, 106. -/
def Obligations.ContextFunctionAndWarmResets : Prop :=
  ∀ s : State,
    (let act := s.b.fld .pkg PKG.CTX_STAT_ACTIVE
    (∀ (r : State) (mask : BitVec 8) (rej : Nat), r.admits .pkg → s = r.maWake .pkg → rej = mask.toNat &&& s.b.busyCtxs →
      (mask = 0 → Completes (.ctxRst mask) r fun t => t = s) ∧
      (mask ≠ 0 → act ≠ 0 → Completes (.ctxRst mask) r fun t => t = { s with b := t.b } ∧ s.b.raises t.b [evtOf .pkg] ∧ t.b.word (evtOf .pkg) = s.b.word (evtOf .pkg) ||| evt 10) ∧
      (mask ≠ 0 → act = 0 → Completes (.ctxRst mask) r fun t => t.b.fld .pkg PKG.CTX_STAT_REJ = rej ∧ t.b.fld .pkg PKG.CTX_STAT_ACTIVE = mask.toNat - rej ∧
        t.b.word (evtOf .pkg) = (if rej = 0 then s.b.word (evtOf .pkg) else s.b.word (evtOf .pkg) ||| evt 10) ∧
        (∀ (k : Tower) (c : Ctx), t.b.we k c = (s.b.we k c && !nbit (mask.toNat - rej) c)) ∧ t = { s with b := t.b, fab := t.fab, pins := t.pins, hop := t.hop, clk := t.clk })) ∧
    (act = 0 → Completes .ctxRstEnd s fun t => t = s) ∧
    (act ≠ 0 → Completes .ctxRstEnd s fun t => t.b.fld .pkg PKG.CTX_STAT_ACTIVE = 0 ∧ t.b.word (evtOf .pkg) = s.b.word (evtOf .pkg) ||| evt 9 ∧
      ∀ (k : Tower) (c : Ctx), t.b.we k c = (s.b.we k c || (nbit act c && !t.b.releaseBarred c)))) ∧
    (∀ c : Ctx, (¬ (s.b.fnLinkUp (c + 1) = true ∧ (s.b.fn (c + 1)).ready = true) → Completes (.flr c) s fun t => t = s) ∧
      (s.b.fnLinkUp (c + 1) = true → (s.b.fn (c + 1)).ready = true → s.canonical → (∀ g, g < 128 → s.b.gkCtx g = c.val → (s.gko.at g).cache = []) →
        (∀ q, (queueAt s.que q).ctx = c.val → (queueAt s.que q).wait = []) →
        Completes (.flr c) s fun t => t.b.fn (c + 1) = { FnState.init with ready := true, flr := true } ∧ nbit (t.b.fld .pci PCI.FLR_STAT_PF) (c + 1) = true ∧
          t.b.word (evtOf .pci) = s.b.word (evtOf .pci) ||| evt 15 ∧ (∀ q, queueAt t.que q = if (queueAt s.que q).ctx = c.val then (queueAt s.que q).flr else queueAt s.que q) ∧
          (∀ g, g < 128 → t.gko.at g = if s.b.gkCtx g = c.val then Gecko.init else s.gko.at g) ∧ t.gko.mem = s.gko.mem ∧ t.ponds = s.ponds ∧ t.cfg = s.cfg ∧ t.ch = s.ch ∧
          ∀ (k : Tower) (d : Ctx), t.b.we k d = (s.b.we k d && d != c)) ∧
      ∀ (v : Fin 32) f, f = vfNo c (v + 1) → (¬ (s.b.fnLinkUp f = true ∧ s.fnPresent f = true) → Completes (.flrVf c v) s fun t => t = s) ∧
        (s.b.fnLinkUp f = true → s.fnPresent f = true → Completes (.flrVf c v) s fun t => t = { s with b := t.b, pci := { s.pci with held := t.pci.held } } ∧
          t.pci.held = (s.pci.held.map fun y => if y.fn == f then { y with gone := true } else y) ∧ nbit (t.b.fld .pci PCI.FLR_STAT_PF) (c + 1) = true ∧
          t.b.word (evtOf .pci) = s.b.word (evtOf .pci) ||| evt 15 ∧ s.b.keeps t.b [regOf .pci PCI.FLR_STAT_PF, evtOf .pci] ∧ t.b.fn f = { FnState.init with ready := (s.b.fn f).ready, flr := true } ∧ ∀ j, j ≠ f → t.b.fn j = s.b.fn j)) ∧
    (¬ (s.b.fnLinkUp 0 = true ∧ (s.b.fn 0).ready = true) → Completes .flrPf0 s fun t => t = s) ∧
    (s.b.fnLinkUp 0 = true → (s.b.fn 0).ready = true →
      Completes .flrPf0 s (fun t => t.b.fn 0 = { FnState.init with ready := true, flr := true } ∧ nbit (t.b.fld .pci PCI.FLR_STAT_PF) 0 = true ∧
        t.b.word (evtOf .pci) &&& evt 15 = evt 15 ∧ t.ano.cmds = s.ano.cmds.filter (fun c => c.mctp || c.res.isSome) ∧
        (s.ano.cmds.any (fun c => !c.mctp && c.res.isNone) = true → t.b.bit .ano ANO.MB_STAT_BUSY = false)) ∧
      (s.loadAlone → s.loadSrc = 0 → (s.phase = 1 ∨ s.phase = 2) → Completes .flrPf0 s fun t => t.loadFailed 0x30 0)) ∧
    (∀ f : FnNo, ((s.b.fn f).flr = false → Completes (.flrDone f) s fun t => t = s) ∧
      ((s.b.fn f).flr = true → Completes (.flrDone f) s fun t => t.b.fn f = { s.b.fn f with flr := false } ∧ (∀ j, j ≠ f.val → t.b.fn j = s.b.fn j) ∧
        (fnPf f < 9 → nbit (t.b.fld .pci PCI.FLR_STAT_PF) (fnPf f) = allFns.any fun g => fnPf g == fnPf f && g != f.val && (s.b.fn g).flr) ∧
        (∀ (k : Tower) (c : Ctx), t.b.we k c = (s.b.we k c || (c.val + 1 == f.val && !t.b.releaseBarred c))) ∧
        (f.val = 0 ∨ 9 ≤ f.val → t = { s with b := t.b } ∧ t.b = { s.b with regs := t.b.regs, fns := t.b.fns } ∧ s.b.keeps t.b [regOf .pci PCI.FLR_STAT_PF]))) ∧
    (s.b.fld .pkg PKG.RST_STAT_STAGE ≤ 4 ∨ s.b.dead = true → Completes .warm s fun t => t = { s with boot := { s.boot with perstA := false } }) ∧
    (4 < s.b.fld .pkg PKG.RST_STAT_STAGE → s.b.dead = false → Completes .warm s fun t => t.b.fld .pkg PKG.RST_STAT_STAGE = 4 ∧ t.b.fld .pkg PKG.RST_STAT_CAUSE = 1 ∧
      t.boot.warm = true ∧ t.boot.perstA = false ∧ t.boot.relDue = false ∧ t.boot.srst = [] ∧ t.que = [] ∧ t.arb = [] ∧ t.gko.g = [] ∧ t.clk.tgt = [] ∧
      t.ano.run = 3 ∧ t.ano.cmds = [] ∧ t.ano.sessions = [] ∧ t.ano.buf = [] ∧ t.pci.sriov = [] ∧ t.pci.held = [] ∧ t.b.fns = [] ∧ t.ponds.cmd = [] ∧ t.hop.tags = [] ∧ t.hop.grants = [] ∧
      ∀ c : Fin 16, t.b.fld (.gd c) GD.RATE_CUR ≠ 0 → t.b.bit (.gd c) GD.STAT_SREF = true) ∧
    (∀ fails, (s.boot.warm = false → Completes (.warmRelease fails) s fun t => t = s) ∧
      (s.boot.warm = true → Completes (.warmRelease fails) s fun t => t.boot.warm = false ∧ t.boot.perstA = true ∧ t.b.fld .pkg PKG.RST_STAT_STAGE = 5 ∧
        t.b.word (evtOf .pkg) &&& evt 8 = evt 8)) ∧
    (s.boot.warm = true → Completes (.warmRelease []) s fun t => t = { s with b := t.b, gdr := { s.gdr with trKind := t.gdr.trKind }, efl := t.efl, hop := t.hop, boot := t.boot } ∧
      t.boot = { s.boot with warm := false, perstA := true, since := s.b.aonUs, relDue := s.b.bit .pkg PKG.RST_CFG_WARM_REL } ∧
      ∀ c : Fin 16, s.b.fld (.gd c) GD.RATE_CUR ≠ 0 → t.b.gdTraining c = true ∧ SMap.get (fun _ => 0) t.gdr.trKind c = 2 ∧ t.b.bit (.gd c) GD.STAT_SREF = false) ∧
    (let due := s.boot.relDue = true ∧ (∀ c : Fin 16, s.b.gdTraining c = false) ∧ ¬ (s.b.part.op = true ∧ nbit (s.b.fld .ldr LDR.CONTENT_CTX) 0 = false)
    (¬ due → Completes .warmRel s fun t => t = s) ∧
    (due → Completes .warmRel s fun t => t.boot = { s.boot with relDue := false } ∧ ∀ (k : Tower) (c : Ctx), t.b.we k c = (s.b.we k c || (nbit s.b.warmMask c && !s.b.releaseBarred c))))

/-! ### Start-up, bank supplies and the TAP (24 R486 to R488; 25 R507 to R513; 18 R378) -/

/-- 24 R486 to R488; 22 R457; 19 R399: POR returns everything but what power-off keeps to its reset value, the croak log where its SRAM
passes; a brown-out keeps the AON domain and starts again at stage 1; the boot stages follow one another, sampling straps and supplies,
locking the root, loading fuses, training memories, making the functions ready and opening the load window. What rests on the model's
choices: log entries 80, 81, 82. -/
def Obligations.PowerOnAndBootStages : Prop :=
  ∀ s : State,
    (let stage := s.b.fld .pkg PKG.RST_STAT_STAGE
    let anew := fun (po : Ponds) (cf : CfgMem) (gd : Gdr) (t : State) => t.ponds = po ∧ t.arb = State.reset.arb ∧ t.clk = State.reset.clk ∧ t.cham = State.reset.cham ∧ t.fab = State.reset.fab ∧
        t.cfg = cf ∧ t.que = State.reset.que ∧ t.hop = State.reset.hop ∧ t.gko = State.reset.gko ∧ t.ldr = State.reset.ldr ∧ t.pci = State.reset.pci ∧
        t.gdr = { gd with ctrKey := s.b.free } ∧ t.pins = { State.reset.pins with ext := s.pins.ext } ∧ t.vbd = { State.reset.vbd with records := s.vbd.records } ∧
        t.boot = { State.reset.boot with perstA := s.boot.perstA, perstB := s.boot.perstB } ∧ t.pending = s.pending ∧ t.b.part = s.b.part ∧ t.b.fuse = s.b.fuse ∧
        t.ano.slots = s.ano.slots ∧ t.ano.erases = s.ano.erases ∧ t.ano.life = { s.ano.life with pors := s.ano.life.pors + 1 } ∧ t.ano.cmds = [] ∧ t.ano.run = 3 ∧
        t.b.bit .pkg PKG.JTAG_CTRL_PINCTL = !s.b.part.op ∧ t.b.shad = [] ∧ t.b.fns = [] ∧ t.b.dead = false
    let kept := [regOf .pkg PKG.JTAG_CTRL, regOf .ano ANO.BTN] ++ crkWords ++ (List.finRange 8).map fun n => regOf (.efl n) EFL.STAT
    let ready := fun (a b : Bool) (t : State) => ∀ f, f < 10 → (t.b.fn f).ready = ((s.b.fn f).ready || ((if s.b.onPortB f then b else a) && (f != 9 || s.b.bif)))
    (∀ (sram button : Bool) (prsnt : BitVec 8), Completes (.por sram button prsnt) s fun t => anew State.reset.ponds State.reset.cfg State.reset.gdr t ∧ t.pwr = State.reset.pwr ∧ t.b.aonUs = 0 ∧ t.b.bit .ano ANO.BTN_HELD = button ∧
      t.ano.btnPor = button ∧ t.ano.skip = button ∧ (∀ a, a ∉ kept → t.b.word a = regReset a) ∧
      (∀ n : Fin 8, t.b.bit (.efl n) EFL.STAT_PRSNT = prsnt.getLsbD n ∧ t.b.eflState n = (if prsnt.getLsbD n then eDOWN else eABSENT) ∧ (eflAt t.efl n).pinLow = prsnt.getLsbD n) ∧
      (if sram then t.b.crkLog = s.b.crkLog ∧ t.b.crkNext = s.b.crkNext ∧ ∀ a ∈ crkWords, t.b.word a = s.b.word a else t.b.crkNext = 1 ∧ (t.b.crkAt 0).code = 2)) ∧
    (stage < 2 → Completes .brownout s fun t => t = s) ∧
    (2 ≤ stage → Completes .brownout s fun t => anew { State.reset.ponds with passAt := passAll 128 s.b.aonUs }
        { State.reset.cfg with passAt := passAll 4 s.b.aonUs } { State.reset.gdr with passAt := passAll 16 s.b.aonUs } t ∧ t.pwr = { State.reset.pwr with pwrFail := s.pwr.pwrFail } ∧ t.b.aonUs = s.b.aonUs ∧ t.b.crkLog = s.b.crkLog ∧
      t.b.crkNext = s.b.crkNext ∧ t.b.fld .pkg PKG.RST_STAT_STAGE = 1 ∧ t.b.fld .pkg PKG.RST_STAT_CAUSE = 2 ∧ t.ano.presses = s.ano.presses ∧
      (∀ a ∈ crkWords ++ [regOf .pkg PKG.RST_CFG, regOf .ano ANO.BTN], t.b.word a = s.b.word a) ∧
      (∀ a, a ∉ kept ++ [regOf .pkg PKG.RST_STAT, regOf .pkg PKG.RST_CFG, regOf .bgt BGT.LEVEL, evtOf .bgt] → t.b.word a = regReset a) ∧
      ∀ n : Fin 8, t.b.bit (.efl n) EFL.STAT_PRSNT = s.b.bit (.efl n) EFL.STAT_PRSNT ∧
        t.b.eflState n = (if s.b.bit (.efl n) EFL.STAT_PRSNT then eDOWN else eABSENT) ∧ (eflAt t.efl n).pinLow = (eflAt s.efl n).pinLow) ∧
    (∀ (pb : Bool) (vio v18 : BitVec 12), (2 ≤ stage → Completes (.t0 pb vio v18) s fun t => t = s) ∧
      (stage < 2 → Completes (.t0 pb vio v18) s fun t => t = { s with b := { s.b with regs := t.b.regs, free := t.b.free }, fab := t.fab, pins := t.pins, boot := { s.boot with since := s.b.aonUs } } ∧
        t.b.fld .pkg PKG.RST_STAT_STAGE = 2 ∧ t.b.bit .pkg PKG.STRAP_PE_BIF = pb ∧ t.b.bit .pci PCI.LINK_STAT_BIF = pb ∧
        (∀ k : Fin 12, t.b.bit (.iob k) IOB.BANK_CFG_VIO_OK = vio.getLsbD k ∧ t.b.bit (.iob k) IOB.BANK_CFG_VIO_18 = (vio.getLsbD k && v18.getLsbD k)) ∧
        ∀ a, a ∉ [regOf .pkg PKG.RST_STAT, regOf .pkg PKG.STRAP, regOf .pci PCI.LINK_STAT] ++ (List.finRange 12).map (fun k => regOf (.iob k) IOB.BANK_CFG) → t.b.word a = s.b.word a)) ∧
    (stage ≠ 2 → ∀ good, Completes (.clocksDone good) s fun t => t = s) ∧
    (stage = 2 → Completes (.clocksDone true) s (fun t => t = { s with b := { s.b with regs := t.b.regs, rc := 0 } } ∧ t.b.fld .pkg PKG.RST_STAT_STAGE = 3 ∧
        t.b.bit .ckr CKR.STAT_LOCK = true ∧ t.b.fld .ckr CKR.STAT_REF = 0 ∧ t.b.bit .ckr CKR.STAT_REF_GOOD = true ∧
        t.b.bit .ckr CKR.STAT_FIO_RUN = s.b.bit .ckr CKR.CTRL_FINE ∧ t.b.bit .ckr CKR.STAT_FIO_QUAL = s.b.bit .ckr CKR.CTRL_FINE ∧
        ∀ a, a ∉ [regOf .pkg PKG.RST_STAT, regOf .ckr CKR.STAT] → t.b.word a = s.b.word a) ∧
      (s.b.fld .ckr CKR.STAT_REF < 2 → Completes (.clocksDone false) s fun t => t.b.fld .pkg PKG.RST_STAT_STAGE = 3 ∧ t.b.bit .pkg PKG.RST_STAT_HOLDOVER = true ∧ t.b.rc = 0 ∧
        t.b.bit .ckr CKR.STAT_LOCK = true ∧ t.b.fld .ckr CKR.STAT_REF = 1 ∧ t.b.bit .ckr CKR.STAT_REF_GOOD = false ∧ nbit (t.b.fld .evr EVR.NME_STAT_CAUSE) 0 = true)) ∧
    (stage ≠ 3 → Completes .fusesDone s fun t => t = s) ∧
    (stage = 3 → Completes .fusesDone s fun t => t.b.fld .pkg PKG.RST_STAT_STAGE = 4 ∧ t.b.bit .fus FUS.STATE_OP = s.b.part.op ∧
      t.b.bit .fus FUS.STATE_ENROLLED = s.b.fuse.enrolled ∧ t.b.bit .fus FUS.STATE_OWN_IKEY = s.b.fuse.ownIkey ∧
      ∀ c : Fin 16, t.b.rateMax c ≠ 0 → t.b.gdTraining c = true ∧ SMap.get (fun _ => 0) t.gdr.trKind c = 3) ∧
    (∀ fails, (stage ≠ 4 ∨ s.boot.warm = true → Completes (.testDone fails) s fun t => t = s) ∧
      (stage = 4 → s.boot.warm = false → Completes (.testDone fails) s fun t => t.b.fld .pkg PKG.RST_STAT_STAGE = (if s.boot.perstA then 6 else 5) ∧ t.ldr.armed = true ∧
        t.boot = s.boot ∧ t.b.word (evtOf .pkg) &&& evt 8 = evt 8)) ∧
    (stage = 4 → s.boot.warm = false → Completes (.testDone []) s fun t => t = { s with b := t.b, efl := t.efl, ldr := { s.ldr with armed := true } } ∧
      ready s.boot.perstA s.boot.perstB t ∧
      t.b.fld .pkg PKG.RST_STAT_BOOT_MS = Nat.min 65535 ((s.b.aonUs - s.boot.since) / 1000)) ∧
    (5 ≤ stage → Completes (.perstRelease true) s fun t => t = { s with b := { s.b with fns := t.b.fns }, boot := { s.boot with perstB := true } } ∧ ready s.boot.perstA true t) ∧
    (stage < 5 → Completes (.perstRelease true) s fun t => t = { s with boot := { s.boot with perstB := true } }) ∧
    (s.boot.warm = true → Completes (.perstRelease false) s fun t => t = s) ∧
    (s.boot.warm = false → stage < 5 → Completes (.perstRelease false) s fun t => t = { s with boot := { s.boot with perstA := true } }) ∧
    (s.boot.warm = false → 5 ≤ stage → Completes (.perstRelease false) s fun t => t = { s with b := { s.b with fns := t.b.fns, regs := t.b.regs }, boot := { s.boot with perstA := true } } ∧
      ready true s.boot.perstB t ∧ t.b.fld .pkg PKG.RST_STAT_STAGE = (if s.ldr.armed = true ∧ stage = 5 then 6 else stage) ∧ s.b.word (evtOf .pkg) = t.b.word (evtOf .pkg)) ∧
    ∀ k : Fin 12, (s.b.vioOk k = false → Completes (.vioLost k) s fun t => t = s) ∧
      (s.b.vioOk k = true → Completes (.vioLost k) s fun t => t = { s with b := t.b, fab := t.fab, pins := t.pins } ∧ t.b.vioOk k = false ∧
        t.b.word (evtOf (.iob k)) = s.b.word (evtOf (.iob k)) ||| evt 8 ∧ ∀ a, a ∉ [regOf (.iob k) IOB.BANK_CFG, evtOf (.iob k)] → t.b.word a = s.b.word a) ∧
      ∀ v18, (s.b.vioOk k = true ∨ stage < 2 → Completes (.vioBack k v18) s fun t => t = s) ∧
        (s.b.vioOk k = false → 2 ≤ stage → Completes (.vioBack k v18) s fun t => t = { s with b := t.b, fab := t.fab, pins := t.pins } ∧ t.b.vioOk k = true ∧
          t.b.bit (.iob k) IOB.BANK_CFG_VIO_18 = v18 ∧ t.b.word (evtOf (.iob k)) = s.b.word (evtOf (.iob k)) ||| evt 9 ∧
          ∀ a, a ∉ [regOf (.iob k) IOB.BANK_CFG, evtOf (.iob k)] → t.b.word a = s.b.word a))

/-- 25 R509 to R513: without PINCTL a boundary instruction acts as BYPASS; with it, it takes pin control, its cells take what is shifted in,
and the PCIe and Efmel links go down; the other instructions select one bit or IDCODE and end pin control, as TAP_RESET and clearing PINCTL
do; a change of PINCTL is measured. What rests on the model's choices: log entry 32. -/
def Obligations.TestAccessPort : Prop :=
  ∀ s : State,
    (let cap : BitVec 8 := if s.b.pinctl then 5 else 1
    let taken := fun (t : State) => t.b.tapOwns = true ∧ t.b.bit .pci PCI.LINK_STAT_UP_A = false ∧ (s.b.bif = true → t.b.bit .pci PCI.LINK_STAT_UP_B = false) ∧
        t.pins.tapAt = s.b.aonUs ∧ t.b.word (evtOf .pkg) &&& evt 11 = evt 11 ∧ ∀ n : Fin 8, t.b.eflState n = (if s.b.eflState n = eABSENT then eABSENT else if s.b.bit (.efl n) EFL.CTRL_TEST then eTEST else eDOWN)
    let ended := fun (t : State) => t.b.tapOwns = false ∧ t.b.pinctl = s.b.pinctl ∧ t.cfg = s.cfg ∧ t.ponds = s.ponds ∧ t.efl = s.efl
    (∀ cells, ∀ e ∈ [(Instr.extest cells, (0 : BitVec 8)), (.samplePreload cells, 2), (.extestPulse cells, 5), (.extestTrain cells, 6)],
      (s.b.pinctl = false → s.b.tapOwns = false → Completes e.1 s fun t => t = { s with b := s.b.send (.tap 1 1 0), pins := { s.pins with ir := e.2 } }) ∧
      (s.b.pinctl = false → s.b.tapOwns = true → Completes e.1 s fun t => ended t ∧ t.pins.ir = e.2 ∧ t.b.out.getLast? = some (.tap 1 1 0)) ∧
      (s.b.pinctl = true → (∃ v, Completes e.1 s fun t => t.pins.ir = e.2 ∧ t.b.out.getLast? = some (.tap 5 192 v)) ∧
        (∀ i o en, cells = [(i, o, en)] → Completes e.1 s fun t => SMap.get (fun _ => false) t.pins.bscan (2 * i.val) = o ∧ SMap.get (fun _ => false) t.pins.bscan (2 * i.val + 1) = en ∧
          ∀ j, j ≠ 2 * i.val → j ≠ 2 * i.val + 1 → SMap.get (fun _ => false) t.pins.bscan j = SMap.get (fun _ => false) s.pins.bscan j) ∧
        (s.b.tapOwns = false → Completes e.1 s taken) ∧
        (s.b.tapOwns = true → Completes e.1 s fun t => t = { s with b := t.b, fab := t.fab, pins := t.pins } ∧ t.b.tapOwns = true ∧
          t.b.word (evtOf .pkg) = s.b.word (evtOf .pkg) ||| evt 11))) ∧
    (∀ e ∈ [(Instr.highz, (3 : BitVec 8)), (.clamp, 4)],
      (s.b.pinctl = false → s.b.tapOwns = false → Completes e.1 s fun t => t = { s with b := s.b.send (.tap 1 1 0), pins := { s.pins with ir := e.2 } }) ∧
      (s.b.pinctl = false → s.b.tapOwns = true → Completes e.1 s fun t => ended t ∧ t.pins.ir = e.2) ∧
      (s.b.pinctl = true → s.b.tapOwns = false → Completes e.1 s fun t => taken t ∧ t.pins.ir = e.2 ∧ t.b.out.getLast? = some (.tap 5 1 0)) ∧
      (s.b.pinctl = true → s.b.tapOwns = true → Completes e.1 s fun t => t = { s with b := t.b, pins := { s.pins with ir := e.2 } } ∧ s.b.raises t.b [evtOf .pkg] ∧
        t.b.word (evtOf .pkg) = s.b.word (evtOf .pkg) ||| evt 11 ∧ t.b.out.getLast? = some (.tap 5 1 0))) ∧
    (∀ op : BitVec 8, ∀ e ∈ [(Instr.idcode, (1 : BitVec 8), 32, (s.b.word (regOf .pkg PKG.IDCODE)).toNat), (.bypass op, if op.toNat ≤ 6 then 0xFF else op, 1, 0)],
      (s.b.tapOwns = false → Completes e.1 s fun t => t = { s with b := s.b.send (.tap cap e.2.2.1 e.2.2.2), pins := { s.pins with ir := e.2.1 } }) ∧
      (s.b.tapOwns = true → Completes e.1 s fun t => ended t ∧ t.pins.ir = e.2.1 ∧ t.b.out.getLast? = some (.tap cap e.2.2.1 e.2.2.2))) ∧
    (s.b.tapOwns = false → Completes .tapReset s fun t => t = { s with pins := { s.pins with ir := 1 } }) ∧
    (s.b.tapOwns = true → Completes .tapReset s fun t => ended t ∧ t.pins.ir = 1) ∧
    ∀ r : State, r.admits .pkg → s = r.maWake .pkg →
    (∀ v, (s.b.pinctl = v → Completes (.pinctlWrite v) r fun t => t = s) ∧
      (s.b.pinctl = !v → tapControl s.pins.ir = false → s.b.tapOwns = false → Completes (.pinctlWrite v) r fun t =>
        t = { s with b := { s.b with regs := t.b.regs, meas := t.b.meas, free := s.b.free + 1 } } ∧ t.b.pinctl = v ∧ t.b.digest 13 = Config.freeBits 384 s.b.free ∧
          ∀ a, a ≠ regOf .pkg PKG.JTAG_CTRL → t.b.word a = s.b.word a)) ∧
    (s.b.pinctl = true → s.b.tapOwns = true → Completes (.pinctlWrite false) r fun t => t.b.tapOwns = false ∧ t.b.pinctl = false) ∧
    (s.b.pinctl = false → s.b.tapOwns = false → tapControl s.pins.ir = true → Completes (.pinctlWrite true) r fun t => taken t ∧ t.b.pinctl = true))

/-! ### Anole (22; 23 R469, R470, R479) -/

/-- 22 R445 to R451, R453, R454: a command is served only as the oldest, unserved, while an Anole runs, ROM recovery answering any opcode
but its four with a status the spec leaves open; information, measurements, reports, keys, enrolment and the monotonic fuses are answered in
the order of their checks, and a burn is shown, measured and reported. What rests on the model's choices: log entries 11, 75, 76, 103. -/
def Obligations.MailboxInformationKeysAndFuses : Prop :=
  ∀ (s : State) (c : MbCmd) (rest : List MbCmd),
    (∀ (u f sg ml : Bool) (r : Fin 65) (cp : Fin 4) (ver svn : Word),
      ∀ e ∈ [(Instr.getInfo, 0x01), (.getMeas, 0x02), (.attest, 0x03), (.keyGen, 0x10), (.keyImport, 0x11), (.ikeySet f, 0x12), (.enroll u f, 0x30), (.opkeyInstall f, 0x31),
        (.opkeyRevoke f, 0x32), (.svnAdvance r, 0x28), (.stage f, 0x20), (.verify u sg ml svn, 0x21), (.activate f ver svn, 0x22), (.repairCommit cp, 0x38), (.crkArchive f, 0x40),
        (.crkUnfreeze, 0x41), (.telemetry, 0x48), (.lifetime, 0x49)],
      (s.ano.cmds = [] → Completes e.1 s fun t => t = s) ∧
      (s.ano.cmds = c :: rest → (c.op ≠ e.2 ∨ c.res ≠ none ∨ s.anoRuns = false) → Completes e.1 s fun t => t = s) ∧
      (s.ano.cmds = c :: rest → c.op = e.2 → c.res = none → s.anoRuns = true → s.b.bit .ano ANO.STAT_ROM = true → romOp e.2 = false → Completes e.1 s fun t =>
        t = ({ s with b := s.b.bump } : State).replied c rest (Config.freeBits 8 s.b.free).toNat [])) ∧
    (let keeps := fun (i : Instr) (st : Nat) (rsp : List Byte) => Completes i s fun t => t = s.replied c rest st rsp
    let burns := fun (f : Fuse → Fuse) (st : Nat) (t : State) => t = ({ s with b := t.b } : State).replied c rest st [] ∧ t.b.fuse = f s.b.fuse ∧
        t.b.word (evtOf .fus) &&& evt 8 = evt 8 ∧ t.b.digest 3 = Config.freeBits 384 s.b.free
    (s.serving 0x01 c rest → (c.req ≠ [] → keeps .getInfo mbBADLEN []) ∧
      (c.req = [] → Completes .getInfo s fun t => ∃ l : List Byte, l.length = 64 ∧ t = ({ s with b := s.b.bump } : State).replied c rest mbOK l)) ∧
    (∀ m, m = (if c.a0 = 0 then 0x3FFE else c.a0.toNat) → s.serving 0x02 c rest → (c.req ≠ [] → keeps .getMeas mbBADLEN []) ∧ (c.req = [] → maskOk m = false → keeps .getMeas mbBADARG []) ∧
      (c.req = [] → maskOk m = true → keeps .getMeas mbOK ((measIndexes m).flatMap (measBlock s.b)))) ∧
    (s.serving 0x03 c rest → (c.req.length ≠ 32 → keeps .attest mbBADLEN []) ∧ (c.req.length = 32 → maskOk c.a0.toNat = false → keeps .attest mbBADARG []) ∧
      (c.req.length = 32 → maskOk c.a0.toNat = true → Completes .attest s fun t => ∃ a b : List Byte, a.length = 64 ∧ b.length = 3309 ∧
        t = ({ s with b := s.b.bump.bump } : State).replied c rest mbOK
          (leBytes c.a0.toNat 4 ++ c.req ++ leBytes s.b.aonUs 8 ++ (measIndexes c.a0.toNat).flatMap (measBlock s.b) ++ a ++ b))) ∧
    (∀ k, k = c.a0.toNat →
      (s.serving 0x10 c rest → (c.req ≠ [] → keeps .keyGen mbBADLEN []) ∧ (c.req = [] → 256 ≤ k → keeps .keyGen mbBADARG []) ∧
        (c.req = [] → k < 256 → s.b.slotState k ≠ 0 → keeps .keyGen mbINUSE []) ∧
        (c.req = [] → k < 256 → s.b.slotState k = 0 → Completes .keyGen s fun t => t = ({ s with b := { s.b with regs := t.b.regs, free := s.b.free + 1 }, gdr := { s.gdr with keys := t.gdr.keys } } : State).replied c rest mbOK [] ∧
          t.b.slotState k = 1 ∧ SMap.get (fun _ => none) t.gdr.keys k = some (.gen s.b.free) ∧ ∀ j, j ≠ k → SMap.get (fun _ => none) t.gdr.keys j = SMap.get (fun _ => none) s.gdr.keys j)) ∧
      (s.serving 0x11 c rest → (c.req.length ≠ 72 → keeps .keyImport mbBADLEN []) ∧ (c.req.length = 72 → 256 ≤ k → keeps .keyImport mbBADARG []) ∧
        (c.req.length = 72 → k < 256 → (s.ano.open_ c.a1 = false ∨ s.ano.unwrap c.a1 c.req = none) → keeps .keyImport mbSESSION []) ∧
        (∀ l, c.req.length = 72 → k < 256 → s.ano.unwrap c.a1 c.req = some l → (s.b.slotState k ≠ 0 → keeps .keyImport mbINUSE []) ∧
          (s.b.slotState k = 0 → Completes .keyImport s fun t => t = ({ s with b := { s.b with regs := t.b.regs }, gdr := { s.gdr with keys := t.gdr.keys } } : State).replied c rest mbOK [] ∧
            t.b.slotState k = 1 ∧ SMap.get (fun _ => none) t.gdr.keys k = some (.imp (BitVec.ofNat 256 (beNat (l.take 32))) (BitVec.ofNat 256 (beNat (l.drop 32)))) ∧
            ∀ j, j ≠ k → SMap.get (fun _ => none) t.gdr.keys j = SMap.get (fun _ => none) s.gdr.keys j)))) ∧
    (s.serving 0x12 c rest → ∀ f, (c.req.length ≠ 40 → keeps (.ikeySet f) mbBADLEN []) ∧
      (c.req.length = 40 → (s.b.part.op = true ∨ s.b.fuse.enrolled = false) → keeps (.ikeySet f) mbDENIED []) ∧
      (c.req.length = 40 → s.b.part.op = false → s.b.fuse.enrolled = true → (s.ano.unwrap c.a1 c.req = none → keeps (.ikeySet f) mbSESSION []) ∧
        (∀ l, s.ano.unwrap c.a1 c.req = some l → (f = false → keeps (.ikeySet f) mbFLASH []) ∧
          (f = true → Completes (.ikeySet f) s fun t => burns (fun x => { x with ownIkey := true, ikey := BitVec.ofNat 256 (beNat l) }) mbOK t ∧ t.b.bit .fus FUS.STATE_OWN_IKEY = true)))) ∧
    (s.serving 0x30 c rest → ∀ fl fu pressed, pressed = (∃ a, s.ano.identAt = some a ∧ s.b.aonUs - a ≤ 60000000) → (c.req.length ≠ 1984 → keeps (.enroll fl fu) mbBADLEN []) ∧
      (c.req.length = 1984 → (s.b.part.op = true ∨ s.b.fuse.enrolled = true ∨ ¬ pressed) → keeps (.enroll fl fu) mbDENIED []) ∧
      (c.req.length = 1984 → s.b.part.op = false → s.b.fuse.enrolled = false → pressed → (fl = false → keeps (.enroll fl fu) mbFLASH []) ∧ (fl = true → fu = false → keeps (.enroll fl fu) mbFUSE []) ∧
        (fl = true → fu = true → Completes (.enroll fl fu) s fun t => burns (fun x => { x with enrolled := true, pubKeys := SMap.set (fun _ => []) x.pubKeys 1 c.req }) mbOK t ∧ t.b.bit .fus FUS.STATE_ENROLLED = true ∧
          Msg.flash 0x10000 c.req ∈ t.b.out))) ∧
    (∀ n f, n = c.a0.toNat →
      (s.serving 0x31 c rest → (c.req.length ≠ 5357 → keeps (.opkeyInstall f) mbBADLEN []) ∧ (c.req.length = 5357 → s.b.part.op = false → keeps (.opkeyInstall f) mbDENIED []) ∧
        (c.req.length = 5357 → s.b.part.op = true → (n = 0 ∨ 15 < n) → keeps (.opkeyInstall f) mbBADARG []) ∧
        (c.req.length = 5357 → s.b.part.op = true → 1 ≤ n → n ≤ 15 → (nbit s.b.fuse.opRevoke n = true → keeps (.opkeyInstall f) mbDENIED []) ∧
          (nbit s.b.fuse.opRevoke n = false → (rootSigned s.b c.req = false → keeps (.opkeyInstall f) mbSIG []) ∧ (rootSigned s.b c.req = true → f = false → keeps (.opkeyInstall f) mbFLASH []) ∧
            (rootSigned s.b c.req = true → f = true → Completes (.opkeyInstall f) s fun t =>
              t = ({ s with b := { s.b with fuse := { s.b.fuse with opKeys := nset s.b.fuse.opKeys n,
                                                                    pubKeys := SMap.set (fun _ => []) s.b.fuse.pubKeys (0x10 + n) (c.req.take 1984) } } } : State).replied c rest mbOK [])))) ∧
      (s.serving 0x32 c rest → (c.req.length < 3374 → keeps (.opkeyRevoke f) mbBADLEN []) ∧ (3374 ≤ c.req.length → s.b.part.op = false → keeps (.opkeyRevoke f) mbDENIED []) ∧
        (3374 ≤ c.req.length → s.b.part.op = true → (n = 0 ∨ 15 < n) → keeps (.opkeyRevoke f) mbBADARG []) ∧
        (3374 ≤ c.req.length → s.b.part.op = true → 1 ≤ n → n ≤ 15 → ∀ sg, sg = (decide (leAt c.req 0 (c.req.length - 3373) = n) && rootSigned s.b c.req) →
          (sg = false → keeps (.opkeyRevoke f) mbSIG []) ∧ (sg = true → f = false → keeps (.opkeyRevoke f) mbFUSE []) ∧
          (sg = true → f = true → Completes (.opkeyRevoke f) s fun t => burns (fun x => { x with opRevoke := nset x.opRevoke n }) mbOK t ∧ nbit (t.b.fld .fus FUS.OP_REVOKE_KEY) n = true)))) ∧
    (∀ (r : Fin 65) v cur top got, v = c.a1.toNat → cur = (if c.a0 = 0 then s.b.fuse.fwCtr else s.b.fuse.cfgCtr) → top = (if c.a0 = 0 then s.b.fld .ano ANO.FW_SVN else s.b.fld .ldr LDR.SVN) →
      got = Nat.max cur (Nat.min r v) → s.serving 0x28 c rest → (c.req ≠ [] → keeps (.svnAdvance r) mbBADLEN []) ∧ (c.req = [] → 1 < c.a0.toNat → keeps (.svnAdvance r) mbBADARG []) ∧
      (c.req = [] → c.a0.toNat ≤ 1 → (64 < v ∨ v < cur ∨ top < v) → keeps (.svnAdvance r) mbROLLBACK []) ∧
      (c.req = [] → c.a0.toNat ≤ 1 → v ≤ 64 → cur ≤ v → v ≤ top → (got = cur → keeps (.svnAdvance r) (if got = v then mbOK else mbFUSE) []) ∧
        (got ≠ cur → Completes (.svnAdvance r) s fun t => burns (fun x => if c.a0 = 0 then { x with fwCtr := got } else { x with cfgCtr := got }) (if got = v then mbOK else mbFUSE) t ∧
          t.b.fld .fus (if c.a0 = 0 then FUS.FW_CTR_VALUE else FUS.CFG_CTR_VALUE) = got))))

/-- 22 R445 to R447, R452, R457 to R459; 23 R479: staging, verifying and activating firmware, the boot choice, repair commits, the log's
archive and release, telemetry and the lifetime block are answered in the order of their checks; MB_DONE publishes what the oldest command
was answered; samples and hours go on while an Anole runs. What rests on the model's choices: log entries 77, 78, 119. -/
def Obligations.FirmwareRepairLogAndTelemetry : Prop :=
  ∀ (s : State) (c : MbCmd) (rest : List MbCmd),
    (let keeps := fun (i : Instr) (st : Nat) (rsp : List Byte) => Completes i s fun t => t = s.replied c rest st rsp
    let boots := fun (i : Nat) (ver svn : Word) (old : FwSlot) (t : State) => t.b.bit .ano ANO.STAT_READY = true ∧ t.b.bit .ano ANO.STAT_ROM = false ∧ t.b.fld .ano ANO.STAT_SLOT = i ∧
        t.b.word (regOf .ano ANO.FW_VER) = ver ∧ t.b.word (regOf .ano ANO.FW_SVN) = svn ∧ (t.ano.slot i).confirmed = true ∧ (t.ano.slot i).boots = old.boots + b2n old.trial ∧
        t.ano.btnPor = false ∧ t.ano.hbAt = s.b.aonUs ∧ t.b.crkBoot = (s.ano.life.pors + s.ano.life.warms) % 65536 ∧ t.b.bit .ano ANO.CRK_FROZEN = false
    let archives := fun (t : State) => Msg.archive (s.ano.life.archives % 16) s.ano.life.archives (s.ano.life.pors + s.ano.life.warms) (s.b.crkNext - 4096)
          (s.b.fld .ano ANO.CRK_SEQ) (SMap.get (fun _ => 0) s.ano.erases (s.ano.life.archives % 16) + 1) (sha384 s.b.crkBytes) s.b.crkLog ∈ t.b.out ∧
        t.b.bit .ano ANO.CRK_FROZEN = false ∧ t.b.word (evtOf .ano) = s.b.word (evtOf .ano) ||| evt 13 ∧ t.ano.life = { s.ano.life with archives := s.ano.life.archives + 1 } ∧
        t.b.crkLog = s.b.crkLog ∧ s.b.raises t.b [regOf .ano ANO.CRK, evtOf .ano]
    (∀ (f : Bool) k area, k = c.a0.toNat → area = flashArea s.b k → s.serving 0x20 c rest →
      (let busy := k ≠ 0 ∧ (s.phase = 1 ∨ s.phase = 2) ∧ s.loadSrc = k
      let bare : State := { s with ano := { s.ano with verified := s.ano.verified &&& ~~~ (1#3 <<< k) } }
      (16384 < c.req.length → keeps (.stage f) mbBADLEN []) ∧ (c.req.length ≤ 16384 → (2 < k ∨ area.2 < c.a1.toNat + c.req.length) → keeps (.stage f) mbBADARG []) ∧
      (c.req.length ≤ 16384 → k ≤ 2 → c.a1.toNat + c.req.length ≤ area.2 → (busy → keeps (.stage f) mbDENIED []) ∧
        (¬ busy → f = false → Completes (.stage f) s fun t => t = bare.replied c rest mbFLASH []) ∧
        (¬ busy → f = true → Completes (.stage f) s fun t =>
          t = ({ bare with b := s.b.send (.flash (area.1 + if c.req = [] then 0 else c.a1.toNat) c.req) } : State).replied c rest mbOK [])))) ∧
    (∀ (h ed ml : Bool) (svn : Word) (i : Instr) k, i = .verify h ed ml svn → k = c.a0.toNat → s.serving 0x21 c rest →
      (let marked := fun ok : Bool => ({ s with ano := { s.ano with verified := (s.ano.verified &&& ~~~ (1#3 <<< k)) ||| if ok then 1#3 <<< k else 0 } } : State)
      (c.req ≠ [] → keeps i mbBADLEN []) ∧ (c.req = [] → 2 < k → keeps i mbBADARG []) ∧
      (c.req = [] → k ≤ 2 →
        (h = false → Completes i s fun t => t = ({ marked false with b := s.b.bump } : State).replied c rest (Config.freeBits 8 s.b.free).toNat []) ∧
        (h = true → (ed = false ∨ ml = false) → Completes i s fun t => t = (marked false).replied c rest mbSIG []) ∧
        (h = true → ed = true → ml = true → k = 0 → svn.toNat < s.b.fuse.fwCtr → Completes i s fun t => t = (marked false).replied c rest mbROLLBACK []) ∧
        (h = true → ed = true → ml = true → (k ≠ 0 ∨ s.b.fuse.fwCtr ≤ svn.toNat) → Completes i s fun t => t = (marked true).replied c rest mbOK [])))) ∧
    (∀ (f : Bool) (ver svn : Word) i, i = s.b.otherSlot → s.serving 0x22 c rest → (c.req ≠ [] → keeps (.activate f ver svn) mbBADLEN []) ∧
      (c.req = [] → 1 < c.a0.toNat → keeps (.activate f ver svn) mbBADARG []) ∧ (c.req = [] → c.a0.toNat ≤ 1 → s.ano.verified.getLsbD 0 = false → keeps (.activate f ver svn) mbDENIED []) ∧
      (c.req = [] → c.a0.toNat ≤ 1 → s.ano.verified.getLsbD 0 = true → f = false → keeps (.activate f ver svn) mbFLASH []) ∧
      (c.req = [] → c.a0.toNat ≤ 1 → s.ano.verified.getLsbD 0 = true → f = true → Completes (.activate f ver svn) s fun t => t.ano.cmds = { c with res := some (mbOK, []) } :: rest ∧
        (t.ano.slot i).seq = Nat.max (s.ano.slot 0).seq (s.ano.slot 1).seq + 1 ∧ (t.ano.slot i).trial = true ∧ t.ano.slot (1 - i) = s.ano.slot (1 - i) ∧
        (c.a0 = 0 → (t.ano.slot i).confirmed = false ∧ (t.ano.slot i).boots = 0 ∧ t = { s with b := t.b, ano := t.ano } ∧ t.b.bit .ano ANO.STAT_READY = s.b.bit .ano ANO.STAT_READY) ∧
        (c.a0 = 1 → boots i ver svn ⟨0, true, false, 0⟩ t))) ∧
    (∀ (ed0 ml0 ed1 ml1 : Bool) (ver0 svn0 ver1 svn1 : Word) (i : Instr) (g0 g1 b1 : Bool), i = .anoleReady ed0 ml0 ed1 ml1 ver0 svn0 ver1 svn1 →
      g0 = (ed0 && ml0 && decide (s.b.fuse.fwCtr ≤ svn0.toNat) && !((s.ano.slot 0).trial && !(s.ano.slot 0).confirmed && decide (3 ≤ (s.ano.slot 0).boots))) →
      g1 = (ed1 && ml1 && decide (s.b.fuse.fwCtr ≤ svn1.toNat) && !((s.ano.slot 1).trial && !(s.ano.slot 1).confirmed && decide (3 ≤ (s.ano.slot 1).boots))) →
      b1 = (s.ano.btnPor || decide ((s.ano.slot 0).seq < (s.ano.slot 1).seq)) →
      (let due := s.ano.run ≠ 0 ∧ s.b.bit .ano ANO.STAT_READY = false ∧ 4 ≤ s.b.fld .pkg PKG.RST_STAT_STAGE
      (¬ due → Completes i s fun t => t = s) ∧
      (due → g0 = false → g1 = false → Completes i s fun t => t = { s with b := t.b } ∧ s.b.sets t.b [regOf .ano ANO.STAT] ∧ s.b.put t.b .ano ANO.STAT_ROM 1) ∧
      (due → g1 = true → (b1 = true ∨ g0 = false) → Completes i s (boots 1 ver1 svn1 (s.ano.slot 1))) ∧
      (due → g0 = true → (b1 = false ∨ g1 = false) → Completes i s (boots 0 ver0 svn0 (s.ano.slot 0))))) ∧
    (∀ (copies : Fin 4) l, l = s.vbd.todo ++ softRepairs s → s.serving 0x38 c rest → (c.req ≠ [] → keeps (.repairCommit copies) mbBADLEN []) ∧
      (c.req = [] → s.vbd.freeRecs < Nat.max 2 (l.length + 1) → keeps (.repairCommit copies) mbFUSE []) ∧
      (c.req = [] → Nat.max 2 (l.length + 1) ≤ s.vbd.freeRecs → copies.val < 3 → Completes (.repairCommit copies) s fun t =>
        t = ({ s with b := t.b, vbd := { s.vbd with records := t.vbd.records } } : State).replied c rest mbFUSE []) ∧
      (c.req = [] → Nat.max 2 (l.length + 1) ≤ s.vbd.freeRecs → copies.val = 3 → Completes (.repairCommit copies) s fun t =>
        t = ({ s with b := t.b, vbd := { s.vbd with records := t.vbd.records, todo := [] } } : State).replied c rest mbOK (leBytes l.length 4) ∧
        t.b.fld .fus FUS.REPAIR_SEQ = (Nat.max (s.b.fld .fus FUS.REPAIR_SEQ) s.vbd.topSeq + 1) % 65536 ∧
        ∀ k i w, k < 3 → l[i]? = some w → SMap.get (fun _ => 0) t.vbd.records (4096 * k + (s.vbd.copy k).length + i) = w)) ∧
    (s.serving 0x40 c rest → ∀ f, (c.req ≠ [] → keeps (.crkArchive f) mbBADLEN []) ∧ (c.req = [] → f = false → keeps (.crkArchive f) mbFLASH []) ∧
      (c.req = [] → f = true → Completes (.crkArchive f) s fun t => archives t ∧ t.ano.cmds = { c with res := some (mbOK, leBytes s.ano.life.archives 4) } :: rest)) ∧
    (s.serving 0x41 c rest → (c.req ≠ [] → keeps .crkUnfreeze mbBADLEN []) ∧ (c.req = [] → Completes .crkUnfreeze s fun t => t = ({ s with b := t.b } : State).replied c rest mbOK [] ∧
      s.b.sets t.b [regOf .ano ANO.CRK] ∧ s.b.put t.b .ano ANO.CRK_FROZEN 0)) ∧
    (s.serving 0x48 c rest → (c.req ≠ [] → keeps .telemetry mbBADLEN []) ∧
      (c.req = [] → keeps .telemetry mbOK ((List.range 34).flatMap fun i => leBytes (s.ano.sensor (i + 1)).toNat 4))) ∧
    (s.serving 0x49 c rest → (c.req ≠ [] → keeps .lifetime mbBADLEN []) ∧ (c.req = [] → keeps .lifetime mbOK (lifeBlock s))) ∧
    (s.anoRuns = false → Completes .telemetrySample s (fun t => t = s) ∧ Completes .lifetimeWrite s fun t => t = s) ∧
    (s.anoRuns = true → Completes .telemetrySample s (fun t => t = { s with ano := { s.ano with tele := t.ano.tele } } ∧ ∀ i, 1 ≤ i → i ≤ 34 → t.ano.sensor i = sampleSensor s i) ∧
      Completes .lifetimeWrite s fun t => t = { s with b := t.b, ano := { s.ano with life := t.ano.life } } ∧ t.ano.life = { s.ano.life with hours := s.ano.life.hours + 1, bands := t.ano.life.bands } ∧
        t.b = s.b.send (.flash (if t.ano.life.hours % 2 = 1 then 0xF400000 else 0xF410000) (lifeBlock t))) ∧
    (s.ano.cmds = [] → Completes .mbDone s fun t => t = s) ∧
    (s.ano.cmds = c :: rest →
      (c.res = none → (s.anoRuns = false ∨ c.op ∈ mbOps) → Completes .mbDone s fun t => t = s) ∧
      (∀ st rsp, (c.res = some (st, rsp) ∨ (c.res = none ∧ s.anoRuns = true ∧ c.op ∉ mbOps ∧ st = mbBADOP ∧ rsp = [])) →
        (c.mctp = true → Completes .mbDone s fun t => t = { s with b := s.b.send (.mctp st rsp), ano := { s.ano with cmds := rest } }) ∧
        (c.mctp = false → st < 256 → rsp.length < 32768 → Completes .mbDone s fun t => t = { s with b := t.b, ano := { s.ano with cmds := rest, buf := t.ano.buf } } ∧
          s.b.raises t.b [regOf .ano ANO.MB_STAT, evtOf .ano] ∧ t.b.fld .ano ANO.MB_STAT_STATUS = st ∧ t.b.fld .ano ANO.MB_STAT_RSP_LEN = rsp.length ∧
          t.b.bit .ano ANO.MB_STAT_BUSY = false ∧ t.b.bit .ano ANO.MB_STAT_DONE = true ∧ t.b.word (evtOf .ano) = s.b.word (evtOf .ano) ||| evt 8 ∧
          ∀ i b, rsp[i]? = some b → t.ano.byte i = b))))

/-- 22 R444, R445, R454 to R458; 18 R379, R380; 23 R469, R470: presses are classed, and acted on at once or queued; the standby takes over,
a command in progress ending FAILOVER; with no Anole left the log freezes; MCTP and SPDM messages are answered or queued; the default
policies repair, shorten the patrol interval and degrade. What rests on the model's choices: log entries 79, 80, 118. -/
def Obligations.AnoleInstancesButtonAndPolicies : Prop :=
  ∀ s : State,
    (∀ (ms : Fin 131072) (cls : Nat), cls = (if ms.val < 1000 then 0 else if ms.val < 3000 then 1 else if ms.val < 8000 then 2 else 3) →
      (s.ano.skip = true → Completes (.buttonRelease ms) s fun t => t = { s with b := t.b, ano := { s.ano with skip := false } } ∧ s.b.sets t.b [regOf .ano ANO.BTN] ∧
        t.b.bit .ano ANO.BTN_HELD = false ∧ t.b.fld .ano ANO.BTN_MS = Nat.min ms 65535) ∧
      (s.ano.skip = false →
        (s.pressable = false → Completes (.buttonRelease ms) s fun t => t = { s with b := t.b, ano := { s.ano with presses := s.ano.presses ++ [(cls, ms.val)] } } ∧
          s.b.raises t.b [regOf .ano ANO.BTN, evtOf .ano] ∧ t.b.bit .ano ANO.BTN_HELD = false ∧ t.b.fld .ano ANO.BTN_CLASS = cls ∧ t.b.fld .ano ANO.BTN_MS = Nat.min ms 65535 ∧
          t.b.word (evtOf .ano) = s.b.word (evtOf .ano) ||| evt 12) ∧
        (s.pressable = true → s.ano.presses = [] → Completes (.buttonRelease ms) s fun t => t.ano.presses = [] ∧ t.b.fld .ano ANO.BTN_CLASS = cls ∧
          t.b.fld .ano ANO.BTN_MS = Nat.min ms 65535 ∧ (cls < 2 → t = { s with b := t.b, ano := t.ano }) ∧ (cls = 3 → s.phase = 3 → t.ldr = { s.ldr with goldenNext := true }) ∧
          (if cls = 0 then t.ano = { s.ano with blink := true, identAt := some s.b.aonUs } else t.ano = s.ano) ∧
          (cls = 2 → s.b.bit .pci PCI.RMV_STAT_REQ = false → ∀ n : Fin 8, s.b.eflState n = eUP → (eflAt t.efl n).quiescing = true) ∧
          (cls = 2 → s.b.bit .pci PCI.RMV_STAT_REQ = true → t.efl = s.efl ∧ t.pci = s.pci)))) ∧
    (s.ano.skip = true → Completes .buttonHoldGolden s fun t => t = s) ∧
    (s.ano.skip = false → s.pressable = false → Completes .buttonHoldGolden s fun t => t = { s with b := t.b, ano := { s.ano with presses := s.ano.presses ++ [(3, 8000)], skip := true } } ∧
      s.b.raises t.b [regOf .ano ANO.BTN, evtOf .ano] ∧ t.b.bit .ano ANO.BTN_HELD = true ∧ t.b.fld .ano ANO.BTN_CLASS = 3 ∧ t.b.fld .ano ANO.BTN_MS = 8000) ∧
    (s.ano.skip = false → s.pressable = true → s.ano.presses = [] → s.phase = 3 → Completes .buttonHoldGolden s fun t => t.ldr = { s.ldr with goldenNext := true } ∧ t.ano.skip = true) ∧
    Completes .identifyEnd s (fun t => t = { s with ano := { s.ano with blink := false } }) ∧
    (s.ano.run &&& s.b.activeBit = 0 → Completes .heartbeat s fun t => t = s) ∧
    (s.ano.run &&& s.b.activeBit ≠ 0 → (s.pressable = false ∨ s.ano.presses = []) → Completes .heartbeat s fun t => t = { s with ano := { s.ano with hbAt := s.b.aonUs } }) ∧
    (∀ sram, (let due := s.b.fld .ano ANO.STAT_ACTIVE = 0 ∧ s.ano.run.getLsbD 1 = true ∧ (sram = true ∨ s.ano.hbAt + 4000 ≤ s.b.aonUs)
      (¬ due → Completes (.failover sram) s fun t => t = s) ∧
      (due → s.ano.presses = [] → Completes (.failover sram) s fun t => t = { s with b := t.b, ano := t.ano } ∧
        t.b.fld .ano ANO.STAT_ACTIVE = 1 ∧ t.b.bit .ano ANO.STAT_STBY_OK = false ∧ nbit (t.b.fld .evr EVR.NME_STAT_CAUSE) 3 = true ∧ t.b.word (evtOf .ano) &&& evt 10 = evt 10 ∧
        t.ano = { s.ano with run := 2, hbAt := s.b.aonUs, sessions := [], cmds := s.ano.cmds.tail, life := { s.ano.life with failovers := s.ano.life.failovers + 1 } } ∧
        ∀ c rest, s.ano.cmds = c :: rest → (if c.mctp then t.b.out.getLast? = some (.mctp mbFAILOVER []) else
          t.b.fld .ano ANO.MB_STAT_STATUS = mbFAILOVER ∧ t.b.bit .ano ANO.MB_STAT_BUSY = false ∧ t.b.bit .ano ANO.MB_STAT_DONE = true)))) ∧
    Completes .noAnoleLeft s (fun t => t = { s with b := t.b, ano := { s.ano with run := 0, sessions := [] } } ∧ t.b.bit .ano ANO.STAT_READY = false ∧ t.b.crkBoot = 0 ∧
      t.b.bit .ano ANO.STAT_STBY_OK = false ∧ t.b.bit .ano ANO.CRK_FROZEN = true ∧ (s.b.bit .ano ANO.CRK_FROZEN = false → (t.b.crkAt (s.b.crkNext % 4096)).code = 0x250)) ∧
    (s.anoRuns = false → ∀ m, Completes (.mctpMessage m) s fun t => t = s) ∧
    (s.anoRuns = true →
      (∀ e, Completes (.mctpMessage (.setEid e)) s fun t => t = { s with b := t.b } ∧ t.b = { s.b with regs := t.b.regs, out := s.b.out ++ [.mctp 0 [e]] } ∧ s.b.put t.b .ano ANO.MCTP_CFG_EID e.toNat ∧
        ∀ a, a ≠ regOf .ano ANO.MCTP_CFG → t.b.word a = s.b.word a) ∧
      Completes (.mctpMessage .getEid) s (fun t => t = { s with b := s.b.send (.mctp 0 (leBytes (s.b.fld .ano ANO.MCTP_CFG_EID) 1)) }) ∧
      (∀ i, Completes (.mctpMessage (.sensor i)) s fun t => t = if s.b.bit .ano ANO.STAT_READY then { s with b := s.b.send (.mctp 0 (leBytes (s.ano.sensor i).toNat 4)) } else s) ∧
      (∀ k o d, Completes (.mctpMessage (.fwChunk k o d)) s fun t => t = if s.anoReady && k != 0 then
        { s with ano := { s.ano with cmds := s.ano.cmds ++ [⟨true, 0x20, w32 (k.val - 1), o, d, none⟩] } } else s) ∧
      (∀ k, Completes (.mctpMessage (.fwVerify k)) s fun t => t = if s.anoReady && k != 0 then
        { s with ano := { s.ano with cmds := s.ano.cmds ++ [⟨true, 0x21, w32 (k.val - 1), 0, [], none⟩] } } else s) ∧
      (∀ now, Completes (.mctpMessage (.fwActivate now)) s fun t => t = if s.anoReady then
        { s with ano := { s.ano with cmds := s.ano.cmds ++ [⟨true, 0x22, w32 (b2n now), 0, [], none⟩] } } else s) ∧
      (∀ typ req, Completes (.mctpMessage (.pldm typ req)) s fun t => t = if s.b.bit .ano ANO.STAT_READY then
        { s with b := (s.b.send (.mctp 0 (Config.freeBytes s.b.free))).bump } else s) ∧
      (∀ op a0 a1 req, Completes (.mctpMessage (.vendor op a0 a1 req)) s fun t => t = if s.b.bit .ano ANO.STAT_READY || (s.anoReady && romOp op.toNat) then
        { s with ano := { s.ano with cmds := s.ano.cmds ++ [⟨true, op.toNat, a0, a1, req, none⟩] } } else s) ∧
      Completes (.mctpMessage .other) s fun t => t = s) ∧
    (∀ (port : Fin 3) (f : Nat) (key : Word → Nat), f = (if port = 1 then 9 else 0) → key = (fun id => port.val * 2 ^ 32 + id.toNat) →
      (let open_ := s.anoRuns = true ∧ s.b.bit .ano ANO.STAT_READY = true ∧ (port = 2 ∨ (s.fnPresent f = true ∧ s.b.fnLinkUp f = true ∧ (s.b.fn f).ready = true))
      (¬ open_ → ∀ q, Completes (.spdmRequest port q) s fun t => t = s) ∧
      (open_ → Completes (.spdmRequest port .discovery) s (fun t => t = { s with b := s.b.send (.spdm port none) }) ∧
        Completes (.spdmRequest port .signed) s (fun t => ∃ a b, t = { s with b := s.b.bump.bump.send (.spdm port (some (a, b))) }) ∧
        (∀ id, Completes (.spdmRequest port (.openSession id)) s (fun t => t = { s with b := s.b.send (.spdm port none), ano := { s.ano with sessions := t.ano.sessions } } ∧
            ∀ k, k ∈ t.ano.sessions ↔ (k = key id ∨ k ∈ s.ano.sessions)) ∧
          Completes (.spdmRequest port (.closeSession id)) s fun t => t = { s with b := s.b.send (.spdm port none), ano := { s.ano with sessions := t.ano.sessions } } ∧
            ∀ k, k ∈ t.ano.sessions ↔ (k ≠ key id ∧ k ∈ s.ano.sessions)) ∧
        ∀ id n, ∀ e ∈ [(SpdmReq.ideKey id n, 1), (.ideStop id n, 0)],
          (key id ∉ s.ano.sessions ∨ port = 2 → Completes (.spdmRequest port e.1) s fun t => t = s) ∧
          (key id ∈ s.ano.sessions → port ≠ 2 → Completes (.spdmRequest port e.1) s fun t => t = { s with b := s.b.send (.spdm port none), pci := { s.pci with ide := t.pci.ide } } ∧
            SMap.get (fun _ => 0) t.pci.ide (16 * port.val + n.val) = e.2 ∧ ∀ j, j ≠ 16 * port.val + n.val → SMap.get (fun _ => 0) t.pci.ide j = SMap.get (fun _ => 0) s.pci.ide j)))) ∧
    (let works := s.anoRuns = true ∧ s.b.bit .ano ANO.STAT_READY = true
    let due := fun (p : Page) => works ∧ s.b.fld p HDR.ERR_CFG_THRESH ≠ 0 ∧ s.b.word (evtOf p) &&& 1 ≠ 0
    (¬ works → ∀ k, Completes (.anoleDegrade k) s fun t => t = s) ∧ (∀ p, ¬ due p → Completes (.anoleThresholdPolicy p) s fun t => t = s) ∧
    (∀ (k : Tower) (p : Page) syn j, p = .hop k → syn = s.b.fld p HDR.ERR_LOG3 → j = 8 * k.val + syn % 8 →
      ∀ i, ((i = .anoleDegrade k ∧ works) ∨ (i = .anoleThresholdPolicy p ∧ due p)) →
        (¬ (s.b.fld p HDR.ERR_LOG0_VALID = 1 ∧ s.b.fld p HDR.ERR_LOG0_KIND = 2) → Completes i s fun t => t = s) ∧
        (s.b.fld p HDR.ERR_LOG0_VALID = 1 → s.b.fld p HDR.ERR_LOG0_KIND = 2 →
          Completes i s (fun t => t = { s with b := t.b, ano := { s.ano with flits := t.ano.flits } } ∧ t.b.fld p HDR.ERR_LOG0_VALID = 0 ∧ t.b.fld p HDR.ERR_LOG0_OVF = 0 ∧
            SMap.get (fun _ => none) t.ano.flits j = some s.b.aonUs) ∧
          ((SMap.get (fun _ => none) s.ano.flits j = none ∨ syn % 4 = 3) → Completes i s fun t => s.b.sets t.b [regOf p HDR.ERR_LOG0_VALID]) ∧
          (∀ u f, SMap.get (fun _ => none) s.ano.flits j = some u → syn % 4 < 3 → f = (if syn % 4 = 0 then HOP.MAPCTL_DEGRADE_L else if syn % 4 = 1 then HOP.MAPCTL_DEGRADE_M else HOP.MAPCTL_DEGRADE_B) →
            (1000000 < s.b.aonUs - u → Completes i s fun t => s.b.sets t.b [regOf p HDR.ERR_LOG0_VALID]) ∧
            (s.b.aonUs - u ≤ 1000000 → s.b.commitPend p = true → Completes i s fun t => t.b.shad = s.b.shad ∧ t.b.word (evtOf p) = s.b.word (evtOf p) ||| evt 5) ∧
            (s.b.aonUs - u ≤ 1000000 → s.b.commitPend p = false → Completes i s fun t => t.b.shFld p f = (if nbit syn 2 then 1 else 2) ∧
              (hopShadowOk ((s.b.releaseLog p).setShFld p f (if nbit syn 2 then 1 else 2)) k = true → t.b.commitPend p = true ∧ t.b.parts p = 15))))) ∧
    (∀ (p : Page), due p → (match p with | .pnd _ | .gd _ | .hop _ => False | _ => True) → Completes (.anoleThresholdPolicy p) s fun t => t = s) ∧
    (∀ (g : Fin 16) v, due (.gd g) → v = s.b.fld (.gd g) GD.PATROL_S → Completes (.anoleThresholdPolicy (.gd g)) s fun t => t = { s with b := t.b } ∧ s.b.sets t.b [regOf (.gd g) GD.PATROL_S] ∧
      s.b.put t.b (.gd g) GD.PATROL_S (if v ≤ 600 then v else Nat.max 600 (v / 2))) ∧
    ∀ (n : Fin 128) (p : Page) syn a col i, p = .pnd n → due p → i = .anoleThresholdPolicy p → syn = s.b.fld p HDR.ERR_LOG3 →
      a = s.b.fld p HDR.ERR_LOG1 + s.b.fld p HDR.ERR_LOG2_ADDR_HI * 2 ^ 32 →
      ((padColumn syn = none ∨ ¬ (s.b.fld p HDR.ERR_LOG0_VALID = 1 ∧ s.b.fld p HDR.ERR_LOG0_KIND = 1)) → Completes i s fun t => t = s) ∧
      (padColumn syn = some col → s.b.fld p HDR.ERR_LOG0_VALID = 1 → s.b.fld p HDR.ERR_LOG0_KIND = 1 → ∀ m sb key, m = padOfDpa a % 32 → sb = syn / 1024 % 4 → key = (m * 4 + sb) * 512 + col →
        (SMap.get (fun _ => none) s.ano.pndCol n ≠ some key → Completes i s fun t => t = { s with ano := { s.ano with pndCol := t.ano.pndCol } } ∧ SMap.get (fun _ => none) t.ano.pndCol n = some key) ∧
        (SMap.get (fun _ => none) s.ano.pndCol n = some key → Completes i s fun t => t = { s with b := t.b, ano := { s.ano with pndCol := t.ano.pndCol } } ∧
          SMap.get (fun _ => none) t.ano.pndCol n = none ∧ t.b.fld p HDR.ERR_LOG0_VALID = 0 ∧ t.b.fld p HDR.ERR_LOG0_OVF = 0 ∧
          (if softRepairOk s.b n m sb col then t.b.bit p PND.SR_STAT_BUSY = true ∧ t.b.bit p PND.SR_STAT_REFUSED = false else t.b.bit p PND.SR_STAT_REFUSED = true))))

/-! ### Rules stated whole -/

/-- 02 R28: a GO whose shadow fails the rules of its chapter applies nothing and keeps the shadow; COMMIT_RES reads 3 and COMMIT_REJ is set.
-/
def Obligations.RejectedGoAppliesNothing : Prop :=
  ∀ (s : State) (p : Page), s.admits p → (s.maWake p).commitOk p = false → (∀ c, p = .enc c → (s.maWake p).b.encPending = false) →
    ((∀ c, p ≠ .enc c) → (s.maWake p).b.commitPend p = false) → Completes (.commitGo p) s fun t =>
      t = { s.maWake p with b := t.b } ∧ (s.maWake p).b.raises t.b [regOf p HDR.BLK_STAT_COMMIT_RES, evtOf p] ∧ t.b.shad = (s.maWake p).b.shad ∧
        (s.maWake p).b.put t.b p HDR.BLK_STAT_COMMIT_RES 3 ∧ t.b.word (evtOf p) = (s.maWake p).b.word (evtOf p) ||| evt 4

/-- 20 R409: each DIV is of type RWS and 12 bits wide; a CLK GO is rejected when any DIV shadow is below 6, and else accepted. -/
def Obligations.ClockDividersAreAtLeastSix : Prop :=
  ∀ u : Tower, (∀ n, n < 32 → ∃ r, pageReg (.clk u) (CLK.GCLK_CFG_DIV.nth n).off = some r ∧ r.mask .rws &&& wmask 11 0 = wmask 11 0) ∧
    ∀ (s w : State), w = s.maWake (.clk u) → s.admits (.clk u) → w.b.commitPend (.clk u) = false →
      ((∃ n, n < 32 ∧ w.b.shFld (.clk u) (CLK.GCLK_CFG_DIV.nth n) < 6) → Completes (.commitGo (.clk u)) s fun t => t = { w with b := t.b } ∧ t.b.shad = w.b.shad ∧
        t.b.fld (.clk u) HDR.BLK_STAT_COMMIT_RES = 3 ∧ t.b.word (evtOf (.clk u)) = w.b.word (evtOf (.clk u)) ||| evt 4 ∧ t.b.commitPend (.clk u) = false) ∧
      ((∀ n, n < 32 → 6 ≤ w.b.shFld (.clk u) (CLK.GCLK_CFG_DIV.nth n)) → Completes (.commitGo (.clk u)) s fun t => t = { w with b := t.b } ∧ t.b.commitPend (.clk u) = true ∧
        t.b.parts (.clk u) = if w.b.bit (.clk u) CLK.SYNC_WAIT then 2 else 1)

/-- 19 R395: the DPA window of port n opens, in its four quarters, the lowest 256 GiB of the partner's GDDR6, pad, doorbell and gecko
regions, and nothing else; a request sent carries the partner's address. -/
def Obligations.EfmelPartnerAddress : Prop :=
  ∀ (n : Fin 8) (o a x : Nat), o < 2 ^ 40 → a = 0x100000000000 + n.val * 0x10000000000 + o → x = o / 2 ^ 38 * 2 ^ 40 + o % 2 ^ 38 →
    dpaRegion a = .efmel n ∧ eflRemote a = x ∧ (∀ m, dpaRegion x ≠ .efmel m) ∧
    (o < 2 ^ 38 → x = o) ∧ (2 ^ 38 ≤ o → o < 2 * 2 ^ 38 → x = 0x10000000000 + (o - 2 ^ 38)) ∧
    (2 * 2 ^ 38 ≤ o → o < 3 * 2 ^ 38 → x = 0x20000000000 + (o - 2 * 2 ^ 38)) ∧ (3 * 2 ^ 38 ≤ o → x = 0x30000000000 + (o - 3 * 2 ^ 38)) ∧
    ∀ (s : State) (r : HopReq) (k : Nat) (e : Efl), r.addr.toNat = a → e = eflAt s.efl n → s.mayArrive r false = true → s.b.enabled (.efl n) = true → r.priv = true →
      s.b.eflState n = eUP → e.quiescing = false → s.hop.grant r.src (eflStop n) ≠ 0 → e.freeTag = some k → e.credits ≠ 0 → e.replay.length < 256 →
      Completes (.efmelOutbound r 1) s fun t => t.sentCell n ((e.expSeq + 1023) % 1024) (b2n e.nak) e.owed e.nextSeq (.req k 1 r.prio (BitVec.ofNat 48 x) r.bytes none) e.scr
end

