-- ==== Sys2Proof/Laws/Dec.lean ====
section
/-! SUPPORT. The code of the DEC stores corrects the check bit that RAW plants (23 R464, R471). -/
namespace Sys2Proof.Machine

set_option maxRecDepth 4000 in
theorem decFind_plant : decFind decPlant = some [64] := by decide +kernel

/-- A planted word that is read is a correctable error of its page. -/
theorem Base.decError_planted (b : Base) (p : Page) (a : Nat) :
    b.decError p a = b.bump.corrErr p { kind := (Config.freeBits 4 b.free).toNat, addr := a } := by
  unfold Base.decError
  rw [decFind_plant]

end Sys2Proof.Machine
end

