-- ==== Sys2Proof/Laws/SMap.lean ====
section
/-! SUPPORT. Laws of sparse tables: what a table holds after a store, and that every operation keeps the canonical form. -/
namespace Sys2Proof.Machine
variable {β : Type}

/-! ### What is read back -/

theorem SMap.get_cons (d : Nat → β) (a : Nat) (x : β) (m : SMap β) (k : Nat) :
    SMap.get d ((a, x) :: m) k = if a = k then x else if k < a then d k else SMap.get d m k := rfl

/-- A key below the first listed key reads as its default. -/
theorem SMap.get_lt (d : Nat → β) {lo : Nat} {m : SMap β} (h : SMap.rising lo m = true) {k : Nat} (hk : k < lo) :
    SMap.get d m k = d k := by
  cases m with
  | nil => rfl
  | cons e m =>
    obtain ⟨a, x⟩ := e
    simp only [SMap.rising, Bool.and_eq_true, decide_eq_true_eq] at h
    rw [SMap.get_cons, if_neg (by omega), if_pos (by omega)]

theorem SMap.rising_mono {lo lo' : Nat} {m : SMap β} (h : SMap.rising lo m = true) (hl : lo' ≤ lo) :
    SMap.rising lo' m = true := by
  cases m with
  | nil => rfl
  | cons e m =>
    simp only [SMap.rising, Bool.and_eq_true, decide_eq_true_eq] at h ⊢
    exact ⟨by omega, h.2⟩

theorem SMap.get_above (d : Nat → β) (m : SMap β) (k j : Nat) (h : k < j) :
    SMap.get d (SMap.above m k) j = SMap.get d m j := by
  induction m with
  | nil => rfl
  | cons e m ih =>
    obtain ⟨a, x⟩ := e
    rw [SMap.above]
    split
    · rw [ih, SMap.get_cons, if_neg (by omega), if_neg (by omega)]
    · rfl

theorem SMap.get_above_le (d : Nat → β) (m : SMap β) (k j : Nat) (h : j ≤ k) : SMap.get d (SMap.above m k) j = d j := by
  induction m with
  | nil => rfl
  | cons e m ih =>
    obtain ⟨a, x⟩ := e
    rw [SMap.above]
    split
    · exact ih
    · rw [SMap.get_cons, if_neg (by omega), if_pos (by omega)]

theorem SMap.get_del (d : Nat → β) (m : SMap β) (k j : Nat) :
    SMap.get d (SMap.del m k) j = if j = k then d j else SMap.get d m j := by
  induction m with
  | nil => simp [SMap.del, SMap.get]
  | cons e m ih =>
    obtain ⟨a, x⟩ := e
    rw [SMap.del]
    split
    · subst k
      rw [SMap.get_cons]
      by_cases hj : j = a
      · subst hj; rw [if_pos rfl, SMap.get_above_le _ _ _ _ (Nat.le_refl _)]
      · rw [if_neg hj, if_neg (by omega)]
        split
        · exact SMap.get_above_le _ _ _ _ (by omega)
        · exact SMap.get_above _ _ _ _ (by omega)
    · split
      · rw [SMap.get_cons]
        split <;> split <;> simp_all <;> omega
      · rw [SMap.get_cons, SMap.get_cons, ih]
        split <;> split <;> simp_all <;> omega

theorem SMap.get_ins (d : Nat → β) (m : SMap β) (k j : Nat) (v : β) :
    SMap.get d (SMap.ins m k v) j = if j = k then v else SMap.get d m j := by
  induction m with
  | nil =>
    simp only [SMap.ins, SMap.get_cons, SMap.get]
    by_cases hj : j = k
    · simp [hj]
    · rw [if_neg (by omega), if_neg hj, ite_self]
  | cons e m ih =>
    obtain ⟨a, x⟩ := e
    rw [SMap.ins]
    split
    · subst k
      rw [SMap.get_cons, SMap.get_cons]
      by_cases hj : j = a
      · simp [hj]
      · have hj' : ¬ a = j := fun e => hj e.symm
        simp only [if_neg hj, if_neg hj']
    · split
      · rw [SMap.get_cons]
        by_cases hj : j = k
        · simp [hj]
        · rw [if_neg (by omega), if_neg hj]
          split
          · rw [SMap.get_cons, if_neg (by omega), if_pos (by omega)]
          · rfl
      · rw [SMap.get_cons, SMap.get_cons, ih]
        split <;> split <;> simp_all <;> omega

theorem SMap.wf_rising [DecidableEq β] {d : Nat → β} {m : SMap β} (h : SMap.wf d m = true) : SMap.rising 0 m = true := by
  simp only [SMap.wf, Bool.and_eq_true] at h; exact h.1

/-- What a table holds at `j` after `v` is stored at `k`. -/
theorem SMap.get_set [DecidableEq β] (d : Nat → β) (m : SMap β) (k j : Nat) (v : β) :
    SMap.get d (SMap.set d m k v) j = if j = k then v else SMap.get d m j := by
  unfold SMap.set
  split
  · rw [SMap.get_del d m k j]; split <;> simp_all
  · exact SMap.get_ins d m k j v

@[simp] theorem SMap.get_set_same [DecidableEq β] (d : Nat → β) (m : SMap β) (k : Nat) (v : β) :
    SMap.get d (SMap.set d m k v) k = v := by rw [SMap.get_set d m k k v, if_pos rfl]

theorem SMap.get_set_ne [DecidableEq β] (d : Nat → β) (m : SMap β) {k j : Nat} (v : β)
    (hj : j ≠ k) : SMap.get d (SMap.set d m k v) j = SMap.get d m j := by rw [SMap.get_set d m k j v, if_neg hj]

theorem SMap.get_upd [DecidableEq β] (d : Nat → β) (m : SMap β) (k j : Nat) (f : β → β) :
    SMap.get d (SMap.upd d m k f) j = if j = k then f (SMap.get d m k) else SMap.get d m j :=
  SMap.get_set d m k j _

/-- Keys that `p` keeps read as before, the others as their default. -/
theorem SMap.get_keep (d : Nat → β) (m : SMap β) (p : Nat → Bool) (j lo : Nat) (h : SMap.rising lo m = true) :
    SMap.get d (SMap.keep p m) j = if p j = true then SMap.get d m j else d j := by
  induction m generalizing lo with
  | nil => simp [SMap.keep, SMap.get]
  | cons e m ih =>
    obtain ⟨a, x⟩ := e
    simp only [SMap.rising, Bool.and_eq_true, decide_eq_true_eq] at h
    rw [SMap.keep]
    have ih' := ih (a + 1) h.2
    have low : j < a → SMap.get d m j = d j := fun hj => SMap.get_lt d h.2 (by omega)
    have self : SMap.get d m a = d a := SMap.get_lt d h.2 (by omega)
    split
    · rw [SMap.get_cons, SMap.get_cons, ih']
      by_cases hj : a = j
      · subst hj; simp_all
      · rw [if_neg hj, if_neg hj]
        by_cases hlt : j < a
        · simp [hlt]
        · simp [hlt]
    · rw [ih', SMap.get_cons]
      by_cases hj : a = j
      · subst hj; simp_all
      · rw [if_neg hj]
        by_cases hlt : j < a
        · simp [hlt, low hlt]
        · simp [hlt]

/-! ### The canonical form is kept -/

theorem SMap.wf_nil [DecidableEq β] (d : Nat → β) : SMap.wf d ([] : SMap β) = true := rfl

theorem SMap.rising_above (m : SMap β) (k lo : Nat) (h : SMap.rising lo m = true) : SMap.rising lo (SMap.above m k) = true := by
  induction m generalizing lo with
  | nil => rfl
  | cons e m ih =>
    obtain ⟨a, x⟩ := e
    rw [SMap.above]
    split
    · simp only [SMap.rising, Bool.and_eq_true, decide_eq_true_eq] at h
      exact SMap.rising_mono (ih (a + 1) h.2) (by omega)
    · exact h

theorem SMap.noDefault_above [DecidableEq β] (d : Nat → β) (m : SMap β) (k : Nat) (h : SMap.noDefault d m = true) :
    SMap.noDefault d (SMap.above m k) = true := by
  induction m with
  | nil => rfl
  | cons e m ih =>
    obtain ⟨a, x⟩ := e
    rw [SMap.above]
    split
    · simp only [SMap.noDefault, Bool.and_eq_true] at h
      exact ih h.2
    · exact h

theorem SMap.rising_del (m : SMap β) (k lo : Nat) (h : SMap.rising lo m = true) : SMap.rising lo (SMap.del m k) = true := by
  induction m generalizing lo with
  | nil => rfl
  | cons e m ih =>
    obtain ⟨a, x⟩ := e
    simp only [SMap.rising, Bool.and_eq_true, decide_eq_true_eq] at h
    rw [SMap.del]
    split
    · exact SMap.rising_mono (SMap.rising_above _ _ _ h.2) (by omega)
    · split
      · simp only [SMap.rising, Bool.and_eq_true, decide_eq_true_eq]; exact h
      · simp only [SMap.rising, Bool.and_eq_true, decide_eq_true_eq]; exact ⟨h.1, ih (a + 1) h.2⟩

theorem SMap.rising_ins (m : SMap β) (k lo : Nat) (v : β) (h : SMap.rising lo m = true) (hk : lo ≤ k) :
    SMap.rising lo (SMap.ins m k v) = true := by
  induction m generalizing lo with
  | nil => simp [SMap.ins, SMap.rising, hk]
  | cons e m ih =>
    obtain ⟨a, x⟩ := e
    simp only [SMap.rising, Bool.and_eq_true, decide_eq_true_eq] at h
    rw [SMap.ins]
    split
    · subst k; simp only [SMap.rising, Bool.and_eq_true, decide_eq_true_eq]; exact h
    · split
      · simp only [SMap.rising, Bool.and_eq_true, decide_eq_true_eq]; exact ⟨hk, by omega, h.2⟩
      · simp only [SMap.rising, Bool.and_eq_true, decide_eq_true_eq]; exact ⟨h.1, ih (a + 1) h.2 (by omega)⟩

theorem SMap.noDefault_del [DecidableEq β] (d : Nat → β) (m : SMap β) (k : Nat) (h : SMap.noDefault d m = true) :
    SMap.noDefault d (SMap.del m k) = true := by
  induction m with
  | nil => rfl
  | cons e m ih =>
    obtain ⟨a, x⟩ := e
    simp only [SMap.noDefault, Bool.and_eq_true] at h
    rw [SMap.del]
    split
    · exact SMap.noDefault_above _ _ _ h.2
    · split <;> simp only [SMap.noDefault, Bool.and_eq_true]
      · exact h
      · exact ⟨h.1, ih h.2⟩

theorem SMap.noDefault_ins [DecidableEq β] (d : Nat → β) (m : SMap β) (k : Nat) (v : β) (h : SMap.noDefault d m = true)
    (hv : v ≠ d k) : SMap.noDefault d (SMap.ins m k v) = true := by
  induction m with
  | nil => simp [SMap.ins, SMap.noDefault, hv]
  | cons e m ih =>
    obtain ⟨a, x⟩ := e
    simp only [SMap.noDefault, Bool.and_eq_true] at h
    rw [SMap.ins]
    split
    · simp only [SMap.noDefault, Bool.and_eq_true, decide_eq_true_eq]; exact ⟨hv, h.2⟩
    · split <;> simp only [SMap.noDefault, Bool.and_eq_true, decide_eq_true_eq]
      · exact ⟨hv, by simpa using h.1, h.2⟩
      · exact ⟨by simpa using h.1, ih h.2⟩

/-- Storing a value keeps the canonical form. -/
theorem SMap.wf_set [DecidableEq β] (d : Nat → β) (m : SMap β) (k : Nat) (v : β) (h : SMap.wf d m = true) :
    SMap.wf d (SMap.set d m k v) = true := by
  simp only [SMap.wf, Bool.and_eq_true] at h ⊢
  unfold SMap.set
  split
  · exact ⟨SMap.rising_del m k 0 h.1, SMap.noDefault_del d m k h.2⟩
  · exact ⟨SMap.rising_ins m k 0 v h.1 (Nat.zero_le _), SMap.noDefault_ins d m k v h.2 (by assumption)⟩

theorem SMap.wf_upd [DecidableEq β] (d : Nat → β) (m : SMap β) (k : Nat) (f : β → β) (h : SMap.wf d m = true) :
    SMap.wf d (SMap.upd d m k f) = true := SMap.wf_set d m k _ h

theorem SMap.rising_keep (m : SMap β) (p : Nat → Bool) (lo : Nat) (h : SMap.rising lo m = true) :
    SMap.rising lo (SMap.keep p m) = true := by
  induction m generalizing lo with
  | nil => rfl
  | cons e m ih =>
    obtain ⟨a, x⟩ := e
    simp only [SMap.rising, Bool.and_eq_true, decide_eq_true_eq] at h
    rw [SMap.keep]
    split
    · simp only [SMap.rising, Bool.and_eq_true, decide_eq_true_eq]; exact ⟨h.1, ih (a + 1) h.2⟩
    · exact SMap.rising_mono (ih (a + 1) h.2) (by omega)

theorem SMap.noDefault_keep [DecidableEq β] (d : Nat → β) (m : SMap β) (p : Nat → Bool) (h : SMap.noDefault d m = true) :
    SMap.noDefault d (SMap.keep p m) = true := by
  induction m with
  | nil => rfl
  | cons e m ih =>
    obtain ⟨a, x⟩ := e
    simp only [SMap.noDefault, Bool.and_eq_true] at h
    rw [SMap.keep]
    split
    · simp only [SMap.noDefault, Bool.and_eq_true]; exact ⟨h.1, ih h.2⟩
    · exact ih h.2

/-- Dropping entries keeps the canonical form. -/
theorem SMap.wf_keep [DecidableEq β] (d : Nat → β) (m : SMap β) (p : Nat → Bool) (h : SMap.wf d m = true) :
    SMap.wf d (SMap.keep p m) = true := by
  simp only [SMap.wf, Bool.and_eq_true] at h ⊢
  exact ⟨SMap.rising_keep m p 0 h.1, SMap.noDefault_keep d m p h.2⟩

theorem SMap.rising_mapKV [DecidableEq β] (d : Nat → β) (m : SMap β) (f : Nat → β → β) (lo : Nat)
    (h : SMap.rising lo m = true) : SMap.rising lo (SMap.mapKV d f m) = true := by
  induction m generalizing lo with
  | nil => rfl
  | cons e m ih =>
    obtain ⟨a, x⟩ := e
    simp only [SMap.rising, Bool.and_eq_true, decide_eq_true_eq] at h
    rw [SMap.mapKV]
    split
    · exact SMap.rising_mono (ih (a + 1) h.2) (by omega)
    · simp only [SMap.rising, Bool.and_eq_true, decide_eq_true_eq]; exact ⟨h.1, ih (a + 1) h.2⟩

theorem SMap.noDefault_mapKV [DecidableEq β] (d : Nat → β) (m : SMap β) (f : Nat → β → β) :
    SMap.noDefault d (SMap.mapKV d f m) = true := by
  induction m with
  | nil => rfl
  | cons e m ih =>
    obtain ⟨a, x⟩ := e
    rw [SMap.mapKV]
    split
    · exact ih
    · simp only [SMap.noDefault, Bool.and_eq_true, decide_eq_true_eq]; exact ⟨by assumption, ih⟩

/-- Changing entries by `mapKV` keeps the canonical form. -/
theorem SMap.wf_mapKV [DecidableEq β] (d : Nat → β) (m : SMap β) (f : Nat → β → β) (h : SMap.wf d m = true) :
    SMap.wf d (SMap.mapKV d f m) = true := by
  simp only [SMap.wf, Bool.and_eq_true] at h ⊢
  exact ⟨SMap.rising_mapKV d m f 0 h.1, SMap.noDefault_mapKV d m f⟩

/-- What `mapKV` leaves at `j`, where it changes no default. -/
theorem SMap.get_mapKV [DecidableEq β] (d : Nat → β) (m : SMap β) (f : Nat → β → β) (hf : ∀ k, f k (d k) = d k)
    (j lo : Nat) (h : SMap.rising lo m = true) : SMap.get d (SMap.mapKV d f m) j = f j (SMap.get d m j) := by
  induction m generalizing lo with
  | nil => simp [SMap.mapKV, SMap.get, hf]
  | cons e m ih =>
    obtain ⟨a, x⟩ := e
    simp only [SMap.rising, Bool.and_eq_true, decide_eq_true_eq] at h
    have ih' := ih (a + 1) h.2
    have hr := SMap.rising_mapKV d m f (a + 1) h.2
    rw [SMap.mapKV, SMap.get_cons]
    by_cases hj : a = j
    · subst hj
      rw [if_pos rfl]
      split
      · rename_i hx; rw [hx]; exact SMap.get_lt d hr (by omega)
      · rw [SMap.get_cons, if_pos rfl]
    · rw [if_neg hj]
      by_cases hlt : j < a
      · rw [if_pos hlt, hf]
        split
        · exact SMap.get_lt d hr (by omega)
        · rw [SMap.get_cons, if_neg hj, if_pos hlt]
      · rw [if_neg hlt]
        split
        · exact ih'
        · rw [SMap.get_cons, if_neg hj, if_neg hlt]; exact ih'

end Sys2Proof.Machine
end

