-- ==== Sys2Proof/Laws/Regs.lean ====
section
/-! SUPPORT. What the register file holds after each shared operation on registers and events, and what of the base each
leaves alone. -/
namespace Sys2Proof.Machine

/-! ### Bits of a word -/

theorem wput_getLsbD (w : Word) (hi lo v i : Nat) (hi' : i < 32) :
    (wput w hi lo v).getLsbD i = if lo ≤ i ∧ i ≤ hi then v.testBit (i - lo) else w.getLsbD i := by
  simp only [wput, wmask, BitVec.getLsbD_or, BitVec.getLsbD_and, BitVec.getLsbD_not, BitVec.getLsbD_ofNat, Nat.testBit_shiftLeft,
    Nat.testBit_two_pow_sub_one, Nat.testBit_mod_two_pow, hi', decide_true, Bool.true_and, ge_iff_le]
  by_cases h1 : lo ≤ i
  · by_cases h2 : i ≤ hi
    · have h3 : i - lo < hi + 1 - lo := by omega
      simp [h1, h2, h3]
    · have h3 : ¬ i - lo < hi + 1 - lo := by omega
      simp [h1, h2, h3]
  · simp [h1]

theorem wget_testBit (w : Word) (hi lo i : Nat) : (wget w hi lo).testBit i = (decide (i < hi + 1 - lo) && w.getLsbD (lo + i)) := by
  simp only [wget, Nat.testBit_mod_two_pow, Nat.testBit_shiftRight, BitVec.testBit_toNat]

/-- The bits just written read back, cut to their width. -/
theorem wget_wput_same (w : Word) (hi lo v : Nat) (hl : lo ≤ hi) (hh : hi < 32) :
    wget (wput w hi lo v) hi lo = v % 2 ^ (hi + 1 - lo) := by
  apply Nat.eq_of_testBit_eq
  intro i
  rw [wget_testBit, Nat.testBit_mod_two_pow]
  by_cases h : i < hi + 1 - lo
  · rw [wput_getLsbD _ _ _ _ _ (by omega), if_pos (by omega)]
    simp only [h, decide_true, Bool.true_and, Nat.add_sub_cancel_left]
  · simp only [h, decide_false, Bool.false_and]

/-- Bits outside those written read as before. -/
theorem wget_wput_other (w : Word) (hi lo v hi' lo' : Nat) (hd : hi' < lo ∨ hi < lo') :
    wget (wput w hi lo v) hi' lo' = wget w hi' lo' := by
  apply Nat.eq_of_testBit_eq
  intro i
  rw [wget_testBit, wget_testBit]
  by_cases h : i < hi' + 1 - lo'
  · by_cases h2 : lo' + i < 32
    · rw [wput_getLsbD _ _ _ _ _ h2, if_neg (by omega)]
    · rw [BitVec.getLsbD_of_ge _ _ (by omega), BitVec.getLsbD_of_ge _ _ (by omega)]
  · simp only [h, decide_false, Bool.false_and]

theorem wget_lt (w : Word) (hi lo : Nat) : wget w hi lo < 2 ^ (hi + 1 - lo) := Nat.mod_lt _ (Nat.two_pow_pos _)

/-! ### Words and fields read back -/

theorem Base.word_setWord (b : Base) (a : Nat) (w : Word) (k : Nat) :
    (b.setWord a w).word k = if k = a then w else b.word k := SMap.get_set ..
@[simp] theorem Base.word_setWord_same (b : Base) (a : Nat) (w : Word) : (b.setWord a w).word a = w := SMap.get_set_same ..
theorem Base.word_setWord_ne (b : Base) {a k : Nat} (w : Word) (h : k ≠ a) : (b.setWord a w).word k = b.word k :=
  SMap.get_set_ne _ _ _ h
theorem Base.shWord_setShWord (b : Base) (a : Nat) (w : Word) (k : Nat) :
    (b.setShWord a w).shWord k = if k = a then w else b.shWord k := SMap.get_set ..
@[simp] theorem Base.shWord_setWord (b : Base) (a : Nat) (w : Word) (k : Nat) : (b.setWord a w).shWord k = b.shWord k := rfl
@[simp] theorem Base.word_setShWord (b : Base) (a : Nat) (w : Word) (k : Nat) : (b.setShWord a w).word k = b.word k := rfl
@[simp] theorem Base.word_send (b : Base) (m : Msg) (k : Nat) : (b.send m).word k = b.word k := rfl
@[simp] theorem Base.shWord_send (b : Base) (m : Msg) (k : Nat) : (b.send m).shWord k = b.shWord k := rfl
@[simp] theorem Base.word_bump (b : Base) (k : Nat) : b.bump.word k = b.word k := rfl
@[simp] theorem Base.fld_bump (b : Base) (p : Page) (f : Fld) : b.bump.fld p f = b.fld p f := rfl
@[simp] theorem Base.fld_send (b : Base) (m : Msg) (p : Page) (f : Fld) : (b.send m).fld p f = b.fld p f := rfl
@[simp] theorem Base.bit_send (b : Base) (m : Msg) (p : Page) (f : Fld) : (b.send m).bit p f = b.bit p f := rfl

theorem Base.word_setFld (b : Base) (p : Page) (f : Fld) (v k : Nat) :
    (b.setFld p f v).word k = if k = pbase p + f.off then wput (b.word k) f.hi f.lo v else b.word k := by
  unfold Base.setFld
  rw [Base.word_setWord]
  split
  · subst k; rfl
  · rfl

/-- A field just written reads back, cut to its width. -/
theorem Base.fld_setFld_same (b : Base) (p : Page) (f : Fld) (v : Nat) (hl : f.lo ≤ f.hi) (hh : f.hi < 32) :
    (b.setFld p f v).fld p f = v % 2 ^ (f.hi + 1 - f.lo) := by
  unfold Base.fld Base.setFld
  rw [Base.word_setWord_same, wget_wput_same _ _ _ _ hl hh]

/-- A field of another register reads as before. -/
theorem Base.fld_setFld_addr (b : Base) (p q : Page) (f g : Fld) (v : Nat) (h : pbase q + g.off ≠ pbase p + f.off) :
    (b.setFld p f v).fld q g = b.fld q g := by
  unfold Base.fld Base.setFld
  rw [Base.word_setWord_ne _ _ h]

theorem Base.fld_setFld_off (b : Base) (p : Page) (f g : Fld) (v : Nat) (h : g.off ≠ f.off) :
    (b.setFld p f v).fld p g = b.fld p g := Base.fld_setFld_addr _ _ _ _ _ _ (by omega)

/-- Another field of the same register reads as before. -/
theorem Base.fld_setFld_bits (b : Base) (p : Page) (f g : Fld) (v : Nat)
    (hd : g.hi < f.lo ∨ f.hi < g.lo) : (b.setFld p f v).fld p g = b.fld p g := by
  unfold Base.fld Base.setFld
  rw [Base.word_setWord]
  split
  · rename_i e
    rw [e, wget_wput_other _ _ _ _ _ _ hd]
  · rfl

theorem Base.bit_setBit_same (b : Base) (p : Page) (f : Fld) (v : Bool) (hl : f.lo ≤ f.hi) (hh : f.hi < 32) :
    (b.setBit p f v).bit p f = v := by
  unfold Base.bit Base.setBit
  rw [Base.fld_setFld_same _ _ _ _ hl hh]
  cases v
  · simp [b2n]
  · have h : 1 < 2 ^ (f.hi + 1 - f.lo) := Nat.one_lt_two_pow (by omega)
    simp only [b2n, if_true]
    rw [Nat.mod_eq_of_lt h]
    rfl

theorem Base.fld_setBit_off (b : Base) (p : Page) (f g : Fld) (v : Bool) (h : g.off ≠ f.off) :
    (b.setBit p f v).fld p g = b.fld p g := Base.fld_setFld_off _ _ _ _ _ h
theorem Base.fld_setBit_bits (b : Base) (p : Page) (f g : Fld) (v : Bool)
    (hd : g.hi < f.lo ∨ f.hi < g.lo) : (b.setBit p f v).fld p g = b.fld p g := Base.fld_setFld_bits _ _ _ _ _ hd
theorem Base.fld_lt (b : Base) (p : Page) (f : Fld) : b.fld p f < 2 ^ (f.hi + 1 - f.lo) := wget_lt ..

/-! ### Events -/

theorem Base.regs_msixSend (b : Base) (f v : Nat) : (b.msixSend f v).regs = b.regs := by
  unfold Base.msixSend; split <;> rfl
@[simp] theorem Base.regs_decUse (b : Base) (p : Page) (a : Nat) : (b.decUse p a).regs = b.regs := by
  unfold Base.decUse; split <;> rfl
theorem Base.regs_route (b : Base) (n : Nat) : (b.route n).regs = b.regs := by
  unfold Base.route
  dsimp only
  split
  · rw [Base.regs_msixSend]; split <;> exact Base.regs_decUse ..
  · split <;> exact Base.regs_decUse ..
theorem Base.regs_setEvt (b : Base) (p : Page) (m : Word) :
    (b.setEvt p m).regs = (b.setWord (pbase p + 0x14) (b.word (pbase p + 0x14) ||| m)).regs := by
  unfold Base.setEvt
  dsimp only
  split
  · rfl
  · split
    · exact Base.regs_route _ _
    · rfl

/-- Setting event bits changes EVT_STAT of its page and no other register. -/
theorem Base.word_setEvt (b : Base) (p : Page) (m : Word) (k : Nat) :
    (b.setEvt p m).word k = if k = pbase p + 0x14 then b.word k ||| m else b.word k := by
  show SMap.get regReset (b.setEvt p m).regs k = _
  rw [Base.regs_setEvt]
  refine (Base.word_setWord b (pbase p + 0x14) (b.word (pbase p + 0x14) ||| m) k).trans ?_
  split
  · subst k; rfl
  · rfl
theorem Base.word_event (b : Base) (p : Page) (i k : Nat) :
    (b.event p i).word k = if k = pbase p + 0x14 then b.word k ||| evt i else b.word k := Base.word_setEvt ..
theorem Base.fld_setEvt (b : Base) (p q : Page) (m : Word) (f : Fld) (h : pbase q + f.off ≠ pbase p + 0x14) :
    (b.setEvt p m).fld q f = b.fld q f := by
  unfold Base.fld; rw [Base.word_setEvt, if_neg h]
theorem Base.fld_event (b : Base) (p q : Page) (i : Nat) (f : Fld) (h : pbase q + f.off ≠ pbase p + 0x14) :
    (b.event p i).fld q f = b.fld q f := Base.fld_setEvt _ _ _ _ _ h
theorem Base.bit_event (b : Base) (p q : Page) (i : Nat) (f : Fld) (h : pbase q + f.off ≠ pbase p + 0x14) :
    (b.event p i).bit q f = b.bit q f := by unfold Base.bit; rw [Base.fld_event _ _ _ _ _ h]

/-! ### What of the base each operation leaves alone -/

@[simp] theorem Base.shad_setWord (b : Base) (a : Nat) (w : Word) : (b.setWord a w).shad = b.shad := rfl
@[simp] theorem Base.out_setWord (b : Base) (a : Nat) (w : Word) : (b.setWord a w).out = b.out := rfl
@[simp] theorem Base.free_setWord (b : Base) (a : Nat) (w : Word) : (b.setWord a w).free = b.free := rfl
@[simp] theorem Base.rc_setWord (b : Base) (a : Nat) (w : Word) : (b.setWord a w).rc = b.rc := rfl
@[simp] theorem Base.aonUs_setWord (b : Base) (a : Nat) (w : Word) : (b.setWord a w).aonUs = b.aonUs := rfl
@[simp] theorem Base.leakAt_setWord (b : Base) (a : Nat) (w : Word) : (b.setWord a w).leakAt = b.leakAt := rfl
@[simp] theorem Base.decBad_setWord (b : Base) (a : Nat) (w : Word) : (b.setWord a w).decBad = b.decBad := rfl
@[simp] theorem Base.decSeen_setWord (b : Base) (a : Nat) (w : Word) : (b.setWord a w).decSeen = b.decSeen := rfl
@[simp] theorem Base.heldCtx_setWord (b : Base) (a : Nat) (w : Word) : (b.setWord a w).heldCtx = b.heldCtx := rfl
@[simp] theorem Base.crkLog_setWord (b : Base) (a : Nat) (w : Word) : (b.setWord a w).crkLog = b.crkLog := rfl
@[simp] theorem Base.crkNext_setWord (b : Base) (a : Nat) (w : Word) : (b.setWord a w).crkNext = b.crkNext := rfl
@[simp] theorem Base.crkBoot_setWord (b : Base) (a : Nat) (w : Word) : (b.setWord a w).crkBoot = b.crkBoot := rfl
@[simp] theorem Base.fns_setWord (b : Base) (a : Nat) (w : Word) : (b.setWord a w).fns = b.fns := rfl
@[simp] theorem Base.msixTab_setWord (b : Base) (a : Nat) (w : Word) : (b.setWord a w).msixTab = b.msixTab := rfl
@[simp] theorem Base.msixPend_setWord (b : Base) (a : Nat) (w : Word) : (b.setWord a w).msixPend = b.msixPend := rfl
@[simp] theorem Base.nmeQueued_setWord (b : Base) (a : Nat) (w : Word) : (b.setWord a w).nmeQueued = b.nmeQueued := rfl
@[simp] theorem Base.dead_setWord (b : Base) (a : Nat) (w : Word) : (b.setWord a w).dead = b.dead := rfl
@[simp] theorem Base.commitParts_setWord (b : Base) (a : Nat) (w : Word) : (b.setWord a w).commitParts = b.commitParts := rfl
@[simp] theorem Base.part_setWord (b : Base) (a : Nat) (w : Word) : (b.setWord a w).part = b.part := rfl
@[simp] theorem Base.fuse_setWord (b : Base) (a : Nat) (w : Word) : (b.setWord a w).fuse = b.fuse := rfl
@[simp] theorem Base.lat_setWord (b : Base) (a : Nat) (w : Word) : (b.setWord a w).lat = b.lat := rfl
@[simp] theorem Base.meas_setWord (b : Base) (a : Nat) (w : Word) : (b.setWord a w).meas = b.meas := rfl

@[simp] theorem Base.regs_setShWord (b : Base) (a : Nat) (w : Word) : (b.setShWord a w).regs = b.regs := rfl
@[simp] theorem Base.out_setShWord (b : Base) (a : Nat) (w : Word) : (b.setShWord a w).out = b.out := rfl
@[simp] theorem Base.free_setShWord (b : Base) (a : Nat) (w : Word) : (b.setShWord a w).free = b.free := rfl
@[simp] theorem Base.rc_setShWord (b : Base) (a : Nat) (w : Word) : (b.setShWord a w).rc = b.rc := rfl
@[simp] theorem Base.aonUs_setShWord (b : Base) (a : Nat) (w : Word) : (b.setShWord a w).aonUs = b.aonUs := rfl
@[simp] theorem Base.leakAt_setShWord (b : Base) (a : Nat) (w : Word) : (b.setShWord a w).leakAt = b.leakAt := rfl
@[simp] theorem Base.decBad_setShWord (b : Base) (a : Nat) (w : Word) : (b.setShWord a w).decBad = b.decBad := rfl
@[simp] theorem Base.decSeen_setShWord (b : Base) (a : Nat) (w : Word) : (b.setShWord a w).decSeen = b.decSeen := rfl
@[simp] theorem Base.heldCtx_setShWord (b : Base) (a : Nat) (w : Word) : (b.setShWord a w).heldCtx = b.heldCtx := rfl
@[simp] theorem Base.crkLog_setShWord (b : Base) (a : Nat) (w : Word) : (b.setShWord a w).crkLog = b.crkLog := rfl
@[simp] theorem Base.crkNext_setShWord (b : Base) (a : Nat) (w : Word) : (b.setShWord a w).crkNext = b.crkNext := rfl
@[simp] theorem Base.crkBoot_setShWord (b : Base) (a : Nat) (w : Word) : (b.setShWord a w).crkBoot = b.crkBoot := rfl
@[simp] theorem Base.fns_setShWord (b : Base) (a : Nat) (w : Word) : (b.setShWord a w).fns = b.fns := rfl
@[simp] theorem Base.msixTab_setShWord (b : Base) (a : Nat) (w : Word) : (b.setShWord a w).msixTab = b.msixTab := rfl
@[simp] theorem Base.msixPend_setShWord (b : Base) (a : Nat) (w : Word) : (b.setShWord a w).msixPend = b.msixPend := rfl
@[simp] theorem Base.nmeQueued_setShWord (b : Base) (a : Nat) (w : Word) : (b.setShWord a w).nmeQueued = b.nmeQueued := rfl
@[simp] theorem Base.dead_setShWord (b : Base) (a : Nat) (w : Word) : (b.setShWord a w).dead = b.dead := rfl
@[simp] theorem Base.commitParts_setShWord (b : Base) (a : Nat) (w : Word) : (b.setShWord a w).commitParts = b.commitParts := rfl
@[simp] theorem Base.part_setShWord (b : Base) (a : Nat) (w : Word) : (b.setShWord a w).part = b.part := rfl
@[simp] theorem Base.fuse_setShWord (b : Base) (a : Nat) (w : Word) : (b.setShWord a w).fuse = b.fuse := rfl
@[simp] theorem Base.lat_setShWord (b : Base) (a : Nat) (w : Word) : (b.setShWord a w).lat = b.lat := rfl
@[simp] theorem Base.meas_setShWord (b : Base) (a : Nat) (w : Word) : (b.setShWord a w).meas = b.meas := rfl

@[simp] theorem Base.shad_setFld (b : Base) (p : Page) (f : Fld) (v : Nat) : (b.setFld p f v).shad = b.shad := rfl
@[simp] theorem Base.out_setFld (b : Base) (p : Page) (f : Fld) (v : Nat) : (b.setFld p f v).out = b.out := rfl
@[simp] theorem Base.free_setFld (b : Base) (p : Page) (f : Fld) (v : Nat) : (b.setFld p f v).free = b.free := rfl
@[simp] theorem Base.rc_setFld (b : Base) (p : Page) (f : Fld) (v : Nat) : (b.setFld p f v).rc = b.rc := rfl
@[simp] theorem Base.aonUs_setFld (b : Base) (p : Page) (f : Fld) (v : Nat) : (b.setFld p f v).aonUs = b.aonUs := rfl
@[simp] theorem Base.leakAt_setFld (b : Base) (p : Page) (f : Fld) (v : Nat) : (b.setFld p f v).leakAt = b.leakAt := rfl
@[simp] theorem Base.decBad_setFld (b : Base) (p : Page) (f : Fld) (v : Nat) : (b.setFld p f v).decBad = b.decBad := rfl
@[simp] theorem Base.decSeen_setFld (b : Base) (p : Page) (f : Fld) (v : Nat) : (b.setFld p f v).decSeen = b.decSeen := rfl
@[simp] theorem Base.heldCtx_setFld (b : Base) (p : Page) (f : Fld) (v : Nat) : (b.setFld p f v).heldCtx = b.heldCtx := rfl
@[simp] theorem Base.crkLog_setFld (b : Base) (p : Page) (f : Fld) (v : Nat) : (b.setFld p f v).crkLog = b.crkLog := rfl
@[simp] theorem Base.crkNext_setFld (b : Base) (p : Page) (f : Fld) (v : Nat) : (b.setFld p f v).crkNext = b.crkNext := rfl
@[simp] theorem Base.crkBoot_setFld (b : Base) (p : Page) (f : Fld) (v : Nat) : (b.setFld p f v).crkBoot = b.crkBoot := rfl
@[simp] theorem Base.fns_setFld (b : Base) (p : Page) (f : Fld) (v : Nat) : (b.setFld p f v).fns = b.fns := rfl
@[simp] theorem Base.msixTab_setFld (b : Base) (p : Page) (f : Fld) (v : Nat) : (b.setFld p f v).msixTab = b.msixTab := rfl
@[simp] theorem Base.msixPend_setFld (b : Base) (p : Page) (f : Fld) (v : Nat) : (b.setFld p f v).msixPend = b.msixPend := rfl
@[simp] theorem Base.nmeQueued_setFld (b : Base) (p : Page) (f : Fld) (v : Nat) : (b.setFld p f v).nmeQueued = b.nmeQueued := rfl
@[simp] theorem Base.dead_setFld (b : Base) (p : Page) (f : Fld) (v : Nat) : (b.setFld p f v).dead = b.dead := rfl
@[simp] theorem Base.commitParts_setFld (b : Base) (p : Page) (f : Fld) (v : Nat) : (b.setFld p f v).commitParts = b.commitParts := rfl
@[simp] theorem Base.part_setFld (b : Base) (p : Page) (f : Fld) (v : Nat) : (b.setFld p f v).part = b.part := rfl
@[simp] theorem Base.fuse_setFld (b : Base) (p : Page) (f : Fld) (v : Nat) : (b.setFld p f v).fuse = b.fuse := rfl
@[simp] theorem Base.lat_setFld (b : Base) (p : Page) (f : Fld) (v : Nat) : (b.setFld p f v).lat = b.lat := rfl
@[simp] theorem Base.meas_setFld (b : Base) (p : Page) (f : Fld) (v : Nat) : (b.setFld p f v).meas = b.meas := rfl

@[simp] theorem Base.regs_setShFld (b : Base) (p : Page) (f : Fld) (v : Nat) : (b.setShFld p f v).regs = b.regs := rfl
@[simp] theorem Base.out_setShFld (b : Base) (p : Page) (f : Fld) (v : Nat) : (b.setShFld p f v).out = b.out := rfl
@[simp] theorem Base.free_setShFld (b : Base) (p : Page) (f : Fld) (v : Nat) : (b.setShFld p f v).free = b.free := rfl
@[simp] theorem Base.rc_setShFld (b : Base) (p : Page) (f : Fld) (v : Nat) : (b.setShFld p f v).rc = b.rc := rfl
@[simp] theorem Base.aonUs_setShFld (b : Base) (p : Page) (f : Fld) (v : Nat) : (b.setShFld p f v).aonUs = b.aonUs := rfl
@[simp] theorem Base.leakAt_setShFld (b : Base) (p : Page) (f : Fld) (v : Nat) : (b.setShFld p f v).leakAt = b.leakAt := rfl
@[simp] theorem Base.decBad_setShFld (b : Base) (p : Page) (f : Fld) (v : Nat) : (b.setShFld p f v).decBad = b.decBad := rfl
@[simp] theorem Base.decSeen_setShFld (b : Base) (p : Page) (f : Fld) (v : Nat) : (b.setShFld p f v).decSeen = b.decSeen := rfl
@[simp] theorem Base.heldCtx_setShFld (b : Base) (p : Page) (f : Fld) (v : Nat) : (b.setShFld p f v).heldCtx = b.heldCtx := rfl
@[simp] theorem Base.crkLog_setShFld (b : Base) (p : Page) (f : Fld) (v : Nat) : (b.setShFld p f v).crkLog = b.crkLog := rfl
@[simp] theorem Base.crkNext_setShFld (b : Base) (p : Page) (f : Fld) (v : Nat) : (b.setShFld p f v).crkNext = b.crkNext := rfl
@[simp] theorem Base.crkBoot_setShFld (b : Base) (p : Page) (f : Fld) (v : Nat) : (b.setShFld p f v).crkBoot = b.crkBoot := rfl
@[simp] theorem Base.fns_setShFld (b : Base) (p : Page) (f : Fld) (v : Nat) : (b.setShFld p f v).fns = b.fns := rfl
@[simp] theorem Base.msixTab_setShFld (b : Base) (p : Page) (f : Fld) (v : Nat) : (b.setShFld p f v).msixTab = b.msixTab := rfl
@[simp] theorem Base.msixPend_setShFld (b : Base) (p : Page) (f : Fld) (v : Nat) : (b.setShFld p f v).msixPend = b.msixPend := rfl
@[simp] theorem Base.nmeQueued_setShFld (b : Base) (p : Page) (f : Fld) (v : Nat) : (b.setShFld p f v).nmeQueued = b.nmeQueued := rfl
@[simp] theorem Base.dead_setShFld (b : Base) (p : Page) (f : Fld) (v : Nat) : (b.setShFld p f v).dead = b.dead := rfl
@[simp] theorem Base.commitParts_setShFld (b : Base) (p : Page) (f : Fld) (v : Nat) : (b.setShFld p f v).commitParts = b.commitParts := rfl
@[simp] theorem Base.part_setShFld (b : Base) (p : Page) (f : Fld) (v : Nat) : (b.setShFld p f v).part = b.part := rfl
@[simp] theorem Base.fuse_setShFld (b : Base) (p : Page) (f : Fld) (v : Nat) : (b.setShFld p f v).fuse = b.fuse := rfl
@[simp] theorem Base.lat_setShFld (b : Base) (p : Page) (f : Fld) (v : Nat) : (b.setShFld p f v).lat = b.lat := rfl
@[simp] theorem Base.meas_setShFld (b : Base) (p : Page) (f : Fld) (v : Nat) : (b.setShFld p f v).meas = b.meas := rfl

@[simp] theorem Base.shad_setBit (b : Base) (p : Page) (f : Fld) (v : Bool) : (b.setBit p f v).shad = b.shad := rfl
@[simp] theorem Base.out_setBit (b : Base) (p : Page) (f : Fld) (v : Bool) : (b.setBit p f v).out = b.out := rfl
@[simp] theorem Base.free_setBit (b : Base) (p : Page) (f : Fld) (v : Bool) : (b.setBit p f v).free = b.free := rfl
@[simp] theorem Base.rc_setBit (b : Base) (p : Page) (f : Fld) (v : Bool) : (b.setBit p f v).rc = b.rc := rfl
@[simp] theorem Base.aonUs_setBit (b : Base) (p : Page) (f : Fld) (v : Bool) : (b.setBit p f v).aonUs = b.aonUs := rfl
@[simp] theorem Base.leakAt_setBit (b : Base) (p : Page) (f : Fld) (v : Bool) : (b.setBit p f v).leakAt = b.leakAt := rfl
@[simp] theorem Base.decBad_setBit (b : Base) (p : Page) (f : Fld) (v : Bool) : (b.setBit p f v).decBad = b.decBad := rfl
@[simp] theorem Base.decSeen_setBit (b : Base) (p : Page) (f : Fld) (v : Bool) : (b.setBit p f v).decSeen = b.decSeen := rfl
@[simp] theorem Base.heldCtx_setBit (b : Base) (p : Page) (f : Fld) (v : Bool) : (b.setBit p f v).heldCtx = b.heldCtx := rfl
@[simp] theorem Base.crkLog_setBit (b : Base) (p : Page) (f : Fld) (v : Bool) : (b.setBit p f v).crkLog = b.crkLog := rfl
@[simp] theorem Base.crkNext_setBit (b : Base) (p : Page) (f : Fld) (v : Bool) : (b.setBit p f v).crkNext = b.crkNext := rfl
@[simp] theorem Base.crkBoot_setBit (b : Base) (p : Page) (f : Fld) (v : Bool) : (b.setBit p f v).crkBoot = b.crkBoot := rfl
@[simp] theorem Base.fns_setBit (b : Base) (p : Page) (f : Fld) (v : Bool) : (b.setBit p f v).fns = b.fns := rfl
@[simp] theorem Base.msixTab_setBit (b : Base) (p : Page) (f : Fld) (v : Bool) : (b.setBit p f v).msixTab = b.msixTab := rfl
@[simp] theorem Base.msixPend_setBit (b : Base) (p : Page) (f : Fld) (v : Bool) : (b.setBit p f v).msixPend = b.msixPend := rfl
@[simp] theorem Base.nmeQueued_setBit (b : Base) (p : Page) (f : Fld) (v : Bool) : (b.setBit p f v).nmeQueued = b.nmeQueued := rfl
@[simp] theorem Base.dead_setBit (b : Base) (p : Page) (f : Fld) (v : Bool) : (b.setBit p f v).dead = b.dead := rfl
@[simp] theorem Base.commitParts_setBit (b : Base) (p : Page) (f : Fld) (v : Bool) : (b.setBit p f v).commitParts = b.commitParts := rfl
@[simp] theorem Base.part_setBit (b : Base) (p : Page) (f : Fld) (v : Bool) : (b.setBit p f v).part = b.part := rfl
@[simp] theorem Base.fuse_setBit (b : Base) (p : Page) (f : Fld) (v : Bool) : (b.setBit p f v).fuse = b.fuse := rfl
@[simp] theorem Base.lat_setBit (b : Base) (p : Page) (f : Fld) (v : Bool) : (b.setBit p f v).lat = b.lat := rfl
@[simp] theorem Base.meas_setBit (b : Base) (p : Page) (f : Fld) (v : Bool) : (b.setBit p f v).meas = b.meas := rfl

@[simp] theorem Base.shad_addFld (b : Base) (p : Page) (f : Fld) (k : Nat) : (b.addFld p f k).shad = b.shad := rfl
@[simp] theorem Base.out_addFld (b : Base) (p : Page) (f : Fld) (k : Nat) : (b.addFld p f k).out = b.out := rfl
@[simp] theorem Base.free_addFld (b : Base) (p : Page) (f : Fld) (k : Nat) : (b.addFld p f k).free = b.free := rfl
@[simp] theorem Base.rc_addFld (b : Base) (p : Page) (f : Fld) (k : Nat) : (b.addFld p f k).rc = b.rc := rfl
@[simp] theorem Base.aonUs_addFld (b : Base) (p : Page) (f : Fld) (k : Nat) : (b.addFld p f k).aonUs = b.aonUs := rfl
@[simp] theorem Base.leakAt_addFld (b : Base) (p : Page) (f : Fld) (k : Nat) : (b.addFld p f k).leakAt = b.leakAt := rfl
@[simp] theorem Base.decBad_addFld (b : Base) (p : Page) (f : Fld) (k : Nat) : (b.addFld p f k).decBad = b.decBad := rfl
@[simp] theorem Base.decSeen_addFld (b : Base) (p : Page) (f : Fld) (k : Nat) : (b.addFld p f k).decSeen = b.decSeen := rfl
@[simp] theorem Base.heldCtx_addFld (b : Base) (p : Page) (f : Fld) (k : Nat) : (b.addFld p f k).heldCtx = b.heldCtx := rfl
@[simp] theorem Base.crkLog_addFld (b : Base) (p : Page) (f : Fld) (k : Nat) : (b.addFld p f k).crkLog = b.crkLog := rfl
@[simp] theorem Base.crkNext_addFld (b : Base) (p : Page) (f : Fld) (k : Nat) : (b.addFld p f k).crkNext = b.crkNext := rfl
@[simp] theorem Base.crkBoot_addFld (b : Base) (p : Page) (f : Fld) (k : Nat) : (b.addFld p f k).crkBoot = b.crkBoot := rfl
@[simp] theorem Base.fns_addFld (b : Base) (p : Page) (f : Fld) (k : Nat) : (b.addFld p f k).fns = b.fns := rfl
@[simp] theorem Base.msixTab_addFld (b : Base) (p : Page) (f : Fld) (k : Nat) : (b.addFld p f k).msixTab = b.msixTab := rfl
@[simp] theorem Base.msixPend_addFld (b : Base) (p : Page) (f : Fld) (k : Nat) : (b.addFld p f k).msixPend = b.msixPend := rfl
@[simp] theorem Base.nmeQueued_addFld (b : Base) (p : Page) (f : Fld) (k : Nat) : (b.addFld p f k).nmeQueued = b.nmeQueued := rfl
@[simp] theorem Base.dead_addFld (b : Base) (p : Page) (f : Fld) (k : Nat) : (b.addFld p f k).dead = b.dead := rfl
@[simp] theorem Base.commitParts_addFld (b : Base) (p : Page) (f : Fld) (k : Nat) : (b.addFld p f k).commitParts = b.commitParts := rfl
@[simp] theorem Base.part_addFld (b : Base) (p : Page) (f : Fld) (k : Nat) : (b.addFld p f k).part = b.part := rfl
@[simp] theorem Base.fuse_addFld (b : Base) (p : Page) (f : Fld) (k : Nat) : (b.addFld p f k).fuse = b.fuse := rfl
@[simp] theorem Base.lat_addFld (b : Base) (p : Page) (f : Fld) (k : Nat) : (b.addFld p f k).lat = b.lat := rfl
@[simp] theorem Base.meas_addFld (b : Base) (p : Page) (f : Fld) (k : Nat) : (b.addFld p f k).meas = b.meas := rfl

@[simp] theorem Base.regs_send (b : Base) (m : Msg) : (b.send m).regs = b.regs := rfl
@[simp] theorem Base.shad_send (b : Base) (m : Msg) : (b.send m).shad = b.shad := rfl
@[simp] theorem Base.free_send (b : Base) (m : Msg) : (b.send m).free = b.free := rfl
@[simp] theorem Base.rc_send (b : Base) (m : Msg) : (b.send m).rc = b.rc := rfl
@[simp] theorem Base.aonUs_send (b : Base) (m : Msg) : (b.send m).aonUs = b.aonUs := rfl
@[simp] theorem Base.leakAt_send (b : Base) (m : Msg) : (b.send m).leakAt = b.leakAt := rfl
@[simp] theorem Base.decBad_send (b : Base) (m : Msg) : (b.send m).decBad = b.decBad := rfl
@[simp] theorem Base.decSeen_send (b : Base) (m : Msg) : (b.send m).decSeen = b.decSeen := rfl
@[simp] theorem Base.heldCtx_send (b : Base) (m : Msg) : (b.send m).heldCtx = b.heldCtx := rfl
@[simp] theorem Base.crkLog_send (b : Base) (m : Msg) : (b.send m).crkLog = b.crkLog := rfl
@[simp] theorem Base.crkNext_send (b : Base) (m : Msg) : (b.send m).crkNext = b.crkNext := rfl
@[simp] theorem Base.crkBoot_send (b : Base) (m : Msg) : (b.send m).crkBoot = b.crkBoot := rfl
@[simp] theorem Base.fns_send (b : Base) (m : Msg) : (b.send m).fns = b.fns := rfl
@[simp] theorem Base.msixTab_send (b : Base) (m : Msg) : (b.send m).msixTab = b.msixTab := rfl
@[simp] theorem Base.msixPend_send (b : Base) (m : Msg) : (b.send m).msixPend = b.msixPend := rfl
@[simp] theorem Base.nmeQueued_send (b : Base) (m : Msg) : (b.send m).nmeQueued = b.nmeQueued := rfl
@[simp] theorem Base.dead_send (b : Base) (m : Msg) : (b.send m).dead = b.dead := rfl
@[simp] theorem Base.commitParts_send (b : Base) (m : Msg) : (b.send m).commitParts = b.commitParts := rfl
@[simp] theorem Base.part_send (b : Base) (m : Msg) : (b.send m).part = b.part := rfl
@[simp] theorem Base.fuse_send (b : Base) (m : Msg) : (b.send m).fuse = b.fuse := rfl
@[simp] theorem Base.lat_send (b : Base) (m : Msg) : (b.send m).lat = b.lat := rfl
@[simp] theorem Base.meas_send (b : Base) (m : Msg) : (b.send m).meas = b.meas := rfl

@[simp] theorem Base.regs_bump (b : Base) : (b.bump).regs = b.regs := rfl
@[simp] theorem Base.shad_bump (b : Base) : (b.bump).shad = b.shad := rfl
@[simp] theorem Base.out_bump (b : Base) : (b.bump).out = b.out := rfl
@[simp] theorem Base.rc_bump (b : Base) : (b.bump).rc = b.rc := rfl
@[simp] theorem Base.aonUs_bump (b : Base) : (b.bump).aonUs = b.aonUs := rfl
@[simp] theorem Base.leakAt_bump (b : Base) : (b.bump).leakAt = b.leakAt := rfl
@[simp] theorem Base.decBad_bump (b : Base) : (b.bump).decBad = b.decBad := rfl
@[simp] theorem Base.decSeen_bump (b : Base) : (b.bump).decSeen = b.decSeen := rfl
@[simp] theorem Base.heldCtx_bump (b : Base) : (b.bump).heldCtx = b.heldCtx := rfl
@[simp] theorem Base.crkLog_bump (b : Base) : (b.bump).crkLog = b.crkLog := rfl
@[simp] theorem Base.crkNext_bump (b : Base) : (b.bump).crkNext = b.crkNext := rfl
@[simp] theorem Base.crkBoot_bump (b : Base) : (b.bump).crkBoot = b.crkBoot := rfl
@[simp] theorem Base.fns_bump (b : Base) : (b.bump).fns = b.fns := rfl
@[simp] theorem Base.msixTab_bump (b : Base) : (b.bump).msixTab = b.msixTab := rfl
@[simp] theorem Base.msixPend_bump (b : Base) : (b.bump).msixPend = b.msixPend := rfl
@[simp] theorem Base.nmeQueued_bump (b : Base) : (b.bump).nmeQueued = b.nmeQueued := rfl
@[simp] theorem Base.dead_bump (b : Base) : (b.bump).dead = b.dead := rfl
@[simp] theorem Base.commitParts_bump (b : Base) : (b.bump).commitParts = b.commitParts := rfl
@[simp] theorem Base.part_bump (b : Base) : (b.bump).part = b.part := rfl
@[simp] theorem Base.fuse_bump (b : Base) : (b.bump).fuse = b.fuse := rfl
@[simp] theorem Base.lat_bump (b : Base) : (b.bump).lat = b.lat := rfl
@[simp] theorem Base.meas_bump (b : Base) : (b.bump).meas = b.meas := rfl

@[simp] theorem Base.shad_decUse (b : Base) (p : Page) (a : Nat) : (b.decUse p a).shad = b.shad := by
  unfold Base.decUse; split <;> rfl
@[simp] theorem Base.shad_msixSend (b : Base) (g v : Nat) : (b.msixSend g v).shad = b.shad := by
  unfold Base.msixSend; split <;> rfl
@[simp] theorem Base.shad_route (b : Base) (n : Nat) : (b.route n).shad = b.shad := by
  unfold Base.route; dsimp only; split <;> (try rw [Base.shad_msixSend]) <;> split <;> exact Base.shad_decUse ..
@[simp] theorem Base.shad_setEvt (b : Base) (p : Page) (m : Word) : (b.setEvt p m).shad = b.shad := by
  unfold Base.setEvt; dsimp only; split
  · rfl
  · split
    · exact Base.shad_route _ _
    · rfl
@[simp] theorem Base.shad_event (b : Base) (p : Page) (i : Nat) : (b.event p i).shad = b.shad := Base.shad_setEvt _ _ _
@[simp] theorem Base.shad_eventIf (b : Base) (c : Bool) (p : Page) (i : Nat) : (b.eventIf c p i).shad = b.shad := by
  unfold Base.eventIf; split
  · exact Base.shad_event _ _ _
  · rfl
@[simp] theorem Base.free_decUse (b : Base) (p : Page) (a : Nat) : (b.decUse p a).free = b.free := by
  unfold Base.decUse; split <;> rfl
@[simp] theorem Base.free_msixSend (b : Base) (g v : Nat) : (b.msixSend g v).free = b.free := by
  unfold Base.msixSend; split <;> rfl
@[simp] theorem Base.free_route (b : Base) (n : Nat) : (b.route n).free = b.free := by
  unfold Base.route; dsimp only; split <;> (try rw [Base.free_msixSend]) <;> split <;> exact Base.free_decUse ..
@[simp] theorem Base.free_setEvt (b : Base) (p : Page) (m : Word) : (b.setEvt p m).free = b.free := by
  unfold Base.setEvt; dsimp only; split
  · rfl
  · split
    · exact Base.free_route _ _
    · rfl
@[simp] theorem Base.free_event (b : Base) (p : Page) (i : Nat) : (b.event p i).free = b.free := Base.free_setEvt _ _ _
@[simp] theorem Base.free_eventIf (b : Base) (c : Bool) (p : Page) (i : Nat) : (b.eventIf c p i).free = b.free := by
  unfold Base.eventIf; split
  · exact Base.free_event _ _ _
  · rfl
@[simp] theorem Base.rc_decUse (b : Base) (p : Page) (a : Nat) : (b.decUse p a).rc = b.rc := by
  unfold Base.decUse; split <;> rfl
@[simp] theorem Base.rc_msixSend (b : Base) (g v : Nat) : (b.msixSend g v).rc = b.rc := by
  unfold Base.msixSend; split <;> rfl
@[simp] theorem Base.rc_route (b : Base) (n : Nat) : (b.route n).rc = b.rc := by
  unfold Base.route; dsimp only; split <;> (try rw [Base.rc_msixSend]) <;> split <;> exact Base.rc_decUse ..
@[simp] theorem Base.rc_setEvt (b : Base) (p : Page) (m : Word) : (b.setEvt p m).rc = b.rc := by
  unfold Base.setEvt; dsimp only; split
  · rfl
  · split
    · exact Base.rc_route _ _
    · rfl
@[simp] theorem Base.rc_event (b : Base) (p : Page) (i : Nat) : (b.event p i).rc = b.rc := Base.rc_setEvt _ _ _
@[simp] theorem Base.rc_eventIf (b : Base) (c : Bool) (p : Page) (i : Nat) : (b.eventIf c p i).rc = b.rc := by
  unfold Base.eventIf; split
  · exact Base.rc_event _ _ _
  · rfl
@[simp] theorem Base.aonUs_decUse (b : Base) (p : Page) (a : Nat) : (b.decUse p a).aonUs = b.aonUs := by
  unfold Base.decUse; split <;> rfl
@[simp] theorem Base.aonUs_msixSend (b : Base) (g v : Nat) : (b.msixSend g v).aonUs = b.aonUs := by
  unfold Base.msixSend; split <;> rfl
@[simp] theorem Base.aonUs_route (b : Base) (n : Nat) : (b.route n).aonUs = b.aonUs := by
  unfold Base.route; dsimp only; split <;> (try rw [Base.aonUs_msixSend]) <;> split <;> exact Base.aonUs_decUse ..
@[simp] theorem Base.aonUs_setEvt (b : Base) (p : Page) (m : Word) : (b.setEvt p m).aonUs = b.aonUs := by
  unfold Base.setEvt; dsimp only; split
  · rfl
  · split
    · exact Base.aonUs_route _ _
    · rfl
@[simp] theorem Base.aonUs_event (b : Base) (p : Page) (i : Nat) : (b.event p i).aonUs = b.aonUs := Base.aonUs_setEvt _ _ _
@[simp] theorem Base.aonUs_eventIf (b : Base) (c : Bool) (p : Page) (i : Nat) : (b.eventIf c p i).aonUs = b.aonUs := by
  unfold Base.eventIf; split
  · exact Base.aonUs_event _ _ _
  · rfl
@[simp] theorem Base.leakAt_decUse (b : Base) (p : Page) (a : Nat) : (b.decUse p a).leakAt = b.leakAt := by
  unfold Base.decUse; split <;> rfl
@[simp] theorem Base.leakAt_msixSend (b : Base) (g v : Nat) : (b.msixSend g v).leakAt = b.leakAt := by
  unfold Base.msixSend; split <;> rfl
@[simp] theorem Base.leakAt_route (b : Base) (n : Nat) : (b.route n).leakAt = b.leakAt := by
  unfold Base.route; dsimp only; split <;> (try rw [Base.leakAt_msixSend]) <;> split <;> exact Base.leakAt_decUse ..
@[simp] theorem Base.leakAt_setEvt (b : Base) (p : Page) (m : Word) : (b.setEvt p m).leakAt = b.leakAt := by
  unfold Base.setEvt; dsimp only; split
  · rfl
  · split
    · exact Base.leakAt_route _ _
    · rfl
@[simp] theorem Base.leakAt_event (b : Base) (p : Page) (i : Nat) : (b.event p i).leakAt = b.leakAt := Base.leakAt_setEvt _ _ _
@[simp] theorem Base.leakAt_eventIf (b : Base) (c : Bool) (p : Page) (i : Nat) : (b.eventIf c p i).leakAt = b.leakAt := by
  unfold Base.eventIf; split
  · exact Base.leakAt_event _ _ _
  · rfl
@[simp] theorem Base.decBad_decUse (b : Base) (p : Page) (a : Nat) : (b.decUse p a).decBad = b.decBad := by
  unfold Base.decUse; split <;> rfl
@[simp] theorem Base.decBad_msixSend (b : Base) (g v : Nat) : (b.msixSend g v).decBad = b.decBad := by
  unfold Base.msixSend; split <;> rfl
@[simp] theorem Base.decBad_route (b : Base) (n : Nat) : (b.route n).decBad = b.decBad := by
  unfold Base.route; dsimp only; split <;> (try rw [Base.decBad_msixSend]) <;> split <;> exact Base.decBad_decUse ..
@[simp] theorem Base.decBad_setEvt (b : Base) (p : Page) (m : Word) : (b.setEvt p m).decBad = b.decBad := by
  unfold Base.setEvt; dsimp only; split
  · rfl
  · split
    · exact Base.decBad_route _ _
    · rfl
@[simp] theorem Base.decBad_event (b : Base) (p : Page) (i : Nat) : (b.event p i).decBad = b.decBad := Base.decBad_setEvt _ _ _
@[simp] theorem Base.decBad_eventIf (b : Base) (c : Bool) (p : Page) (i : Nat) : (b.eventIf c p i).decBad = b.decBad := by
  unfold Base.eventIf; split
  · exact Base.decBad_event _ _ _
  · rfl
@[simp] theorem Base.heldCtx_decUse (b : Base) (p : Page) (a : Nat) : (b.decUse p a).heldCtx = b.heldCtx := by
  unfold Base.decUse; split <;> rfl
@[simp] theorem Base.heldCtx_msixSend (b : Base) (g v : Nat) : (b.msixSend g v).heldCtx = b.heldCtx := by
  unfold Base.msixSend; split <;> rfl
@[simp] theorem Base.heldCtx_route (b : Base) (n : Nat) : (b.route n).heldCtx = b.heldCtx := by
  unfold Base.route; dsimp only; split <;> (try rw [Base.heldCtx_msixSend]) <;> split <;> exact Base.heldCtx_decUse ..
@[simp] theorem Base.heldCtx_setEvt (b : Base) (p : Page) (m : Word) : (b.setEvt p m).heldCtx = b.heldCtx := by
  unfold Base.setEvt; dsimp only; split
  · rfl
  · split
    · exact Base.heldCtx_route _ _
    · rfl
@[simp] theorem Base.heldCtx_event (b : Base) (p : Page) (i : Nat) : (b.event p i).heldCtx = b.heldCtx := Base.heldCtx_setEvt _ _ _
@[simp] theorem Base.heldCtx_eventIf (b : Base) (c : Bool) (p : Page) (i : Nat) : (b.eventIf c p i).heldCtx = b.heldCtx := by
  unfold Base.eventIf; split
  · exact Base.heldCtx_event _ _ _
  · rfl
@[simp] theorem Base.crkLog_decUse (b : Base) (p : Page) (a : Nat) : (b.decUse p a).crkLog = b.crkLog := by
  unfold Base.decUse; split <;> rfl
@[simp] theorem Base.crkLog_msixSend (b : Base) (g v : Nat) : (b.msixSend g v).crkLog = b.crkLog := by
  unfold Base.msixSend; split <;> rfl
@[simp] theorem Base.crkLog_route (b : Base) (n : Nat) : (b.route n).crkLog = b.crkLog := by
  unfold Base.route; dsimp only; split <;> (try rw [Base.crkLog_msixSend]) <;> split <;> exact Base.crkLog_decUse ..
@[simp] theorem Base.crkLog_setEvt (b : Base) (p : Page) (m : Word) : (b.setEvt p m).crkLog = b.crkLog := by
  unfold Base.setEvt; dsimp only; split
  · rfl
  · split
    · exact Base.crkLog_route _ _
    · rfl
@[simp] theorem Base.crkLog_event (b : Base) (p : Page) (i : Nat) : (b.event p i).crkLog = b.crkLog := Base.crkLog_setEvt _ _ _
@[simp] theorem Base.crkLog_eventIf (b : Base) (c : Bool) (p : Page) (i : Nat) : (b.eventIf c p i).crkLog = b.crkLog := by
  unfold Base.eventIf; split
  · exact Base.crkLog_event _ _ _
  · rfl
@[simp] theorem Base.crkNext_decUse (b : Base) (p : Page) (a : Nat) : (b.decUse p a).crkNext = b.crkNext := by
  unfold Base.decUse; split <;> rfl
@[simp] theorem Base.crkNext_msixSend (b : Base) (g v : Nat) : (b.msixSend g v).crkNext = b.crkNext := by
  unfold Base.msixSend; split <;> rfl
@[simp] theorem Base.crkNext_route (b : Base) (n : Nat) : (b.route n).crkNext = b.crkNext := by
  unfold Base.route; dsimp only; split <;> (try rw [Base.crkNext_msixSend]) <;> split <;> exact Base.crkNext_decUse ..
@[simp] theorem Base.crkNext_setEvt (b : Base) (p : Page) (m : Word) : (b.setEvt p m).crkNext = b.crkNext := by
  unfold Base.setEvt; dsimp only; split
  · rfl
  · split
    · exact Base.crkNext_route _ _
    · rfl
@[simp] theorem Base.crkNext_event (b : Base) (p : Page) (i : Nat) : (b.event p i).crkNext = b.crkNext := Base.crkNext_setEvt _ _ _
@[simp] theorem Base.crkNext_eventIf (b : Base) (c : Bool) (p : Page) (i : Nat) : (b.eventIf c p i).crkNext = b.crkNext := by
  unfold Base.eventIf; split
  · exact Base.crkNext_event _ _ _
  · rfl
@[simp] theorem Base.crkBoot_decUse (b : Base) (p : Page) (a : Nat) : (b.decUse p a).crkBoot = b.crkBoot := by
  unfold Base.decUse; split <;> rfl
@[simp] theorem Base.crkBoot_msixSend (b : Base) (g v : Nat) : (b.msixSend g v).crkBoot = b.crkBoot := by
  unfold Base.msixSend; split <;> rfl
@[simp] theorem Base.crkBoot_route (b : Base) (n : Nat) : (b.route n).crkBoot = b.crkBoot := by
  unfold Base.route; dsimp only; split <;> (try rw [Base.crkBoot_msixSend]) <;> split <;> exact Base.crkBoot_decUse ..
@[simp] theorem Base.crkBoot_setEvt (b : Base) (p : Page) (m : Word) : (b.setEvt p m).crkBoot = b.crkBoot := by
  unfold Base.setEvt; dsimp only; split
  · rfl
  · split
    · exact Base.crkBoot_route _ _
    · rfl
@[simp] theorem Base.crkBoot_event (b : Base) (p : Page) (i : Nat) : (b.event p i).crkBoot = b.crkBoot := Base.crkBoot_setEvt _ _ _
@[simp] theorem Base.crkBoot_eventIf (b : Base) (c : Bool) (p : Page) (i : Nat) : (b.eventIf c p i).crkBoot = b.crkBoot := by
  unfold Base.eventIf; split
  · exact Base.crkBoot_event _ _ _
  · rfl
@[simp] theorem Base.fns_decUse (b : Base) (p : Page) (a : Nat) : (b.decUse p a).fns = b.fns := by
  unfold Base.decUse; split <;> rfl
@[simp] theorem Base.fns_msixSend (b : Base) (g v : Nat) : (b.msixSend g v).fns = b.fns := by
  unfold Base.msixSend; split <;> rfl
@[simp] theorem Base.fns_route (b : Base) (n : Nat) : (b.route n).fns = b.fns := by
  unfold Base.route; dsimp only; split <;> (try rw [Base.fns_msixSend]) <;> split <;> exact Base.fns_decUse ..
@[simp] theorem Base.fns_setEvt (b : Base) (p : Page) (m : Word) : (b.setEvt p m).fns = b.fns := by
  unfold Base.setEvt; dsimp only; split
  · rfl
  · split
    · exact Base.fns_route _ _
    · rfl
@[simp] theorem Base.fns_event (b : Base) (p : Page) (i : Nat) : (b.event p i).fns = b.fns := Base.fns_setEvt _ _ _
@[simp] theorem Base.fns_eventIf (b : Base) (c : Bool) (p : Page) (i : Nat) : (b.eventIf c p i).fns = b.fns := by
  unfold Base.eventIf; split
  · exact Base.fns_event _ _ _
  · rfl
@[simp] theorem Base.msixTab_decUse (b : Base) (p : Page) (a : Nat) : (b.decUse p a).msixTab = b.msixTab := by
  unfold Base.decUse; split <;> rfl
@[simp] theorem Base.msixTab_msixSend (b : Base) (g v : Nat) : (b.msixSend g v).msixTab = b.msixTab := by
  unfold Base.msixSend; split <;> rfl
@[simp] theorem Base.msixTab_route (b : Base) (n : Nat) : (b.route n).msixTab = b.msixTab := by
  unfold Base.route; dsimp only; split <;> (try rw [Base.msixTab_msixSend]) <;> split <;> exact Base.msixTab_decUse ..
@[simp] theorem Base.msixTab_setEvt (b : Base) (p : Page) (m : Word) : (b.setEvt p m).msixTab = b.msixTab := by
  unfold Base.setEvt; dsimp only; split
  · rfl
  · split
    · exact Base.msixTab_route _ _
    · rfl
@[simp] theorem Base.msixTab_event (b : Base) (p : Page) (i : Nat) : (b.event p i).msixTab = b.msixTab := Base.msixTab_setEvt _ _ _
@[simp] theorem Base.msixTab_eventIf (b : Base) (c : Bool) (p : Page) (i : Nat) : (b.eventIf c p i).msixTab = b.msixTab := by
  unfold Base.eventIf; split
  · exact Base.msixTab_event _ _ _
  · rfl
@[simp] theorem Base.nmeQueued_decUse (b : Base) (p : Page) (a : Nat) : (b.decUse p a).nmeQueued = b.nmeQueued := by
  unfold Base.decUse; split <;> rfl
@[simp] theorem Base.nmeQueued_msixSend (b : Base) (g v : Nat) : (b.msixSend g v).nmeQueued = b.nmeQueued := by
  unfold Base.msixSend; split <;> rfl
@[simp] theorem Base.nmeQueued_route (b : Base) (n : Nat) : (b.route n).nmeQueued = b.nmeQueued := by
  unfold Base.route; dsimp only; split <;> (try rw [Base.nmeQueued_msixSend]) <;> split <;> exact Base.nmeQueued_decUse ..
@[simp] theorem Base.nmeQueued_setEvt (b : Base) (p : Page) (m : Word) : (b.setEvt p m).nmeQueued = b.nmeQueued := by
  unfold Base.setEvt; dsimp only; split
  · rfl
  · split
    · exact Base.nmeQueued_route _ _
    · rfl
@[simp] theorem Base.nmeQueued_event (b : Base) (p : Page) (i : Nat) : (b.event p i).nmeQueued = b.nmeQueued := Base.nmeQueued_setEvt _ _ _
@[simp] theorem Base.nmeQueued_eventIf (b : Base) (c : Bool) (p : Page) (i : Nat) : (b.eventIf c p i).nmeQueued = b.nmeQueued := by
  unfold Base.eventIf; split
  · exact Base.nmeQueued_event _ _ _
  · rfl
@[simp] theorem Base.dead_decUse (b : Base) (p : Page) (a : Nat) : (b.decUse p a).dead = b.dead := by
  unfold Base.decUse; split <;> rfl
@[simp] theorem Base.dead_msixSend (b : Base) (g v : Nat) : (b.msixSend g v).dead = b.dead := by
  unfold Base.msixSend; split <;> rfl
@[simp] theorem Base.dead_route (b : Base) (n : Nat) : (b.route n).dead = b.dead := by
  unfold Base.route; dsimp only; split <;> (try rw [Base.dead_msixSend]) <;> split <;> exact Base.dead_decUse ..
@[simp] theorem Base.dead_setEvt (b : Base) (p : Page) (m : Word) : (b.setEvt p m).dead = b.dead := by
  unfold Base.setEvt; dsimp only; split
  · rfl
  · split
    · exact Base.dead_route _ _
    · rfl
@[simp] theorem Base.dead_event (b : Base) (p : Page) (i : Nat) : (b.event p i).dead = b.dead := Base.dead_setEvt _ _ _
@[simp] theorem Base.dead_eventIf (b : Base) (c : Bool) (p : Page) (i : Nat) : (b.eventIf c p i).dead = b.dead := by
  unfold Base.eventIf; split
  · exact Base.dead_event _ _ _
  · rfl
@[simp] theorem Base.commitParts_decUse (b : Base) (p : Page) (a : Nat) : (b.decUse p a).commitParts = b.commitParts := by
  unfold Base.decUse; split <;> rfl
@[simp] theorem Base.commitParts_msixSend (b : Base) (g v : Nat) : (b.msixSend g v).commitParts = b.commitParts := by
  unfold Base.msixSend; split <;> rfl
@[simp] theorem Base.commitParts_route (b : Base) (n : Nat) : (b.route n).commitParts = b.commitParts := by
  unfold Base.route; dsimp only; split <;> (try rw [Base.commitParts_msixSend]) <;> split <;> exact Base.commitParts_decUse ..
@[simp] theorem Base.commitParts_setEvt (b : Base) (p : Page) (m : Word) : (b.setEvt p m).commitParts = b.commitParts := by
  unfold Base.setEvt; dsimp only; split
  · rfl
  · split
    · exact Base.commitParts_route _ _
    · rfl
@[simp] theorem Base.commitParts_event (b : Base) (p : Page) (i : Nat) : (b.event p i).commitParts = b.commitParts := Base.commitParts_setEvt _ _ _
@[simp] theorem Base.commitParts_eventIf (b : Base) (c : Bool) (p : Page) (i : Nat) : (b.eventIf c p i).commitParts = b.commitParts := by
  unfold Base.eventIf; split
  · exact Base.commitParts_event _ _ _
  · rfl
@[simp] theorem Base.part_decUse (b : Base) (p : Page) (a : Nat) : (b.decUse p a).part = b.part := by
  unfold Base.decUse; split <;> rfl
@[simp] theorem Base.part_msixSend (b : Base) (g v : Nat) : (b.msixSend g v).part = b.part := by
  unfold Base.msixSend; split <;> rfl
@[simp] theorem Base.part_route (b : Base) (n : Nat) : (b.route n).part = b.part := by
  unfold Base.route; dsimp only; split <;> (try rw [Base.part_msixSend]) <;> split <;> exact Base.part_decUse ..
@[simp] theorem Base.part_setEvt (b : Base) (p : Page) (m : Word) : (b.setEvt p m).part = b.part := by
  unfold Base.setEvt; dsimp only; split
  · rfl
  · split
    · exact Base.part_route _ _
    · rfl
@[simp] theorem Base.part_event (b : Base) (p : Page) (i : Nat) : (b.event p i).part = b.part := Base.part_setEvt _ _ _
@[simp] theorem Base.part_eventIf (b : Base) (c : Bool) (p : Page) (i : Nat) : (b.eventIf c p i).part = b.part := by
  unfold Base.eventIf; split
  · exact Base.part_event _ _ _
  · rfl
@[simp] theorem Base.fuse_decUse (b : Base) (p : Page) (a : Nat) : (b.decUse p a).fuse = b.fuse := by
  unfold Base.decUse; split <;> rfl
@[simp] theorem Base.fuse_msixSend (b : Base) (g v : Nat) : (b.msixSend g v).fuse = b.fuse := by
  unfold Base.msixSend; split <;> rfl
@[simp] theorem Base.fuse_route (b : Base) (n : Nat) : (b.route n).fuse = b.fuse := by
  unfold Base.route; dsimp only; split <;> (try rw [Base.fuse_msixSend]) <;> split <;> exact Base.fuse_decUse ..
@[simp] theorem Base.fuse_setEvt (b : Base) (p : Page) (m : Word) : (b.setEvt p m).fuse = b.fuse := by
  unfold Base.setEvt; dsimp only; split
  · rfl
  · split
    · exact Base.fuse_route _ _
    · rfl
@[simp] theorem Base.fuse_event (b : Base) (p : Page) (i : Nat) : (b.event p i).fuse = b.fuse := Base.fuse_setEvt _ _ _
@[simp] theorem Base.fuse_eventIf (b : Base) (c : Bool) (p : Page) (i : Nat) : (b.eventIf c p i).fuse = b.fuse := by
  unfold Base.eventIf; split
  · exact Base.fuse_event _ _ _
  · rfl
@[simp] theorem Base.lat_decUse (b : Base) (p : Page) (a : Nat) : (b.decUse p a).lat = b.lat := by
  unfold Base.decUse; split <;> rfl
@[simp] theorem Base.lat_msixSend (b : Base) (g v : Nat) : (b.msixSend g v).lat = b.lat := by
  unfold Base.msixSend; split <;> rfl
@[simp] theorem Base.lat_route (b : Base) (n : Nat) : (b.route n).lat = b.lat := by
  unfold Base.route; dsimp only; split <;> (try rw [Base.lat_msixSend]) <;> split <;> exact Base.lat_decUse ..
@[simp] theorem Base.lat_setEvt (b : Base) (p : Page) (m : Word) : (b.setEvt p m).lat = b.lat := by
  unfold Base.setEvt; dsimp only; split
  · rfl
  · split
    · exact Base.lat_route _ _
    · rfl
@[simp] theorem Base.lat_event (b : Base) (p : Page) (i : Nat) : (b.event p i).lat = b.lat := Base.lat_setEvt _ _ _
@[simp] theorem Base.lat_eventIf (b : Base) (c : Bool) (p : Page) (i : Nat) : (b.eventIf c p i).lat = b.lat := by
  unfold Base.eventIf; split
  · exact Base.lat_event _ _ _
  · rfl
@[simp] theorem Base.meas_decUse (b : Base) (p : Page) (a : Nat) : (b.decUse p a).meas = b.meas := by
  unfold Base.decUse; split <;> rfl
@[simp] theorem Base.meas_msixSend (b : Base) (g v : Nat) : (b.msixSend g v).meas = b.meas := by
  unfold Base.msixSend; split <;> rfl
@[simp] theorem Base.meas_route (b : Base) (n : Nat) : (b.route n).meas = b.meas := by
  unfold Base.route; dsimp only; split <;> (try rw [Base.meas_msixSend]) <;> split <;> exact Base.meas_decUse ..
@[simp] theorem Base.meas_setEvt (b : Base) (p : Page) (m : Word) : (b.setEvt p m).meas = b.meas := by
  unfold Base.setEvt; dsimp only; split
  · rfl
  · split
    · exact Base.meas_route _ _
    · rfl
@[simp] theorem Base.meas_event (b : Base) (p : Page) (i : Nat) : (b.event p i).meas = b.meas := Base.meas_setEvt _ _ _
@[simp] theorem Base.meas_eventIf (b : Base) (c : Bool) (p : Page) (i : Nat) : (b.eventIf c p i).meas = b.meas := by
  unfold Base.eventIf; split
  · exact Base.meas_event _ _ _
  · rfl

end Sys2Proof.Machine
end

