-- ==== Sys2Proof/Laws/Frame.lean ====
section
/-! SUPPORT. Which registers, and what else of the base, each shared operation may change. -/
namespace Sys2Proof.Machine

theorem Base.sets.refl (b : Base) (l : List Nat) : b.sets b l := ⟨rfl, fun _ _ => rfl⟩
theorem Base.raises.refl (b : Base) (l : List Nat) : b.raises b l := ⟨rfl, fun _ _ => rfl⟩

theorem Base.sets.mono {b c : Base} {l m : List Nat} (h : b.sets c l) (k : ∀ a, a ∈ l → a ∈ m) : b.sets c m :=
  ⟨h.1, fun a n => h.2 a (fun x => n (k a x))⟩
theorem Base.raises.mono {b c : Base} {l m : List Nat} (h : b.raises c l) (k : ∀ a, a ∈ l → a ∈ m) : b.raises c m :=
  ⟨h.1, fun a n => h.2 a (fun x => n (k a x))⟩

theorem Base.sets.trans {b c d : Base} {l : List Nat} (h : b.sets c l) (k : c.sets d l) : b.sets d l := by
  refine ⟨?_, fun a n => (k.2 a n).trans (h.2 a n)⟩
  rw [k.1, h.1]
theorem Base.raises.trans {b c d : Base} {l : List Nat} (h : b.raises c l) (k : c.raises d l) : b.raises d l := by
  refine ⟨?_, fun a n => (k.2 a n).trans (h.2 a n)⟩
  rw [k.1, h.1]

theorem Base.sets.raises {b c : Base} {l : List Nat} (h : b.sets c l) : b.raises c l := by
  refine ⟨?_, h.2⟩
  rw [h.1]

theorem Base.sets.setWord {b c : Base} {l : List Nat} (h : b.sets c l) (a : Nat) (w : Word) (i : a ∈ l) : b.sets (c.setWord a w) l :=
  h.trans ⟨rfl, fun _ n => Base.word_setWord_ne _ _ (fun e => n (e ▸ i))⟩
theorem Base.sets.setFld {b c : Base} {l : List Nat} (h : b.sets c l) (p : Page) (f : Fld) (v : Nat) (i : regOf p f ∈ l) :
    b.sets (c.setFld p f v) l := h.setWord _ _ i
theorem Base.sets.setBit {b c : Base} {l : List Nat} (h : b.sets c l) (p : Page) (f : Fld) (v : Bool) (i : regOf p f ∈ l) :
    b.sets (c.setBit p f v) l := h.setWord _ _ i
theorem Base.sets.addFld {b c : Base} {l : List Nat} (h : b.sets c l) (p : Page) (f : Fld) (k : Nat) (i : regOf p f ∈ l) :
    b.sets (c.addFld p f k) l := h.setWord _ _ i

theorem Base.raises.setWord {b c : Base} {l : List Nat} (h : b.raises c l) (a : Nat) (w : Word) (i : a ∈ l) :
    b.raises (c.setWord a w) l := h.trans ((Base.sets.refl c l).setWord a w i).raises
theorem Base.raises.setFld {b c : Base} {l : List Nat} (h : b.raises c l) (p : Page) (f : Fld) (v : Nat) (i : regOf p f ∈ l) :
    b.raises (c.setFld p f v) l := h.setWord _ _ i
theorem Base.raises.setBit {b c : Base} {l : List Nat} (h : b.raises c l) (p : Page) (f : Fld) (v : Bool) (i : regOf p f ∈ l) :
    b.raises (c.setBit p f v) l := h.setWord _ _ i
theorem Base.raises.addFld {b c : Base} {l : List Nat} (h : b.raises c l) (p : Page) (f : Fld) (k : Nat) (i : regOf p f ∈ l) :
    b.raises (c.addFld p f k) l := h.setWord _ _ i
theorem Base.raises.send {b c : Base} {l : List Nat} (h : b.raises c l) (m : Msg) : b.raises (c.send m) l :=
  h.trans ⟨rfl, fun _ _ => rfl⟩
theorem Base.raises.msixSend {b c : Base} {l : List Nat} (h : b.raises c l) (f v : Nat) : b.raises (c.msixSend f v) l := by
  refine h.trans ?_
  unfold Base.msixSend
  split <;> exact ⟨rfl, fun _ _ => rfl⟩
theorem Base.raises.decUse {b c : Base} {l : List Nat} (h : b.raises c l) (p : Page) (a : Nat) : b.raises (c.decUse p a) l := by
  refine h.trans ?_
  unfold Base.decUse
  split <;> exact ⟨rfl, fun _ _ => rfl⟩
theorem Base.raises.route {b c : Base} {l : List Nat} (h : b.raises c l) (n : Nat) : b.raises (c.route n) l := by
  unfold Base.route
  dsimp only
  split
  · split
    · exact ((h.decUse _ _).send _).msixSend _ _
    · exact (h.decUse _ _).msixSend _ _
  · split
    · exact (h.decUse _ _).send _
    · exact h.decUse _ _
theorem Base.raises.setEvt {b c : Base} {l : List Nat} (h : b.raises c l) (p : Page) (m : Word) (i : evtOf p ∈ l) :
    b.raises (c.setEvt p m) l := by
  unfold Base.setEvt
  dsimp only
  split
  · exact h.setWord _ _ i
  · split
    · exact (h.setWord _ _ i).route _
    · exact h.setWord _ _ i
theorem Base.raises.event {b c : Base} {l : List Nat} (h : b.raises c l) (p : Page) (i : Nat) (k : evtOf p ∈ l) :
    b.raises (c.event p i) l := h.setEvt p _ k
theorem Base.raises.eventIf {b c : Base} {l : List Nat} (h : b.raises c l) (x : Bool) (p : Page) (i : Nat) (k : evtOf p ∈ l) :
    b.raises (c.eventIf x p i) l := by
  unfold Base.eventIf
  split
  · exact h.event p i k
  · exact h
theorem Base.raises.setState {b c : Base} {l : List Nat} (h : b.raises c l) (p : Page) (v : Nat) (i : regOf p HDR.BLK_STAT_STATE ∈ l) :
    b.raises (c.setState p v) l := by
  unfold Base.setState
  dsimp only
  split
  · exact h
  · exact (h.setFld p _ v i).setBit p _ _ i
theorem Base.sets.setState {b c : Base} {l : List Nat} (h : b.sets c l) (p : Page) (v : Nat) (i : regOf p HDR.BLK_STAT_STATE ∈ l) :
    b.sets (c.setState p v) l := by
  unfold Base.setState
  dsimp only
  split
  · exact h
  · exact (h.setFld p _ v i).setBit p _ _ i

end Sys2Proof.Machine
end

