-- ==== Sys2Proof/Laws/Keep.lean ====
section
/-! SUPPORT. The relation "the queue of commands stays, the invariant is kept" between two states, component by component,
and how it composes. Every operation on State has one lemma of this form in the Keep files. -/
namespace Sys2Proof.Machine

/-- `P` of `y`, kept apart from the form of both so that a proof goes by the form of `y` alone. -/
def Holds {α : Type} (P : α → Prop) (y : α) : Prop := P y
/-- A property of a pair's first part. -/
abbrev OnFst {α β : Type} (P : α → Prop) (y : α × β) : Prop := P y.1
/-- A property of a pair's second part. -/
abbrev OnSnd {α β : Type} (P : β → Prop) (y : α × β) : Prop := P y.2
/-- A property of whatever an optional answer gives. -/
structure OnSome {α : Type} (P : α → Prop) (y : Option α) : Prop where
  all : ∀ t, y = some t → P t
/-- A property of whatever an access answers when it is answered. -/
structure OnOk {ε α : Type} (P : α → Prop) (y : Except ε α) : Prop where
  all : ∀ t, y = .ok t → P t
/-- A property of the next state, where there is one. -/
structure OnNext (P : State → Prop) (y : Host.Outcome State Fault Refusal) : Prop where
  all : ∀ t, y = .next t → P t

theorem Holds.out {α : Type} {P : α → Prop} {y : α} (h : Holds P y) : P y := h
theorem Holds.of {α : Type} {P : α → Prop} {y : α} (h : P y) : Holds P y := h
theorem Holds.ite {α : Type} {P : α → Prop} {y z : α} {c : Prop} {dc : Decidable c} (h : Holds P y) (k : Holds P z) :
    Holds P (if c then y else z) := by
  by_cases hc : c
  · rw [if_pos hc]; exact h
  · rw [if_neg hc]; exact k
theorem Holds.mk1 {α β : Type} {P : α → Prop} {a : α} {b : β} (h : Holds P a) : Holds (OnFst P) (a, b) := h
theorem Holds.mk2 {α β : Type} {P : β → Prop} {a : α} {b : β} (h : Holds P b) : Holds (OnSnd P) (a, b) := h
theorem Holds.fst {α β : Type} {P : α → Prop} {y : α × β} (h : Holds (OnFst P) y) : Holds P y.1 := h
theorem Holds.snd {α β : Type} {P : β → Prop} {y : α × β} (h : Holds (OnSnd P) y) : Holds P y.2 := h
theorem Holds.of_fst {α β : Type} {P : α → Prop} {y : α × β} (h : Holds P y.1) : Holds (OnFst P) y := h
theorem Holds.of_snd {α β : Type} {P : β → Prop} {y : α × β} (h : Holds P y.2) : Holds (OnSnd P) y := h
theorem Holds.some_mono {α : Type} {P Q : α → Prop} {y : Option α} (h : OnSome P y) (k : ∀ a, P a → Holds Q a) :
    Holds (OnSome Q) y := ⟨fun t e => k t (h.all t e)⟩
theorem Holds.ok_mono {ε α : Type} {P Q : α → Prop} {y : Except ε α} (h : OnOk P y) (k : ∀ a, P a → Holds Q a) :
    Holds (OnOk Q) y := ⟨fun t e => k t (h.all t e)⟩
theorem Holds.next_mono {P Q : State → Prop} {y : Host.Outcome State Fault Refusal} (h : OnNext P y)
    (k : ∀ a, P a → Holds Q a) : Holds (OnNext Q) y := ⟨fun t e => k t (h.all t e)⟩
theorem OnSome.at {α : Type} {P : α → Prop} {y : Option α} {t : α} (h : OnSome P y) (e : y = some t) : P t := h.all t e
theorem OnOk.at {ε α : Type} {P : α → Prop} {y : Except ε α} {t : α} (h : OnOk P y) (e : y = .ok t) : P t := h.all t e
theorem Holds.fst_at {α β : Type} {P : α → Prop} {y : α × β} {a : α} {c : β} (h : P y.1) (e : y = (a, c)) : P a := by
  rw [e] at h; exact h
theorem Holds.of_eq_fst {α β : Type} {P : α → Prop} {y : α × β} {a : α} {c : β} (h : Holds P y.1) (e : y = (a, c)) : Holds P a := by
  rw [e] at h; exact h
theorem Holds.of_eq_some {α : Type} {P : α → Prop} {y : Option α} {a : α} (h : Holds (OnSome P) y) (e : y = some a) : Holds P a :=
  h.out.all _ e
theorem Holds.getD {α : Type} {P : α → Prop} {o : Option α} {d : α} (h : Holds (OnSome P) o) (k : Holds P d) :
    Holds P (o.getD d) := by
  cases o with
  | none => exact k
  | some a => exact h.out.all a rfl
theorem Holds.map {α β : Type} {Q : α → Prop} {P : β → Prop} {o : Option α} {f : α → β} (h : OnSome Q o)
    (k : ∀ a, Q a → Holds P (f a)) : Holds (OnSome P) (o.map f) := by
  cases o with
  | none => refine ⟨fun t e => ?_⟩; cases e
  | some a => refine ⟨fun t e => ?_⟩; cases e; exact k a (h.all a rfl)
theorem Holds.map_ok {ε α β : Type} {Q : α → Prop} {P : β → Prop} {o : Except ε α} {f : α → β} (h : OnOk Q o)
    (k : ∀ a, Q a → Holds P (f a)) : Holds (OnOk P) (o.map f) := by
  cases o with
  | error e => refine ⟨fun t e => ?_⟩; cases e
  | ok a => refine ⟨fun t e => ?_⟩; cases e; exact k a (h.all a rfl)
theorem Holds.bind {α β : Type} {Q : α → Prop} {P : β → Prop} {o : Option α} {f : α → Option β} (h : OnSome Q o)
    (k : ∀ a, Q a → Holds (OnSome P) (f a)) : Holds (OnSome P) (o.bind f) := by
  cases o with
  | none => refine ⟨fun t e => ?_⟩; cases e
  | some a => exact k a (h.all a rfl)
theorem Holds.map_any {α β : Type} {P : β → Prop} {o : Option α} {f : α → β} (k : ∀ a, Holds P (f a)) :
    Holds (OnSome P) (o.map f) := Holds.map (Q := fun _ => True) ⟨fun _ _ => trivial⟩ (fun a _ => k a)
theorem Holds.bind_any {α β : Type} {P : β → Prop} {o : Option α} {f : α → Option β} (k : ∀ a, Holds (OnSome P) (f a)) :
    Holds (OnSome P) (o.bind f) := Holds.bind (Q := fun _ => True) ⟨fun _ _ => trivial⟩ (fun a _ => k a)
theorem Holds.some {α : Type} {P : α → Prop} {a : α} (h : Holds P a) : Holds (OnSome P) (some a) := by
  refine ⟨fun t e => ?_⟩; cases e; exact h
theorem Holds.none {α : Type} {P : α → Prop} : Holds (OnSome P) (none : Option α) := by refine ⟨fun t e => ?_⟩; cases e
theorem Holds.ok {ε α : Type} {P : α → Prop} {a : α} (h : Holds P a) : Holds (OnOk P) (.ok a : Except ε α) := by
  refine ⟨fun t e => ?_⟩; cases e; exact h
theorem Holds.error {ε α : Type} {P : α → Prop} {a : ε} : Holds (OnOk P) (.error a : Except ε α) := by refine ⟨fun t e => ?_⟩; cases e
theorem Holds.next {P : State → Prop} {a : State} (h : Holds P a) : Holds (OnNext P) (.next a) := by
  refine ⟨fun t e => ?_⟩; cases e; exact h
theorem Holds.fault {P : State → Prop} {f : Fault} : Holds (OnNext P) (.fault f) := by refine ⟨fun t e => ?_⟩; cases e
theorem Holds.refused {P : State → Prop} {f : Refusal} : Holds (OnNext P) (.refused f) := by refine ⟨fun t e => ?_⟩; cases e

/-- A property of the state after a request is served, unless it is held. -/
structure OnServed (P : State → Prop) (y : Served) : Prop where
  ans : ∀ s a, y = .ans s a → P s
  sent : ∀ s, y = .sent s → P s
theorem Holds.ans {P : State → Prop} {s : State} {a : HopRsp} (h : Holds P s) : Holds (OnServed P) (.ans s a) :=
  ⟨fun _ _ e => (by cases e; exact h), fun _ e => (by cases e)⟩
theorem Holds.sent {P : State → Prop} {s : State} (h : Holds P s) : Holds (OnServed P) (.sent s) :=
  ⟨fun _ _ e => (by cases e), fun _ e => (by cases e; exact h)⟩
theorem Holds.hold {P : State → Prop} : Holds (OnServed P) .hold := ⟨fun _ _ e => (by cases e), fun _ e => (by cases e)⟩

/-- Pad rows stay canonical. -/
structure PKeep (x y : PadMem) : Prop where
  kept : SMap.wf (fun _ => (0 : BitVec 416)) x = true → SMap.wf (fun _ => (0 : BitVec 416)) y = true
/-- The same of all ponds. -/
structure PondsKeep (x y : Ponds) : Prop where
  kept : PKeep x.mem y.mem
/-- GDDR6 lines stay canonical. -/
structure GKeep (x y : Gdr) : Prop where
  kept : SMap.wf (fun _ => Gline.zero) x.lines = true → SMap.wf (fun _ => Gline.zero) y.lines = true
/-- Gecko memories stay canonical. -/
structure KKeep (x y : Geckos) : Prop where
  kept : SMap.wf (fun _ => (0 : BitVec 416)) x.mem = true → SMap.wf (fun _ => (0 : BitVec 416)) y.mem = true
/-- Configuration frames stay canonical. -/
structure CKeep (x y : CfgMem) : Prop where
  store : SMap.wf (fun _ => Frame.zero) x.store = true → SMap.wf (fun _ => Frame.zero) y.store = true
  front : SMap.wf (fun _ => (0 : BitVec 4096)) x.front = true → SMap.wf (fun _ => (0 : BitVec 4096)) y.front = true
  back : SMap.wf (fun _ => (0 : BitVec 4096)) x.back = true → SMap.wf (fun _ => (0 : BitVec 4096)) y.back = true
/-- A queue's pointers stay in their ranges. -/
structure OKeep (x y : Queue) : Prop where
  kept : x.ordered → y.ordered
/-- The queues' table stays canonical and every queue's pointers in their ranges. -/
structure QKeep (x y : SMap Queue) : Prop where
  kept :
    (SMap.wf (fun _ => Queue.init) x = true ∧ ∀ q, (queueAt x q).ordered) →
    (SMap.wf (fun _ => Queue.init) y = true ∧ ∀ q, (queueAt y q).ordered)

/-- The command queue stays, and the invariant is kept. -/
structure Keeps (s t : State) : Prop where
  pending : t.pending = s.pending
  ponds : PondsKeep s.ponds t.ponds
  gdr : GKeep s.gdr t.gdr
  gko : KKeep s.gko t.gko
  cfg : CKeep s.cfg t.cfg
  que : QKeep s.que t.que

theorem Keeps.inv {s t : State} (h : Keeps s t) (i : s.Inv) : t.Inv := by
  obtain ⟨⟨h1, h2, h3, h4, h5, h6, h7⟩, h8⟩ := i
  have q := h.que.kept ⟨h7, h8⟩
  exact ⟨⟨h.ponds.kept.kept h1, h.gdr.kept h2, h.gko.kept h3, h.cfg.store h4, h.cfg.front h5, h.cfg.back h6, q.1⟩, q.2⟩

theorem PKeep.refl (x : PadMem) : Holds (PKeep x) x := ⟨fun i => i⟩
theorem PondsKeep.refl (x : Ponds) : Holds (PondsKeep x) x := ⟨⟨fun i => i⟩⟩
theorem GKeep.refl (x : Gdr) : Holds (GKeep x) x := ⟨fun i => i⟩
theorem KKeep.refl (x : Geckos) : Holds (KKeep x) x := ⟨fun i => i⟩
theorem CKeep.refl (x : CfgMem) : Holds (CKeep x) x := ⟨fun i => i, fun i => i, fun i => i⟩
theorem OKeep.refl (x : Queue) : Holds (OKeep x) x := ⟨fun i => i⟩
theorem QKeep.refl (x : SMap Queue) : Holds (QKeep x) x := ⟨fun i => i⟩
theorem Keeps.refl (s : State) : Holds (Keeps s) s :=
  ⟨rfl, PondsKeep.refl _, GKeep.refl _, KKeep.refl _, CKeep.refl _, QKeep.refl _⟩

theorem PKeep.step {x y z : PadMem} (h : Holds (PKeep x) y) (k : PKeep y z) : Holds (PKeep x) z := ⟨fun i => k.kept (h.kept i)⟩
theorem PondsKeep.step {x y z : Ponds} (h : Holds (PondsKeep x) y) (k : PondsKeep y z) : Holds (PondsKeep x) z :=
  ⟨⟨fun i => k.kept.kept (h.kept.kept i)⟩⟩
theorem GKeep.step {x y z : Gdr} (h : Holds (GKeep x) y) (k : GKeep y z) : Holds (GKeep x) z := ⟨fun i => k.kept (h.kept i)⟩
theorem KKeep.step {x y z : Geckos} (h : Holds (KKeep x) y) (k : KKeep y z) : Holds (KKeep x) z := ⟨fun i => k.kept (h.kept i)⟩
theorem CKeep.step {x y z : CfgMem} (h : Holds (CKeep x) y) (k : CKeep y z) : Holds (CKeep x) z :=
  ⟨fun i => k.store (h.store i), fun i => k.front (h.front i), fun i => k.back (h.back i)⟩
theorem OKeep.step {x y z : Queue} (h : Holds (OKeep x) y) (k : OKeep y z) : Holds (OKeep x) z := ⟨fun i => k.kept (h.kept i)⟩
theorem QKeep.step {x y z : SMap Queue} (h : Holds (QKeep x) y) (k : QKeep y z) : Holds (QKeep x) z := ⟨fun i => k.kept (h.kept i)⟩
theorem Keeps.step {s t u : State} (h : Holds (Keeps s) t) (k : Keeps t u) : Holds (Keeps s) u :=
  ⟨k.pending.trans h.pending, PondsKeep.step h.ponds k.ponds, GKeep.step h.gdr k.gdr, KKeep.step h.gko k.gko,
    CKeep.step h.cfg k.cfg, QKeep.step h.que k.que⟩

/-- A state with the same waiting commands whose stores are each kept. -/
theorem Keeps.upd {s t : State} {b : Base} {ponds : Ponds} {arb : SMap Arb} {pwr : Power} {clk : Clk}
    {cham : SMap Cham} {fab : Fabric} {cfg : CfgMem} {pins : Pins} {gdr : Gdr} {que : SMap Queue} {hop : Hop} {gko : Geckos}
    {efl : SMap Efl} {ldr : Loader} {pci : Pcie} {ano : Anole} {vbd : Vbd} {boot : Boot}
    (h : Holds (Keeps s) t) (hp : Holds (PondsKeep t.ponds) ponds) (hg : Holds (GKeep t.gdr) gdr)
    (hk : Holds (KKeep t.gko) gko) (hc : Holds (CKeep t.cfg) cfg) (hq : Holds (QKeep t.que) que) :
    Holds (Keeps s) ⟨b, ponds, arb, pwr, clk, cham, fab, cfg, pins, gdr, que, hop, gko, efl, ldr, pci, ano, vbd, boot,
      t.pending⟩ :=
  Keeps.step h ⟨rfl, hp, hg, hk, hc, hq⟩

/-- A state whose stores and waiting commands are `t`'s. -/
theorem Keeps.same {s t : State} {b : Base} {arb : SMap Arb} {pwr : Power} {clk : Clk}
    {cham : SMap Cham} {fab : Fabric} {pins : Pins} {hop : Hop} {efl : SMap Efl} {ldr : Loader} {pci : Pcie} {ano : Anole}
    {vbd : Vbd} {boot : Boot} (h : Holds (Keeps s) t) :
    Holds (Keeps s) ⟨b, t.ponds, arb, pwr, clk, cham, fab, t.cfg, pins, t.gdr, t.que, hop, t.gko, efl, ldr, pci, ano, vbd,
      boot, t.pending⟩ :=
  Keeps.step h ⟨rfl, PondsKeep.refl _, GKeep.refl _, KKeep.refl _, CKeep.refl _, QKeep.refl _⟩
/-- A state whose registers alone change. -/
theorem Keeps.base (s : State) (b : Base) : Holds (Keeps s) { s with b := b } := Keeps.same (Keeps.refl _)

/-- A fold keeps what each of its steps keeps. -/
theorem Keeps.foldl {α : Type} {s t : State} {f : State → α → State} {l : List α}
    (hf : ∀ u x, Holds (Keeps u) (f u x)) (h : Holds (Keeps s) t) : Holds (Keeps s) (l.foldl f t) := by
  induction l generalizing t with
  | nil => exact h
  | cons x l ih => exact ih (Keeps.step h (hf t x))
theorem PKeep.foldl {α : Type} {s t : PadMem} {f : PadMem → α → PadMem} {l : List α}
    (hf : ∀ u x, Holds (PKeep u) (f u x)) (h : Holds (PKeep s) t) : Holds (PKeep s) (l.foldl f t) := by
  induction l generalizing t with
  | nil => exact h
  | cons x l ih => exact ih (PKeep.step h (hf t x))
theorem CKeep.foldl {α : Type} {s t : CfgMem} {f : CfgMem → α → CfgMem} {l : List α}
    (hf : ∀ u x, Holds (CKeep u) (f u x)) (h : Holds (CKeep s) t) : Holds (CKeep s) (l.foldl f t) := by
  induction l generalizing t with
  | nil => exact h
  | cons x l ih => exact ih (CKeep.step h (hf t x))
theorem KKeep.foldl {α : Type} {s t : Geckos} {f : Geckos → α → Geckos} {l : List α}
    (hf : ∀ u x, Holds (KKeep u) (f u x)) (h : Holds (KKeep s) t) : Holds (KKeep s) (l.foldl f t) := by
  induction l generalizing t with
  | nil => exact h
  | cons x l ih => exact ih (KKeep.step h (hf t x))
theorem QKeep.foldl {α : Type} {s t : SMap Queue} {f : SMap Queue → α → SMap Queue} {l : List α}
    (hf : ∀ u x, Holds (QKeep u) (f u x)) (h : Holds (QKeep s) t) : Holds (QKeep s) (l.foldl f t) := by
  induction l generalizing t with
  | nil => exact h
  | cons x l ih => exact ih (QKeep.step h (hf t x))
theorem GKeep.foldl {α : Type} {s t : Gdr} {f : Gdr → α → Gdr} {l : List α}
    (hf : ∀ u x, Holds (GKeep u) (f u x)) (h : Holds (GKeep s) t) : Holds (GKeep s) (l.foldl f t) := by
  induction l generalizing t with
  | nil => exact h
  | cons x l ih => exact ih (GKeep.step h (hf t x))
/-- A fold whose accumulator carries lines beside something else. -/
theorem GKeep.foldl_snd {α β : Type} {s : Gdr} {t : β × Gdr} {f : β × Gdr → α → β × Gdr} {l : List α}
    (hf : ∀ u x, Holds (OnSnd (GKeep u.2)) (f u x)) (h : Holds (OnSnd (GKeep s)) t) :
    Holds (OnSnd (GKeep s)) (l.foldl f t) := by
  induction l generalizing t with
  | nil => exact h
  | cons x l ih => exact ih (GKeep.step h (hf t x))
/-- A fold whose accumulator carries pad rows beside something else. -/
theorem PondsKeep.foldl_snd {α β : Type} {s : Ponds} {t : β × Ponds} {f : β × Ponds → α → β × Ponds} {l : List α}
    (hf : ∀ u x, Holds (OnSnd (PondsKeep u.2)) (f u x)) (h : Holds (OnSnd (PondsKeep s)) t) :
    Holds (OnSnd (PondsKeep s)) (l.foldl f t) := by
  induction l generalizing t with
  | nil => exact h
  | cons x l ih => exact ih (PondsKeep.step h (hf t x))
/-- A fold whose accumulator carries a state beside something else. -/
theorem Keeps.foldl_fst {α β : Type} {s : State} {t : State × β} {f : State × β → α → State × β} {l : List α}
    (hf : ∀ u x, Holds (OnFst (Keeps u.1)) (f u x)) (h : Holds (OnFst (Keeps s)) t) :
    Holds (OnFst (Keeps s)) (l.foldl f t) := by
  induction l generalizing t with
  | nil => exact h
  | cons x l ih => exact ih (Keeps.step h (hf t x))

/-- Changing what is no pad row, and the rows. -/
theorem PondsKeep.upd {x : Ponds} {m : PadMem} {cmd : SMap (Option PadCmd)} {passAt : SMap Nat} {aRows : SMap (BitVec 32)}
    {waitA : SMap (List (PondReq × Bool))} (k : Holds (PKeep x.mem) m) : Holds (PondsKeep x) ⟨m, cmd, passAt, aRows, waitA⟩ := ⟨k⟩
theorem PondsKeep.rows {x y : Ponds} (h : Holds (PondsKeep x) y) : Holds (PKeep x.mem) y.mem := h.out.kept
/-- Changing what is no line. -/
theorem GKeep.upd {x y : Gdr} {touched : SMap Bool} {ctrFresh : SMap Bool} {ctrKey : Nat}
    {keys : SMap (Option KeySrc)} {lost : SMap Bool} {reseal : SMap (List Nat)} {held : SMap (List Waiting)}
    {trKind trTemp passAt : SMap Nat} {moltAuto : Bool} {moltQ : SMap (Option Nat)} (h : Holds (GKeep x) y) :
    Holds (GKeep x) ⟨y.lines, touched, ctrFresh, ctrKey, keys, lost, reseal, held, trKind, trTemp, passAt, moltAuto, moltQ⟩ := ⟨h.out.kept⟩
/-- Changing what is no memory word. -/
theorem KKeep.upd {x y : Geckos} {g : SMap Gecko} (h : Holds (KKeep x) y) : Holds (KKeep x) ⟨y.mem, g⟩ := ⟨h.out.kept⟩
/-- Changing what is no frame. -/
theorem CKeep.upd {x y : CfgMem} {refresh : SMap (List Nat)} {refreshCtx : SMap Nat} {out : SMap Bool}
    {rbAt : SMap Nat} {cmpNext : SMap Bool} {passAt : SMap Nat} (h : Holds (CKeep x) y) :
    Holds (CKeep x) ⟨y.store, y.front, y.back, refresh, refreshCtx, out, rbAt, cmpNext, passAt⟩ := ⟨h.store, h.front, h.back⟩

/-- Changing the frames, each kept canonical. -/
theorem CKeep.upd3 {x : CfgMem} {store : SMap Frame} {front back : SMap (BitVec 4096)} {refresh : SMap (List Nat)}
    {refreshCtx : SMap Nat} {out : SMap Bool} {rbAt : SMap Nat} {cmpNext : SMap Bool} {passAt : SMap Nat}
    (h1 : SMap.wf (fun _ => Frame.zero) x.store = true → SMap.wf (fun _ => Frame.zero) store = true)
    (h2 : SMap.wf (fun _ => (0 : BitVec 4096)) x.front = true → SMap.wf (fun _ => (0 : BitVec 4096)) front = true)
    (h3 : SMap.wf (fun _ => (0 : BitVec 4096)) x.back = true → SMap.wf (fun _ => (0 : BitVec 4096)) back = true) :
    Holds (CKeep x) ⟨store, front, back, refresh, refreshCtx, out, rbAt, cmpNext, passAt⟩ := ⟨h1, h2, h3⟩

/-- Storing one queue. -/
theorem QKeep.put {x : SMap Queue} {q : Nat} {y : Queue} (h : OKeep (queueAt x q) y) : QKeep x (queuePut x q y) := by
  refine ⟨fun ⟨hw, ho⟩ => ?_⟩
  refine ⟨SMap.wf_set _ _ _ _ hw, fun j => ?_⟩
  unfold queueAt queuePut
  rw [SMap.get_set]
  split
  · exact h.kept (ho q)
  · exact ho j

/-- Storing a queue made from what an earlier table held. -/
theorem QKeep.put_from {x m : SMap Queue} {q : Nat} {y : Queue} (hm : QKeep x m) (h : OKeep (queueAt x q) y) :
    QKeep x (queuePut m q y) := by
  refine ⟨fun i => ?_⟩
  obtain ⟨hw, ho⟩ := hm.kept i
  refine ⟨SMap.wf_set _ _ _ _ hw, fun j => ?_⟩
  unfold queueAt queuePut
  rw [SMap.get_set]
  split
  · exact h.kept (i.2 q)
  · exact ho j
theorem QKeep.put_self {x m : SMap Queue} {q : Nat} {y : Queue} (hm : Holds (QKeep x) m) (h : Holds (OKeep (queueAt m q)) y) :
    Holds (QKeep x) (queuePut m q y) := QKeep.step hm (QKeep.put h)
theorem Queue.init_ordered : Queue.init.ordered := ⟨Nat.le_refl _, Nat.le_refl _, Nat.le_refl _, Or.inr rfl⟩
/-- An empty table. -/
theorem QKeep.nil (x : SMap Queue) : QKeep x [] := ⟨fun _ => ⟨rfl, fun _ => Queue.init_ordered⟩⟩
/-- Changing every listed queue by an operation that leaves an unlisted one as it is. -/
theorem QKeep.mapKV {x : SMap Queue} {f : Nat → Queue → Queue} (hd : ∀ k, f k Queue.init = Queue.init)
    (hf : ∀ k q, OKeep q (f k q)) : QKeep x (SMap.mapKV (fun _ => Queue.init) f x) := by
  refine ⟨fun ⟨hw, ho⟩ => ⟨SMap.wf_mapKV _ _ _ hw, fun q => ?_⟩⟩
  unfold queueAt
  rw [SMap.get_mapKV _ _ _ hd _ 0 (SMap.wf_rising hw)]
  exact (hf _ _).kept (ho q)
/-- Changing what is no pointer of a queue. -/
theorem OKeep.upd {x y : Queue} {base ctx level shBase shCtx shLen res : Nat} {underrun relclamp fault pend lastP pflip : Bool}
    {last : BitVec 64} {cache : SMap QItem} {bad : SMap Bool} {wait : List QWait} (h : Holds (OKeep x) y) :
    Holds (OKeep x) ⟨base, ctx, y.len, level, y.rel, y.markD, y.readD, y.writeD, underrun, relclamp, fault, shBase, shCtx,
      shLen, pend, res, last, lastP, cache, bad, pflip, wait⟩ := ⟨h.out.kept⟩
theorem OKeep.foldl {α : Type} {s t : Queue} {f : Queue → α → Queue} {l : List α}
    (hf : ∀ u x, Holds (OKeep u) (f u x)) (h : Holds (OKeep s) t) : Holds (OKeep s) (l.foldl f t) := by
  induction l generalizing t with
  | nil => exact h
  | cons x l ih => exact ih (OKeep.step h (hf t x))

theorem PadMem.setRow_keep (m : PadMem) (pad row : Nat) (r : BitVec 416) : PKeep m (m.setRow pad row r) :=
  ⟨SMap.wf_set _ _ _ _⟩
theorem zeroPad_keep (m : PadMem) (pad : Nat) : PKeep m (zeroPad m pad) := ⟨SMap.wf_keep _ _ _⟩
theorem Gdr.setLine_keep (g : Gdr) (c n : Nat) (l : Gline) : GKeep g (g.setLine c n l) := ⟨SMap.wf_set _ _ _ _⟩
theorem Gdr.zero_keep (g : Gdr) (c : Nat) (boot : Bool) : GKeep g (g.zero c boot) := ⟨SMap.wf_keep _ _ _⟩

end Sys2Proof.Machine
end

