-- ==== Sys2Proof/Laws/KeepOperands.lean ====
section
/-! SUPPORT. What the operations of Operands keep: the waiting commands and the invariant. -/
namespace Sys2Proof.Machine

theorem Geckos.put_keep (x : Geckos) (g : Nat) (k : Gecko) : KKeep x (Geckos.put x g k) := by
  refine Holds.out ?_
  unfold Geckos.put
  with_reducible refine KKeep.upd ?_; exact KKeep.refl _

end Sys2Proof.Machine
end

