-- ==== Sys2Proof/Laws/KeepPads.lean ====
section
/-! SUPPORT. What the operations of Pads keep: the waiting commands and the invariant. -/
namespace Sys2Proof.Machine



theorem PadMem.write_keep (m : PadMem) (pad row : Nat) (d : BitVec 256) (be : BitVec 32) (poison : Bool) : PKeep m (PadMem.write m pad row d be poison).1 := by
  refine Holds.out ?_; refine Holds.fst ?_
  unfold PadMem.write
  dsimp only; with_reducible refine Holds.mk1 ?_; with_reducible refine PKeep.step ?_ (PadMem.setRow_keep ..)
  exact PKeep.refl _

end Sys2Proof.Machine
end

