-- ==== Sys2Proof/Laws/KeepPonds.lean ====
section
/-! SUPPORT. What the operations of Ponds keep: the waiting commands and the invariant. -/
namespace Sys2Proof.Machine

theorem Ponds.noteA_keep (x : Ponds) (pad row : Nat) (be : BitVec 32) : PondsKeep x (Ponds.noteA x pad row be) := by
  refine Holds.out ?_
  unfold Ponds.noteA
  with_reducible refine PondsKeep.upd ?_; exact PKeep.refl _

theorem Ponds.forgetA_keep (x : Ponds) (pad : Nat) : PondsKeep x (Ponds.forgetA x pad) := by
  refine Holds.out ?_
  unfold Ponds.forgetA
  with_reducible refine PondsKeep.upd ?_; exact PKeep.refl _

theorem portBRow_keep (m : PadMem) (pad row : Nat) (d : BitVec 256) (be : BitVec 32) (poison : Bool) (coll : BitVec 32) : PKeep m (portBRow m pad row d be poison coll).1 := by
  refine Holds.out ?_; refine Holds.fst ?_
  unfold portBRow
  with_reducible refine Holds.ite ?_ ?_; with_reducible refine Holds.mk1 ?_; exact PKeep.refl _
  with_reducible refine Holds.ite ?_ ?_; with_reducible refine Holds.mk1 ?_; exact PKeep.refl _; dsimp only
  with_reducible refine Holds.mk1 ?_; with_reducible refine PKeep.step ?_ (PadMem.write_keep ..)
  exact PKeep.refl _

theorem portBWrite_keep (b : Base) (x : Ponds) (pad : Nat) (r : HopReq) (same : Bool) : PondsKeep x (portBWrite b x pad r same).2.1 := by
  refine Holds.out ?_; refine Holds.fst ?_; refine Holds.snd ?_
  unfold portBWrite
  dsimp only; with_reducible refine Holds.mk2 ?_; with_reducible refine Holds.mk1 ?_
  with_reducible refine PondsKeep.step ?_ (Ponds.forgetA_keep ..); with_reducible refine PondsKeep.upd ?_
  with_reducible refine PKeep.step ?_ (portBRow_keep ..)
  with_reducible refine PKeep.step ?_ (portBRow_keep ..); exact PKeep.refl _

theorem portBPerform_keep (b : Base) (x : Ponds) (r : HopReq) (write same : Bool) : PondsKeep x (portBPerform b x r write same).2.1 := by
  refine Holds.out ?_; refine Holds.fst ?_; refine Holds.snd ?_
  unfold portBPerform
  dsimp only; with_reducible refine Holds.ite ?_ ?_; with_reducible refine Holds.mk2 ?_
  with_reducible refine Holds.mk1 ?_; exact PondsKeep.refl _; with_reducible refine Holds.ite ?_ ?_
  refine Holds.of_snd ?_; refine Holds.of_fst ?_
  with_reducible refine PondsKeep.step ?_ (portBWrite_keep ..); exact PondsKeep.refl _
  with_reducible refine Holds.mk2 ?_; with_reducible refine Holds.mk1 ?_
  with_reducible refine PondsKeep.step ?_ (Ponds.forgetA_keep ..); exact PondsKeep.refl _

theorem portBServe_keep (b : Base) (x : Ponds) (r : HopReq) (write : Bool) : OnSome (OnSnd (OnFst (PondsKeep x))) (portBServe b x r write) := by
  refine Holds.out ?_
  unfold portBServe
  dsimp only; with_reducible refine Holds.ite ?_ ?_; exact Holds.none; with_reducible refine Holds.ite ?_ ?_
  with_reducible refine Holds.some ?_; refine Holds.of_snd ?_; refine Holds.of_fst ?_
  with_reducible refine PondsKeep.step ?_ (portBPerform_keep ..); exact PondsKeep.refl _
  with_reducible refine Holds.some ?_; refine Holds.of_snd ?_; refine Holds.of_fst ?_
  with_reducible refine PondsKeep.step ?_ (portBPerform_keep ..); exact PondsKeep.refl _

theorem portAPerform_keep (b : Base) (x : Ponds) (p : Nat) (q : PondReq) : PondsKeep x (portAPerform b x p q).2 := by
  refine Holds.out ?_; refine Holds.snd ?_
  unfold portAPerform
  dsimp only; with_reducible refine Holds.ite ?_ ?_; with_reducible refine Holds.mk2 ?_
  with_reducible refine PondsKeep.step ?_ (Ponds.noteA_keep ..)
  with_reducible refine PondsKeep.step ?_ (Ponds.noteA_keep ..)
  with_reducible refine PondsKeep.step ?_ (Ponds.forgetA_keep ..); with_reducible refine PondsKeep.upd ?_
  with_reducible refine PKeep.step ?_ (PadMem.write_keep ..)
  with_reducible refine PKeep.step ?_ (PadMem.write_keep ..); exact PKeep.refl _
  with_reducible refine Holds.mk2 ?_; with_reducible refine PondsKeep.step ?_ (Ponds.forgetA_keep ..)
  exact PondsKeep.refl _

theorem portAAnswer_keep (x : Base × Ponds) (p : Nat) (q : PondReq × Bool) : PondsKeep x.2 (portAAnswer x p q).2 := by
  refine Holds.out ?_; refine Holds.snd ?_
  unfold portAAnswer
  with_reducible refine Holds.ite ?_ ?_; refine Holds.of_snd ?_
  with_reducible refine PondsKeep.step ?_ (portAPerform_keep ..); exact PondsKeep.refl _
  with_reducible refine Holds.mk2 ?_; exact PondsKeep.refl _

theorem portA_keep (x : Base × Ponds) (p : Nat) (q : PondReq) (lose : Bool) : PondsKeep x.2 (portA x p q lose).2 := by
  refine Holds.out ?_; refine Holds.snd ?_
  unfold portA
  dsimp only; with_reducible refine Holds.ite ?_ ?_; with_reducible refine Holds.mk2 ?_
  with_reducible refine PondsKeep.upd ?_; exact PKeep.refl _; refine Holds.of_snd ?_
  with_reducible refine PondsKeep.step ?_ (portAAnswer_keep ..); with_reducible refine Holds.snd ?_
  with_reducible refine Holds.mk2 ?_; exact PondsKeep.refl _

theorem padReleased_keep (x : Base × Ponds) (p : Nat) : PondsKeep x.2 (padReleased x p).2 := by
  refine Holds.out ?_; refine Holds.snd ?_
  unfold padReleased
  refine PondsKeep.foldl_snd (fun _ _ => ?_) ?_; refine Holds.of_snd ?_
  with_reducible refine PondsKeep.step ?_ (portAAnswer_keep ..); exact PondsKeep.refl _
  with_reducible refine Holds.mk2 ?_; dsimp only; with_reducible refine PondsKeep.upd ?_; exact PKeep.refl _

theorem State.pondShow_keep (s : State) (n : Nat) : Keeps s (State.pondShow s n) := by
  refine Holds.out ?_
  unfold State.pondShow
  with_reducible refine Keeps.foldl (fun _ _ => ?_) ?_; split; dsimp only
  with_reducible refine Keeps.same ?_; exact Keeps.refl _; exact Keeps.refl _; exact Keeps.refl _

theorem execBStarve_keep (p : Fin 128) (s : State) : OnNext (Keeps s) (execBStarve p s) := by
  refine Holds.out ?_
  unfold execBStarve
  with_reducible refine Holds.ite ?_ ?_; with_reducible refine Holds.next ?_; exact Keeps.refl _
  with_reducible refine Holds.next ?_; with_reducible refine Keeps.same ?_; exact Keeps.refl _

theorem softRepairEnd_keep (s : State) (p : Nat) : Keeps s (softRepairEnd s p) := by
  refine Holds.out ?_
  unfold softRepairEnd
  split
  · exact Keeps.refl _
  · dsimp only
    with_reducible refine Keeps.upd (Keeps.refl _) ?_ (GKeep.refl _) (KKeep.refl _) (CKeep.refl _) (QKeep.refl _)
    with_reducible refine PondsKeep.upd ?_
    exact Holds.of ⟨fun h => SMap.wf_mapKV _ _ _ h⟩

theorem execSoftRepairDone_keep (p : Fin 128) (s : State) : OnNext (Keeps s) (execSoftRepairDone p s) := by
  refine Holds.out ?_
  unfold execSoftRepairDone
  with_reducible refine Holds.next ?_; with_reducible refine Keeps.step ?_ (softRepairEnd_keep ..)
  exact Keeps.refl _

theorem padCmdWrite_keep (b : Base) (x : Ponds) (p op n : Nat) : PondsKeep x (padCmdWrite b x p op n).2 := by
  refine Holds.out ?_; refine Holds.snd ?_
  unfold padCmdWrite
  dsimp only; with_reducible refine Holds.ite ?_ ?_; with_reducible refine Holds.mk2 ?_
  with_reducible refine PondsKeep.upd ?_; exact PKeep.refl _; with_reducible refine Holds.mk2 ?_
  exact PondsKeep.refl _



theorem padCmdEnd_keep (s : State) (p : Nat) (c : PadCmd) (fails : List (Fin 4 × Fin 416)) : Keeps s (padCmdEnd s p c fails) := by
  refine Holds.out ?_
  unfold padCmdEnd
  dsimp only; with_reducible refine Keeps.step ?_ (State.pondShow_keep ..)
  with_reducible refine Keeps.upd ?_ ?_ ?_ ?_ ?_ ?_; exact Keeps.refl _
  with_reducible refine PondsKeep.step ?_ (padReleased_keep ..); with_reducible refine Holds.snd ?_
  with_reducible refine Holds.mk2 ?_; with_reducible refine PondsKeep.upd ?_
  with_reducible refine PKeep.step ?_ (zeroPad_keep ..); exact PKeep.refl _; exact GKeep.refl _
  exact KKeep.refl _; exact CKeep.refl _; exact QKeep.refl _

theorem patrolAdvance_keep (b : Base) (x : Ponds) (p : Nat) : PondsKeep x (patrolAdvance b x p).2 := by
  refine Holds.out ?_; refine Holds.snd ?_
  unfold patrolAdvance
  dsimp only; with_reducible refine Holds.ite ?_ ?_; with_reducible refine Holds.mk2 ?_
  exact PondsKeep.refl _; with_reducible refine Holds.ite ?_ ?_; with_reducible refine Holds.mk2 ?_
  exact PondsKeep.refl _; with_reducible refine Holds.mk2 ?_; with_reducible refine PondsKeep.upd ?_
  exact PKeep.refl _

theorem execPatrolRow_keep (p : Fin 128) (s : State) : OnNext (Keeps s) (execPatrolRow p s) := by
  refine Holds.out ?_
  unfold execPatrolRow
  dsimp only; with_reducible refine Holds.ite ?_ ?_; with_reducible refine Holds.next ?_; exact Keeps.refl _
  with_reducible refine Holds.ite ?_ ?_; with_reducible refine Holds.next ?_
  with_reducible refine Keeps.upd ?_ ?_ ?_ ?_ ?_ ?_; exact Keeps.refl _
  with_reducible refine PondsKeep.step ?_ (patrolAdvance_keep ..); exact PondsKeep.refl _; exact GKeep.refl _
  exact KKeep.refl _; exact CKeep.refl _; exact QKeep.refl _; with_reducible refine Holds.next ?_
  with_reducible refine Keeps.upd ?_ ?_ ?_ ?_ ?_ ?_; exact Keeps.refl _
  with_reducible refine PondsKeep.step ?_ (patrolAdvance_keep ..); with_reducible refine PondsKeep.upd ?_
  with_reducible refine PKeep.step ?_ (PadMem.setRow_keep ..); exact PKeep.refl _; exact GKeep.refl _
  exact KKeep.refl _; exact CKeep.refl _; exact QKeep.refl _

theorem execPadGroupSleep_keep (p : Fin 128) (g : Fin 4) (s : State) : OnNext (Keeps s) (execPadGroupSleep p g s) := by
  refine Holds.out ?_
  unfold execPadGroupSleep
  dsimp only; with_reducible refine Holds.ite ?_ ?_; with_reducible refine Holds.next ?_
  with_reducible refine Keeps.same ?_; exact Keeps.refl _; with_reducible refine Holds.next ?_
  exact Keeps.refl _

theorem padRawCmd_keep (b : Base) (x : Ponds) (p : Nat) (wr : Bool) : PondsKeep x (padRawCmd b x p wr).2 := by
  refine Holds.out ?_; refine Holds.snd ?_
  unfold padRawCmd
  dsimp only; with_reducible refine Holds.ite ?_ ?_; with_reducible refine Holds.mk2 ?_
  exact PondsKeep.refl _; with_reducible refine Holds.ite ?_ ?_; with_reducible refine Holds.mk2 ?_
  with_reducible refine PondsKeep.upd ?_; with_reducible refine PKeep.step ?_ (PadMem.setRow_keep ..)
  exact PKeep.refl _; with_reducible refine Holds.mk2 ?_; exact PondsKeep.refl _

end Sys2Proof.Machine
end

