-- ==== Sys2Proof/Laws/KeepArbiter.lean ====
section
/-! SUPPORT. What the operations of Arbiter keep: the waiting commands and the invariant. -/
namespace Sys2Proof.Machine

theorem execArbiterWindow_keep (g : ArbGroup) (s : State) : OnNext (Keeps s) (execArbiterWindow g s) := by
  refine Holds.out ?_
  unfold execArbiterWindow
  with_reducible refine Holds.ite ?_ ?_; with_reducible refine Holds.next ?_; exact Keeps.refl _
  with_reducible refine Holds.ite ?_ ?_; dsimp only; with_reducible refine Holds.next ?_
  with_reducible refine Keeps.same ?_; exact Keeps.refl _; with_reducible refine Holds.ite ?_ ?_
  with_reducible refine Holds.next ?_; exact Keeps.refl _; with_reducible refine Holds.next ?_
  with_reducible refine Keeps.same ?_; exact Keeps.refl _

theorem State.arbServe_keep (s : State) (a : ArbInst) (r : Nat) : Keeps s (State.arbServe s a r) := by
  refine Holds.out ?_
  unfold State.arbServe
  with_reducible refine Keeps.same ?_; exact Keeps.refl _

theorem execArbiterGrant_keep (a : ArbInst) (reqs : BitVec 32) (s : State) : OnNext (Keeps s) (execArbiterGrant a reqs s) := by
  refine Holds.out ?_
  unfold execArbiterGrant
  with_reducible refine Holds.ite ?_ ?_; with_reducible refine Holds.next ?_; exact Keeps.refl _; dsimp only
  with_reducible refine Holds.next ?_; with_reducible refine Keeps.same ?_; exact Keeps.refl _

end Sys2Proof.Machine
end

