-- ==== Sys2Proof/Laws/KeepGddr.lean ====
section
/-! SUPPORT. What the operations of Gddr keep: the waiting commands and the invariant. -/
namespace Sys2Proof.Machine



theorem gdReadLine_keep (b : Base) (g : Gdr) (c n : Nat) (w : LineWho) : GKeep g (gdReadLine b g c n w).2.1 := by
  refine Holds.out ?_; refine Holds.fst ?_; refine Holds.snd ?_
  unfold gdReadLine
  dsimp only; split; with_reducible refine Holds.mk2 ?_; with_reducible refine Holds.mk1 ?_
  exact GKeep.refl _; with_reducible refine Holds.mk2 ?_; with_reducible refine Holds.mk1 ?_
  exact GKeep.refl _; with_reducible refine Holds.mk2 ?_; with_reducible refine Holds.mk1 ?_
  exact GKeep.refl _; with_reducible refine Holds.mk2 ?_; with_reducible refine Holds.mk1 ?_
  with_reducible refine GKeep.step ?_ (Gdr.setLine_keep ..); exact GKeep.refl _

theorem gdWriteLine_keep (g : Gdr) (c n : Nat) (d : BitVec 512) (tag minor : Nat) (poison : Bool) : GKeep g (gdWriteLine g c n d tag minor poison) := by
  refine Holds.out ?_
  unfold gdWriteLine
  dsimp only; with_reducible refine GKeep.step ?_ (Gdr.setLine_keep ..); exact GKeep.refl _

theorem gdWriteUncovered_keep (g : Gdr) (c n : Nat) (r : HopReq) : GKeep g (gdWriteUncovered g c n r).1 := by
  refine Holds.out ?_; refine Holds.fst ?_
  unfold gdWriteUncovered
  dsimp only; with_reducible refine Holds.ite ?_ ?_; with_reducible refine Holds.mk1 ?_; exact GKeep.refl _
  with_reducible refine Holds.ite ?_ ?_; with_reducible refine Holds.mk1 ?_; exact GKeep.refl _
  with_reducible refine Holds.mk1 ?_; with_reducible refine GKeep.step ?_ (Gdr.setLine_keep ..)
  exact GKeep.refl _

theorem gdWriteCovered_keep (b : Base) (g : Gdr) (c n : Nat) (r : HopReq) (w : LineWho) : GKeep g (gdWriteCovered b g c n r w).2.1 := by
  refine Holds.out ?_; refine Holds.fst ?_; refine Holds.snd ?_
  unfold gdWriteCovered
  dsimp only; with_reducible refine Holds.ite ?_ ?_; with_reducible refine Holds.mk2 ?_
  with_reducible refine Holds.mk1 ?_; exact GKeep.refl _; with_reducible refine Holds.ite ?_ ?_
  with_reducible refine Holds.mk2 ?_; with_reducible refine Holds.mk1 ?_
  with_reducible refine GKeep.step ?_ (gdWriteLine_keep ..); exact GKeep.refl _
  with_reducible refine Holds.ite ?_ ?_; with_reducible refine Holds.mk2 ?_
  with_reducible refine Holds.mk1 ?_; with_reducible refine GKeep.step ?_ (gdReadLine_keep ..)
  exact GKeep.refl _; with_reducible refine Holds.ite ?_ ?_; with_reducible refine Holds.mk2 ?_
  with_reducible refine Holds.mk1 ?_; with_reducible refine GKeep.step ?_ (Gdr.setLine_keep ..)
  with_reducible refine GKeep.step ?_ (gdReadLine_keep ..); exact GKeep.refl _
  with_reducible refine Holds.mk2 ?_; with_reducible refine Holds.mk1 ?_
  with_reducible refine GKeep.step ?_ (gdWriteLine_keep ..)
  with_reducible refine GKeep.step ?_ (gdReadLine_keep ..); exact GKeep.refl _

theorem gdTrainBegin_keep (b : Base) (g : Gdr) (c k : Nat) : GKeep g (gdTrainBegin b g c k).2 := by
  refine Holds.out ?_; refine Holds.snd ?_
  unfold gdTrainBegin
  with_reducible refine Holds.mk2 ?_; with_reducible refine GKeep.upd ?_; exact GKeep.refl _

theorem gdTrainEnd_keep (b : Base) (g : Gdr) (c : Nat) : GKeep g (gdTrainEnd b g c).2 := by
  refine Holds.out ?_; refine Holds.snd ?_
  unfold gdTrainEnd
  with_reducible refine Holds.mk2 ?_; with_reducible refine GKeep.upd ?_; exact GKeep.refl _

theorem gdTrainFail_keep (b : Base) (g : Gdr) (c n : Nat) : GKeep g (gdTrainFail b g c n).2 := by
  refine Holds.out ?_; refine Holds.snd ?_
  unfold gdTrainFail
  dsimp only; with_reducible refine Holds.mk2 ?_; with_reducible refine GKeep.step ?_ (gdTrainEnd_keep ..)
  exact GKeep.refl _

theorem gdTrainPass_keep (b : Base) (g : Gdr) (c r : Nat) (id0 id1 : Word) : GKeep g (gdTrainPass b g c r id0 id1).2 := by
  refine Holds.out ?_; refine Holds.snd ?_
  unfold gdTrainPass
  dsimp only; with_reducible refine Holds.ite ?_ ?_; with_reducible refine Holds.mk2 ?_
  with_reducible refine GKeep.upd ?_; with_reducible refine GKeep.step ?_ (gdTrainEnd_keep ..)
  exact GKeep.refl _; with_reducible refine Holds.mk2 ?_
  with_reducible refine GKeep.step ?_ (gdTrainEnd_keep ..); exact GKeep.refl _

theorem gdTrainGo_keep (b : Base) (g : Gdr) (c : Nat) : GKeep g (gdTrainGo b g c).2 := by
  refine Holds.out ?_; refine Holds.snd ?_
  unfold gdTrainGo
  with_reducible refine Holds.ite ?_ ?_; with_reducible refine Holds.mk2 ?_; exact GKeep.refl _
  refine Holds.of_snd ?_; with_reducible refine GKeep.step ?_ (gdTrainBegin_keep ..); exact GKeep.refl _

theorem execRefresh_keep (g : Fin 16) (temp : Fin 256) (s : State) : OnNext (Keeps s) (execRefresh g temp s) := by
  refine Holds.out ?_
  unfold execRefresh
  dsimp only; with_reducible refine Holds.ite ?_ ?_; with_reducible refine Holds.next ?_; exact Keeps.refl _
  with_reducible refine Holds.next ?_; with_reducible refine Keeps.same ?_; exact Keeps.refl _

theorem execSelfRefreshEntry_keep (g : Fin 16) (s : State) : OnNext (Keeps s) (execSelfRefreshEntry g s) := by
  refine Holds.out ?_
  unfold execSelfRefreshEntry
  dsimp only; with_reducible refine Holds.ite ?_ ?_; with_reducible refine Holds.next ?_
  with_reducible refine Keeps.same ?_; exact Keeps.refl _; with_reducible refine Holds.next ?_
  exact Keeps.refl _



theorem gdPatrolNext_keep (b : Base) (g : Gdr) (c n : Nat) : GKeep g (gdPatrolNext b g c n).2 := by
  refine Holds.out ?_; refine Holds.snd ?_
  unfold gdPatrolNext
  dsimp only; with_reducible refine Holds.ite ?_ ?_; with_reducible refine Holds.mk2 ?_; exact GKeep.refl _
  with_reducible refine Holds.mk2 ?_; with_reducible refine GKeep.upd ?_; exact GKeep.refl _

theorem execGdPatrol_keep (g : Fin 16) (s : State) : OnNext (Keeps s) (execGdPatrol g s) := by
  refine Holds.out ?_
  unfold execGdPatrol
  dsimp only; with_reducible refine Holds.ite ?_ ?_; with_reducible refine Holds.next ?_; exact Keeps.refl _
  with_reducible refine Holds.next ?_; with_reducible refine Keeps.step ?_ (State.arbServe_keep ..)
  with_reducible refine Keeps.upd ?_ ?_ ?_ ?_ ?_ ?_; exact Keeps.refl _; exact PondsKeep.refl _
  with_reducible refine GKeep.step ?_ (gdPatrolNext_keep ..); with_reducible refine Holds.ite ?_ ?_
  with_reducible refine GKeep.step ?_ (Gdr.setLine_keep ..)
  with_reducible refine GKeep.step ?_ (gdReadLine_keep ..); exact GKeep.refl _
  with_reducible refine GKeep.step ?_ (gdReadLine_keep ..); exact GKeep.refl _; exact KKeep.refl _
  exact CKeep.refl _; exact QKeep.refl _

end Sys2Proof.Machine
end

