-- ==== Sys2Proof/Laws/KeepEnc.lean ====
section
/-! SUPPORT. What the operations of Enc keep: the waiting commands and the invariant. -/
namespace Sys2Proof.Machine

theorem Gdr.touch_keep (b : Base) (g : Gdr) (c n : Nat) : GKeep g (Gdr.touch b g c n) := by
  refine Holds.out ?_
  unfold Gdr.touch
  with_reducible refine Holds.ite ?_ ?_; with_reducible refine GKeep.upd ?_; exact GKeep.refl _
  exact GKeep.refl _

theorem Gdr.setLost_keep (g : Gdr) (c p : Nat) (x : Bool) : GKeep g (Gdr.setLost g c p x) := by
  refine Holds.out ?_
  unfold Gdr.setLost
  with_reducible refine GKeep.upd ?_; exact GKeep.refl _

theorem ctrFail_keep (b : Base) (g : Gdr) (c p a region : Nat) : GKeep g (ctrFail b g c p a region).2 := by
  refine Holds.out ?_; refine Holds.snd ?_
  unfold ctrFail
  dsimp only; with_reducible refine Holds.mk2 ?_; with_reducible refine GKeep.foldl (fun _ _ => ?_) ?_
  with_reducible refine GKeep.step ?_ (Gdr.setLost_keep ..); exact GKeep.refl _; exact GKeep.refl _

theorem fetchMajor_keep (b : Base) (g : Gdr) (c p a region : Nat) : GKeep g (fetchMajor b g c p a region).2.1 := by
  refine Holds.out ?_; refine Holds.fst ?_; refine Holds.snd ?_
  unfold fetchMajor
  dsimp only; with_reducible refine Holds.ite ?_ ?_; with_reducible refine Holds.mk2 ?_
  with_reducible refine Holds.mk1 ?_; exact GKeep.refl _; with_reducible refine Holds.ite ?_ ?_
  with_reducible refine Holds.mk2 ?_; with_reducible refine Holds.mk1 ?_; exact GKeep.refl _
  with_reducible refine Holds.ite ?_ ?_; with_reducible refine Holds.mk2 ?_
  with_reducible refine Holds.mk1 ?_; with_reducible refine GKeep.step ?_ (ctrFail_keep ..)
  with_reducible refine GKeep.step ?_ (gdReadLine_keep ..); exact GKeep.refl _
  with_reducible refine Holds.mk2 ?_; with_reducible refine Holds.mk1 ?_
  with_reducible refine GKeep.step ?_ (gdReadLine_keep ..); exact GKeep.refl _

theorem storeMajor_keep (b : Base) (g : Gdr) (c p major : Nat) : GKeep g (storeMajor b g c p major).2 := by
  refine Holds.out ?_; refine Holds.snd ?_
  unfold storeMajor
  dsimp only; with_reducible refine Holds.mk2 ?_; with_reducible refine GKeep.step ?_ (Gdr.touch_keep ..)
  with_reducible refine GKeep.step ?_ (gdWriteLine_keep ..); exact GKeep.refl _

theorem guardStored_keep (b : Base) (g : Gdr) (c : Nat) (r : Region) (k p a : Nat) : GKeep g (guardStored b g c r k p a).2.1 := by
  refine Holds.out ?_; refine Holds.fst ?_; refine Holds.snd ?_
  unfold guardStored
  split; with_reducible refine Holds.mk2 ?_; with_reducible refine Holds.mk1 ?_; exact GKeep.refl _
  dsimp only; split; with_reducible refine Holds.mk2 ?_; with_reducible refine Holds.mk1 ?_
  with_reducible refine GKeep.step ?_ (fetchMajor_keep ..); exact GKeep.refl _
  with_reducible refine Holds.mk2 ?_; with_reducible refine Holds.mk1 ?_
  with_reducible refine GKeep.step ?_ (fetchMajor_keep ..); exact GKeep.refl _

theorem lineGuard_keep (b : Base) (g : Gdr) (c n a : Nat) (r : Region) : GKeep g (lineGuard b g c n a r).2.1 := by
  refine Holds.out ?_; refine Holds.fst ?_; refine Holds.snd ?_
  unfold lineGuard
  with_reducible refine Holds.ite ?_ ?_; with_reducible refine Holds.mk2 ?_
  with_reducible refine Holds.mk1 ?_; exact GKeep.refl _; with_reducible refine Holds.ite ?_ ?_; dsimp only
  with_reducible refine Holds.ite ?_ ?_; split; with_reducible refine Holds.mk2 ?_
  with_reducible refine Holds.mk1 ?_; exact GKeep.refl _; with_reducible refine Holds.mk2 ?_
  with_reducible refine Holds.mk1 ?_; exact GKeep.refl _; refine Holds.of_snd ?_; refine Holds.of_fst ?_
  with_reducible refine GKeep.step ?_ (guardStored_keep ..); exact GKeep.refl _; refine Holds.of_snd ?_
  refine Holds.of_fst ?_; with_reducible refine GKeep.step ?_ (guardStored_keep ..); exact GKeep.refl _

theorem tagFail_keep (b : Base) (g : Gdr) (c n kind : Nat) (w : LineWho) (region : Nat) : GKeep g (tagFail b g c n kind w region).2 := by
  refine Holds.out ?_; refine Holds.snd ?_
  unfold tagFail
  dsimp only; with_reducible refine Holds.mk2 ?_; with_reducible refine GKeep.step ?_ (Gdr.setLine_keep ..)
  exact GKeep.refl _

theorem encOpen_keep (b : Base) (g : Gdr) (c n : Nat) (p : Prot) (w : LineWho) (region kind : Nat) (l : Gline) : GKeep g (encOpen b g c n p w region kind l).2.1 := by
  refine Holds.out ?_; refine Holds.fst ?_; refine Holds.snd ?_
  unfold encOpen
  dsimp only; with_reducible refine Holds.ite ?_ ?_; with_reducible refine Holds.mk2 ?_
  with_reducible refine Holds.mk1 ?_; exact GKeep.refl _; with_reducible refine Holds.mk2 ?_
  with_reducible refine Holds.mk1 ?_; with_reducible refine GKeep.step ?_ (tagFail_keep ..)
  exact GKeep.refl _

theorem encReadLine_keep (b : Base) (g : Gdr) (c n : Nat) (p : Prot) (w : LineWho) (region kind : Nat) : GKeep g (encReadLine b g c n p w region kind).2.1 := by
  refine Holds.out ?_; refine Holds.fst ?_; refine Holds.snd ?_
  unfold encReadLine
  dsimp only; with_reducible refine Holds.ite ?_ ?_; with_reducible refine Holds.mk2 ?_
  with_reducible refine Holds.mk1 ?_; with_reducible refine GKeep.step ?_ (gdReadLine_keep ..)
  exact GKeep.refl _; refine Holds.of_snd ?_; refine Holds.of_fst ?_
  with_reducible refine GKeep.step ?_ (encOpen_keep ..)
  with_reducible refine GKeep.step ?_ (gdReadLine_keep ..); exact GKeep.refl _

theorem afterMinor_keep (b : Base) (g : Gdr) (c n : Nat) (r : Region) (major : Nat) : GKeep g (afterMinor b g c n r major).2 := by
  refine Holds.out ?_; refine Holds.snd ?_
  unfold afterMinor
  with_reducible refine Holds.ite ?_ ?_; dsimp only; with_reducible refine Holds.mk2 ?_; exact GKeep.refl _
  dsimp only; with_reducible refine Holds.mk2 ?_; with_reducible refine GKeep.upd ?_; exact GKeep.refl _

theorem encStore_keep (b : Base) (g : Gdr) (c n : Nat) (p : Prot) (r : Region) (d : BitVec 512) (poison : Bool) : GKeep g (encStore b g c n p r d poison).2 := by
  refine Holds.out ?_; refine Holds.snd ?_
  unfold encStore
  dsimp only; with_reducible refine Holds.ite ?_ ?_; refine Holds.of_snd ?_
  with_reducible refine GKeep.step ?_ (afterMinor_keep ..)
  with_reducible refine GKeep.step ?_ (gdWriteLine_keep ..); exact GKeep.refl _
  with_reducible refine Holds.mk2 ?_; with_reducible refine GKeep.step ?_ (gdWriteLine_keep ..)
  exact GKeep.refl _

theorem encWrite_keep (b : Base) (g : Gdr) (c n : Nat) (p : Prot) (rg : Region) (r : HopReq) (w : LineWho) : GKeep g (encWrite b g c n p rg r w).2.1 := by
  refine Holds.out ?_; refine Holds.fst ?_; refine Holds.snd ?_
  unfold encWrite
  dsimp only; with_reducible refine Holds.ite ?_ ?_; with_reducible refine Holds.mk2 ?_
  with_reducible refine Holds.mk1 ?_; exact GKeep.refl _; with_reducible refine Holds.ite ?_ ?_
  with_reducible refine Holds.mk2 ?_; with_reducible refine Holds.mk1 ?_; exact GKeep.refl _
  with_reducible refine Holds.ite ?_ ?_; with_reducible refine Holds.mk2 ?_
  with_reducible refine Holds.mk1 ?_; with_reducible refine GKeep.step ?_ (encStore_keep ..)
  exact GKeep.refl _; with_reducible refine Holds.ite ?_ ?_; with_reducible refine Holds.mk2 ?_
  with_reducible refine Holds.mk1 ?_; with_reducible refine GKeep.step ?_ (encReadLine_keep ..)
  exact GKeep.refl _; with_reducible refine Holds.ite ?_ ?_; with_reducible refine Holds.mk2 ?_
  with_reducible refine Holds.mk1 ?_; with_reducible refine GKeep.step ?_ (Gdr.setLine_keep ..)
  with_reducible refine GKeep.step ?_ (encReadLine_keep ..); exact GKeep.refl _
  with_reducible refine Holds.mk2 ?_; with_reducible refine Holds.mk1 ?_
  with_reducible refine GKeep.step ?_ (encStore_keep ..)
  with_reducible refine GKeep.step ?_ (encReadLine_keep ..); exact GKeep.refl _

theorem encRead_keep (b : Base) (g : Gdr) (c n : Nat) (rg : Option Region) (r : HopReq) (w : LineWho) : GKeep g (encRead b g c n rg r w).2.1 := by
  refine Holds.out ?_; refine Holds.fst ?_; refine Holds.snd ?_
  unfold encRead
  dsimp only; with_reducible refine Holds.ite ?_ ?_; with_reducible refine Holds.mk2 ?_
  with_reducible refine Holds.mk1 ?_; with_reducible refine GKeep.step ?_ (gdReadLine_keep ..)
  exact GKeep.refl _; split; with_reducible refine Holds.mk2 ?_; with_reducible refine Holds.mk1 ?_
  with_reducible refine GKeep.step ?_ (gdReadLine_keep ..); exact GKeep.refl _; split
  with_reducible refine Holds.mk2 ?_; with_reducible refine Holds.mk1 ?_
  with_reducible refine GKeep.step ?_ (lineGuard_keep ..)
  with_reducible refine GKeep.step ?_ (gdReadLine_keep ..); exact GKeep.refl _
  with_reducible refine Holds.mk2 ?_; with_reducible refine Holds.mk1 ?_
  with_reducible refine GKeep.step ?_ (lineGuard_keep ..)
  with_reducible refine GKeep.step ?_ (gdReadLine_keep ..); exact GKeep.refl _
  with_reducible refine Holds.mk2 ?_; with_reducible refine Holds.mk1 ?_
  with_reducible refine GKeep.step ?_ (encOpen_keep ..)
  with_reducible refine GKeep.step ?_ (lineGuard_keep ..)
  with_reducible refine GKeep.step ?_ (gdReadLine_keep ..); exact GKeep.refl _

theorem encPerform_keep (b : Base) (g : Gdr) (c n : Nat) (rg : Option Region) (r : HopReq) (write : Bool) (w : LineWho) : GKeep g (encPerform b g c n rg r write w).2.1 := by
  refine Holds.out ?_; refine Holds.fst ?_; refine Holds.snd ?_
  unfold encPerform
  with_reducible refine Holds.ite ?_ ?_; with_reducible refine Holds.ite ?_ ?_; dsimp only
  with_reducible refine Holds.mk2 ?_; with_reducible refine Holds.mk1 ?_
  with_reducible refine GKeep.step ?_ (gdWriteUncovered_keep ..); exact GKeep.refl _
  with_reducible refine Holds.mk2 ?_; with_reducible refine Holds.mk1 ?_; exact GKeep.refl _
  with_reducible refine Holds.ite ?_ ?_; refine Holds.of_snd ?_; refine Holds.of_fst ?_
  with_reducible refine GKeep.step ?_ (encRead_keep ..); exact GKeep.refl _; dsimp only; split
  with_reducible refine Holds.mk2 ?_; with_reducible refine Holds.mk1 ?_; with_reducible refine Holds.fst ?_
  with_reducible refine Holds.snd ?_; split; with_reducible refine Holds.mk2 ?_
  with_reducible refine Holds.mk1 ?_; exact GKeep.refl _; refine Holds.of_snd ?_; refine Holds.of_fst ?_
  with_reducible refine GKeep.step ?_ (lineGuard_keep ..); exact GKeep.refl _; refine Holds.of_snd ?_
  refine Holds.of_fst ?_; with_reducible refine GKeep.step ?_ (encWrite_keep ..)
  with_reducible refine Holds.fst ?_; with_reducible refine Holds.snd ?_; split
  with_reducible refine Holds.mk2 ?_; with_reducible refine Holds.mk1 ?_; exact GKeep.refl _
  refine Holds.of_snd ?_; refine Holds.of_fst ?_; with_reducible refine GKeep.step ?_ (lineGuard_keep ..)
  exact GKeep.refl _; refine Holds.of_snd ?_; refine Holds.of_fst ?_
  with_reducible refine GKeep.step ?_ (gdWriteCovered_keep ..); with_reducible refine Holds.fst ?_
  with_reducible refine Holds.snd ?_; split; with_reducible refine Holds.mk2 ?_
  with_reducible refine Holds.mk1 ?_; exact GKeep.refl _; refine Holds.of_snd ?_; refine Holds.of_fst ?_
  with_reducible refine GKeep.step ?_ (lineGuard_keep ..); exact GKeep.refl _

theorem gdServe_keep (b : Base) (g : Gdr) (r : HopReq) (write wide : Bool) : GKeep g (gdServe b g r write wide).2.1 := by
  refine Holds.out ?_; refine Holds.fst ?_; refine Holds.snd ?_
  unfold gdServe
  dsimp only; with_reducible refine Holds.ite ?_ ?_; with_reducible refine Holds.mk2 ?_
  with_reducible refine Holds.mk1 ?_; exact GKeep.refl _; with_reducible refine Holds.ite ?_ ?_
  with_reducible refine Holds.mk2 ?_; with_reducible refine Holds.mk1 ?_; exact GKeep.refl _
  with_reducible refine Holds.mk2 ?_; with_reducible refine Holds.mk1 ?_
  with_reducible refine GKeep.step ?_ (encPerform_keep ..); exact GKeep.refl _

theorem Gdr.hold_keep (g : Gdr) (c : Nat) (q : Waiting) : GKeep g (Gdr.hold g c q) := by
  refine Holds.out ?_
  unfold Gdr.hold
  with_reducible refine GKeep.upd ?_; exact GKeep.refl _

theorem gdRetryList_keep (wide : Bool) (c : Nat) (l : List Waiting) (b : Base) (g : Gdr) :
    GKeep g (gdRetryList wide c l b g).2 := by
  induction l generalizing b g with
  | nil => exact GKeep.refl _
  | cons w l ih =>
    refine Holds.out ?_; refine Holds.snd ?_
    unfold gdRetryList
    dsimp only
    split
    · refine Holds.of_snd (GKeep.step ?_ (ih _ _))
      with_reducible refine GKeep.step ?_ (Gdr.hold_keep ..)
      with_reducible refine GKeep.step ?_ (gdServe_keep ..)
      exact GKeep.refl _
    · refine Holds.of_snd (GKeep.step ?_ (ih _ _))
      with_reducible refine GKeep.step ?_ (gdServe_keep ..)
      exact GKeep.refl _

theorem gdRetry_keep (b : Base) (g : Gdr) (c : Nat) : GKeep g (gdRetry b g c).2 := by
  refine Holds.out ?_; refine Holds.snd ?_
  unfold gdRetry
  dsimp only; with_reducible refine Holds.mk2 ?_; with_reducible refine GKeep.step ?_ (gdRetryList_keep ..)
  with_reducible refine GKeep.upd ?_; exact GKeep.refl _

theorem execRetrain_keep (g : Fin 16) (ok : Bool) (s : State) : OnNext (Keeps s) (execRetrain g ok s) := by
  refine Holds.out ?_
  unfold execRetrain
  with_reducible refine Holds.ite ?_ ?_; dsimp only; with_reducible refine Holds.next ?_
  with_reducible refine Keeps.upd ?_ ?_ ?_ ?_ ?_ ?_; exact Keeps.refl _; exact PondsKeep.refl _
  with_reducible refine GKeep.step ?_ (gdRetry_keep ..); with_reducible refine Holds.snd ?_
  with_reducible refine Holds.ite ?_ ?_; refine Holds.of_snd ?_
  with_reducible refine GKeep.step ?_ (gdTrainEnd_keep ..); exact GKeep.refl _; refine Holds.of_snd ?_
  with_reducible refine GKeep.step ?_ (gdTrainFail_keep ..); exact GKeep.refl _; exact KKeep.refl _
  exact CKeep.refl _; exact QKeep.refl _; with_reducible refine Holds.next ?_; exact Keeps.refl _

theorem execTrainingDone_keep (g : Fin 16) (early : Option (Fin 3)) (pass : List (Fin 32)) (id0 id1 : Word) (s : State) : OnNext (Keeps s) (execTrainingDone g early pass id0 id1 s) := by
  refine Holds.out ?_
  unfold execTrainingDone
  with_reducible refine Holds.ite ?_ ?_; dsimp only; with_reducible refine Holds.next ?_
  with_reducible refine Keeps.upd ?_ ?_ ?_ ?_ ?_ ?_; exact Keeps.refl _; exact PondsKeep.refl _
  with_reducible refine GKeep.step ?_ (gdRetry_keep ..); with_reducible refine Holds.snd ?_; split
  refine Holds.of_snd ?_; with_reducible refine GKeep.step ?_ (gdTrainFail_keep ..); exact GKeep.refl _
  split; refine Holds.of_snd ?_; with_reducible refine GKeep.step ?_ (gdTrainPass_keep ..)
  exact GKeep.refl _; refine Holds.of_snd ?_; with_reducible refine GKeep.step ?_ (gdTrainFail_keep ..)
  exact GKeep.refl _; exact KKeep.refl _; exact CKeep.refl _; exact QKeep.refl _
  with_reducible refine Holds.next ?_; exact Keeps.refl _

theorem execInitDone_keep (g : Fin 16) (s : State) : OnNext (Keeps s) (execInitDone g s) := by
  refine Holds.out ?_
  unfold execInitDone
  dsimp only; with_reducible refine Holds.ite ?_ ?_; with_reducible refine Holds.next ?_
  with_reducible refine Keeps.upd ?_ ?_ ?_ ?_ ?_ ?_; exact Keeps.refl _; exact PondsKeep.refl _
  with_reducible refine GKeep.step ?_ (gdRetry_keep ..); with_reducible refine GKeep.upd ?_
  with_reducible refine GKeep.step ?_ (Gdr.zero_keep ..); exact GKeep.refl _; exact KKeep.refl _
  exact CKeep.refl _; exact QKeep.refl _; with_reducible refine Holds.next ?_; exact Keeps.refl _

theorem gdRawCmd_keep (b : Base) (g : Gdr) (c : Nat) (wr : Bool) : GKeep g (gdRawCmd b g c wr).2 := by
  refine Holds.out ?_; refine Holds.snd ?_
  unfold gdRawCmd
  dsimp only; with_reducible refine Holds.ite ?_ ?_; with_reducible refine Holds.mk2 ?_; exact GKeep.refl _
  with_reducible refine Holds.ite ?_ ?_; with_reducible refine Holds.mk2 ?_
  with_reducible refine GKeep.step ?_ (Gdr.touch_keep ..)
  with_reducible refine GKeep.step ?_ (Gdr.setLine_keep ..); exact GKeep.refl _
  with_reducible refine Holds.mk2 ?_; exact GKeep.refl _

theorem ksErase_keep (b : Base) (g : Gdr) (k : Nat) : GKeep g (ksErase b g k).2 := by
  refine Holds.out ?_; refine Holds.snd ?_
  unfold ksErase
  dsimp only; with_reducible refine Holds.ite ?_ ?_; with_reducible refine Holds.mk2 ?_; exact GKeep.refl _
  with_reducible refine Holds.mk2 ?_; with_reducible refine GKeep.upd ?_; exact GKeep.refl _

theorem slotLoad_keep (b : Base) (g : Gdr) (k : Nat) (src : KeySrc) : GKeep g (slotLoad b g k src).2 := by
  refine Holds.out ?_; refine Holds.snd ?_
  unfold slotLoad
  with_reducible refine Holds.mk2 ?_; with_reducible refine GKeep.upd ?_; exact GKeep.refl _

theorem resealLine_keep (c : Nat) (p : Prot) (region : Nat) (x : Base × Gdr) (n : Nat) : GKeep x.2 (resealLine c p region x n).2 := by
  refine Holds.out ?_; refine Holds.snd ?_
  unfold resealLine
  dsimp only; with_reducible refine Holds.mk2 ?_; with_reducible refine GKeep.step ?_ (gdWriteLine_keep ..)
  with_reducible refine GKeep.step ?_ (encReadLine_keep ..); exact GKeep.refl _

theorem resealEnd_keep (s : State) (c : Nat) : Keeps s (resealEnd s c) := by
  refine Holds.out ?_
  unfold resealEnd
  split; exact Keeps.refl _; dsimp only; split; with_reducible refine Keeps.upd ?_ ?_ ?_ ?_ ?_ ?_
  exact Keeps.refl _; exact PondsKeep.refl _; with_reducible refine GKeep.upd ?_; exact GKeep.refl _
  exact KKeep.refl _; exact CKeep.refl _; exact QKeep.refl _; with_reducible refine Holds.ite ?_ ?_
  exact Keeps.refl _; with_reducible refine Keeps.upd ?_ ?_ ?_ ?_ ?_ ?_; exact Keeps.refl _
  exact PondsKeep.refl _; with_reducible refine GKeep.step ?_ (gdRetry_keep ..)
  with_reducible refine GKeep.upd ?_; with_reducible refine Holds.snd ?_; split; refine Holds.of_snd ?_
  with_reducible refine GKeep.step ?_ (storeMajor_keep ..); with_reducible refine Holds.snd ?_
  refine GKeep.foldl_snd (fun _ _ => ?_) ?_; refine Holds.of_snd ?_
  with_reducible refine GKeep.step ?_ (resealLine_keep ..); exact GKeep.refl _
  with_reducible refine Holds.mk2 ?_; with_reducible refine GKeep.step ?_ (lineGuard_keep ..)
  exact GKeep.refl _; with_reducible refine Holds.mk2 ?_
  with_reducible refine GKeep.step ?_ (lineGuard_keep ..); exact GKeep.refl _; exact KKeep.refl _
  exact CKeep.refl _; exact QKeep.refl _

theorem State.gdAwake_keep (s : State) (c : Nat) : Keeps s (State.gdAwake s c) := by
  refine Holds.out ?_
  unfold State.gdAwake
  with_reducible refine Holds.ite ?_ ?_; exact Keeps.refl _; with_reducible refine Keeps.same ?_
  exact Keeps.refl _

theorem execResealDone_keep (c : Fin 16) (s : State) : OnNext (Keeps s) (execResealDone c s) := by
  refine Holds.out ?_
  unfold execResealDone
  with_reducible refine Holds.ite ?_ ?_; with_reducible refine Holds.next ?_; exact Keeps.refl _; dsimp only
  with_reducible refine Holds.next ?_; with_reducible refine Holds.ite ?_ ?_
  with_reducible refine Keeps.step ?_ (State.gdAwake_keep ..); exact Keeps.refl _
  with_reducible refine Keeps.step ?_ (State.arbServe_keep ..)
  with_reducible refine Keeps.step ?_ (resealEnd_keep ..)
  with_reducible refine Keeps.step ?_ (State.gdAwake_keep ..); exact Keeps.refl _

theorem moltStart_keep (b : Base) (g : Gdr) (op r kb : Nat) (auto : Bool) : GKeep g (moltStart b g op r kb auto).2 := by
  refine Holds.out ?_; refine Holds.snd ?_
  unfold moltStart
  dsimp only; with_reducible refine Holds.mk2 ?_; with_reducible refine GKeep.upd ?_; exact GKeep.refl _

theorem moltCmd_keep (b : Base) (g : Gdr) (t op r kb : Nat) : GKeep g (moltCmd b g t op r kb).2 := by
  refine Holds.out ?_; refine Holds.snd ?_
  unfold moltCmd
  with_reducible refine Holds.ite ?_ ?_; refine Holds.of_snd ?_
  with_reducible refine GKeep.step ?_ (moltStart_keep ..); exact GKeep.refl _
  with_reducible refine Holds.mk2 ?_; exact GKeep.refl _

theorem moltNext_keep (b : Base) (g : Gdr) : GKeep g (moltNext b g).2 := by
  refine Holds.out ?_; refine Holds.snd ?_
  unfold moltNext
  with_reducible refine Holds.ite ?_ ?_; with_reducible refine Holds.mk2 ?_; exact GKeep.refl _; split
  dsimp only; with_reducible refine Holds.ite ?_ ?_; refine Holds.of_snd ?_
  with_reducible refine GKeep.step ?_ (moltStart_keep ..); with_reducible refine GKeep.upd ?_
  exact GKeep.refl _; with_reducible refine Holds.mk2 ?_; with_reducible refine GKeep.upd ?_
  exact GKeep.refl _; with_reducible refine Holds.mk2 ?_; exact GKeep.refl _

theorem execAutoMoltFill_keep (r : Fin 256) (s : State) : OnNext (Keeps s) (execAutoMoltFill r s) := by
  refine Holds.out ?_
  unfold execAutoMoltFill
  dsimp only; split; with_reducible refine Holds.next ?_; exact Keeps.refl _
  with_reducible refine Holds.ite ?_ ?_; with_reducible refine Holds.next ?_
  with_reducible refine Keeps.upd ?_ ?_ ?_ ?_ ?_ ?_; exact Keeps.refl _; exact PondsKeep.refl _
  with_reducible refine GKeep.step ?_ (moltNext_keep ..); with_reducible refine GKeep.upd ?_
  with_reducible refine GKeep.step ?_ (slotLoad_keep ..); exact GKeep.refl _; exact KKeep.refl _
  exact CKeep.refl _; exact QKeep.refl _; with_reducible refine Holds.next ?_; exact Keeps.refl _

theorem moltRead_keep (b : Base) (g : Gdr) (c n a : Nat) (q : Region) : GKeep g (moltRead b g c n a q).2.1 := by
  refine Holds.out ?_; refine Holds.fst ?_; refine Holds.snd ?_
  unfold moltRead
  dsimp only; split; refine Holds.of_snd ?_; refine Holds.of_fst ?_
  with_reducible refine GKeep.step ?_ (encReadLine_keep ..)
  with_reducible refine GKeep.step ?_ (guardStored_keep ..); exact GKeep.refl _
  with_reducible refine Holds.mk2 ?_; with_reducible refine Holds.mk1 ?_
  with_reducible refine GKeep.step ?_ (guardStored_keep ..); exact GKeep.refl _

theorem moltLine_keep (b : Base) (g : Gdr) (c n : Nat) (q : Region) (kb : Nat) : GKeep g (moltLine b g c n q kb).2 := by
  refine Holds.out ?_; refine Holds.snd ?_
  unfold moltLine
  dsimp only; split; with_reducible refine Holds.mk2 ?_
  with_reducible refine GKeep.step ?_ (Gdr.setLine_keep ..)
  with_reducible refine GKeep.step ?_ (moltRead_keep ..); exact GKeep.refl _
  with_reducible refine Holds.mk2 ?_; with_reducible refine GKeep.step ?_ (gdWriteLine_keep ..)
  with_reducible refine GKeep.step ?_ (moltRead_keep ..); exact GKeep.refl _

theorem fillLine_keep (b : Base) (g : Gdr) (c n : Nat) (q : Region) : GKeep g (fillLine b g c n q).2 := by
  refine Holds.out ?_; refine Holds.snd ?_
  unfold fillLine
  dsimp only; split; with_reducible refine Holds.mk2 ?_
  with_reducible refine GKeep.step ?_ (encWrite_keep ..)
  with_reducible refine GKeep.step ?_ (lineGuard_keep ..); exact GKeep.refl _
  with_reducible refine Holds.mk2 ?_; with_reducible refine GKeep.step ?_ (lineGuard_keep ..)
  exact GKeep.refl _; with_reducible refine Holds.mk2 ?_
  with_reducible refine GKeep.step ?_ (lineGuard_keep ..); exact GKeep.refl _
  with_reducible refine Holds.mk2 ?_; with_reducible refine GKeep.step ?_ (lineGuard_keep ..)
  exact GKeep.refl _

theorem moltPageEnd_keep (b : Base) (g : Gdr) (c n : Nat) : GKeep g (moltPageEnd b g c n).2 := by
  refine Holds.out ?_; refine Holds.snd ?_
  unfold moltPageEnd
  with_reducible refine Holds.ite ?_ ?_; dsimp only; with_reducible refine Holds.mk2 ?_
  with_reducible refine GKeep.step ?_ (Gdr.setLost_keep ..)
  with_reducible refine GKeep.step ?_ (storeMajor_keep ..); exact GKeep.refl _
  with_reducible refine Holds.mk2 ?_; exact GKeep.refl _

theorem execMoltLineMove_keep (c : Fin 16) (s : State) : OnNext (Keeps s) (execMoltLineMove c s) := by
  refine Holds.out ?_
  unfold execMoltLineMove
  dsimp only; with_reducible refine Holds.ite ?_ ?_; with_reducible refine Holds.next ?_; exact Keeps.refl _
  with_reducible refine Holds.ite ?_ ?_; with_reducible refine Holds.next ?_
  with_reducible refine Keeps.step ?_ (State.gdAwake_keep ..); exact Keeps.refl _
  with_reducible refine Holds.next ?_; with_reducible refine Keeps.step ?_ (State.arbServe_keep ..)
  with_reducible refine Keeps.upd ?_ ?_ ?_ ?_ ?_ ?_
  with_reducible refine Keeps.step ?_ (State.gdAwake_keep ..); exact Keeps.refl _; exact PondsKeep.refl _
  with_reducible refine GKeep.step ?_ (gdRetry_keep ..); with_reducible refine Holds.snd ?_
  with_reducible refine Holds.ite ?_ ?_; refine Holds.of_snd ?_
  with_reducible refine GKeep.step ?_ (moltPageEnd_keep ..)
  with_reducible refine GKeep.step ?_ (moltLine_keep ..); exact GKeep.refl _; refine Holds.of_snd ?_
  with_reducible refine GKeep.step ?_ (fillLine_keep ..); exact GKeep.refl _; exact KKeep.refl _
  exact CKeep.refl _; exact QKeep.refl _

theorem execMoltDone_keep (s : State) : OnNext (Keeps s) (execMoltDone s) := by
  refine Holds.out ?_
  unfold execMoltDone
  dsimp only; with_reducible refine Holds.ite ?_ ?_; with_reducible refine Holds.next ?_
  with_reducible refine Keeps.upd ?_ ?_ ?_ ?_ ?_ ?_; exact Keeps.refl _; exact PondsKeep.refl _
  with_reducible refine GKeep.step ?_ (moltNext_keep ..); with_reducible refine GKeep.upd ?_
  with_reducible refine Holds.snd ?_; with_reducible refine Holds.ite ?_ ?_; refine Holds.of_snd ?_
  with_reducible refine GKeep.step ?_ (ksErase_keep ..); exact GKeep.refl _
  with_reducible refine Holds.mk2 ?_; exact GKeep.refl _; exact KKeep.refl _; exact CKeep.refl _
  exact QKeep.refl _; with_reducible refine Holds.next ?_; exact Keeps.refl _

theorem gdResumeOne_keep (gap : Nat) (x : Base × Gdr) (c : Nat) : GKeep x.2 (gdResumeOne gap x c).2 := by
  refine Holds.out ?_; refine Holds.snd ?_
  unfold gdResumeOne
  dsimp only; with_reducible refine Holds.ite ?_ ?_; refine Holds.of_snd ?_
  with_reducible refine GKeep.step ?_ (gdTrainBegin_keep ..); exact GKeep.refl _; refine Holds.of_snd ?_
  exact GKeep.refl _

theorem gdResume_keep (b : Base) (g : Gdr) (gap : Nat) : GKeep g (gdResume b g gap).2 := by
  refine Holds.out ?_; refine Holds.snd ?_
  unfold gdResume
  refine GKeep.foldl_snd (fun _ _ => ?_) ?_; refine Holds.of_snd ?_
  with_reducible refine GKeep.step ?_ (gdRetry_keep ..); exact GKeep.refl _
  refine GKeep.foldl_snd (fun _ _ => ?_) ?_; refine Holds.of_snd ?_
  with_reducible refine GKeep.step ?_ (gdResumeOne_keep ..); exact GKeep.refl _
  with_reducible refine Holds.mk2 ?_; exact GKeep.refl _

theorem gdApplyK_keep (b : Base) (g : Gdr) (c : Nat) : GKeep g (gdApplyK b g c).2 := by
  refine Holds.out ?_; refine Holds.snd ?_
  unfold gdApplyK
  dsimp only; with_reducible refine Holds.mk2 ?_; with_reducible refine Holds.ite ?_ ?_; exact GKeep.refl _
  with_reducible refine GKeep.upd ?_; exact GKeep.refl _

end Sys2Proof.Machine
end

