-- ==== Sys2Proof/Laws/KeepPower.lean ====
section
/-! SUPPORT. What the operations of Power keep: the waiting commands and the invariant. -/
namespace Sys2Proof.Machine

theorem execBudgetRun_keep (s : State) : OnNext (Keeps s) (execBudgetRun s) := by
  refine Holds.out ?_
  unfold execBudgetRun
  with_reducible refine Holds.ite ?_ ?_; with_reducible refine Holds.next ?_; exact Keeps.refl _; dsimp only
  with_reducible refine Holds.next ?_; with_reducible refine Keeps.same ?_; exact Keeps.refl _

theorem execIvrLimit_keep (t : Tower) (rail : Fin 4) (s : State) : OnNext (Keeps s) (execIvrLimit t rail s) := by
  refine Holds.out ?_
  unfold execIvrLimit
  dsimp only; with_reducible refine Holds.next ?_; with_reducible refine Keeps.same ?_; exact Keeps.refl _

theorem execSensorSample_keep (pw : List PowerRep) (rd : List SensorRead) (s : State) : OnNext (Keeps s) (execSensorSample pw rd s) := by
  refine Holds.out ?_
  unfold execSensorSample
  dsimp only; with_reducible refine Holds.next ?_; with_reducible refine Keeps.same ?_; exact Keeps.refl _

theorem execThermalShutdown_keep (s : State) : OnNext (Keeps s) (execThermalShutdown s) := by
  refine Holds.out ?_
  unfold execThermalShutdown
  split; with_reducible refine Holds.next ?_; exact Keeps.refl _; with_reducible refine Holds.ite ?_ ?_
  with_reducible refine Holds.next ?_; exact Keeps.refl _; dsimp only; with_reducible refine Holds.next ?_
  with_reducible refine Keeps.same ?_; exact Keeps.refl _

theorem execPwrFail_keep (s : State) : OnNext (Keeps s) (execPwrFail s) := by
  refine Holds.out ?_
  unfold execPwrFail
  with_reducible refine Holds.ite ?_ ?_; with_reducible refine Holds.next ?_; exact Keeps.refl _; dsimp only
  with_reducible refine Holds.next ?_; with_reducible refine Keeps.same ?_; exact Keeps.refl _

theorem execPwrFailRecover_keep (s : State) : OnNext (Keeps s) (execPwrFailRecover s) := by
  refine Holds.out ?_
  unfold execPwrFailRecover
  with_reducible refine Holds.ite ?_ ?_; with_reducible refine Holds.next ?_
  with_reducible refine Keeps.same ?_; exact Keeps.refl _; with_reducible refine Holds.next ?_
  exact Keeps.refl _

end Sys2Proof.Machine
end

