-- ==== Sys2Proof/Laws/KeepClocks.lean ====
section
/-! SUPPORT. What the operations of Clocks keep: the waiting commands and the invariant. -/
namespace Sys2Proof.Machine

theorem execRampTick_keep (s : State) : OnNext (Keeps s) (execRampTick s) := by
  refine Holds.out ?_
  unfold execRampTick
  with_reducible refine Holds.ite ?_ ?_; with_reducible refine Holds.next ?_; exact Keeps.refl _; dsimp only
  with_reducible refine Holds.next ?_; with_reducible refine Keeps.same ?_; exact Keeps.refl _

theorem execRampStep_keep (t : Tower) (n : Fin 32) (s : State) : OnNext (Keeps s) (execRampStep t n s) := by
  refine Holds.out ?_
  unfold execRampStep
  with_reducible refine Holds.ite ?_ ?_; with_reducible refine Holds.next ?_; exact Keeps.refl _; dsimp only
  with_reducible refine Holds.next ?_; with_reducible refine Keeps.same ?_; exact Keeps.refl _

theorem execCoarseTrip_keep (s : State) : OnNext (Keeps s) (execCoarseTrip s) := by
  refine Holds.out ?_
  unfold execCoarseTrip
  dsimp only; with_reducible refine Holds.next ?_; with_reducible refine Keeps.same ?_; exact Keeps.refl _

theorem execFineMeasurement_keep (dev : Word) (s : State) : OnNext (Keeps s) (execFineMeasurement dev s) := by
  refine Holds.out ?_
  unfold execFineMeasurement
  with_reducible refine Holds.ite ?_ ?_; dsimp only; with_reducible refine Holds.ite ?_ ?_
  with_reducible refine Holds.next ?_; with_reducible refine Keeps.same ?_; exact Keeps.refl _
  with_reducible refine Holds.next ?_; with_reducible refine Keeps.same ?_; exact Keeps.refl _
  with_reducible refine Holds.next ?_; exact Keeps.refl _

theorem clocksResume_keep (b : Base) (g : Gdr) (k : Clk) (ref : Nat) : GKeep g (clocksResume b g k ref).2 := by
  refine Holds.out ?_; refine Holds.snd ?_
  unfold clocksResume
  dsimp only; with_reducible refine Holds.mk2 ?_; with_reducible refine GKeep.step ?_ (gdResume_keep ..)
  exact GKeep.refl _

theorem execFioQualified_keep (s : State) : OnNext (Keeps s) (execFioQualified s) := by
  refine Holds.out ?_
  unfold execFioQualified
  with_reducible refine Holds.ite ?_ ?_; dsimp only; with_reducible refine Holds.ite ?_ ?_
  with_reducible refine Holds.next ?_; with_reducible refine Keeps.upd ?_ ?_ ?_ ?_ ?_ ?_; exact Keeps.refl _
  exact PondsKeep.refl _; with_reducible refine GKeep.step ?_ (clocksResume_keep ..); exact GKeep.refl _
  exact KKeep.refl _; exact CKeep.refl _; exact QKeep.refl _; with_reducible refine Holds.next ?_
  with_reducible refine Keeps.same ?_; exact Keeps.refl _; with_reducible refine Holds.next ?_
  exact Keeps.refl _

theorem execFioFail_keep (s : State) : OnNext (Keeps s) (execFioFail s) := by
  refine Holds.out ?_
  unfold execFioFail
  with_reducible refine Holds.ite ?_ ?_; dsimp only; with_reducible refine Holds.next ?_
  with_reducible refine Keeps.same ?_; exact Keeps.refl _; with_reducible refine Holds.next ?_
  exact Keeps.refl _

theorem execSafeExit_keep (s : State) : OnNext (Keeps s) (execSafeExit s) := by
  refine Holds.out ?_
  unfold execSafeExit
  with_reducible refine Holds.ite ?_ ?_; dsimp only; with_reducible refine Holds.next ?_
  with_reducible refine Keeps.upd ?_ ?_ ?_ ?_ ?_ ?_; exact Keeps.refl _; exact PondsKeep.refl _
  with_reducible refine GKeep.step ?_ (clocksResume_keep ..); exact GKeep.refl _; exact KKeep.refl _
  exact CKeep.refl _; exact QKeep.refl _; with_reducible refine Holds.next ?_; exact Keeps.refl _

theorem execRefOk_keep (s : State) : OnNext (Keeps s) (execRefOk s) := by
  refine Holds.out ?_
  unfold execRefOk
  with_reducible refine Holds.ite ?_ ?_; dsimp only; with_reducible refine Holds.next ?_
  with_reducible refine Keeps.same ?_; exact Keeps.refl _; with_reducible refine Holds.next ?_
  exact Keeps.refl _

end Sys2Proof.Machine
end

