-- ==== Sys2Proof/Laws/KeepGeckoMem.lean ====
section
/-! SUPPORT. What the operations of GeckoMem keep: the waiting commands and the invariant. -/
namespace Sys2Proof.Machine

theorem Geckos.setWord_keep (x : Geckos) (g w : Nat) (r : BitVec 416) : KKeep x (Geckos.setWord x g w r) := by
  refine Holds.out ?_
  unfold Geckos.setWord
  exact Holds.of ⟨fun h => SMap.wf_set _ _ _ _ h⟩

theorem Geckos.write_keep (x : Geckos) (g w : Nat) (d : BitVec 256) (be : BitVec 32) (p : Bool) : KKeep x (Geckos.write x g w d be p).1 := by
  refine Holds.out ?_; refine Holds.fst ?_
  unfold Geckos.write
  dsimp only; with_reducible refine Holds.mk1 ?_
  with_reducible refine KKeep.step ?_ (Geckos.setWord_keep ..); exact KKeep.refl _

theorem Geckos.store_keep (x : Geckos) (g w : Nat) (d : BitVec 256) (be : BitVec 32) (p : Bool) : KKeep x (Geckos.store x g w d be p) := by
  refine Holds.out ?_
  unfold Geckos.store
  with_reducible refine Holds.ite ?_ ?_; with_reducible refine KKeep.step ?_ (Geckos.setWord_keep ..)
  exact KKeep.refl _; with_reducible refine KKeep.step ?_ (Geckos.setWord_keep ..); exact KKeep.refl _

theorem gkReqServe_keep (b : Base) (x : Geckos) (r : HopReq) (write : Bool) : KKeep x (gkReqServe b x r write).2.1 := by
  refine Holds.out ?_; refine Holds.fst ?_; refine Holds.snd ?_
  unfold gkReqServe
  dsimp only; with_reducible refine Holds.ite ?_ ?_; with_reducible refine Holds.mk2 ?_
  with_reducible refine Holds.mk1 ?_; exact KKeep.refl _; with_reducible refine Holds.ite ?_ ?_
  with_reducible refine Holds.ite ?_ ?_; with_reducible refine Holds.mk2 ?_
  with_reducible refine Holds.mk1 ?_; exact KKeep.refl _; with_reducible refine Holds.mk2 ?_
  with_reducible refine Holds.mk1 ?_; with_reducible refine KKeep.step ?_ (Geckos.write_keep ..)
  with_reducible refine KKeep.step ?_ (Geckos.write_keep ..); exact KKeep.refl _
  with_reducible refine Holds.mk2 ?_; with_reducible refine Holds.mk1 ?_; exact KKeep.refl _

theorem gkRequest_keep (b : Base) (x : Geckos) (r : HopReq) (write admitted : Bool) : KKeep x (gkRequest b x r write admitted).2.1 := by
  refine Holds.out ?_; refine Holds.fst ?_; refine Holds.snd ?_
  unfold gkRequest
  with_reducible refine Holds.ite ?_ ?_; refine Holds.of_snd ?_; refine Holds.of_fst ?_
  with_reducible refine KKeep.step ?_ (gkReqServe_keep ..); exact KKeep.refl _; split
  with_reducible refine Holds.mk2 ?_; with_reducible refine Holds.mk1 ?_; exact KKeep.refl _
  refine Holds.of_snd ?_; refine Holds.of_fst ?_; with_reducible refine KKeep.step ?_ (gkReqServe_keep ..)
  exact KKeep.refl _

theorem Geckos.upd_keep (x : Geckos) (g : Nat) (f : Gecko → Gecko) : KKeep x (Geckos.upd x g f) := by
  refine Holds.out ?_
  unfold Geckos.upd
  with_reducible refine KKeep.step ?_ (Geckos.put_keep ..); exact KKeep.refl _

end Sys2Proof.Machine
end

