-- ==== Sys2Proof/Laws/KeepMem.lean ====
section
/-! SUPPORT. What the operations of Mem keep: the waiting commands and the invariant. -/
namespace Sys2Proof.Machine

theorem memServe_keep (b : Base) (x : Ponds) (g : Gdr) (wide : Bool) (r : HopReq) (write : Bool) :
    OnSome (fun y => PondsKeep x y.2.1 ∧ GKeep g y.2.2.1) (memServe b x g wide r write) := by
  refine Holds.out ?_
  unfold memServe
  split
  · exact Holds.map_any (fun a => ⟨PondsKeep.refl _, gdServe_keep ..⟩)
  · exact Holds.map (portBServe_keep ..) (fun a h => ⟨h, GKeep.refl _⟩)
  · exact Holds.some ⟨PondsKeep.refl _, GKeep.refl _⟩

theorem State.arbAtTarget_keep (s : State) (t : Nat) (r : HopReq) : Keeps s (State.arbAtTarget s t r) := by
  refine Holds.out ?_
  unfold State.arbAtTarget
  split; with_reducible refine Keeps.step ?_ (State.arbServe_keep ..); exact Keeps.refl _
  with_reducible refine Keeps.step ?_ (State.arbServe_keep ..); exact Keeps.refl _; exact Keeps.refl _

theorem State.serveMem_keep (s : State) (t : Nat) (r : HopReq) (write : Bool) :
    OnSome (OnFst (Keeps s)) (s.serveMem t r write) := by
  refine Holds.out ?_
  unfold State.serveMem
  refine Holds.map (memServe_keep ..) ?_
  intro y h
  with_reducible refine Holds.mk1 ?_
  with_reducible refine Keeps.step ?_ (State.arbAtTarget_keep ..)
  exact Keeps.upd (Keeps.refl _) h.1 h.2 (KKeep.refl _) (CKeep.refl _) (QKeep.refl _)

theorem State.rawAccess_keep (s : State) (t : Nat) (r : HopReq) (write : Bool) : OnSome (OnFst (Keeps s)) (State.rawAccess s t r write) := by
  refine Holds.out ?_
  unfold State.rawAccess
  split; with_reducible refine Holds.some ?_; with_reducible refine Holds.mk1 ?_
  with_reducible refine Keeps.same ?_; exact Keeps.refl _; refine Holds.some_mono (State.serveMem_keep ..) ?_
  intro _; intro _; refine Holds.of_fst ?_; refine Keeps.step ?_ ‹_›; with_reducible refine Keeps.same ?_
  exact Keeps.refl _

theorem State.writeBack_keep (s : State) (g l : Nat) (d : BitVec 512) (poison : Bool) : OnSome (OnFst (Keeps s)) (State.writeBack s g l d poison) := by
  refine Holds.out ?_
  unfold State.writeBack
  refine Holds.map (State.rawAccess_keep ..) ?_; intro _; intro _; with_reducible refine Holds.mk1 ?_
  refine Keeps.step ?_ ‹_›; exact Keeps.refl _

theorem State.flushLine_keep (s : State) (l : Nat) : OnSome (Keeps s) (State.flushLine s l) := by
  refine Holds.out ?_
  unfold State.flushLine
  split; with_reducible refine Holds.some ?_; exact Keeps.refl _
  refine Holds.map (State.writeBack_keep ..) ?_; intro _; intro _; with_reducible refine Holds.ite ?_ ?_
  dsimp only; with_reducible refine Keeps.same ?_; refine Keeps.step ?_ ‹_›; exact Keeps.refl _
  refine Keeps.step ?_ ‹_›; exact Keeps.refl _

theorem Geckos.snooped_keep (x : Geckos) (l : Nat) (write : Bool) : KKeep x (x.snooped l write) := by
  refine Holds.out ?_
  unfold Geckos.snooped
  exact KKeep.foldl (fun _ _ => Holds.of ⟨fun h => h⟩) (KKeep.refl _)

theorem State.countAnswer_keep (s : State) (r : HopReq) (a : HopRsp) : Keeps s (State.countAnswer s r a) := by
  refine Holds.out ?_
  unfold State.countAnswer
  dsimp only; with_reducible refine Keeps.same ?_; exact Keeps.refl _

theorem State.countEngine_keep (s : State) (r : HopReq) (a : HopRsp) : Keeps s (State.countEngine s r a) := by
  refine Holds.out ?_
  unfold State.countEngine
  dsimp only; with_reducible refine Keeps.step ?_ (State.countAnswer_keep ..)
  with_reducible refine Keeps.same ?_; exact Keeps.refl _

theorem State.wakeLevels_keep (s : State) (t l t' l' : Nat) : Keeps s (State.wakeLevels s t l t' l') := by
  refine Holds.out ?_
  unfold State.wakeLevels
  with_reducible refine Keeps.foldl (fun _ _ => ?_) ?_; with_reducible refine Holds.ite ?_ ?_
  exact Keeps.refl _; with_reducible refine Keeps.same ?_; exact Keeps.refl _; exact Keeps.refl _

theorem State.wakeWay_keep (s : State) (r : HopReq) : Keeps s (State.wakeWay s r) := by
  refine Holds.out ?_
  unfold State.wakeWay
  split; with_reducible refine Keeps.step ?_ (State.wakeLevels_keep ..); exact Keeps.refl _
  exact Keeps.refl _

theorem State.writeBackReq_keep (s : State) (g l : Nat) (d : BitVec 512) (poison : Bool) : OnSome (OnFst (Keeps s)) (State.writeBackReq s g l d poison) := by
  refine Holds.out ?_
  unfold State.writeBackReq
  dsimp only; refine Holds.map (State.rawAccess_keep ..) ?_; intro _; intro _
  with_reducible refine Holds.mk1 ?_; with_reducible refine Keeps.step ?_ (State.countEngine_keep ..)
  refine Keeps.step ?_ ‹_›; with_reducible refine Keeps.step ?_ (State.wakeWay_keep ..); exact Keeps.refl _

theorem State.fenced_keep (s : State) (t : Nat) (r : HopReq) : OnFst (Keeps s) (State.fenced s t r) := by
  refine Holds.out ?_
  unfold State.fenced
  dsimp only; with_reducible refine Holds.mk1 ?_; with_reducible refine Keeps.same ?_; exact Keeps.refl _

theorem State.coherentServe_keep (s : State) (t : Nat) (r : HopReq) (write : Bool) :
    OnSome (OnFst (Keeps s)) (s.coherentServe t r write) := by
  refine Holds.out ?_
  unfold State.coherentServe
  dsimp only
  split
  · exact Holds.none
  · rename_i e
    refine Holds.some_mono (State.serveMem_keep ..) (fun _ h => Keeps.step ?_ h)
    refine Holds.of (OnSome.at (P := Keeps s) (Holds.out ?_) e)
    with_reducible refine Holds.ite ?_ ?_
    · refine Holds.map (State.flushLine_keep ..) (fun a h => ?_)
      exact Keeps.upd (Keeps.step (Keeps.refl _) h) (PondsKeep.refl _) (GKeep.refl _)
        (KKeep.step (KKeep.refl _) (Geckos.snooped_keep ..)) (CKeep.refl _) (QKeep.refl _)
    · exact Holds.some (Keeps.refl _)

theorem State.coherent_keep (s : State) (t : Nat) (r : HopReq) (write admitted : Bool) : OnSome (OnFst (Keeps s)) (State.coherent s t r write admitted) := by
  refine Holds.out ?_
  unfold State.coherent
  with_reducible refine Holds.ite ?_ ?_; refine Holds.some_mono (State.coherentServe_keep ..) ?_; intro _
  intro _; refine Holds.of_fst ?_; refine Keeps.step ?_ ‹_›; exact Keeps.refl _; split
  with_reducible refine Holds.some ?_; with_reducible refine Holds.mk1 ?_
  have k := Holds.fst_at (P := Keeps _) (State.fenced_keep ..) ‹_›; refine Keeps.step ?_ k
  exact Keeps.refl _; refine Holds.some_mono (State.coherentServe_keep ..) ?_; intro _; intro _
  refine Holds.of_fst ?_; refine Keeps.step ?_ ‹_›
  have k := Holds.fst_at (P := Keeps _) (State.fenced_keep ..) ‹_›; refine Keeps.step ?_ k
  exact Keeps.refl _

theorem State.holdReq_keep (s : State) (r : HopReq) (write : Bool) : Keeps s (State.holdReq s r write) := by
  refine Holds.out ?_
  unfold State.holdReq
  dsimp only; with_reducible refine Keeps.upd ?_ ?_ ?_ ?_ ?_ ?_; exact Keeps.refl _; exact PondsKeep.refl _
  with_reducible refine GKeep.step ?_ (Gdr.hold_keep ..); exact GKeep.refl _; exact KKeep.refl _
  exact CKeep.refl _; exact QKeep.refl _

theorem State.engineDone_keep (s : State) (r : HopReq) (write : Bool) (a : HopRsp) : Keeps s (State.engineDone s r write a) := by
  refine Holds.out ?_
  unfold State.engineDone
  split; with_reducible refine Keeps.step ?_ (State.countAnswer_keep ..); with_reducible refine Keeps.same ?_
  exact Keeps.refl _; with_reducible refine Keeps.step ?_ (State.countEngine_keep ..); exact Keeps.refl _

theorem State.injectAs_keep (s : State) (r : HopReq) (write arrived engine : Bool) : Keeps s (State.injectAs s r write arrived engine) := by
  refine Holds.out ?_
  unfold State.injectAs
  dsimp only; with_reducible refine Keeps.same ?_; exact Keeps.refl _

theorem State.inject_keep (s : State) (r : HopReq) (write arrived : Bool) : Keeps s (State.inject s r write arrived) := by
  refine Holds.out ?_
  unfold State.inject
  with_reducible refine Keeps.step ?_ (State.injectAs_keep ..); exact Keeps.refl _

theorem State.await_keep (s : State) (e : HopReq × Bool) : Keeps s (State.await s e) := by
  refine Holds.out ?_
  unfold State.await
  with_reducible refine Holds.ite ?_ ?_; exact Keeps.refl _
  with_reducible refine Keeps.step ?_ (State.injectAs_keep ..); exact Keeps.refl _

theorem State.access_keep (s : State) (t : Nat) (r : HopReq) (write : Bool) : OnOk (OnFst (Keeps s)) (State.access s t r write) := by
  refine Holds.out ?_
  unfold State.access
  dsimp only; with_reducible refine Holds.ite ?_ ?_; with_reducible refine Holds.ok ?_
  with_reducible refine Holds.mk1 ?_; with_reducible refine Keeps.step ?_ (State.engineDone_keep ..)
  with_reducible refine Keeps.step ?_ (State.wakeWay_keep ..); exact Keeps.refl _; split; exact Holds.error
  with_reducible refine Holds.ok ?_; with_reducible refine Holds.mk1 ?_
  with_reducible refine Keeps.step ?_ (State.engineDone_keep ..)
  have k := OnSome.at (State.coherent_keep ..) ‹_›; refine Keeps.step ?_ k
  with_reducible refine Keeps.step ?_ (State.wakeWay_keep ..); exact Keeps.refl _

end Sys2Proof.Machine
end

