-- ==== Sys2Proof/Laws/KeepQueues.lean ====
section
/-! SUPPORT. What the operations of Queues keep: the waiting commands and the invariant. -/
namespace Sys2Proof.Machine



theorem Queue.put_keep (x : Queue) (a : Nat) (i : QItem) : OKeep x (Queue.put x a i) := by
  refine Holds.out ?_
  unfold Queue.put
  with_reducible refine OKeep.upd ?_; exact OKeep.refl _

theorem Queue.drop_keep (x : Queue) (a : Nat) : OKeep x (Queue.drop x a) := by
  refine Holds.out ?_
  unfold Queue.drop
  with_reducible refine OKeep.upd ?_; exact OKeep.refl _

theorem pushItems_keep (x : Queue) (l : List (BitVec 64)) (p : Bool) (h : x.ordered) (r : x.writeD + l.length ≤ x.len) :
    (pushItems x l p).ordered := by
  induction l generalizing x with
  | nil => exact h
  | cons v l ih =>
    unfold pushItems
    simp only [List.length_cons] at r
    obtain ⟨h1, h2, h3, h4⟩ := h
    refine ih _ ⟨h1, Nat.le_succ_of_le h2, ?_, h4⟩ ?_
    · show x.writeD + 1 ≤ x.len
      omega
    · show x.writeD + 1 + l.length ≤ x.len
      omega

theorem Queue.trim_keep (x : Queue) (k : Nat) : OKeep x (Queue.trim x k) := by
  refine Holds.out ?_
  unfold Queue.trim
  with_reducible refine Holds.ite ?_ ?_; exact OKeep.refl _; with_reducible refine OKeep.upd ?_
  exact OKeep.refl _

theorem Queue.trim_same (x : Queue) (k : Nat) : (x.trim k).writeD = x.writeD ∧ (x.trim k).len = x.len := by
  unfold Queue.trim
  split <;> exact ⟨rfl, rfl⟩

theorem doPush_keep (b : Base) (q : Nat) (x : Queue) (items : List (BitVec 64)) (p : Bool) :
    OKeep x (doPush b q x items p).2.1 := by
  refine Holds.out ?_; refine Holds.fst ?_; refine Holds.snd ?_
  unfold doPush
  dsimp only
  with_reducible refine Holds.ite ?_ ?_
  · exact Holds.of ⟨fun h => h⟩
  · with_reducible refine Holds.ite ?_ ?_
    · exact Holds.of ⟨fun h => h⟩
    · refine if c : x.freeSlots < items.length then ?_ else ?_
      · rw [if_pos c]; exact Holds.of ⟨fun h => h⟩
      · rw [if_neg c]
        refine Holds.of ⟨fun h => pushItems_keep _ _ _ ((Queue.trim_keep _ _).kept h) ?_⟩
        rw [(Queue.trim_same x items.length).1, (Queue.trim_same x items.length).2]
        have := h.2.2.1
        unfold Queue.freeSlots at c
        omega

theorem popItem_keep (b : Base) (q : Nat) (x : Queue) (a : Nat) (i : QItem) (av : x.readD < x.writeD) :
    OKeep x (popItem b q x a i).2 := by
  refine ⟨fun ⟨h1, h2, h3, h4⟩ => ?_⟩
  unfold popItem
  dsimp only
  split
  · exact ⟨Nat.le_succ_of_le h1, av, h3, h4⟩
  · exact ⟨Nat.le_succ_of_le h1, av, h3, h4⟩

theorem underrun_keep (b : Base) (q : Nat) (x : Queue) : OKeep x (underrun b q x).2 := by
  refine Holds.out ?_; refine Holds.snd ?_
  unfold underrun
  with_reducible refine Holds.mk2 ?_; with_reducible refine OKeep.upd ?_; exact OKeep.refl _

theorem doPop_keep (b : Base) (q : Nat) (x : Queue) : OnSome (OnSnd (OKeep x)) (doPop b q x) := by
  refine Holds.out ?_
  unfold doPop
  refine if c : x.avail = 0 then ?_ else ?_
  · rw [if_pos c]; exact Holds.some (Holds.of (underrun_keep ..))
  · rw [if_neg c]
    have av : x.readD < x.writeD := by unfold Queue.avail at c; omega
    dsimp only
    split
    · with_reducible refine Holds.ite ?_ ?_
      · exact Holds.some (Holds.of (underrun_keep ..))
      · exact Holds.some (Holds.of (popItem_keep _ _ _ _ _ av))
    · with_reducible refine Holds.ite ?_ ?_
      · exact Holds.some (Holds.of (underrun_keep ..))
      · exact Holds.none

theorem Queue.doMark_keep (x : Queue) : OKeep x x.doMark := by
  refine ⟨fun h => ?_⟩
  unfold Queue.doMark
  split
  · exact h
  · exact ⟨Nat.le_refl _, h.2⟩

theorem doRewind_keep (b : Base) (q : Nat) (x : Queue) : OKeep x (doRewind b q x).2 := by
  refine ⟨fun h => ?_⟩
  unfold doRewind
  split
  · exact h
  · exact ⟨Nat.le_refl _, Nat.le_trans h.1 h.2.1, h.2.2⟩

theorem dropOldest_keep (x : Queue) (m : Nat) : OKeep x (dropOldest x m) := by
  refine Holds.out ?_
  unfold dropOldest
  with_reducible refine OKeep.foldl (fun _ _ => ?_) ?_
  with_reducible refine OKeep.step ?_ (Queue.drop_keep ..); exact OKeep.refl _; exact OKeep.refl _

theorem doRelease_keep (b : Base) (q : Nat) (x : Queue) (n : Nat) : OKeep x (doRelease b q x n).2 := by
  have drops : ∀ (l : List Nat) (y : Queue), (l.foldl Queue.drop y).len = y.len := by
    intro l
    induction l with
    | nil => exact fun _ => rfl
    | cons a l ih => exact fun y => ih (y.drop a)
  refine ⟨fun ⟨h1, h2, h3, h4⟩ => ?_⟩
  unfold doRelease
  split
  · exact ⟨h1, h2, h3, h4⟩
  · rename_i c
    dsimp only
    have hm : Nat.min n x.readD ≤ x.readD := Nat.min_le_right _ _
    have hp : 0 < x.len := by omega
    refine ⟨?_, ?_, ?_, ?_⟩
    · show x.markD - Nat.min n x.readD ≤ x.readD - Nat.min n x.readD
      omega
    · show x.readD - Nat.min n x.readD ≤ x.writeD - Nat.min n x.readD
      omega
    · show x.writeD - Nat.min n x.readD ≤ (List.foldl Queue.drop x _).len
      rw [drops]; omega
    · refine Or.inl ?_
      show (x.rel + Nat.min n x.readD) % x.len < (List.foldl Queue.drop x _).len
      rw [drops]; exact Nat.mod_lt _ hp

theorem Queue.doClear_keep (x : Queue) : OKeep x (Queue.doClear x) := by
  refine Holds.out ?_
  unfold Queue.doClear
  with_reducible refine OKeep.upd ?_; exact OKeep.refl _

theorem Queue.doFlush_keep (x : Queue) : OKeep x x.doFlush := by
  refine ⟨fun ⟨h1, h2, h3, h4⟩ => ?_⟩
  refine ⟨Nat.le_refl _, Nat.le_refl _, Nat.zero_le _, ?_⟩
  show (if x.len = 0 then 0 else (x.rel + x.writeD) % x.len) < x.len ∨ x.len = 0
  split
  · exact Or.inr ‹_›
  · exact Or.inl (Nat.mod_lt _ (by omega))

theorem qOp_keep (b : Base) (q : Nat) (x : Queue) (op : QOp) : OnSome (fun y => OKeep x y.2.1) (qOp b q x op) := by
  refine Holds.out ?_
  unfold qOp
  split
  · with_reducible refine Holds.ite ?_ ?_
    · exact Holds.none
    · exact Holds.some (Holds.of (doPush_keep ..))
  · exact Holds.map (doPop_keep ..) (fun _ h => h)
  · exact Holds.map (doPop_keep ..) (fun _ h => h)
  · exact Holds.some (OKeep.refl _)
  · exact Holds.some (Holds.of (Queue.doMark_keep ..))
  · exact Holds.some (Holds.of (doRewind_keep ..))
  · exact Holds.some (Holds.of (doRelease_keep ..))
  · exact Holds.some (Holds.of (Queue.doClear_keep ..))
  · exact Holds.some (Holds.of (Queue.doFlush_keep ..))
  · with_reducible refine Holds.ite ?_ ?_
    · exact Holds.none
    · exact Holds.some (Holds.of (doPush_keep ..))

theorem qDrain_keep (l : List QWait) (b : Base) (q : Nat) (x : Queue) : OKeep x (qDrain l b q x).2 := by
  refine Holds.out ?_; refine Holds.snd ?_
  induction l generalizing b x with
  | nil => exact Holds.mk2 (OKeep.upd (OKeep.refl _))
  | cons e l ih =>
    unfold qDrain
    split
    · exact Holds.mk2 (OKeep.upd (OKeep.refl _))
    · have k := OnSome.at (qOp_keep ..) ‹_›
      exact Holds.of_snd (OKeep.step (OKeep.step (OKeep.refl _) k) (Holds.out (ih _ _)))

theorem qRun_keep (b : Base) (q : Nat) (x : Queue) : OKeep x (qRun b q x).2 := by
  refine Holds.out ?_; refine Holds.snd ?_
  unfold qRun
  refine Holds.of_snd ?_; with_reducible refine OKeep.step ?_ (qDrain_keep ..); exact OKeep.refl _

theorem qArrive_keep (b : Base) (m : SMap Queue) (q : Nat) (w : Option Who) (op : QOp) : QKeep m (qArrive b m q w op).2 := by
  refine Holds.out ?_; refine Holds.snd ?_
  unfold qArrive
  dsimp only; with_reducible refine Holds.ite ?_ ?_; with_reducible refine Holds.mk2 ?_
  with_reducible refine QKeep.put_self ?_ ?_; exact QKeep.refl _; with_reducible refine OKeep.upd ?_
  exact OKeep.refl _; with_reducible refine Holds.mk2 ?_; with_reducible refine QKeep.put_self ?_ ?_
  exact QKeep.refl _; with_reducible refine OKeep.step ?_ (qRun_keep ..); with_reducible refine OKeep.upd ?_
  exact OKeep.refl _

theorem qDoorbell_keep (b : Base) (m : SMap Queue) (q : Nat) (w : Who) (op : QOp) : QKeep m (qDoorbell b m q w op).2 := by
  refine Holds.out ?_; refine Holds.snd ?_
  unfold qDoorbell
  dsimp only; with_reducible refine Holds.ite ?_ ?_; with_reducible refine Holds.mk2 ?_; exact QKeep.refl _
  with_reducible refine Holds.ite ?_ ?_; with_reducible refine Holds.mk2 ?_; exact QKeep.refl _
  refine Holds.of_snd ?_; with_reducible refine QKeep.step ?_ (qArrive_keep ..); exact QKeep.refl _

theorem qFault_keep (b : Base) (q : Nat) (x : Queue) (a : Nat) : OKeep x (qFault b q x a).2 := by
  refine Holds.out ?_; refine Holds.snd ?_
  unfold qFault
  with_reducible refine Holds.mk2 ?_; with_reducible refine OKeep.upd ?_; exact OKeep.refl _

theorem blockDone_keep (b : Base) (q : Nat) (x : Queue) (k : Nat) (a : HopRsp) : OKeep x (blockDone b q x k a).2 := by
  refine Holds.out ?_; refine Holds.snd ?_
  unfold blockDone
  dsimp only; with_reducible refine Holds.ite ?_ ?_; with_reducible refine Holds.mk2 ?_
  with_reducible refine OKeep.foldl (fun _ _ => ?_) ?_
  with_reducible refine OKeep.step ?_ (Queue.drop_keep ..); exact OKeep.refl _; exact OKeep.refl _
  with_reducible refine Holds.ite ?_ ?_; with_reducible refine Holds.mk2 ?_; exact OKeep.refl _
  with_reducible refine Holds.ite ?_ ?_; with_reducible refine Holds.mk2 ?_
  with_reducible refine OKeep.upd ?_; with_reducible refine OKeep.foldl (fun _ _ => ?_) ?_
  with_reducible refine OKeep.step ?_ (Queue.drop_keep ..); exact OKeep.refl _; exact OKeep.refl _
  refine Holds.of_snd ?_; with_reducible refine OKeep.step ?_ (qFault_keep ..); exact OKeep.refl _

theorem writeBlock_keep (s : State) (q k : Nat) : OnOk (Keeps s) (writeBlock s q k) := by
  refine Holds.out ?_
  unfold writeBlock
  dsimp only
  refine Holds.map_ok (State.access_keep ..) ?_
  intro y h
  exact Holds.of ⟨h.pending, h.ponds, h.gdr, h.gko, h.cfg, QKeep.put_from h.que (blockDone_keep ..)⟩

theorem qResume_keep (s : State) (q : Nat) : Keeps s (qResume s q) := by
  refine Holds.out ?_
  unfold qResume
  dsimp only; with_reducible refine Keeps.upd ?_ ?_ ?_ ?_ ?_ ?_; exact Keeps.refl _; exact PondsKeep.refl _
  exact GKeep.refl _; exact KKeep.refl _; exact CKeep.refl _; with_reducible refine QKeep.put_self ?_ ?_
  exact QKeep.refl _; with_reducible refine OKeep.step ?_ (qRun_keep ..); exact OKeep.refl _

theorem qBodyWrite_keep (s : State) (q : Nat) : Keeps s (qBodyWrite s q) := by
  refine Holds.out ?_
  unfold qBodyWrite
  dsimp only; with_reducible refine Holds.ite ?_ ?_; exact Keeps.refl _; split; exact Keeps.refl _; split
  with_reducible refine Keeps.step ?_ (State.await_keep ..); exact Keeps.refl _
  with_reducible refine Keeps.step ?_ (qResume_keep ..)
  have k := OnOk.at (writeBlock_keep ..) ‹_›; refine Keeps.step ?_ k; exact Keeps.refl _

theorem execBodyWrite_keep (q : QueueNo) (s : State) : OnNext (Keeps s) (execBodyWrite q s) := by
  refine Holds.out ?_
  unfold execBodyWrite
  with_reducible refine Holds.next ?_; with_reducible refine Keeps.step ?_ (qBodyWrite_keep ..)
  exact Keeps.refl _

theorem fetchItems_keep (x : Queue) (d : BitVec 512) (pl ph : Bool) (l : List Nat) (y : Queue) :
    OKeep y (fetchItems x d pl ph l y) := by
  refine Holds.out ?_
  induction l generalizing y with
  | nil => exact OKeep.refl _
  | cons e l ih =>
    unfold fetchItems
    dsimp only
    with_reducible refine Holds.ite ?_ ?_
    · exact OKeep.step (OKeep.step (OKeep.refl _) (Queue.put_keep ..)) (ih _)
    · exact ih _

theorem qBodyRead_keep (s : State) (q : Nat) : Keeps s (qBodyRead s q) := by
  refine Holds.out ?_
  unfold qBodyRead
  dsimp only
  split
  · exact Keeps.refl _
  · with_reducible refine Holds.ite ?_ ?_
    · exact Keeps.refl _
    · split
      · exact Keeps.step (Keeps.refl _) (State.await_keep ..)
      · with_reducible refine Keeps.step ?_ (qResume_keep ..)
        have h := OnOk.at (State.access_keep ..) ‹_›
        refine Holds.of ⟨h.pending, h.ponds, h.gdr, h.gko, h.cfg, QKeep.put_from h.que ?_⟩
        refine Holds.out (Holds.snd ?_)
        with_reducible refine Holds.ite ?_ ?_
        · exact Holds.mk2 (OKeep.step (OKeep.step (OKeep.refl _) (Queue.trim_keep ..)) (fetchItems_keep ..))
        · exact Holds.of_snd (Holds.of (qFault_keep ..))

theorem execBodyReadDone_keep (q : QueueNo) (s : State) : OnNext (Keeps s) (execBodyReadDone q s) := by
  refine Holds.out ?_
  unfold execBodyReadDone
  with_reducible refine Holds.next ?_; with_reducible refine Keeps.step ?_ (qBodyRead_keep ..)
  exact Keeps.refl _

theorem qServeWait_keep (s : State) (q : Nat) : Keeps s (qServeWait s q) := by
  refine Holds.out ?_
  unfold qServeWait
  split; exact Keeps.refl _; with_reducible refine Holds.ite ?_ ?_
  with_reducible refine Keeps.step ?_ (qBodyRead_keep ..); exact Keeps.refl _
  with_reducible refine Keeps.step ?_ (qBodyWrite_keep ..); exact Keeps.refl _

theorem qCommand_keep (q : QueueNo) (w : Who) (op : QOp) (s : State) : Keeps s (qCommand q w op s) := by
  refine Holds.out ?_
  unfold qCommand
  with_reducible refine Holds.ite ?_ ?_; dsimp only; with_reducible refine Keeps.upd ?_ ?_ ?_ ?_ ?_ ?_
  exact Keeps.refl _; exact PondsKeep.refl _; exact GKeep.refl _; exact KKeep.refl _; exact CKeep.refl _
  with_reducible refine QKeep.step ?_ (qDoorbell_keep ..); exact QKeep.refl _; exact Keeps.refl _

theorem execPush_keep (q : QueueNo) (w : Who) (items : List (BitVec 64)) (poison : Bool) (s : State) : OnNext (Keeps s) (execPush q w items poison s) := by
  refine Holds.out ?_
  unfold execPush
  with_reducible refine Holds.ite ?_ ?_; with_reducible refine Holds.next ?_
  with_reducible refine Keeps.step ?_ (qCommand_keep ..); exact Keeps.refl _
  with_reducible refine Holds.next ?_; with_reducible refine Keeps.same ?_; exact Keeps.refl _

theorem execPop_keep (q : QueueNo) (w : Who) (s : State) : OnNext (Keeps s) (execPop q w s) := by
  refine Holds.out ?_
  unfold execPop
  with_reducible refine Holds.next ?_; with_reducible refine Keeps.step ?_ (qCommand_keep ..)
  exact Keeps.refl _

theorem execPopSt_keep (q : QueueNo) (w : Who) (s : State) : OnNext (Keeps s) (execPopSt q w s) := by
  refine Holds.out ?_
  unfold execPopSt
  with_reducible refine Holds.next ?_; with_reducible refine Keeps.step ?_ (qCommand_keep ..)
  exact Keeps.refl _

theorem execStatus_keep (q : QueueNo) (w : Who) (s : State) : OnNext (Keeps s) (execStatus q w s) := by
  refine Holds.out ?_
  unfold execStatus
  with_reducible refine Holds.next ?_; with_reducible refine Keeps.step ?_ (qCommand_keep ..)
  exact Keeps.refl _

theorem execMark_keep (q : QueueNo) (w : Who) (s : State) : OnNext (Keeps s) (execMark q w s) := by
  refine Holds.out ?_
  unfold execMark
  with_reducible refine Holds.next ?_; with_reducible refine Keeps.step ?_ (qCommand_keep ..)
  exact Keeps.refl _

theorem execRewind_keep (q : QueueNo) (w : Who) (s : State) : OnNext (Keeps s) (execRewind q w s) := by
  refine Holds.out ?_
  unfold execRewind
  with_reducible refine Holds.next ?_; with_reducible refine Keeps.step ?_ (qCommand_keep ..)
  exact Keeps.refl _

theorem execRelease_keep (q : QueueNo) (w : Who) (n : Word) (s : State) : OnNext (Keeps s) (execRelease q w n s) := by
  refine Holds.out ?_
  unfold execRelease
  with_reducible refine Holds.next ?_; with_reducible refine Keeps.step ?_ (qCommand_keep ..)
  exact Keeps.refl _

theorem execClear_keep (q : QueueNo) (w : Who) (s : State) : OnNext (Keeps s) (execClear q w s) := by
  refine Holds.out ?_
  unfold execClear
  with_reducible refine Holds.next ?_; with_reducible refine Keeps.step ?_ (qCommand_keep ..)
  exact Keeps.refl _

theorem onSel_keep (s : State) (t : Nat) (f : Queue → Queue) (hf : ∀ x, OKeep x (f x)) : Keeps s (onSel s t f) :=
  Holds.out (Keeps.upd (Keeps.refl _) (PondsKeep.refl _) (GKeep.refl _) (KKeep.refl _) (CKeep.refl _)
    (QKeep.put_self (QKeep.refl _) (Holds.of (hf _))))

theorem qGo_keep (s : State) (t : Nat) : Keeps s (qGo s t) := by
  refine Holds.out ?_
  unfold qGo
  dsimp only; with_reducible refine Holds.ite ?_ ?_; exact Keeps.refl _
  with_reducible refine Holds.ite ?_ ?_; with_reducible refine Keeps.upd ?_ ?_ ?_ ?_ ?_ ?_
  exact Keeps.refl _; exact PondsKeep.refl _; exact GKeep.refl _; exact KKeep.refl _; exact CKeep.refl _
  with_reducible refine QKeep.put_self ?_ ?_; exact QKeep.refl _; with_reducible refine OKeep.upd ?_
  exact OKeep.refl _; with_reducible refine Keeps.upd ?_ ?_ ?_ ?_ ?_ ?_; exact Keeps.refl _
  exact PondsKeep.refl _; exact GKeep.refl _; exact KKeep.refl _; exact CKeep.refl _
  with_reducible refine QKeep.put_self ?_ ?_; exact QKeep.refl _; with_reducible refine OKeep.upd ?_
  exact OKeep.refl _

theorem qCancel_keep (s : State) (t : Nat) : Keeps s (qCancel s t) := by
  refine Holds.out ?_
  unfold qCancel
  dsimp only; with_reducible refine Keeps.upd ?_ ?_ ?_ ?_ ?_ ?_; exact Keeps.refl _; exact PondsKeep.refl _
  exact GKeep.refl _; exact KKeep.refl _; exact CKeep.refl _; with_reducible refine QKeep.put_self ?_ ?_
  exact QKeep.refl _; with_reducible refine OKeep.upd ?_; exact OKeep.refl _

theorem Queue.rebound_keep (x : Queue) (f : x.fits = true) : OKeep x x.rebound := by
  refine ⟨fun ⟨h1, h2, h3, h4⟩ => ?_⟩
  simp only [Queue.fits, Bool.or_eq_true, beq_iff_eq, Bool.and_eq_true, decide_eq_true_eq] at f
  refine ⟨h1, h2, ?_, ?_⟩
  · show x.writeD ≤ x.shLen
    omega
  · show (if x.writeD = 0 then 0 else (x.base + 8 * x.rel - x.shBase) / 8) < x.shLen ∨ x.shLen = 0
    split <;> omega

theorem execQueueBoundsApply_keep (q : QueueNo) (s : State) : OnNext (Keeps s) (execQueueBoundsApply q s) := by
  refine Holds.out ?_
  unfold execQueueBoundsApply
  dsimp only
  split
  · rename_i c
    simp only [Bool.and_eq_true] at c
    exact Holds.next (Keeps.upd (Keeps.refl _) (PondsKeep.refl _) (GKeep.refl _) (KKeep.refl _) (CKeep.refl _)
      (QKeep.put_self (QKeep.refl _) (Holds.of (Queue.rebound_keep _ c.2))))
  · exact Holds.next (Keeps.refl _)

theorem qFlush_keep (s : State) (t : Nat) : Keeps s (qFlush s t) := by
  refine Holds.out ?_
  unfold qFlush
  dsimp only; with_reducible refine Keeps.upd ?_ ?_ ?_ ?_ ?_ ?_; exact Keeps.refl _; exact PondsKeep.refl _
  exact GKeep.refl _; exact KKeep.refl _; exact CKeep.refl _
  with_reducible refine QKeep.step ?_ (qArrive_keep ..); exact QKeep.refl _

theorem qPflip_keep (s : State) (t : Nat) : Keeps s (qPflip s t) := by
  refine Holds.out ?_
  unfold qPflip
  with_reducible refine Holds.ite ?_ ?_; refine Keeps.step ?_ (onSel_keep _ _ _ (fun _ => Holds.out ?_))
  exact Keeps.refl _; with_reducible refine OKeep.upd ?_; exact OKeep.refl _; exact Keeps.refl _

theorem drainQueue_keep (n : Nat) (s : State) (q : Nat) : OnOk (Keeps s) (drainQueue n s q) := by
  refine Holds.out ?_
  induction n generalizing s with
  | zero => exact Holds.ok (Keeps.refl _)
  | succ n ih =>
    unfold drainQueue
    dsimp only
    refine Holds.ite (Holds.ok (Keeps.refl _)) ?_
    split
    · exact Holds.ok (Keeps.refl _)
    · split
      · exact Holds.error
      · exact Holds.ok_mono (Holds.out (ih _)) (fun _ h => Keeps.step (OnOk.at (writeBlock_keep ..) ‹_›) h)

theorem drainTower_keep (s : State) (t : Nat) : OnOk (Keeps s) (drainTower s t) := by
  have h : ∀ (l : List Nat) (o : Except (HopReq × Bool) State), OnOk (Keeps s) o →
      OnOk (Keeps s) (l.foldl (fun o q => match o with | .ok s => drainQueue 32 s q | .error e => .error e) o) := by
    intro l
    induction l with
    | nil => exact fun _ h => h
    | cons q l ih =>
      refine fun o h => ih _ ?_
      cases o with
      | error e => exact Holds.out Holds.error
      | ok a => exact Holds.out (Holds.ok_mono (drainQueue_keep 32 a q) (fun _ k => Keeps.step (h.all a rfl) k))
  exact h _ _ (Holds.out (Holds.ok (Keeps.refl s)))

theorem execQueueEngineSleep_keep (t : Tower) (s : State) : OnNext (Keeps s) (execQueueEngineSleep t s) := by
  refine Holds.out ?_
  unfold execQueueEngineSleep
  with_reducible refine Holds.ite ?_ ?_; split; with_reducible refine Holds.next ?_
  with_reducible refine Keeps.step ?_ (State.await_keep ..); exact Keeps.refl _
  with_reducible refine Holds.next ?_; with_reducible refine Keeps.same ?_
  have k := OnOk.at (drainTower_keep ..) ‹_›; refine Keeps.step ?_ k; exact Keeps.refl _
  with_reducible refine Holds.next ?_; exact Keeps.refl _

theorem qWake_keep (s : State) (t : Nat) : Keeps s (qWake s t) := by
  refine Holds.out ?_
  unfold qWake
  dsimp only; with_reducible refine Holds.ite ?_ ?_; with_reducible refine Keeps.foldl (fun _ _ => ?_) ?_
  with_reducible refine Keeps.step ?_ (qResume_keep ..); exact Keeps.refl _
  with_reducible refine Keeps.same ?_; exact Keeps.refl _; exact Keeps.refl _

theorem Queue.flr_keep (x : Queue) : OKeep x (Queue.flr x) := by
  refine Holds.out ?_
  unfold Queue.flr
  dsimp only; with_reducible refine Holds.ite ?_ ?_; with_reducible refine OKeep.upd ?_
  with_reducible refine OKeep.step ?_ (Queue.doFlush_keep ..); exact OKeep.refl _
  with_reducible refine OKeep.upd ?_; with_reducible refine OKeep.step ?_ (Queue.doFlush_keep ..)
  exact OKeep.refl _

theorem State.pendCnt_keep (s : State) (t : Nat) : Keeps s (State.pendCnt s t) := by
  refine Holds.out ?_
  unfold State.pendCnt
  with_reducible refine Keeps.same ?_; exact Keeps.refl _

theorem State.flrQueues_keep (s : State) (c : Nat) : Keeps s (State.flrQueues s c) := by
  refine Holds.out ?_
  unfold State.flrQueues
  dsimp only; with_reducible refine Keeps.foldl (fun _ _ => ?_) ?_
  with_reducible refine Keeps.step ?_ (State.pendCnt_keep ..); exact Keeps.refl _
  with_reducible refine Keeps.foldl (fun _ _ => ?_) ?_; with_reducible refine Keeps.step ?_ (qResume_keep ..)
  with_reducible refine Keeps.upd ?_ ?_ ?_ ?_ ?_ ?_; exact Keeps.refl _; exact PondsKeep.refl _
  exact GKeep.refl _; exact KKeep.refl _; exact CKeep.refl _; with_reducible refine QKeep.put_self ?_ ?_
  exact QKeep.refl _; with_reducible refine OKeep.step ?_ (Queue.flr_keep ..); exact OKeep.refl _
  exact Keeps.refl _

end Sys2Proof.Machine
end

