-- ==== Sys2Proof/Laws/KeepFrames.lean ====
section
/-! SUPPORT. What the operations of Frames keep: the waiting commands and the invariant. -/
namespace Sys2Proof.Machine

theorem CfgMem.setFrame_keep (x : CfgMem) (a : Nat) (f : Frame) : CKeep x (x.setFrame a f) :=
  ⟨fun h => SMap.wf_set _ _ _ _ h, fun h => h, fun h => h⟩

theorem CfgMem.setFront_keep (x : CfgMem) (t m f : Nat) (d : BitVec 4096) : CKeep x (x.setFront t m f d) :=
  ⟨fun h => h, fun h => SMap.wf_set _ _ _ _ h, fun h => h⟩

theorem CfgMem.setBack_keep (x : CfgMem) (t m f : Nat) (d : BitVec 4096) : CKeep x (x.setBack t m f d) :=
  ⟨fun h => h, fun h => h, fun h => SMap.wf_set _ _ _ _ h⟩

theorem clearPlane_wf (m : SMap (BitVec 4096)) (t : Nat) (ms : Nat → Bool) (h : SMap.wf (fun _ => (0 : BitVec 4096)) m = true) :
    SMap.wf (fun _ => (0 : BitVec 4096)) (clearPlane m t ms) = true := SMap.wf_keep _ _ _ h

theorem planePut_wf (m p : SMap (BitVec 4096)) (h : SMap.wf (fun _ => (0 : BitVec 4096)) m = true) :
    SMap.wf (fun _ => (0 : BitVec 4096)) (planePut m p) = true := by
  unfold planePut
  induction p generalizing m with
  | nil => exact h
  | cons e p ih => exact ih _ (SMap.wf_set _ _ _ _ h)

theorem fillBack_keep (x : CfgMem) (t bt : Nat) (ms : Nat → Bool) (l : List (Nat × Frame)) : CKeep x (fillBack x t bt ms l) := by
  refine Holds.out ?_
  unfold fillBack
  refine CKeep.foldl (fun u e => ?_) (Holds.of ⟨fun h => h, fun h => h, clearPlane_wf _ _ _⟩)
  split
  · exact CKeep.step (CKeep.refl _) (CfgMem.setBack_keep ..)
  · exact CKeep.refl _

theorem exchange_keep (x : CfgMem) (t : Nat) (ms : Nat → Bool) : CKeep x (exchange x t ms) :=
  ⟨fun h => h, fun h => planePut_wf _ _ (clearPlane_wf _ _ _ h), fun h => planePut_wf _ _ (clearPlane_wf _ _ _ h)⟩

theorem CfgMem.setOut_keep (x : CfgMem) (t m : Nat) (v : Bool) : CKeep x (CfgMem.setOut x t m v) := by
  refine Holds.out ?_
  unfold CfgMem.setOut
  with_reducible refine CKeep.upd ?_; exact CKeep.refl _

end Sys2Proof.Machine
end

