-- ==== Sys2Proof/Laws/KeepFabricRun.lean ====
section
/-! SUPPORT. What the operations of FabricRun keep: the waiting commands and the invariant. -/
namespace Sys2Proof.Machine

theorem State.applyLoads_keep (s : State) (ff rr : Loads) : Keeps s (State.applyLoads s ff rr) := by
  refine Holds.out ?_
  unfold State.applyLoads
  dsimp only; with_reducible refine Keeps.foldl (fun _ _ => ?_) ?_; with_reducible refine Keeps.same ?_
  exact Keeps.refl _; with_reducible refine Keeps.foldl (fun _ _ => ?_) ?_
  with_reducible refine Keeps.same ?_; exact Keeps.refl _; exact Keeps.refl _

theorem State.settleSr_keep (cs : List Nat) (n : Nat) (s : State) : Keeps s (s.settleSr cs n) := by
  refine Holds.out ?_
  induction n generalizing s with
  | zero => exact Keeps.refl _
  | succ n ih =>
    unfold State.settleSr
    split
    · exact Keeps.refl _
    · refine Keeps.step ?_ (Holds.out (ih _))
      exact Keeps.upd (Keeps.refl _) (PondsKeep.refl _) (GKeep.refl _) (KKeep.refl _) (CKeep.refl _) (QKeep.refl _)

theorem State.drawSr_keep (s : State) (cs : List Nat) : Keeps s (State.drawSr s cs) := by
  refine Holds.out ?_
  unfold State.drawSr
  with_reducible refine Keeps.foldl (fun _ _ => ?_) ?_; dsimp only; with_reducible refine Keeps.same ?_
  exact Keeps.refl _; exact Keeps.refl _

theorem State.noteSr_keep (s : State) (cs : List Nat) : Keeps s (State.noteSr s cs) := by
  refine Holds.out ?_
  unfold State.noteSr
  dsimp only; with_reducible refine Keeps.same ?_; exact Keeps.refl _

theorem State.restSr_keep (cs : List Nat) (s : State) : Keeps s (State.restSr cs s) := by
  refine Holds.out ?_
  unfold State.restSr
  with_reducible refine Keeps.step ?_ (State.noteSr_keep ..)
  with_reducible refine Keeps.step ?_ (State.settleSr_keep ..); exact Keeps.refl _

theorem State.settleLl_keep (cs : List Nat) (n : Nat) (s : State) : Keeps s (s.settleLl cs n) := by
  refine Holds.out ?_
  induction n generalizing s with
  | zero => exact Keeps.refl _
  | succ n ih =>
    unfold State.settleLl
    dsimp only
    split
    · exact Keeps.refl _
    · refine Keeps.step (Keeps.step ?_ (State.restSr_keep ..)) (Holds.out (ih _))
      with_reducible refine Keeps.upd ?_ ?_ ?_ ?_ ?_ ?_
      · exact Keeps.step (Keeps.base _ _) (State.applyLoads_keep ..)
      · exact PondsKeep.refl _
      · exact GKeep.refl _
      · exact KKeep.refl _
      · exact CKeep.refl _
      · exact QKeep.refl _

theorem State.drivePin_keep (s : State) (k j : Nat) : Keeps s (State.drivePin s k j) := by
  refine Holds.out ?_
  unfold State.drivePin
  with_reducible refine Holds.ite ?_ ?_; exact Keeps.refl _; dsimp only; with_reducible refine Keeps.same ?_
  exact Keeps.refl _

theorem State.notePin_keep (s : State) (k j : Nat) : Keeps s (State.notePin s k j) := by
  refine Holds.out ?_
  unfold State.notePin
  split; with_reducible refine Keeps.same ?_; exact Keeps.refl _; exact Keeps.refl _

theorem State.settlePins_keep (s : State) : Keeps s (State.settlePins s) := by
  refine Holds.out ?_
  unfold State.settlePins
  with_reducible refine Keeps.foldl (fun _ _ => ?_) ?_; with_reducible refine Keeps.foldl (fun _ _ => ?_) ?_
  with_reducible refine Keeps.step ?_ (State.notePin_keep ..); with_reducible refine Holds.ite ?_ ?_
  with_reducible refine Keeps.step ?_ (State.drivePin_keep ..); exact Keeps.refl _; exact Keeps.refl _
  exact Keeps.refl _; exact Keeps.refl _

theorem State.settle_keep (s : State) : Keeps s (State.settle s) := by
  refine Holds.out ?_
  unfold State.settle
  dsimp only; with_reducible refine Keeps.step ?_ (State.settlePins_keep ..)
  with_reducible refine Keeps.step ?_ (State.settleLl_keep ..)
  with_reducible refine Keeps.step ?_ (State.restSr_keep ..)
  with_reducible refine Keeps.step ?_ (State.drawSr_keep ..); exact Keeps.refl _

theorem State.resettle_keep (s : State) : Keeps s (State.resettle s) := by
  refine Holds.out ?_
  unfold State.resettle
  with_reducible refine Holds.ite ?_ ?_; exact Keeps.refl _
  with_reducible refine Keeps.step ?_ (State.settle_keep ..); exact Keeps.refl _

theorem State.portTick_keep (s : State) (gl : Nat → Nat → Bool) : Keeps s (State.portTick s gl) := by
  refine Holds.out ?_
  unfold State.portTick
  dsimp only; with_reducible refine Keeps.same ?_; exact Keeps.refl _

theorem State.edgeNote_keep (s : State) (rise fall : BitVec 128) (cs : List Nat) (act gl : Nat → Nat → Bool) : Keeps s (State.edgeNote s rise fall cs act gl) := by
  refine Holds.out ?_
  unfold State.edgeNote
  dsimp only; with_reducible refine Keeps.same ?_; exact Keeps.refl _

theorem State.clockEdge_keep (s : State) (rise fall : BitVec 128) (recov : Bool) : Keeps s (State.clockEdge s rise fall recov) := by
  refine Holds.out ?_
  unfold State.clockEdge
  dsimp only; with_reducible refine Keeps.step ?_ (State.settle_keep ..)
  with_reducible refine Keeps.step ?_ (State.portTick_keep ..)
  with_reducible refine Keeps.step ?_ (State.edgeNote_keep ..)
  with_reducible refine Keeps.step ?_ (State.applyLoads_keep ..); exact Keeps.refl _

theorem execFabricClockEdge_keep (rise fall : BitVec 128) (recov : Bool) (s : State) : OnNext (Keeps s) (execFabricClockEdge rise fall recov s) := by
  refine Holds.out ?_
  unfold execFabricClockEdge
  with_reducible refine Holds.ite ?_ ?_; with_reducible refine Holds.next ?_; exact Keeps.refl _
  with_reducible refine Holds.next ?_; with_reducible refine Keeps.step ?_ (State.clockEdge_keep ..)
  with_reducible refine Keeps.step ?_ (State.settle_keep ..); exact Keeps.refl _

theorem execPinInputChange_keep (k : Fin 12) (j : Fin 16) (v : Option Bool) (s : State) : OnNext (Keeps s) (execPinInputChange k j v s) := by
  refine Holds.out ?_
  unfold execPinInputChange
  with_reducible refine Holds.next ?_; with_reducible refine Keeps.step ?_ (State.settle_keep ..)
  with_reducible refine Keeps.same ?_; exact Keeps.refl _

theorem State.loadInit_keep (s : State) (t c : Nat) : Keeps s (State.loadInit s t c) := by
  refine Holds.out ?_
  unfold State.loadInit
  dsimp only; with_reducible refine Keeps.same ?_; exact Keeps.refl _

theorem State.loadShared_keep (s : State) (t c : Nat) (ms : Nat → Bool) : Keeps s (State.loadShared s t c ms) := by
  refine Holds.out ?_
  unfold State.loadShared
  dsimp only; with_reducible refine Keeps.same ?_; exact Keeps.refl _

theorem State.releaseBank_keep (lag : Bool) (s : State) (k : Nat) : Keeps s (State.releaseBank lag s k) := by
  refine Holds.out ?_
  unfold State.releaseBank
  with_reducible refine Keeps.same ?_; exact Keeps.refl _

theorem State.weFall_keep (s : State) (t c : Nat) : Keeps s (State.weFall s t c) := by
  refine Holds.out ?_
  unfold State.weFall
  with_reducible refine Keeps.same ?_; exact Keeps.refl _

theorem State.weRise_keep (s : State) (t c : Nat) : Keeps s (State.weRise s t c) := by
  refine Holds.out ?_
  unfold State.weRise
  with_reducible refine Holds.ite ?_ ?_; exact Keeps.refl _; dsimp only
  with_reducible refine Keeps.foldl (fun _ _ => ?_) ?_
  with_reducible refine Keeps.step ?_ (State.releaseBank_keep ..); exact Keeps.refl _
  with_reducible refine Keeps.same ?_; with_reducible refine Keeps.step ?_ (State.loadShared_keep ..)
  with_reducible refine Keeps.step ?_ (State.loadInit_keep ..); exact Keeps.refl _

theorem State.weFallAll_keep (s : State) (m : Nat) : Keeps s (State.weFallAll s m) := by
  refine Holds.out ?_
  unfold State.weFallAll
  with_reducible refine Keeps.foldl (fun _ _ => ?_) ?_; with_reducible refine Keeps.foldl (fun _ _ => ?_) ?_
  with_reducible refine Keeps.step ?_ (State.weFall_keep ..); exact Keeps.refl _; exact Keeps.refl _
  exact Keeps.refl _

theorem State.release_keep (s : State) (m : Nat) : Keeps s (State.release s m) := by
  refine Holds.out ?_
  unfold State.release
  with_reducible refine Keeps.foldl (fun _ _ => ?_) ?_; with_reducible refine Keeps.foldl (fun _ _ => ?_) ?_
  with_reducible refine Keeps.step ?_ (State.weRise_keep ..); exact Keeps.refl _; exact Keeps.refl _
  exact Keeps.refl _

theorem execBankRelease_keep (t : Tower) (c : Ctx) (s : State) : OnNext (Keeps s) (execBankRelease t c s) := by
  refine Holds.out ?_
  unfold execBankRelease
  with_reducible refine Holds.ite ?_ ?_; with_reducible refine Holds.next ?_
  with_reducible refine Keeps.step ?_ (State.settle_keep ..)
  with_reducible refine Keeps.foldl (fun _ _ => ?_) ?_; with_reducible refine Holds.ite ?_ ?_
  with_reducible refine Keeps.same ?_; exact Keeps.refl _; exact Keeps.refl _; exact Keeps.refl _
  with_reducible refine Holds.next ?_; exact Keeps.refl _

theorem State.keepLines_keep (s : State) (t : Nat) (ms : Nat → Bool) (cs : List Nat) : Keeps s (State.keepLines s t ms cs) := by
  refine Holds.out ?_
  unfold State.keepLines
  with_reducible refine Keeps.foldl (fun _ _ => ?_) ?_; dsimp only; with_reducible refine Keeps.same ?_
  exact Keeps.refl _; exact Keeps.refl _

theorem State.clearKeepers_keep (s : State) (t : Nat) (ms : Nat → Bool) : Keeps s (State.clearKeepers s t ms) := by
  refine Holds.out ?_
  unfold State.clearKeepers
  with_reducible refine Keeps.same ?_; exact Keeps.refl _

theorem State.holdClocks_keep (s old : State) (t : Nat) (ms : Nat → Bool) (cs : List Nat) : Keeps s (State.holdClocks s old t ms cs) := by
  refine Holds.out ?_
  unfold State.holdClocks
  with_reducible refine Keeps.same ?_; exact Keeps.refl _

theorem State.markFresh_keep (s : State) (t : Nat) (ms : List Nat) (cs : List Nat) : Keeps s (State.markFresh s t ms cs) := by
  refine Holds.out ?_
  unfold State.markFresh
  with_reducible refine Keeps.same ?_; exact Keeps.refl _

theorem State.beforeSwap_keep (s : State) (t : Nat) (ms : Nat → Bool) : Keeps s (State.beforeSwap s t ms) := by
  refine Holds.out ?_
  unfold State.beforeSwap
  with_reducible refine Keeps.step ?_ (State.keepLines_keep ..)
  with_reducible refine Keeps.foldl (fun _ _ => ?_) ?_; with_reducible refine Holds.ite ?_ ?_
  exact Keeps.refl _; with_reducible refine Keeps.step ?_ (State.loadShared_keep ..); exact Keeps.refl _
  exact Keeps.refl _

theorem State.afterExchange_keep (s old : State) (t : Nat) (ms : Nat → Bool) : Keeps s (State.afterExchange s old t ms) := by
  refine Holds.out ?_
  unfold State.afterExchange
  with_reducible refine Keeps.step ?_ (State.holdClocks_keep ..)
  with_reducible refine Keeps.step ?_ (State.clearKeepers_keep ..); exact Keeps.refl _

end Sys2Proof.Machine
end

