-- ==== Sys2Proof/Laws/KeepChameleon.lean ====
section
/-! SUPPORT. What the operations of Chameleon keep: the waiting commands and the invariant. -/
namespace Sys2Proof.Machine

theorem State.setCh_keep (s : State) (t : Nat) (f : Cham → Cham) : Keeps s (State.setCh s t f) := by
  refine Holds.out ?_
  unfold State.setCh
  with_reducible refine Keeps.same ?_; exact Keeps.refl _

theorem State.setCm_keep (s : State) (t : Nat) (f : Fld) (v : Nat) : Keeps s (State.setCm s t f v) := by
  refine Holds.out ?_
  unfold State.setCm
  with_reducible refine Keeps.same ?_; exact Keeps.refl _

theorem State.chmEvent_keep (s : State) (t i : Nat) : Keeps s (State.chmEvent s t i) := by
  refine Holds.out ?_
  unfold State.chmEvent
  with_reducible refine Keeps.same ?_; exact Keeps.refl _

theorem State.showPhase_keep (s : State) (t ph c : Nat) : Keeps s (State.showPhase s t ph c) := by
  refine Holds.out ?_
  unfold State.showPhase
  with_reducible refine Holds.ite ?_ ?_; exact Keeps.refl _
  with_reducible refine Keeps.step ?_ (State.setCm_keep ..)
  with_reducible refine Keeps.step ?_ (State.setCm_keep ..); exact Keeps.refl _

theorem State.dropStage_keep (s : State) (t : Nat) : Keeps s (State.dropStage s t) := by
  refine Holds.out ?_
  unfold State.dropStage
  with_reducible refine Keeps.step ?_ (State.setCh_keep ..); with_reducible refine Holds.ite ?_ ?_
  exact Keeps.refl _; with_reducible refine Keeps.step ?_ (State.setCm_keep ..); exact Keeps.refl _

theorem State.abandonStage_keep (s : State) (t : Nat) : Keeps s (State.abandonStage s t) := by
  refine Holds.out ?_
  unfold State.abandonStage
  with_reducible refine Keeps.step ?_ (State.setCh_keep ..)
  with_reducible refine Keeps.step ?_ (State.dropStage_keep ..); exact Keeps.refl _

theorem State.startStage_keep (s : State) (t : Nat) : Keeps s (State.startStage s t) := by
  refine Holds.out ?_
  unfold State.startStage
  dsimp only; split; exact Keeps.refl _; with_reducible refine Holds.ite ?_ ?_; exact Keeps.refl _
  with_reducible refine Keeps.step ?_ (State.setCh_keep ..)
  with_reducible refine Keeps.step ?_ (State.showPhase_keep ..); exact Keeps.refl _

theorem State.stageOne_keep (s : State) (t c : Nat) : Keeps s (State.stageOne s t c) := by
  refine Holds.out ?_
  unfold State.stageOne
  with_reducible refine Holds.ite ?_ ?_; with_reducible refine Keeps.step ?_ (State.startStage_keep ..)
  exact Keeps.refl _; with_reducible refine Keeps.step ?_ (State.startStage_keep ..)
  with_reducible refine Keeps.step ?_ (State.setCh_keep ..)
  with_reducible refine Keeps.step ?_ (State.abandonStage_keep ..); exact Keeps.refl _

theorem State.stage_keep (s : State) (l c : Nat) : Keeps s (State.stage s l c) := by
  refine Holds.out ?_
  unfold State.stage
  with_reducible refine Keeps.foldl (fun _ _ => ?_) ?_
  with_reducible refine Keeps.step ?_ (State.stageOne_keep ..); exact Keeps.refl _; exact Keeps.refl _

theorem State.abandonGang_keep (s : State) (l : Nat) : Keeps s (State.abandonGang s l) := by
  refine Holds.out ?_
  unfold State.abandonGang
  with_reducible refine Keeps.foldl (fun _ _ => ?_) ?_
  with_reducible refine Keeps.step ?_ (State.abandonStage_keep ..); exact Keeps.refl _; exact Keeps.refl _

theorem State.evStatus_keep (s : State) (t new prev result : Nat) : Keeps s (State.evStatus s t new prev result) := by
  refine Holds.out ?_
  unfold State.evStatus
  dsimp only; with_reducible refine Holds.ite ?_ ?_
  with_reducible refine Keeps.step ?_ (State.chmEvent_keep ..)
  with_reducible refine Keeps.step ?_ (State.setCh_keep ..)
  with_reducible refine Keeps.step ?_ (State.setCm_keep ..); exact Keeps.refl _
  with_reducible refine Keeps.upd ?_ ?_ ?_ ?_ ?_ ?_
  with_reducible refine Keeps.step ?_ (State.setCh_keep ..)
  with_reducible refine Keeps.step ?_ (State.setCm_keep ..); exact Keeps.refl _; exact PondsKeep.refl _
  exact GKeep.refl _; exact KKeep.refl _; exact CKeep.refl _
  with_reducible refine QKeep.step ?_ (qArrive_keep ..); exact QKeep.refl _

theorem State.evRefuse_keep (s : State) (t : Nat) : Keeps s (State.evRefuse s t) := by
  refine Holds.out ?_
  unfold State.evRefuse
  with_reducible refine Holds.ite ?_ ?_; with_reducible refine Keeps.step ?_ (State.evStatus_keep ..)
  with_reducible refine Keeps.step ?_ (State.chmEvent_keep ..); exact Keeps.refl _; exact Keeps.refl _

theorem State.stageNext_keep (s : State) (t : Nat) : Keeps s (State.stageNext s t) := by
  refine Holds.out ?_
  unfold State.stageNext
  split; with_reducible refine Holds.ite ?_ ?_; exact Keeps.refl _
  with_reducible refine Keeps.step ?_ (State.stage_keep ..); exact Keeps.refl _; exact Keeps.refl _

theorem State.beginEntry_keep (s : State) (t : Nat) : Keeps s (State.beginEntry s t) := by
  refine Holds.out ?_
  unfold State.beginEntry
  with_reducible refine Keeps.step ?_ (State.stageNext_keep ..)
  with_reducible refine Keeps.step ?_ (State.setCh_keep ..); exact Keeps.refl _

theorem State.reachEntry_keep (s : State) (t h e : Nat) : Keeps s (State.reachEntry s t h e) := by
  refine Holds.out ?_
  unfold State.reachEntry
  dsimp only; with_reducible refine Holds.ite ?_ ?_
  with_reducible refine Keeps.step ?_ (State.beginEntry_keep ..); with_reducible refine Holds.ite ?_ ?_
  with_reducible refine Keeps.step ?_ (State.chmEvent_keep ..)
  with_reducible refine Keeps.step ?_ (State.setCm_keep ..)
  with_reducible refine Keeps.step ?_ (State.setCm_keep ..); with_reducible refine Keeps.same ?_
  exact Keeps.refl _; with_reducible refine Keeps.step ?_ (State.setCm_keep ..)
  with_reducible refine Keeps.step ?_ (State.setCm_keep ..); with_reducible refine Keeps.same ?_
  exact Keeps.refl _; with_reducible refine Keeps.step ?_ (State.stage_keep ..)
  with_reducible refine Keeps.step ?_ (State.setCh_keep ..); with_reducible refine Holds.ite ?_ ?_
  with_reducible refine Keeps.step ?_ (State.chmEvent_keep ..)
  with_reducible refine Keeps.step ?_ (State.setCm_keep ..)
  with_reducible refine Keeps.step ?_ (State.setCm_keep ..); with_reducible refine Keeps.same ?_
  exact Keeps.refl _; with_reducible refine Keeps.step ?_ (State.setCm_keep ..)
  with_reducible refine Keeps.step ?_ (State.setCm_keep ..); with_reducible refine Keeps.same ?_
  exact Keeps.refl _

theorem State.swapHalves_keep (s : State) (t : Nat) : Keeps s (State.swapHalves s t) := by
  refine Holds.out ?_
  unfold State.swapHalves
  dsimp only; with_reducible refine Keeps.same ?_; exact Keeps.refl _

theorem State.walkFrom_keep (s : State) (t h i : Nat) : OnFst (Keeps s) (State.walkFrom s t h i) := by
  refine Holds.out ?_
  unfold State.walkFrom
  dsimp only; split; with_reducible refine Holds.mk1 ?_
  with_reducible refine Keeps.step ?_ (State.reachEntry_keep ..); with_reducible refine Holds.ite ?_ ?_
  with_reducible refine Keeps.step ?_ (State.chmEvent_keep ..); exact Keeps.refl _; exact Keeps.refl _
  with_reducible refine Holds.mk1 ?_; with_reducible refine Holds.ite ?_ ?_
  with_reducible refine Keeps.step ?_ (State.chmEvent_keep ..); exact Keeps.refl _; exact Keeps.refl _

theorem State.walkTo_keep (s : State) (t h i : Nat) : Keeps s (State.walkTo s t h i) := by
  refine Holds.out ?_
  unfold State.walkTo
  with_reducible refine Keeps.step ?_ (State.walkFrom_keep ..); exact Keeps.refl _

theorem State.passBegin_keep (s : State) (t : Nat) : Keeps s (State.passBegin s t) := by
  refine Holds.out ?_
  unfold State.passBegin
  dsimp only; with_reducible refine Keeps.step ?_ (State.walkTo_keep ..)
  with_reducible refine Keeps.step ?_ (State.setCm_keep ..)
  with_reducible refine Keeps.step ?_ (State.setCm_keep ..)
  with_reducible refine Keeps.step ?_ (State.setCh_keep ..); exact Keeps.refl _

theorem State.passEnd_keep (s : State) (t : Nat) : Keeps s (State.passEnd s t) := by
  refine Holds.out ?_
  unfold State.passEnd
  dsimp only; with_reducible refine Keeps.step ?_ (State.passBegin_keep ..)
  with_reducible refine Holds.ite ?_ ?_; with_reducible refine Keeps.step ?_ (State.swapHalves_keep ..)
  with_reducible refine Keeps.same ?_; exact Keeps.refl _; with_reducible refine Keeps.same ?_
  exact Keeps.refl _

theorem State.walkOn_keep (s : State) (t : Nat) : Keeps s (State.walkOn s t) := by
  refine Holds.out ?_
  unfold State.walkOn
  dsimp only; with_reducible refine Holds.ite ?_ ?_
  with_reducible refine Keeps.step ?_ (State.walkFrom_keep ..)
  with_reducible refine Keeps.step ?_ (State.setCh_keep ..); exact Keeps.refl _
  with_reducible refine Holds.ite ?_ ?_; with_reducible refine Keeps.step ?_ (State.passEnd_keep ..)
  with_reducible refine Keeps.step ?_ (State.walkFrom_keep ..)
  with_reducible refine Keeps.step ?_ (State.setCh_keep ..); exact Keeps.refl _
  with_reducible refine Keeps.step ?_ (State.walkFrom_keep ..)
  with_reducible refine Keeps.step ?_ (State.setCh_keep ..); exact Keeps.refl _

theorem State.refuseWant_keep (s : State) (t : Nat) : Keeps s (State.refuseWant s t) := by
  refine Holds.out ?_
  unfold State.refuseWant
  split; with_reducible refine Keeps.step ?_ (State.chmEvent_keep ..)
  with_reducible refine Keeps.step ?_ (State.setCm_keep ..)
  with_reducible refine Keeps.step ?_ (State.setCh_keep ..); exact Keeps.refl _
  with_reducible refine Keeps.step ?_ (State.evRefuse_keep ..)
  with_reducible refine Keeps.step ?_ (State.setCh_keep ..); exact Keeps.refl _
  with_reducible refine Keeps.step ?_ (State.walkOn_keep ..)
  with_reducible refine Keeps.step ?_ (State.chmEvent_keep ..)
  with_reducible refine Keeps.step ?_ (State.abandonGang_keep ..)
  with_reducible refine Keeps.step ?_ (State.setCh_keep ..); exact Keeps.refl _; exact Keeps.refl _

theorem State.refuseSaved_keep (s : State) (t : Nat) : Keeps s (State.refuseSaved s t) := by
  refine Holds.out ?_
  unfold State.refuseSaved
  split; with_reducible refine Keeps.step ?_ (State.chmEvent_keep ..)
  with_reducible refine Keeps.step ?_ (State.setCm_keep ..)
  with_reducible refine Keeps.step ?_ (State.setCh_keep ..); exact Keeps.refl _
  with_reducible refine Keeps.step ?_ (State.evRefuse_keep ..)
  with_reducible refine Keeps.step ?_ (State.setCh_keep ..); exact Keeps.refl _
  with_reducible refine Keeps.step ?_ (State.chmEvent_keep ..)
  with_reducible refine Keeps.step ?_ (State.setCh_keep ..); exact Keeps.refl _; exact Keeps.refl _

theorem State.refuseCtx_keep (s : State) (t c : Nat) : Keeps s (State.refuseCtx s t c) := by
  refine Holds.out ?_
  unfold State.refuseCtx
  dsimp only; with_reducible refine Holds.ite ?_ ?_
  with_reducible refine Keeps.step ?_ (State.refuseSaved_keep ..); with_reducible refine Holds.ite ?_ ?_
  with_reducible refine Keeps.step ?_ (State.refuseWant_keep ..); exact Keeps.refl _; exact Keeps.refl _
  with_reducible refine Holds.ite ?_ ?_; with_reducible refine Keeps.step ?_ (State.refuseWant_keep ..)
  exact Keeps.refl _; exact Keeps.refl _

theorem State.dropCtx_keep (s : State) (l c : Nat) : Keeps s (State.dropCtx s l c) := by
  refine Holds.out ?_
  unfold State.dropCtx
  with_reducible refine Keeps.foldl (fun _ _ => ?_) ?_; with_reducible refine Holds.ite ?_ ?_
  with_reducible refine Keeps.step ?_ (State.dropStage_keep ..); exact Keeps.refl _; exact Keeps.refl _
  exact Keeps.refl _

theorem State.quarantine_keep (s : State) (t c : Nat) : Keeps s (State.quarantine s t c) := by
  refine Holds.out ?_
  unfold State.quarantine
  dsimp only; with_reducible refine Holds.ite ?_ ?_; exact Keeps.refl _
  with_reducible refine Keeps.step ?_ (State.refuseCtx_keep ..)
  with_reducible refine Keeps.step ?_ (State.dropCtx_keep ..)
  with_reducible refine Keeps.step ?_ (State.chmEvent_keep ..)
  with_reducible refine Keeps.step ?_ (State.setCm_keep ..); exact Keeps.refl _

theorem State.commitBegin_keep (s : State) (t c : Nat) : Keeps s (State.commitBegin s t c) := by
  refine Holds.out ?_
  unfold State.commitBegin
  dsimp only; split; with_reducible refine Holds.ite ?_ ?_
  with_reducible refine Keeps.step ?_ (State.refuseWant_keep ..)
  with_reducible refine Keeps.step ?_ (State.dropCtx_keep ..)
  with_reducible refine Keeps.step ?_ (State.setCm_keep ..); with_reducible refine Keeps.same ?_
  exact Keeps.refl _; with_reducible refine Keeps.step ?_ (State.dropCtx_keep ..)
  with_reducible refine Keeps.step ?_ (State.setCm_keep ..); with_reducible refine Keeps.same ?_
  exact Keeps.refl _; with_reducible refine Holds.ite ?_ ?_
  with_reducible refine Keeps.step ?_ (State.refuseSaved_keep ..)
  with_reducible refine Keeps.step ?_ (State.dropCtx_keep ..)
  with_reducible refine Keeps.step ?_ (State.setCm_keep ..); with_reducible refine Keeps.same ?_
  exact Keeps.refl _; with_reducible refine Keeps.step ?_ (State.dropCtx_keep ..)
  with_reducible refine Keeps.step ?_ (State.setCm_keep ..); with_reducible refine Keeps.same ?_
  exact Keeps.refl _; with_reducible refine Keeps.step ?_ (State.dropCtx_keep ..)
  with_reducible refine Keeps.step ?_ (State.setCm_keep ..); with_reducible refine Keeps.same ?_
  exact Keeps.refl _

theorem State.endLate_keep (s : State) (l : Nat) : Keeps s (State.endLate s l) := by
  refine Holds.out ?_
  unfold State.endLate
  with_reducible refine Holds.ite ?_ ?_; with_reducible refine Keeps.step ?_ (State.walkOn_keep ..)
  with_reducible refine Keeps.step ?_ (State.setCh_keep ..); exact Keeps.refl _; exact Keeps.refl _

theorem State.commitEnd_keep (s : State) (t c : Nat) : Keeps s (State.commitEnd s t c) := by
  refine Holds.out ?_
  unfold State.commitEnd
  dsimp only; with_reducible refine Keeps.foldl (fun _ _ => ?_) ?_
  with_reducible refine Keeps.step ?_ (State.startStage_keep ..); exact Keeps.refl _
  with_reducible refine Keeps.step ?_ (State.endLate_keep ..)
  with_reducible refine Keeps.step ?_ (State.setCm_keep ..); exact Keeps.refl _

theorem State.unquarantine_keep (s : State) (t c : Nat) : Keeps s (State.unquarantine s t c) := by
  refine Holds.out ?_
  unfold State.unquarantine
  with_reducible refine Keeps.step ?_ (State.setCm_keep ..); exact Keeps.refl _

theorem State.doSwapCmd_keep (s : State) (t : Nat) : Keeps s (State.doSwapCmd s t) := by
  refine Holds.out ?_
  unfold State.doSwapCmd
  split; exact Keeps.refl _; with_reducible refine Holds.ite ?_ ?_; exact Keeps.refl _
  with_reducible refine Keeps.step ?_ (State.stage_keep ..)
  with_reducible refine Keeps.step ?_ (State.setCm_keep ..)
  with_reducible refine Keeps.step ?_ (State.setCh_keep ..); exact Keeps.refl _

theorem State.doStageCmd_keep (s : State) (t c : Nat) : Keeps s (State.doStageCmd s t c) := by
  refine Holds.out ?_
  unfold State.doStageCmd
  dsimp only; with_reducible refine Holds.ite ?_ ?_
  with_reducible refine Keeps.step ?_ (State.setCh_keep ..); exact Keeps.refl _
  with_reducible refine Keeps.step ?_ (State.stage_keep ..); split
  with_reducible refine Keeps.step ?_ (State.setCh_keep ..)
  with_reducible refine Keeps.step ?_ (State.setCh_keep ..); exact Keeps.refl _
  with_reducible refine Keeps.step ?_ (State.setCh_keep ..); exact Keeps.refl _

theorem State.chmCmd_keep (s : State) (t : Nat) (stage swap : Bool) (c : Nat) : Keeps s (State.chmCmd s t stage swap c) := by
  refine Holds.out ?_
  unfold State.chmCmd
  dsimp only; with_reducible refine Holds.ite ?_ ?_; exact Keeps.refl _
  with_reducible refine Holds.ite ?_ ?_; with_reducible refine Keeps.step ?_ (State.chmEvent_keep ..)
  exact Keeps.refl _; with_reducible refine Holds.ite ?_ ?_
  with_reducible refine Keeps.step ?_ (State.doSwapCmd_keep ..); with_reducible refine Holds.ite ?_ ?_
  with_reducible refine Keeps.step ?_ (State.doStageCmd_keep ..); exact Keeps.refl _; exact Keeps.refl _
  with_reducible refine Holds.ite ?_ ?_; with_reducible refine Keeps.step ?_ (State.doStageCmd_keep ..)
  exact Keeps.refl _; exact Keeps.refl _

theorem State.thaw_keep (s : State) (t : Nat) : Keeps s (State.thaw s t) := by
  refine Holds.out ?_
  unfold State.thaw
  with_reducible refine Holds.ite ?_ ?_; with_reducible refine Keeps.step ?_ (State.chmEvent_keep ..)
  exact Keeps.refl _; with_reducible refine Holds.ite ?_ ?_
  with_reducible refine Keeps.foldl (fun _ _ => ?_) ?_
  with_reducible refine Keeps.step ?_ (State.startStage_keep ..); exact Keeps.refl _
  with_reducible refine Keeps.step ?_ (State.setCm_keep ..); exact Keeps.refl _; exact Keeps.refl _

theorem State.freeze_keep (s : State) (t : Nat) : Keeps s (State.freeze s t) := by
  refine Holds.out ?_
  unfold State.freeze
  with_reducible refine Holds.ite ?_ ?_; exact Keeps.refl _; dsimp only
  with_reducible refine Holds.ite ?_ ?_; with_reducible refine Keeps.step ?_ (State.evStatus_keep ..)
  with_reducible refine Keeps.step ?_ (State.setCh_keep ..); with_reducible refine Keeps.same ?_
  with_reducible refine Keeps.step ?_ (State.chmEvent_keep ..)
  with_reducible refine Keeps.step ?_ (State.setCm_keep ..)
  with_reducible refine Keeps.foldl (fun _ _ => ?_) ?_
  with_reducible refine Keeps.step ?_ (State.dropStage_keep ..); exact Keeps.refl _
  with_reducible refine Keeps.same ?_; exact Keeps.refl _; with_reducible refine Keeps.same ?_
  with_reducible refine Keeps.step ?_ (State.chmEvent_keep ..)
  with_reducible refine Keeps.step ?_ (State.setCm_keep ..)
  with_reducible refine Keeps.foldl (fun _ _ => ?_) ?_
  with_reducible refine Keeps.step ?_ (State.dropStage_keep ..); exact Keeps.refl _
  with_reducible refine Keeps.same ?_; exact Keeps.refl _

theorem State.stageDone_keep (s : State) (t : Nat) : Keeps s (State.stageDone s t) := by
  refine Holds.out ?_
  unfold State.stageDone
  dsimp only; split; with_reducible refine Keeps.step ?_ (State.quarantine_keep ..)
  with_reducible refine Keeps.step ?_ (State.abandonStage_keep ..); with_reducible refine Keeps.same ?_
  exact Keeps.refl _; with_reducible refine Keeps.step ?_ (State.showPhase_keep ..)
  with_reducible refine Keeps.upd ?_ ?_ ?_ ?_ ?_ ?_; exact Keeps.refl _; exact PondsKeep.refl _
  exact GKeep.refl _; exact KKeep.refl _; with_reducible refine CKeep.step ?_ (fillBack_keep ..)
  exact CKeep.refl _; exact QKeep.refl _

theorem execStagingComplete_keep (t : Tower) (s : State) : OnNext (Keeps s) (execStagingComplete t s) := by
  refine Holds.out ?_
  unfold execStagingComplete
  with_reducible refine Holds.ite ?_ ?_; with_reducible refine Holds.next ?_
  with_reducible refine Keeps.step ?_ (State.stageDone_keep ..); exact Keeps.refl _
  with_reducible refine Holds.next ?_; exact Keeps.refl _

theorem State.releaseLive_keep (s : State) (t : Nat) : Keeps s (State.releaseLive s t) := by
  refine Holds.out ?_
  unfold State.releaseLive
  with_reducible refine Keeps.foldl (fun _ _ => ?_) ?_; with_reducible refine Holds.ite ?_ ?_
  with_reducible refine Keeps.same ?_; exact Keeps.refl _; exact Keeps.refl _; exact Keeps.refl _

theorem State.exchangeTower_keep (s : State) (t : Nat) (ms : List Nat) : Keeps s (State.exchangeTower s t ms) := by
  refine Holds.out ?_
  unfold State.exchangeTower
  dsimp only; with_reducible refine Keeps.upd ?_ ?_ ?_ ?_ ?_ ?_; exact Keeps.refl _; exact PondsKeep.refl _
  exact GKeep.refl _; exact KKeep.refl _; with_reducible refine CKeep.foldl (fun _ _ => ?_) ?_
  with_reducible refine CKeep.step ?_ (CfgMem.setOut_keep ..); exact CKeep.refl _
  with_reducible refine CKeep.step ?_ (exchange_keep ..); exact CKeep.refl _; exact QKeep.refl _

theorem State.swapTower_keep (s : State) (t c : Nat) : Keeps s (State.swapTower s t c) := by
  refine Holds.out ?_
  unfold State.swapTower
  dsimp only; with_reducible refine Keeps.step ?_ (State.markFresh_keep ..)
  with_reducible refine Keeps.step ?_ (State.afterExchange_keep ..)
  with_reducible refine Keeps.step ?_ (State.releaseLive_keep ..)
  with_reducible refine Keeps.step ?_ (State.chmEvent_keep ..)
  with_reducible refine Keeps.step ?_ (State.setCh_keep ..)
  with_reducible refine Keeps.step ?_ (State.abandonStage_keep ..)
  with_reducible refine Keeps.step ?_ (State.setCm_keep ..)
  with_reducible refine Keeps.step ?_ (State.setCm_keep ..)
  with_reducible refine Keeps.step ?_ (State.setCm_keep ..); with_reducible refine Keeps.same ?_
  with_reducible refine Keeps.step ?_ (State.setCm_keep ..)
  with_reducible refine Keeps.step ?_ (State.setCm_keep ..)
  with_reducible refine Keeps.step ?_ (State.exchangeTower_keep ..)
  with_reducible refine Keeps.step ?_ (State.beforeSwap_keep ..); exact Keeps.refl _

theorem State.memberSwap_keep (s : State) (l t c : Nat) : Keeps s (State.memberSwap s l t c) := by
  refine Holds.out ?_
  unfold State.memberSwap
  with_reducible refine Holds.ite ?_ ?_; with_reducible refine Keeps.step ?_ (State.swapTower_keep ..)
  exact Keeps.refl _; with_reducible refine Keeps.step ?_ (State.chmEvent_keep ..)
  with_reducible refine Holds.ite ?_ ?_; exact Keeps.refl _
  with_reducible refine Keeps.step ?_ (State.abandonStage_keep ..); exact Keeps.refl _

theorem State.restoreSaved_keep (s : State) (t : Nat) : Keeps s (State.restoreSaved s t) := by
  refine Holds.out ?_
  unfold State.restoreSaved
  split; exact Keeps.refl _; dsimp only; with_reducible refine Holds.ite ?_ ?_
  with_reducible refine Keeps.step ?_ (State.walkOn_keep ..)
  with_reducible refine Keeps.step ?_ (State.setCh_keep ..); exact Keeps.refl _
  with_reducible refine Holds.ite ?_ ?_; split
  with_reducible refine Keeps.step ?_ (State.beginEntry_keep ..)
  with_reducible refine Keeps.step ?_ (State.setCh_keep ..); exact Keeps.refl _
  with_reducible refine Keeps.step ?_ (State.evStatus_keep ..)
  with_reducible refine Keeps.step ?_ (State.setCh_keep ..); exact Keeps.refl _
  with_reducible refine Keeps.step ?_ (State.setCh_keep ..); exact Keeps.refl _
  with_reducible refine Keeps.step ?_ (State.stage_keep ..)
  with_reducible refine Keeps.step ?_ (State.setCh_keep ..); with_reducible refine Holds.ite ?_ ?_
  with_reducible refine Keeps.step ?_ (State.setCm_keep ..)
  with_reducible refine Keeps.step ?_ (State.setCh_keep ..); exact Keeps.refl _
  with_reducible refine Keeps.step ?_ (State.setCh_keep ..); exact Keeps.refl _

theorem State.afterSwap_keep (s : State) (l c prev : Nat) (why : SwapWhy) : Keeps s (State.afterSwap s l c prev why) := by
  refine Holds.out ?_
  unfold State.afterSwap
  split; exact Keeps.refl _; with_reducible refine Keeps.step ?_ (State.beginEntry_keep ..)
  exact Keeps.refl _; with_reducible refine Keeps.step ?_ (State.evStatus_keep ..); exact Keeps.refl _
  with_reducible refine Keeps.step ?_ (State.restoreSaved_keep ..); exact Keeps.refl _; exact Keeps.refl _

theorem execSwap_keep (l : Tower) (s : State) : OnNext (Keeps s) (execSwap l s) := by
  refine Holds.out ?_
  unfold execSwap
  split; with_reducible refine Holds.next ?_; exact Keeps.refl _; with_reducible refine Holds.ite ?_ ?_
  dsimp only; with_reducible refine Holds.next ?_
  with_reducible refine Keeps.step ?_ (State.afterSwap_keep ..)
  with_reducible refine Keeps.step ?_ (State.settle_keep ..)
  with_reducible refine Keeps.foldl (fun _ _ => ?_) ?_
  with_reducible refine Keeps.step ?_ (State.memberSwap_keep ..); exact Keeps.refl _; exact Keeps.refl _
  with_reducible refine Holds.next ?_; exact Keeps.refl _

theorem State.shellSwap_keep (s : State) (t : Nat) : Keeps s (State.shellSwap s t) := by
  refine Holds.out ?_
  unfold State.shellSwap
  with_reducible refine Holds.ite ?_ ?_; exact Keeps.refl _
  with_reducible refine Keeps.step ?_ (State.stage_keep ..)
  with_reducible refine Keeps.step ?_ (State.setCh_keep ..); exact Keeps.refl _

theorem State.barC0_keep (s : State) (t : Nat) : Keeps s (State.barC0 s t) := by
  refine Holds.out ?_
  unfold State.barC0
  dsimp only; with_reducible refine Holds.ite ?_ ?_
  with_reducible refine Keeps.step ?_ (State.setCh_keep ..); split
  with_reducible refine Keeps.step ?_ (State.walkOn_keep ..)
  with_reducible refine Keeps.step ?_ (State.abandonGang_keep ..)
  with_reducible refine Keeps.step ?_ (State.setCh_keep ..); with_reducible refine Holds.ite ?_ ?_
  with_reducible refine Keeps.step ?_ (State.abandonStage_keep ..); exact Keeps.refl _; exact Keeps.refl _
  with_reducible refine Keeps.step ?_ (State.refuseWant_keep ..); with_reducible refine Holds.ite ?_ ?_
  with_reducible refine Keeps.step ?_ (State.abandonStage_keep ..); exact Keeps.refl _; exact Keeps.refl _
  with_reducible refine Holds.ite ?_ ?_; with_reducible refine Keeps.step ?_ (State.abandonStage_keep ..)
  exact Keeps.refl _; exact Keeps.refl _; split; with_reducible refine Keeps.step ?_ (State.walkOn_keep ..)
  with_reducible refine Keeps.step ?_ (State.abandonGang_keep ..)
  with_reducible refine Keeps.step ?_ (State.setCh_keep ..); with_reducible refine Holds.ite ?_ ?_
  with_reducible refine Keeps.step ?_ (State.abandonStage_keep ..); exact Keeps.refl _; exact Keeps.refl _
  with_reducible refine Keeps.step ?_ (State.refuseWant_keep ..); with_reducible refine Holds.ite ?_ ?_
  with_reducible refine Keeps.step ?_ (State.abandonStage_keep ..); exact Keeps.refl _; exact Keeps.refl _
  with_reducible refine Holds.ite ?_ ?_; with_reducible refine Keeps.step ?_ (State.abandonStage_keep ..)
  exact Keeps.refl _; exact Keeps.refl _

theorem execSlotEntryEnd_keep (t : Tower) (s : State) : OnNext (Keeps s) (execSlotEntryEnd t s) := by
  refine Holds.out ?_
  unfold execSlotEntryEnd
  with_reducible refine Holds.ite ?_ ?_; with_reducible refine Holds.ite ?_ ?_
  with_reducible refine Holds.next ?_; with_reducible refine Keeps.step ?_ (State.chmEvent_keep ..)
  with_reducible refine Keeps.step ?_ (State.setCh_keep ..); exact Keeps.refl _
  with_reducible refine Holds.next ?_; with_reducible refine Keeps.step ?_ (State.walkOn_keep ..)
  exact Keeps.refl _; with_reducible refine Holds.next ?_; exact Keeps.refl _

theorem execSlotPassEnd_keep (t : Tower) (s : State) : OnNext (Keeps s) (execSlotPassEnd t s) := by
  refine Holds.out ?_
  unfold execSlotPassEnd
  dsimp only; with_reducible refine Holds.ite ?_ ?_; with_reducible refine Holds.next ?_
  with_reducible refine Keeps.step ?_ (State.passEnd_keep ..); exact Keeps.refl _
  with_reducible refine Holds.next ?_; exact Keeps.refl _

theorem execSltHalfSwap_keep (t : Tower) (s : State) : OnNext (Keeps s) (execSltHalfSwap t s) := by
  refine Holds.out ?_
  unfold execSltHalfSwap
  with_reducible refine Holds.ite ?_ ?_; with_reducible refine Holds.next ?_
  with_reducible refine Keeps.step ?_ (State.swapHalves_keep ..); exact Keeps.refl _
  with_reducible refine Holds.next ?_; exact Keeps.refl _

theorem execSltCancelCopyDone_keep (t : Tower) (s : State) : OnNext (Keeps s) (execSltCancelCopyDone t s) := by
  refine Holds.out ?_
  unfold execSltCancelCopyDone
  with_reducible refine Holds.ite ?_ ?_; with_reducible refine Holds.next ?_
  with_reducible refine Keeps.step ?_ (State.setCh_keep ..); with_reducible refine Keeps.same ?_
  exact Keeps.refl _; with_reducible refine Holds.next ?_; exact Keeps.refl _

theorem State.sltChanged_keep (s : State) (t : Nat) (cancel : Bool) : Keeps s (State.sltChanged s t cancel) := by
  refine Holds.out ?_
  unfold State.sltChanged
  with_reducible refine Holds.ite ?_ ?_; split; with_reducible refine Holds.ite ?_ ?_; exact Keeps.refl _
  with_reducible refine Keeps.step ?_ (State.stageNext_keep ..)
  with_reducible refine Keeps.step ?_ (State.abandonGang_keep ..); exact Keeps.refl _
  with_reducible refine Keeps.step ?_ (State.abandonGang_keep ..); exact Keeps.refl _; exact Keeps.refl _

theorem sltWrite_keep (s : State) (t o : Nat) (v : Word) : Keeps s (sltWrite s t o v) := by
  refine Holds.out ?_
  unfold sltWrite
  dsimp only; with_reducible refine Holds.ite ?_ ?_
  with_reducible refine Keeps.step ?_ (State.chmEvent_keep ..); exact Keeps.refl _
  with_reducible refine Holds.ite ?_ ?_; with_reducible refine Keeps.same ?_; exact Keeps.refl _
  with_reducible refine Keeps.same ?_; exact Keeps.refl _

theorem State.leaveMode_keep (s : State) (t : Nat) : Keeps s (State.leaveMode s t) := by
  refine Holds.out ?_
  unfold State.leaveMode
  dsimp only; with_reducible refine Keeps.step ?_ (State.setCh_keep ..)
  with_reducible refine Keeps.step ?_ (State.evRefuse_keep ..)
  with_reducible refine Keeps.step ?_ (State.setCm_keep ..); with_reducible refine Holds.ite ?_ ?_
  with_reducible refine Keeps.step ?_ (State.setCh_keep ..); exact Keeps.refl _
  with_reducible refine Keeps.step ?_ (State.setCh_keep ..)
  with_reducible refine Keeps.step ?_ (State.abandonGang_keep ..); exact Keeps.refl _

theorem State.modeSet_keep (s : State) (t : Nat) (oldMode : Option Nat) (oldPort : Word) (req : Bool) : Keeps s (State.modeSet s t oldMode oldPort req) := by
  refine Holds.out ?_
  unfold State.modeSet
  dsimp only; with_reducible refine Holds.ite ?_ ?_; split
  with_reducible refine Keeps.step ?_ (State.stageOne_keep ..); with_reducible refine Holds.ite ?_ ?_
  with_reducible refine Keeps.step ?_ (State.passBegin_keep ..); with_reducible refine Holds.ite ?_ ?_
  with_reducible refine Keeps.step ?_ (State.setCh_keep ..); with_reducible refine Holds.ite ?_ ?_
  with_reducible refine Keeps.step ?_ (State.leaveMode_keep ..); exact Keeps.refl _; exact Keeps.refl _
  with_reducible refine Holds.ite ?_ ?_; with_reducible refine Keeps.step ?_ (State.leaveMode_keep ..)
  exact Keeps.refl _; exact Keeps.refl _; with_reducible refine Holds.ite ?_ ?_
  with_reducible refine Keeps.step ?_ (State.setCh_keep ..); with_reducible refine Holds.ite ?_ ?_
  with_reducible refine Keeps.step ?_ (State.leaveMode_keep ..); exact Keeps.refl _; exact Keeps.refl _
  with_reducible refine Holds.ite ?_ ?_; with_reducible refine Keeps.step ?_ (State.leaveMode_keep ..)
  exact Keeps.refl _; exact Keeps.refl _; with_reducible refine Holds.ite ?_ ?_
  with_reducible refine Keeps.step ?_ (State.passBegin_keep ..); with_reducible refine Holds.ite ?_ ?_
  with_reducible refine Keeps.step ?_ (State.setCh_keep ..); with_reducible refine Holds.ite ?_ ?_
  with_reducible refine Keeps.step ?_ (State.leaveMode_keep ..); exact Keeps.refl _; exact Keeps.refl _
  with_reducible refine Holds.ite ?_ ?_; with_reducible refine Keeps.step ?_ (State.leaveMode_keep ..)
  exact Keeps.refl _; exact Keeps.refl _; with_reducible refine Holds.ite ?_ ?_
  with_reducible refine Keeps.step ?_ (State.setCh_keep ..); with_reducible refine Holds.ite ?_ ?_
  with_reducible refine Keeps.step ?_ (State.leaveMode_keep ..); exact Keeps.refl _; exact Keeps.refl _
  with_reducible refine Holds.ite ?_ ?_; with_reducible refine Keeps.step ?_ (State.leaveMode_keep ..)
  exact Keeps.refl _; exact Keeps.refl _; with_reducible refine Holds.ite ?_ ?_
  with_reducible refine Keeps.step ?_ (State.passBegin_keep ..); with_reducible refine Holds.ite ?_ ?_
  with_reducible refine Keeps.step ?_ (State.setCh_keep ..); with_reducible refine Holds.ite ?_ ?_
  with_reducible refine Keeps.step ?_ (State.leaveMode_keep ..); exact Keeps.refl _; exact Keeps.refl _
  with_reducible refine Holds.ite ?_ ?_; with_reducible refine Keeps.step ?_ (State.leaveMode_keep ..)
  exact Keeps.refl _; exact Keeps.refl _; with_reducible refine Holds.ite ?_ ?_
  with_reducible refine Keeps.step ?_ (State.setCh_keep ..); with_reducible refine Holds.ite ?_ ?_
  with_reducible refine Keeps.step ?_ (State.leaveMode_keep ..); exact Keeps.refl _; exact Keeps.refl _
  with_reducible refine Holds.ite ?_ ?_; with_reducible refine Keeps.step ?_ (State.leaveMode_keep ..)
  exact Keeps.refl _; exact Keeps.refl _

theorem State.applyChm_keep (s : State) (t : Nat) (req : Bool) : Keeps s (State.applyChm s t req) := by
  refine Holds.out ?_
  unfold State.applyChm
  dsimp only; with_reducible refine Keeps.same ?_
  with_reducible refine Keeps.step ?_ (State.modeSet_keep ..); with_reducible refine Keeps.same ?_
  exact Keeps.refl _

theorem State.takeEvent_keep (s : State) (t c : Nat) : Keeps s (State.takeEvent s t c) := by
  refine Holds.out ?_
  unfold State.takeEvent
  dsimp only; with_reducible refine Holds.ite ?_ ?_
  with_reducible refine Keeps.step ?_ (State.evStatus_keep ..)
  with_reducible refine Keeps.step ?_ (State.setCh_keep ..)
  with_reducible refine Keeps.step ?_ (State.setCm_keep ..); exact Keeps.refl _
  with_reducible refine Holds.ite ?_ ?_; with_reducible refine Keeps.step ?_ (State.evRefuse_keep ..)
  with_reducible refine Keeps.step ?_ (State.setCh_keep ..)
  with_reducible refine Keeps.step ?_ (State.setCm_keep ..); exact Keeps.refl _
  with_reducible refine Holds.ite ?_ ?_; with_reducible refine Keeps.step ?_ (State.evStatus_keep ..)
  with_reducible refine Keeps.step ?_ (State.setCh_keep ..)
  with_reducible refine Keeps.step ?_ (State.setCm_keep ..); exact Keeps.refl _
  with_reducible refine Keeps.step ?_ (State.stage_keep ..)
  with_reducible refine Keeps.step ?_ (State.setCh_keep ..)
  with_reducible refine Keeps.step ?_ (State.setCh_keep ..)
  with_reducible refine Keeps.step ?_ (State.setCm_keep ..); exact Keeps.refl _

theorem State.sampleTap_keep (s : State) (t : Nat) (req : Bool) (c : Nat) : Keeps s (State.sampleTap s t req c) := by
  refine Holds.out ?_
  unfold State.sampleTap
  with_reducible refine Holds.ite ?_ ?_; dsimp only; with_reducible refine Holds.ite ?_ ?_
  with_reducible refine Keeps.step ?_ (State.takeEvent_keep ..)
  with_reducible refine Keeps.step ?_ (State.setCh_keep ..); exact Keeps.refl _
  with_reducible refine Keeps.step ?_ (State.setCh_keep ..); exact Keeps.refl _; exact Keeps.refl _

theorem State.excludeSet_keep (s : State) (t m : Nat) : Keeps s (State.excludeSet s t m) := by
  refine Holds.out ?_
  unfold State.excludeSet
  dsimp only; with_reducible refine Keeps.step ?_ (State.setCh_keep ..)
  with_reducible refine Keeps.upd ?_ ?_ ?_ ?_ ?_ ?_
  with_reducible refine Keeps.step ?_ (State.keepLines_keep ..); exact Keeps.refl _; exact PondsKeep.refl _
  exact GKeep.refl _; exact KKeep.refl _; with_reducible refine CKeep.step ?_ (CfgMem.setOut_keep ..)
  exact CKeep.refl _; exact QKeep.refl _

theorem State.excludeClear_keep (s : State) (t m : Nat) : Keeps s (State.excludeClear s t m) := by
  refine Holds.out ?_
  unfold State.excludeClear
  with_reducible refine Holds.ite ?_ ?_; exact Keeps.refl _
  with_reducible refine Keeps.upd ?_ ?_ ?_ ?_ ?_ ?_; exact Keeps.refl _; exact PondsKeep.refl _
  exact GKeep.refl _; exact KKeep.refl _; with_reducible refine CKeep.step ?_ (CfgMem.setOut_keep ..)
  exact CKeep.refl _; exact QKeep.refl _

theorem State.excludeWrite_keep (s : State) (t j : Nat) (v : Word) : Keeps s (State.excludeWrite s t j v) := by
  refine Holds.out ?_
  unfold State.excludeWrite
  with_reducible refine Keeps.foldl (fun _ _ => ?_) ?_; with_reducible refine Holds.ite ?_ ?_
  with_reducible refine Holds.ite ?_ ?_; exact Keeps.refl _
  with_reducible refine Keeps.step ?_ (State.excludeSet_keep ..); exact Keeps.refl _
  with_reducible refine Keeps.step ?_ (State.excludeClear_keep ..); exact Keeps.refl _; exact Keeps.refl _

end Sys2Proof.Machine
end

