-- ==== Sys2Proof/Laws/KeepChamEvent.lean ====
section
/-! SUPPORT. What the operations of ChamEvent keep: the waiting commands and the invariant. -/
namespace Sys2Proof.Machine

theorem State.commitChm_keep (s : State) (t : Nat) : Keeps s (State.commitChm s t) := by
  refine Holds.out ?_
  unfold State.commitChm
  dsimp only; with_reducible refine Keeps.step ?_ (State.applyChm_keep ..)
  with_reducible refine Keeps.same ?_; exact Keeps.refl _

theorem execModeChange_keep (t : Tower) (s : State) : OnNext (Keeps s) (execModeChange t s) := by
  refine Holds.out ?_
  unfold execModeChange
  with_reducible refine Holds.ite ?_ ?_; with_reducible refine Holds.next ?_
  with_reducible refine Keeps.step ?_ (State.commitChm_keep ..); exact Keeps.refl _
  with_reducible refine Holds.next ?_; exact Keeps.refl _

theorem execEventRequest_keep (t : Tower) (s : State) : OnNext (Keeps s) (execEventRequest t s) := by
  refine Holds.out ?_
  unfold execEventRequest
  with_reducible refine Holds.ite ?_ ?_; with_reducible refine Holds.next ?_; exact Keeps.refl _; dsimp only
  with_reducible refine Holds.next ?_; with_reducible refine Keeps.step ?_ (State.sampleTap_keep ..)
  with_reducible refine Keeps.same ?_; exact Keeps.refl _

theorem State.lpdOff_keep (s : State) (t d : Nat) : Keeps s (State.lpdOff s t d) := by
  refine Holds.out ?_
  unfold State.lpdOff
  dsimp only; with_reducible refine Holds.ite ?_ ?_; exact Keeps.refl _
  with_reducible refine Holds.ite ?_ ?_; with_reducible refine Keeps.same ?_; exact Keeps.refl _
  with_reducible refine Keeps.same ?_; exact Keeps.refl _

theorem State.lpdOn_keep (s : State) (t d : Nat) : Keeps s (State.lpdOn s t d) := by
  refine Holds.out ?_
  unfold State.lpdOn
  dsimp only; with_reducible refine Holds.ite ?_ ?_; with_reducible refine Keeps.same ?_; exact Keeps.refl _
  exact Keeps.refl _

theorem State.lpdWrite_keep (s : State) (t : Nat) (v : Word) : Keeps s (State.lpdWrite s t v) := by
  refine Holds.out ?_
  unfold State.lpdWrite
  with_reducible refine Keeps.foldl (fun _ _ => ?_) ?_; with_reducible refine Holds.ite ?_ ?_
  with_reducible refine Keeps.step ?_ (State.lpdOff_keep ..); exact Keeps.refl _
  with_reducible refine Keeps.step ?_ (State.lpdOn_keep ..); exact Keeps.refl _; exact Keeps.refl _

theorem State.domainLost_keep (s : State) (t d : Nat) : Keeps s (State.domainLost s t d) := by
  refine Holds.out ?_
  unfold State.domainLost
  dsimp only; with_reducible refine Keeps.upd ?_ ?_ ?_ ?_ ?_ ?_; exact Keeps.refl _; exact PondsKeep.refl _
  exact GKeep.refl _; exact KKeep.refl _
  exact CKeep.upd3 (fun h => h) (clearPlane_wf _ _ _) (clearPlane_wf _ _ _); exact QKeep.refl _

theorem execLpdOffDone_keep (t : Tower) (d : Fin 16) (s : State) : OnNext (Keeps s) (execLpdOffDone t d s) := by
  refine Holds.out ?_
  unfold execLpdOffDone
  dsimp only; with_reducible refine Holds.ite ?_ ?_; with_reducible refine Holds.next ?_
  with_reducible refine Keeps.same ?_; with_reducible refine Keeps.step ?_ (State.domainLost_keep ..)
  exact Keeps.refl _; with_reducible refine Holds.next ?_; exact Keeps.refl _

theorem State.domainLoad_keep (s : State) (t d : Nat) : Keeps s (State.domainLoad s t d) := by
  refine Holds.out ?_
  unfold State.domainLoad
  dsimp only; with_reducible refine Keeps.foldl (fun _ _ => ?_) ?_; split
  with_reducible refine Keeps.upd ?_ ?_ ?_ ?_ ?_ ?_; exact Keeps.refl _; exact PondsKeep.refl _
  exact GKeep.refl _; exact KKeep.refl _; with_reducible refine CKeep.step ?_ (CfgMem.setFront_keep ..)
  exact CKeep.refl _; exact QKeep.refl _; with_reducible refine Keeps.step ?_ (State.quarantine_keep ..)
  with_reducible refine Keeps.upd ?_ ?_ ?_ ?_ ?_ ?_; exact Keeps.refl _; exact PondsKeep.refl _
  exact GKeep.refl _; exact KKeep.refl _; with_reducible refine CKeep.step ?_ (CfgMem.setFront_keep ..)
  exact CKeep.refl _; exact QKeep.refl _; with_reducible refine Keeps.same ?_; exact Keeps.refl _

theorem execLpdDone_keep (t : Tower) (d : Fin 16) (s : State) : OnNext (Keeps s) (execLpdDone t d s) := by
  refine Holds.out ?_
  unfold execLpdDone
  dsimp only; with_reducible refine Holds.ite ?_ ?_; with_reducible refine Holds.next ?_
  with_reducible refine Keeps.step ?_ (State.resettle_keep ..); with_reducible refine Keeps.same ?_
  with_reducible refine Keeps.step ?_ (State.domainLoad_keep ..)
  with_reducible refine Keeps.step ?_ (State.domainLost_keep ..); exact Keeps.refl _
  with_reducible refine Holds.next ?_; exact Keeps.refl _

theorem State.contend_keep (s : State) (t : Nat) (v : Bool) (id : Nat) (line seg req : List Nat) : Keeps s (State.contend s t v id line seg req) := by
  refine Holds.out ?_
  unfold State.contend
  dsimp only; with_reducible refine Keeps.same ?_; exact Keeps.refl _

theorem execDeepLineContention_keep (t : Tower) (v : Bool) (a : Fin 1024) (sg : Fin 3) (j : Fin 22) (taps : BitVec 4) (s : State) : OnNext (Keeps s) (execDeepLineContention t v a sg j taps s) := by
  refine Holds.out ?_
  unfold execDeepLineContention
  dsimp only; with_reducible refine Holds.ite ?_ ?_; with_reducible refine Holds.next ?_; exact Keeps.refl _
  with_reducible refine Holds.next ?_; with_reducible refine Keeps.step ?_ (State.resettle_keep ..)
  with_reducible refine Keeps.foldl (fun _ _ => ?_) ?_
  with_reducible refine Keeps.step ?_ (State.contend_keep ..); exact Keeps.refl _; exact Keeps.refl _

theorem execDeepLineContentionEnd_keep (t : Tower) (v : Bool) (a : Fin 1024) (sg : Fin 3) (j : Fin 22) (taps : BitVec 4) (s : State) : OnNext (Keeps s) (execDeepLineContentionEnd t v a sg j taps s) := by
  refine Holds.out ?_
  unfold execDeepLineContentionEnd
  dsimp only; with_reducible refine Holds.next ?_
  with_reducible refine Keeps.step ?_ (State.resettle_keep ..); with_reducible refine Keeps.same ?_
  exact Keeps.refl _

end Sys2Proof.Machine
end

