-- ==== Sys2Proof/Laws/KeepConfigMem.lean ====
section
/-! SUPPORT. What the operations of ConfigMem keep: the waiting commands and the invariant. -/
namespace Sys2Proof.Machine

theorem State.reencode_keep (s : State) (t tOld tNew : Nat) (e : Nat × Frame) : Keeps s (State.reencode s t tOld tNew e) := by
  refine Holds.out ?_
  unfold State.reencode
  split; with_reducible refine Keeps.upd ?_ ?_ ?_ ?_ ?_ ?_; exact Keeps.refl _; exact PondsKeep.refl _
  exact GKeep.refl _; exact KKeep.refl _; with_reducible refine CKeep.step ?_ (CfgMem.setFrame_keep ..)
  exact CKeep.refl _; exact QKeep.refl _; with_reducible refine Keeps.step ?_ (State.quarantine_keep ..)
  with_reducible refine Keeps.same ?_; exact Keeps.refl _

theorem State.reencodeEnd_keep (s : State) (t : Nat) : Keeps s (State.reencodeEnd s t) := by
  refine Holds.out ?_
  unfold State.reencodeEnd
  dsimp only; with_reducible refine Holds.ite ?_ ?_; with_reducible refine Keeps.same ?_
  with_reducible refine Keeps.foldl (fun _ _ => ?_) ?_
  with_reducible refine Keeps.step ?_ (State.reencode_keep ..); exact Keeps.refl _; exact Keeps.refl _
  exact Keeps.refl _

theorem execReencodeDone_keep (t : Tower) (s : State) : OnNext (Keeps s) (execReencodeDone t s) := by
  refine Holds.out ?_
  unfold execReencodeDone
  with_reducible refine Holds.next ?_; with_reducible refine Keeps.step ?_ (State.reencodeEnd_keep ..)
  exact Keeps.refl _

theorem CfgMem.multicast_keep (x : CfgMem) (bt : Nat) (pay : BitVec 4096) (targets : List Nat) : CKeep x (CfgMem.multicast x bt pay targets) := by
  refine Holds.out ?_
  unfold CfgMem.multicast
  with_reducible refine CKeep.foldl (fun _ _ => ?_) ?_
  with_reducible refine CKeep.step ?_ (CfgMem.setFrame_keep ..); exact CKeep.refl _; exact CKeep.refl _

theorem State.refreshBegin_keep (s : State) (t : Nat) (ms : List Nat) : Keeps s (State.refreshBegin s t ms) := by
  refine Holds.out ?_
  unfold State.refreshBegin
  dsimp only; with_reducible refine Keeps.upd ?_ ?_ ?_ ?_ ?_ ?_; with_reducible refine Holds.ite ?_ ?_
  with_reducible refine Keeps.step ?_ (State.dropStage_keep ..); exact Keeps.refl _; exact Keeps.refl _
  exact PondsKeep.refl _; exact GKeep.refl _; exact KKeep.refl _; with_reducible refine CKeep.upd ?_
  exact CKeep.refl _; exact QKeep.refl _

theorem State.refreshEnd_keep (s : State) (t : Nat) : Keeps s (State.refreshEnd s t) := by
  refine Holds.out ?_
  unfold State.refreshEnd
  with_reducible refine Keeps.upd ?_ ?_ ?_ ?_ ?_ ?_; exact Keeps.refl _; exact PondsKeep.refl _
  exact GKeep.refl _; exact KKeep.refl _; dsimp only; with_reducible refine CKeep.upd ?_; exact CKeep.refl _
  exact QKeep.refl _

theorem State.refreshCopy_keep (s : State) (t c : Nat) (ms : List Nat) : OnFst (Keeps s) (State.refreshCopy s t c ms) := by
  refine Holds.out ?_
  unfold State.refreshCopy
  dsimp only; split; with_reducible refine Holds.mk1 ?_
  with_reducible refine Keeps.step ?_ (State.quarantine_keep ..); with_reducible refine Keeps.same ?_
  exact Keeps.refl _; with_reducible refine Holds.mk1 ?_; with_reducible refine Keeps.upd ?_ ?_ ?_ ?_ ?_ ?_
  exact Keeps.refl _; exact PondsKeep.refl _; exact GKeep.refl _; exact KKeep.refl _
  with_reducible refine CKeep.step ?_ (fillBack_keep ..); exact CKeep.refl _; exact QKeep.refl _

theorem State.refreshDone_keep (s : State) (t : Nat) : OnFst (Keeps s) (State.refreshDone s t) := by
  refine Holds.out ?_
  unfold State.refreshDone
  dsimp only; with_reducible refine Holds.mk1 ?_; with_reducible refine Keeps.step ?_ (State.settle_keep ..)
  with_reducible refine Keeps.step ?_ (State.refreshEnd_keep ..)
  with_reducible refine Keeps.upd ?_ ?_ ?_ ?_ ?_ ?_
  with_reducible refine Keeps.step ?_ (State.keepLines_keep ..); with_reducible refine Holds.fst ?_
  refine Keeps.foldl_fst (fun _ _ => ?_) ?_; with_reducible refine Holds.mk1 ?_
  with_reducible refine Keeps.step ?_ (State.refreshCopy_keep ..); exact Keeps.refl _
  with_reducible refine Holds.mk1 ?_; exact Keeps.refl _; exact PondsKeep.refl _; exact GKeep.refl _
  exact KKeep.refl _; with_reducible refine CKeep.step ?_ (exchange_keep ..); exact CKeep.refl _
  exact QKeep.refl _

theorem CfgMem.setCompareNext_keep (x : CfgMem) (t : Nat) (v : Bool) : CKeep x (CfgMem.setCompareNext x t v) := by
  refine Holds.out ?_
  unfold CfgMem.setCompareNext
  with_reducible refine CKeep.upd ?_; exact CKeep.refl _

theorem State.scrubFrame_keep (s : State) (t c a : Nat) : Keeps s (State.scrubFrame s t c a) := by
  refine Holds.out ?_
  unfold State.scrubFrame
  dsimp only; split; with_reducible refine Keeps.step ?_ (State.quarantine_keep ..)
  with_reducible refine Keeps.same ?_; exact Keeps.refl _; with_reducible refine Holds.ite ?_ ?_
  exact Keeps.refl _; with_reducible refine Keeps.upd ?_ ?_ ?_ ?_ ?_ ?_; exact Keeps.refl _
  exact PondsKeep.refl _; exact GKeep.refl _; exact KKeep.refl _; with_reducible refine Holds.ite ?_ ?_
  with_reducible refine CKeep.step ?_ (CfgMem.setFrame_keep ..); exact CKeep.refl _; exact CKeep.refl _
  exact QKeep.refl _

theorem execScrubRead_keep (t : Tower) (s : State) : OnNext (Keeps s) (execScrubRead t s) := by
  refine Holds.out ?_
  unfold execScrubRead
  dsimp only; with_reducible refine Holds.ite ?_ ?_; with_reducible refine Holds.next ?_
  with_reducible refine Holds.ite ?_ ?_; with_reducible refine Keeps.upd ?_ ?_ ?_ ?_ ?_ ?_
  with_reducible refine Keeps.step ?_ (State.scrubFrame_keep ..); exact Keeps.refl _; exact PondsKeep.refl _
  exact GKeep.refl _; exact KKeep.refl _; with_reducible refine CKeep.step ?_ (CfgMem.setCompareNext_keep ..)
  exact CKeep.refl _; exact QKeep.refl _; with_reducible refine Keeps.same ?_
  with_reducible refine Keeps.step ?_ (State.scrubFrame_keep ..); exact Keeps.refl _
  with_reducible refine Holds.next ?_; exact Keeps.refl _

theorem State.compareFrame_keep (s : State) (t m f : Nat) : Keeps s (State.compareFrame s t m f) := by
  refine Holds.out ?_
  unfold State.compareFrame
  dsimp only; with_reducible refine Holds.ite ?_ ?_; with_reducible refine Keeps.same ?_; exact Keeps.refl _
  split; with_reducible refine Keeps.same ?_; exact Keeps.refl _; with_reducible refine Holds.ite ?_ ?_
  exact Keeps.refl _; with_reducible refine Holds.ite ?_ ?_
  with_reducible refine Keeps.step ?_ (State.settle_keep ..)
  with_reducible refine Keeps.upd ?_ ?_ ?_ ?_ ?_ ?_; exact Keeps.refl _; exact PondsKeep.refl _
  exact GKeep.refl _; exact KKeep.refl _; with_reducible refine CKeep.step ?_ (CfgMem.setFront_keep ..)
  exact CKeep.refl _; exact QKeep.refl _; with_reducible refine Keeps.same ?_; exact Keeps.refl _

theorem State.scrubNext_keep (s : State) (t : Nat) : Keeps s (State.scrubNext s t) := by
  refine Holds.out ?_
  unfold State.scrubNext
  dsimp only; with_reducible refine Holds.ite ?_ ?_; with_reducible refine Keeps.upd ?_ ?_ ?_ ?_ ?_ ?_
  exact Keeps.refl _; exact PondsKeep.refl _; exact GKeep.refl _; exact KKeep.refl _
  with_reducible refine CKeep.step ?_ (CfgMem.setCompareNext_keep ..); exact CKeep.refl _; exact QKeep.refl _
  with_reducible refine Holds.ite ?_ ?_; with_reducible refine Keeps.upd ?_ ?_ ?_ ?_ ?_ ?_
  exact Keeps.refl _; exact PondsKeep.refl _; exact GKeep.refl _; exact KKeep.refl _
  with_reducible refine CKeep.step ?_ (CfgMem.setCompareNext_keep ..); exact CKeep.refl _; exact QKeep.refl _
  with_reducible refine Keeps.upd ?_ ?_ ?_ ?_ ?_ ?_; exact Keeps.refl _; exact PondsKeep.refl _
  exact GKeep.refl _; exact KKeep.refl _; with_reducible refine CKeep.upd ?_
  with_reducible refine CKeep.step ?_ (CfgMem.setCompareNext_keep ..); exact CKeep.refl _; exact QKeep.refl _

theorem execFpCompare_keep (t : Tower) (s : State) : OnNext (Keeps s) (execFpCompare t s) := by
  refine Holds.out ?_
  unfold execFpCompare
  dsimp only; with_reducible refine Holds.ite ?_ ?_; with_reducible refine Holds.next ?_
  with_reducible refine Keeps.step ?_ (State.scrubNext_keep ..)
  with_reducible refine Keeps.step ?_ (State.compareFrame_keep ..); exact Keeps.refl _
  with_reducible refine Holds.next ?_; exact Keeps.refl _

theorem State.rbStart_keep (s : State) (t op : Nat) : Keeps s (State.rbStart s t op) := by
  refine Holds.out ?_
  unfold State.rbStart
  dsimp only; with_reducible refine Keeps.upd ?_ ?_ ?_ ?_ ?_ ?_; exact Keeps.refl _; exact PondsKeep.refl _
  exact GKeep.refl _; exact KKeep.refl _; with_reducible refine CKeep.upd ?_; exact CKeep.refl _
  exact QKeep.refl _

theorem State.rbGo_keep (s : State) (t : Nat) : Keeps s (State.rbGo s t) := by
  refine Holds.out ?_
  unfold State.rbGo
  with_reducible refine Holds.ite ?_ ?_; exact Keeps.refl _
  with_reducible refine Keeps.step ?_ (State.rbStart_keep ..); exact Keeps.refl _

theorem State.readback_keep (s : State) (t : Nat) : Keeps s (State.readback s t) := by
  refine Holds.out ?_
  unfold State.readback
  dsimp only; with_reducible refine Holds.ite ?_ ?_; with_reducible refine Keeps.same ?_; exact Keeps.refl _
  with_reducible refine Holds.ite ?_ ?_; split; with_reducible refine Keeps.same ?_; exact Keeps.refl _
  with_reducible refine Keeps.same ?_; exact Keeps.refl _; with_reducible refine Keeps.same ?_
  exact Keeps.refl _

theorem State.rawDone_keep (s : State) (t : Nat) : Keeps s (State.rawDone s t) := by
  refine Holds.out ?_
  unfold State.rawDone
  dsimp only; with_reducible refine Keeps.step ?_ (State.quarantine_keep ..)
  with_reducible refine Keeps.upd ?_ ?_ ?_ ?_ ?_ ?_; exact Keeps.refl _; exact PondsKeep.refl _
  exact GKeep.refl _; exact KKeep.refl _; with_reducible refine CKeep.step ?_ (CfgMem.setFrame_keep ..)
  exact CKeep.refl _; exact QKeep.refl _

theorem State.rawWrite_keep (s : State) (t : Nat) : Keeps s (State.rawWrite s t) := by
  refine Holds.out ?_
  unfold State.rawWrite
  with_reducible refine Holds.ite ?_ ?_; exact Keeps.refl _; with_reducible refine Holds.ite ?_ ?_
  with_reducible refine Keeps.same ?_; exact Keeps.refl _; with_reducible refine Holds.ite ?_ ?_
  with_reducible refine Keeps.step ?_ (State.rbStart_keep ..); exact Keeps.refl _
  with_reducible refine Keeps.step ?_ (State.rawDone_keep ..)
  with_reducible refine Keeps.step ?_ (State.rbStart_keep ..); exact Keeps.refl _

theorem execReadbackDone_keep (t : Tower) (s : State) : OnNext (Keeps s) (execReadbackDone t s) := by
  refine Holds.out ?_
  unfold execReadbackDone
  with_reducible refine Holds.ite ?_ ?_; with_reducible refine Holds.next ?_
  with_reducible refine Holds.ite ?_ ?_; with_reducible refine Keeps.step ?_ (State.rawDone_keep ..)
  exact Keeps.refl _; with_reducible refine Keeps.step ?_ (State.readback_keep ..); exact Keeps.refl _
  with_reducible refine Holds.next ?_; exact Keeps.refl _

theorem State.rbBoth_keep (s : State) (t : Nat) : Keeps s (State.rbBoth s t) := by
  refine Holds.out ?_
  unfold State.rbBoth
  with_reducible refine Holds.ite ?_ ?_; exact Keeps.refl _; with_reducible refine Keeps.same ?_
  exact Keeps.refl _

end Sys2Proof.Machine
end

