-- ==== Sys2Proof/Laws/KeepLoader.lean ====
section
/-! SUPPORT. What the operations of Loader keep: the waiting commands and the invariant. -/
namespace Sys2Proof.Machine

theorem State.setLdr_keep (s : State) (f : Fld) (v : Nat) : Keeps s (State.setLdr s f v) := by
  refine Holds.out ?_
  unfold State.setLdr
  with_reducible refine Keeps.same ?_; exact Keeps.refl _

theorem State.ldrEvent_keep (s : State) (i : Nat) : Keeps s (State.ldrEvent s i) := by
  refine Holds.out ?_
  unfold State.ldrEvent
  with_reducible refine Keeps.same ?_; exact Keeps.refl _

theorem State.ld_keep (s : State) (f : Loader → Loader) : Keeps s (State.ld s f) := by
  refine Holds.out ?_
  unfold State.ld
  with_reducible refine Keeps.same ?_; exact Keeps.refl _

theorem State.noteRcvd_keep (s : State) : Keeps s (State.noteRcvd s) := by
  refine Holds.out ?_
  unfold State.noteRcvd
  with_reducible refine Keeps.step ?_ (State.setLdr_keep ..)
  with_reducible refine Keeps.step ?_ (State.setLdr_keep ..); exact Keeps.refl _

theorem State.beginLoad_keep (s : State) (src : Nat) : Keeps s (State.beginLoad s src) := by
  refine Holds.out ?_
  unfold State.beginLoad
  with_reducible refine Keeps.step ?_ (State.noteRcvd_keep ..)
  with_reducible refine Keeps.step ?_ (State.setLdr_keep ..)
  with_reducible refine Keeps.step ?_ (State.setLdr_keep ..)
  with_reducible refine Keeps.step ?_ (State.ld_keep ..); with_reducible refine Keeps.same ?_
  exact Keeps.refl _

theorem State.endLoad_keep (s : State) : Keeps s (State.endLoad s) := by
  refine Holds.out ?_
  unfold State.endLoad
  with_reducible refine Keeps.step ?_ (State.setLdr_keep ..)
  with_reducible refine Keeps.step ?_ (State.setLdr_keep ..)
  with_reducible refine Keeps.step ?_ (State.ld_keep ..); exact Keeps.refl _

theorem State.setStatus_keep (s : State) (code info : Nat) : Keeps s (State.setStatus s code info) := by
  refine Holds.out ?_
  unfold State.setStatus
  dsimp only; with_reducible refine Holds.ite ?_ ?_
  with_reducible refine Keeps.step ?_ (State.setLdr_keep ..)
  with_reducible refine Keeps.step ?_ (State.setLdr_keep ..)
  with_reducible refine Keeps.step ?_ (State.setLdr_keep ..)
  with_reducible refine Keeps.step ?_ (State.setLdr_keep ..)
  with_reducible refine Keeps.step ?_ (State.setLdr_keep ..); exact Keeps.refl _
  with_reducible refine Holds.ite ?_ ?_; with_reducible refine Keeps.step ?_ (State.setLdr_keep ..)
  with_reducible refine Keeps.step ?_ (State.setLdr_keep ..)
  with_reducible refine Keeps.step ?_ (State.setLdr_keep ..)
  with_reducible refine Keeps.step ?_ (State.setLdr_keep ..)
  with_reducible refine Keeps.step ?_ (State.setLdr_keep ..); exact Keeps.refl _
  with_reducible refine Keeps.step ?_ (State.setLdr_keep ..)
  with_reducible refine Keeps.step ?_ (State.setLdr_keep ..)
  with_reducible refine Keeps.step ?_ (State.setLdr_keep ..)
  with_reducible refine Keeps.step ?_ (State.setLdr_keep ..); exact Keeps.refl _

theorem State.stageRun_keep (s : State) : Keeps s (State.stageRun s) := by
  refine Holds.out ?_
  unfold State.stageRun
  with_reducible refine Holds.ite ?_ ?_; with_reducible refine Keeps.same ?_; exact Keeps.refl _
  exact Keeps.refl _

theorem State.readFlash_keep (s : State) (src : Nat) : Keeps s (State.readFlash s src) := by
  refine Holds.out ?_
  unfold State.readFlash
  dsimp only; with_reducible refine Keeps.step ?_ (State.setLdr_keep ..); with_reducible refine Keeps.same ?_
  with_reducible refine Keeps.step ?_ (State.ld_keep ..)
  with_reducible refine Keeps.step ?_ (State.beginLoad_keep ..); exact Keeps.refl _

theorem State.goldenStart_keep (s : State) : Keeps s (State.goldenStart s) := by
  refine Holds.out ?_
  unfold State.goldenStart
  with_reducible refine Keeps.step ?_ (State.readFlash_keep ..); exact Keeps.refl _

theorem State.goBare_keep (s : State) : Keeps s (State.goBare s) := by
  refine Holds.out ?_
  unfold State.goBare
  dsimp only; with_reducible refine Keeps.step ?_ (State.stageRun_keep ..)
  with_reducible refine Keeps.same ?_; with_reducible refine Keeps.step ?_ (State.ld_keep ..)
  with_reducible refine Keeps.step ?_ (State.ldrEvent_keep ..)
  with_reducible refine Keeps.step ?_ (State.setLdr_keep ..); exact Keeps.refl _

theorem State.expireNow_keep (s : State) : Keeps s (State.expireNow s) := by
  refine Holds.out ?_
  unfold State.expireNow
  dsimp only; with_reducible refine Holds.ite ?_ ?_
  with_reducible refine Keeps.step ?_ (State.goldenStart_keep ..)
  with_reducible refine Keeps.step ?_ (State.ld_keep ..)
  with_reducible refine Keeps.step ?_ (State.ldrEvent_keep ..)
  with_reducible refine Keeps.step ?_ (State.setLdr_keep ..); exact Keeps.refl _
  with_reducible refine Keeps.step ?_ (State.ld_keep ..)
  with_reducible refine Keeps.step ?_ (State.ldrEvent_keep ..)
  with_reducible refine Keeps.step ?_ (State.setLdr_keep ..); exact Keeps.refl _

theorem State.afterFail_keep (s : State) (src : Nat) (go : Bool) : Keeps s (State.afterFail s src go) := by
  refine Holds.out ?_
  unfold State.afterFail
  with_reducible refine Holds.ite ?_ ?_; with_reducible refine Keeps.step ?_ (State.ld_keep ..)
  exact Keeps.refl _; with_reducible refine Holds.ite ?_ ?_; with_reducible refine Holds.ite ?_ ?_
  with_reducible refine Keeps.step ?_ (State.readFlash_keep ..); exact Keeps.refl _
  with_reducible refine Keeps.step ?_ (State.goBare_keep ..); exact Keeps.refl _; dsimp only
  with_reducible refine Holds.ite ?_ ?_; with_reducible refine Keeps.step ?_ (State.expireNow_keep ..)
  with_reducible refine Keeps.step ?_ (State.ld_keep ..); exact Keeps.refl _
  with_reducible refine Keeps.step ?_ (State.ld_keep ..); exact Keeps.refl _

theorem State.loadFail_keep (s : State) (code info : Nat) (go : Bool) : Keeps s (State.loadFail s code info go) := by
  refine Holds.out ?_
  unfold State.loadFail
  dsimp only; with_reducible refine Keeps.step ?_ (State.afterFail_keep ..)
  with_reducible refine Keeps.step ?_ (State.endLoad_keep ..); with_reducible refine Keeps.same ?_
  with_reducible refine Keeps.step ?_ (State.ldrEvent_keep ..)
  with_reducible refine Keeps.step ?_ (State.setStatus_keep ..); exact Keeps.refl _

theorem State.reject_keep (s : State) (e : Reject) : Keeps s (State.reject s e) := by
  refine Holds.out ?_
  unfold State.reject
  with_reducible refine Keeps.step ?_ (State.loadFail_keep ..); exact Keeps.refl _

theorem State.stagingWake_keep (s : State) : Keeps s (State.stagingWake s) := by
  refine Holds.out ?_
  unfold State.stagingWake
  with_reducible refine Holds.ite ?_ ?_; exact Keeps.refl _
  with_reducible refine Keeps.foldl (fun _ _ => ?_) ?_; with_reducible refine Holds.ite ?_ ?_; dsimp only
  with_reducible refine Keeps.upd ?_ ?_ ?_ ?_ ?_ ?_; exact Keeps.refl _; exact PondsKeep.refl _
  with_reducible refine GKeep.step ?_ (gdRetry_keep ..); exact GKeep.refl _; exact KKeep.refl _
  exact CKeep.refl _; exact QKeep.refl _; exact Keeps.refl _; exact Keeps.refl _

theorem State.stageLine_keep (a : Nat) (bytes : List Byte) (s : State) (line : Nat) : Keeps s (State.stageLine a bytes s line) := by
  refine Holds.out ?_
  unfold State.stageLine
  dsimp only; split; have k := OnSome.at (State.rawAccess_keep ..) ‹_›; refine Keeps.step ?_ k
  exact Keeps.refl _; exact Keeps.refl _

theorem State.stageImg_keep (s : State) (o : Nat) (bytes : List Byte) : Keeps s (State.stageImg s o bytes) := by
  refine Holds.out ?_
  unfold State.stageImg
  with_reducible refine Keeps.foldl (fun _ _ => ?_) ?_
  with_reducible refine Keeps.step ?_ (State.stageLine_keep ..); exact Keeps.refl _; exact Keeps.refl _

theorem Unstaged.line_keep (x : Unstaged) (l : Nat) : Keeps x.s (x.line l).s := by
  unfold Unstaged.line
  cases e : x.s.rawAccess 0 (stageReq l 0 0) false with
  | none => exact Keeps.refl _
  | some y =>
    have k := OnSome.at (P := OnFst (Keeps x.s)) (State.rawAccess_keep ..) e
    obtain ⟨s, a⟩ := y
    dsimp only
    split
    · exact Holds.out (Keeps.step k (Keeps.base _ _))
    · refine Holds.out (Keeps.step k (Holds.out ?_))
      dsimp only
      with_reducible refine Holds.ite (Keeps.base _ _) (Keeps.refl _)

theorem Unstaged.lines_keep (l : List Nat) (x : Unstaged) : Keeps x.s (l.foldl Unstaged.line x).s := by
  induction l generalizing x with
  | nil => exact Keeps.refl _
  | cons a l ih => exact Holds.out (Keeps.step (Unstaged.line_keep x a) (ih _))
theorem Unstaged.cut_s (x : Unstaged) (k n : Nat) : (x.cut k n).s = x.s := rfl
theorem State.unstage_keep (s : State) (o n : Nat) : Keeps s (s.unstage o n).s := by
  unfold State.unstage
  rw [Unstaged.cut_s]
  exact Unstaged.lines_keep _ ⟨s, [], false⟩

theorem State.stageRest_keep (s : State) (h : ImgHdr) : Keeps s (State.stageRest s h) := by
  refine Holds.out ?_
  unfold State.stageRest
  dsimp only; with_reducible refine Holds.ite ?_ ?_; exact Keeps.refl _
  with_reducible refine Keeps.step ?_ (State.ld_keep ..)
  with_reducible refine Keeps.step ?_ (State.stageImg_keep ..); exact Keeps.refl _

theorem State.streamStep_keep (s : State) : Keeps s (State.streamStep s) := by
  refine Holds.out ?_
  unfold State.streamStep
  split; exact Keeps.refl _; with_reducible refine Holds.ite ?_ ?_; dsimp only
  with_reducible refine Holds.ite ?_ ?_; with_reducible refine Keeps.step ?_ (State.ld_keep ..)
  with_reducible refine Keeps.step ?_ (State.unstage_keep ..); exact Keeps.refl _
  with_reducible refine Keeps.step ?_ (State.reject_keep ..)
  with_reducible refine Keeps.step ?_ (State.unstage_keep ..); exact Keeps.refl _; exact Keeps.refl _

theorem State.chunkChecks_keep (s : State) (lastChunk : Bool) : Keeps s (State.chunkChecks s lastChunk) := by
  refine Holds.out ?_
  unfold State.chunkChecks
  split; with_reducible refine Holds.ite ?_ ?_; with_reducible refine Keeps.step ?_ (State.reject_keep ..)
  exact Keeps.refl _; exact Keeps.refl _; with_reducible refine Holds.ite ?_ ?_
  with_reducible refine Keeps.step ?_ (State.reject_keep ..); exact Keeps.refl _; dsimp only; split
  with_reducible refine Keeps.step ?_ (State.reject_keep ..); exact Keeps.refl _
  with_reducible refine Holds.ite ?_ ?_; with_reducible refine Holds.ite ?_ ?_
  with_reducible refine Keeps.step ?_ (State.reject_keep ..); exact Keeps.refl _; exact Keeps.refl _
  with_reducible refine Keeps.step ?_ (State.streamStep_keep ..)
  with_reducible refine Keeps.step ?_ (State.setLdr_keep ..)
  with_reducible refine Keeps.step ?_ (State.setLdr_keep ..); exact Keeps.refl _

theorem State.headerStep_keep (s : State) (lastChunk : Bool) : Keeps s (State.headerStep s lastChunk) := by
  refine Holds.out ?_
  unfold State.headerStep
  split; with_reducible refine Keeps.step ?_ (State.chunkChecks_keep ..)
  with_reducible refine Keeps.step ?_ (State.stageRest_keep ..); exact Keeps.refl _
  with_reducible refine Holds.ite ?_ ?_; with_reducible refine Keeps.step ?_ (State.chunkChecks_keep ..)
  exact Keeps.refl _; split; with_reducible refine Keeps.step ?_ (State.reject_keep ..); exact Keeps.refl _
  with_reducible refine Keeps.step ?_ (State.chunkChecks_keep ..)
  with_reducible refine Keeps.step ?_ (State.stageRest_keep ..)
  with_reducible refine Keeps.step ?_ (State.ld_keep ..); exact Keeps.refl _

theorem State.appendChunk_keep (s : State) (bytes : List Byte) (lastChunk : Bool) : Keeps s (State.appendChunk s bytes lastChunk) := by
  refine Holds.out ?_
  unfold State.appendChunk
  dsimp only; with_reducible refine Holds.ite ?_ ?_
  with_reducible refine Keeps.step ?_ (State.reject_keep ..); exact Keeps.refl _
  with_reducible refine Keeps.step ?_ (State.headerStep_keep ..)
  with_reducible refine Keeps.step ?_ (State.setLdr_keep ..)
  with_reducible refine Keeps.step ?_ (State.noteRcvd_keep ..)
  with_reducible refine Keeps.step ?_ (State.ld_keep ..); exact Keeps.refl _

theorem State.dlvGo_keep (s : State) (last : Bool) : Keeps s (State.dlvGo s last) := by
  refine Holds.out ?_
  unfold State.dlvGo
  with_reducible refine Holds.ite ?_ ?_; with_reducible refine Keeps.step ?_ (State.ldrEvent_keep ..)
  exact Keeps.refl _; dsimp only; with_reducible refine Holds.ite ?_ ?_
  with_reducible refine Keeps.step ?_ (State.reject_keep ..); with_reducible refine Holds.ite ?_ ?_
  with_reducible refine Keeps.step ?_ (State.beginLoad_keep ..); exact Keeps.refl _; exact Keeps.refl _
  with_reducible refine Holds.ite ?_ ?_; with_reducible refine Keeps.step ?_ (State.appendChunk_keep ..)
  with_reducible refine Keeps.step ?_ (State.setLdr_keep ..)
  with_reducible refine Keeps.step ?_ (State.ld_keep ..); with_reducible refine Holds.ite ?_ ?_
  with_reducible refine Keeps.step ?_ (State.beginLoad_keep ..); exact Keeps.refl _; exact Keeps.refl _
  with_reducible refine Holds.ite ?_ ?_; with_reducible refine Keeps.step ?_ (State.setLdr_keep ..)
  with_reducible refine Keeps.step ?_ (State.ld_keep ..); with_reducible refine Holds.ite ?_ ?_
  with_reducible refine Keeps.step ?_ (State.beginLoad_keep ..); exact Keeps.refl _; exact Keeps.refl _
  with_reducible refine Keeps.same ?_; with_reducible refine Keeps.step ?_ (State.setLdr_keep ..)
  with_reducible refine Keeps.step ?_ (State.ld_keep ..); with_reducible refine Holds.ite ?_ ?_
  with_reducible refine Keeps.step ?_ (State.beginLoad_keep ..); exact Keeps.refl _; exact Keeps.refl _

theorem execChunkComplete_keep (bytes : List Byte) (err : Bool) (s : State) : OnNext (Keeps s) (execChunkComplete bytes err s) := by
  refine Holds.out ?_
  unfold execChunkComplete
  with_reducible refine Holds.ite ?_ ?_; with_reducible refine Holds.ite ?_ ?_
  with_reducible refine Holds.next ?_; with_reducible refine Keeps.step ?_ (State.reject_keep ..)
  exact Keeps.refl _; dsimp only; with_reducible refine Holds.ite ?_ ?_; with_reducible refine Holds.next ?_
  with_reducible refine Keeps.step ?_ (State.stagingWake_keep ..); exact Keeps.refl _
  with_reducible refine Holds.ite ?_ ?_; with_reducible refine Holds.next ?_
  with_reducible refine Keeps.step ?_ (State.reject_keep ..)
  with_reducible refine Keeps.step ?_ (State.stagingWake_keep ..); exact Keeps.refl _
  with_reducible refine Holds.ite ?_ ?_; with_reducible refine Holds.next ?_
  with_reducible refine Keeps.step ?_ (State.stagingWake_keep ..); exact Keeps.refl _
  with_reducible refine Holds.next ?_; with_reducible refine Keeps.step ?_ (State.appendChunk_keep ..)
  with_reducible refine Keeps.step ?_ (State.stagingWake_keep ..); exact Keeps.refl _
  with_reducible refine Holds.next ?_; exact Keeps.refl _

theorem execSignatureCheckDone_keep (s : State) : OnNext (Keeps s) (execSignatureCheckDone s) := by
  refine Holds.out ?_
  unfold execSignatureCheckDone
  split; with_reducible refine Holds.next ?_; exact Keeps.refl _; with_reducible refine Holds.ite ?_ ?_
  split; with_reducible refine Holds.next ?_; with_reducible refine Keeps.step ?_ (State.reject_keep ..)
  exact Keeps.refl _; with_reducible refine Holds.next ?_
  with_reducible refine Keeps.step ?_ (State.streamStep_keep ..)
  with_reducible refine Keeps.step ?_ (State.ld_keep ..); exact Keeps.refl _
  with_reducible refine Holds.next ?_; exact Keeps.refl _

theorem State.segStaged_keep (s : State) (i : Nat) : Keeps s (s.segStaged i).s := State.unstage_keep ..

theorem execSegmentVerified_keep (s : State) : OnNext (Keeps s) (execSegmentVerified s) := by
  refine Holds.out ?_
  unfold execSegmentVerified
  split; with_reducible refine Holds.next ?_; exact Keeps.refl _; dsimp only
  with_reducible refine Holds.ite ?_ ?_; with_reducible refine Holds.ite ?_ ?_
  with_reducible refine Holds.next ?_; with_reducible refine Keeps.step ?_ (State.stagingWake_keep ..)
  exact Keeps.refl _; with_reducible refine Holds.ite ?_ ?_; with_reducible refine Holds.next ?_
  with_reducible refine Keeps.step ?_ (State.reject_keep ..)
  with_reducible refine Keeps.step ?_ (State.segStaged_keep ..)
  with_reducible refine Keeps.step ?_ (State.stagingWake_keep ..); exact Keeps.refl _; split
  with_reducible refine Holds.next ?_; with_reducible refine Keeps.step ?_ (State.reject_keep ..)
  with_reducible refine Keeps.step ?_ (State.segStaged_keep ..)
  with_reducible refine Keeps.step ?_ (State.stagingWake_keep ..); exact Keeps.refl _
  with_reducible refine Holds.next ?_; with_reducible refine Keeps.step ?_ (State.streamStep_keep ..)
  with_reducible refine Keeps.step ?_ (State.ld_keep ..)
  with_reducible refine Keeps.step ?_ (State.segStaged_keep ..)
  with_reducible refine Keeps.step ?_ (State.stagingWake_keep ..); exact Keeps.refl _
  with_reducible refine Holds.next ?_; exact Keeps.refl _

theorem State.declareIn_keep (s : State) (h : ImgHdr) (t : Nat) : Keeps s (State.declareIn s h t) := by
  refine Holds.out ?_
  unfold State.declareIn
  dsimp only; with_reducible refine Keeps.step ?_ (State.setCh_keep ..)
  with_reducible refine Keeps.upd ?_ ?_ ?_ ?_ ?_ ?_; exact Keeps.refl _; exact PondsKeep.refl _
  exact GKeep.refl _; exact KKeep.refl _; exact CKeep.upd3 (fun h => h) (clearPlane_wf _ _ _) (fun h => h)
  exact QKeep.refl _

theorem State.declareShell_keep (s : State) (h : ImgHdr) : Keeps s (State.declareShell s h) := by
  refine Holds.out ?_
  unfold State.declareShell
  dsimp only; with_reducible refine Keeps.foldl (fun _ _ => ?_) ?_
  with_reducible refine Keeps.step ?_ (State.shellSwap_keep ..); exact Keeps.refl _
  with_reducible refine Keeps.same ?_; with_reducible refine Keeps.foldl (fun _ _ => ?_) ?_
  with_reducible refine Keeps.step ?_ (State.barC0_keep ..); exact Keeps.refl _
  with_reducible refine Keeps.foldl (fun _ _ => ?_) ?_
  with_reducible refine Keeps.step ?_ (State.declareIn_keep ..); exact Keeps.refl _; exact Keeps.refl _

theorem State.endCtxs_keep (s : State) (t set but : Nat) : Keeps s (State.endCtxs s t set but) := by
  refine Holds.out ?_
  unfold State.endCtxs
  with_reducible refine Keeps.foldl (fun _ _ => ?_) ?_
  with_reducible refine Keeps.step ?_ (State.commitEnd_keep ..); exact Keeps.refl _; exact Keeps.refl _

theorem State.towerDone_keep (s : State) (t : Nat) : Keeps s (State.towerDone s t) := by
  refine Holds.out ?_
  unfold State.towerDone
  with_reducible refine Keeps.step ?_ (State.ld_keep ..); with_reducible refine Keeps.same ?_
  exact Keeps.refl _

theorem State.towerRefresh_keep (s : State) (h : ImgHdr) (t : Nat) (ms : List Nat) : Keeps s (State.towerRefresh s h t ms) := by
  refine Holds.out ?_
  unfold State.towerRefresh
  with_reducible refine Holds.ite ?_ ?_; with_reducible refine Keeps.step ?_ (State.towerDone_keep ..)
  with_reducible refine Keeps.step ?_ (State.endCtxs_keep ..); exact Keeps.refl _
  with_reducible refine Keeps.step ?_ (State.endCtxs_keep ..)
  with_reducible refine Keeps.step ?_ (State.refreshBegin_keep ..); exact Keeps.refl _

theorem State.towerWritten_keep (s : State) (h : ImgHdr) (t : Nat) : Keeps s (State.towerWritten s h t) := by
  refine Holds.out ?_
  unfold State.towerWritten
  dsimp only; with_reducible refine Keeps.step ?_ (State.towerRefresh_keep ..)
  with_reducible refine Keeps.same ?_; exact Keeps.refl _

theorem State.commitStart_keep (s : State) (h : ImgHdr) : Keeps s (State.commitStart s h) := by
  refine Holds.out ?_
  unfold State.commitStart
  dsimp only; with_reducible refine Keeps.step ?_ (State.settle_keep ..)
  with_reducible refine Keeps.foldl (fun _ _ => ?_) ?_; with_reducible refine Holds.ite ?_ ?_
  with_reducible refine Keeps.step ?_ (State.towerWritten_keep ..); exact Keeps.refl _
  with_reducible refine Keeps.same ?_; exact Keeps.refl _
  with_reducible refine Keeps.step ?_ (State.ld_keep ..); with_reducible refine Holds.ite ?_ ?_
  with_reducible refine Keeps.step ?_ (State.declareShell_keep ..)
  with_reducible refine Keeps.foldl (fun _ _ => ?_) ?_; with_reducible refine Keeps.foldl (fun _ _ => ?_) ?_
  with_reducible refine Keeps.step ?_ (State.commitBegin_keep ..); exact Keeps.refl _; exact Keeps.refl _
  with_reducible refine Keeps.step ?_ (State.weFallAll_keep ..)
  with_reducible refine Keeps.step ?_ (State.setLdr_keep ..)
  with_reducible refine Keeps.step ?_ (State.setLdr_keep ..); exact Keeps.refl _
  with_reducible refine Keeps.foldl (fun _ _ => ?_) ?_; with_reducible refine Keeps.foldl (fun _ _ => ?_) ?_
  with_reducible refine Keeps.step ?_ (State.commitBegin_keep ..); exact Keeps.refl _; exact Keeps.refl _
  with_reducible refine Keeps.step ?_ (State.weFallAll_keep ..)
  with_reducible refine Keeps.step ?_ (State.setLdr_keep ..)
  with_reducible refine Keeps.step ?_ (State.setLdr_keep ..); exact Keeps.refl _

theorem State.finalChecks_keep (s : State) (h : ImgHdr) (e : State × Reject) (k : s.finalChecks h = .error e) : Keeps s e.1 := by
  unfold State.finalChecks at k
  split at k
  · cases k; exact State.quarantine_keep ..
  · split at k
    · cases k
    · cases k; exact Keeps.refl _
  · cases k
    exact Holds.out (Keeps.upd (Keeps.refl _) (PondsKeep.refl _) (GKeep.refl _) (KKeep.refl _) (CKeep.refl _) (QKeep.refl _))

theorem execCensusDone_keep (s : State) : OnNext (Keeps s) (execCensusDone s) := by
  refine Holds.out ?_
  unfold execCensusDone
  split
  · exact Holds.next (Keeps.refl _)
  · with_reducible refine Holds.ite ?_ ?_
    · split
      · refine Holds.next (Keeps.step (Keeps.step (Keeps.refl _) (State.finalChecks_keep _ _ _ ‹_›)) (State.reject_keep ..))
      · refine Holds.next ?_
        with_reducible refine Holds.ite (Keeps.refl _) (Keeps.step (Keeps.refl _) (State.commitStart_keep ..))
    · exact Holds.next (Keeps.refl _)

theorem State.ldrReset_keep (s : State) : Keeps s (State.ldrReset s) := by
  refine Holds.out ?_
  unfold State.ldrReset
  dsimp only; with_reducible refine Keeps.step ?_ (State.ld_keep ..); with_reducible refine Keeps.same ?_
  exact Keeps.refl _

theorem State.afterCommit_keep (s : State) : Keeps s (State.afterCommit s) := by
  refine Holds.out ?_
  unfold State.afterCommit
  with_reducible refine Holds.ite ?_ ?_; dsimp only; with_reducible refine Holds.ite ?_ ?_
  with_reducible refine Keeps.step ?_ (State.expireNow_keep ..)
  with_reducible refine Keeps.step ?_ (State.ldrReset_keep ..); exact Keeps.refl _
  with_reducible refine Keeps.step ?_ (State.ldrReset_keep ..); exact Keeps.refl _; dsimp only
  with_reducible refine Holds.ite ?_ ?_; with_reducible refine Keeps.step ?_ (State.goldenStart_keep ..)
  with_reducible refine Keeps.step ?_ (State.ld_keep ..); exact Keeps.refl _
  with_reducible refine Keeps.step ?_ (State.ld_keep ..); exact Keeps.refl _

theorem State.commitFail_keep (s : State) (code : Nat) : Keeps s (State.commitFail s code) := by
  refine Holds.out ?_
  unfold State.commitFail
  split; exact Keeps.refl _; dsimp only; with_reducible refine Keeps.step ?_ (State.afterCommit_keep ..)
  with_reducible refine Keeps.step ?_ (State.loadFail_keep ..)
  with_reducible refine Keeps.foldl (fun _ _ => ?_) ?_
  with_reducible refine Keeps.step ?_ (State.endCtxs_keep ..)
  with_reducible refine Keeps.step ?_ (State.refreshEnd_keep ..); with_reducible refine Keeps.same ?_
  with_reducible refine Holds.ite ?_ ?_; exact Keeps.refl _
  with_reducible refine Keeps.foldl (fun _ _ => ?_) ?_
  with_reducible refine Keeps.step ?_ (State.quarantine_keep ..); exact Keeps.refl _; exact Keeps.refl _
  exact Keeps.refl _

theorem State.zeroFill_keep (s : State) (h : ImgHdr) (t : Nat) : Keeps s (State.zeroFill s h t) := by
  refine Holds.out ?_
  unfold State.zeroFill
  with_reducible refine Keeps.upd ?_ ?_ ?_ ?_ ?_ ?_; exact Keeps.refl _; exact PondsKeep.refl _
  exact GKeep.refl _; exact KKeep.refl _; dsimp only
  exact CKeep.upd3 (fun h => SMap.wf_keep _ _ _ h) (fun h => h) (fun h => h); exact QKeep.refl _

theorem State.writeTargets_keep (s : State) (h : ImgHdr) (t : Nat) (w : LinkWrite) : Keeps s (State.writeTargets s h t w) := by
  refine Holds.out ?_
  unfold State.writeTargets
  with_reducible refine Holds.ite ?_ ?_; with_reducible refine Keeps.step ?_ (State.ld_keep ..)
  with_reducible refine Keeps.step ?_ (State.zeroFill_keep ..); exact Keeps.refl _
  with_reducible refine Keeps.step ?_ (State.ld_keep ..); with_reducible refine Keeps.upd ?_ ?_ ?_ ?_ ?_ ?_
  exact Keeps.refl _; exact PondsKeep.refl _; exact GKeep.refl _; exact KKeep.refl _
  with_reducible refine CKeep.step ?_ (CfgMem.multicast_keep ..); exact CKeep.refl _; exact QKeep.refl _

theorem State.writeKept_keep (h : ImgHdr) (t : Nat) (l : List LinkWrite) (s : State) : Keeps s (s.writeKept h t l).1 := by
  induction l generalizing s with
  | nil => exact Keeps.refl _
  | cons w l ih =>
    unfold State.writeKept
    split
    · exact Keeps.refl _
    · exact Holds.out (Keeps.step (State.writeTargets_keep ..) (ih _))

theorem State.writeLink_keep (s : State) (h : ImgHdr) (t : Nat) (w : LinkWrite) (p : BitVec 4096) (rest : List LinkWrite) : Keeps s (State.writeLink s h t w p rest) := by
  refine Holds.out ?_
  unfold State.writeLink
  dsimp only; with_reducible refine Holds.ite ?_ ?_
  with_reducible refine Keeps.step ?_ (State.towerWritten_keep ..)
  with_reducible refine Keeps.step ?_ (State.ld_keep ..)
  with_reducible refine Keeps.step ?_ (State.writeKept_keep ..)
  with_reducible refine Keeps.step ?_ (State.writeTargets_keep ..); exact Keeps.refl _
  with_reducible refine Keeps.step ?_ (State.ld_keep ..)
  with_reducible refine Keeps.step ?_ (State.writeKept_keep ..)
  with_reducible refine Keeps.step ?_ (State.writeTargets_keep ..); exact Keeps.refl _

theorem State.segAgain_keep (s : State) (h : ImgHdr) (i : Nat) : OnFst (Keeps s) (State.segAgain s h i) := by
  refine Holds.out ?_
  unfold State.segAgain
  dsimp only; with_reducible refine Holds.mk1 ?_
  with_reducible refine Keeps.step ?_ (State.segStaged_keep ..); exact Keeps.refl _

theorem State.payAgain_keep (s : State) (h : ImgHdr) (w : LinkWrite) : OnFst (Keeps s) (State.payAgain s h w) := by
  refine Holds.out ?_
  unfold State.payAgain
  split; with_reducible refine Holds.mk1 ?_; exact Keeps.refl _; dsimp only
  with_reducible refine Holds.mk1 ?_; with_reducible refine Keeps.step ?_ (State.segAgain_keep ..)
  exact Keeps.refl _

theorem execFrameWrite_keep (t : Tower) (poison : Bool) (s : State) : OnNext (Keeps s) (execFrameWrite t poison s) := by
  refine Holds.out ?_
  unfold execFrameWrite
  split; with_reducible refine Holds.ite ?_ ?_; dsimp only; with_reducible refine Holds.ite ?_ ?_
  with_reducible refine Holds.next ?_; with_reducible refine Keeps.step ?_ (State.stagingWake_keep ..)
  exact Keeps.refl _; split; with_reducible refine Holds.next ?_
  with_reducible refine Keeps.step ?_ (State.commitFail_keep ..)
  with_reducible refine Keeps.step ?_ (State.payAgain_keep ..)
  with_reducible refine Keeps.step ?_ (State.stagingWake_keep ..); exact Keeps.refl _
  with_reducible refine Holds.ite ?_ ?_; with_reducible refine Holds.next ?_
  with_reducible refine Keeps.step ?_ (State.commitFail_keep ..); with_reducible refine Keeps.same ?_
  with_reducible refine Keeps.step ?_ (State.payAgain_keep ..)
  with_reducible refine Keeps.step ?_ (State.stagingWake_keep ..); exact Keeps.refl _
  with_reducible refine Holds.next ?_; with_reducible refine Keeps.step ?_ (State.writeLink_keep ..)
  with_reducible refine Keeps.step ?_ (State.payAgain_keep ..)
  with_reducible refine Keeps.step ?_ (State.stagingWake_keep ..); exact Keeps.refl _
  with_reducible refine Holds.next ?_; exact Keeps.refl _; with_reducible refine Holds.next ?_
  exact Keeps.refl _

theorem execCommitRefreshExchange_keep (t : Tower) (s : State) : OnNext (Keeps s) (execCommitRefreshExchange t s) := by
  refine Holds.out ?_
  unfold execCommitRefreshExchange
  with_reducible refine Holds.ite ?_ ?_; with_reducible refine Holds.next ?_; exact Keeps.refl _; dsimp only
  with_reducible refine Holds.next ?_; with_reducible refine Keeps.step ?_ (State.towerDone_keep ..)
  with_reducible refine Keeps.step ?_ (State.endCtxs_keep ..)
  with_reducible refine Keeps.step ?_ (State.ld_keep ..)
  with_reducible refine Keeps.step ?_ (State.refreshDone_keep ..); exact Keeps.refl _

theorem State.noteCommitted_keep (s : State) (h : ImgHdr) : Keeps s (State.noteCommitted s h) := by
  refine Holds.out ?_
  unfold State.noteCommitted
  dsimp only; with_reducible refine Keeps.same ?_; exact Keeps.refl _

theorem State.clearQuar_keep (s : State) (h : ImgHdr) : Keeps s (State.clearQuar s h) := by
  refine Holds.out ?_
  unfold State.clearQuar
  with_reducible refine Keeps.foldl (fun _ _ => ?_) ?_; with_reducible refine Keeps.foldl (fun _ _ => ?_) ?_
  with_reducible refine Keeps.step ?_ (State.unquarantine_keep ..); exact Keeps.refl _; exact Keeps.refl _
  exact Keeps.refl _

theorem State.committed_keep (s : State) (h : ImgHdr) : Keeps s (State.committed s h) := by
  refine Holds.out ?_
  unfold State.committed
  dsimp only; with_reducible refine Keeps.step ?_ (State.afterCommit_keep ..)
  with_reducible refine Holds.ite ?_ ?_; with_reducible refine Keeps.step ?_ (State.expireNow_keep ..)
  with_reducible refine Holds.ite ?_ ?_; with_reducible refine Keeps.step ?_ (State.settle_keep ..)
  with_reducible refine Keeps.step ?_ (State.release_keep ..); with_reducible refine Keeps.same ?_
  with_reducible refine Keeps.step ?_ (State.endLoad_keep ..); with_reducible refine Holds.ite ?_ ?_
  with_reducible refine Holds.ite ?_ ?_; with_reducible refine Keeps.step ?_ (State.ld_keep ..)
  with_reducible refine Keeps.step ?_ (State.setLdr_keep ..)
  with_reducible refine Keeps.step ?_ (State.stageRun_keep ..)
  with_reducible refine Keeps.step ?_ (State.ldrEvent_keep ..)
  with_reducible refine Keeps.step ?_ (State.setStatus_keep ..)
  with_reducible refine Keeps.step ?_ (State.noteCommitted_keep ..)
  with_reducible refine Keeps.step ?_ (State.clearQuar_keep ..); exact Keeps.refl _
  with_reducible refine Keeps.step ?_ (State.stageRun_keep ..)
  with_reducible refine Keeps.step ?_ (State.ldrEvent_keep ..)
  with_reducible refine Keeps.step ?_ (State.setStatus_keep ..)
  with_reducible refine Keeps.step ?_ (State.noteCommitted_keep ..)
  with_reducible refine Keeps.step ?_ (State.clearQuar_keep ..); exact Keeps.refl _
  with_reducible refine Keeps.step ?_ (State.ld_keep ..)
  with_reducible refine Keeps.step ?_ (State.ldrEvent_keep ..); with_reducible refine Holds.ite ?_ ?_
  with_reducible refine Keeps.step ?_ (State.ld_keep ..)
  with_reducible refine Keeps.step ?_ (State.setLdr_keep ..)
  with_reducible refine Keeps.step ?_ (State.stageRun_keep ..)
  with_reducible refine Keeps.step ?_ (State.ldrEvent_keep ..)
  with_reducible refine Keeps.step ?_ (State.setStatus_keep ..)
  with_reducible refine Keeps.step ?_ (State.noteCommitted_keep ..)
  with_reducible refine Keeps.step ?_ (State.clearQuar_keep ..); exact Keeps.refl _
  with_reducible refine Keeps.step ?_ (State.stageRun_keep ..)
  with_reducible refine Keeps.step ?_ (State.ldrEvent_keep ..)
  with_reducible refine Keeps.step ?_ (State.setStatus_keep ..)
  with_reducible refine Keeps.step ?_ (State.noteCommitted_keep ..)
  with_reducible refine Keeps.step ?_ (State.clearQuar_keep ..); exact Keeps.refl _
  with_reducible refine Keeps.step ?_ (State.endLoad_keep ..); with_reducible refine Holds.ite ?_ ?_
  with_reducible refine Holds.ite ?_ ?_; with_reducible refine Keeps.step ?_ (State.ld_keep ..)
  with_reducible refine Keeps.step ?_ (State.setLdr_keep ..)
  with_reducible refine Keeps.step ?_ (State.stageRun_keep ..)
  with_reducible refine Keeps.step ?_ (State.ldrEvent_keep ..)
  with_reducible refine Keeps.step ?_ (State.setStatus_keep ..)
  with_reducible refine Keeps.step ?_ (State.noteCommitted_keep ..)
  with_reducible refine Keeps.step ?_ (State.clearQuar_keep ..); exact Keeps.refl _
  with_reducible refine Keeps.step ?_ (State.stageRun_keep ..)
  with_reducible refine Keeps.step ?_ (State.ldrEvent_keep ..)
  with_reducible refine Keeps.step ?_ (State.setStatus_keep ..)
  with_reducible refine Keeps.step ?_ (State.noteCommitted_keep ..)
  with_reducible refine Keeps.step ?_ (State.clearQuar_keep ..); exact Keeps.refl _
  with_reducible refine Keeps.step ?_ (State.ld_keep ..)
  with_reducible refine Keeps.step ?_ (State.ldrEvent_keep ..); with_reducible refine Holds.ite ?_ ?_
  with_reducible refine Keeps.step ?_ (State.ld_keep ..)
  with_reducible refine Keeps.step ?_ (State.setLdr_keep ..)
  with_reducible refine Keeps.step ?_ (State.stageRun_keep ..)
  with_reducible refine Keeps.step ?_ (State.ldrEvent_keep ..)
  with_reducible refine Keeps.step ?_ (State.setStatus_keep ..)
  with_reducible refine Keeps.step ?_ (State.noteCommitted_keep ..)
  with_reducible refine Keeps.step ?_ (State.clearQuar_keep ..); exact Keeps.refl _
  with_reducible refine Keeps.step ?_ (State.stageRun_keep ..)
  with_reducible refine Keeps.step ?_ (State.ldrEvent_keep ..)
  with_reducible refine Keeps.step ?_ (State.setStatus_keep ..)
  with_reducible refine Keeps.step ?_ (State.noteCommitted_keep ..)
  with_reducible refine Keeps.step ?_ (State.clearQuar_keep ..); exact Keeps.refl _
  with_reducible refine Holds.ite ?_ ?_; with_reducible refine Keeps.step ?_ (State.settle_keep ..)
  with_reducible refine Keeps.step ?_ (State.release_keep ..); with_reducible refine Keeps.same ?_
  with_reducible refine Keeps.step ?_ (State.endLoad_keep ..); with_reducible refine Holds.ite ?_ ?_
  with_reducible refine Holds.ite ?_ ?_; with_reducible refine Keeps.step ?_ (State.ld_keep ..)
  with_reducible refine Keeps.step ?_ (State.setLdr_keep ..)
  with_reducible refine Keeps.step ?_ (State.stageRun_keep ..)
  with_reducible refine Keeps.step ?_ (State.ldrEvent_keep ..)
  with_reducible refine Keeps.step ?_ (State.setStatus_keep ..)
  with_reducible refine Keeps.step ?_ (State.noteCommitted_keep ..)
  with_reducible refine Keeps.step ?_ (State.clearQuar_keep ..); exact Keeps.refl _
  with_reducible refine Keeps.step ?_ (State.stageRun_keep ..)
  with_reducible refine Keeps.step ?_ (State.ldrEvent_keep ..)
  with_reducible refine Keeps.step ?_ (State.setStatus_keep ..)
  with_reducible refine Keeps.step ?_ (State.noteCommitted_keep ..)
  with_reducible refine Keeps.step ?_ (State.clearQuar_keep ..); exact Keeps.refl _
  with_reducible refine Keeps.step ?_ (State.ld_keep ..)
  with_reducible refine Keeps.step ?_ (State.ldrEvent_keep ..); with_reducible refine Holds.ite ?_ ?_
  with_reducible refine Keeps.step ?_ (State.ld_keep ..)
  with_reducible refine Keeps.step ?_ (State.setLdr_keep ..)
  with_reducible refine Keeps.step ?_ (State.stageRun_keep ..)
  with_reducible refine Keeps.step ?_ (State.ldrEvent_keep ..)
  with_reducible refine Keeps.step ?_ (State.setStatus_keep ..)
  with_reducible refine Keeps.step ?_ (State.noteCommitted_keep ..)
  with_reducible refine Keeps.step ?_ (State.clearQuar_keep ..); exact Keeps.refl _
  with_reducible refine Keeps.step ?_ (State.stageRun_keep ..)
  with_reducible refine Keeps.step ?_ (State.ldrEvent_keep ..)
  with_reducible refine Keeps.step ?_ (State.setStatus_keep ..)
  with_reducible refine Keeps.step ?_ (State.noteCommitted_keep ..)
  with_reducible refine Keeps.step ?_ (State.clearQuar_keep ..); exact Keeps.refl _
  with_reducible refine Keeps.step ?_ (State.endLoad_keep ..); with_reducible refine Holds.ite ?_ ?_
  with_reducible refine Holds.ite ?_ ?_; with_reducible refine Keeps.step ?_ (State.ld_keep ..)
  with_reducible refine Keeps.step ?_ (State.setLdr_keep ..)
  with_reducible refine Keeps.step ?_ (State.stageRun_keep ..)
  with_reducible refine Keeps.step ?_ (State.ldrEvent_keep ..)
  with_reducible refine Keeps.step ?_ (State.setStatus_keep ..)
  with_reducible refine Keeps.step ?_ (State.noteCommitted_keep ..)
  with_reducible refine Keeps.step ?_ (State.clearQuar_keep ..); exact Keeps.refl _
  with_reducible refine Keeps.step ?_ (State.stageRun_keep ..)
  with_reducible refine Keeps.step ?_ (State.ldrEvent_keep ..)
  with_reducible refine Keeps.step ?_ (State.setStatus_keep ..)
  with_reducible refine Keeps.step ?_ (State.noteCommitted_keep ..)
  with_reducible refine Keeps.step ?_ (State.clearQuar_keep ..); exact Keeps.refl _
  with_reducible refine Keeps.step ?_ (State.ld_keep ..)
  with_reducible refine Keeps.step ?_ (State.ldrEvent_keep ..); with_reducible refine Holds.ite ?_ ?_
  with_reducible refine Keeps.step ?_ (State.ld_keep ..)
  with_reducible refine Keeps.step ?_ (State.setLdr_keep ..)
  with_reducible refine Keeps.step ?_ (State.stageRun_keep ..)
  with_reducible refine Keeps.step ?_ (State.ldrEvent_keep ..)
  with_reducible refine Keeps.step ?_ (State.setStatus_keep ..)
  with_reducible refine Keeps.step ?_ (State.noteCommitted_keep ..)
  with_reducible refine Keeps.step ?_ (State.clearQuar_keep ..); exact Keeps.refl _
  with_reducible refine Keeps.step ?_ (State.stageRun_keep ..)
  with_reducible refine Keeps.step ?_ (State.ldrEvent_keep ..)
  with_reducible refine Keeps.step ?_ (State.setStatus_keep ..)
  with_reducible refine Keeps.step ?_ (State.noteCommitted_keep ..)
  with_reducible refine Keeps.step ?_ (State.clearQuar_keep ..); exact Keeps.refl _

theorem State.allAgain_keep (s : State) (h : ImgHdr) : OnFst (Keeps s) (State.allAgain s h) := by
  refine Holds.out ?_
  unfold State.allAgain
  refine Keeps.foldl_fst (fun _ _ => ?_) ?_; split; with_reducible refine Holds.mk1 ?_; exact Keeps.refl _
  dsimp only; with_reducible refine Holds.mk1 ?_
  with_reducible refine Keeps.step ?_ (State.segAgain_keep ..); exact Keeps.refl _
  with_reducible refine Holds.mk1 ?_; exact Keeps.refl _

theorem execCommitComplete_keep (s : State) : OnNext (Keeps s) (execCommitComplete s) := by
  refine Holds.out ?_
  unfold execCommitComplete
  split; with_reducible refine Holds.next ?_; exact Keeps.refl _; with_reducible refine Holds.ite ?_ ?_
  dsimp only; with_reducible refine Holds.ite ?_ ?_; with_reducible refine Holds.next ?_
  with_reducible refine Keeps.step ?_ (State.stagingWake_keep ..); exact Keeps.refl _; split
  with_reducible refine Holds.next ?_; with_reducible refine Keeps.step ?_ (State.commitFail_keep ..)
  with_reducible refine Keeps.step ?_ (State.allAgain_keep ..)
  with_reducible refine Keeps.step ?_ (State.stagingWake_keep ..); exact Keeps.refl _
  with_reducible refine Holds.next ?_; with_reducible refine Keeps.step ?_ (State.committed_keep ..)
  with_reducible refine Keeps.step ?_ (State.allAgain_keep ..)
  with_reducible refine Keeps.step ?_ (State.stagingWake_keep ..); exact Keeps.refl _
  with_reducible refine Holds.next ?_; exact Keeps.refl _

theorem execDlvTimeout_keep (s : State) : OnNext (Keeps s) (execDlvTimeout s) := by
  refine Holds.out ?_
  unfold execDlvTimeout
  with_reducible refine Holds.ite ?_ ?_; with_reducible refine Holds.next ?_
  with_reducible refine Keeps.step ?_ (State.reject_keep ..); exact Keeps.refl _
  with_reducible refine Holds.next ?_; exact Keeps.refl _

theorem State.ldrLinkDown_keep (s : State) : Keeps s (State.ldrLinkDown s) := by
  refine Holds.out ?_
  unfold State.ldrLinkDown
  with_reducible refine Holds.ite ?_ ?_; with_reducible refine Keeps.step ?_ (State.reject_keep ..)
  exact Keeps.refl _; exact Keeps.refl _

theorem State.ldrAbort_keep (s : State) : Keeps s (State.ldrAbort s) := by
  refine Holds.out ?_
  unfold State.ldrAbort
  with_reducible refine Holds.ite ?_ ?_; exact Keeps.refl _; with_reducible refine Holds.ite ?_ ?_
  with_reducible refine Keeps.step ?_ (State.ldrEvent_keep ..); exact Keeps.refl _
  with_reducible refine Keeps.step ?_ (State.loadFail_keep ..); exact Keeps.refl _

theorem State.ldrGolden_keep (s : State) : Keeps s (State.ldrGolden s) := by
  refine Holds.out ?_
  unfold State.ldrGolden
  with_reducible refine Holds.ite ?_ ?_; with_reducible refine Keeps.step ?_ (State.ld_keep ..)
  exact Keeps.refl _; dsimp only; with_reducible refine Holds.ite ?_ ?_
  with_reducible refine Keeps.step ?_ (State.goldenStart_keep ..); with_reducible refine Holds.ite ?_ ?_
  exact Keeps.refl _; with_reducible refine Keeps.step ?_ (State.loadFail_keep ..); exact Keeps.refl _
  with_reducible refine Holds.ite ?_ ?_; exact Keeps.refl _
  with_reducible refine Keeps.step ?_ (State.loadFail_keep ..); exact Keeps.refl _

theorem State.windowOpen_keep (s : State) : Keeps s (State.windowOpen s) := by
  refine Holds.out ?_
  unfold State.windowOpen
  with_reducible refine Holds.ite ?_ ?_; dsimp only; with_reducible refine Holds.ite ?_ ?_
  with_reducible refine Keeps.step ?_ (State.expireNow_keep ..)
  with_reducible refine Keeps.step ?_ (State.ld_keep ..)
  with_reducible refine Keeps.step ?_ (State.setLdr_keep ..); exact Keeps.refl _
  with_reducible refine Keeps.step ?_ (State.ld_keep ..)
  with_reducible refine Keeps.step ?_ (State.setLdr_keep ..); exact Keeps.refl _; exact Keeps.refl _

theorem State.windowEnd_keep (s : State) : Keeps s (State.windowEnd s) := by
  refine Holds.out ?_
  unfold State.windowEnd
  dsimp only; with_reducible refine Holds.ite ?_ ?_; with_reducible refine Holds.ite ?_ ?_
  with_reducible refine Keeps.step ?_ (State.ld_keep ..); exact Keeps.refl _
  with_reducible refine Keeps.step ?_ (State.expireNow_keep ..); exact Keeps.refl _; exact Keeps.refl _

theorem execLoadWindowExpiry_keep (s : State) : OnNext (Keeps s) (execLoadWindowExpiry s) := by
  refine Holds.out ?_
  unfold execLoadWindowExpiry
  with_reducible refine Holds.next ?_; with_reducible refine Keeps.step ?_ (State.windowEnd_keep ..)
  exact Keeps.refl _

end Sys2Proof.Machine
end

