-- ==== Sys2Proof/Laws/KeepHopNet.lean ====
section
/-! SUPPORT. What the operations of HopNet keep: the waiting commands and the invariant. -/
namespace Sys2Proof.Machine

theorem State.doorbell_keep (s : State) (q : Nat) (r : HopReq) (write : Bool) : Keeps s (State.doorbell s q r write) := by
  refine Holds.out ?_
  unfold State.doorbell
  split; with_reducible refine Keeps.same ?_; exact Keeps.refl _; dsimp only
  with_reducible refine Keeps.upd ?_ ?_ ?_ ?_ ?_ ?_; exact Keeps.refl _; exact PondsKeep.refl _
  exact GKeep.refl _; exact KKeep.refl _; exact CKeep.refl _
  with_reducible refine QKeep.step ?_ (qDoorbell_keep ..); exact QKeep.refl _

end Sys2Proof.Machine
end

