-- ==== Sys2Proof/Laws/KeepEfmelTx.lean ====
section
/-! SUPPORT. What the operations of EfmelTx keep: the waiting commands and the invariant. -/
namespace Sys2Proof.Machine

theorem State.eflUpd_keep (s : State) (n : Nat) (f : Efl → Efl) : Keeps s (State.eflUpd s n f) := by
  refine Holds.out ?_
  unfold State.eflUpd
  with_reducible refine Keeps.same ?_; exact Keeps.refl _

theorem eflEmit_keep (s : State) (n seq : Nat) (p : Option EflPkt) : Keeps s (eflEmit s n seq p) := by
  refine Holds.out ?_
  unfold eflEmit
  dsimp only; with_reducible refine Keeps.step ?_ (State.eflUpd_keep ..); with_reducible refine Keeps.same ?_
  exact Keeps.refl _

theorem eflReport_keep (s : State) (n : Nat) : Keeps s (eflReport s n) := by
  refine Holds.out ?_
  unfold eflReport
  dsimp only; with_reducible refine Holds.ite ?_ ?_; with_reducible refine Keeps.step ?_ (eflEmit_keep ..)
  exact Keeps.refl _; exact Keeps.refl _

theorem eflSend_keep (s : State) (n : Nat) (p : EflPkt) : Keeps s (eflSend s n p) := by
  refine Holds.out ?_
  unfold eflSend
  dsimp only; with_reducible refine Holds.ite ?_ ?_; with_reducible refine Keeps.step ?_ (eflEmit_keep ..)
  with_reducible refine Keeps.step ?_ (State.eflUpd_keep ..); exact Keeps.refl _
  with_reducible refine Keeps.step ?_ (State.eflUpd_keep ..); exact Keeps.refl _

theorem eflOutst_keep (s : State) (n : Nat) : Keeps s (eflOutst s n) := by
  refine Holds.out ?_
  unfold eflOutst
  dsimp only; with_reducible refine Keeps.same ?_; exact Keeps.refl _

theorem eflOutbound_keep (s : State) (n : Nat) (r : HopReq) (write grant : Bool) : OnSome (OnFst (Keeps s)) (eflOutbound s n r write grant) := by
  refine Holds.out ?_
  unfold eflOutbound
  dsimp only; with_reducible refine Holds.ite ?_ ?_; with_reducible refine Holds.some ?_
  with_reducible refine Holds.mk1 ?_; exact Keeps.refl _; with_reducible refine Holds.ite ?_ ?_
  with_reducible refine Holds.some ?_; with_reducible refine Holds.mk1 ?_
  with_reducible refine Keeps.same ?_; exact Keeps.refl _; with_reducible refine Holds.ite ?_ ?_
  with_reducible refine Holds.some ?_; with_reducible refine Holds.mk1 ?_; exact Keeps.refl _
  with_reducible refine Holds.ite ?_ ?_; exact Holds.none; split; exact Holds.none
  with_reducible refine Holds.ite ?_ ?_; exact Holds.none; with_reducible refine Holds.some ?_
  with_reducible refine Holds.mk1 ?_; with_reducible refine Keeps.step ?_ (eflOutst_keep ..)
  with_reducible refine Holds.ite ?_ ?_; with_reducible refine Keeps.same ?_
  with_reducible refine Holds.ite ?_ ?_; with_reducible refine Keeps.step ?_ (eflSend_keep ..)
  with_reducible refine Keeps.step ?_ (eflSend_keep ..); with_reducible refine Holds.ite ?_ ?_
  with_reducible refine Keeps.same ?_; with_reducible refine Keeps.step ?_ (State.eflUpd_keep ..)
  exact Keeps.refl _; with_reducible refine Keeps.step ?_ (State.eflUpd_keep ..); exact Keeps.refl _
  with_reducible refine Keeps.step ?_ (eflSend_keep ..); with_reducible refine Holds.ite ?_ ?_
  with_reducible refine Keeps.same ?_; with_reducible refine Keeps.step ?_ (State.eflUpd_keep ..)
  exact Keeps.refl _; with_reducible refine Keeps.step ?_ (State.eflUpd_keep ..); exact Keeps.refl _
  with_reducible refine Holds.ite ?_ ?_; with_reducible refine Keeps.step ?_ (eflSend_keep ..)
  with_reducible refine Keeps.step ?_ (eflSend_keep ..); with_reducible refine Holds.ite ?_ ?_
  with_reducible refine Keeps.same ?_; with_reducible refine Keeps.step ?_ (State.eflUpd_keep ..)
  exact Keeps.refl _; with_reducible refine Keeps.step ?_ (State.eflUpd_keep ..); exact Keeps.refl _
  with_reducible refine Keeps.step ?_ (eflSend_keep ..); with_reducible refine Holds.ite ?_ ?_
  with_reducible refine Keeps.same ?_; with_reducible refine Keeps.step ?_ (State.eflUpd_keep ..)
  exact Keeps.refl _; with_reducible refine Keeps.step ?_ (State.eflUpd_keep ..); exact Keeps.refl _

theorem eflFree_keep (s : State) (n tag : Nat) : Keeps s (eflFree s n tag) := by
  refine Holds.out ?_
  unfold eflFree
  with_reducible refine Keeps.step ?_ (eflOutst_keep ..)
  with_reducible refine Keeps.step ?_ (State.eflUpd_keep ..); exact Keeps.refl _

theorem State.cross_keep (s : State) (r : HopReq) (t u : Nat) : Keeps s (State.cross s r t u) := by
  refine Holds.out ?_
  unfold State.cross
  with_reducible refine Keeps.foldl (fun _ _ => ?_) ?_
  with_reducible refine Keeps.step ?_ (State.arbServe_keep ..); exact Keeps.refl _; exact Keeps.refl _

theorem State.serve_keep (s : State) (r : HopReq) (write e grant admitted : Bool) : OnServed (Keeps s) (State.serve s r write e grant admitted) := by
  refine Holds.out ?_
  unfold State.serve
  dsimp only; split; with_reducible refine Holds.ans ?_; with_reducible refine Keeps.same ?_
  exact Keeps.refl _; with_reducible refine Holds.ite ?_ ?_; with_reducible refine Holds.ans ?_
  with_reducible refine Keeps.same ?_; exact Keeps.refl _; with_reducible refine Holds.ite ?_ ?_
  with_reducible refine Holds.ans ?_; with_reducible refine Keeps.same ?_; exact Keeps.refl _
  with_reducible refine Holds.ite ?_ ?_; exact Holds.hold; split; split; with_reducible refine Holds.ans ?_
  have k := OnSome.at (State.coherent_keep ..) ‹_›; refine Keeps.step ?_ k
  with_reducible refine Keeps.step ?_ (State.cross_keep ..); with_reducible refine Keeps.same ?_
  exact Keeps.refl _; exact Holds.hold; split; with_reducible refine Holds.ans ?_
  have k := OnSome.at (State.coherent_keep ..) ‹_›; refine Keeps.step ?_ k
  with_reducible refine Keeps.step ?_ (State.cross_keep ..); with_reducible refine Keeps.same ?_
  exact Keeps.refl _; exact Holds.hold; with_reducible refine Holds.sent ?_
  with_reducible refine Keeps.step ?_ (State.doorbell_keep ..)
  with_reducible refine Keeps.step ?_ (State.cross_keep ..); with_reducible refine Keeps.same ?_
  exact Keeps.refl _; with_reducible refine Holds.ans ?_
  with_reducible refine Keeps.step ?_ (State.cross_keep ..)
  with_reducible refine Keeps.upd ?_ ?_ ?_ ?_ ?_ ?_; exact Keeps.refl _; exact PondsKeep.refl _
  exact GKeep.refl _; with_reducible refine KKeep.step ?_ (gkRequest_keep ..); exact KKeep.refl _
  exact CKeep.refl _; exact QKeep.refl _; split; with_reducible refine Holds.ans ?_
  have k := OnSome.at (eflOutbound_keep ..) ‹_›; refine Keeps.step ?_ k
  with_reducible refine Keeps.step ?_ (State.cross_keep ..); with_reducible refine Keeps.same ?_
  exact Keeps.refl _; with_reducible refine Holds.sent ?_
  have k := OnSome.at (eflOutbound_keep ..) ‹_›; refine Keeps.step ?_ k
  with_reducible refine Keeps.step ?_ (State.cross_keep ..); with_reducible refine Keeps.same ?_
  exact Keeps.refl _; exact Holds.hold; with_reducible refine Holds.ans ?_
  with_reducible refine Keeps.same ?_; exact Keeps.refl _

theorem State.doorbellAnswer_keep (q : Nat) (r : HopReq) (n : Nat) (s : State) :
    OnSome (OnFst (Keeps s)) (State.doorbellAnswer q r n s) := by
  refine Holds.out ?_
  induction n generalizing s with
  | zero => exact Holds.none
  | succ n ih =>
    unfold State.doorbellAnswer
    split
    · exact Holds.some (Holds.mk1 (Keeps.base _ _))
    · split
      · exact Holds.some (Holds.mk1 (Keeps.base _ _))
      · exact Holds.some_mono (Holds.out (ih _)) (fun _ h => Keeps.step (Keeps.step (Keeps.refl _) (qServeWait_keep ..)) h)

theorem State.engineWake_keep (s : State) (r : HopReq) : Keeps s (State.engineWake s r) := by
  refine Holds.out ?_
  unfold State.engineWake
  dsimp only; split; with_reducible refine Keeps.same ?_
  with_reducible refine Keeps.step ?_ (State.wakeWay_keep ..); exact Keeps.refl _
  with_reducible refine Keeps.step ?_ (qWake_keep ..)
  with_reducible refine Keeps.step ?_ (State.wakeWay_keep ..); exact Keeps.refl _
  with_reducible refine Keeps.step ?_ (State.wakeWay_keep ..); exact Keeps.refl _

theorem State.engineAccess_keep (s : State) (r : HopReq) (write : Bool) (remote : List HopRsp) : OnOk (OnFst (Keeps s)) (State.engineAccess s r write remote) := by
  refine Holds.out ?_
  unfold State.engineAccess
  dsimp only; with_reducible refine Holds.ite ?_ ?_; with_reducible refine Holds.ok ?_
  with_reducible refine Holds.mk1 ?_; with_reducible refine Keeps.step ?_ (State.engineDone_keep ..)
  with_reducible refine Keeps.step ?_ (State.engineWake_keep ..); exact Keeps.refl _; split
  with_reducible refine Holds.ok ?_; with_reducible refine Holds.mk1 ?_
  with_reducible refine Keeps.step ?_ (State.engineDone_keep ..)
  have k := (State.serve_keep ..).ans _ _ ‹_›; refine Keeps.step ?_ k
  with_reducible refine Keeps.step ?_ (State.engineWake_keep ..); exact Keeps.refl _; exact Holds.error
  split; split; with_reducible refine Holds.ok ?_; with_reducible refine Holds.mk1 ?_
  with_reducible refine Keeps.step ?_ (State.engineDone_keep ..)
  with_reducible refine Keeps.step ?_ (eflFree_keep ..)
  have k := (State.serve_keep ..).sent _ ‹_›; refine Keeps.step ?_ k
  with_reducible refine Keeps.step ?_ (State.engineWake_keep ..); exact Keeps.refl _; exact Holds.error
  split; with_reducible refine Holds.ok ?_; with_reducible refine Holds.mk1 ?_
  with_reducible refine Keeps.step ?_ (State.engineDone_keep ..)
  have k := OnSome.at (State.doorbellAnswer_keep ..) ‹_›; refine Keeps.step ?_ k
  have k := (State.serve_keep ..).sent _ ‹_›; refine Keeps.step ?_ k
  with_reducible refine Keeps.step ?_ (State.engineWake_keep ..); exact Keeps.refl _; exact Holds.error
  exact Holds.error

end Sys2Proof.Machine
end

