-- ==== Sys2Proof/Laws/KeepGeckoDma.lean ====
section
/-! SUPPORT. What the operations of GeckoDma keep: the waiting commands and the invariant. -/
namespace Sys2Proof.Machine

theorem dmaPush_keep (s : State) (g q : Nat) (w : BitVec 64) : Keeps s (dmaPush s g q w) := by
  refine Holds.out ?_
  unfold dmaPush
  dsimp only; split; with_reducible refine Keeps.same ?_
  with_reducible refine Keeps.step ?_ (State.countAnswer_keep ..); with_reducible refine Keeps.same ?_
  have k := (State.serve_keep ..).ans _ _ ‹_›; refine Keeps.step ?_ k
  with_reducible refine Keeps.step ?_ (State.inject_keep ..)
  with_reducible refine Keeps.step ?_ (State.engineWake_keep ..); exact Keeps.refl _; split
  with_reducible refine Keeps.same ?_; with_reducible refine Keeps.step ?_ (State.countAnswer_keep ..)
  with_reducible refine Keeps.same ?_; have k := (State.serve_keep ..).sent _ ‹_›; refine Keeps.step ?_ k
  with_reducible refine Keeps.step ?_ (State.inject_keep ..)
  with_reducible refine Keeps.step ?_ (State.engineWake_keep ..); exact Keeps.refl _
  have k := (State.serve_keep ..).sent _ ‹_›; refine Keeps.step ?_ k
  with_reducible refine Keeps.step ?_ (State.inject_keep ..)
  with_reducible refine Keeps.step ?_ (State.engineWake_keep ..); exact Keeps.refl _
  with_reducible refine Keeps.step ?_ (State.inject_keep ..)
  with_reducible refine Keeps.step ?_ (State.engineWake_keep ..); exact Keeps.refl _

theorem dmaEnd_keep (s : State) (g n moved ecode : Nat) (poison : Bool) : Keeps s (dmaEnd s g n moved ecode poison) := by
  refine Holds.out ?_
  unfold dmaEnd
  dsimp only; split; exact Keeps.refl _; with_reducible refine Holds.ite ?_ ?_
  with_reducible refine Keeps.step ?_ (dmaPush_keep ..); with_reducible refine Keeps.upd ?_ ?_ ?_ ?_ ?_ ?_
  exact Keeps.refl _; exact PondsKeep.refl _; exact GKeep.refl _
  with_reducible refine KKeep.step ?_ (Geckos.upd_keep ..); exact KKeep.refl _; exact CKeep.refl _
  exact QKeep.refl _; with_reducible refine Keeps.upd ?_ ?_ ?_ ?_ ?_ ?_; exact Keeps.refl _
  exact PondsKeep.refl _; exact GKeep.refl _; with_reducible refine KKeep.step ?_ (Geckos.upd_keep ..)
  exact KKeep.refl _; exact CKeep.refl _; exact QKeep.refl _

theorem dmaKick_keep (s : State) (g n : Nat) : Keeps s (dmaKick s g n) := by
  refine Holds.out ?_
  unfold dmaKick
  split; exact Keeps.refl _; split; with_reducible refine Keeps.step ?_ (dmaEnd_keep ..); exact Keeps.refl _
  exact Keeps.refl _

theorem readLocal_keep (s : State) (g w : Nat) (c : Chan) (lo hi : Nat) : OnFst (Keeps s) (readLocal s g w c lo hi) := by
  refine Holds.out ?_
  unfold readLocal
  dsimp only; with_reducible refine Holds.mk1 ?_; with_reducible refine Holds.fst ?_
  with_reducible refine Holds.ite ?_ ?_; with_reducible refine Holds.mk1 ?_
  with_reducible refine Keeps.same ?_; with_reducible refine Holds.fst ?_
  with_reducible refine Holds.ite ?_ ?_; with_reducible refine Holds.mk1 ?_
  with_reducible refine Keeps.same ?_; exact Keeps.refl _; with_reducible refine Holds.mk1 ?_
  exact Keeps.refl _; with_reducible refine Holds.mk1 ?_; with_reducible refine Holds.fst ?_
  with_reducible refine Holds.ite ?_ ?_; with_reducible refine Holds.mk1 ?_
  with_reducible refine Keeps.same ?_; exact Keeps.refl _; with_reducible refine Holds.mk1 ?_
  exact Keeps.refl _

theorem writeLocal_keep (s : State) (g w : Nat) (c : Chan) (lo hi : Nat) (d : BitVec 512) (pl ph : Bool) : Keeps s (writeLocal s g w c lo hi d pl ph) := by
  refine Holds.out ?_
  unfold writeLocal
  with_reducible refine Keeps.foldl (fun _ _ => ?_) ?_; dsimp only; with_reducible refine Holds.ite ?_ ?_
  with_reducible refine Keeps.upd ?_ ?_ ?_ ?_ ?_ ?_; exact Keeps.refl _; exact PondsKeep.refl _
  exact GKeep.refl _; with_reducible refine KKeep.step ?_ (Geckos.write_keep ..); exact KKeep.refl _
  exact CKeep.refl _; exact QKeep.refl _; exact Keeps.refl _; exact Keeps.refl _

theorem dmaMove_keep (s : State) (g w : Nat) (c : Chan) (remote : List HopRsp) (moved : Nat) (poison : Bool) (n i : Nat) :
    OnOk (OnFst (Keeps s)) (dmaMove s g w c remote moved poison n i) := by
  refine Holds.out ?_
  induction n generalizing s remote moved poison i with
  | zero => exact Holds.ok (Holds.mk1 (Keeps.refl _))
  | succ n ih =>
    unfold dmaMove
    dsimp only
    have r := Keeps.step (Keeps.refl s) (readLocal_keep s g w c (chanBlock c i).1 (chanBlock c i).2)
    with_reducible refine Holds.ite ?_ ?_
    · split
      · exact Holds.error
      · have k := OnOk.at (State.engineAccess_keep ..) ‹_›
        with_reducible refine Holds.ite ?_ ?_
        · exact Holds.ok_mono (Holds.out (ih ..)) (fun _ h => Keeps.step (Keeps.step r k) h)
        · exact Holds.ok (Holds.mk1 (Keeps.step r k))
    · split
      · exact Holds.error
      · have k := OnOk.at (State.engineAccess_keep ..) ‹_›
        with_reducible refine Holds.ite ?_ ?_
        · exact Holds.ok_mono (Holds.out (ih ..))
            (fun _ h => Keeps.step (Keeps.step (Keeps.step (Keeps.refl _) k) (writeLocal_keep ..)) h)
        · with_reducible refine Holds.ite ?_ ?_
          · exact Holds.ok_mono (Holds.out (ih ..)) (fun _ h => Keeps.step (Keeps.step (Keeps.refl _) k) h)
          · exact Holds.ok (Holds.mk1 (Keeps.step (Keeps.refl _) k))

theorem dmaRun_keep (s : State) (g : Nat) (c : Chan) (remote : List HopRsp) : OnOk (OnFst (Keeps s)) (dmaRun s g c remote) := by
  refine Holds.out ?_
  unfold dmaRun
  dsimp only; split; with_reducible refine Holds.ok ?_; with_reducible refine Holds.mk1 ?_
  exact Keeps.refl _; with_reducible refine Holds.ite ?_ ?_; split; with_reducible refine Holds.ok ?_
  with_reducible refine Holds.mk1 ?_; have k := OnOk.at (dmaMove_keep ..) ‹_›; refine Keeps.step ?_ k
  with_reducible refine Keeps.same ?_; exact Keeps.refl _; exact Holds.error
  refine Holds.ok_mono (dmaMove_keep ..) ?_; intro _; intro _; refine Holds.of_fst ?_
  refine Keeps.step ?_ ‹_›; exact Keeps.refl _

end Sys2Proof.Machine
end

