-- ==== Sys2Proof/Laws/KeepGeckoExec.lean ====
section
/-! SUPPORT. What the operations of GeckoExec keep: the waiting commands and the invariant. -/
namespace Sys2Proof.Machine

theorem readCell_keep (s : State) (g : Nat) (c : GCell) : Keeps s (readCell s g c).1 := by
  refine Holds.out ?_; refine Holds.fst ?_
  unfold readCell
  split
  · exact Holds.mk1 (Keeps.base _ _)
  · exact Holds.mk1 (Keeps.upd (Keeps.refl _) (PondsKeep.step (PondsKeep.refl _) (Ponds.forgetA_keep ..)) (GKeep.refl _)
      (KKeep.refl _) (CKeep.refl _) (QKeep.refl _))
  · split
    · exact Holds.mk1 (Keeps.refl _)
    · exact Holds.mk1 (Keeps.refl _)

theorem writeCell_keep (s : State) (g : Nat) (c : GCell) (d : BitVec 256) (be : BitVec 32) (p : Bool) : Keeps s (writeCell s g c d be p) := by
  refine Holds.out ?_
  unfold writeCell
  split; with_reducible refine Keeps.upd ?_ ?_ ?_ ?_ ?_ ?_; exact Keeps.refl _; exact PondsKeep.refl _
  exact GKeep.refl _; with_reducible refine KKeep.step ?_ (Geckos.store_keep ..); exact KKeep.refl _
  exact CKeep.refl _; exact QKeep.refl _; with_reducible refine Keeps.upd ?_ ?_ ?_ ?_ ?_ ?_
  exact Keeps.refl _; with_reducible refine PondsKeep.step ?_ (Ponds.noteA_keep ..)
  with_reducible refine PondsKeep.step ?_ (Ponds.forgetA_keep ..); dsimp only
  with_reducible refine PondsKeep.upd ?_; with_reducible refine PKeep.step ?_ (PadMem.write_keep ..)
  exact PKeep.refl _; exact GKeep.refl _; exact KKeep.refl _; exact CKeep.refl _; exact QKeep.refl _
  with_reducible refine Keeps.upd ?_ ?_ ?_ ?_ ?_ ?_; exact Keeps.refl _; exact PondsKeep.refl _
  exact GKeep.refl _; with_reducible refine KKeep.step ?_ (Geckos.upd_keep ..); exact KKeep.refl _
  exact CKeep.refl _; exact QKeep.refl _

theorem readCells_keep (s : State) (g : Nat) (cs : List GCell) : Keeps s (readCells s g cs).1 := by
  refine Holds.out ?_; refine Holds.fst ?_
  induction cs generalizing s with
  | nil => exact Holds.mk1 (Keeps.refl _)
  | cons c cs ih =>
    unfold readCells
    exact Holds.mk1 (Keeps.step (Keeps.step (Keeps.refl _) (readCell_keep ..)) (Holds.out (ih _)))

theorem doLoad_keep (s : State) (g : Nat) (y : Bool) (k0 k : Gecko) (m : MemSlot) : Keeps s (doLoad s g y k0 k m).1 := by
  refine Holds.out ?_; refine Holds.fst ?_
  unfold doLoad
  split
  · exact Holds.mk1 (Keeps.refl _)
  · with_reducible refine Holds.ite ?_ ?_
    · exact Holds.mk1 (Keeps.step (Keeps.refl _) (readCells_keep ..))
    · exact Holds.mk1 (Keeps.refl _)

theorem clearWhole_keep (s : State) (g : Nat) (ws : List (GCell × BitVec 256 × BitVec 32 × Bool)) : Keeps s (clearWhole s g ws) := by
  refine Holds.out ?_
  unfold clearWhole
  with_reducible refine Keeps.foldl (fun _ _ => ?_) ?_; split; with_reducible refine Holds.ite ?_ ?_
  dsimp only; with_reducible refine Keeps.upd ?_ ?_ ?_ ?_ ?_ ?_; exact Keeps.refl _; exact PondsKeep.refl _
  exact GKeep.refl _; with_reducible refine KKeep.step ?_ (Geckos.upd_keep ..); exact KKeep.refl _
  exact CKeep.refl _; exact QKeep.refl _; exact Keeps.refl _; exact Keeps.refl _; exact Keeps.refl _
  exact Keeps.refl _; exact Keeps.refl _

theorem doStores_keep (s : State) (g : Nat) (ws : List (GCell × BitVec 256 × BitVec 32 × Bool)) : Keeps s (doStores s g ws) := by
  refine Holds.out ?_
  unfold doStores
  with_reducible refine Keeps.step ?_ (clearWhole_keep ..)
  with_reducible refine Keeps.foldl (fun _ _ => ?_) ?_
  with_reducible refine Keeps.step ?_ (writeCell_keep ..); exact Keeps.refl _; exact Keeps.refl _

theorem gkPerform_keep (s : State) (g pc : Nat) (bu : Bundle) (step : Bool) : Keeps s (gkPerform s g pc bu step) := by
  refine Holds.out ?_
  unfold gkPerform
  dsimp only; split; with_reducible refine Holds.ite ?_ ?_; with_reducible refine Keeps.upd ?_ ?_ ?_ ?_ ?_ ?_
  with_reducible refine Keeps.step ?_ (doStores_keep ..)
  with_reducible refine Keeps.step ?_ (doLoad_keep ..); with_reducible refine Keeps.step ?_ (doLoad_keep ..)
  exact Keeps.refl _; exact PondsKeep.refl _; exact GKeep.refl _
  with_reducible refine KKeep.step ?_ (Geckos.put_keep ..); exact KKeep.refl _; exact CKeep.refl _
  exact QKeep.refl _; with_reducible refine Keeps.step ?_ (dmaKick_keep ..)
  with_reducible refine Keeps.upd ?_ ?_ ?_ ?_ ?_ ?_; with_reducible refine Keeps.step ?_ (doStores_keep ..)
  with_reducible refine Keeps.step ?_ (doLoad_keep ..); with_reducible refine Keeps.step ?_ (doLoad_keep ..)
  exact Keeps.refl _; exact PondsKeep.refl _; exact GKeep.refl _
  with_reducible refine KKeep.step ?_ (Geckos.put_keep ..); exact KKeep.refl _; exact CKeep.refl _
  exact QKeep.refl _; with_reducible refine Keeps.upd ?_ ?_ ?_ ?_ ?_ ?_
  with_reducible refine Keeps.step ?_ (doStores_keep ..)
  with_reducible refine Keeps.step ?_ (doLoad_keep ..); with_reducible refine Keeps.step ?_ (doLoad_keep ..)
  exact Keeps.refl _; exact PondsKeep.refl _; exact GKeep.refl _
  with_reducible refine KKeep.step ?_ (Geckos.put_keep ..); exact KKeep.refl _; exact CKeep.refl _
  exact QKeep.refl _

theorem gkHold_keep (s : State) (g : Nat) (k : Gecko) (bu : Bundle) (step : Bool) : Keeps s (gkHold s g k bu step) := by
  refine Holds.out ?_
  unfold gkHold
  with_reducible refine Keeps.upd ?_ ?_ ?_ ?_ ?_ ?_; exact Keeps.refl _; exact PondsKeep.refl _
  exact GKeep.refl _; with_reducible refine KKeep.step ?_ (Geckos.put_keep ..); exact KKeep.refl _
  exact CKeep.refl _; exact QKeep.refl _

theorem gkIssueAt_keep (s : State) (g pc : Nat) (bu : Bundle) (step : Bool) : Keeps s (gkIssueAt s g pc bu step) := by
  refine Holds.out ?_
  unfold gkIssueAt
  dsimp only; split; with_reducible refine Keeps.upd ?_ ?_ ?_ ?_ ?_ ?_; exact Keeps.refl _
  exact PondsKeep.refl _; exact GKeep.refl _; with_reducible refine KKeep.step ?_ (Geckos.put_keep ..)
  exact KKeep.refl _; exact CKeep.refl _; exact QKeep.refl _; with_reducible refine Holds.ite ?_ ?_
  with_reducible refine Keeps.step ?_ (gkHold_keep ..); exact Keeps.refl _
  with_reducible refine Holds.ite ?_ ?_; with_reducible refine Keeps.step ?_ (gkHold_keep ..)
  with_reducible refine Holds.ite ?_ ?_; exact Keeps.refl _; with_reducible refine Keeps.same ?_
  exact Keeps.refl _; with_reducible refine Keeps.step ?_ (gkPerform_keep ..)
  with_reducible refine Holds.ite ?_ ?_; exact Keeps.refl _; with_reducible refine Keeps.same ?_
  exact Keeps.refl _

theorem gkRetry_keep (s : State) (g : Nat) : Keeps s (gkRetry s g) := by
  refine Holds.out ?_
  unfold gkRetry
  split; with_reducible refine Holds.ite ?_ ?_; with_reducible refine Keeps.step ?_ (gkIssueAt_keep ..)
  exact Keeps.refl _; exact Keeps.refl _; exact Keeps.refl _

theorem gkFetchIssue_keep (s : State) (g : Nat) (bu : Bundle) (step : Bool) : Keeps s (gkFetchIssue s g bu step) := by
  refine Holds.out ?_
  unfold gkFetchIssue
  dsimp only; with_reducible refine Holds.ite ?_ ?_; with_reducible refine Keeps.step ?_ (gkIssueAt_keep ..)
  with_reducible refine Keeps.same ?_; exact Keeps.refl _; with_reducible refine Keeps.same ?_
  exact Keeps.refl _

theorem gkCommand_keep (s : State) (g : Nat) (bu : Bundle) : Keeps s (gkCommand s g bu) := by
  refine Holds.out ?_
  unfold gkCommand
  with_reducible refine Holds.ite ?_ ?_; with_reducible refine Keeps.step ?_ (gkFetchIssue_keep ..)
  exact Keeps.refl _; with_reducible refine Holds.ite ?_ ?_
  with_reducible refine Keeps.step ?_ (gkRetry_keep ..); exact Keeps.refl _; exact Keeps.refl _

end Sys2Proof.Machine
end

