-- ==== Sys2Proof/Laws/KeepGecko.lean ====
section
/-! SUPPORT. What the operations of Gecko keep: the waiting commands and the invariant. -/
namespace Sys2Proof.Machine

theorem gkBegin_keep (s : State) (g : Nat) : Keeps s (gkBegin s g) := by
  refine Holds.out ?_
  unfold gkBegin
  dsimp only; with_reducible refine Keeps.upd ?_ ?_ ?_ ?_ ?_ ?_; exact Keeps.refl _; exact PondsKeep.refl _
  exact GKeep.refl _; with_reducible refine KKeep.step ?_ (Geckos.upd_keep ..); exact KKeep.refl _
  exact CKeep.refl _; exact QKeep.refl _

theorem gkStart_keep (s : State) (g : Nat) : Keeps s (gkStart s g) := by
  refine Holds.out ?_
  unfold gkStart
  with_reducible refine Holds.ite ?_ ?_; with_reducible refine Keeps.step ?_ (gkBegin_keep ..)
  with_reducible refine Keeps.upd ?_ ?_ ?_ ?_ ?_ ?_; exact Keeps.refl _; exact PondsKeep.refl _
  exact GKeep.refl _; with_reducible refine KKeep.step ?_ (Geckos.upd_keep ..); exact KKeep.refl _
  exact CKeep.refl _; exact QKeep.refl _; with_reducible refine Keeps.same ?_; exact Keeps.refl _

theorem gkResume_keep (s : State) (g : Nat) : Keeps s (gkResume s g) := by
  refine Holds.out ?_
  unfold gkResume
  with_reducible refine Holds.ite ?_ ?_; dsimp only; with_reducible refine Keeps.step ?_ (gkBegin_keep ..)
  with_reducible refine Keeps.same ?_; exact Keeps.refl _; with_reducible refine Keeps.same ?_
  exact Keeps.refl _

theorem gkStop_keep (s : State) (g : Nat) : Keeps s (gkStop s g) := by
  refine Holds.out ?_
  unfold gkStop
  dsimp only; with_reducible refine Holds.ite ?_ ?_; with_reducible refine Holds.ite ?_ ?_
  with_reducible refine Keeps.upd ?_ ?_ ?_ ?_ ?_ ?_; exact Keeps.refl _; exact PondsKeep.refl _
  exact GKeep.refl _; with_reducible refine KKeep.step ?_ (Geckos.put_keep ..); exact KKeep.refl _
  exact CKeep.refl _; exact QKeep.refl _; with_reducible refine Keeps.upd ?_ ?_ ?_ ?_ ?_ ?_
  exact Keeps.refl _; exact PondsKeep.refl _; exact GKeep.refl _
  with_reducible refine KKeep.step ?_ (Geckos.put_keep ..); exact KKeep.refl _; exact CKeep.refl _
  exact QKeep.refl _; exact Keeps.refl _

theorem gkStep_keep (s : State) (g : Nat) : Keeps s (gkStep s g) := by
  refine Holds.out ?_
  unfold gkStep
  with_reducible refine Holds.ite ?_ ?_; with_reducible refine Keeps.step ?_ (gkFetchIssue_keep ..)
  with_reducible refine Keeps.upd ?_ ?_ ?_ ?_ ?_ ?_; exact Keeps.refl _; exact PondsKeep.refl _
  exact GKeep.refl _; with_reducible refine KKeep.step ?_ (Geckos.upd_keep ..); exact KKeep.refl _
  exact CKeep.refl _; exact QKeep.refl _; exact Keeps.refl _

theorem gkDmaGo_keep (s : State) (g n : Nat) : Keeps s (gkDmaGo s g n) := by
  refine Holds.out ?_
  unfold gkDmaGo
  with_reducible refine Holds.ite ?_ ?_; with_reducible refine Keeps.same ?_; exact Keeps.refl _; dsimp only
  with_reducible refine Keeps.step ?_ (dmaKick_keep ..); with_reducible refine Keeps.upd ?_ ?_ ?_ ?_ ?_ ?_
  exact Keeps.refl _; exact PondsKeep.refl _; exact GKeep.refl _
  with_reducible refine KKeep.step ?_ (Geckos.put_keep ..); exact KKeep.refl _; exact CKeep.refl _
  exact QKeep.refl _

theorem execDmaDone_keep (g : Fin 128) (ch : Fin 4) (remote : List HopRsp) (s : State) : OnNext (Keeps s) (execDmaDone g ch remote s) := by
  refine Holds.out ?_
  unfold execDmaDone
  split; with_reducible refine Holds.next ?_; exact Keeps.refl _; split; with_reducible refine Holds.next ?_
  with_reducible refine Keeps.step ?_ (State.await_keep ..); exact Keeps.refl _
  with_reducible refine Holds.next ?_; with_reducible refine Keeps.step ?_ (gkRetry_keep ..)
  with_reducible refine Keeps.step ?_ (dmaEnd_keep ..)
  have k := OnOk.at (dmaRun_keep ..) ‹_›; refine Keeps.step ?_ k; exact Keeps.refl _

theorem gkFlush_keep (s : State) (g : Nat) : OnSome (Keeps s) (gkFlush s g) := by
  refine Holds.out ?_
  unfold gkFlush
  dsimp only
  refine Holds.map (Q := Keeps s) ?_ (fun a h => ?_)
  · have fold : ∀ (l : SMap (Option CLine)) (o : Option State), OnSome (Keeps s) o →
        OnSome (Keeps s) (l.foldl (fun (o : Option State) e => match o, e.2 with
          | some s, some c => if c.st = 3 then (s.writeBackReq g e.1 c.data c.poison).map fun y =>
              if y.2 then { y.1 with b := wbError y.1.b g e.1 } else y.1 else some s
          | o, _ => o) o) := by
      intro l
      induction l with
      | nil => exact fun _ h => h
      | cons e l ih =>
        refine fun o h => ih _ (Holds.out ?_)
        dsimp only
        split
        · have k := Holds.of (h.all _ rfl)
          with_reducible refine Holds.ite ?_ ?_
          · refine Holds.map (State.writeBackReq_keep ..) (fun y m => ?_)
            with_reducible refine Holds.ite ?_ ?_
            · exact Keeps.step (Keeps.step k m) (Holds.out (Keeps.base _ _))
            · exact Keeps.step k m
          · exact Holds.some k
        · exact h
    exact fold _ _ (Holds.out (Holds.some (Keeps.refl s)))
  · exact Keeps.upd (Holds.of h) (PondsKeep.refl _) (GKeep.refl _) (KKeep.step (KKeep.refl _) (Geckos.upd_keep ..)) (CKeep.refl _)
      (QKeep.refl _)

theorem State.sendBack_keep (s : State) (g l : Nat) (c : CLine) : Keeps s (State.sendBack s g l c) := by
  refine Holds.out ?_
  unfold State.sendBack
  split; with_reducible refine Holds.ite ?_ ?_; dsimp only; with_reducible refine Keeps.same ?_
  have k := OnSome.at (State.writeBackReq_keep ..) ‹_›; refine Keeps.step ?_ k; exact Keeps.refl _
  have k := OnSome.at (State.writeBackReq_keep ..) ‹_›; refine Keeps.step ?_ k; exact Keeps.refl _
  dsimp only; with_reducible refine Keeps.step ?_ (State.holdReq_keep ..)
  with_reducible refine Keeps.step ?_ (State.inject_keep ..); exact Keeps.refl _

theorem gkEmpty_keep (s : State) (g : Nat) : Keeps s (gkEmpty s g) := by
  refine Holds.out ?_
  unfold gkEmpty
  dsimp only; with_reducible refine Keeps.upd ?_ ?_ ?_ ?_ ?_ ?_
  with_reducible refine Keeps.foldl (fun _ _ => ?_) ?_; split; with_reducible refine Holds.ite ?_ ?_
  with_reducible refine Keeps.step ?_ (State.sendBack_keep ..); exact Keeps.refl _; exact Keeps.refl _
  exact Keeps.refl _; exact Keeps.refl _; exact PondsKeep.refl _; exact GKeep.refl _
  with_reducible refine KKeep.step ?_ (Geckos.upd_keep ..); exact KKeep.refl _; exact CKeep.refl _
  exact QKeep.refl _

theorem execWbinvDone_keep (g : Fin 128) (s : State) : OnNext (Keeps s) (execWbinvDone g s) := by
  refine Holds.out ?_
  unfold execWbinvDone
  with_reducible refine Holds.ite ?_ ?_; split; with_reducible refine Holds.next ?_; exact Keeps.refl _
  with_reducible refine Holds.next ?_; with_reducible refine Keeps.step ?_ (gkRetry_keep ..)
  with_reducible refine Keeps.same ?_; have k := OnSome.at (gkFlush_keep ..) ‹_›; refine Keeps.step ?_ k
  exact Keeps.refl _; with_reducible refine Holds.next ?_; exact Keeps.refl _

theorem lineFault_keep (s : State) (g l cause : Nat) : Keeps s (lineFault s g l cause) := by
  refine Holds.out ?_
  unfold lineFault
  split; with_reducible refine Keeps.upd ?_ ?_ ?_ ?_ ?_ ?_; exact Keeps.refl _; exact PondsKeep.refl _
  exact GKeep.refl _; with_reducible refine KKeep.step ?_ (Geckos.upd_keep ..); exact KKeep.refl _
  exact CKeep.refl _; exact QKeep.refl _; exact Keeps.refl _

theorem gkEvict_keep (s : State) (g l : Nat) : OnSome (OnFst (Keeps s)) (gkEvict s g l) := by
  refine Holds.out ?_
  unfold gkEvict
  split; with_reducible refine Holds.some ?_; with_reducible refine Holds.mk1 ?_; exact Keeps.refl _
  dsimp only; split; with_reducible refine Holds.ite ?_ ?_; refine Holds.map (State.writeBackReq_keep ..) ?_
  intro _; intro _; with_reducible refine Holds.mk1 ?_; with_reducible refine Keeps.upd ?_ ?_ ?_ ?_ ?_ ?_
  refine Keeps.step ?_ ‹_›; with_reducible refine Keeps.same ?_; exact Keeps.refl _; exact PondsKeep.refl _
  exact GKeep.refl _; with_reducible refine KKeep.step ?_ (Geckos.upd_keep ..); exact KKeep.refl _
  exact CKeep.refl _; exact QKeep.refl _; with_reducible refine Holds.some ?_
  with_reducible refine Holds.mk1 ?_; with_reducible refine Keeps.upd ?_ ?_ ?_ ?_ ?_ ?_; exact Keeps.refl _
  exact PondsKeep.refl _; exact GKeep.refl _; with_reducible refine KKeep.step ?_ (Geckos.upd_keep ..)
  exact KKeep.refl _; exact CKeep.refl _; exact QKeep.refl _; with_reducible refine Holds.some ?_
  with_reducible refine Holds.mk1 ?_; with_reducible refine Keeps.same ?_; exact Keeps.refl _

theorem gkInstall_keep (s : State) (g l : Nat) (own : Bool) (a : HopRsp) (st : Nat) : Keeps s (gkInstall s g l own a st) := by
  refine Holds.out ?_
  unfold gkInstall
  with_reducible refine Keeps.upd ?_ ?_ ?_ ?_ ?_ ?_; exact Keeps.refl _; exact PondsKeep.refl _
  exact GKeep.refl _; with_reducible refine KKeep.step ?_ (Geckos.upd_keep ..); exact KKeep.refl _
  exact CKeep.refl _; exact QKeep.refl _

theorem fillDone_keep (s : State) (g : Nat) (f : Fill) (a : HopRsp) : Keeps s (fillDone s g f a) := by
  refine Holds.out ?_
  unfold fillDone
  split; exact Keeps.refl _; split; with_reducible refine Keeps.step ?_ (State.countAnswer_keep ..)
  with_reducible refine Keeps.same ?_; exact Keeps.refl _; exact Keeps.refl _

theorem execLineFill_keep (g : Fin 128) (line : BitVec 42) (s : State) : OnNext (Keeps s) (execLineFill g line s) := by
  refine Holds.out ?_
  unfold execLineFill
  dsimp only; split; with_reducible refine Holds.ite ?_ ?_; split; with_reducible refine Holds.next ?_
  exact Keeps.refl _; with_reducible refine Holds.ite ?_ ?_; with_reducible refine Holds.ite ?_ ?_
  with_reducible refine Holds.next ?_; with_reducible refine Keeps.step ?_ (gkRetry_keep ..)
  with_reducible refine Keeps.same ?_; with_reducible refine Keeps.step ?_ (gkInstall_keep ..)
  with_reducible refine Keeps.step ?_ (fillDone_keep ..)
  have k := OnSome.at (gkEvict_keep ..) ‹_›; refine Keeps.step ?_ k; exact Keeps.refl _
  with_reducible refine Holds.next ?_; with_reducible refine Keeps.step ?_ (lineFault_keep ..)
  with_reducible refine Keeps.step ?_ (gkInstall_keep ..)
  with_reducible refine Keeps.step ?_ (fillDone_keep ..)
  have k := OnSome.at (gkEvict_keep ..) ‹_›; refine Keeps.step ?_ k; exact Keeps.refl _
  with_reducible refine Holds.next ?_; with_reducible refine Keeps.step ?_ (gkRetry_keep ..)
  with_reducible refine Keeps.step ?_ (gkInstall_keep ..)
  with_reducible refine Keeps.step ?_ (fillDone_keep ..)
  have k := OnSome.at (gkEvict_keep ..) ‹_›; refine Keeps.step ?_ k; exact Keeps.refl _
  with_reducible refine Holds.next ?_; with_reducible refine Keeps.step ?_ (lineFault_keep ..)
  with_reducible refine Keeps.upd ?_ ?_ ?_ ?_ ?_ ?_; with_reducible refine Keeps.step ?_ (fillDone_keep ..)
  exact Keeps.refl _; exact PondsKeep.refl _; exact GKeep.refl _
  with_reducible refine KKeep.step ?_ (Geckos.upd_keep ..); exact KKeep.refl _; exact CKeep.refl _
  exact QKeep.refl _; with_reducible refine Holds.next ?_; exact Keeps.refl _

theorem gkZero_keep (s : State) (g : Nat) : Keeps s (gkZero s g) := by
  refine Holds.out ?_
  unfold gkZero
  dsimp only; with_reducible refine Holds.ite ?_ ?_; with_reducible refine Keeps.upd ?_ ?_ ?_ ?_ ?_ ?_
  exact Keeps.refl _; exact PondsKeep.refl _; exact GKeep.refl _
  with_reducible refine KKeep.step ?_ (Geckos.upd_keep ..); exact KKeep.refl _; exact CKeep.refl _
  exact QKeep.refl _; with_reducible refine Keeps.same ?_; exact Keeps.refl _

theorem gkZeroMem_keep (x : Geckos) (g : Nat) : KKeep x (gkZeroMem x g) := by
  refine Holds.out ?_
  unfold gkZeroMem
  exact Holds.of ⟨fun h => SMap.wf_keep _ _ _ h⟩

theorem execGeckoZeroDone_keep (g : Fin 128) (s : State) : OnNext (Keeps s) (execGeckoZeroDone g s) := by
  refine Holds.out ?_
  unfold execGeckoZeroDone
  with_reducible refine Holds.ite ?_ ?_; with_reducible refine Holds.next ?_
  with_reducible refine Keeps.upd ?_ ?_ ?_ ?_ ?_ ?_; exact Keeps.refl _; exact PondsKeep.refl _
  exact GKeep.refl _; with_reducible refine KKeep.step ?_ (Geckos.upd_keep ..)
  with_reducible refine KKeep.step ?_ (gkZeroMem_keep ..); exact KKeep.refl _; exact CKeep.refl _
  exact QKeep.refl _; with_reducible refine Holds.next ?_; exact Keeps.refl _

theorem execGeckoMemoryRequest_keep (r : HopReq) (write : Bool) (s : State) : OnNext (Keeps s) (execGeckoMemoryRequest r write s) := by
  refine Holds.out ?_
  unfold execGeckoMemoryRequest
  split; with_reducible refine Holds.ite ?_ ?_; with_reducible refine Holds.next ?_; exact Keeps.refl _
  with_reducible refine Holds.ite ?_ ?_; dsimp only; with_reducible refine Holds.next ?_
  with_reducible refine Keeps.upd ?_ ?_ ?_ ?_ ?_ ?_; exact Keeps.refl _; exact PondsKeep.refl _
  exact GKeep.refl _; with_reducible refine KKeep.step ?_ (gkRequest_keep ..); exact KKeep.refl _
  exact CKeep.refl _; exact QKeep.refl _; with_reducible refine Holds.next ?_
  with_reducible refine Keeps.same ?_; exact Keeps.refl _; with_reducible refine Holds.next ?_
  exact Keeps.refl _

theorem execGeckoEventWake_keep (g : Fin 128) (s : State) : OnNext (Keeps s) (execGeckoEventWake g s) := by
  refine Holds.out ?_
  unfold execGeckoEventWake
  with_reducible refine Holds.ite ?_ ?_; dsimp only; with_reducible refine Holds.next ?_
  with_reducible refine Keeps.same ?_; exact Keeps.refl _; with_reducible refine Holds.next ?_
  exact Keeps.refl _

theorem execGeckoSleep_keep (g : Fin 128) (s : State) : OnNext (Keeps s) (execGeckoSleep g s) := by
  refine Holds.out ?_
  unfold execGeckoSleep
  dsimp only; with_reducible refine Holds.ite ?_ ?_; split; with_reducible refine Holds.next ?_
  exact Keeps.refl _; with_reducible refine Holds.next ?_; with_reducible refine Keeps.same ?_
  have k := OnSome.at (gkFlush_keep ..) ‹_›; refine Keeps.step ?_ k; exact Keeps.refl _
  with_reducible refine Holds.next ?_; exact Keeps.refl _

theorem execNop_keep (g : Fin 128) (slot : Fin 4) (w0 w1 w2 : Word) (s : State) : OnNext (Keeps s) (execNop g slot w0 w1 w2 s) := by
  refine Holds.out ?_
  unfold execNop
  with_reducible refine Holds.next ?_; with_reducible refine Keeps.step ?_ (gkCommand_keep ..)
  exact Keeps.refl _

theorem gkSlot0_keep (s : State) (g : Nat) (i : Slot0) (x y v : Word) : Keeps s (gkSlot0 s g i x y v) := by
  refine Holds.out ?_
  unfold gkSlot0
  with_reducible refine Keeps.step ?_ (gkCommand_keep ..); exact Keeps.refl _

theorem gkSlotM_keep (s : State) (g : Nat) (y : Bool) (i : MemSlot) (w0 other v : Word) : Keeps s (gkSlotM s g y i w0 other v) := by
  refine Holds.out ?_
  unfold gkSlotM
  with_reducible refine Holds.ite ?_ ?_; with_reducible refine Keeps.step ?_ (gkCommand_keep ..)
  exact Keeps.refl _; with_reducible refine Keeps.step ?_ (gkCommand_keep ..); exact Keeps.refl _

theorem gkSlot3_keep (s : State) (g : Nat) (i : VecSlot) (w0 x y : Word) : Keeps s (gkSlot3 s g i w0 x y) := by
  refine Holds.out ?_
  unfold gkSlot3
  with_reducible refine Keeps.step ?_ (gkCommand_keep ..); exact Keeps.refl _

theorem execAdd_keep (g : Fin 128) (sd sa sb : Fin 32) (x y v : Word) (s : State) : OnNext (Keeps s) (execAdd g sd sa sb x y v s) := by
  refine Holds.out ?_
  unfold execAdd
  with_reducible refine Holds.next ?_; with_reducible refine Keeps.step ?_ (gkSlot0_keep ..)
  exact Keeps.refl _

theorem execSub_keep (g : Fin 128) (sd sa sb : Fin 32) (x y v : Word) (s : State) : OnNext (Keeps s) (execSub g sd sa sb x y v s) := by
  refine Holds.out ?_
  unfold execSub
  with_reducible refine Holds.next ?_; with_reducible refine Keeps.step ?_ (gkSlot0_keep ..)
  exact Keeps.refl _

theorem execAnd_keep (g : Fin 128) (sd sa sb : Fin 32) (x y v : Word) (s : State) : OnNext (Keeps s) (execAnd g sd sa sb x y v s) := by
  refine Holds.out ?_
  unfold execAnd
  with_reducible refine Holds.next ?_; with_reducible refine Keeps.step ?_ (gkSlot0_keep ..)
  exact Keeps.refl _

theorem execOr_keep (g : Fin 128) (sd sa sb : Fin 32) (x y v : Word) (s : State) : OnNext (Keeps s) (execOr g sd sa sb x y v s) := by
  refine Holds.out ?_
  unfold execOr
  with_reducible refine Holds.next ?_; with_reducible refine Keeps.step ?_ (gkSlot0_keep ..)
  exact Keeps.refl _

theorem execXor_keep (g : Fin 128) (sd sa sb : Fin 32) (x y v : Word) (s : State) : OnNext (Keeps s) (execXor g sd sa sb x y v s) := by
  refine Holds.out ?_
  unfold execXor
  with_reducible refine Holds.next ?_; with_reducible refine Keeps.step ?_ (gkSlot0_keep ..)
  exact Keeps.refl _

theorem execSll_keep (g : Fin 128) (sd sa sb : Fin 32) (x y v : Word) (s : State) : OnNext (Keeps s) (execSll g sd sa sb x y v s) := by
  refine Holds.out ?_
  unfold execSll
  with_reducible refine Holds.next ?_; with_reducible refine Keeps.step ?_ (gkSlot0_keep ..)
  exact Keeps.refl _

theorem execSrl_keep (g : Fin 128) (sd sa sb : Fin 32) (x y v : Word) (s : State) : OnNext (Keeps s) (execSrl g sd sa sb x y v s) := by
  refine Holds.out ?_
  unfold execSrl
  with_reducible refine Holds.next ?_; with_reducible refine Keeps.step ?_ (gkSlot0_keep ..)
  exact Keeps.refl _

theorem execSra_keep (g : Fin 128) (sd sa sb : Fin 32) (x y v : Word) (s : State) : OnNext (Keeps s) (execSra g sd sa sb x y v s) := by
  refine Holds.out ?_
  unfold execSra
  with_reducible refine Holds.next ?_; with_reducible refine Keeps.step ?_ (gkSlot0_keep ..)
  exact Keeps.refl _

theorem execMul_keep (g : Fin 128) (sd sa sb : Fin 32) (x y v : Word) (s : State) : OnNext (Keeps s) (execMul g sd sa sb x y v s) := by
  refine Holds.out ?_
  unfold execMul
  with_reducible refine Holds.next ?_; with_reducible refine Keeps.step ?_ (gkSlot0_keep ..)
  exact Keeps.refl _

theorem execSlt_keep (g : Fin 128) (sd sa sb : Fin 32) (x y v : Word) (s : State) : OnNext (Keeps s) (execSlt g sd sa sb x y v s) := by
  refine Holds.out ?_
  unfold execSlt
  with_reducible refine Holds.next ?_; with_reducible refine Keeps.step ?_ (gkSlot0_keep ..)
  exact Keeps.refl _

theorem execSltu_keep (g : Fin 128) (sd sa sb : Fin 32) (x y v : Word) (s : State) : OnNext (Keeps s) (execSltu g sd sa sb x y v s) := by
  refine Holds.out ?_
  unfold execSltu
  with_reducible refine Holds.next ?_; with_reducible refine Keeps.step ?_ (gkSlot0_keep ..)
  exact Keeps.refl _

theorem execMov_keep (g : Fin 128) (sd sa : Fin 32) (x y v : Word) (s : State) : OnNext (Keeps s) (execMov g sd sa x y v s) := by
  refine Holds.out ?_
  unfold execMov
  with_reducible refine Holds.next ?_; with_reducible refine Keeps.step ?_ (gkSlot0_keep ..)
  exact Keeps.refl _

theorem execAddi_keep (g : Fin 128) (sd sa : Fin 32) (imm : BitVec 16) (x y v : Word) (s : State) : OnNext (Keeps s) (execAddi g sd sa imm x y v s) := by
  refine Holds.out ?_
  unfold execAddi
  with_reducible refine Holds.next ?_; with_reducible refine Keeps.step ?_ (gkSlot0_keep ..)
  exact Keeps.refl _

theorem execAndi_keep (g : Fin 128) (sd sa : Fin 32) (imm : BitVec 16) (x y v : Word) (s : State) : OnNext (Keeps s) (execAndi g sd sa imm x y v s) := by
  refine Holds.out ?_
  unfold execAndi
  with_reducible refine Holds.next ?_; with_reducible refine Keeps.step ?_ (gkSlot0_keep ..)
  exact Keeps.refl _

theorem execOri_keep (g : Fin 128) (sd sa : Fin 32) (imm : BitVec 16) (x y v : Word) (s : State) : OnNext (Keeps s) (execOri g sd sa imm x y v s) := by
  refine Holds.out ?_
  unfold execOri
  with_reducible refine Holds.next ?_; with_reducible refine Keeps.step ?_ (gkSlot0_keep ..)
  exact Keeps.refl _

theorem execXori_keep (g : Fin 128) (sd sa : Fin 32) (imm : BitVec 16) (x y v : Word) (s : State) : OnNext (Keeps s) (execXori g sd sa imm x y v s) := by
  refine Holds.out ?_
  unfold execXori
  with_reducible refine Holds.next ?_; with_reducible refine Keeps.step ?_ (gkSlot0_keep ..)
  exact Keeps.refl _

theorem execSlli_keep (g : Fin 128) (sd sa : Fin 32) (imm : BitVec 16) (x y v : Word) (s : State) : OnNext (Keeps s) (execSlli g sd sa imm x y v s) := by
  refine Holds.out ?_
  unfold execSlli
  with_reducible refine Holds.next ?_; with_reducible refine Keeps.step ?_ (gkSlot0_keep ..)
  exact Keeps.refl _

theorem execSrli_keep (g : Fin 128) (sd sa : Fin 32) (imm : BitVec 16) (x y v : Word) (s : State) : OnNext (Keeps s) (execSrli g sd sa imm x y v s) := by
  refine Holds.out ?_
  unfold execSrli
  with_reducible refine Holds.next ?_; with_reducible refine Keeps.step ?_ (gkSlot0_keep ..)
  exact Keeps.refl _

theorem execSrai_keep (g : Fin 128) (sd sa : Fin 32) (imm : BitVec 16) (x y v : Word) (s : State) : OnNext (Keeps s) (execSrai g sd sa imm x y v s) := by
  refine Holds.out ?_
  unfold execSrai
  with_reducible refine Holds.next ?_; with_reducible refine Keeps.step ?_ (gkSlot0_keep ..)
  exact Keeps.refl _

theorem execSlti_keep (g : Fin 128) (sd sa : Fin 32) (imm : BitVec 16) (x y v : Word) (s : State) : OnNext (Keeps s) (execSlti g sd sa imm x y v s) := by
  refine Holds.out ?_
  unfold execSlti
  with_reducible refine Holds.next ?_; with_reducible refine Keeps.step ?_ (gkSlot0_keep ..)
  exact Keeps.refl _

theorem execLui_keep (g : Fin 128) (sd : Fin 32) (imm : BitVec 16) (x y v : Word) (s : State) : OnNext (Keeps s) (execLui g sd imm x y v s) := by
  refine Holds.out ?_
  unfold execLui
  with_reducible refine Holds.next ?_; with_reducible refine Keeps.step ?_ (gkSlot0_keep ..)
  exact Keeps.refl _

theorem execBr_keep (g : Fin 128) (target : Fin 4096) (x y v : Word) (s : State) : OnNext (Keeps s) (execBr g target x y v s) := by
  refine Holds.out ?_
  unfold execBr
  with_reducible refine Holds.next ?_; with_reducible refine Keeps.step ?_ (gkSlot0_keep ..)
  exact Keeps.refl _

theorem execBeqz_keep (g : Fin 128) (sa : Fin 32) (target : Fin 4096) (x y v : Word) (s : State) : OnNext (Keeps s) (execBeqz g sa target x y v s) := by
  refine Holds.out ?_
  unfold execBeqz
  with_reducible refine Holds.next ?_; with_reducible refine Keeps.step ?_ (gkSlot0_keep ..)
  exact Keeps.refl _

theorem execBnez_keep (g : Fin 128) (sa : Fin 32) (target : Fin 4096) (x y v : Word) (s : State) : OnNext (Keeps s) (execBnez g sa target x y v s) := by
  refine Holds.out ?_
  unfold execBnez
  with_reducible refine Holds.next ?_; with_reducible refine Keeps.step ?_ (gkSlot0_keep ..)
  exact Keeps.refl _

theorem execBltz_keep (g : Fin 128) (sa : Fin 32) (target : Fin 4096) (x y v : Word) (s : State) : OnNext (Keeps s) (execBltz g sa target x y v s) := by
  refine Holds.out ?_
  unfold execBltz
  with_reducible refine Holds.next ?_; with_reducible refine Keeps.step ?_ (gkSlot0_keep ..)
  exact Keeps.refl _

theorem execBgez_keep (g : Fin 128) (sa : Fin 32) (target : Fin 4096) (x y v : Word) (s : State) : OnNext (Keeps s) (execBgez g sa target x y v s) := by
  refine Holds.out ?_
  unfold execBgez
  with_reducible refine Holds.next ?_; with_reducible refine Keeps.step ?_ (gkSlot0_keep ..)
  exact Keeps.refl _

theorem execJal_keep (g : Fin 128) (sd : Fin 32) (target : Fin 4096) (x y v : Word) (s : State) : OnNext (Keeps s) (execJal g sd target x y v s) := by
  refine Holds.out ?_
  unfold execJal
  with_reducible refine Holds.next ?_; with_reducible refine Keeps.step ?_ (gkSlot0_keep ..)
  exact Keeps.refl _

theorem execJr_keep (g : Fin 128) (sa : Fin 32) (x y v : Word) (s : State) : OnNext (Keeps s) (execJr g sa x y v s) := by
  refine Holds.out ?_
  unfold execJr
  with_reducible refine Holds.next ?_; with_reducible refine Keeps.step ?_ (gkSlot0_keep ..)
  exact Keeps.refl _

theorem execLoop_keep (g : Fin 128) (sa : Fin 32) (fin : Fin 4096) (x y v : Word) (s : State) : OnNext (Keeps s) (execLoop g sa fin x y v s) := by
  refine Holds.out ?_
  unfold execLoop
  with_reducible refine Holds.next ?_; with_reducible refine Keeps.step ?_ (gkSlot0_keep ..)
  exact Keeps.refl _

theorem execLoopi_keep (g : Fin 128) (n : Fin 16384) (fin : Fin 4096) (x y v : Word) (s : State) : OnNext (Keeps s) (execLoopi g n fin x y v s) := by
  refine Holds.out ?_
  unfold execLoopi
  with_reducible refine Holds.next ?_; with_reducible refine Keeps.step ?_ (gkSlot0_keep ..)
  exact Keeps.refl _

theorem execMvag_keep (g : Fin 128) (n : Fin 8) (f : AgField) (sa : Fin 32) (x y v : Word) (s : State) : OnNext (Keeps s) (execMvag g n f sa x y v s) := by
  refine Holds.out ?_
  unfold execMvag
  with_reducible refine Holds.next ?_; with_reducible refine Keeps.step ?_ (gkSlot0_keep ..)
  exact Keeps.refl _

theorem execMvga_keep (g : Fin 128) (sd : Fin 32) (n : Fin 8) (f : AgField) (x y v : Word) (s : State) : OnNext (Keeps s) (execMvga g sd n f x y v s) := by
  refine Holds.out ?_
  unfold execMvga
  with_reducible refine Holds.next ?_; with_reducible refine Keeps.step ?_ (gkSlot0_keep ..)
  exact Keeps.refl _

theorem execAgc_keep (g : Fin 128) (mask : BitVec 8) (x y v : Word) (s : State) : OnNext (Keeps s) (execAgc g mask x y v s) := by
  refine Holds.out ?_
  unfold execAgc
  with_reducible refine Holds.next ?_; with_reducible refine Keeps.step ?_ (gkSlot0_keep ..)
  exact Keeps.refl _

theorem execMvgs_keep (g : Fin 128) (sd : Fin 32) (x y v : Word) (s : State) : OnNext (Keeps s) (execMvgs g sd x y v s) := by
  refine Holds.out ?_
  unfold execMvgs
  with_reducible refine Holds.next ?_; with_reducible refine Keeps.step ?_ (gkSlot0_keep ..)
  exact Keeps.refl _

theorem execSetov_keep (g : Fin 128) (b : Bool) (x y v : Word) (s : State) : OnNext (Keeps s) (execSetov g b x y v s) := by
  refine Holds.out ?_
  unfold execSetov
  with_reducible refine Holds.next ?_; with_reducible refine Keeps.step ?_ (gkSlot0_keep ..)
  exact Keeps.refl _

theorem execDma_keep (g : Fin 128) (ch : Fin 4) (sa : Fin 32) (dir qen : Bool) (x y v : Word) (s : State) : OnNext (Keeps s) (execDma g ch sa dir qen x y v s) := by
  refine Holds.out ?_
  unfold execDma
  with_reducible refine Holds.next ?_; with_reducible refine Keeps.step ?_ (gkSlot0_keep ..)
  exact Keeps.refl _

theorem execDwait_keep (g : Fin 128) (ch : Fin 4) (x y v : Word) (s : State) : OnNext (Keeps s) (execDwait g ch x y v s) := by
  refine Holds.out ?_
  unfold execDwait
  with_reducible refine Holds.next ?_; with_reducible refine Keeps.step ?_ (gkSlot0_keep ..)
  exact Keeps.refl _

theorem execWait_keep (g : Fin 128) (e : Fin 4) (x y v : Word) (s : State) : OnNext (Keeps s) (execWait g e x y v s) := by
  refine Holds.out ?_
  unfold execWait
  with_reducible refine Holds.next ?_; with_reducible refine Keeps.step ?_ (gkSlot0_keep ..)
  exact Keeps.refl _

theorem execHalt_keep (g : Fin 128) (x y v : Word) (s : State) : OnNext (Keeps s) (execHalt g x y v s) := by
  refine Holds.out ?_
  unfold execHalt
  with_reducible refine Holds.next ?_; with_reducible refine Keeps.step ?_ (gkSlot0_keep ..)
  exact Keeps.refl _

theorem execLoopEnd_keep (g : Fin 128) (s : State) : OnNext (Keeps s) (execLoopEnd g s) := by
  refine Holds.out ?_
  unfold execLoopEnd
  dsimp only; with_reducible refine Holds.ite ?_ ?_; with_reducible refine Holds.next ?_
  with_reducible refine Keeps.step ?_ (gkCommand_keep ..); exact Keeps.refl _
  with_reducible refine Holds.next ?_; exact Keeps.refl _

theorem execLdv_keep (g : Fin 128) (y : Bool) (vd : Fin 16) (a : AddrForm) (w0 other v : Word) (s : State) : OnNext (Keeps s) (execLdv g y vd a w0 other v s) := by
  refine Holds.out ?_
  unfold execLdv
  with_reducible refine Holds.next ?_; with_reducible refine Keeps.step ?_ (gkSlotM_keep ..)
  exact Keeps.refl _

theorem execStv_keep (g : Fin 128) (y : Bool) (vs : Fin 16) (a : AddrForm) (k : Fin 8) (w0 other v : Word) (s : State) : OnNext (Keeps s) (execStv g y vs a k w0 other v s) := by
  refine Holds.out ?_
  unfold execStv
  with_reducible refine Holds.next ?_; with_reducible refine Keeps.step ?_ (gkSlotM_keep ..)
  exact Keeps.refl _

theorem execLds_keep (g : Fin 128) (y : Bool) (sd : Fin 32) (a : AddrForm) (w0 other v : Word) (s : State) : OnNext (Keeps s) (execLds g y sd a w0 other v s) := by
  refine Holds.out ?_
  unfold execLds
  with_reducible refine Holds.next ?_; with_reducible refine Keeps.step ?_ (gkSlotM_keep ..)
  exact Keeps.refl _

theorem execSts_keep (g : Fin 128) (y : Bool) (ss : Fin 32) (a : AddrForm) (w0 other v : Word) (s : State) : OnNext (Keeps s) (execSts g y ss a w0 other v s) := by
  refine Holds.out ?_
  unfold execSts
  with_reducible refine Holds.next ?_; with_reducible refine Keeps.step ?_ (gkSlotM_keep ..)
  exact Keeps.refl _

theorem execLdbh_keep (g : Fin 128) (y : Bool) (vd : Fin 16) (a : AddrForm) (w0 other v : Word) (s : State) : OnNext (Keeps s) (execLdbh g y vd a w0 other v s) := by
  refine Holds.out ?_
  unfold execLdbh
  with_reducible refine Holds.next ?_; with_reducible refine Keeps.step ?_ (gkSlotM_keep ..)
  exact Keeps.refl _

theorem execLdbb_keep (g : Fin 128) (y : Bool) (vd : Fin 16) (a : AddrForm) (w0 other v : Word) (s : State) : OnNext (Keeps s) (execLdbb g y vd a w0 other v s) := by
  refine Holds.out ?_
  unfold execLdbb
  with_reducible refine Holds.next ?_; with_reducible refine Keeps.step ?_ (gkSlotM_keep ..)
  exact Keeps.refl _

theorem execPref_keep (g : Fin 128) (y : Bool) (a : AddrForm) (w0 other v : Word) (s : State) : OnNext (Keeps s) (execPref g y a w0 other v s) := by
  refine Holds.out ?_
  unfold execPref
  with_reducible refine Holds.next ?_; with_reducible refine Keeps.step ?_ (gkSlotM_keep ..)
  exact Keeps.refl _

theorem execVmac_keep (g : Fin 128) (w sat : Bool) (acd : Fin 4) (va vb : Fin 16) (k : Fin 8) (w0 x y : Word) (s : State) : OnNext (Keeps s) (execVmac g w sat acd va vb k w0 x y s) := by
  refine Holds.out ?_
  unfold execVmac
  with_reducible refine Holds.next ?_; with_reducible refine Keeps.step ?_ (gkSlot3_keep ..)
  exact Keeps.refl _

theorem execVmsu_keep (g : Fin 128) (w sat : Bool) (acd : Fin 4) (va vb : Fin 16) (k : Fin 8) (w0 x y : Word) (s : State) : OnNext (Keeps s) (execVmsu g w sat acd va vb k w0 x y s) := by
  refine Holds.out ?_
  unfold execVmsu
  with_reducible refine Holds.next ?_; with_reducible refine Keeps.step ?_ (gkSlot3_keep ..)
  exact Keeps.refl _

theorem execVmul_keep (g : Fin 128) (w sat : Bool) (acd : Fin 4) (va vb : Fin 16) (k : Fin 8) (w0 x y : Word) (s : State) : OnNext (Keeps s) (execVmul g w sat acd va vb k w0 x y s) := by
  refine Holds.out ?_
  unfold execVmul
  with_reducible refine Holds.next ?_; with_reducible refine Keeps.step ?_ (gkSlot3_keep ..)
  exact Keeps.refl _

theorem execVclr_keep (g : Fin 128) (w : Bool) (acd : Fin 4) (k : Fin 8) (w0 x y : Word) (s : State) : OnNext (Keeps s) (execVclr g w acd k w0 x y s) := by
  refine Holds.out ?_
  unfold execVclr
  with_reducible refine Holds.next ?_; with_reducible refine Keeps.step ?_ (gkSlot3_keep ..)
  exact Keeps.refl _

theorem execVldac_keep (g : Fin 128) (w : Bool) (acd : Fin 4) (va : Fin 16) (k : Fin 8) (w0 x y : Word) (s : State) : OnNext (Keeps s) (execVldac g w acd va k w0 x y s) := by
  refine Holds.out ?_
  unfold execVldac
  with_reducible refine Holds.next ?_; with_reducible refine Keeps.step ?_ (gkSlot3_keep ..)
  exact Keeps.refl _

theorem execVshr_keep (g : Fin 128) (w sat : Bool) (vd : Fin 16) (aca : Fin 4) (n : Fin 64) (k : Fin 8) (w0 x y : Word) (s : State) : OnNext (Keeps s) (execVshr g w sat vd aca n k w0 x y s) := by
  refine Holds.out ?_
  unfold execVshr
  with_reducible refine Holds.next ?_; with_reducible refine Keeps.step ?_ (gkSlot3_keep ..)
  exact Keeps.refl _

theorem execClrov_keep (g : Fin 128) (w : Bool) (acd : Fin 4) (k : Fin 8) (w0 x y : Word) (s : State) : OnNext (Keeps s) (execClrov g w acd k w0 x y s) := by
  refine Holds.out ?_
  unfold execClrov
  with_reducible refine Holds.next ?_; with_reducible refine Keeps.step ?_ (gkSlot3_keep ..)
  exact Keeps.refl _

theorem execVadd_keep (g : Fin 128) (w sat : Bool) (vd va vb : Fin 16) (k : Fin 8) (w0 x y : Word) (s : State) : OnNext (Keeps s) (execVadd g w sat vd va vb k w0 x y s) := by
  refine Holds.out ?_
  unfold execVadd
  with_reducible refine Holds.next ?_; with_reducible refine Keeps.step ?_ (gkSlot3_keep ..)
  exact Keeps.refl _

theorem execVsub_keep (g : Fin 128) (w sat : Bool) (vd va vb : Fin 16) (k : Fin 8) (w0 x y : Word) (s : State) : OnNext (Keeps s) (execVsub g w sat vd va vb k w0 x y s) := by
  refine Holds.out ?_
  unfold execVsub
  with_reducible refine Holds.next ?_; with_reducible refine Keeps.step ?_ (gkSlot3_keep ..)
  exact Keeps.refl _

theorem execVmin_keep (g : Fin 128) (w : Bool) (vd va vb : Fin 16) (k : Fin 8) (w0 x y : Word) (s : State) : OnNext (Keeps s) (execVmin g w vd va vb k w0 x y s) := by
  refine Holds.out ?_
  unfold execVmin
  with_reducible refine Holds.next ?_; with_reducible refine Keeps.step ?_ (gkSlot3_keep ..)
  exact Keeps.refl _

theorem execVmax_keep (g : Fin 128) (w : Bool) (vd va vb : Fin 16) (k : Fin 8) (w0 x y : Word) (s : State) : OnNext (Keeps s) (execVmax g w vd va vb k w0 x y s) := by
  refine Holds.out ?_
  unfold execVmax
  with_reducible refine Holds.next ?_; with_reducible refine Keeps.step ?_ (gkSlot3_keep ..)
  exact Keeps.refl _

theorem execVand_keep (g : Fin 128) (w : Bool) (vd va vb : Fin 16) (k : Fin 8) (w0 x y : Word) (s : State) : OnNext (Keeps s) (execVand g w vd va vb k w0 x y s) := by
  refine Holds.out ?_
  unfold execVand
  with_reducible refine Holds.next ?_; with_reducible refine Keeps.step ?_ (gkSlot3_keep ..)
  exact Keeps.refl _

theorem execVor_keep (g : Fin 128) (w : Bool) (vd va vb : Fin 16) (k : Fin 8) (w0 x y : Word) (s : State) : OnNext (Keeps s) (execVor g w vd va vb k w0 x y s) := by
  refine Holds.out ?_
  unfold execVor
  with_reducible refine Holds.next ?_; with_reducible refine Keeps.step ?_ (gkSlot3_keep ..)
  exact Keeps.refl _

theorem execVxor_keep (g : Fin 128) (w : Bool) (vd va vb : Fin 16) (k : Fin 8) (w0 x y : Word) (s : State) : OnNext (Keeps s) (execVxor g w vd va vb k w0 x y s) := by
  refine Holds.out ?_
  unfold execVxor
  with_reducible refine Holds.next ?_; with_reducible refine Keeps.step ?_ (gkSlot3_keep ..)
  exact Keeps.refl _

theorem execVshl_keep (g : Fin 128) (w sat : Bool) (vd va : Fin 16) (n : Fin 512) (k : Fin 8) (w0 x y : Word) (s : State) : OnNext (Keeps s) (execVshl g w sat vd va n k w0 x y s) := by
  refine Holds.out ?_
  unfold execVshl
  with_reducible refine Holds.next ?_; with_reducible refine Keeps.step ?_ (gkSlot3_keep ..)
  exact Keeps.refl _

theorem execVsra_keep (g : Fin 128) (w : Bool) (vd va : Fin 16) (n : Fin 512) (k : Fin 8) (w0 x y : Word) (s : State) : OnNext (Keeps s) (execVsra g w vd va n k w0 x y s) := by
  refine Holds.out ?_
  unfold execVsra
  with_reducible refine Holds.next ?_; with_reducible refine Keeps.step ?_ (gkSlot3_keep ..)
  exact Keeps.refl _

theorem execVmov_keep (g : Fin 128) (w : Bool) (vd va : Fin 16) (k : Fin 8) (w0 x y : Word) (s : State) : OnNext (Keeps s) (execVmov g w vd va k w0 x y s) := by
  refine Holds.out ?_
  unfold execVmov
  with_reducible refine Holds.next ?_; with_reducible refine Keeps.step ?_ (gkSlot3_keep ..)
  exact Keeps.refl _

theorem execVsel_keep (g : Fin 128) (w : Bool) (vd va vb : Fin 16) (k : Fin 8) (w0 x y : Word) (s : State) : OnNext (Keeps s) (execVsel g w vd va vb k w0 x y s) := by
  refine Holds.out ?_
  unfold execVsel
  with_reducible refine Holds.next ?_; with_reducible refine Keeps.step ?_ (gkSlot3_keep ..)
  exact Keeps.refl _

theorem execVbc_keep (g : Fin 128) (w : Bool) (vd : Fin 16) (sa : Fin 32) (k : Fin 8) (w0 x y : Word) (s : State) : OnNext (Keeps s) (execVbc g w vd sa k w0 x y s) := by
  refine Holds.out ?_
  unfold execVbc
  with_reducible refine Holds.next ?_; with_reducible refine Keeps.step ?_ (gkSlot3_keep ..)
  exact Keeps.refl _

theorem execVcmpeq_keep (g : Fin 128) (w : Bool) (pd : Fin 8) (va vb : Fin 16) (k : Fin 8) (w0 x y : Word) (s : State) : OnNext (Keeps s) (execVcmpeq g w pd va vb k w0 x y s) := by
  refine Holds.out ?_
  unfold execVcmpeq
  with_reducible refine Holds.next ?_; with_reducible refine Keeps.step ?_ (gkSlot3_keep ..)
  exact Keeps.refl _

theorem execVcmplt_keep (g : Fin 128) (w : Bool) (pd : Fin 8) (va vb : Fin 16) (k : Fin 8) (w0 x y : Word) (s : State) : OnNext (Keeps s) (execVcmplt g w pd va vb k w0 x y s) := by
  refine Holds.out ?_
  unfold execVcmplt
  with_reducible refine Holds.next ?_; with_reducible refine Keeps.step ?_ (gkSlot3_keep ..)
  exact Keeps.refl _

theorem execVcmple_keep (g : Fin 128) (w : Bool) (pd : Fin 8) (va vb : Fin 16) (k : Fin 8) (w0 x y : Word) (s : State) : OnNext (Keeps s) (execVcmple g w pd va vb k w0 x y s) := by
  refine Holds.out ?_
  unfold execVcmple
  with_reducible refine Holds.next ?_; with_reducible refine Keeps.step ?_ (gkSlot3_keep ..)
  exact Keeps.refl _

theorem execPand_keep (g : Fin 128) (pd pa pb : Fin 8) (w0 x y : Word) (s : State) : OnNext (Keeps s) (execPand g pd pa pb w0 x y s) := by
  refine Holds.out ?_
  unfold execPand
  with_reducible refine Holds.next ?_; with_reducible refine Keeps.step ?_ (gkSlot3_keep ..)
  exact Keeps.refl _

theorem execPredOr_keep (g : Fin 128) (pd pa pb : Fin 8) (w0 x y : Word) (s : State) : OnNext (Keeps s) (execPredOr g pd pa pb w0 x y s) := by
  refine Holds.out ?_
  unfold execPredOr
  with_reducible refine Holds.next ?_; with_reducible refine Keeps.step ?_ (gkSlot3_keep ..)
  exact Keeps.refl _

theorem execPnot_keep (g : Fin 128) (pd pa : Fin 8) (w0 x y : Word) (s : State) : OnNext (Keeps s) (execPnot g pd pa w0 x y s) := by
  refine Holds.out ?_
  unfold execPnot
  with_reducible refine Holds.next ?_; with_reducible refine Keeps.step ?_ (gkSlot3_keep ..)
  exact Keeps.refl _

end Sys2Proof.Machine
end

