-- ==== Sys2Proof/Laws/KeepHop.lean ====
section
/-! SUPPORT. What the operations of Hop keep: the waiting commands and the invariant. -/
namespace Sys2Proof.Machine

theorem eflAnswer_keep (s : State) (n tag : Nat) (r : HopReq) (a : HopRsp) : Keeps s (eflAnswer s n tag r a) := by
  refine Holds.out ?_
  unfold eflAnswer
  split; exact Keeps.refl _; dsimp only; with_reducible refine Holds.ite ?_ ?_
  with_reducible refine Holds.ite ?_ ?_; with_reducible refine Keeps.same ?_
  with_reducible refine Keeps.step ?_ (eflSend_keep ..)
  with_reducible refine Keeps.step ?_ (eflOutst_keep ..)
  with_reducible refine Keeps.step ?_ (State.eflUpd_keep ..); exact Keeps.refl _
  with_reducible refine Keeps.step ?_ (eflSend_keep ..)
  with_reducible refine Keeps.step ?_ (eflOutst_keep ..)
  with_reducible refine Keeps.step ?_ (State.eflUpd_keep ..); exact Keeps.refl _
  with_reducible refine Keeps.step ?_ (eflSend_keep ..)
  with_reducible refine Keeps.step ?_ (eflOutst_keep ..)
  with_reducible refine Keeps.step ?_ (State.eflUpd_keep ..); exact Keeps.refl _

theorem fhpSettle_keep (s : State) (src : Nat) : Keeps s (fhpSettle s src) := by
  refine Holds.out ?_
  unfold fhpSettle
  split; exact Keeps.refl _; with_reducible refine Holds.ite ?_ ?_; dsimp only
  with_reducible refine Keeps.same ?_; exact Keeps.refl _; exact Keeps.refl _

theorem hopDeliver_keep (s : State) (x : HopTag) (a : HopRsp) : Keeps s (hopDeliver s x a) := by
  refine Holds.out ?_
  unfold hopDeliver
  dsimp only; with_reducible refine Holds.ite ?_ ?_; with_reducible refine Keeps.step ?_ (fhpSettle_keep ..)
  with_reducible refine Holds.ite ?_ ?_; exact Keeps.refl _; with_reducible refine Keeps.same ?_
  exact Keeps.refl _; with_reducible refine Holds.ite ?_ ?_; with_reducible refine Holds.ite ?_ ?_
  with_reducible refine Keeps.same ?_; exact Keeps.refl _; with_reducible refine Keeps.upd ?_ ?_ ?_ ?_ ?_ ?_
  exact Keeps.refl _; exact PondsKeep.refl _; exact GKeep.refl _
  with_reducible refine KKeep.step ?_ (Geckos.upd_keep ..); exact KKeep.refl _; exact CKeep.refl _
  exact QKeep.refl _; with_reducible refine Holds.ite ?_ ?_
  with_reducible refine Keeps.step ?_ (eflAnswer_keep ..); exact Keeps.refl _; exact Keeps.refl _

theorem State.wired_keep (s : State) (w : Wire) (t net src addr : Nat) : Keeps s (State.wired s w t net src addr) := by
  refine Holds.out ?_
  unfold State.wired
  with_reducible refine Keeps.same ?_; exact Keeps.refl _

theorem State.markTag_keep (s : State) (r : HopReq) (lost : Bool) : Keeps s (State.markTag s r lost) := by
  refine Holds.out ?_
  unfold State.markTag
  split; with_reducible refine Keeps.same ?_; exact Keeps.refl _; exact Keeps.refl _

theorem lateCompletion_keep (s : State) (src tag : Nat) : Keeps s (lateCompletion s src tag) := by
  refine Holds.out ?_
  unfold lateCompletion
  dsimp only; with_reducible refine Keeps.same ?_; exact Keeps.refl _

theorem homeAnswer_keep (s : State) (w : HomeWait) (a : HopRsp) : Keeps s (homeAnswer s w a) := by
  refine Holds.out ?_
  unfold homeAnswer
  with_reducible refine Holds.ite ?_ ?_; with_reducible refine Holds.ite ?_ ?_
  with_reducible refine Keeps.step ?_ (lateCompletion_keep ..); exact Keeps.refl _; dsimp only
  with_reducible refine Keeps.upd ?_ ?_ ?_ ?_ ?_ ?_; exact Keeps.refl _; exact PondsKeep.refl _
  exact GKeep.refl _; with_reducible refine KKeep.step ?_ (Geckos.upd_keep ..); exact KKeep.refl _
  exact CKeep.refl _; exact QKeep.refl _; with_reducible refine Keeps.same ?_; exact Keeps.refl _

theorem homeDrain_keep (c n : Nat) (skip : List Nat) (s : State) : Keeps s (homeDrain c n skip s) := by
  refine Holds.out ?_
  induction n generalizing s skip with
  | zero => exact Keeps.refl _
  | succ n ih =>
    unfold homeDrain
    dsimp only
    have u (h : Hop) : Holds (Keeps s) { s with hop := h } := Keeps.same (Keeps.refl _)
    split
    · exact u _
    · with_reducible refine Holds.ite ?_ ?_
      · exact Keeps.step (Keeps.same (u _)) (Holds.out (ih ..))
      · split
        · have k := OnSome.at (State.serveMem_keep ..) ‹_›
          exact Keeps.step (Keeps.step (Keeps.same (Keeps.step (u _) k)) (homeAnswer_keep ..)) (Holds.out (ih ..))
        · with_reducible refine Holds.ite ?_ ?_
          · exact Keeps.step (u _) (Holds.out (ih ..))
          · exact Keeps.step (Keeps.step (Keeps.same (u _)) (State.holdReq_keep ..)) (Holds.out (ih ..))

theorem State.homeGo_keep (s : State) (c : Nat) : Keeps s (State.homeGo s c) := by
  refine Holds.out ?_
  unfold State.homeGo
  with_reducible refine Keeps.step ?_ (homeDrain_keep ..); exact Keeps.refl _

theorem homeArrive_keep (s : State) (kind g : Nat) (r : HopReq) (admitted : Bool) : Keeps s (homeArrive s kind g r admitted) := by
  refine Holds.out ?_
  unfold homeArrive
  dsimp only; split; with_reducible refine Keeps.step ?_ (homeAnswer_keep ..)
  refine Holds.of_eq_fst ?_ ‹_ = (_, _)›; with_reducible refine Holds.fst ?_
  with_reducible refine Holds.ite ?_ ?_; with_reducible refine Holds.mk1 ?_; exact Keeps.refl _
  refine Holds.of_fst ?_; with_reducible refine Keeps.step ?_ (State.fenced_keep ..); exact Keeps.refl _
  with_reducible refine Keeps.step ?_ (State.homeGo_keep ..); with_reducible refine Keeps.same ?_
  refine Holds.of_eq_fst ?_ ‹_ = (_, _)›; with_reducible refine Holds.fst ?_
  with_reducible refine Holds.ite ?_ ?_; with_reducible refine Holds.mk1 ?_; exact Keeps.refl _
  refine Holds.of_fst ?_; with_reducible refine Keeps.step ?_ (State.fenced_keep ..); exact Keeps.refl _

theorem lineRead_keep (s : State) (g line : Nat) (own : Bool) (w : Wire) : Keeps s (lineRead s g line own w) := by
  refine Holds.out ?_
  unfold lineRead
  split; exact Keeps.refl _; split; split; with_reducible refine Keeps.step ?_ (State.homeGo_keep ..)
  exact Keeps.refl _; exact Keeps.refl _; dsimp only; with_reducible refine Holds.ite ?_ ?_
  exact Keeps.refl _; with_reducible refine Holds.ite ?_ ?_
  with_reducible refine Keeps.step ?_ (State.markTag_keep ..)
  with_reducible refine Keeps.upd ?_ ?_ ?_ ?_ ?_ ?_
  with_reducible refine Keeps.step ?_ (State.wakeLevels_keep ..)
  with_reducible refine Keeps.step ?_ (State.wired_keep ..)
  with_reducible refine Keeps.step ?_ (State.inject_keep ..); exact Keeps.refl _; exact PondsKeep.refl _
  exact GKeep.refl _; with_reducible refine KKeep.step ?_ (Geckos.upd_keep ..); exact KKeep.refl _
  exact CKeep.refl _; exact QKeep.refl _; with_reducible refine Holds.ite ?_ ?_
  with_reducible refine Keeps.step ?_ (homeArrive_keep ..); with_reducible refine Keeps.upd ?_ ?_ ?_ ?_ ?_ ?_
  with_reducible refine Keeps.step ?_ (State.wakeLevels_keep ..)
  with_reducible refine Keeps.step ?_ (State.wired_keep ..)
  with_reducible refine Keeps.step ?_ (State.inject_keep ..); exact Keeps.refl _; exact PondsKeep.refl _
  exact GKeep.refl _; with_reducible refine KKeep.step ?_ (Geckos.upd_keep ..); exact KKeep.refl _
  exact CKeep.refl _; exact QKeep.refl _; with_reducible refine Keeps.upd ?_ ?_ ?_ ?_ ?_ ?_
  with_reducible refine Keeps.step ?_ (State.wakeLevels_keep ..)
  with_reducible refine Keeps.step ?_ (State.wired_keep ..)
  with_reducible refine Keeps.step ?_ (State.inject_keep ..); exact Keeps.refl _; exact PondsKeep.refl _
  exact GKeep.refl _; with_reducible refine KKeep.step ?_ (Geckos.upd_keep ..)
  with_reducible refine KKeep.step ?_ (Geckos.upd_keep ..); exact KKeep.refl _; exact CKeep.refl _
  exact QKeep.refl _

theorem execRdShr_keep (g : Fin 128) (line : BitVec 42) (w : Wire) (s : State) : OnNext (Keeps s) (execRdShr g line w s) := by
  refine Holds.out ?_
  unfold execRdShr
  with_reducible refine Holds.next ?_; with_reducible refine Keeps.step ?_ (lineRead_keep ..)
  exact Keeps.refl _

theorem execRdOwn_keep (g : Fin 128) (line : BitVec 42) (w : Wire) (s : State) : OnNext (Keeps s) (execRdOwn g line w s) := by
  refine Holds.out ?_
  unfold execRdOwn
  with_reducible refine Holds.next ?_; with_reducible refine Keeps.step ?_ (lineRead_keep ..)
  exact Keeps.refl _

theorem snoop_keep (s : State) (g line : Nat) (inv : Bool) (wr : Wire) : Keeps s (snoop s g line inv wr) := by
  refine Holds.out ?_
  unfold snoop
  split; exact Keeps.refl _; with_reducible refine Holds.ite ?_ ?_; dsimp only
  with_reducible refine Holds.ite ?_ ?_; with_reducible refine Keeps.same ?_
  with_reducible refine Keeps.step ?_ (State.wired_keep ..); exact Keeps.refl _
  with_reducible refine Keeps.upd ?_ ?_ ?_ ?_ ?_ ?_
  with_reducible refine Keeps.step ?_ (State.wired_keep ..); exact Keeps.refl _; exact PondsKeep.refl _
  exact GKeep.refl _; with_reducible refine KKeep.step ?_ (Geckos.upd_keep ..); exact KKeep.refl _
  exact CKeep.refl _; exact QKeep.refl _; exact Keeps.refl _

theorem execSnpInv_keep (g : Fin 128) (line : BitVec 42) (w : Wire) (s : State) : OnNext (Keeps s) (execSnpInv g line w s) := by
  refine Holds.out ?_
  unfold execSnpInv
  with_reducible refine Holds.next ?_; with_reducible refine Keeps.step ?_ (snoop_keep ..)
  exact Keeps.refl _

theorem execSnpShr_keep (g : Fin 128) (line : BitVec 42) (w : Wire) (s : State) : OnNext (Keeps s) (execSnpShr g line w s) := by
  refine Holds.out ?_
  unfold execSnpShr
  with_reducible refine Holds.next ?_; with_reducible refine Keeps.step ?_ (snoop_keep ..)
  exact Keeps.refl _

theorem snoopsDone_keep (s : State) (j : Nat) (w : HomeWait) (g : Nat) : OnSome (Keeps s) (snoopsDone s j w g) := by
  refine Holds.out ?_
  unfold snoopsDone
  split; with_reducible refine Holds.some ?_; with_reducible refine Keeps.step ?_ (State.homeGo_keep ..)
  exact Keeps.refl _; refine Holds.map (State.writeBack_keep ..) ?_; intro _; intro _; dsimp only
  with_reducible refine Keeps.step ?_ (State.homeGo_keep ..); with_reducible refine Keeps.same ?_
  with_reducible refine Holds.ite ?_ ?_; with_reducible refine Keeps.same ?_; refine Keeps.step ?_ ‹_›
  exact Keeps.refl _; refine Keeps.step ?_ ‹_›; exact Keeps.refl _

theorem execSnpRsp_keep (g : Fin 128) (line : BitVec 42) (wr : Wire) (s : State) : OnNext (Keeps s) (execSnpRsp g line wr s) := by
  refine Holds.out ?_
  unfold execSnpRsp
  dsimp only; split; with_reducible refine Holds.next ?_; exact Keeps.refl _
  with_reducible refine Holds.ite ?_ ?_; with_reducible refine Holds.ite ?_ ?_
  with_reducible refine Holds.next ?_; with_reducible refine Keeps.same ?_
  with_reducible refine Keeps.step ?_ (State.wired_keep ..); exact Keeps.refl _
  with_reducible refine Holds.ite ?_ ?_; split; with_reducible refine Holds.next ?_
  have k := OnSome.at (snoopsDone_keep ..) ‹_›; refine Keeps.step ?_ k; with_reducible refine Keeps.same ?_
  with_reducible refine Keeps.step ?_ (State.wired_keep ..); exact Keeps.refl _
  with_reducible refine Holds.next ?_; exact Keeps.refl _; with_reducible refine Holds.next ?_
  with_reducible refine Keeps.same ?_; with_reducible refine Keeps.step ?_ (State.wired_keep ..)
  exact Keeps.refl _; with_reducible refine Holds.next ?_; exact Keeps.refl _

theorem execWb_keep (g : Fin 128) (line : BitVec 42) (w : Wire) (s : State) : OnNext (Keeps s) (execWb g line w s) := by
  refine Holds.out ?_
  unfold execWb
  dsimp only; split; with_reducible refine Holds.next ?_; exact Keeps.refl _
  with_reducible refine Holds.ite ?_ ?_; with_reducible refine Holds.ite ?_ ?_
  with_reducible refine Holds.next ?_; with_reducible refine Keeps.upd ?_ ?_ ?_ ?_ ?_ ?_
  with_reducible refine Keeps.step ?_ (State.markTag_keep ..)
  with_reducible refine Keeps.step ?_ (State.inject_keep ..)
  with_reducible refine Keeps.step ?_ (State.wired_keep ..); exact Keeps.refl _; exact PondsKeep.refl _
  exact GKeep.refl _; with_reducible refine KKeep.step ?_ (Geckos.upd_keep ..); exact KKeep.refl _
  exact CKeep.refl _; exact QKeep.refl _; split; with_reducible refine Holds.next ?_; exact Keeps.refl _
  with_reducible refine Holds.next ?_; with_reducible refine Keeps.upd ?_ ?_ ?_ ?_ ?_ ?_
  with_reducible refine Holds.ite ?_ ?_; with_reducible refine Keeps.same ?_
  have k := OnSome.at (State.writeBackReq_keep ..) ‹_›; refine Keeps.step ?_ k
  with_reducible refine Keeps.step ?_ (State.wired_keep ..); exact Keeps.refl _
  have k := OnSome.at (State.writeBackReq_keep ..) ‹_›; refine Keeps.step ?_ k
  with_reducible refine Keeps.step ?_ (State.wired_keep ..); exact Keeps.refl _; exact PondsKeep.refl _
  exact GKeep.refl _; with_reducible refine KKeep.step ?_ (Geckos.upd_keep ..); exact KKeep.refl _
  exact CKeep.refl _; exact QKeep.refl _; with_reducible refine Holds.next ?_
  with_reducible refine Keeps.upd ?_ ?_ ?_ ?_ ?_ ?_; exact Keeps.refl _; exact PondsKeep.refl _
  exact GKeep.refl _; with_reducible refine KKeep.step ?_ (Geckos.upd_keep ..); exact KKeep.refl _
  exact CKeep.refl _; exact QKeep.refl _

theorem startWake_keep (s : State) (x1 : SleepDomain) : Keeps s (startWake s x1) := by
  refine Holds.out ?_
  unfold startWake
  split; with_reducible refine Holds.ite ?_ ?_; with_reducible refine Keeps.same ?_; exact Keeps.refl _
  exact Keeps.refl _; with_reducible refine Keeps.same ?_; exact Keeps.refl _; exact Keeps.refl _
  exact Keeps.refl _; exact Keeps.refl _; exact Keeps.refl _

theorem State.fenceOf_keep (s : State) (r : HopReq) : OnFst (Keeps s) (State.fenceOf s r) := by
  refine Holds.out ?_
  unfold State.fenceOf
  split; dsimp only; with_reducible refine Holds.mk1 ?_; with_reducible refine Keeps.same ?_
  exact Keeps.refl _; refine Holds.of_fst ?_; with_reducible refine Keeps.step ?_ (State.fenced_keep ..)
  exact Keeps.refl _

theorem State.holdFlits_keep (s : State) (d : SleepDomain) (r : HopReq) (write e : Bool) : Keeps s (State.holdFlits s d r write e) := by
  refine Holds.out ?_
  unfold State.holdFlits
  dsimp only; with_reducible refine Keeps.same ?_; with_reducible refine Keeps.step ?_ (startWake_keep ..)
  exact Keeps.refl _

theorem performReq_keep (s : State) (r : HopReq) (write e admitted : Bool) : OnSome (Keeps s) (performReq s r write e admitted) := by
  refine Holds.out ?_
  unfold performReq
  with_reducible refine Holds.ite ?_ ?_; with_reducible refine Holds.some ?_
  with_reducible refine Keeps.step ?_ (homeArrive_keep ..); exact Keeps.refl _; split
  with_reducible refine Holds.some ?_; with_reducible refine Keeps.same ?_
  have k := (State.serve_keep ..).ans _ _ ‹_›; refine Keeps.step ?_ k; exact Keeps.refl _
  with_reducible refine Holds.some ?_; have k := (State.serve_keep ..).sent _ ‹_›; refine Keeps.step ?_ k
  exact Keeps.refl _; split; with_reducible refine Holds.some ?_
  with_reducible refine Keeps.step ?_ (State.holdFlits_keep ..)
  with_reducible refine Keeps.step ?_ (State.fenceOf_keep ..); exact Keeps.refl _; exact Holds.none

theorem edcRetries_keep (s : State) (r : HopReq) (n : Nat) : Keeps s (edcRetries s r n) := by
  refine Holds.out ?_
  unfold edcRetries
  dsimp only; with_reducible refine Holds.ite ?_ ?_; exact Keeps.refl _
  with_reducible refine Holds.ite ?_ ?_; with_reducible refine Keeps.upd ?_ ?_ ?_ ?_ ?_ ?_
  exact Keeps.refl _; exact PondsKeep.refl _; with_reducible refine GKeep.step ?_ (gdTrainBegin_keep ..)
  exact GKeep.refl _; exact KKeep.refl _; exact CKeep.refl _; exact QKeep.refl _
  with_reducible refine Keeps.same ?_; exact Keeps.refl _

theorem State.hasGrant_keep (s : State) (r : HopReq) (e : Bool) : OnSome (Keeps s) (State.hasGrant s r e) := by
  refine Holds.out ?_
  unfold State.hasGrant
  split; with_reducible refine Holds.some ?_; exact Keeps.refl _; split; with_reducible refine Holds.some ?_
  exact Keeps.refl _; with_reducible refine Holds.ite ?_ ?_; with_reducible refine Holds.ite ?_ ?_
  exact Holds.none; with_reducible refine Holds.some ?_; with_reducible refine Keeps.same ?_
  exact Keeps.refl _; with_reducible refine Holds.some ?_; exact Keeps.refl _

theorem State.arrived_keep (s : State) (r : HopReq) (write lost : Bool) : Keeps s (State.arrived s r write lost) := by
  refine Holds.out ?_
  unfold State.arrived
  with_reducible refine Holds.ite ?_ ?_; with_reducible refine Keeps.step ?_ (State.markTag_keep ..)
  exact Keeps.refl _; dsimp only; with_reducible refine Keeps.same ?_; exact Keeps.refl _

theorem State.offer_keep (s : State) (r : HopReq) (write e admitted : Bool) (edc : Nat) : OnSome (Keeps s) (State.offer s r write e admitted edc) := by
  refine Holds.out ?_
  unfold State.offer
  dsimp only; split; refine Holds.some_mono (performReq_keep ..) ?_; intro _; intro _
  refine Keeps.step ?_ ‹_›; exact Keeps.refl _; with_reducible refine Holds.ite ?_ ?_
  refine Holds.some_mono (performReq_keep ..) ?_; intro _; intro _; refine Keeps.step ?_ ‹_›
  exact Keeps.refl _; split; with_reducible refine Holds.some ?_
  with_reducible refine Keeps.step ?_ (State.holdFlits_keep ..); exact Keeps.refl _
  with_reducible refine Holds.ite ?_ ?_; exact Holds.none; split
  refine Holds.some_mono (performReq_keep ..) ?_; intro _; intro _; refine Keeps.step ?_ ‹_›
  with_reducible refine Keeps.step ?_ (edcRetries_keep ..); exact Keeps.refl _; split
  with_reducible refine Holds.some ?_; with_reducible refine Keeps.same ?_
  refine Holds.of_eq_fst ?_ ‹_ = (_, _)›; with_reducible refine Holds.fst ?_
  with_reducible refine Holds.ite ?_ ?_; with_reducible refine Holds.mk1 ?_; exact Keeps.refl _
  refine Holds.of_fst ?_; with_reducible refine Keeps.step ?_ (State.fenceOf_keep ..); exact Keeps.refl _
  with_reducible refine Holds.some ?_; with_reducible refine Keeps.step ?_ (State.holdFlits_keep ..)
  refine Holds.of_eq_fst ?_ ‹_ = (_, _)›; with_reducible refine Holds.fst ?_
  with_reducible refine Holds.ite ?_ ?_; with_reducible refine Holds.mk1 ?_; exact Keeps.refl _
  refine Holds.of_fst ?_; with_reducible refine Keeps.step ?_ (State.fenceOf_keep ..); exact Keeps.refl _

theorem hopArrive_keep (s : State) (r : HopReq) (write : Bool) (w : Wire) : Keeps s (hopArrive s r write w) := by
  refine Holds.out ?_
  unfold hopArrive
  with_reducible refine Holds.ite ?_ ?_; exact Keeps.refl _; dsimp only; split; exact Keeps.refl _
  with_reducible refine Holds.ite ?_ ?_; with_reducible refine Keeps.step ?_ (State.wired_keep ..)
  with_reducible refine Keeps.step ?_ (State.arrived_keep ..); with_reducible refine Holds.ite ?_ ?_
  with_reducible refine Keeps.step ?_ (State.inject_keep ..)
  have k := OnSome.at (State.hasGrant_keep ..) ‹_›; refine Keeps.step ?_ k; exact Keeps.refl _
  have k := OnSome.at (State.hasGrant_keep ..) ‹_›; refine Keeps.step ?_ k; exact Keeps.refl _
  with_reducible refine Holds.ite ?_ ?_; with_reducible refine Keeps.same ?_
  with_reducible refine Keeps.step ?_ (State.wired_keep ..)
  with_reducible refine Keeps.step ?_ (State.arrived_keep ..); with_reducible refine Holds.ite ?_ ?_
  with_reducible refine Keeps.step ?_ (State.inject_keep ..)
  have k := OnSome.at (State.hasGrant_keep ..) ‹_›; refine Keeps.step ?_ k; exact Keeps.refl _
  have k := OnSome.at (State.hasGrant_keep ..) ‹_›; refine Keeps.step ?_ k; exact Keeps.refl _
  refine Holds.getD ?_ ?_; refine Holds.some_mono (State.offer_keep ..) ?_; intro _; intro _
  refine Keeps.step ?_ ‹_›; with_reducible refine Keeps.step ?_ (State.wired_keep ..)
  with_reducible refine Keeps.step ?_ (State.arrived_keep ..); with_reducible refine Holds.ite ?_ ?_
  with_reducible refine Keeps.step ?_ (State.inject_keep ..)
  have k := OnSome.at (State.hasGrant_keep ..) ‹_›; refine Keeps.step ?_ k; exact Keeps.refl _
  have k := OnSome.at (State.hasGrant_keep ..) ‹_›; refine Keeps.step ?_ k; exact Keeps.refl _
  exact Keeps.refl _

theorem execRd_keep (r : HopReq) (w : Wire) (s : State) : OnNext (Keeps s) (execRd r w s) := by
  refine Holds.out ?_
  unfold execRd
  with_reducible refine Holds.next ?_; with_reducible refine Keeps.step ?_ (hopArrive_keep ..)
  exact Keeps.refl _

theorem execWr_keep (r : HopReq) (w : Wire) (s : State) : OnNext (Keeps s) (execWr r w s) := by
  refine Holds.out ?_
  unfold execWr
  with_reducible refine Holds.next ?_; with_reducible refine Keeps.step ?_ (hopArrive_keep ..)
  exact Keeps.refl _

theorem wakeDomain_keep (s : State) (x1 : SleepDomain) : Keeps s (wakeDomain s x1) := by
  refine Holds.out ?_
  unfold wakeDomain
  split; with_reducible refine Keeps.same ?_; exact Keeps.refl _; with_reducible refine Keeps.same ?_
  exact Keeps.refl _; dsimp only; with_reducible refine Keeps.step ?_ (State.homeGo_keep ..)
  with_reducible refine Keeps.upd ?_ ?_ ?_ ?_ ?_ ?_; exact Keeps.refl _; exact PondsKeep.refl _
  with_reducible refine GKeep.step ?_ (gdRetry_keep ..); exact GKeep.refl _; exact KKeep.refl _
  exact CKeep.refl _; exact QKeep.refl _; with_reducible refine Keeps.step ?_ (qWake_keep ..)
  exact Keeps.refl _; with_reducible refine Keeps.same ?_; exact Keeps.refl _; exact Keeps.refl _

theorem goOn_keep (s : State) (f : HeldReq) : Keeps s (goOn s f) := by
  refine Holds.out ?_
  unfold goOn
  dsimp only; split; refine Holds.getD ?_ ?_; refine Holds.some_mono (State.offer_keep ..) ?_; intro _
  intro _; refine Keeps.step ?_ ‹_›; exact Keeps.refl _; with_reducible refine Keeps.same ?_
  exact Keeps.refl _; refine Holds.getD ?_ ?_; refine Holds.some_mono (performReq_keep ..) ?_; intro _
  intro _; refine Keeps.step ?_ ‹_›; exact Keeps.refl _; exact Keeps.refl _

theorem State.deliver_keep (s : State) (d : SleepDomain) : Keeps s (State.deliver s d) := by
  refine Holds.out ?_
  unfold State.deliver
  dsimp only; with_reducible refine Keeps.foldl (fun _ _ => ?_) ?_
  with_reducible refine Keeps.step ?_ (goOn_keep ..); exact Keeps.refl _; with_reducible refine Keeps.same ?_
  exact Keeps.refl _

theorem execTargetWakeDone_keep (d : SleepDomain) (s : State) : OnNext (Keeps s) (execTargetWakeDone d s) := by
  refine Holds.out ?_
  unfold execTargetWakeDone
  dsimp only; with_reducible refine Holds.ite ?_ ?_; with_reducible refine Holds.next ?_; exact Keeps.refl _
  with_reducible refine Holds.next ?_; with_reducible refine Keeps.step ?_ (State.deliver_keep ..)
  with_reducible refine Keeps.step ?_ (wakeDomain_keep ..); exact Keeps.refl _

theorem execEncTableApply_keep (c : Fin 16) (s : State) : OnNext (Keeps s) (execEncTableApply c s) := by
  refine Holds.out ?_
  unfold execEncTableApply
  with_reducible refine Holds.ite ?_ ?_; dsimp only; with_reducible refine Holds.next ?_
  with_reducible refine Keeps.same ?_; exact Keeps.refl _; with_reducible refine Holds.next ?_
  exact Keeps.refl _

theorem hopComplete_keep (s : State) (src tag : Nat) (data : Bool) (w : Wire) (lat : Nat) : Keeps s (hopComplete s src tag data w lat) := by
  refine Holds.out ?_
  unfold hopComplete
  split; exact Keeps.refl _; dsimp only; with_reducible refine Holds.ite ?_ ?_
  with_reducible refine Holds.ite ?_ ?_; with_reducible refine Keeps.same ?_; exact Keeps.refl _; split
  with_reducible refine Keeps.same ?_; exact Keeps.refl _; with_reducible refine Keeps.same ?_
  exact Keeps.refl _; with_reducible refine Holds.ite ?_ ?_
  with_reducible refine Keeps.step ?_ (lateCompletion_keep ..); with_reducible refine Keeps.same ?_
  exact Keeps.refl _; split; with_reducible refine Keeps.same ?_; exact Keeps.refl _
  with_reducible refine Keeps.step ?_ (hopDeliver_keep ..); with_reducible refine Keeps.same ?_
  exact Keeps.refl _

theorem execCmp_keep (src : Fin 1024) (tag : Fin 4096) (w : Wire) (lat : Word) (s : State) : OnNext (Keeps s) (execCmp src tag w lat s) := by
  refine Holds.out ?_
  unfold execCmp
  with_reducible refine Holds.next ?_; with_reducible refine Keeps.step ?_ (hopComplete_keep ..)
  exact Keeps.refl _

theorem execVnRdata_keep (src : Fin 1024) (tag : Fin 4096) (w : Wire) (lat : Word) (s : State) : OnNext (Keeps s) (execVnRdata src tag w lat s) := by
  refine Holds.out ?_
  unfold execVnRdata
  with_reducible refine Holds.next ?_; with_reducible refine Keeps.step ?_ (hopComplete_keep ..)
  exact Keeps.refl _

theorem execTagTimeout_keep (src : Fin 1024) (tag : Fin 4096) (s : State) : OnNext (Keeps s) (execTagTimeout src tag s) := by
  refine Holds.out ?_
  unfold execTagTimeout
  dsimp only; split; with_reducible refine Holds.next ?_; exact Keeps.refl _
  with_reducible refine Holds.ite ?_ ?_; with_reducible refine Holds.next ?_; exact Keeps.refl _
  with_reducible refine Holds.ite ?_ ?_; with_reducible refine Holds.next ?_
  with_reducible refine Keeps.same ?_; exact Keeps.refl _; with_reducible refine Holds.next ?_
  with_reducible refine Keeps.step ?_ (hopDeliver_keep ..); with_reducible refine Keeps.same ?_
  exact Keeps.refl _

theorem execRsv_keep (src point : Fin 1024) (count : Fin 17) (w : Wire) (s : State) : OnNext (Keeps s) (execRsv src point count w s) := by
  refine Holds.out ?_
  unfold execRsv
  dsimp only; with_reducible refine Holds.ite ?_ ?_; with_reducible refine Holds.next ?_; exact Keeps.refl _
  with_reducible refine Holds.ite ?_ ?_; with_reducible refine Holds.next ?_
  with_reducible refine Keeps.same ?_; with_reducible refine Keeps.step ?_ (State.wired_keep ..)
  exact Keeps.refl _; with_reducible refine Holds.ite ?_ ?_; with_reducible refine Holds.next ?_
  with_reducible refine Keeps.same ?_; split; with_reducible refine Keeps.step ?_ (State.eflUpd_keep ..)
  with_reducible refine Keeps.same ?_; with_reducible refine Keeps.step ?_ (State.wired_keep ..)
  exact Keeps.refl _; with_reducible refine Keeps.same ?_
  with_reducible refine Keeps.step ?_ (State.wired_keep ..); exact Keeps.refl _
  with_reducible refine Holds.next ?_; with_reducible refine Keeps.same ?_; split
  with_reducible refine Keeps.step ?_ (State.eflUpd_keep ..); with_reducible refine Keeps.same ?_
  with_reducible refine Keeps.step ?_ (State.wired_keep ..); exact Keeps.refl _
  with_reducible refine Keeps.same ?_; with_reducible refine Keeps.step ?_ (State.wired_keep ..)
  exact Keeps.refl _

theorem execGrant_keep (point : Fin 1024) (count : Fin 17) (w : Wire) (s : State) : OnNext (Keeps s) (execGrant point count w s) := by
  refine Holds.out ?_
  unfold execGrant
  dsimp only; split; with_reducible refine Holds.next ?_; exact Keeps.refl _
  with_reducible refine Holds.ite ?_ ?_; with_reducible refine Holds.next ?_; exact Keeps.refl _
  with_reducible refine Holds.next ?_; split; with_reducible refine Keeps.step ?_ (State.eflUpd_keep ..)
  with_reducible refine Holds.ite ?_ ?_; with_reducible refine Keeps.same ?_
  with_reducible refine Keeps.step ?_ (State.wired_keep ..); exact Keeps.refl _
  with_reducible refine Keeps.same ?_; with_reducible refine Keeps.step ?_ (State.wired_keep ..)
  exact Keeps.refl _; with_reducible refine Holds.ite ?_ ?_; with_reducible refine Keeps.same ?_
  with_reducible refine Keeps.step ?_ (State.wired_keep ..); exact Keeps.refl _
  with_reducible refine Keeps.same ?_; with_reducible refine Keeps.step ?_ (State.wired_keep ..)
  exact Keeps.refl _

theorem execEpochFlip_keep (t : Tower) (l : Fin 3) (s : State) : OnNext (Keeps s) (execEpochFlip t l s) := by
  refine Holds.out ?_
  unfold execEpochFlip
  dsimp only; with_reducible refine Holds.ite ?_ ?_; with_reducible refine Holds.next ?_
  with_reducible refine Keeps.same ?_; exact Keeps.refl _; with_reducible refine Holds.next ?_
  exact Keeps.refl _

theorem fhpWrite_keep (s : State) (t j : Nat) (v : Word) : Keeps s (fhpWrite s t j v) := by
  refine Holds.out ?_
  unfold fhpWrite
  with_reducible refine Keeps.foldl (fun _ _ => ?_) ?_; dsimp only
  with_reducible refine Keeps.step ?_ (fhpSettle_keep ..); with_reducible refine Keeps.same ?_
  exact Keeps.refl _; exact Keeps.refl _

theorem execHstWindowEnd_keep (t : Tower) (s : State) : OnNext (Keeps s) (execHstWindowEnd t s) := by
  refine Holds.out ?_
  unfold execHstWindowEnd
  dsimp only; with_reducible refine Holds.ite ?_ ?_; with_reducible refine Holds.next ?_; exact Keeps.refl _
  with_reducible refine Holds.next ?_; with_reducible refine Keeps.same ?_; exact Keeps.refl _

end Sys2Proof.Machine
end

