-- ==== Sys2Proof/Laws/KeepHopPort.lean ====
section
/-! SUPPORT. What the operations of HopPort keep: the waiting commands and the invariant. -/
namespace Sys2Proof.Machine

theorem portLocal_keep (s : State) (r : HopReq) (a : HopRsp) : Keeps s (portLocal s r a) := by
  refine Holds.out ?_
  unfold portLocal
  dsimp only; with_reducible refine Keeps.same ?_; exact Keeps.refl _

theorem portTake_keep (s : State) (t : Tower) (h : Fin 64) (q : PortReq) : Keeps s (portTake s t h q) := by
  refine Holds.out ?_
  unfold portTake
  dsimp only; with_reducible refine Holds.ite ?_ ?_; with_reducible refine Keeps.step ?_ (portLocal_keep ..)
  exact Keeps.refl _; with_reducible refine Holds.ite ?_ ?_
  with_reducible refine Keeps.step ?_ (portLocal_keep ..); with_reducible refine Keeps.same ?_
  exact Keeps.refl _; with_reducible refine Holds.ite ?_ ?_
  with_reducible refine Keeps.step ?_ (portLocal_keep ..); exact Keeps.refl _
  with_reducible refine Holds.ite ?_ ?_; with_reducible refine Keeps.step ?_ (State.inject_keep ..)
  with_reducible refine Keeps.same ?_; exact Keeps.refl _
  with_reducible refine Keeps.step ?_ (portLocal_keep ..); with_reducible refine Keeps.same ?_
  exact Keeps.refl _

theorem portAccept_keep (s : State) (t : Tower) (h : Fin 64) (x : Nat) : Keeps s (portAccept s t h x) := by
  refine Holds.out ?_
  unfold portAccept
  dsimp only; with_reducible refine Holds.ite ?_ ?_; with_reducible refine Keeps.step ?_ (portTake_keep ..)
  with_reducible refine Keeps.same ?_; exact Keeps.refl _; with_reducible refine Holds.ite ?_ ?_
  with_reducible refine Keeps.same ?_; exact Keeps.refl _; split; with_reducible refine Holds.ite ?_ ?_
  with_reducible refine Keeps.step ?_ (portTake_keep ..); with_reducible refine Keeps.same ?_
  exact Keeps.refl _; with_reducible refine Keeps.same ?_; exact Keeps.refl _
  with_reducible refine Keeps.same ?_; exact Keeps.refl _

theorem execFabricHopPortRequest_keep (t : Tower) (h : Fin 64) (s : State) : OnNext (Keeps s) (execFabricHopPortRequest t h s) := by
  refine Holds.out ?_
  unfold execFabricHopPortRequest
  with_reducible refine Holds.ite ?_ ?_; with_reducible refine Holds.next ?_; exact Keeps.refl _; dsimp only
  with_reducible refine Holds.ite ?_ ?_; with_reducible refine Holds.next ?_
  with_reducible refine Keeps.step ?_ (portAccept_keep ..); with_reducible refine Keeps.same ?_
  exact Keeps.refl _; with_reducible refine Holds.next ?_; with_reducible refine Keeps.same ?_
  exact Keeps.refl _

theorem pondWrite_keep (s : State) (p : Nat) (r : HopReq) : Keeps s (pondWrite s p r) := by
  refine Holds.out ?_
  unfold pondWrite
  dsimp only; with_reducible refine Holds.ite ?_ ?_; exact Keeps.refl _; split
  with_reducible refine Keeps.same ?_; with_reducible refine Keeps.step ?_ (State.arrived_keep ..)
  with_reducible refine Holds.ite ?_ ?_; with_reducible refine Keeps.step ?_ (State.inject_keep ..)
  exact Keeps.refl _; exact Keeps.refl _; with_reducible refine Keeps.step ?_ (State.arbAtTarget_keep ..)
  with_reducible refine Keeps.upd ?_ ?_ ?_ ?_ ?_ ?_
  with_reducible refine Keeps.step ?_ (State.arrived_keep ..); with_reducible refine Holds.ite ?_ ?_
  with_reducible refine Keeps.step ?_ (State.inject_keep ..); exact Keeps.refl _; exact Keeps.refl _
  with_reducible refine PondsKeep.step ?_ (portBPerform_keep ..); exact PondsKeep.refl _; exact GKeep.refl _
  exact KKeep.refl _; exact CKeep.refl _; exact QKeep.refl _

theorem execPondPortRequest_keep (p : Fin 128) (ports : BitVec 24) (w : Option HopReq) (s : State) : OnNext (Keeps s) (execPondPortRequest p ports w s) := by
  refine Holds.out ?_
  unfold execPondPortRequest
  with_reducible refine Holds.ite ?_ ?_; with_reducible refine Holds.next ?_; exact Keeps.refl _; dsimp only
  with_reducible refine Holds.next ?_; split; split; with_reducible refine Keeps.step ?_ (pondWrite_keep ..)
  with_reducible refine Keeps.step ?_ (State.pondShow_keep ..)
  with_reducible refine Keeps.upd ?_ ?_ ?_ ?_ ?_ ?_; exact Keeps.refl _; with_reducible refine Holds.snd ?_
  refine PondsKeep.foldl_snd (fun _ _ => ?_) ?_; refine Holds.of_snd ?_
  with_reducible refine PondsKeep.step ?_ (portA_keep ..); exact PondsKeep.refl _
  with_reducible refine Holds.mk2 ?_; exact PondsKeep.refl _; exact GKeep.refl _; exact KKeep.refl _
  exact CKeep.refl _; exact QKeep.refl _; with_reducible refine Keeps.step ?_ (State.pondShow_keep ..)
  with_reducible refine Keeps.upd ?_ ?_ ?_ ?_ ?_ ?_; exact Keeps.refl _; with_reducible refine Holds.snd ?_
  refine PondsKeep.foldl_snd (fun _ _ => ?_) ?_; refine Holds.of_snd ?_
  with_reducible refine PondsKeep.step ?_ (portA_keep ..); exact PondsKeep.refl _
  with_reducible refine Holds.mk2 ?_; exact PondsKeep.refl _; exact GKeep.refl _; exact KKeep.refl _
  exact CKeep.refl _; exact QKeep.refl _; with_reducible refine Keeps.step ?_ (State.pondShow_keep ..)
  with_reducible refine Keeps.upd ?_ ?_ ?_ ?_ ?_ ?_; exact Keeps.refl _; with_reducible refine Holds.snd ?_
  refine PondsKeep.foldl_snd (fun _ _ => ?_) ?_; refine Holds.of_snd ?_
  with_reducible refine PondsKeep.step ?_ (portA_keep ..); exact PondsKeep.refl _
  with_reducible refine Holds.mk2 ?_; exact PondsKeep.refl _; exact GKeep.refl _; exact KKeep.refl _
  exact CKeep.refl _; exact QKeep.refl _

theorem execPadCmdDone_keep (p : Fin 128) (fails : List (Fin 4 × Fin 416)) (s : State) : OnNext (Keeps s) (execPadCmdDone p fails s) := by
  refine Holds.out ?_
  unfold execPadCmdDone
  split; with_reducible refine Holds.next ?_; exact Keeps.refl _; with_reducible refine Holds.next ?_
  with_reducible refine Keeps.step ?_ (gkRetry_keep ..)
  with_reducible refine Keeps.step ?_ (State.deliver_keep ..)
  with_reducible refine Keeps.step ?_ (padCmdEnd_keep ..); exact Keeps.refl _

end Sys2Proof.Machine
end

