-- ==== Sys2Proof/Laws/KeepEfmel.lean ====
section
/-! SUPPORT. What the operations of Efmel keep: the waiting commands and the invariant. -/
namespace Sys2Proof.Machine

theorem eflDown_keep (s : State) (n st : Nat) : Keeps s (eflDown s n st) := by
  refine Holds.out ?_
  unfold eflDown
  dsimp only; with_reducible refine Keeps.step ?_ (eflOutst_keep ..)
  with_reducible refine Keeps.step ?_ (State.eflUpd_keep ..); with_reducible refine Keeps.same ?_
  exact Keeps.refl _

theorem eflBlocks_keep (s : State) (n attempt w : Nat) (good : BitVec 16) : Keeps s (eflBlocks s n attempt w good) := by
  refine Holds.out ?_
  unfold eflBlocks
  with_reducible refine Keeps.same ?_; exact Keeps.refl _

theorem eflTry_keep (s : State) (n : Nat) : Keeps s (eflTry s n) := by
  refine Holds.out ?_
  unfold eflTry
  dsimp only; with_reducible refine Keeps.step ?_ (eflBlocks_keep ..); exact Keeps.refl _

theorem eflBegin_keep (s : State) (n : Nat) (retrain : Bool) : Keeps s (eflBegin s n retrain) := by
  refine Holds.out ?_
  unfold eflBegin
  dsimp only; with_reducible refine Keeps.step ?_ (eflBlocks_keep ..)
  with_reducible refine Keeps.step ?_ (State.eflUpd_keep ..); with_reducible refine Keeps.same ?_
  exact Keeps.refl _

theorem eflTrain_keep (s : State) (n : Nat) : Keeps s (eflTrain s n) := by
  refine Holds.out ?_
  unfold eflTrain
  dsimp only; with_reducible refine Holds.ite ?_ ?_; exact Keeps.refl _
  with_reducible refine Holds.ite ?_ ?_; with_reducible refine Keeps.step ?_ (eflBegin_keep ..)
  with_reducible refine Keeps.same ?_; exact Keeps.refl _
  with_reducible refine Keeps.step ?_ (eflBegin_keep ..); with_reducible refine Keeps.same ?_
  exact Keeps.refl _

theorem eflRetrain_keep (s : State) (n : Nat) : Keeps s (eflRetrain s n) := by
  refine Holds.out ?_
  unfold eflRetrain
  with_reducible refine Holds.ite ?_ ?_; with_reducible refine Keeps.step ?_ (eflBegin_keep ..)
  with_reducible refine Keeps.same ?_; exact Keeps.refl _; exact Keeps.refl _

theorem eflFail_keep (s : State) (n why : Nat) : Keeps s (eflFail s n why) := by
  refine Holds.out ?_
  unfold eflFail
  dsimp only; with_reducible refine Keeps.step ?_ (State.eflUpd_keep ..); with_reducible refine Keeps.same ?_
  with_reducible refine Holds.ite ?_ ?_; with_reducible refine Keeps.step ?_ (eflDown_keep ..)
  exact Keeps.refl _; exact Keeps.refl _

theorem execTrainingPhaseEnd_keep (n : Fin 8) (good : BitVec 16) (adv : EflAdvert) (reversed : Bool) (pol : BitVec 16) (s : State) : OnNext (Keeps s) (execTrainingPhaseEnd n good adv reversed pol s) := by
  refine Holds.out ?_
  unfold execTrainingPhaseEnd
  dsimp only; with_reducible refine Holds.ite ?_ ?_; with_reducible refine Holds.next ?_; exact Keeps.refl _
  with_reducible refine Holds.ite ?_ ?_; with_reducible refine Holds.next ?_
  with_reducible refine Keeps.step ?_ (eflFail_keep ..); with_reducible refine Keeps.same ?_
  exact Keeps.refl _; with_reducible refine Holds.ite ?_ ?_; with_reducible refine Holds.next ?_
  with_reducible refine Keeps.step ?_ (eflFail_keep ..); with_reducible refine Keeps.same ?_
  exact Keeps.refl _; with_reducible refine Holds.ite ?_ ?_; with_reducible refine Holds.next ?_
  with_reducible refine Keeps.step ?_ (eflFail_keep ..); with_reducible refine Keeps.same ?_
  exact Keeps.refl _; with_reducible refine Holds.next ?_
  with_reducible refine Keeps.step ?_ (eflTry_keep ..)
  with_reducible refine Keeps.step ?_ (State.eflUpd_keep ..); with_reducible refine Keeps.same ?_
  exact Keeps.refl _

theorem execAttemptEnd_keep (n : Fin 8) (ok : Bool) (s : State) : OnNext (Keeps s) (execAttemptEnd n ok s) := by
  refine Holds.out ?_
  unfold execAttemptEnd
  dsimp only; with_reducible refine Holds.ite ?_ ?_; with_reducible refine Holds.next ?_; exact Keeps.refl _
  with_reducible refine Holds.ite ?_ ?_; split; with_reducible refine Holds.next ?_
  with_reducible refine Keeps.step ?_ (State.eflUpd_keep ..); with_reducible refine Keeps.same ?_
  exact Keeps.refl _; with_reducible refine Holds.next ?_; exact Keeps.refl _
  with_reducible refine Holds.ite ?_ ?_; with_reducible refine Holds.next ?_
  with_reducible refine Keeps.step ?_ (eflTry_keep ..)
  with_reducible refine Keeps.step ?_ (State.eflUpd_keep ..); exact Keeps.refl _
  with_reducible refine Holds.next ?_; with_reducible refine Keeps.step ?_ (eflFail_keep ..)
  exact Keeps.refl _

theorem execTrainRetry_keep (n : Fin 8) (s : State) : OnNext (Keeps s) (execTrainRetry n s) := by
  refine Holds.out ?_
  unfold execTrainRetry
  dsimp only; with_reducible refine Holds.ite ?_ ?_; with_reducible refine Holds.next ?_
  with_reducible refine Keeps.step ?_ (eflTrain_keep ..); exact Keeps.refl _
  with_reducible refine Holds.next ?_; exact Keeps.refl _

theorem eflEmitAll_keep (s : State) (n : Nat) : Keeps s (eflEmitAll s n) := by
  refine Holds.out ?_
  unfold eflEmitAll
  with_reducible refine Keeps.foldl (fun _ _ => ?_) ?_; with_reducible refine Keeps.step ?_ (eflEmit_keep ..)
  exact Keeps.refl _; exact Keeps.refl _

theorem eflUp_keep (s : State) (n : Nat) : Keeps s (eflUp s n) := by
  refine Holds.out ?_
  unfold eflUp
  dsimp only; with_reducible refine Holds.ite ?_ ?_; with_reducible refine Keeps.step ?_ (eflEmitAll_keep ..)
  with_reducible refine Keeps.step ?_ (State.eflUpd_keep ..); with_reducible refine Keeps.same ?_
  exact Keeps.refl _; with_reducible refine Keeps.step ?_ (State.eflUpd_keep ..)
  with_reducible refine Keeps.same ?_; exact Keeps.refl _

theorem execMarker_keep (n : Fin 8) (ws : List (BitVec 40)) (s : State) : OnNext (Keeps s) (execMarker n ws s) := by
  refine Holds.out ?_
  unfold execMarker
  dsimp only; with_reducible refine Holds.ite ?_ ?_; with_reducible refine Holds.next ?_; exact Keeps.refl _
  with_reducible refine Holds.ite ?_ ?_; with_reducible refine Holds.ite ?_ ?_
  with_reducible refine Holds.next ?_; with_reducible refine Keeps.same ?_
  with_reducible refine Keeps.step ?_ (State.eflUpd_keep ..); exact Keeps.refl _
  with_reducible refine Holds.next ?_; with_reducible refine Keeps.step ?_ (eflUp_keep ..)
  with_reducible refine Keeps.step ?_ (State.eflUpd_keep ..); exact Keeps.refl _
  with_reducible refine Holds.next ?_; with_reducible refine Keeps.step ?_ (eflRetrain_keep ..)
  exact Keeps.refl _

theorem execMissingMarker_keep (n : Fin 8) (s : State) : OnNext (Keeps s) (execMissingMarker n s) := by
  refine Holds.out ?_
  unfold execMissingMarker
  with_reducible refine Holds.next ?_; with_reducible refine Keeps.step ?_ (eflRetrain_keep ..)
  exact Keeps.refl _

theorem eflResend_keep (s : State) (n : Nat) : Keeps s (eflResend s n) := by
  refine Holds.out ?_
  unfold eflResend
  dsimp only; with_reducible refine Holds.ite ?_ ?_; exact Keeps.refl _
  with_reducible refine Holds.ite ?_ ?_; with_reducible refine Keeps.step ?_ (eflRetrain_keep ..)
  with_reducible refine Keeps.same ?_; exact Keeps.refl _
  with_reducible refine Keeps.step ?_ (eflEmitAll_keep ..)
  with_reducible refine Keeps.step ?_ (State.eflUpd_keep ..); with_reducible refine Keeps.same ?_
  exact Keeps.refl _

theorem eflAck_keep (s : State) (n ack : Nat) : Keeps s (eflAck s n ack) := by
  refine Holds.out ?_
  unfold eflAck
  dsimp only; split; exact Keeps.refl _; with_reducible refine Keeps.foldl (fun _ _ => ?_) ?_
  with_reducible refine Keeps.step ?_ (eflEmit_keep ..); exact Keeps.refl _
  with_reducible refine Keeps.step ?_ (State.eflUpd_keep ..); exact Keeps.refl _

theorem eflDiscard_keep (s : State) (n : Nat) : Keeps s (eflDiscard s n) := by
  refine Holds.out ?_
  unfold eflDiscard
  with_reducible refine Keeps.step ?_ (State.eflUpd_keep ..); with_reducible refine Keeps.same ?_
  exact Keeps.refl _

theorem eflHeader_keep (s : State) (n : Nat) (c : BitVec 640) : Keeps s (eflHeader s n c) := by
  refine Holds.out ?_
  unfold eflHeader
  dsimp only; with_reducible refine Holds.ite ?_ ?_; with_reducible refine Keeps.step ?_ (eflResend_keep ..)
  with_reducible refine Keeps.step ?_ (State.eflUpd_keep ..)
  with_reducible refine Keeps.step ?_ (eflAck_keep ..); exact Keeps.refl _
  with_reducible refine Keeps.step ?_ (State.eflUpd_keep ..)
  with_reducible refine Keeps.step ?_ (eflAck_keep ..); exact Keeps.refl _

theorem eflInbound_keep (s : State) (n typ link : Nat) (r : HopReq) : Keeps s (eflInbound s n typ link r) := by
  refine Holds.out ?_
  unfold eflInbound
  dsimp only; with_reducible refine Holds.ite ?_ ?_; with_reducible refine Keeps.step ?_ (eflAnswer_keep ..)
  with_reducible refine Keeps.step ?_ (eflOutst_keep ..)
  with_reducible refine Keeps.step ?_ (State.eflUpd_keep ..); exact Keeps.refl _
  with_reducible refine Holds.ite ?_ ?_; with_reducible refine Keeps.step ?_ (eflAnswer_keep ..)
  with_reducible refine Keeps.same ?_; with_reducible refine Keeps.step ?_ (eflOutst_keep ..)
  with_reducible refine Keeps.step ?_ (State.eflUpd_keep ..); exact Keeps.refl _
  with_reducible refine Keeps.step ?_ (State.inject_keep ..)
  with_reducible refine Keeps.step ?_ (eflOutst_keep ..)
  with_reducible refine Keeps.step ?_ (State.eflUpd_keep ..); exact Keeps.refl _

theorem eflPacket_keep (s : State) (n : Nat) (p : EflPkt) : Keeps s (eflPacket s n p) := by
  refine Holds.out ?_
  unfold eflPacket
  split; with_reducible refine Holds.ite ?_ ?_; with_reducible refine Keeps.step ?_ (State.eflUpd_keep ..)
  exact Keeps.refl _; with_reducible refine Keeps.step ?_ (eflInbound_keep ..); exact Keeps.refl _; split
  exact Keeps.refl _; with_reducible refine Keeps.step ?_ (eflInbound_keep ..)
  with_reducible refine Keeps.step ?_ (State.eflUpd_keep ..); exact Keeps.refl _; split
  with_reducible refine Keeps.step ?_ (eflFree_keep ..); with_reducible refine Keeps.same ?_
  exact Keeps.refl _; exact Keeps.refl _; split; with_reducible refine Keeps.step ?_ (eflFree_keep ..)
  with_reducible refine Keeps.same ?_; exact Keeps.refl _; exact Keeps.refl _

theorem eflReceive_keep (s : State) (n : Nat) (c : BitVec 640) (want : List Nat) : Keeps s (eflReceive s n c want) := by
  refine Holds.out ?_
  unfold eflReceive
  with_reducible refine Holds.ite ?_ ?_; exact Keeps.refl _; with_reducible refine Holds.ite ?_ ?_
  with_reducible refine Keeps.step ?_ (eflRetrain_keep ..); exact Keeps.refl _; dsimp only
  with_reducible refine Holds.ite ?_ ?_; with_reducible refine Keeps.step ?_ (eflDiscard_keep ..)
  with_reducible refine Keeps.step ?_ (State.eflUpd_keep ..); exact Keeps.refl _
  with_reducible refine Holds.ite ?_ ?_; exact Keeps.refl _; with_reducible refine Holds.ite ?_ ?_
  with_reducible refine Keeps.step ?_ (eflHeader_keep ..)
  with_reducible refine Keeps.step ?_ (State.eflUpd_keep ..); exact Keeps.refl _
  with_reducible refine Holds.ite ?_ ?_; with_reducible refine Keeps.step ?_ (eflDiscard_keep ..)
  with_reducible refine Keeps.step ?_ (eflHeader_keep ..)
  with_reducible refine Keeps.step ?_ (State.eflUpd_keep ..); exact Keeps.refl _; split
  with_reducible refine Keeps.step ?_ (eflDiscard_keep ..)
  with_reducible refine Keeps.step ?_ (eflHeader_keep ..)
  with_reducible refine Keeps.step ?_ (State.eflUpd_keep ..); exact Keeps.refl _
  with_reducible refine Keeps.step ?_ (eflPacket_keep ..)
  with_reducible refine Keeps.step ?_ (State.eflUpd_keep ..)
  with_reducible refine Keeps.step ?_ (eflHeader_keep ..)
  with_reducible refine Keeps.step ?_ (State.eflUpd_keep ..); exact Keeps.refl _

theorem execIdleCell_keep (n : Fin 8) (cell : BitVec 640) (s : State) : OnNext (Keeps s) (execIdleCell n cell s) := by
  refine Holds.out ?_
  unfold execIdleCell
  with_reducible refine Holds.next ?_; with_reducible refine Keeps.step ?_ (eflReceive_keep ..)
  exact Keeps.refl _

theorem execReqCell_keep (n : Fin 8) (cell : BitVec 640) (s : State) : OnNext (Keeps s) (execReqCell n cell s) := by
  refine Holds.out ?_
  unfold execReqCell
  with_reducible refine Holds.next ?_; with_reducible refine Keeps.step ?_ (eflReceive_keep ..)
  exact Keeps.refl _

theorem execWdataCell_keep (n : Fin 8) (cell : BitVec 640) (s : State) : OnNext (Keeps s) (execWdataCell n cell s) := by
  refine Holds.out ?_
  unfold execWdataCell
  with_reducible refine Holds.next ?_; with_reducible refine Keeps.step ?_ (eflReceive_keep ..)
  exact Keeps.refl _

theorem execCmpCell_keep (n : Fin 8) (cell : BitVec 640) (s : State) : OnNext (Keeps s) (execCmpCell n cell s) := by
  refine Holds.out ?_
  unfold execCmpCell
  with_reducible refine Holds.next ?_; with_reducible refine Keeps.step ?_ (eflReceive_keep ..)
  exact Keeps.refl _

theorem execRdataCell_keep (n : Fin 8) (cell : BitVec 640) (s : State) : OnNext (Keeps s) (execRdataCell n cell s) := by
  refine Holds.out ?_
  unfold execRdataCell
  with_reducible refine Holds.next ?_; with_reducible refine Keeps.step ?_ (eflReceive_keep ..)
  exact Keeps.refl _

theorem execReplayTimeout_keep (n : Fin 8) (s : State) : OnNext (Keeps s) (execReplayTimeout n s) := by
  refine Holds.out ?_
  unfold execReplayTimeout
  dsimp only; with_reducible refine Holds.ite ?_ ?_; with_reducible refine Holds.next ?_; exact Keeps.refl _
  with_reducible refine Holds.ite ?_ ?_; with_reducible refine Holds.next ?_
  with_reducible refine Keeps.step ?_ (eflRetrain_keep ..); exact Keeps.refl _
  with_reducible refine Holds.ite ?_ ?_; with_reducible refine Holds.next ?_
  with_reducible refine Keeps.step ?_ (eflResend_keep ..); exact Keeps.refl _
  with_reducible refine Holds.next ?_; exact Keeps.refl _

theorem execRetrainTimeout_keep (n : Fin 8) (s : State) : OnNext (Keeps s) (execRetrainTimeout n s) := by
  refine Holds.out ?_
  unfold execRetrainTimeout
  with_reducible refine Holds.ite ?_ ?_; dsimp only; with_reducible refine Holds.next ?_
  with_reducible refine Keeps.same ?_; with_reducible refine Keeps.step ?_ (eflDown_keep ..)
  exact Keeps.refl _; with_reducible refine Holds.next ?_; exact Keeps.refl _

theorem execEfmelOutbound_keep (r : HopReq) (typ : Fin 16) (s : State) : OnNext (Keeps s) (execEfmelOutbound r typ s) := by
  refine Holds.out ?_
  unfold execEfmelOutbound
  split; with_reducible refine Holds.ite ?_ ?_; dsimp only; with_reducible refine Holds.ite ?_ ?_
  with_reducible refine Holds.next ?_; exact Keeps.refl _; split; with_reducible refine Holds.next ?_
  exact Keeps.refl _; with_reducible refine Holds.next ?_; with_reducible refine Keeps.same ?_
  have k := OnSome.at (eflOutbound_keep ..) ‹_›; refine Keeps.step ?_ k
  with_reducible refine Keeps.step ?_ (State.arrived_keep ..); with_reducible refine Holds.ite ?_ ?_
  with_reducible refine Keeps.step ?_ (State.inject_keep ..); exact Keeps.refl _; exact Keeps.refl _
  with_reducible refine Holds.next ?_; have k := OnSome.at (eflOutbound_keep ..) ‹_›; refine Keeps.step ?_ k
  with_reducible refine Keeps.step ?_ (State.arrived_keep ..); with_reducible refine Holds.ite ?_ ?_
  with_reducible refine Keeps.step ?_ (State.inject_keep ..); exact Keeps.refl _; exact Keeps.refl _
  with_reducible refine Holds.next ?_; with_reducible refine Keeps.same ?_; exact Keeps.refl _
  with_reducible refine Holds.next ?_; exact Keeps.refl _

theorem eflDownCmd_keep (s : State) (n : Nat) : Keeps s (eflDownCmd s n) := by
  refine Holds.out ?_
  unfold eflDownCmd
  with_reducible refine Holds.ite ?_ ?_; exact Keeps.refl _
  with_reducible refine Keeps.step ?_ (eflDown_keep ..); exact Keeps.refl _

theorem eflQuiesce_keep (s : State) (n : Nat) : Keeps s (eflQuiesce s n) := by
  refine Holds.out ?_
  unfold eflQuiesce
  with_reducible refine Holds.ite ?_ ?_; with_reducible refine Keeps.step ?_ (State.eflUpd_keep ..)
  exact Keeps.refl _; exact Keeps.refl _

theorem execQuiesceDone_keep (n : Fin 8) (s : State) : OnNext (Keeps s) (execQuiesceDone n s) := by
  refine Holds.out ?_
  unfold execQuiesceDone
  dsimp only; with_reducible refine Holds.ite ?_ ?_; with_reducible refine Holds.next ?_
  with_reducible refine Keeps.step ?_ (eflDown_keep ..); exact Keeps.refl _
  with_reducible refine Holds.next ?_; exact Keeps.refl _

theorem execPrsntChange_keep (n : Fin 8) (low : Bool) (s : State) : OnNext (Keeps s) (execPrsntChange n low s) := by
  refine Holds.out ?_
  unfold execPrsntChange
  with_reducible refine Holds.next ?_; with_reducible refine Keeps.step ?_ (State.eflUpd_keep ..)
  exact Keeps.refl _

theorem execPresenceDebounced_keep (n : Fin 8) (s : State) : OnNext (Keeps s) (execPresenceDebounced n s) := by
  refine Holds.out ?_
  unfold execPresenceDebounced
  dsimp only; with_reducible refine Holds.ite ?_ ?_; with_reducible refine Holds.next ?_; exact Keeps.refl _
  with_reducible refine Holds.ite ?_ ?_; with_reducible refine Holds.next ?_
  with_reducible refine Holds.ite ?_ ?_; with_reducible refine Keeps.step ?_ (eflTrain_keep ..)
  with_reducible refine Holds.ite ?_ ?_; with_reducible refine Keeps.same ?_; exact Keeps.refl _
  with_reducible refine Keeps.same ?_; exact Keeps.refl _; with_reducible refine Holds.ite ?_ ?_
  with_reducible refine Keeps.same ?_; exact Keeps.refl _; with_reducible refine Keeps.same ?_
  exact Keeps.refl _; with_reducible refine Holds.ite ?_ ?_; with_reducible refine Holds.next ?_
  with_reducible refine Keeps.same ?_; exact Keeps.refl _; with_reducible refine Holds.next ?_
  with_reducible refine Keeps.step ?_ (eflDown_keep ..); with_reducible refine Keeps.same ?_
  exact Keeps.refl _

theorem eflTest_keep (s : State) (n : Nat) (on : Bool) : Keeps s (eflTest s n on) := by
  refine Holds.out ?_
  unfold eflTest
  dsimp only; with_reducible refine Holds.ite ?_ ?_; with_reducible refine Holds.ite ?_ ?_
  with_reducible refine Keeps.same ?_; exact Keeps.refl _
  with_reducible refine Keeps.step ?_ (State.eflUpd_keep ..); with_reducible refine Keeps.same ?_
  exact Keeps.refl _; with_reducible refine Holds.ite ?_ ?_; with_reducible refine Holds.ite ?_ ?_
  with_reducible refine Keeps.step ?_ (eflTrain_keep ..); with_reducible refine Keeps.same ?_
  exact Keeps.refl _; with_reducible refine Keeps.same ?_; exact Keeps.refl _
  with_reducible refine Keeps.same ?_; exact Keeps.refl _

theorem execPrbsLock_keep (n : Fin 8) (l : Fin 16) (errs : Word) (s : State) : OnNext (Keeps s) (execPrbsLock n l errs s) := by
  refine Holds.out ?_
  unfold execPrbsLock
  dsimp only; with_reducible refine Holds.ite ?_ ?_; with_reducible refine Holds.next ?_
  with_reducible refine Keeps.same ?_; exact Keeps.refl _; with_reducible refine Holds.next ?_
  exact Keeps.refl _

end Sys2Proof.Machine
end

