-- ==== Sys2Proof/Laws/KeepPcie.lean ====
section
/-! SUPPORT. What the operations of Pcie keep: the waiting commands and the invariant. -/
namespace Sys2Proof.Machine

theorem State.aerNote_keep (s : State) (f code : Nat) : Keeps s (State.aerNote s f code) := by
  refine Holds.out ?_
  unfold State.aerNote
  with_reducible refine Keeps.same ?_; exact Keeps.refl _

theorem State.pfReset_keep (s : State) (f : Nat) : Keeps s (State.pfReset s f) := by
  refine Holds.out ?_
  unfold State.pfReset
  dsimp only; with_reducible refine Keeps.same ?_; exact Keeps.refl _

theorem linkReset_keep (s : State) (portB : Bool) : Keeps s (linkReset s portB) := by
  refine Holds.out ?_
  unfold linkReset
  dsimp only; with_reducible refine Holds.ite ?_ ?_; with_reducible refine Keeps.same ?_
  with_reducible refine Keeps.foldl (fun _ _ => ?_) ?_
  with_reducible refine Keeps.step ?_ (State.pfReset_keep ..); exact Keeps.refl _
  with_reducible refine Keeps.same ?_; exact Keeps.refl _
  with_reducible refine Keeps.step ?_ (State.ldrLinkDown_keep ..); with_reducible refine Keeps.same ?_
  with_reducible refine Keeps.foldl (fun _ _ => ?_) ?_
  with_reducible refine Keeps.step ?_ (State.pfReset_keep ..); exact Keeps.refl _
  with_reducible refine Keeps.same ?_; exact Keeps.refl _

theorem execLinkReset_keep (portB perst : Bool) (s : State) : OnNext (Keeps s) (execLinkReset portB perst s) := by
  refine Holds.out ?_
  unfold execLinkReset
  with_reducible refine Holds.ite ?_ ?_; with_reducible refine Holds.next ?_; exact Keeps.refl _; dsimp only
  with_reducible refine Holds.ite ?_ ?_; with_reducible refine Holds.next ?_
  with_reducible refine Keeps.same ?_; with_reducible refine Keeps.step ?_ (linkReset_keep ..)
  exact Keeps.refl _; with_reducible refine Holds.next ?_
  with_reducible refine Keeps.step ?_ (linkReset_keep ..); exact Keeps.refl _

theorem execLinkUp_keep (portB : Bool) (speed : Fin 8) (width : Fin 17) (s : State) : OnNext (Keeps s) (execLinkUp portB speed width s) := by
  refine Holds.out ?_
  unfold execLinkUp
  dsimp only; with_reducible refine Holds.ite ?_ ?_; with_reducible refine Holds.next ?_; exact Keeps.refl _
  with_reducible refine Holds.ite ?_ ?_; with_reducible refine Holds.next ?_; exact Keeps.refl _
  with_reducible refine Holds.next ?_; with_reducible refine Holds.ite ?_ ?_
  with_reducible refine Keeps.same ?_; exact Keeps.refl _
  with_reducible refine Keeps.step ?_ (State.windowOpen_keep ..); with_reducible refine Keeps.same ?_
  exact Keeps.refl _

theorem State.cfgWrite_keep (s : State) (f : Nat) (q : CfgReq) : Keeps s (s.cfgWrite f q) := by
  refine Holds.out ?_
  unfold State.cfgWrite
  split
  · exact Keeps.base _ _
  · exact Keeps.base _ _
  · with_reducible refine Holds.ite ?_ ?_
    · exact Keeps.same (Keeps.refl _)
    · exact Keeps.refl _
  · exact Keeps.refl _

theorem execConfigRequest_keep (f : FnNo) (q : CfgReq) (s : State) : OnNext (Keeps s) (execConfigRequest f q s) := by
  refine Holds.out ?_
  unfold execConfigRequest
  with_reducible refine Holds.ite ?_ ?_; with_reducible refine Holds.next ?_; exact Keeps.refl _
  with_reducible refine Holds.ite ?_ ?_; with_reducible refine Holds.next ?_
  with_reducible refine Keeps.same ?_; exact Keeps.refl _; with_reducible refine Holds.ite ?_ ?_
  with_reducible refine Holds.next ?_; with_reducible refine Keeps.same ?_; exact Keeps.refl _
  with_reducible refine Holds.ite ?_ ?_; with_reducible refine Holds.next ?_
  with_reducible refine Keeps.same ?_; exact Keeps.refl _; dsimp only; with_reducible refine Holds.next ?_
  with_reducible refine Keeps.same ?_; with_reducible refine Keeps.step ?_ (State.cfgWrite_keep ..)
  exact Keeps.refl _

theorem execD3hot_keep (f : FnNo) (enter : Bool) (s : State) : OnNext (Keeps s) (execD3hot f enter s) := by
  refine Holds.out ?_
  unfold execD3hot
  with_reducible refine Holds.ite ?_ ?_; with_reducible refine Holds.next ?_
  with_reducible refine Keeps.same ?_; exact Keeps.refl _; with_reducible refine Holds.next ?_
  exact Keeps.refl _

theorem State.quiesceEnd_keep (s : State) : Keeps s (State.quiesceEnd s) := by
  refine Holds.out ?_
  unfold State.quiesceEnd
  with_reducible refine Holds.ite ?_ ?_; with_reducible refine Keeps.same ?_; exact Keeps.refl _
  exact Keeps.refl _

theorem quiesceHost_keep (s : State) : Keeps s (quiesceHost s) := by
  refine Holds.out ?_
  unfold quiesceHost
  with_reducible refine Keeps.step ?_ (State.quiesceEnd_keep ..); with_reducible refine Keeps.same ?_
  exact Keeps.refl _

theorem rmvReq_keep (s : State) : Keeps s (rmvReq s) := by
  refine Holds.out ?_
  unfold rmvReq
  with_reducible refine Holds.ite ?_ ?_; exact Keeps.refl _; dsimp only
  with_reducible refine Holds.ite ?_ ?_; with_reducible refine Keeps.step ?_ (quiesceHost_keep ..)
  with_reducible refine Keeps.same ?_; exact Keeps.refl _; with_reducible refine Keeps.same ?_
  exact Keeps.refl _

theorem execRmvReq_keep (s : State) : OnNext (Keeps s) (execRmvReq s) := by
  refine Holds.out ?_
  unfold execRmvReq
  with_reducible refine Holds.next ?_; with_reducible refine Keeps.step ?_ (rmvReq_keep ..)
  exact Keeps.refl _

theorem rmvAck_keep (s : State) : Keeps s (rmvAck s) := by
  refine Holds.out ?_
  unfold rmvAck
  with_reducible refine Holds.ite ?_ ?_; with_reducible refine Keeps.step ?_ (quiesceHost_keep ..)
  exact Keeps.refl _; exact Keeps.refl _

theorem execRmvTimeout_keep (s : State) : OnNext (Keeps s) (execRmvTimeout s) := by
  refine Holds.out ?_
  unfold execRmvTimeout
  with_reducible refine Holds.ite ?_ ?_; with_reducible refine Holds.next ?_; exact Keeps.refl _
  with_reducible refine Holds.next ?_; with_reducible refine Keeps.step ?_ (rmvAck_keep ..)
  exact Keeps.refl _

end Sys2Proof.Machine
end

