-- ==== Sys2Proof/Laws/KeepVbd.lean ====
section
/-! SUPPORT. What the operations of Vbd keep: the waiting commands and the invariant. -/
namespace Sys2Proof.Machine

theorem execWatchAdvance_keep (t : Tower) (g : Fin 65536) (s : State) : OnNext (Keeps s) (execWatchAdvance t g s) := by
  refine Holds.out ?_
  unfold execWatchAdvance
  dsimp only; with_reducible refine Holds.ite ?_ ?_; with_reducible refine Holds.next ?_
  with_reducible refine Keeps.same ?_; exact Keeps.refl _; with_reducible refine Holds.next ?_
  exact Keeps.refl _

theorem spareFail_keep (s : State) (t g i : Nat) : Keeps s (spareFail s t g i) := by
  refine Holds.out ?_
  unfold spareFail
  dsimp only; with_reducible refine Keeps.same ?_; exact Keeps.refl _

theorem execWatchDisagree_keep (t : Tower) (g : Fin 65536) (who : Fin 3) (s : State) : OnNext (Keeps s) (execWatchDisagree t g who s) := by
  refine Holds.out ?_
  unfold execWatchDisagree
  dsimp only; with_reducible refine Holds.ite ?_ ?_; with_reducible refine Holds.next ?_; exact Keeps.refl _
  split; with_reducible refine Holds.ite ?_ ?_; with_reducible refine Holds.next ?_
  with_reducible refine Keeps.same ?_; exact Keeps.refl _; with_reducible refine Holds.next ?_
  with_reducible refine Keeps.same ?_; with_reducible refine Keeps.step ?_ (spareFail_keep ..)
  exact Keeps.refl _; with_reducible refine Holds.next ?_; with_reducible refine Keeps.same ?_
  exact Keeps.refl _; with_reducible refine Holds.next ?_; exact Keeps.refl _

theorem lameOutcome_keep (s : State) (t g : Nat) (boot : Bool) : Keeps s (lameOutcome s t g boot) := by
  refine Holds.out ?_
  unfold lameOutcome
  split; dsimp only; with_reducible refine Holds.ite ?_ ?_; with_reducible refine Keeps.same ?_
  exact Keeps.refl _; with_reducible refine Holds.ite ?_ ?_; with_reducible refine Keeps.same ?_
  exact Keeps.refl _; with_reducible refine Keeps.step ?_ (State.freeze_keep ..)
  with_reducible refine Keeps.same ?_; exact Keeps.refl _; dsimp only; with_reducible refine Keeps.same ?_
  exact Keeps.refl _; dsimp only; with_reducible refine Keeps.same ?_; exact Keeps.refl _; dsimp only
  with_reducible refine Holds.ite ?_ ?_; with_reducible refine Keeps.step ?_ (State.freeze_keep ..)
  with_reducible refine Keeps.same ?_; exact Keeps.refl _; with_reducible refine Keeps.same ?_
  exact Keeps.refl _; exact Keeps.refl _

theorem groupLames_keep (s : State) (t g sig : Nat) (boot : Bool) : Keeps s (groupLames s t g sig boot) := by
  refine Holds.out ?_
  unfold groupLames
  dsimp only; with_reducible refine Keeps.step ?_ (lameOutcome_keep ..); with_reducible refine Keeps.same ?_
  exact Keeps.refl _

theorem steer_keep (s : State) (t g : Nat) (e : Nat × Nat) : Keeps s (steer s t g e) := by
  refine Holds.out ?_
  unfold steer
  dsimp only; with_reducible refine Keeps.same ?_; exact Keeps.refl _

theorem bondTest_keep (s : State) (t g : Nat) (fails : BitVec 68) (boot : Bool) : Keeps s (bondTest s t g fails boot) := by
  refine Holds.out ?_
  unfold bondTest
  dsimp only; with_reducible refine Holds.ite ?_ ?_; with_reducible refine Keeps.step ?_ (groupLames_keep ..)
  with_reducible refine Keeps.same ?_; with_reducible refine Keeps.foldl (fun _ _ => ?_) ?_
  with_reducible refine Holds.ite ?_ ?_; with_reducible refine Keeps.same ?_
  with_reducible refine Keeps.step ?_ (spareFail_keep ..); exact Keeps.refl _
  with_reducible refine Keeps.step ?_ (spareFail_keep ..); exact Keeps.refl _; exact Keeps.refl _
  with_reducible refine Keeps.same ?_; with_reducible refine Keeps.foldl (fun _ _ => ?_) ?_
  with_reducible refine Keeps.step ?_ (steer_keep ..); exact Keeps.refl _
  with_reducible refine Keeps.same ?_; with_reducible refine Keeps.foldl (fun _ _ => ?_) ?_
  with_reducible refine Holds.ite ?_ ?_; with_reducible refine Keeps.same ?_
  with_reducible refine Keeps.step ?_ (spareFail_keep ..); exact Keeps.refl _
  with_reducible refine Keeps.step ?_ (spareFail_keep ..); exact Keeps.refl _; exact Keeps.refl _

theorem execBondTest_keep (t : Tower) (g : Fin 65536) (fails : BitVec 68) (s : State) : OnNext (Keeps s) (execBondTest t g fails s) := by
  refine Holds.out ?_
  unfold execBondTest
  with_reducible refine Holds.next ?_; with_reducible refine Holds.ite ?_ ?_
  with_reducible refine Keeps.step ?_ (bondTest_keep ..); exact Keeps.refl _; exact Keeps.refl _

theorem recordCommit_keep (s : State) (new : List (BitVec 64)) (copies : Nat) : OnFst (Keeps s) (recordCommit s new copies) := by
  refine Holds.out ?_
  unfold recordCommit
  dsimp only; with_reducible refine Holds.ite ?_ ?_; with_reducible refine Holds.mk1 ?_; exact Keeps.refl _
  with_reducible refine Holds.ite ?_ ?_; with_reducible refine Holds.mk1 ?_
  with_reducible refine Keeps.same ?_; exact Keeps.refl _; with_reducible refine Holds.mk1 ?_
  with_reducible refine Keeps.same ?_; exact Keeps.refl _

theorem execRepairRecordWrite_keep (copies : Fin 4) (s : State) : OnNext (Keeps s) (execRepairRecordWrite copies s) := by
  refine Holds.out ?_
  unfold execRepairRecordWrite
  with_reducible refine Holds.ite ?_ ?_; with_reducible refine Holds.next ?_; exact Keeps.refl _
  with_reducible refine Holds.next ?_; with_reducible refine Keeps.step ?_ (recordCommit_keep ..)
  exact Keeps.refl _

theorem applyRecord_keep (s : State) (r : BitVec 64) : Keeps s (applyRecord s r) := by
  refine Holds.out ?_
  unfold applyRecord
  dsimp only; split; with_reducible refine Keeps.same ?_; exact Keeps.refl _
  with_reducible refine Keeps.same ?_; exact Keeps.refl _
  with_reducible refine Keeps.step ?_ (lameOutcome_keep ..); with_reducible refine Keeps.same ?_
  exact Keeps.refl _; with_reducible refine Keeps.same ?_; exact Keeps.refl _; exact Keeps.refl _

end Sys2Proof.Machine
end

