-- ==== Sys2Proof/Laws/KeepAnole.lean ====
section
/-! SUPPORT. What the operations of Anole keep: the waiting commands and the invariant. -/
namespace Sys2Proof.Machine

theorem State.an_keep (s : State) (f : Anole → Anole) : Keeps s (State.an s f) := by
  refine Holds.out ?_
  unfold State.an
  with_reducible refine Keeps.same ?_; exact Keeps.refl _

theorem State.anoEvent_keep (s : State) (i : Nat) : Keeps s (State.anoEvent s i) := by
  refine Holds.out ?_
  unfold State.anoEvent
  with_reducible refine Keeps.same ?_; exact Keeps.refl _

theorem mbGo_keep (s : State) : Keeps s (mbGo s) := by
  refine Holds.out ?_
  unfold mbGo
  with_reducible refine Holds.ite ?_ ?_; with_reducible refine Keeps.step ?_ (State.anoEvent_keep ..)
  exact Keeps.refl _; dsimp only; with_reducible refine Keeps.step ?_ (State.an_keep ..)
  with_reducible refine Keeps.same ?_; exact Keeps.refl _

theorem deny_keep (s : State) (st : Nat) : OnFst (Keeps s) (deny s st) := by
  refine Holds.out ?_
  unfold deny
  with_reducible refine Holds.mk1 ?_; exact Keeps.refl _

theorem serve_keep (s : State) (op : Nat) (f : MbCmd → State → Reply) (hf : ∀ c u, OnFst (Keeps u) (f c u)) :
    Keeps s (serve s op f) := by
  refine Holds.out ?_
  unfold serve
  split
  · with_reducible refine Holds.ite ?_ ?_
    · dsimp only
      refine Keeps.step (Holds.fst ?_) (State.an_keep ..)
      with_reducible refine Holds.ite ?_ ?_
      · exact Holds.mk1 (Keeps.base _ _)
      · exact Holds.of (hf _ _)
    · exact Keeps.refl _
  · exact Keeps.refl _

theorem publish_keep (s : State) (c : MbCmd) (st : Nat) (rsp : List Byte) : Keeps s (publish s c st rsp) := by
  refine Holds.out ?_
  unfold publish
  with_reducible refine Holds.ite ?_ ?_; with_reducible refine Keeps.same ?_; exact Keeps.refl _; dsimp only
  with_reducible refine Keeps.step ?_ (State.an_keep ..); with_reducible refine Keeps.same ?_
  exact Keeps.refl _

theorem execMbDone_keep (s : State) : OnNext (Keeps s) (execMbDone s) := by
  refine Holds.out ?_
  unfold execMbDone
  split; dsimp only; split; with_reducible refine Holds.next ?_
  with_reducible refine Keeps.step ?_ (publish_keep ..)
  with_reducible refine Keeps.step ?_ (State.an_keep ..); exact Keeps.refl _
  with_reducible refine Holds.ite ?_ ?_; with_reducible refine Holds.next ?_
  with_reducible refine Keeps.step ?_ (publish_keep ..)
  with_reducible refine Keeps.step ?_ (State.an_keep ..); exact Keeps.refl _
  with_reducible refine Holds.next ?_; exact Keeps.refl _; with_reducible refine Holds.next ?_
  exact Keeps.refl _

theorem burnt_keep (s : State) (f : Fuse → Fuse) (new : Nat) : Keeps s (burnt s f new) := by
  refine Holds.out ?_
  unfold burnt
  dsimp only; with_reducible refine Keeps.same ?_; exact Keeps.refl _

theorem execGetInfo_keep (s : State) : OnNext (Keeps s) (execGetInfo s) := by
  refine Holds.out ?_
  unfold execGetInfo
  with_reducible refine Holds.next ?_; refine Keeps.step ?_ (serve_keep _ _ _ (fun _ _ => Holds.out ?_))
  exact Keeps.refl _; with_reducible refine Holds.ite ?_ ?_; refine Holds.of_fst ?_
  with_reducible refine Keeps.step ?_ (deny_keep ..); exact Keeps.refl _; with_reducible refine Holds.mk1 ?_
  with_reducible refine Keeps.same ?_; exact Keeps.refl _

theorem execGetMeas_keep (s : State) : OnNext (Keeps s) (execGetMeas s) := by
  refine Holds.out ?_
  unfold execGetMeas
  with_reducible refine Holds.next ?_; refine Keeps.step ?_ (serve_keep _ _ _ (fun _ _ => Holds.out ?_))
  exact Keeps.refl _; dsimp only; with_reducible refine Holds.ite ?_ ?_; refine Holds.of_fst ?_
  with_reducible refine Keeps.step ?_ (deny_keep ..); exact Keeps.refl _
  with_reducible refine Holds.ite ?_ ?_; refine Holds.of_fst ?_
  with_reducible refine Keeps.step ?_ (deny_keep ..); exact Keeps.refl _; with_reducible refine Holds.mk1 ?_
  exact Keeps.refl _

theorem execAttest_keep (s : State) : OnNext (Keeps s) (execAttest s) := by
  refine Holds.out ?_
  unfold execAttest
  with_reducible refine Holds.next ?_; refine Keeps.step ?_ (serve_keep _ _ _ (fun _ _ => Holds.out ?_))
  exact Keeps.refl _; with_reducible refine Holds.ite ?_ ?_; refine Holds.of_fst ?_
  with_reducible refine Keeps.step ?_ (deny_keep ..); exact Keeps.refl _
  with_reducible refine Holds.ite ?_ ?_; refine Holds.of_fst ?_
  with_reducible refine Keeps.step ?_ (deny_keep ..); exact Keeps.refl _; dsimp only
  with_reducible refine Holds.mk1 ?_; with_reducible refine Keeps.same ?_; exact Keeps.refl _

theorem execKeyGen_keep (s : State) : OnNext (Keeps s) (execKeyGen s) := by
  refine Holds.out ?_
  unfold execKeyGen
  with_reducible refine Holds.next ?_; refine Keeps.step ?_ (serve_keep _ _ _ (fun _ _ => Holds.out ?_))
  exact Keeps.refl _; dsimp only; with_reducible refine Holds.ite ?_ ?_; refine Holds.of_fst ?_
  with_reducible refine Keeps.step ?_ (deny_keep ..); exact Keeps.refl _
  with_reducible refine Holds.ite ?_ ?_; refine Holds.of_fst ?_
  with_reducible refine Keeps.step ?_ (deny_keep ..); exact Keeps.refl _
  with_reducible refine Holds.ite ?_ ?_; refine Holds.of_fst ?_
  with_reducible refine Keeps.step ?_ (deny_keep ..); exact Keeps.refl _; with_reducible refine Holds.mk1 ?_
  with_reducible refine Keeps.upd ?_ ?_ ?_ ?_ ?_ ?_; exact Keeps.refl _; exact PondsKeep.refl _
  with_reducible refine GKeep.step ?_ (slotLoad_keep ..); exact GKeep.refl _; exact KKeep.refl _
  exact CKeep.refl _; exact QKeep.refl _

theorem execKeyImport_keep (s : State) : OnNext (Keeps s) (execKeyImport s) := by
  refine Holds.out ?_
  unfold execKeyImport
  with_reducible refine Holds.next ?_; refine Keeps.step ?_ (serve_keep _ _ _ (fun _ _ => Holds.out ?_))
  exact Keeps.refl _; dsimp only; with_reducible refine Holds.ite ?_ ?_; refine Holds.of_fst ?_
  with_reducible refine Keeps.step ?_ (deny_keep ..); exact Keeps.refl _
  with_reducible refine Holds.ite ?_ ?_; refine Holds.of_fst ?_
  with_reducible refine Keeps.step ?_ (deny_keep ..); exact Keeps.refl _
  with_reducible refine Holds.ite ?_ ?_; refine Holds.of_fst ?_
  with_reducible refine Keeps.step ?_ (deny_keep ..); exact Keeps.refl _; split; refine Holds.of_fst ?_
  with_reducible refine Keeps.step ?_ (deny_keep ..); exact Keeps.refl _
  with_reducible refine Holds.ite ?_ ?_; refine Holds.of_fst ?_
  with_reducible refine Keeps.step ?_ (deny_keep ..); exact Keeps.refl _; with_reducible refine Holds.mk1 ?_
  with_reducible refine Keeps.upd ?_ ?_ ?_ ?_ ?_ ?_; exact Keeps.refl _; exact PondsKeep.refl _
  with_reducible refine GKeep.step ?_ (slotLoad_keep ..); exact GKeep.refl _; exact KKeep.refl _
  exact CKeep.refl _; exact QKeep.refl _

theorem execIkeySet_keep (flashOk : Bool) (s : State) : OnNext (Keeps s) (execIkeySet flashOk s) := by
  refine Holds.out ?_
  unfold execIkeySet
  with_reducible refine Holds.next ?_; refine Keeps.step ?_ (serve_keep _ _ _ (fun _ _ => Holds.out ?_))
  exact Keeps.refl _; with_reducible refine Holds.ite ?_ ?_; refine Holds.of_fst ?_
  with_reducible refine Keeps.step ?_ (deny_keep ..); exact Keeps.refl _
  with_reducible refine Holds.ite ?_ ?_; refine Holds.of_fst ?_
  with_reducible refine Keeps.step ?_ (deny_keep ..); exact Keeps.refl _; split; refine Holds.of_fst ?_
  with_reducible refine Keeps.step ?_ (deny_keep ..); exact Keeps.refl _
  with_reducible refine Holds.ite ?_ ?_; refine Holds.of_fst ?_
  with_reducible refine Keeps.step ?_ (deny_keep ..); exact Keeps.refl _; with_reducible refine Holds.mk1 ?_
  with_reducible refine Keeps.step ?_ (burnt_keep ..); exact Keeps.refl _

theorem execEnroll_keep (flashOk fuseOk : Bool) (s : State) : OnNext (Keeps s) (execEnroll flashOk fuseOk s) := by
  refine Holds.out ?_
  unfold execEnroll
  with_reducible refine Holds.next ?_; refine Keeps.step ?_ (serve_keep _ _ _ (fun _ _ => Holds.out ?_))
  exact Keeps.refl _; dsimp only; with_reducible refine Holds.ite ?_ ?_; refine Holds.of_fst ?_
  with_reducible refine Keeps.step ?_ (deny_keep ..); exact Keeps.refl _
  with_reducible refine Holds.ite ?_ ?_; refine Holds.of_fst ?_
  with_reducible refine Keeps.step ?_ (deny_keep ..); exact Keeps.refl _
  with_reducible refine Holds.ite ?_ ?_; refine Holds.of_fst ?_
  with_reducible refine Keeps.step ?_ (deny_keep ..); exact Keeps.refl _
  with_reducible refine Holds.ite ?_ ?_; refine Holds.of_fst ?_
  with_reducible refine Keeps.step ?_ (deny_keep ..); exact Keeps.refl _; with_reducible refine Holds.mk1 ?_
  with_reducible refine Keeps.step ?_ (burnt_keep ..); with_reducible refine Keeps.same ?_
  exact Keeps.refl _

theorem execOpkeyInstall_keep (flashOk : Bool) (s : State) : OnNext (Keeps s) (execOpkeyInstall flashOk s) := by
  refine Holds.out ?_
  unfold execOpkeyInstall
  with_reducible refine Holds.next ?_; refine Keeps.step ?_ (serve_keep _ _ _ (fun _ _ => Holds.out ?_))
  exact Keeps.refl _; dsimp only; with_reducible refine Holds.ite ?_ ?_; refine Holds.of_fst ?_
  with_reducible refine Keeps.step ?_ (deny_keep ..); exact Keeps.refl _
  with_reducible refine Holds.ite ?_ ?_; refine Holds.of_fst ?_
  with_reducible refine Keeps.step ?_ (deny_keep ..); exact Keeps.refl _
  with_reducible refine Holds.ite ?_ ?_; refine Holds.of_fst ?_
  with_reducible refine Keeps.step ?_ (deny_keep ..); exact Keeps.refl _
  with_reducible refine Holds.ite ?_ ?_; refine Holds.of_fst ?_
  with_reducible refine Keeps.step ?_ (deny_keep ..); exact Keeps.refl _
  with_reducible refine Holds.ite ?_ ?_; refine Holds.of_fst ?_
  with_reducible refine Keeps.step ?_ (deny_keep ..); exact Keeps.refl _
  with_reducible refine Holds.ite ?_ ?_; refine Holds.of_fst ?_
  with_reducible refine Keeps.step ?_ (deny_keep ..); exact Keeps.refl _; with_reducible refine Holds.mk1 ?_
  with_reducible refine Keeps.same ?_; exact Keeps.refl _

theorem execOpkeyRevoke_keep (fuseOk : Bool) (s : State) : OnNext (Keeps s) (execOpkeyRevoke fuseOk s) := by
  refine Holds.out ?_
  unfold execOpkeyRevoke
  with_reducible refine Holds.next ?_; refine Keeps.step ?_ (serve_keep _ _ _ (fun _ _ => Holds.out ?_))
  exact Keeps.refl _; dsimp only; with_reducible refine Holds.ite ?_ ?_; refine Holds.of_fst ?_
  with_reducible refine Keeps.step ?_ (deny_keep ..); exact Keeps.refl _
  with_reducible refine Holds.ite ?_ ?_; refine Holds.of_fst ?_
  with_reducible refine Keeps.step ?_ (deny_keep ..); exact Keeps.refl _
  with_reducible refine Holds.ite ?_ ?_; refine Holds.of_fst ?_
  with_reducible refine Keeps.step ?_ (deny_keep ..); exact Keeps.refl _
  with_reducible refine Holds.ite ?_ ?_; refine Holds.of_fst ?_
  with_reducible refine Keeps.step ?_ (deny_keep ..); exact Keeps.refl _
  with_reducible refine Holds.ite ?_ ?_; refine Holds.of_fst ?_
  with_reducible refine Keeps.step ?_ (deny_keep ..); exact Keeps.refl _; with_reducible refine Holds.mk1 ?_
  with_reducible refine Keeps.step ?_ (burnt_keep ..); exact Keeps.refl _

theorem execSvnAdvance_keep (reach : Fin 65) (s : State) : OnNext (Keeps s) (execSvnAdvance reach s) := by
  refine Holds.out ?_
  unfold execSvnAdvance
  with_reducible refine Holds.next ?_; refine Keeps.step ?_ (serve_keep _ _ _ (fun _ _ => Holds.out ?_))
  exact Keeps.refl _; dsimp only; with_reducible refine Holds.ite ?_ ?_; refine Holds.of_fst ?_
  with_reducible refine Keeps.step ?_ (deny_keep ..); exact Keeps.refl _
  with_reducible refine Holds.ite ?_ ?_; refine Holds.of_fst ?_
  with_reducible refine Keeps.step ?_ (deny_keep ..); exact Keeps.refl _
  with_reducible refine Holds.ite ?_ ?_; refine Holds.of_fst ?_
  with_reducible refine Keeps.step ?_ (deny_keep ..); exact Keeps.refl _; with_reducible refine Holds.mk1 ?_
  with_reducible refine Holds.ite ?_ ?_; exact Keeps.refl _
  with_reducible refine Keeps.step ?_ (burnt_keep ..); exact Keeps.refl _

theorem execStage_keep (flashOk : Bool) (s : State) : OnNext (Keeps s) (execStage flashOk s) := by
  refine Holds.out ?_
  unfold execStage
  with_reducible refine Holds.next ?_; refine Keeps.step ?_ (serve_keep _ _ _ (fun _ _ => Holds.out ?_))
  exact Keeps.refl _; dsimp only; with_reducible refine Holds.ite ?_ ?_; refine Holds.of_fst ?_
  with_reducible refine Keeps.step ?_ (deny_keep ..); exact Keeps.refl _
  with_reducible refine Holds.ite ?_ ?_; refine Holds.of_fst ?_
  with_reducible refine Keeps.step ?_ (deny_keep ..); exact Keeps.refl _
  with_reducible refine Holds.ite ?_ ?_; refine Holds.of_fst ?_
  with_reducible refine Keeps.step ?_ (deny_keep ..); exact Keeps.refl _
  with_reducible refine Holds.ite ?_ ?_; refine Holds.of_fst ?_
  with_reducible refine Keeps.step ?_ (deny_keep ..); with_reducible refine Keeps.step ?_ (State.an_keep ..)
  exact Keeps.refl _; with_reducible refine Holds.mk1 ?_; with_reducible refine Keeps.same ?_
  with_reducible refine Keeps.step ?_ (State.an_keep ..); exact Keeps.refl _

theorem execVerify_keep (header ed ml : Bool) (svn : Word) (s : State) : OnNext (Keeps s) (execVerify header ed ml svn s) := by
  refine Holds.out ?_
  unfold execVerify
  with_reducible refine Holds.next ?_; refine Keeps.step ?_ (serve_keep _ _ _ (fun _ _ => Holds.out ?_))
  exact Keeps.refl _; dsimp only; with_reducible refine Holds.ite ?_ ?_; refine Holds.of_fst ?_
  with_reducible refine Keeps.step ?_ (deny_keep ..); exact Keeps.refl _
  with_reducible refine Holds.ite ?_ ?_; refine Holds.of_fst ?_
  with_reducible refine Keeps.step ?_ (deny_keep ..); exact Keeps.refl _
  with_reducible refine Holds.ite ?_ ?_; with_reducible refine Holds.mk1 ?_
  with_reducible refine Keeps.step ?_ (State.an_keep ..); with_reducible refine Keeps.same ?_
  exact Keeps.refl _; with_reducible refine Holds.ite ?_ ?_; refine Holds.of_fst ?_
  with_reducible refine Keeps.step ?_ (deny_keep ..); with_reducible refine Keeps.step ?_ (State.an_keep ..)
  exact Keeps.refl _; with_reducible refine Holds.ite ?_ ?_; refine Holds.of_fst ?_
  with_reducible refine Keeps.step ?_ (deny_keep ..); with_reducible refine Keeps.step ?_ (State.an_keep ..)
  exact Keeps.refl _; refine Holds.of_fst ?_; with_reducible refine Keeps.step ?_ (deny_keep ..)
  with_reducible refine Keeps.step ?_ (State.an_keep ..); exact Keeps.refl _

theorem archiveLog_keep (s : State) : Keeps s (archiveLog s) := by
  refine Holds.out ?_
  unfold archiveLog
  dsimp only; with_reducible refine Keeps.step ?_ (State.an_keep ..); with_reducible refine Keeps.same ?_
  exact Keeps.refl _

theorem anoleBoot_keep (s : State) (i : Nat) (ver svn : Word) : Keeps s (anoleBoot s i ver svn) := by
  refine Holds.out ?_
  unfold anoleBoot
  dsimp only; with_reducible refine Holds.ite ?_ ?_; with_reducible refine Keeps.step ?_ (archiveLog_keep ..)
  with_reducible refine Keeps.step ?_ (State.an_keep ..); with_reducible refine Keeps.same ?_
  exact Keeps.refl _; with_reducible refine Keeps.step ?_ (State.an_keep ..)
  with_reducible refine Keeps.same ?_; exact Keeps.refl _

theorem execActivate_keep (flashOk : Bool) (ver svn : Word) (s : State) : OnNext (Keeps s) (execActivate flashOk ver svn s) := by
  refine Holds.out ?_
  unfold execActivate
  with_reducible refine Holds.next ?_; refine Keeps.step ?_ (serve_keep _ _ _ (fun _ _ => Holds.out ?_))
  exact Keeps.refl _; dsimp only; with_reducible refine Holds.ite ?_ ?_; refine Holds.of_fst ?_
  with_reducible refine Keeps.step ?_ (deny_keep ..); exact Keeps.refl _
  with_reducible refine Holds.ite ?_ ?_; refine Holds.of_fst ?_
  with_reducible refine Keeps.step ?_ (deny_keep ..); exact Keeps.refl _
  with_reducible refine Holds.ite ?_ ?_; refine Holds.of_fst ?_
  with_reducible refine Keeps.step ?_ (deny_keep ..); exact Keeps.refl _
  with_reducible refine Holds.ite ?_ ?_; refine Holds.of_fst ?_
  with_reducible refine Keeps.step ?_ (deny_keep ..); exact Keeps.refl _; with_reducible refine Holds.mk1 ?_
  with_reducible refine Holds.ite ?_ ?_; with_reducible refine Keeps.step ?_ (State.an_keep ..)
  with_reducible refine Keeps.step ?_ (anoleBoot_keep ..); with_reducible refine Keeps.same ?_
  with_reducible refine Keeps.step ?_ (State.an_keep ..); exact Keeps.refl _
  with_reducible refine Keeps.same ?_; with_reducible refine Keeps.step ?_ (State.an_keep ..)
  exact Keeps.refl _

theorem execAnoleReady_keep (ed0 ml0 ed1 ml1 : Bool) (ver0 svn0 ver1 svn1 : Word) (s : State) : OnNext (Keeps s) (execAnoleReady ed0 ml0 ed1 ml1 ver0 svn0 ver1 svn1 s) := by
  refine Holds.out ?_
  unfold execAnoleReady
  with_reducible refine Holds.ite ?_ ?_; with_reducible refine Holds.next ?_; exact Keeps.refl _; dsimp only
  with_reducible refine Holds.ite ?_ ?_; with_reducible refine Holds.next ?_
  with_reducible refine Keeps.same ?_; exact Keeps.refl _; with_reducible refine Holds.ite ?_ ?_
  with_reducible refine Holds.next ?_; with_reducible refine Keeps.step ?_ (anoleBoot_keep ..)
  exact Keeps.refl _; with_reducible refine Holds.next ?_
  with_reducible refine Keeps.step ?_ (anoleBoot_keep ..); exact Keeps.refl _

theorem execRepairCommit_keep (copies : Fin 4) (s : State) : OnNext (Keeps s) (execRepairCommit copies s) := by
  refine Holds.out ?_
  unfold execRepairCommit
  with_reducible refine Holds.next ?_; refine Keeps.step ?_ (serve_keep _ _ _ (fun _ _ => Holds.out ?_))
  exact Keeps.refl _; with_reducible refine Holds.ite ?_ ?_; refine Holds.of_fst ?_
  with_reducible refine Keeps.step ?_ (deny_keep ..); exact Keeps.refl _; dsimp only
  with_reducible refine Holds.ite ?_ ?_; with_reducible refine Holds.mk1 ?_
  with_reducible refine Keeps.step ?_ (recordCommit_keep ..); exact Keeps.refl _; refine Holds.of_fst ?_
  with_reducible refine Keeps.step ?_ (deny_keep ..)
  with_reducible refine Keeps.step ?_ (recordCommit_keep ..); exact Keeps.refl _

theorem execCrkArchive_keep (flashOk : Bool) (s : State) : OnNext (Keeps s) (execCrkArchive flashOk s) := by
  refine Holds.out ?_
  unfold execCrkArchive
  with_reducible refine Holds.next ?_; refine Keeps.step ?_ (serve_keep _ _ _ (fun _ _ => Holds.out ?_))
  exact Keeps.refl _; with_reducible refine Holds.ite ?_ ?_; refine Holds.of_fst ?_
  with_reducible refine Keeps.step ?_ (deny_keep ..); exact Keeps.refl _
  with_reducible refine Holds.ite ?_ ?_; refine Holds.of_fst ?_
  with_reducible refine Keeps.step ?_ (deny_keep ..); exact Keeps.refl _; with_reducible refine Holds.mk1 ?_
  with_reducible refine Keeps.step ?_ (archiveLog_keep ..); exact Keeps.refl _

theorem execCrkUnfreeze_keep (s : State) : OnNext (Keeps s) (execCrkUnfreeze s) := by
  refine Holds.out ?_
  unfold execCrkUnfreeze
  with_reducible refine Holds.next ?_; refine Keeps.step ?_ (serve_keep _ _ _ (fun _ _ => Holds.out ?_))
  exact Keeps.refl _; with_reducible refine Holds.ite ?_ ?_; refine Holds.of_fst ?_
  with_reducible refine Keeps.step ?_ (deny_keep ..); exact Keeps.refl _; with_reducible refine Holds.mk1 ?_
  with_reducible refine Keeps.same ?_; exact Keeps.refl _

theorem execTelemetry_keep (s : State) : OnNext (Keeps s) (execTelemetry s) := by
  refine Holds.out ?_
  unfold execTelemetry
  with_reducible refine Holds.next ?_; refine Keeps.step ?_ (serve_keep _ _ _ (fun _ _ => Holds.out ?_))
  exact Keeps.refl _; with_reducible refine Holds.ite ?_ ?_; refine Holds.of_fst ?_
  with_reducible refine Keeps.step ?_ (deny_keep ..); exact Keeps.refl _; with_reducible refine Holds.mk1 ?_
  exact Keeps.refl _

theorem execLifetime_keep (s : State) : OnNext (Keeps s) (execLifetime s) := by
  refine Holds.out ?_
  unfold execLifetime
  with_reducible refine Holds.next ?_; refine Keeps.step ?_ (serve_keep _ _ _ (fun _ _ => Holds.out ?_))
  exact Keeps.refl _; with_reducible refine Holds.ite ?_ ?_; refine Holds.of_fst ?_
  with_reducible refine Keeps.step ?_ (deny_keep ..); exact Keeps.refl _; with_reducible refine Holds.mk1 ?_
  exact Keeps.refl _

theorem execTelemetrySample_keep (s : State) : OnNext (Keeps s) (execTelemetrySample s) := by
  refine Holds.out ?_
  unfold execTelemetrySample
  with_reducible refine Holds.ite ?_ ?_; dsimp only; with_reducible refine Holds.next ?_
  with_reducible refine Keeps.step ?_ (State.an_keep ..); exact Keeps.refl _
  with_reducible refine Holds.next ?_; exact Keeps.refl _

theorem execLifetimeWrite_keep (s : State) : OnNext (Keeps s) (execLifetimeWrite s) := by
  refine Holds.out ?_
  unfold execLifetimeWrite
  with_reducible refine Holds.ite ?_ ?_; dsimp only; with_reducible refine Holds.next ?_
  with_reducible refine Keeps.same ?_; with_reducible refine Keeps.step ?_ (State.an_keep ..)
  exact Keeps.refl _; with_reducible refine Holds.next ?_; exact Keeps.refl _

theorem failCommand_keep (s : State) : Keeps s (failCommand s) := by
  refine Holds.out ?_
  unfold failCommand
  split; with_reducible refine Keeps.step ?_ (publish_keep ..)
  with_reducible refine Keeps.step ?_ (State.an_keep ..); exact Keeps.refl _; exact Keeps.refl _

theorem actPress_keep (s : State) (e : Nat × Nat) : Keeps s (actPress s e) := by
  refine Holds.out ?_
  unfold actPress
  dsimp only; with_reducible refine Holds.ite ?_ ?_; with_reducible refine Keeps.step ?_ (State.an_keep ..)
  with_reducible refine Keeps.same ?_; exact Keeps.refl _; with_reducible refine Holds.ite ?_ ?_
  with_reducible refine Holds.ite ?_ ?_; with_reducible refine Keeps.same ?_; exact Keeps.refl _
  with_reducible refine Keeps.foldl (fun _ _ => ?_) ?_; with_reducible refine Holds.ite ?_ ?_
  with_reducible refine Keeps.step ?_ (eflQuiesce_keep ..); exact Keeps.refl _; exact Keeps.refl _
  with_reducible refine Keeps.step ?_ (rmvReq_keep ..); with_reducible refine Keeps.same ?_
  exact Keeps.refl _; with_reducible refine Holds.ite ?_ ?_
  with_reducible refine Keeps.step ?_ (State.ldrGolden_keep ..); with_reducible refine Keeps.same ?_
  exact Keeps.refl _; with_reducible refine Keeps.same ?_; exact Keeps.refl _

theorem runPresses_keep (s : State) : Keeps s (runPresses s) := by
  refine Holds.out ?_
  unfold runPresses
  with_reducible refine Holds.ite ?_ ?_; with_reducible refine Keeps.foldl (fun _ _ => ?_) ?_
  with_reducible refine Keeps.step ?_ (actPress_keep ..); exact Keeps.refl _
  with_reducible refine Keeps.step ?_ (State.an_keep ..); exact Keeps.refl _; exact Keeps.refl _

theorem takePress_keep (s : State) (cls ms : Nat) : Keeps s (takePress s cls ms) := by
  refine Holds.out ?_
  unfold takePress
  dsimp only; with_reducible refine Keeps.step ?_ (runPresses_keep ..)
  with_reducible refine Keeps.step ?_ (State.an_keep ..); with_reducible refine Keeps.same ?_
  exact Keeps.refl _

theorem execButtonRelease_keep (ms : Fin 131072) (s : State) : OnNext (Keeps s) (execButtonRelease ms s) := by
  refine Holds.out ?_
  unfold execButtonRelease
  dsimp only; with_reducible refine Holds.ite ?_ ?_; with_reducible refine Holds.next ?_
  with_reducible refine Keeps.step ?_ (State.an_keep ..); with_reducible refine Keeps.same ?_
  exact Keeps.refl _; with_reducible refine Holds.next ?_
  with_reducible refine Keeps.step ?_ (takePress_keep ..); with_reducible refine Keeps.same ?_
  exact Keeps.refl _

theorem execButtonHoldGolden_keep (s : State) : OnNext (Keeps s) (execButtonHoldGolden s) := by
  refine Holds.out ?_
  unfold execButtonHoldGolden
  with_reducible refine Holds.ite ?_ ?_; with_reducible refine Holds.next ?_; exact Keeps.refl _
  with_reducible refine Holds.next ?_; with_reducible refine Keeps.step ?_ (State.an_keep ..)
  with_reducible refine Keeps.step ?_ (takePress_keep ..); with_reducible refine Keeps.same ?_
  exact Keeps.refl _

theorem execIdentifyEnd_keep (s : State) : OnNext (Keeps s) (execIdentifyEnd s) := by
  refine Holds.out ?_
  unfold execIdentifyEnd
  with_reducible refine Holds.next ?_; with_reducible refine Keeps.step ?_ (State.an_keep ..)
  exact Keeps.refl _

theorem execHeartbeat_keep (s : State) : OnNext (Keeps s) (execHeartbeat s) := by
  refine Holds.out ?_
  unfold execHeartbeat
  with_reducible refine Holds.ite ?_ ?_; with_reducible refine Holds.next ?_; exact Keeps.refl _
  with_reducible refine Holds.next ?_; with_reducible refine Keeps.step ?_ (runPresses_keep ..)
  with_reducible refine Keeps.step ?_ (State.an_keep ..); exact Keeps.refl _

theorem execFailover_keep (sram : Bool) (s : State) : OnNext (Keeps s) (execFailover sram s) := by
  refine Holds.out ?_
  unfold execFailover
  with_reducible refine Holds.ite ?_ ?_; with_reducible refine Holds.next ?_; exact Keeps.refl _; dsimp only
  with_reducible refine Holds.next ?_; with_reducible refine Keeps.step ?_ (runPresses_keep ..)
  with_reducible refine Keeps.step ?_ (failCommand_keep ..)
  with_reducible refine Keeps.step ?_ (State.an_keep ..); with_reducible refine Keeps.same ?_
  exact Keeps.refl _

theorem execNoAnoleLeft_keep (s : State) : OnNext (Keeps s) (execNoAnoleLeft s) := by
  refine Holds.out ?_
  unfold execNoAnoleLeft
  dsimp only; with_reducible refine Holds.next ?_; with_reducible refine Keeps.step ?_ (State.an_keep ..)
  with_reducible refine Keeps.same ?_; exact Keeps.refl _

theorem execMctpMessage_keep (m : MctpMsg) (s : State) : OnNext (Keeps s) (execMctpMessage m s) := by
  refine Holds.out ?_
  unfold execMctpMessage
  with_reducible refine Holds.ite ?_ ?_; with_reducible refine Holds.next ?_; exact Keeps.refl _; dsimp only
  split; with_reducible refine Holds.next ?_; with_reducible refine Keeps.same ?_; exact Keeps.refl _
  with_reducible refine Holds.next ?_; with_reducible refine Keeps.same ?_; exact Keeps.refl _
  with_reducible refine Holds.next ?_; with_reducible refine Holds.ite ?_ ?_
  with_reducible refine Keeps.same ?_; exact Keeps.refl _; exact Keeps.refl _
  with_reducible refine Holds.next ?_; with_reducible refine Holds.ite ?_ ?_
  with_reducible refine Keeps.step ?_ (State.an_keep ..); exact Keeps.refl _; exact Keeps.refl _
  with_reducible refine Holds.next ?_; with_reducible refine Holds.ite ?_ ?_
  with_reducible refine Keeps.step ?_ (State.an_keep ..); exact Keeps.refl _; exact Keeps.refl _
  with_reducible refine Holds.next ?_; with_reducible refine Holds.ite ?_ ?_
  with_reducible refine Keeps.step ?_ (State.an_keep ..); exact Keeps.refl _; exact Keeps.refl _
  with_reducible refine Holds.next ?_; with_reducible refine Holds.ite ?_ ?_
  with_reducible refine Keeps.same ?_; exact Keeps.refl _; exact Keeps.refl _
  with_reducible refine Holds.next ?_; with_reducible refine Holds.ite ?_ ?_
  with_reducible refine Keeps.step ?_ (State.an_keep ..); exact Keeps.refl _; exact Keeps.refl _
  with_reducible refine Holds.next ?_; exact Keeps.refl _

theorem execSpdmRequest_keep (port : Fin 3) (q : SpdmReq) (s : State) : OnNext (Keeps s) (execSpdmRequest port q s) := by
  refine Holds.out ?_
  unfold execSpdmRequest
  dsimp only; with_reducible refine Holds.ite ?_ ?_; with_reducible refine Holds.next ?_; exact Keeps.refl _
  split; with_reducible refine Holds.next ?_; with_reducible refine Keeps.same ?_; exact Keeps.refl _
  with_reducible refine Holds.next ?_; with_reducible refine Keeps.same ?_; exact Keeps.refl _
  with_reducible refine Holds.next ?_; with_reducible refine Keeps.same ?_
  with_reducible refine Keeps.step ?_ (State.an_keep ..); exact Keeps.refl _
  with_reducible refine Holds.next ?_; with_reducible refine Keeps.same ?_
  with_reducible refine Keeps.step ?_ (State.an_keep ..); exact Keeps.refl _
  with_reducible refine Holds.ite ?_ ?_; with_reducible refine Holds.next ?_
  with_reducible refine Keeps.same ?_; exact Keeps.refl _; with_reducible refine Holds.next ?_
  exact Keeps.refl _; with_reducible refine Holds.ite ?_ ?_; with_reducible refine Holds.next ?_
  with_reducible refine Keeps.same ?_; exact Keeps.refl _; with_reducible refine Holds.next ?_
  exact Keeps.refl _

theorem pondPolicy_keep (s : State) (p : Nat) : Keeps s (pondPolicy s p) := by
  refine Holds.out ?_
  unfold pondPolicy
  dsimp only; split; exact Keeps.refl _; with_reducible refine Holds.ite ?_ ?_
  with_reducible refine Holds.ite ?_ ?_; with_reducible refine Keeps.step ?_ (State.an_keep ..)
  with_reducible refine Keeps.same ?_; exact Keeps.refl _
  with_reducible refine Keeps.step ?_ (State.an_keep ..); exact Keeps.refl _; exact Keeps.refl _

theorem degradePolicy_keep (s : State) (t : Nat) : Keeps s (degradePolicy s t) := by
  refine Holds.out ?_
  unfold degradePolicy
  dsimp only; with_reducible refine Holds.ite ?_ ?_; split; with_reducible refine Holds.ite ?_ ?_
  with_reducible refine Holds.ite ?_ ?_; with_reducible refine Keeps.same ?_
  with_reducible refine Keeps.step ?_ (State.an_keep ..); with_reducible refine Keeps.same ?_
  exact Keeps.refl _; with_reducible refine Keeps.same ?_
  with_reducible refine Keeps.step ?_ (State.an_keep ..); with_reducible refine Keeps.same ?_
  exact Keeps.refl _; with_reducible refine Keeps.step ?_ (State.an_keep ..)
  with_reducible refine Keeps.same ?_; exact Keeps.refl _
  with_reducible refine Keeps.step ?_ (State.an_keep ..); with_reducible refine Keeps.same ?_
  exact Keeps.refl _; exact Keeps.refl _

theorem execAnoleDegrade_keep (t : Tower) (s : State) : OnNext (Keeps s) (execAnoleDegrade t s) := by
  refine Holds.out ?_
  unfold execAnoleDegrade
  with_reducible refine Holds.next ?_; with_reducible refine Holds.ite ?_ ?_
  with_reducible refine Keeps.step ?_ (degradePolicy_keep ..); exact Keeps.refl _; exact Keeps.refl _

theorem execAnoleThresholdPolicy_keep (p : Page) (s : State) : OnNext (Keeps s) (execAnoleThresholdPolicy p s) := by
  refine Holds.out ?_
  unfold execAnoleThresholdPolicy
  with_reducible refine Holds.ite ?_ ?_; with_reducible refine Holds.next ?_; exact Keeps.refl _; split
  with_reducible refine Holds.next ?_; with_reducible refine Keeps.step ?_ (pondPolicy_keep ..)
  exact Keeps.refl _; dsimp only; with_reducible refine Holds.next ?_; with_reducible refine Keeps.same ?_
  exact Keeps.refl _; with_reducible refine Holds.next ?_
  with_reducible refine Keeps.step ?_ (degradePolicy_keep ..); exact Keeps.refl _
  with_reducible refine Holds.next ?_; exact Keeps.refl _

end Sys2Proof.Machine
end

