-- ==== Sys2Proof/Laws/KeepReset.lean ====
section
/-! SUPPORT. What the operations of Reset keep: the waiting commands and the invariant. -/
namespace Sys2Proof.Machine

theorem State.blockRegs_keep (s : State) (p : Page) : Keeps s (State.blockRegs s p) := by
  refine Holds.out ?_
  unfold State.blockRegs
  with_reducible refine Keeps.same ?_; exact Keeps.refl _

theorem State.chmReset_keep (s : State) (t : Nat) : Keeps s (State.chmReset s t) := by
  refine Holds.out ?_
  unfold State.chmReset
  dsimp only; with_reducible refine Keeps.step ?_ (State.setCh_keep ..); with_reducible refine Keeps.same ?_
  with_reducible refine Keeps.step ?_ (State.abandonStage_keep ..); exact Keeps.refl _

theorem State.encAbandon_keep (s : State) : Keeps s (State.encAbandon s) := by
  refine Holds.out ?_
  unfold State.encAbandon
  with_reducible refine Holds.ite ?_ ?_; dsimp only; with_reducible refine Keeps.same ?_; exact Keeps.refl _
  exact Keeps.refl _

theorem State.gkClear_keep (s : State) (g : Nat) : Keeps s (State.gkClear s g) := by
  refine Holds.out ?_
  unfold State.gkClear
  dsimp only; with_reducible refine Keeps.upd ?_ ?_ ?_ ?_ ?_ ?_
  with_reducible refine Keeps.step ?_ (gkEmpty_keep ..); exact Keeps.refl _; exact PondsKeep.refl _
  exact GKeep.refl _; with_reducible refine KKeep.step ?_ (Geckos.put_keep ..); exact KKeep.refl _
  exact CKeep.refl _; exact QKeep.refl _

theorem State.hopClear_keep (s : State) (t : Nat) : Keeps s (State.hopClear s t) := by
  refine Holds.out ?_
  unfold State.hopClear
  with_reducible refine Keeps.same ?_; exact Keeps.refl _

theorem State.hstClear_keep (s : State) (t : Nat) : Keeps s (State.hstClear s t) := by
  refine Holds.out ?_
  unfold State.hstClear
  with_reducible refine Keeps.same ?_; exact Keeps.refl _

theorem State.eflClear_keep (s : State) (n : Nat) (train : Bool) : Keeps s (State.eflClear s n train) := by
  refine Holds.out ?_
  unfold State.eflClear
  dsimp only; with_reducible refine Holds.ite ?_ ?_; with_reducible refine Keeps.step ?_ (eflTrain_keep ..)
  with_reducible refine Keeps.step ?_ (State.eflUpd_keep ..)
  with_reducible refine Keeps.step ?_ (State.blockRegs_keep ..)
  with_reducible refine Keeps.step ?_ (eflDown_keep ..); exact Keeps.refl _
  with_reducible refine Keeps.step ?_ (State.eflUpd_keep ..)
  with_reducible refine Keeps.step ?_ (State.blockRegs_keep ..)
  with_reducible refine Keeps.step ?_ (eflDown_keep ..); exact Keeps.refl _

theorem State.ldrDiscard_keep (s : State) (code : Nat) : Keeps s (State.ldrDiscard s code) := by
  refine Holds.out ?_
  unfold State.ldrDiscard
  with_reducible refine Holds.ite ?_ ?_; exact Keeps.refl _
  with_reducible refine Keeps.step ?_ (State.loadFail_keep ..); exact Keeps.refl _

theorem State.ldrBlock_keep (s : State) : Keeps s (State.ldrBlock s) := by
  refine Holds.out ?_
  unfold State.ldrBlock
  dsimp only; with_reducible refine Holds.ite ?_ ?_
  with_reducible refine Keeps.step ?_ (State.expireNow_keep ..)
  with_reducible refine Keeps.step ?_ (State.ldrReset_keep ..)
  with_reducible refine Keeps.step ?_ (State.ldrDiscard_keep ..)
  with_reducible refine Keeps.step ?_ (State.ld_keep ..); exact Keeps.refl _
  with_reducible refine Keeps.step ?_ (State.ldrReset_keep ..)
  with_reducible refine Keeps.step ?_ (State.ldrDiscard_keep ..)
  with_reducible refine Keeps.step ?_ (State.ld_keep ..); exact Keeps.refl _

theorem State.blockEffect_keep (s : State) (p : Page) : OnSome (Keeps s) (State.blockEffect s p) := by
  refine Holds.out ?_
  unfold State.blockEffect
  split; with_reducible refine Holds.some ?_; with_reducible refine Keeps.step ?_ (State.blockRegs_keep ..)
  with_reducible refine Keeps.upd ?_ ?_ ?_ ?_ ?_ ?_; exact Keeps.refl _; exact PondsKeep.refl _; dsimp only
  with_reducible refine GKeep.upd ?_; exact GKeep.refl _; exact KKeep.refl _; exact CKeep.refl _
  exact QKeep.refl _; with_reducible refine Holds.some ?_
  with_reducible refine Keeps.step ?_ (State.blockRegs_keep ..)
  with_reducible refine Keeps.step ?_ (State.encAbandon_keep ..); exact Keeps.refl _; split
  with_reducible refine Holds.some ?_; with_reducible refine Keeps.step ?_ (State.pendCnt_keep ..)
  with_reducible refine Keeps.step ?_ (State.blockRegs_keep ..)
  have k := OnOk.at (drainTower_keep ..) ‹_›; refine Keeps.step ?_ k; exact Keeps.refl _; exact Holds.none
  with_reducible refine Holds.some ?_; with_reducible refine Keeps.step ?_ (State.blockRegs_keep ..)
  with_reducible refine Keeps.step ?_ (State.hopClear_keep ..); exact Keeps.refl _
  with_reducible refine Holds.some ?_; with_reducible refine Keeps.step ?_ (State.blockRegs_keep ..)
  with_reducible refine Keeps.step ?_ (State.hstClear_keep ..); exact Keeps.refl _
  refine Holds.map (gkFlush_keep ..) ?_; intro _; intro _
  with_reducible refine Keeps.step ?_ (State.blockRegs_keep ..)
  with_reducible refine Keeps.step ?_ (State.gkClear_keep ..); refine Keeps.step ?_ ‹_›; exact Keeps.refl _
  with_reducible refine Holds.some ?_; with_reducible refine Keeps.step ?_ (State.blockRegs_keep ..)
  with_reducible refine Keeps.upd ?_ ?_ ?_ ?_ ?_ ?_; exact Keeps.refl _; dsimp only
  with_reducible refine PondsKeep.upd ?_; exact PKeep.refl _; exact GKeep.refl _; exact KKeep.refl _
  exact CKeep.refl _; exact QKeep.refl _; with_reducible refine Holds.some ?_
  with_reducible refine Keeps.step ?_ (State.blockRegs_keep ..)
  with_reducible refine Keeps.upd ?_ ?_ ?_ ?_ ?_ ?_; exact Keeps.refl _; exact PondsKeep.refl _
  exact GKeep.refl _; exact KKeep.refl _; dsimp only; with_reducible refine CKeep.upd ?_; exact CKeep.refl _
  exact QKeep.refl _; with_reducible refine Holds.some ?_
  with_reducible refine Keeps.step ?_ (State.blockRegs_keep ..)
  with_reducible refine Keeps.step ?_ (State.chmReset_keep ..); exact Keeps.refl _
  with_reducible refine Holds.some ?_; with_reducible refine Keeps.step ?_ (State.blockRegs_keep ..)
  with_reducible refine Keeps.upd ?_ ?_ ?_ ?_ ?_ ?_; exact Keeps.refl _; exact PondsKeep.refl _
  exact GKeep.refl _; exact KKeep.refl _; dsimp only; with_reducible refine CKeep.upd ?_; exact CKeep.refl _
  exact QKeep.refl _; dsimp only; with_reducible refine Holds.some ?_
  with_reducible refine Keeps.step ?_ (State.sltChanged_keep ..)
  with_reducible refine Keeps.step ?_ (State.setCh_keep ..)
  with_reducible refine Keeps.step ?_ (State.blockRegs_keep ..); exact Keeps.refl _; dsimp only
  with_reducible refine Holds.some ?_; with_reducible refine Keeps.same ?_
  with_reducible refine Keeps.step ?_ (State.blockRegs_keep ..); exact Keeps.refl _; dsimp only
  with_reducible refine Holds.some ?_; with_reducible refine Keeps.same ?_
  with_reducible refine Keeps.step ?_ (State.blockRegs_keep ..); exact Keeps.refl _
  with_reducible refine Holds.some ?_; with_reducible refine Keeps.step ?_ (State.blockRegs_keep ..)
  exact Keeps.refl _; with_reducible refine Holds.some ?_
  with_reducible refine Keeps.step ?_ (State.eflClear_keep ..); exact Keeps.refl _
  with_reducible refine Holds.some ?_; with_reducible refine Keeps.step ?_ (State.blockRegs_keep ..)
  with_reducible refine Keeps.step ?_ (State.an_keep ..); exact Keeps.refl _
  with_reducible refine Holds.some ?_; dsimp only; with_reducible refine Keeps.same ?_
  with_reducible refine Keeps.step ?_ (State.blockRegs_keep ..); exact Keeps.refl _
  with_reducible refine Holds.some ?_; with_reducible refine Keeps.step ?_ (State.ldrBlock_keep ..)
  exact Keeps.refl _; with_reducible refine Holds.some ?_
  with_reducible refine Keeps.step ?_ (State.blockRegs_keep ..); exact Keeps.refl _
  with_reducible refine Holds.some ?_; with_reducible refine Keeps.step ?_ (State.blockRegs_keep ..)
  exact Keeps.refl _; with_reducible refine Holds.some ?_
  with_reducible refine Keeps.step ?_ (State.blockRegs_keep ..); exact Keeps.refl _
  with_reducible refine Holds.some ?_; with_reducible refine Keeps.step ?_ (State.blockRegs_keep ..)
  exact Keeps.refl _; with_reducible refine Holds.some ?_
  with_reducible refine Keeps.step ?_ (State.blockRegs_keep ..); exact Keeps.refl _
  with_reducible refine Holds.some ?_; with_reducible refine Keeps.step ?_ (State.blockRegs_keep ..)
  exact Keeps.refl _; with_reducible refine Holds.some ?_
  with_reducible refine Keeps.step ?_ (State.blockRegs_keep ..); exact Keeps.refl _
  with_reducible refine Holds.some ?_; with_reducible refine Keeps.step ?_ (State.blockRegs_keep ..)
  exact Keeps.refl _; with_reducible refine Holds.some ?_
  with_reducible refine Keeps.step ?_ (State.blockRegs_keep ..); exact Keeps.refl _

theorem State.setSrst_keep (s : State) (p : Page) (v : Bool) : Keeps s (State.setSrst s p v) := by
  refine Holds.out ?_
  unfold State.setSrst
  with_reducible refine Keeps.same ?_; exact Keeps.refl _

theorem State.blockTry_keep (s : State) (p : Page) : Keeps s (State.blockTry s p) := by
  refine Holds.out ?_
  unfold State.blockTry
  with_reducible refine Holds.ite ?_ ?_; with_reducible refine Keeps.step ?_ (State.setSrst_keep ..)
  exact Keeps.refl _; split; with_reducible refine Keeps.step ?_ (State.setSrst_keep ..); exact Keeps.refl _
  with_reducible refine Keeps.step ?_ (State.setSrst_keep ..)
  have k := OnSome.at (State.blockEffect_keep ..) ‹_›; refine Keeps.step ?_ k; exact Keeps.refl _

theorem State.srst_keep (s : State) (p : Page) : Keeps s (State.srst s p) := by
  refine Holds.out ?_
  unfold State.srst
  dsimp only; with_reducible refine Holds.ite ?_ ?_; with_reducible refine Keeps.step ?_ (State.ld_keep ..)
  with_reducible refine Keeps.same ?_; exact Keeps.refl _
  with_reducible refine Keeps.step ?_ (State.blockTry_keep ..); with_reducible refine Keeps.same ?_
  exact Keeps.refl _

theorem execBlockResetDone_keep (p : Page) (s : State) : OnNext (Keeps s) (execBlockResetDone p s) := by
  refine Holds.out ?_
  unfold execBlockResetDone
  with_reducible refine Holds.ite ?_ ?_; with_reducible refine Holds.next ?_; exact Keeps.refl _; dsimp only
  with_reducible refine Holds.ite ?_ ?_; with_reducible refine Holds.next ?_
  with_reducible refine Holds.ite ?_ ?_; with_reducible refine Keeps.step ?_ (State.blockTry_keep ..)
  exact Keeps.refl _; exact Keeps.refl _; with_reducible refine Holds.next ?_
  with_reducible refine Keeps.same ?_; with_reducible refine Holds.ite ?_ ?_
  with_reducible refine Keeps.step ?_ (State.blockTry_keep ..); exact Keeps.refl _; exact Keeps.refl _

theorem ctxRst_keep (s : State) (mask : Nat) : Keeps s (ctxRst s mask) := by
  refine Holds.out ?_
  unfold ctxRst
  with_reducible refine Holds.ite ?_ ?_; exact Keeps.refl _; with_reducible refine Holds.ite ?_ ?_
  with_reducible refine Keeps.same ?_; exact Keeps.refl _; dsimp only
  with_reducible refine Keeps.step ?_ (State.settle_keep ..); with_reducible refine Keeps.same ?_
  with_reducible refine Keeps.step ?_ (State.weFallAll_keep ..); with_reducible refine Keeps.same ?_
  exact Keeps.refl _

theorem execCtxRstEnd_keep (s : State) : OnNext (Keeps s) (execCtxRstEnd s) := by
  refine Holds.out ?_
  unfold execCtxRstEnd
  dsimp only; with_reducible refine Holds.ite ?_ ?_; with_reducible refine Holds.next ?_; exact Keeps.refl _
  with_reducible refine Holds.next ?_; with_reducible refine Keeps.step ?_ (State.settle_keep ..)
  with_reducible refine Keeps.step ?_ (State.release_keep ..); with_reducible refine Keeps.same ?_
  exact Keeps.refl _

theorem State.setFlr_keep (s : State) (f : Nat) (v : Bool) : Keeps s (State.setFlr s f v) := by
  refine Holds.out ?_
  unfold State.setFlr
  dsimp only; with_reducible refine Holds.ite ?_ ?_; with_reducible refine Keeps.same ?_; exact Keeps.refl _
  with_reducible refine Keeps.same ?_; exact Keeps.refl _

theorem State.flrGeckos_keep (s : State) (c : Nat) : Keeps s (State.flrGeckos s c) := by
  refine Holds.out ?_
  unfold State.flrGeckos
  with_reducible refine Keeps.foldl (fun _ _ => ?_) ?_; with_reducible refine Holds.ite ?_ ?_; dsimp only
  with_reducible refine Keeps.step ?_ (State.gkClear_keep ..); with_reducible refine Keeps.same ?_
  exact Keeps.refl _; exact Keeps.refl _; exact Keeps.refl _

theorem flrContext_keep (s : State) (c : Nat) : Keeps s (flrContext s c) := by
  refine Holds.out ?_
  unfold flrContext
  dsimp only; with_reducible refine Keeps.step ?_ (State.settle_keep ..)
  with_reducible refine Keeps.step ?_ (State.weFallAll_keep ..)
  with_reducible refine Keeps.step ?_ (State.flrGeckos_keep ..)
  with_reducible refine Keeps.step ?_ (State.flrQueues_keep ..); with_reducible refine Keeps.same ?_
  with_reducible refine Keeps.step ?_ (State.setFlr_keep ..)
  with_reducible refine Keeps.step ?_ (State.pfReset_keep ..); exact Keeps.refl _

theorem execFlr_keep (c : Ctx) (s : State) : OnNext (Keeps s) (execFlr c s) := by
  refine Holds.out ?_
  unfold execFlr
  with_reducible refine Holds.ite ?_ ?_; with_reducible refine Holds.next ?_
  with_reducible refine Keeps.step ?_ (flrContext_keep ..); exact Keeps.refl _
  with_reducible refine Holds.next ?_; exact Keeps.refl _

theorem execFlrPf0_keep (s : State) : OnNext (Keeps s) (execFlrPf0 s) := by
  refine Holds.out ?_
  unfold execFlrPf0
  with_reducible refine Holds.ite ?_ ?_; dsimp only; with_reducible refine Holds.next ?_
  with_reducible refine Holds.ite ?_ ?_; with_reducible refine Keeps.same ?_
  with_reducible refine Keeps.step ?_ (State.an_keep ..); with_reducible refine Holds.ite ?_ ?_
  with_reducible refine Keeps.step ?_ (State.loadFail_keep ..); with_reducible refine Keeps.same ?_
  with_reducible refine Keeps.step ?_ (State.setFlr_keep ..)
  with_reducible refine Keeps.step ?_ (State.pfReset_keep ..); exact Keeps.refl _
  with_reducible refine Keeps.same ?_; with_reducible refine Keeps.step ?_ (State.setFlr_keep ..)
  with_reducible refine Keeps.step ?_ (State.pfReset_keep ..); exact Keeps.refl _
  with_reducible refine Keeps.step ?_ (State.an_keep ..); with_reducible refine Holds.ite ?_ ?_
  with_reducible refine Keeps.step ?_ (State.loadFail_keep ..); with_reducible refine Keeps.same ?_
  with_reducible refine Keeps.step ?_ (State.setFlr_keep ..)
  with_reducible refine Keeps.step ?_ (State.pfReset_keep ..); exact Keeps.refl _
  with_reducible refine Keeps.same ?_; with_reducible refine Keeps.step ?_ (State.setFlr_keep ..)
  with_reducible refine Keeps.step ?_ (State.pfReset_keep ..); exact Keeps.refl _
  with_reducible refine Holds.next ?_; exact Keeps.refl _

theorem execFlrVf_keep (c : Ctx) (v : Fin 32) (s : State) : OnNext (Keeps s) (execFlrVf c v s) := by
  refine Holds.out ?_
  unfold execFlrVf
  dsimp only; with_reducible refine Holds.ite ?_ ?_; with_reducible refine Holds.next ?_
  with_reducible refine Keeps.step ?_ (State.setFlr_keep ..); with_reducible refine Keeps.same ?_
  exact Keeps.refl _; with_reducible refine Holds.next ?_; exact Keeps.refl _

theorem execFlrDone_keep (f : FnNo) (s : State) : OnNext (Keeps s) (execFlrDone f s) := by
  refine Holds.out ?_
  unfold execFlrDone
  with_reducible refine Holds.ite ?_ ?_; dsimp only; with_reducible refine Holds.next ?_
  with_reducible refine Holds.ite ?_ ?_; with_reducible refine Keeps.step ?_ (State.settle_keep ..)
  with_reducible refine Keeps.step ?_ (State.release_keep ..)
  with_reducible refine Keeps.step ?_ (State.setFlr_keep ..); exact Keeps.refl _
  with_reducible refine Keeps.step ?_ (State.setFlr_keep ..); exact Keeps.refl _
  with_reducible refine Holds.next ?_; exact Keeps.refl _

theorem warmWork_keep (s : State) : Keeps s (warmWork s) := by
  refine Holds.out ?_
  unfold warmWork
  dsimp only; with_reducible refine Keeps.foldl (fun _ _ => ?_) ?_
  with_reducible refine Keeps.upd ?_ ?_ ?_ ?_ ?_ ?_; exact Keeps.refl _; exact PondsKeep.refl _
  with_reducible refine GKeep.step ?_ (gdRetry_keep ..); exact GKeep.refl _; exact KKeep.refl _
  exact CKeep.refl _; exact QKeep.refl _; with_reducible refine Keeps.foldl (fun _ _ => ?_) ?_
  with_reducible refine Keeps.step ?_ (goOn_keep ..); exact Keeps.refl _; with_reducible refine Keeps.same ?_
  with_reducible refine Keeps.foldl (fun _ _ => ?_) ?_; with_reducible refine Keeps.step ?_ (gkEmpty_keep ..)
  exact Keeps.refl _; with_reducible refine Keeps.foldl (fun _ _ => ?_) ?_
  with_reducible refine Keeps.step ?_ (softRepairEnd_keep ..); exact Keeps.refl _
  with_reducible refine Holds.ite ?_ ?_; with_reducible refine Keeps.step ?_ (State.commitFail_keep ..)
  with_reducible refine Keeps.step ?_ (State.ld_keep ..)
  with_reducible refine Keeps.foldl (fun _ _ => ?_) ?_
  with_reducible refine Keeps.step ?_ (State.reencodeEnd_keep ..); exact Keeps.refl _
  with_reducible refine Keeps.foldl (fun _ _ => ?_) ?_; with_reducible refine Keeps.foldl (fun _ _ => ?_) ?_
  with_reducible refine Keeps.step ?_ (resealEnd_keep ..); exact Keeps.refl _; exact Keeps.refl _
  exact Keeps.refl _; with_reducible refine Keeps.step ?_ (State.ldrDiscard_keep ..)
  with_reducible refine Keeps.step ?_ (State.ld_keep ..)
  with_reducible refine Keeps.foldl (fun _ _ => ?_) ?_
  with_reducible refine Keeps.step ?_ (State.reencodeEnd_keep ..); exact Keeps.refl _
  with_reducible refine Keeps.foldl (fun _ _ => ?_) ?_; with_reducible refine Keeps.foldl (fun _ _ => ?_) ?_
  with_reducible refine Keeps.step ?_ (resealEnd_keep ..); exact Keeps.refl _; exact Keeps.refl _
  exact Keeps.refl _

theorem warmCham_keep (s : State) : Keeps s (warmCham s) := by
  refine Holds.out ?_
  unfold warmCham
  with_reducible refine Keeps.foldl (fun _ _ => ?_) ?_; dsimp only
  with_reducible refine Keeps.step ?_ (State.setCh_keep ..); with_reducible refine Keeps.same ?_
  with_reducible refine Keeps.step ?_ (State.abandonStage_keep ..); exact Keeps.refl _; exact Keeps.refl _

theorem warmAnole_keep (s : State) : Keeps s (warmAnole s) := by
  refine Holds.out ?_
  unfold warmAnole
  dsimp only; with_reducible refine Keeps.step ?_ (State.an_keep ..); with_reducible refine Keeps.same ?_
  with_reducible refine Keeps.step ?_ (failCommand_keep ..); exact Keeps.refl _

theorem warmPcie_keep (s : State) : Keeps s (warmPcie s) := by
  refine Holds.out ?_
  unfold warmPcie
  dsimp only; with_reducible refine Keeps.same ?_; with_reducible refine Keeps.step ?_ (linkReset_keep ..)
  with_reducible refine Keeps.step ?_ (linkReset_keep ..); exact Keeps.refl _

theorem warmPages_keep (s : State) : Keeps s (warmPages s) := by
  refine Holds.out ?_
  unfold warmPages
  dsimp only; with_reducible refine Keeps.same ?_; exact Keeps.refl _

theorem warmEnter_keep (s : State) : Keeps s (warmEnter s) := by
  refine Holds.out ?_
  unfold warmEnter
  dsimp only; with_reducible refine Keeps.step ?_ (State.settle_keep ..)
  with_reducible refine Keeps.step ?_ (State.ld_keep ..); with_reducible refine Keeps.same ?_
  with_reducible refine Keeps.step ?_ (warmPages_keep ..); with_reducible refine Keeps.upd ?_ ?_ ?_ ?_ ?_ ?_
  with_reducible refine Keeps.step ?_ (warmAnole_keep ..)
  with_reducible refine Keeps.step ?_ (warmPcie_keep ..)
  with_reducible refine Keeps.foldl (fun _ _ => ?_) ?_
  with_reducible refine Keeps.step ?_ (State.eflClear_keep ..); exact Keeps.refl _
  with_reducible refine Keeps.step ?_ (warmCham_keep ..)
  with_reducible refine Keeps.step ?_ (State.weFallAll_keep ..)
  with_reducible refine Keeps.step ?_ (warmWork_keep ..); exact Keeps.refl _
  with_reducible refine PondsKeep.upd ?_; exact PKeep.refl _; with_reducible refine GKeep.upd ?_
  exact GKeep.refl _; with_reducible refine KKeep.upd ?_; exact KKeep.refl _
  with_reducible refine CKeep.upd ?_; exact CKeep.refl _; exact Holds.of (QKeep.nil _)

theorem execWarm_keep (s : State) : OnNext (Keeps s) (execWarm s) := by
  refine Holds.out ?_
  unfold execWarm
  with_reducible refine Holds.ite ?_ ?_; with_reducible refine Holds.next ?_
  with_reducible refine Keeps.same ?_; exact Keeps.refl _; with_reducible refine Holds.next ?_
  with_reducible refine Keeps.step ?_ (warmEnter_keep ..); exact Keeps.refl _

theorem State.fnsReady_keep (s : State) : Keeps s (State.fnsReady s) := by
  refine Holds.out ?_
  unfold State.fnsReady
  with_reducible refine Holds.ite ?_ ?_; with_reducible refine Keeps.same ?_; exact Keeps.refl _
  exact Keeps.refl _

theorem State.bootMs_keep (s : State) : Keeps s (State.bootMs s) := by
  refine Holds.out ?_
  unfold State.bootMs
  with_reducible refine Keeps.same ?_; exact Keeps.refl _

theorem State.stageReady_keep (s : State) : Keeps s (State.stageReady s) := by
  refine Holds.out ?_
  unfold State.stageReady
  dsimp only; with_reducible refine Keeps.foldl (fun _ _ => ?_) ?_; with_reducible refine Holds.ite ?_ ?_
  with_reducible refine Keeps.step ?_ (eflTrain_keep ..); exact Keeps.refl _; exact Keeps.refl _
  with_reducible refine Keeps.step ?_ (State.fnsReady_keep ..); with_reducible refine Keeps.same ?_
  with_reducible refine Keeps.step ?_ (State.bootMs_keep ..); exact Keeps.refl _

theorem execWarmRelease_keep (fails : List (Tower × Fin 65536 × BitVec 68)) (s : State) : OnNext (Keeps s) (execWarmRelease fails s) := by
  refine Holds.out ?_
  unfold execWarmRelease
  with_reducible refine Holds.ite ?_ ?_; dsimp only; with_reducible refine Holds.next ?_
  with_reducible refine Keeps.same ?_; with_reducible refine Keeps.step ?_ (State.stageReady_keep ..)
  with_reducible refine Keeps.foldl (fun _ _ => ?_) ?_; with_reducible refine Holds.ite ?_ ?_
  exact Keeps.refl _; with_reducible refine Keeps.upd ?_ ?_ ?_ ?_ ?_ ?_; exact Keeps.refl _
  exact PondsKeep.refl _; with_reducible refine GKeep.step ?_ (gdTrainBegin_keep ..); exact GKeep.refl _
  exact KKeep.refl _; exact CKeep.refl _; exact QKeep.refl _
  with_reducible refine Keeps.foldl (fun _ _ => ?_) ?_; with_reducible refine Holds.ite ?_ ?_
  with_reducible refine Keeps.step ?_ (bondTest_keep ..); exact Keeps.refl _; exact Keeps.refl _
  with_reducible refine Keeps.same ?_; exact Keeps.refl _; with_reducible refine Holds.next ?_
  exact Keeps.refl _

theorem execWarmRel_keep (s : State) : OnNext (Keeps s) (execWarmRel s) := by
  refine Holds.out ?_
  unfold execWarmRel
  with_reducible refine Holds.ite ?_ ?_; dsimp only; with_reducible refine Holds.next ?_
  with_reducible refine Keeps.step ?_ (State.settle_keep ..)
  with_reducible refine Keeps.step ?_ (State.release_keep ..); with_reducible refine Keeps.same ?_
  exact Keeps.refl _; with_reducible refine Holds.next ?_; exact Keeps.refl _

end Sys2Proof.Machine
end

