-- ==== Sys2Proof/Laws/KeepStartup.lean ====
section
/-! SUPPORT. What the operations of Startup keep: the waiting commands and the invariant. -/
namespace Sys2Proof.Machine

theorem powerOn_keep (s : State) : Keeps s (powerOn s) := by
  refine Holds.out ?_
  unfold powerOn
  dsimp only; with_reducible refine Keeps.upd ?_ ?_ ?_ ?_ ?_ ?_; exact Keeps.refl _
  exact Holds.of ⟨⟨fun _ => rfl⟩⟩; with_reducible refine GKeep.upd ?_; exact Holds.of ⟨fun _ => rfl⟩
  exact Holds.of ⟨fun _ => rfl⟩; exact Holds.of ⟨fun _ => rfl, fun _ => rfl, fun _ => rfl⟩
  exact Holds.of (QKeep.nil _)

theorem samplePresence_keep (s : State) (prsnt : BitVec 8) : Keeps s (samplePresence s prsnt) := by
  refine Holds.out ?_
  unfold samplePresence
  with_reducible refine Keeps.foldl (fun _ _ => ?_) ?_; with_reducible refine Holds.ite ?_ ?_
  with_reducible refine Keeps.step ?_ (State.eflUpd_keep ..); with_reducible refine Keeps.same ?_
  exact Keeps.refl _; exact Keeps.refl _; exact Keeps.refl _

theorem execPor_keep (sram button : Bool) (prsnt : BitVec 8) (s : State) : OnNext (Keeps s) (execPor sram button prsnt s) := by
  refine Holds.out ?_
  unfold execPor
  dsimp only; with_reducible refine Holds.next ?_; with_reducible refine Keeps.step ?_ (State.an_keep ..)
  with_reducible refine Keeps.same ?_; with_reducible refine Keeps.step ?_ (samplePresence_keep ..)
  with_reducible refine Keeps.step ?_ (powerOn_keep ..); exact Keeps.refl _

theorem execBrownout_keep (s : State) : OnNext (Keeps s) (execBrownout s) := by
  refine Holds.out ?_
  unfold execBrownout
  with_reducible refine Holds.ite ?_ ?_; with_reducible refine Holds.next ?_; exact Keeps.refl _; dsimp only
  with_reducible refine Holds.next ?_; with_reducible refine Keeps.step ?_ (State.an_keep ..)
  with_reducible refine Keeps.foldl (fun _ _ => ?_) ?_
  with_reducible refine Keeps.step ?_ (State.eflUpd_keep ..); with_reducible refine Keeps.same ?_
  exact Keeps.refl _; with_reducible refine Keeps.upd ?_ ?_ ?_ ?_ ?_ ?_
  with_reducible refine Keeps.step ?_ (powerOn_keep ..); exact Keeps.refl _
  with_reducible refine PondsKeep.upd ?_; exact PKeep.refl _; with_reducible refine GKeep.upd ?_
  exact GKeep.refl _; exact KKeep.refl _; with_reducible refine CKeep.upd ?_; exact CKeep.refl _
  exact QKeep.refl _

theorem execT0_keep (peBif : Bool) (vio v18 : BitVec 12) (s : State) : OnNext (Keeps s) (execT0 peBif vio v18 s) := by
  refine Holds.out ?_
  unfold execT0
  with_reducible refine Holds.ite ?_ ?_; with_reducible refine Holds.next ?_; exact Keeps.refl _; dsimp only
  with_reducible refine Holds.next ?_; with_reducible refine Keeps.step ?_ (State.settle_keep ..)
  with_reducible refine Keeps.same ?_; exact Keeps.refl _

theorem execClocksDone_keep (refOk : Bool) (s : State) : OnNext (Keeps s) (execClocksDone refOk s) := by
  refine Holds.out ?_
  unfold execClocksDone
  with_reducible refine Holds.ite ?_ ?_; with_reducible refine Holds.next ?_; exact Keeps.refl _; dsimp only
  with_reducible refine Holds.ite ?_ ?_; with_reducible refine Holds.next ?_
  with_reducible refine Keeps.same ?_; exact Keeps.refl _; with_reducible refine Holds.next ?_
  with_reducible refine Keeps.same ?_; exact Keeps.refl _

theorem execFusesDone_keep (s : State) : OnNext (Keeps s) (execFusesDone s) := by
  refine Holds.out ?_
  unfold execFusesDone
  with_reducible refine Holds.ite ?_ ?_; with_reducible refine Holds.next ?_; exact Keeps.refl _; dsimp only
  with_reducible refine Holds.next ?_; with_reducible refine Keeps.foldl (fun _ _ => ?_) ?_
  with_reducible refine Holds.ite ?_ ?_; exact Keeps.refl _
  with_reducible refine Keeps.upd ?_ ?_ ?_ ?_ ?_ ?_; exact Keeps.refl _; exact PondsKeep.refl _
  with_reducible refine GKeep.step ?_ (gdTrainBegin_keep ..); exact GKeep.refl _; exact KKeep.refl _
  exact CKeep.refl _; exact QKeep.refl _; with_reducible refine Keeps.foldl (fun _ _ => ?_) ?_
  with_reducible refine Keeps.step ?_ (applyRecord_keep ..); exact Keeps.refl _
  with_reducible refine Keeps.same ?_; exact Keeps.refl _

theorem State.loadStage_keep (s : State) : Keeps s (State.loadStage s) := by
  refine Holds.out ?_
  unfold State.loadStage
  with_reducible refine Holds.ite ?_ ?_; with_reducible refine Keeps.same ?_; exact Keeps.refl _
  exact Keeps.refl _

theorem execTestDone_keep (fails : List (Tower × Fin 65536 × BitVec 68)) (s : State) : OnNext (Keeps s) (execTestDone fails s) := by
  refine Holds.out ?_
  unfold execTestDone
  with_reducible refine Holds.ite ?_ ?_; with_reducible refine Holds.next ?_; exact Keeps.refl _; dsimp only
  with_reducible refine Holds.next ?_; with_reducible refine Keeps.step ?_ (State.loadStage_keep ..)
  with_reducible refine Keeps.step ?_ (State.ld_keep ..)
  with_reducible refine Keeps.step ?_ (State.stageReady_keep ..)
  with_reducible refine Keeps.foldl (fun _ _ => ?_) ?_; with_reducible refine Holds.ite ?_ ?_
  with_reducible refine Keeps.step ?_ (bondTest_keep ..); exact Keeps.refl _; exact Keeps.refl _
  exact Keeps.refl _

theorem execPerstRelease_keep (portB : Bool) (s : State) : OnNext (Keeps s) (execPerstRelease portB s) := by
  refine Holds.out ?_
  unfold execPerstRelease
  with_reducible refine Holds.ite ?_ ?_; with_reducible refine Holds.next ?_
  with_reducible refine Keeps.step ?_ (State.fnsReady_keep ..); with_reducible refine Keeps.same ?_
  exact Keeps.refl _; with_reducible refine Holds.ite ?_ ?_; with_reducible refine Holds.next ?_
  exact Keeps.refl _; with_reducible refine Holds.next ?_
  with_reducible refine Keeps.step ?_ (State.loadStage_keep ..)
  with_reducible refine Keeps.step ?_ (State.fnsReady_keep ..); with_reducible refine Keeps.same ?_
  exact Keeps.refl _

theorem execVioLost_keep (k : Fin 12) (s : State) : OnNext (Keeps s) (execVioLost k s) := by
  refine Holds.out ?_
  unfold execVioLost
  with_reducible refine Holds.ite ?_ ?_; with_reducible refine Holds.next ?_
  with_reducible refine Keeps.step ?_ (State.settle_keep ..); with_reducible refine Keeps.same ?_
  exact Keeps.refl _; with_reducible refine Holds.next ?_; exact Keeps.refl _

theorem execVioBack_keep (k : Fin 12) (v18 : Bool) (s : State) : OnNext (Keeps s) (execVioBack k v18 s) := by
  refine Holds.out ?_
  unfold execVioBack
  with_reducible refine Holds.ite ?_ ?_; with_reducible refine Holds.next ?_
  with_reducible refine Keeps.step ?_ (State.settle_keep ..); with_reducible refine Keeps.same ?_
  exact Keeps.refl _; with_reducible refine Holds.next ?_; exact Keeps.refl _

theorem tapBegin_keep (s : State) : Keeps s (tapBegin s) := by
  refine Holds.out ?_
  unfold tapBegin
  dsimp only; with_reducible refine Keeps.foldl (fun _ _ => ?_) ?_; with_reducible refine Holds.ite ?_ ?_
  exact Keeps.refl _; with_reducible refine Keeps.step ?_ (eflDown_keep ..); exact Keeps.refl _
  with_reducible refine Holds.ite ?_ ?_; with_reducible refine Keeps.step ?_ (linkReset_keep ..)
  with_reducible refine Keeps.step ?_ (linkReset_keep ..); with_reducible refine Keeps.same ?_
  exact Keeps.refl _; with_reducible refine Keeps.step ?_ (linkReset_keep ..)
  with_reducible refine Keeps.same ?_; exact Keeps.refl _

theorem tapEnd_keep (s : State) : Keeps s (tapEnd s) := by
  refine Holds.out ?_
  unfold tapEnd
  dsimp only; with_reducible refine Keeps.upd ?_ ?_ ?_ ?_ ?_ ?_; exact Keeps.refl _; exact PondsKeep.refl _
  with_reducible refine GKeep.step ?_ (gdResume_keep ..); exact GKeep.refl _; exact KKeep.refl _
  exact CKeep.refl _; exact QKeep.refl _

theorem tapFollow_keep (s : State) : Keeps s (tapFollow s) := by
  refine Holds.out ?_
  unfold tapFollow
  dsimp only; with_reducible refine Holds.ite ?_ ?_
  with_reducible refine Keeps.step ?_ (State.settle_keep ..)
  with_reducible refine Keeps.step ?_ (tapBegin_keep ..); exact Keeps.refl _
  with_reducible refine Holds.ite ?_ ?_; with_reducible refine Keeps.step ?_ (State.settle_keep ..)
  with_reducible refine Keeps.step ?_ (tapEnd_keep ..); exact Keeps.refl _
  with_reducible refine Holds.ite ?_ ?_; with_reducible refine Keeps.same ?_; exact Keeps.refl _
  exact Keeps.refl _

theorem tapBoundary_keep (s : State) (op : BitVec 8) (cells : List (Fin 192 × Bool × Bool)) : Keeps s (tapBoundary s op cells) := by
  refine Holds.out ?_
  unfold tapBoundary
  dsimp only; with_reducible refine Holds.ite ?_ ?_
  with_reducible refine Keeps.step ?_ (State.settle_keep ..); with_reducible refine Keeps.same ?_
  with_reducible refine Keeps.step ?_ (tapFollow_keep ..); with_reducible refine Keeps.same ?_
  exact Keeps.refl _; with_reducible refine Keeps.same ?_
  with_reducible refine Keeps.step ?_ (tapFollow_keep ..); with_reducible refine Keeps.same ?_
  exact Keeps.refl _

theorem tapOther_keep (s : State) (op : BitVec 8) (width dr : Nat) : Keeps s (tapOther s op width dr) := by
  refine Holds.out ?_
  unfold tapOther
  dsimp only; with_reducible refine Keeps.same ?_; with_reducible refine Keeps.step ?_ (tapFollow_keep ..)
  with_reducible refine Keeps.same ?_; exact Keeps.refl _

theorem execExtest_keep (cells : List (Fin 192 × Bool × Bool)) (s : State) : OnNext (Keeps s) (execExtest cells s) := by
  refine Holds.out ?_
  unfold execExtest
  with_reducible refine Holds.next ?_; with_reducible refine Keeps.step ?_ (tapBoundary_keep ..)
  exact Keeps.refl _

theorem execSamplePreload_keep (cells : List (Fin 192 × Bool × Bool)) (s : State) : OnNext (Keeps s) (execSamplePreload cells s) := by
  refine Holds.out ?_
  unfold execSamplePreload
  with_reducible refine Holds.next ?_; with_reducible refine Keeps.step ?_ (tapBoundary_keep ..)
  exact Keeps.refl _

theorem execExtestPulse_keep (cells : List (Fin 192 × Bool × Bool)) (s : State) : OnNext (Keeps s) (execExtestPulse cells s) := by
  refine Holds.out ?_
  unfold execExtestPulse
  with_reducible refine Holds.next ?_; with_reducible refine Keeps.step ?_ (tapBoundary_keep ..)
  exact Keeps.refl _

theorem execExtestTrain_keep (cells : List (Fin 192 × Bool × Bool)) (s : State) : OnNext (Keeps s) (execExtestTrain cells s) := by
  refine Holds.out ?_
  unfold execExtestTrain
  with_reducible refine Holds.next ?_; with_reducible refine Keeps.step ?_ (tapBoundary_keep ..)
  exact Keeps.refl _

theorem execHighz_keep (s : State) : OnNext (Keeps s) (execHighz s) := by
  refine Holds.out ?_
  unfold execHighz
  with_reducible refine Holds.next ?_; with_reducible refine Keeps.step ?_ (tapOther_keep ..)
  exact Keeps.refl _

theorem execClamp_keep (s : State) : OnNext (Keeps s) (execClamp s) := by
  refine Holds.out ?_
  unfold execClamp
  with_reducible refine Holds.next ?_; with_reducible refine Keeps.step ?_ (tapOther_keep ..)
  exact Keeps.refl _

theorem execIdcode_keep (s : State) : OnNext (Keeps s) (execIdcode s) := by
  refine Holds.out ?_
  unfold execIdcode
  with_reducible refine Holds.next ?_; with_reducible refine Keeps.step ?_ (tapOther_keep ..)
  exact Keeps.refl _

theorem execBypass_keep (op : BitVec 8) (s : State) : OnNext (Keeps s) (execBypass op s) := by
  refine Holds.out ?_
  unfold execBypass
  with_reducible refine Holds.next ?_; with_reducible refine Keeps.step ?_ (tapOther_keep ..)
  exact Keeps.refl _

theorem execTapReset_keep (s : State) : OnNext (Keeps s) (execTapReset s) := by
  refine Holds.out ?_
  unfold execTapReset
  with_reducible refine Holds.next ?_; with_reducible refine Keeps.step ?_ (tapFollow_keep ..)
  with_reducible refine Keeps.same ?_; exact Keeps.refl _

theorem pinctlWrite_keep (s : State) (v : Bool) : Keeps s (pinctlWrite s v) := by
  refine Holds.out ?_
  unfold pinctlWrite
  with_reducible refine Holds.ite ?_ ?_; exact Keeps.refl _
  with_reducible refine Keeps.step ?_ (tapFollow_keep ..); with_reducible refine Keeps.same ?_
  exact Keeps.refl _

end Sys2Proof.Machine
end

