-- ==== Sys2Proof/Laws/KeepMaMap.lean ====
section
/-! SUPPORT. What the operations of MaMap keep: the waiting commands and the invariant. -/
namespace Sys2Proof.Machine

theorem State.maWake_keep (s : State) (p : Page) : Keeps s (State.maWake s p) := by
  refine Holds.out ?_
  unfold State.maWake
  with_reducible refine Holds.ite ?_ ?_; dsimp only; split; with_reducible refine Keeps.same ?_
  exact Keeps.refl _; with_reducible refine Keeps.step ?_ (wakeDomain_keep ..)
  with_reducible refine Keeps.same ?_; exact Keeps.refl _
  with_reducible refine Keeps.step ?_ (wakeDomain_keep ..); with_reducible refine Keeps.same ?_
  exact Keeps.refl _; with_reducible refine Keeps.same ?_; exact Keeps.refl _
  with_reducible refine Keeps.same ?_; exact Keeps.refl _; exact Keeps.refl _

theorem State.readEffect_keep (s : State) (tg : MaTarget) (a : Nat) : Keeps s (State.readEffect s tg a) := by
  refine Holds.out ?_
  unfold State.readEffect
  dsimp only; split; split; with_reducible refine Holds.ite ?_ ?_; with_reducible refine Keeps.same ?_; split
  with_reducible refine Keeps.same ?_; exact Keeps.refl _; exact Keeps.refl _
  with_reducible refine Keeps.same ?_; split; with_reducible refine Keeps.same ?_; exact Keeps.refl _
  exact Keeps.refl _; with_reducible refine Keeps.same ?_; split; with_reducible refine Keeps.same ?_
  exact Keeps.refl _; exact Keeps.refl _; with_reducible refine Holds.ite ?_ ?_; split
  with_reducible refine Keeps.same ?_; exact Keeps.refl _; exact Keeps.refl _
  with_reducible refine Keeps.same ?_; split; with_reducible refine Keeps.same ?_; exact Keeps.refl _
  exact Keeps.refl _; split; with_reducible refine Keeps.same ?_; exact Keeps.refl _; exact Keeps.refl _

theorem State.maRead_keep (s : State) (a : Nat) : OnFst (Keeps s) (State.maRead s a) := by
  refine Holds.out ?_
  unfold State.maRead
  dsimp only; split; with_reducible refine Holds.mk1 ?_; with_reducible refine Keeps.same ?_
  exact Keeps.refl _; with_reducible refine Holds.ite ?_ ?_; with_reducible refine Holds.mk1 ?_
  exact Keeps.refl _; with_reducible refine Holds.mk1 ?_
  with_reducible refine Keeps.step ?_ (State.readEffect_keep ..)
  with_reducible refine Keeps.step ?_ (State.maWake_keep ..); with_reducible refine Keeps.same ?_
  exact Keeps.refl _

theorem State.maReadWords_keep (n a : Nat) (s : State) : Keeps s (State.maReadWords n a s).1 := by
  refine Holds.out ?_; refine Holds.fst ?_
  induction n generalizing a s with
  | zero => exact Holds.mk1 (Keeps.refl _)
  | succ n ih =>
    unfold State.maReadWords
    exact Holds.mk1 (Keeps.step (Keeps.step (Keeps.refl _) (State.maRead_keep ..)) (Holds.out (ih ..)))

theorem State.maReadBytes_keep (s : State) (a n : Nat) : OnFst (Keeps s) (State.maReadBytes s a n) := by
  refine Holds.out ?_
  unfold State.maReadBytes
  with_reducible refine Holds.ite ?_ ?_; with_reducible refine Holds.mk1 ?_; exact Keeps.refl _; dsimp only
  with_reducible refine Holds.mk1 ?_; with_reducible refine Keeps.step ?_ (State.maReadWords_keep ..)
  exact Keeps.refl _

end Sys2Proof.Machine
end

