-- ==== Sys2Proof/Laws/KeepMaCommit.lean ====
section
/-! SUPPORT. What the operations of MaCommit keep: the waiting commands and the invariant. -/
namespace Sys2Proof.Machine

theorem encGo_keep (s : State) (p : Page) : Keeps s (encGo s p) := by
  refine Holds.out ?_
  unfold encGo
  with_reducible refine Holds.ite ?_ ?_; exact Keeps.refl _; with_reducible refine Holds.ite ?_ ?_
  with_reducible refine Keeps.same ?_; exact Keeps.refl _; with_reducible refine Keeps.same ?_
  exact Keeps.refl _

theorem State.commitGo_keep (s : State) (p : Page) : Keeps s (State.commitGo s p) := by
  refine Holds.out ?_
  unfold State.commitGo
  split; with_reducible refine Keeps.step ?_ (encGo_keep ..); exact Keeps.refl _
  with_reducible refine Holds.ite ?_ ?_; exact Keeps.refl _; dsimp only
  with_reducible refine Holds.ite ?_ ?_; split; with_reducible refine Keeps.same ?_; exact Keeps.refl _
  with_reducible refine Keeps.step ?_ (State.sltChanged_keep ..); with_reducible refine Keeps.same ?_
  exact Keeps.refl _; with_reducible refine Keeps.same ?_; exact Keeps.refl _
  with_reducible refine Keeps.same ?_; exact Keeps.refl _

theorem State.commitCancel_keep (s : State) (p : Page) : Keeps s (State.commitCancel s p) := by
  refine Holds.out ?_
  unfold State.commitCancel
  split; with_reducible refine Holds.ite ?_ ?_; exact Keeps.refl _; with_reducible refine Keeps.same ?_
  exact Keeps.refl _; with_reducible refine Keeps.step ?_ (State.sltChanged_keep ..)
  with_reducible refine Keeps.step ?_ (State.setCh_keep ..); with_reducible refine Keeps.same ?_
  exact Keeps.refl _; with_reducible refine Keeps.same ?_; exact Keeps.refl _
  with_reducible refine Keeps.same ?_; exact Keeps.refl _

theorem State.commitWrite_keep (s : State) (p : Page) (v : Word) : Keeps s (State.commitWrite s p v) := by
  refine Holds.out ?_
  unfold State.commitWrite
  with_reducible refine Holds.ite ?_ ?_; with_reducible refine Keeps.step ?_ (State.commitCancel_keep ..)
  exact Keeps.refl _; with_reducible refine Holds.ite ?_ ?_
  with_reducible refine Keeps.step ?_ (State.commitGo_keep ..); exact Keeps.refl _; exact Keeps.refl _

theorem State.applyAll_keep (s : State) (p : Page) : Keeps s (State.applyAll s p) := by
  refine Holds.out ?_
  unfold State.applyAll
  with_reducible refine Keeps.same ?_; exact Keeps.refl _

theorem bankOwned_keep (s : State) (k : Nat) (old : Nat) : Keeps s (bankOwned s k old) := by
  refine Holds.out ?_
  unfold bankOwned
  dsimp only; with_reducible refine Holds.ite ?_ ?_; exact Keeps.refl _; with_reducible refine Keeps.same ?_
  exact Keeps.refl _

theorem State.commitPoint_keep (s : State) (p : Page) : Keeps s (State.commitPoint s p) := by
  refine Holds.out ?_
  unfold State.commitPoint
  split; with_reducible refine Keeps.step ?_ (State.commitChm_keep ..); exact Keeps.refl _
  with_reducible refine Holds.ite ?_ ?_; with_reducible refine Keeps.same ?_; exact Keeps.refl _
  exact Keeps.refl _; with_reducible refine Holds.ite ?_ ?_; dsimp only
  with_reducible refine Keeps.upd ?_ ?_ ?_ ?_ ?_ ?_; exact Keeps.refl _; exact PondsKeep.refl _
  with_reducible refine GKeep.step ?_ (gdApplyK_keep ..); exact GKeep.refl _; exact KKeep.refl _
  exact CKeep.refl _; exact QKeep.refl _; exact Keeps.refl _; with_reducible refine Holds.ite ?_ ?_
  with_reducible refine Keeps.step ?_ (State.applyAll_keep ..); exact Keeps.refl _; exact Keeps.refl _
  with_reducible refine Holds.ite ?_ ?_; split; with_reducible refine Keeps.step ?_ (State.applyAll_keep ..)
  have k := OnSome.at (gkFlush_keep ..) ‹_›; refine Keeps.step ?_ k; exact Keeps.refl _; exact Keeps.refl _
  exact Keeps.refl _; with_reducible refine Holds.ite ?_ ?_
  with_reducible refine Keeps.step ?_ (State.applyAll_keep ..); exact Keeps.refl _; exact Keeps.refl _
  with_reducible refine Keeps.step ?_ (State.settle_keep ..)
  with_reducible refine Keeps.step ?_ (bankOwned_keep ..)
  with_reducible refine Keeps.step ?_ (State.applyAll_keep ..); exact Keeps.refl _
  with_reducible refine Holds.ite ?_ ?_; with_reducible refine Keeps.step ?_ (State.applyAll_keep ..)
  exact Keeps.refl _; exact Keeps.refl _; exact Keeps.refl _; exact Keeps.refl _; exact Keeps.refl _
  exact Keeps.refl _; exact Keeps.refl _; with_reducible refine Keeps.step ?_ (State.applyAll_keep ..)
  exact Keeps.refl _; with_reducible refine Keeps.step ?_ (State.applyAll_keep ..); exact Keeps.refl _
  with_reducible refine Keeps.step ?_ (State.applyAll_keep ..); exact Keeps.refl _
  with_reducible refine Keeps.step ?_ (State.applyAll_keep ..); exact Keeps.refl _
  with_reducible refine Keeps.step ?_ (State.applyAll_keep ..); exact Keeps.refl _
  with_reducible refine Keeps.step ?_ (State.applyAll_keep ..); exact Keeps.refl _
  with_reducible refine Keeps.step ?_ (State.applyAll_keep ..); exact Keeps.refl _
  with_reducible refine Keeps.step ?_ (State.applyAll_keep ..); exact Keeps.refl _
  with_reducible refine Keeps.step ?_ (State.applyAll_keep ..); exact Keeps.refl _
  with_reducible refine Keeps.step ?_ (State.applyAll_keep ..); exact Keeps.refl _
  with_reducible refine Keeps.step ?_ (State.applyAll_keep ..); exact Keeps.refl _
  with_reducible refine Keeps.step ?_ (State.applyAll_keep ..); exact Keeps.refl _
  with_reducible refine Keeps.step ?_ (State.applyAll_keep ..); exact Keeps.refl _
  with_reducible refine Keeps.step ?_ (State.applyAll_keep ..); exact Keeps.refl _

end Sys2Proof.Machine
end

