-- ==== Sys2Proof/Laws/KeepMaWrite.lean ====
section
/-! SUPPORT. What the operations of MaWrite keep: the waiting commands and the invariant. -/
namespace Sys2Proof.Machine

theorem State.blkEn_keep (s : State) (p : Page) (en : Bool) : Keeps s (State.blkEn s p en) := by
  refine Holds.out ?_
  unfold State.blkEn
  with_reducible refine Holds.ite ?_ ?_; exact Keeps.refl _; dsimp only
  with_reducible refine Holds.ite ?_ ?_; with_reducible refine Keeps.same ?_; exact Keeps.refl _
  with_reducible refine Keeps.same ?_; exact Keeps.refl _

theorem State.blkCtrl_keep (s : State) (p : Page) (v : Word) : Keeps s (State.blkCtrl s p v) := by
  refine Holds.out ?_
  unfold State.blkCtrl
  dsimp only; with_reducible refine Holds.ite ?_ ?_; with_reducible refine Keeps.step ?_ (State.srst_keep ..)
  with_reducible refine Keeps.step ?_ (State.blkEn_keep ..); with_reducible refine Keeps.same ?_
  exact Keeps.refl _; with_reducible refine Keeps.step ?_ (State.blkEn_keep ..)
  with_reducible refine Keeps.same ?_; exact Keeps.refl _

theorem State.headerWrite_keep (s : State) (p : Page) (o : Nat) (v : Word) : Keeps s (State.headerWrite s p o v) := by
  refine Holds.out ?_
  unfold State.headerWrite
  with_reducible refine Holds.ite ?_ ?_; with_reducible refine Keeps.step ?_ (State.blkCtrl_keep ..)
  exact Keeps.refl _; with_reducible refine Holds.ite ?_ ?_
  with_reducible refine Keeps.step ?_ (State.commitWrite_keep ..); exact Keeps.refl _
  with_reducible refine Holds.ite ?_ ?_; with_reducible refine Keeps.same ?_; exact Keeps.refl _
  with_reducible refine Holds.ite ?_ ?_; with_reducible refine Keeps.same ?_; exact Keeps.refl _
  with_reducible refine Holds.ite ?_ ?_; with_reducible refine Keeps.same ?_; exact Keeps.refl _
  with_reducible refine Holds.ite ?_ ?_; with_reducible refine Keeps.same ?_; exact Keeps.refl _
  with_reducible refine Holds.ite ?_ ?_; with_reducible refine Keeps.same ?_; exact Keeps.refl _
  exact Keeps.refl _

theorem queWrite_keep (s : State) (t o : Nat) (v : Word) : Keeps s (queWrite s t o v) := by
  refine Holds.out ?_
  unfold queWrite
  dsimp only; with_reducible refine Holds.ite ?_ ?_; with_reducible refine Holds.ite ?_ ?_
  with_reducible refine Keeps.same ?_; exact Keeps.refl _
  refine Keeps.step ?_ (onSel_keep _ _ _ (fun _ => Holds.out ?_)); exact Keeps.refl _
  with_reducible refine OKeep.upd ?_; exact OKeep.refl _; with_reducible refine Holds.ite ?_ ?_
  with_reducible refine Holds.ite ?_ ?_; with_reducible refine Keeps.same ?_; exact Keeps.refl _
  refine Keeps.step ?_ (onSel_keep _ _ _ (fun _ => Holds.out ?_)); exact Keeps.refl _
  with_reducible refine OKeep.upd ?_; exact OKeep.refl _; with_reducible refine Holds.ite ?_ ?_
  with_reducible refine Holds.ite ?_ ?_; with_reducible refine Keeps.same ?_; exact Keeps.refl _
  refine Keeps.step ?_ (onSel_keep _ _ _ (fun _ => Holds.out ?_)); exact Keeps.refl _
  with_reducible refine OKeep.upd ?_; exact OKeep.refl _; with_reducible refine Holds.ite ?_ ?_
  with_reducible refine Keeps.same ?_; refine Keeps.step ?_ (onSel_keep _ _ _ (fun _ => Holds.out ?_))
  exact Keeps.refl _; with_reducible refine OKeep.upd ?_; exact OKeep.refl _
  with_reducible refine Holds.ite ?_ ?_; with_reducible refine Holds.ite ?_ ?_
  with_reducible refine Keeps.step ?_ (qFlush_keep ..); with_reducible refine Holds.ite ?_ ?_
  with_reducible refine Keeps.step ?_ (qCancel_keep ..); exact Keeps.refl _
  with_reducible refine Holds.ite ?_ ?_; with_reducible refine Keeps.step ?_ (qGo_keep ..)
  exact Keeps.refl _; exact Keeps.refl _; with_reducible refine Holds.ite ?_ ?_
  with_reducible refine Keeps.step ?_ (qCancel_keep ..); exact Keeps.refl _
  with_reducible refine Holds.ite ?_ ?_; with_reducible refine Keeps.step ?_ (qGo_keep ..)
  exact Keeps.refl _; exact Keeps.refl _; with_reducible refine Holds.ite ?_ ?_
  with_reducible refine Holds.ite ?_ ?_; with_reducible refine Keeps.step ?_ (qPflip_keep ..)
  exact Keeps.refl _; exact Keeps.refl _; exact Keeps.refl _

theorem gkDebugWrite_keep (s : State) (g : Fin 128) (o : Nat) (v : Word) : Keeps s (gkDebugWrite s g o v) := by
  refine Holds.out ?_
  unfold gkDebugWrite
  with_reducible refine Holds.ite ?_ ?_; with_reducible refine Keeps.upd ?_ ?_ ?_ ?_ ?_ ?_
  exact Keeps.refl _; exact PondsKeep.refl _; exact GKeep.refl _
  with_reducible refine KKeep.step ?_ (Geckos.put_keep ..); exact KKeep.refl _; exact CKeep.refl _
  exact QKeep.refl _; with_reducible refine Keeps.same ?_; exact Keeps.refl _

theorem gkCtrl_keep (s : State) (g : Nat) (v : Word) : Keeps s (gkCtrl s g v) := by
  refine Holds.out ?_
  unfold gkCtrl
  dsimp only; with_reducible refine Holds.ite ?_ ?_; with_reducible refine Keeps.step ?_ (gkStep_keep ..)
  with_reducible refine Holds.ite ?_ ?_; with_reducible refine Keeps.step ?_ (gkResume_keep ..)
  with_reducible refine Holds.ite ?_ ?_; with_reducible refine Keeps.step ?_ (gkStop_keep ..)
  with_reducible refine Holds.ite ?_ ?_; with_reducible refine Keeps.step ?_ (gkStart_keep ..)
  exact Keeps.refl _; exact Keeps.refl _; with_reducible refine Holds.ite ?_ ?_
  with_reducible refine Keeps.step ?_ (gkStart_keep ..); exact Keeps.refl _; exact Keeps.refl _
  with_reducible refine Holds.ite ?_ ?_; with_reducible refine Keeps.step ?_ (gkStop_keep ..)
  with_reducible refine Holds.ite ?_ ?_; with_reducible refine Keeps.step ?_ (gkStart_keep ..)
  exact Keeps.refl _; exact Keeps.refl _; with_reducible refine Holds.ite ?_ ?_
  with_reducible refine Keeps.step ?_ (gkStart_keep ..); exact Keeps.refl _; exact Keeps.refl _
  with_reducible refine Holds.ite ?_ ?_; with_reducible refine Keeps.step ?_ (gkResume_keep ..)
  with_reducible refine Holds.ite ?_ ?_; with_reducible refine Keeps.step ?_ (gkStop_keep ..)
  with_reducible refine Holds.ite ?_ ?_; with_reducible refine Keeps.step ?_ (gkStart_keep ..)
  exact Keeps.refl _; exact Keeps.refl _; with_reducible refine Holds.ite ?_ ?_
  with_reducible refine Keeps.step ?_ (gkStart_keep ..); exact Keeps.refl _; exact Keeps.refl _
  with_reducible refine Holds.ite ?_ ?_; with_reducible refine Keeps.step ?_ (gkStop_keep ..)
  with_reducible refine Holds.ite ?_ ?_; with_reducible refine Keeps.step ?_ (gkStart_keep ..)
  exact Keeps.refl _; exact Keeps.refl _; with_reducible refine Holds.ite ?_ ?_
  with_reducible refine Keeps.step ?_ (gkStart_keep ..); exact Keeps.refl _; exact Keeps.refl _

theorem gkcWrite_keep (s : State) (g o : Nat) (v : Word) : OnSome (Keeps s) (gkcWrite s g o v) := by
  refine Holds.out ?_
  unfold gkcWrite
  with_reducible refine Holds.ite ?_ ?_; with_reducible refine Holds.some ?_
  with_reducible refine Keeps.step ?_ (gkCtrl_keep ..); exact Keeps.refl _
  with_reducible refine Holds.ite ?_ ?_; with_reducible refine Holds.some ?_
  with_reducible refine Keeps.same ?_; exact Keeps.refl _; with_reducible refine Holds.ite ?_ ?_
  with_reducible refine Holds.some ?_; with_reducible refine Holds.ite ?_ ?_
  with_reducible refine Keeps.upd ?_ ?_ ?_ ?_ ?_ ?_; exact Keeps.refl _; exact PondsKeep.refl _
  exact GKeep.refl _; with_reducible refine KKeep.step ?_ (Geckos.upd_keep ..); exact KKeep.refl _
  exact CKeep.refl _; exact QKeep.refl _; exact Keeps.refl _; with_reducible refine Holds.ite ?_ ?_
  with_reducible refine Holds.some ?_; with_reducible refine Holds.ite ?_ ?_
  with_reducible refine Keeps.same ?_; exact Keeps.refl _; exact Keeps.refl _
  with_reducible refine Holds.ite ?_ ?_; with_reducible refine Holds.some ?_
  with_reducible refine Holds.ite ?_ ?_; with_reducible refine Keeps.step ?_ (gkZero_keep ..)
  exact Keeps.refl _; exact Keeps.refl _; exact Holds.none

theorem gkcAfter_keep (s : State) (g o : Nat) (v : Word) : Keeps s (gkcAfter s g o v) := by
  refine Holds.out ?_
  unfold gkcAfter
  with_reducible refine Holds.ite ?_ ?_; with_reducible refine Keeps.step ?_ (gkDmaGo_keep ..)
  exact Keeps.refl _; exact Keeps.refl _

theorem State.padCommand_keep (s : State) (n op pad : Nat) : Keeps s (State.padCommand s n op pad) := by
  refine Holds.out ?_
  unfold State.padCommand
  dsimp only; with_reducible refine Keeps.upd ?_ ?_ ?_ ?_ ?_ ?_; exact Keeps.refl _
  with_reducible refine PondsKeep.step ?_ (padCmdWrite_keep ..); exact PondsKeep.refl _; exact GKeep.refl _
  exact KKeep.refl _; exact CKeep.refl _; exact QKeep.refl _

theorem State.padRaw_keep (s : State) (n : Nat) (wr : Bool) : Keeps s (State.padRaw s n wr) := by
  refine Holds.out ?_
  unfold State.padRaw
  dsimp only; with_reducible refine Keeps.upd ?_ ?_ ?_ ?_ ?_ ?_; exact Keeps.refl _
  with_reducible refine PondsKeep.step ?_ (padRawCmd_keep ..); exact PondsKeep.refl _; exact GKeep.refl _
  exact KKeep.refl _; exact CKeep.refl _; exact QKeep.refl _

theorem pndWrite_keep (s : State) (n o : Nat) (v : Word) : OnSome (Keeps s) (pndWrite s n o v) := by
  refine Holds.out ?_
  unfold pndWrite
  with_reducible refine Holds.ite ?_ ?_; dsimp only; with_reducible refine Holds.some ?_
  with_reducible refine Holds.ite ?_ ?_; exact Keeps.refl _
  with_reducible refine Keeps.step ?_ (State.padCommand_keep ..); exact Keeps.refl _
  with_reducible refine Holds.ite ?_ ?_; with_reducible refine Holds.some ?_
  with_reducible refine Holds.ite ?_ ?_; with_reducible refine Keeps.same ?_; exact Keeps.refl _
  exact Keeps.refl _; with_reducible refine Holds.ite ?_ ?_; dsimp only; with_reducible refine Holds.some ?_
  with_reducible refine Holds.ite ?_ ?_; with_reducible refine Keeps.step ?_ (State.padRaw_keep ..)
  with_reducible refine Holds.ite ?_ ?_; with_reducible refine Keeps.step ?_ (State.padRaw_keep ..)
  exact Keeps.refl _; exact Keeps.refl _; with_reducible refine Holds.ite ?_ ?_
  with_reducible refine Keeps.step ?_ (State.padRaw_keep ..); exact Keeps.refl _; exact Keeps.refl _
  exact Holds.none

theorem State.trainGo_keep (s : State) (c : Nat) : Keeps s (State.trainGo s c) := by
  refine Holds.out ?_
  unfold State.trainGo
  dsimp only; with_reducible refine Keeps.upd ?_ ?_ ?_ ?_ ?_ ?_; exact Keeps.refl _; exact PondsKeep.refl _
  with_reducible refine GKeep.step ?_ (gdTrainGo_keep ..); exact GKeep.refl _; exact KKeep.refl _
  exact CKeep.refl _; exact QKeep.refl _

theorem State.gdRaw_keep (s : State) (c : Nat) (wr : Bool) : Keeps s (State.gdRaw s c wr) := by
  refine Holds.out ?_
  unfold State.gdRaw
  dsimp only; with_reducible refine Keeps.upd ?_ ?_ ?_ ?_ ?_ ?_; exact Keeps.refl _; exact PondsKeep.refl _
  with_reducible refine GKeep.step ?_ (gdRawCmd_keep ..); exact GKeep.refl _; exact KKeep.refl _
  exact CKeep.refl _; exact QKeep.refl _

theorem gdWrite_keep (s : State) (c o : Nat) (v : Word) : OnSome (Keeps s) (gdWrite s c o v) := by
  refine Holds.out ?_
  unfold gdWrite
  with_reducible refine Holds.ite ?_ ?_; with_reducible refine Holds.some ?_
  with_reducible refine Holds.ite ?_ ?_; with_reducible refine Keeps.step ?_ (State.trainGo_keep ..)
  exact Keeps.refl _; exact Keeps.refl _; with_reducible refine Holds.ite ?_ ?_
  with_reducible refine Holds.some ?_; with_reducible refine Holds.ite ?_ ?_
  with_reducible refine Keeps.same ?_; exact Keeps.refl _; exact Keeps.refl _
  with_reducible refine Holds.ite ?_ ?_; dsimp only; with_reducible refine Holds.some ?_
  with_reducible refine Holds.ite ?_ ?_; with_reducible refine Keeps.step ?_ (State.gdRaw_keep ..)
  with_reducible refine Holds.ite ?_ ?_; with_reducible refine Keeps.step ?_ (State.gdRaw_keep ..)
  exact Keeps.refl _; exact Keeps.refl _; with_reducible refine Holds.ite ?_ ?_
  with_reducible refine Keeps.step ?_ (State.gdRaw_keep ..); exact Keeps.refl _; exact Keeps.refl _
  exact Holds.none

theorem State.moltGo_keep (s : State) (t op r kb : Nat) : Keeps s (State.moltGo s t op r kb) := by
  refine Holds.out ?_
  unfold State.moltGo
  dsimp only; with_reducible refine Keeps.upd ?_ ?_ ?_ ?_ ?_ ?_; exact Keeps.refl _; exact PondsKeep.refl _
  with_reducible refine GKeep.step ?_ (moltCmd_keep ..); exact GKeep.refl _; exact KKeep.refl _
  exact CKeep.refl _; exact QKeep.refl _

theorem State.slotErase_keep (s : State) (k : Nat) : Keeps s (State.slotErase s k) := by
  refine Holds.out ?_
  unfold State.slotErase
  dsimp only; with_reducible refine Keeps.upd ?_ ?_ ?_ ?_ ?_ ?_; exact Keeps.refl _; exact PondsKeep.refl _
  with_reducible refine GKeep.step ?_ (ksErase_keep ..); exact GKeep.refl _; exact KKeep.refl _
  exact CKeep.refl _; exact QKeep.refl _

theorem moltWrite_keep (s : State) (t o : Nat) (v : Word) : OnSome (Keeps s) (moltWrite s t o v) := by
  refine Holds.out ?_
  unfold moltWrite
  with_reducible refine Holds.ite ?_ ?_; dsimp only; with_reducible refine Holds.some ?_
  with_reducible refine Holds.ite ?_ ?_; exact Keeps.refl _
  with_reducible refine Keeps.step ?_ (State.moltGo_keep ..); exact Keeps.refl _; exact Holds.none

theorem enctStore_keep (s : State) (t : Tower) (o : Nat) (v : Word) (reg : Option RegSpec) : Keeps s (enctStore s t o v reg) := by
  refine Holds.out ?_
  unfold enctStore
  split; exact Keeps.refl _; with_reducible refine Holds.ite ?_ ?_; with_reducible refine Holds.ite ?_ ?_
  with_reducible refine Keeps.step ?_ (State.slotErase_keep ..); exact Keeps.refl _; exact Keeps.refl _
  with_reducible refine Holds.ite ?_ ?_; exact Keeps.refl _; dsimp only
  with_reducible refine Holds.ite ?_ ?_; with_reducible refine Keeps.same ?_; exact Keeps.refl _
  with_reducible refine Keeps.same ?_; exact Keeps.refl _

theorem enctWrite_keep (s : State) (t : Tower) (o : Nat) (v : Word) : Keeps s (enctWrite s t o v) := by
  refine Holds.out ?_
  unfold enctWrite
  with_reducible refine Keeps.step ?_ (enctStore_keep ..); exact Keeps.refl _

theorem chmWrite_keep (s : State) (t o : Nat) (v : Word) : OnSome (Keeps s) (chmWrite s t o v) := by
  refine Holds.out ?_
  unfold chmWrite
  with_reducible refine Holds.ite ?_ ?_; dsimp only; with_reducible refine Holds.some ?_
  with_reducible refine Holds.ite ?_ ?_; with_reducible refine Keeps.step ?_ (State.chmCmd_keep ..)
  with_reducible refine Holds.ite ?_ ?_; with_reducible refine Keeps.step ?_ (State.thaw_keep ..)
  exact Keeps.refl _; exact Keeps.refl _; with_reducible refine Holds.ite ?_ ?_
  with_reducible refine Keeps.step ?_ (State.thaw_keep ..); exact Keeps.refl _; exact Keeps.refl _
  with_reducible refine Holds.ite ?_ ?_; with_reducible refine Holds.some ?_
  with_reducible refine Keeps.step ?_ (State.resettle_keep ..)
  with_reducible refine Keeps.step ?_ (State.excludeWrite_keep ..); exact Keeps.refl _; exact Holds.none

theorem cfgPageWrite_keep (s : State) (t o : Nat) (v : Word) : OnSome (Keeps s) (cfgPageWrite s t o v) := by
  refine Holds.out ?_
  unfold cfgPageWrite
  with_reducible refine Holds.ite ?_ ?_; with_reducible refine Holds.some ?_
  with_reducible refine Holds.ite ?_ ?_; with_reducible refine Keeps.step ?_ (State.settle_keep ..)
  with_reducible refine Keeps.step ?_ (State.release_keep ..); exact Keeps.refl _; exact Keeps.refl _
  with_reducible refine Holds.ite ?_ ?_; with_reducible refine Holds.some ?_
  with_reducible refine Holds.ite ?_ ?_; with_reducible refine Keeps.step ?_ (State.rbBoth_keep ..)
  exact Keeps.refl _; with_reducible refine Holds.ite ?_ ?_
  with_reducible refine Keeps.step ?_ (State.rawWrite_keep ..); exact Keeps.refl _
  with_reducible refine Holds.ite ?_ ?_; with_reducible refine Keeps.step ?_ (State.rbGo_keep ..)
  exact Keeps.refl _; exact Keeps.refl _; exact Holds.none

theorem eflAfter_keep (s : State) (n o : Nat) (v : Word) (test : Bool) : Keeps s (eflAfter s n o v test) := by
  refine Holds.out ?_
  unfold eflAfter
  with_reducible refine Holds.ite ?_ ?_; dsimp only; with_reducible refine Holds.ite ?_ ?_
  with_reducible refine Keeps.step ?_ (eflTrain_keep ..); with_reducible refine Holds.ite ?_ ?_
  with_reducible refine Keeps.step ?_ (eflQuiesce_keep ..); with_reducible refine Holds.ite ?_ ?_
  with_reducible refine Keeps.step ?_ (eflDownCmd_keep ..); with_reducible refine Holds.ite ?_ ?_
  exact Keeps.refl _; with_reducible refine Keeps.step ?_ (eflTest_keep ..); exact Keeps.refl _
  with_reducible refine Holds.ite ?_ ?_; exact Keeps.refl _
  with_reducible refine Keeps.step ?_ (eflTest_keep ..); exact Keeps.refl _
  with_reducible refine Holds.ite ?_ ?_; with_reducible refine Keeps.step ?_ (eflDownCmd_keep ..)
  with_reducible refine Holds.ite ?_ ?_; exact Keeps.refl _
  with_reducible refine Keeps.step ?_ (eflTest_keep ..); exact Keeps.refl _
  with_reducible refine Holds.ite ?_ ?_; exact Keeps.refl _
  with_reducible refine Keeps.step ?_ (eflTest_keep ..); exact Keeps.refl _
  with_reducible refine Holds.ite ?_ ?_; with_reducible refine Keeps.step ?_ (eflQuiesce_keep ..)
  with_reducible refine Holds.ite ?_ ?_; with_reducible refine Keeps.step ?_ (eflDownCmd_keep ..)
  with_reducible refine Holds.ite ?_ ?_; exact Keeps.refl _
  with_reducible refine Keeps.step ?_ (eflTest_keep ..); exact Keeps.refl _
  with_reducible refine Holds.ite ?_ ?_; exact Keeps.refl _
  with_reducible refine Keeps.step ?_ (eflTest_keep ..); exact Keeps.refl _
  with_reducible refine Holds.ite ?_ ?_; with_reducible refine Keeps.step ?_ (eflDownCmd_keep ..)
  with_reducible refine Holds.ite ?_ ?_; exact Keeps.refl _
  with_reducible refine Keeps.step ?_ (eflTest_keep ..); exact Keeps.refl _
  with_reducible refine Holds.ite ?_ ?_; exact Keeps.refl _
  with_reducible refine Keeps.step ?_ (eflTest_keep ..); exact Keeps.refl _
  with_reducible refine Holds.ite ?_ ?_; with_reducible refine Keeps.same ?_; exact Keeps.refl _
  with_reducible refine Holds.ite ?_ ?_; dsimp only; with_reducible refine Keeps.same ?_; exact Keeps.refl _
  exact Keeps.refl _

theorem ldrAfter_keep (s : State) (o : Nat) (v : Word) : Keeps s (ldrAfter s o v) := by
  refine Holds.out ?_
  unfold ldrAfter
  with_reducible refine Holds.ite ?_ ?_; with_reducible refine Holds.ite ?_ ?_
  with_reducible refine Keeps.step ?_ (State.dlvGo_keep ..); exact Keeps.refl _; exact Keeps.refl _
  with_reducible refine Holds.ite ?_ ?_; dsimp only; with_reducible refine Holds.ite ?_ ?_
  with_reducible refine Keeps.step ?_ (State.ldrGolden_keep ..); with_reducible refine Holds.ite ?_ ?_
  with_reducible refine Keeps.step ?_ (State.ldrAbort_keep ..); exact Keeps.refl _; exact Keeps.refl _
  with_reducible refine Holds.ite ?_ ?_; with_reducible refine Keeps.step ?_ (State.ldrAbort_keep ..)
  exact Keeps.refl _; exact Keeps.refl _; exact Keeps.refl _

theorem anoWrite_keep (s : State) (o : Nat) (v : Word) : OnSome (Keeps s) (anoWrite s o v) := by
  refine Holds.out ?_
  unfold anoWrite
  with_reducible refine Holds.ite ?_ ?_; with_reducible refine Holds.some ?_; exact Keeps.refl _
  with_reducible refine Holds.ite ?_ ?_; with_reducible refine Holds.some ?_
  with_reducible refine Holds.ite ?_ ?_; exact Keeps.refl _
  with_reducible refine Keeps.step ?_ (State.an_keep ..); exact Keeps.refl _; exact Holds.none

theorem State.actWrite_keep (s : State) (p : Page) (o : Nat) (v : Word) : OnSome (Keeps s) (State.actWrite s p o v) := by
  refine Holds.out ?_
  unfold State.actWrite
  split; refine Holds.some_mono (gkcWrite_keep ..) ?_; intro _; intro _; refine Keeps.step ?_ ‹_›
  exact Keeps.refl _; refine Holds.some_mono (pndWrite_keep ..) ?_; intro _; intro _
  refine Keeps.step ?_ ‹_›; exact Keeps.refl _; refine Holds.some_mono (gdWrite_keep ..) ?_; intro _; intro _
  refine Keeps.step ?_ ‹_›; exact Keeps.refl _; refine Holds.some_mono (moltWrite_keep ..) ?_; intro _
  intro _; refine Keeps.step ?_ ‹_›; exact Keeps.refl _; with_reducible refine Holds.ite ?_ ?_
  with_reducible refine Holds.some ?_; with_reducible refine Keeps.step ?_ (queWrite_keep ..)
  exact Keeps.refl _; exact Holds.none; refine Holds.some_mono (chmWrite_keep ..) ?_; intro _; intro _
  refine Keeps.step ?_ ‹_›; exact Keeps.refl _; with_reducible refine Holds.ite ?_ ?_; dsimp only
  with_reducible refine Holds.some ?_; with_reducible refine Keeps.same ?_
  with_reducible refine Keeps.step ?_ (sltWrite_keep ..); exact Keeps.refl _; exact Holds.none
  refine Holds.some_mono (cfgPageWrite_keep ..) ?_; intro _; intro _; refine Keeps.step ?_ ‹_›
  exact Keeps.refl _; with_reducible refine Holds.ite ?_ ?_; with_reducible refine Holds.some ?_
  with_reducible refine Keeps.step ?_ (State.resettle_keep ..)
  with_reducible refine Keeps.step ?_ (State.lpdWrite_keep ..); exact Keeps.refl _; exact Holds.none
  with_reducible refine Holds.ite ?_ ?_; with_reducible refine Holds.some ?_
  with_reducible refine Keeps.step ?_ (fhpWrite_keep ..); exact Keeps.refl _; exact Holds.none
  refine Holds.some_mono (anoWrite_keep ..) ?_; intro _; intro _; refine Keeps.step ?_ ‹_›
  exact Keeps.refl _; with_reducible refine Holds.ite ?_ ?_; with_reducible refine Holds.some ?_
  with_reducible refine Keeps.step ?_ (pinctlWrite_keep ..); exact Keeps.refl _; exact Holds.none
  exact Holds.none; exact Holds.none; exact Holds.none; exact Holds.none; exact Holds.none; exact Holds.none
  exact Holds.none; exact Holds.none; exact Holds.none; exact Holds.none; exact Holds.none; exact Holds.none
  exact Holds.none; exact Holds.none; exact Holds.none

theorem State.afterWrite_keep (s s0 : State) (p : Page) (o : Nat) (v : Word) : Keeps s (State.afterWrite s s0 p o v) := by
  refine Holds.out ?_
  unfold State.afterWrite
  split; with_reducible refine Keeps.step ?_ (gkcAfter_keep ..); exact Keeps.refl _
  with_reducible refine Keeps.step ?_ (eflAfter_keep ..); exact Keeps.refl _
  with_reducible refine Holds.ite ?_ ?_; with_reducible refine Keeps.step ?_ (State.settle_keep ..)
  exact Keeps.refl _; exact Keeps.refl _; with_reducible refine Holds.ite ?_ ?_
  with_reducible refine Keeps.upd ?_ ?_ ?_ ?_ ?_ ?_; exact Keeps.refl _; exact PondsKeep.refl _
  exact GKeep.refl _; exact KKeep.refl _; dsimp only; with_reducible refine CKeep.upd ?_; exact CKeep.refl _
  exact QKeep.refl _; exact Keeps.refl _; with_reducible refine Holds.ite ?_ ?_
  with_reducible refine Keeps.upd ?_ ?_ ?_ ?_ ?_ ?_; exact Keeps.refl _; dsimp only
  with_reducible refine PondsKeep.upd ?_; exact PKeep.refl _; exact GKeep.refl _; exact KKeep.refl _
  exact CKeep.refl _; exact QKeep.refl _; exact Keeps.refl _; with_reducible refine Holds.ite ?_ ?_
  with_reducible refine Keeps.upd ?_ ?_ ?_ ?_ ?_ ?_; exact Keeps.refl _; exact PondsKeep.refl _; dsimp only
  with_reducible refine GKeep.upd ?_; exact GKeep.refl _; exact KKeep.refl _; exact CKeep.refl _
  exact QKeep.refl _; exact Keeps.refl _; with_reducible refine Holds.ite ?_ ?_
  with_reducible refine Keeps.same ?_; exact Keeps.refl _; exact Keeps.refl _
  with_reducible refine Holds.ite ?_ ?_; with_reducible refine Keeps.same ?_; exact Keeps.refl _
  with_reducible refine Holds.ite ?_ ?_; with_reducible refine Keeps.same ?_; exact Keeps.refl _
  with_reducible refine Holds.ite ?_ ?_; with_reducible refine Keeps.same ?_; exact Keeps.refl _
  exact Keeps.refl _; with_reducible refine Holds.ite ?_ ?_
  with_reducible refine Keeps.step ?_ (mbGo_keep ..); exact Keeps.refl _; exact Keeps.refl _
  with_reducible refine Holds.ite ?_ ?_; with_reducible refine Keeps.step ?_ (ctxRst_keep ..)
  exact Keeps.refl _; exact Keeps.refl _; with_reducible refine Holds.ite ?_ ?_; dsimp only
  with_reducible refine Holds.ite ?_ ?_; with_reducible refine Keeps.step ?_ (rmvAck_keep ..)
  with_reducible refine Holds.ite ?_ ?_; with_reducible refine Keeps.step ?_ (rmvReq_keep ..)
  exact Keeps.refl _; exact Keeps.refl _; with_reducible refine Holds.ite ?_ ?_
  with_reducible refine Keeps.step ?_ (rmvReq_keep ..); exact Keeps.refl _; exact Keeps.refl _
  exact Keeps.refl _; with_reducible refine Keeps.step ?_ (ldrAfter_keep ..); exact Keeps.refl _
  exact Keeps.refl _

theorem State.regWrite_keep (s : State) (p : Page) (o : Nat) (r : RegSpec) (v : Word) : Keeps s (State.regWrite s p o r v) := by
  refine Holds.out ?_
  unfold State.regWrite
  with_reducible refine Holds.ite ?_ ?_; with_reducible refine Keeps.step ?_ (State.headerWrite_keep ..)
  exact Keeps.refl _; split; have k := OnSome.at (State.actWrite_keep ..) ‹_›; refine Keeps.step ?_ k
  exact Keeps.refl _; with_reducible refine Keeps.step ?_ (State.afterWrite_keep ..)
  with_reducible refine Keeps.same ?_; exact Keeps.refl _

theorem State.admitWrite_keep (s : State) (p : Page) (act : State → State) (h : ∀ u, Keeps u (act u)) :
    Keeps s (s.admitWrite p act) := by
  refine Holds.out ?_
  unfold State.admitWrite
  with_reducible refine Holds.ite ?_ ?_
  · exact Keeps.refl _
  · with_reducible refine Holds.ite ?_ ?_
    · exact Keeps.refl _
    · exact Keeps.step (Keeps.step (Keeps.refl _) (State.maWake_keep ..)) (h _)

theorem State.maWrite_keep (s : State) (a : Nat) (v : Word) : Keeps s (State.maWrite s a v) := by
  refine Holds.out ?_
  unfold State.maWrite
  dsimp only; split; with_reducible refine Keeps.same ?_; exact Keeps.refl _
  refine Keeps.step ?_ (State.admitWrite_keep _ _ _ (fun _ => Holds.out ?_)); exact Keeps.refl _; split
  split; with_reducible refine Keeps.step ?_ (State.regWrite_keep ..); exact Keeps.refl _; exact Keeps.refl _
  with_reducible refine Keeps.step ?_ (enctWrite_keep ..); exact Keeps.refl _
  with_reducible refine Keeps.same ?_; exact Keeps.refl _
  with_reducible refine Keeps.step ?_ (gkDebugWrite_keep ..); exact Keeps.refl _; exact Keeps.refl _
  with_reducible refine Keeps.same ?_; exact Keeps.refl _; with_reducible refine Keeps.same ?_
  exact Keeps.refl _; with_reducible refine Keeps.same ?_; exact Keeps.refl _

theorem State.maWriteWords_keep (l : List (List (Option Byte))) (a : Nat) (s : State) :
    Keeps s (State.maWriteWords l a s) := by
  refine Holds.out ?_
  induction l generalizing a s with
  | nil => exact Keeps.refl _
  | cons w ws ih =>
    unfold State.maWriteWords
    split
    · exact Keeps.step (Keeps.step (Keeps.refl _) (State.maWrite_keep ..)) (Holds.out (ih ..))
    · refine Keeps.step ?_ (Holds.out (ih ..))
      with_reducible refine Holds.ite ?_ ?_
      · exact Keeps.base _ _
      · exact Keeps.refl _

theorem State.maWriteBytes_keep (s : State) (a : Nat) (l : List (Option Byte)) : Keeps s (State.maWriteBytes s a l) := by
  refine Holds.out ?_
  unfold State.maWriteBytes
  with_reducible refine Keeps.step ?_ (State.maWriteWords_keep ..); exact Keeps.refl _

end Sys2Proof.Machine
end

