-- ==== Sys2Proof/Laws/KeepRowWrites.lean ====
section
/-! SUPPORT. What the operations of RowWrites keep: the waiting commands and the invariant. -/
namespace Sys2Proof.Machine

theorem execCmdStage_keep (t : Tower) (c : Ctx) (swap : Bool) (s : State) : OnNext (Keeps s) (execCmdStage t c swap s) := by
  refine Holds.out ?_
  unfold execCmdStage
  with_reducible refine Holds.next ?_
  refine Keeps.step ?_ (State.admitWrite_keep _ _ _ (fun _ => Holds.out ?_)); exact Keeps.refl _
  with_reducible refine Keeps.step ?_ (State.chmCmd_keep ..); exact Keeps.refl _

theorem execCmdSwap_keep (t : Tower) (s : State) : OnNext (Keeps s) (execCmdSwap t s) := by
  refine Holds.out ?_
  unfold execCmdSwap
  with_reducible refine Holds.next ?_
  refine Keeps.step ?_ (State.admitWrite_keep _ _ _ (fun _ => Holds.out ?_)); exact Keeps.refl _
  with_reducible refine Keeps.step ?_ (State.chmCmd_keep ..); exact Keeps.refl _

theorem execCmdThaw_keep (t : Tower) (s : State) : OnNext (Keeps s) (execCmdThaw t s) := by
  refine Holds.out ?_
  unfold execCmdThaw
  with_reducible refine Holds.next ?_
  refine Keeps.step ?_ (State.admitWrite_keep _ _ _ (fun _ => Holds.out ?_)); exact Keeps.refl _
  with_reducible refine Keeps.step ?_ (State.thaw_keep ..); exact Keeps.refl _

theorem execExcludeSet_keep (t : Tower) (m : Marsh) (s : State) : OnNext (Keeps s) (execExcludeSet t m s) := by
  refine Holds.out ?_
  unfold execExcludeSet
  with_reducible refine Holds.next ?_
  refine Keeps.step ?_ (State.admitWrite_keep _ _ _ (fun _ => Holds.out ?_)); exact Keeps.refl _
  with_reducible refine Keeps.step ?_ (State.resettle_keep ..)
  with_reducible refine Keeps.step ?_ (State.excludeSet_keep ..); exact Keeps.refl _

theorem execExcludeClear_keep (t : Tower) (m : Marsh) (s : State) : OnNext (Keeps s) (execExcludeClear t m s) := by
  refine Holds.out ?_
  unfold execExcludeClear
  with_reducible refine Holds.next ?_
  refine Keeps.step ?_ (State.admitWrite_keep _ _ _ (fun _ => Holds.out ?_)); exact Keeps.refl _
  with_reducible refine Keeps.step ?_ (State.resettle_keep ..)
  with_reducible refine Keeps.step ?_ (State.excludeClear_keep ..); exact Keeps.refl _

theorem execLpdOff_keep (t : Tower) (d : Fin 16) (s : State) : OnNext (Keeps s) (execLpdOff t d s) := by
  refine Holds.out ?_
  unfold execLpdOff
  with_reducible refine Holds.next ?_
  refine Keeps.step ?_ (State.admitWrite_keep _ _ _ (fun _ => Holds.out ?_)); exact Keeps.refl _
  with_reducible refine Keeps.step ?_ (State.resettle_keep ..)
  with_reducible refine Keeps.step ?_ (State.lpdOff_keep ..); exact Keeps.refl _

theorem execLpdOn_keep (t : Tower) (d : Fin 16) (s : State) : OnNext (Keeps s) (execLpdOn t d s) := by
  refine Holds.out ?_
  unfold execLpdOn
  with_reducible refine Holds.next ?_
  refine Keeps.step ?_ (State.admitWrite_keep _ _ _ (fun _ => Holds.out ?_)); exact Keeps.refl _
  with_reducible refine Keeps.step ?_ (State.resettle_keep ..)
  with_reducible refine Keeps.step ?_ (State.lpdOn_keep ..); exact Keeps.refl _

theorem execWeRelease_keep (t : Tower) (mask : BitVec 8) (s : State) : OnNext (Keeps s) (execWeRelease t mask s) := by
  refine Holds.out ?_
  unfold execWeRelease
  with_reducible refine Holds.next ?_
  refine Keeps.step ?_ (State.admitWrite_keep _ _ _ (fun _ => Holds.out ?_)); exact Keeps.refl _
  with_reducible refine Keeps.step ?_ (State.settle_keep ..)
  with_reducible refine Keeps.step ?_ (State.release_keep ..); exact Keeps.refl _

theorem execRbGo_keep (t : Tower) (s : State) : OnNext (Keeps s) (execRbGo t s) := by
  refine Holds.out ?_
  unfold execRbGo
  with_reducible refine Holds.next ?_
  refine Keeps.step ?_ (State.admitWrite_keep _ _ _ (fun _ => Holds.out ?_)); exact Keeps.refl _
  with_reducible refine Keeps.step ?_ (State.rbGo_keep ..); exact Keeps.refl _

theorem execRawWr_keep (t : Tower) (s : State) : OnNext (Keeps s) (execRawWr t s) := by
  refine Holds.out ?_
  unfold execRawWr
  with_reducible refine Holds.next ?_
  refine Keeps.step ?_ (State.admitWrite_keep _ _ _ (fun _ => Holds.out ?_)); exact Keeps.refl _
  with_reducible refine Keeps.step ?_ (State.rawWrite_keep ..); exact Keeps.refl _

theorem execDlvGo_keep (last : Bool) (s : State) : OnNext (Keeps s) (execDlvGo last s) := by
  refine Holds.out ?_
  unfold execDlvGo
  with_reducible refine Holds.next ?_
  refine Keeps.step ?_ (State.admitWrite_keep _ _ _ (fun _ => Holds.out ?_)); exact Keeps.refl _
  with_reducible refine Keeps.step ?_ (State.dlvGo_keep ..); exact Keeps.refl _

theorem execAbort_keep (s : State) : OnNext (Keeps s) (execAbort s) := by
  refine Holds.out ?_
  unfold execAbort
  with_reducible refine Holds.next ?_
  refine Keeps.step ?_ (State.admitWrite_keep _ _ _ (fun _ => Holds.out ?_)); exact Keeps.refl _
  with_reducible refine Keeps.step ?_ (State.ldrAbort_keep ..); exact Keeps.refl _

theorem execGolden_keep (s : State) : OnNext (Keeps s) (execGolden s) := by
  refine Holds.out ?_
  unfold execGolden
  with_reducible refine Holds.next ?_
  refine Keeps.step ?_ (State.admitWrite_keep _ _ _ (fun _ => Holds.out ?_)); exact Keeps.refl _
  with_reducible refine Keeps.step ?_ (State.ldrGolden_keep ..); exact Keeps.refl _

theorem execSoftRepair_keep (p : Fin 128) (pad : Fin 32) (sub : Fin 4) (col : Fin 512) (s : State) : OnNext (Keeps s) (execSoftRepair p pad sub col s) := by
  refine Holds.out ?_
  unfold execSoftRepair
  with_reducible refine Holds.next ?_
  refine Keeps.step ?_ (State.admitWrite_keep _ _ _ (fun _ => Holds.out ?_)); exact Keeps.refl _
  with_reducible refine Keeps.same ?_; exact Keeps.refl _

theorem execBist_keep (p : Fin 128) (pad : Fin 32) (s : State) : OnNext (Keeps s) (execBist p pad s) := by
  refine Holds.out ?_
  unfold execBist
  with_reducible refine Holds.next ?_
  refine Keeps.step ?_ (State.admitWrite_keep _ _ _ (fun _ => Holds.out ?_)); exact Keeps.refl _
  with_reducible refine Keeps.step ?_ (State.padCommand_keep ..); exact Keeps.refl _

theorem execZero_keep (p : Fin 128) (pad : Fin 32) (s : State) : OnNext (Keeps s) (execZero p pad s) := by
  refine Holds.out ?_
  unfold execZero
  with_reducible refine Holds.next ?_
  refine Keeps.step ?_ (State.admitWrite_keep _ _ _ (fun _ => Holds.out ?_)); exact Keeps.refl _
  with_reducible refine Keeps.step ?_ (State.padCommand_keep ..); exact Keeps.refl _

theorem execPadRawWrite_keep (p : Fin 128) (s : State) : OnNext (Keeps s) (execPadRawWrite p s) := by
  refine Holds.out ?_
  unfold execPadRawWrite
  with_reducible refine Holds.next ?_
  refine Keeps.step ?_ (State.admitWrite_keep _ _ _ (fun _ => Holds.out ?_)); exact Keeps.refl _
  with_reducible refine Keeps.step ?_ (State.padRaw_keep ..); exact Keeps.refl _

theorem execPadRawRead_keep (p : Fin 128) (s : State) : OnNext (Keeps s) (execPadRawRead p s) := by
  refine Holds.out ?_
  unfold execPadRawRead
  with_reducible refine Holds.next ?_
  refine Keeps.step ?_ (State.admitWrite_keep _ _ _ (fun _ => Holds.out ?_)); exact Keeps.refl _
  with_reducible refine Keeps.step ?_ (State.padRaw_keep ..); exact Keeps.refl _

theorem execQLevelWrite_keep (t : Tower) (v : Word) (s : State) : OnNext (Keeps s) (execQLevelWrite t v s) := by
  refine Holds.out ?_
  unfold execQLevelWrite
  with_reducible refine Holds.next ?_
  refine Keeps.step ?_ (State.admitWrite_keep _ _ _ (fun _ => Holds.out ?_)); exact Keeps.refl _
  with_reducible refine Keeps.step ?_ (queWrite_keep ..); exact Keeps.refl _

theorem execQGo_keep (t : Tower) (s : State) : OnNext (Keeps s) (execQGo t s) := by
  refine Holds.out ?_
  unfold execQGo
  with_reducible refine Holds.next ?_
  refine Keeps.step ?_ (State.admitWrite_keep _ _ _ (fun _ => Holds.out ?_)); exact Keeps.refl _
  with_reducible refine Keeps.step ?_ (qGo_keep ..); exact Keeps.refl _

theorem execQCancel_keep (t : Tower) (s : State) : OnNext (Keeps s) (execQCancel t s) := by
  refine Holds.out ?_
  unfold execQCancel
  with_reducible refine Holds.next ?_
  refine Keeps.step ?_ (State.admitWrite_keep _ _ _ (fun _ => Holds.out ?_)); exact Keeps.refl _
  with_reducible refine Keeps.step ?_ (qCancel_keep ..); exact Keeps.refl _

theorem execFlush_keep (t : Tower) (s : State) : OnNext (Keeps s) (execFlush t s) := by
  refine Holds.out ?_
  unfold execFlush
  with_reducible refine Holds.next ?_
  refine Keeps.step ?_ (State.admitWrite_keep _ _ _ (fun _ => Holds.out ?_)); exact Keeps.refl _
  with_reducible refine Keeps.step ?_ (qFlush_keep ..); exact Keeps.refl _

theorem execPflip_keep (t : Tower) (s : State) : OnNext (Keeps s) (execPflip t s) := by
  refine Holds.out ?_
  unfold execPflip
  with_reducible refine Holds.next ?_
  refine Keeps.step ?_ (State.admitWrite_keep _ _ _ (fun _ => Holds.out ?_)); exact Keeps.refl _
  with_reducible refine Keeps.step ?_ (qPflip_keep ..); exact Keeps.refl _

theorem execStart_keep (g : Fin 128) (s : State) : OnNext (Keeps s) (execStart g s) := by
  refine Holds.out ?_
  unfold execStart
  with_reducible refine Holds.next ?_
  refine Keeps.step ?_ (State.admitWrite_keep _ _ _ (fun _ => Holds.out ?_)); exact Keeps.refl _
  with_reducible refine Keeps.step ?_ (gkStart_keep ..); exact Keeps.refl _

theorem execResume_keep (g : Fin 128) (s : State) : OnNext (Keeps s) (execResume g s) := by
  refine Holds.out ?_
  unfold execResume
  with_reducible refine Holds.next ?_
  refine Keeps.step ?_ (State.admitWrite_keep _ _ _ (fun _ => Holds.out ?_)); exact Keeps.refl _
  with_reducible refine Keeps.step ?_ (gkResume_keep ..); exact Keeps.refl _

theorem execStop_keep (g : Fin 128) (s : State) : OnNext (Keeps s) (execStop g s) := by
  refine Holds.out ?_
  unfold execStop
  with_reducible refine Holds.next ?_
  refine Keeps.step ?_ (State.admitWrite_keep _ _ _ (fun _ => Holds.out ?_)); exact Keeps.refl _
  with_reducible refine Keeps.step ?_ (gkStop_keep ..); exact Keeps.refl _

theorem execStep_keep (g : Fin 128) (s : State) : OnNext (Keeps s) (execStep g s) := by
  refine Holds.out ?_
  unfold execStep
  with_reducible refine Holds.next ?_
  refine Keeps.step ?_ (State.admitWrite_keep _ _ _ (fun _ => Holds.out ?_)); exact Keeps.refl _
  with_reducible refine Keeps.step ?_ (gkStep_keep ..); exact Keeps.refl _

theorem execGkcPcWrite_keep (g : Fin 128) (v : Word) (s : State) : OnNext (Keeps s) (execGkcPcWrite g v s) := by
  refine Holds.out ?_
  unfold execGkcPcWrite
  with_reducible refine Holds.next ?_
  refine Keeps.step ?_ (State.admitWrite_keep _ _ _ (fun _ => Holds.out ?_)); exact Keeps.refl _
  with_reducible refine Keeps.same ?_; exact Keeps.refl _

theorem execDmaGo_keep (g : Fin 128) (ch : Fin 4) (s : State) : OnNext (Keeps s) (execDmaGo g ch s) := by
  refine Holds.out ?_
  unfold execDmaGo
  with_reducible refine Holds.next ?_
  refine Keeps.step ?_ (State.admitWrite_keep _ _ _ (fun _ => Holds.out ?_)); exact Keeps.refl _
  with_reducible refine Keeps.step ?_ (gkDmaGo_keep ..); exact Keeps.refl _

theorem execWbinv_keep (g : Fin 128) (s : State) : OnNext (Keeps s) (execWbinv g s) := by
  refine Holds.out ?_
  unfold execWbinv
  with_reducible refine Holds.next ?_
  refine Keeps.step ?_ (State.admitWrite_keep _ _ _ (fun _ => Holds.out ?_)); exact Keeps.refl _
  with_reducible refine Keeps.same ?_; exact Keeps.refl _

theorem execGeckoZero_keep (g : Fin 128) (s : State) : OnNext (Keeps s) (execGeckoZero g s) := by
  refine Holds.out ?_
  unfold execGeckoZero
  with_reducible refine Holds.next ?_
  refine Keeps.step ?_ (State.admitWrite_keep _ _ _ (fun _ => Holds.out ?_)); exact Keeps.refl _
  with_reducible refine Keeps.step ?_ (gkZero_keep ..); exact Keeps.refl _

theorem execFhpClkWrite_keep (t : Tower) (j : Fin 32) (v : Word) (s : State) : OnNext (Keeps s) (execFhpClkWrite t j v s) := by
  refine Holds.out ?_
  unfold execFhpClkWrite
  with_reducible refine Holds.next ?_
  refine Keeps.step ?_ (State.admitWrite_keep _ _ _ (fun _ => Holds.out ?_)); exact Keeps.refl _
  with_reducible refine Keeps.step ?_ (fhpWrite_keep ..); exact Keeps.refl _

theorem execTrainGo_keep (g : Fin 16) (s : State) : OnNext (Keeps s) (execTrainGo g s) := by
  refine Holds.out ?_
  unfold execTrainGo
  with_reducible refine Holds.next ?_
  refine Keeps.step ?_ (State.admitWrite_keep _ _ _ (fun _ => Holds.out ?_)); exact Keeps.refl _
  with_reducible refine Keeps.step ?_ (State.trainGo_keep ..); exact Keeps.refl _

theorem execInit_keep (g : Fin 16) (s : State) : OnNext (Keeps s) (execInit g s) := by
  refine Holds.out ?_
  unfold execInit
  with_reducible refine Holds.next ?_
  refine Keeps.step ?_ (State.admitWrite_keep _ _ _ (fun _ => Holds.out ?_)); exact Keeps.refl _
  with_reducible refine Keeps.same ?_; exact Keeps.refl _

theorem execGdRawWrite_keep (g : Fin 16) (s : State) : OnNext (Keeps s) (execGdRawWrite g s) := by
  refine Holds.out ?_
  unfold execGdRawWrite
  with_reducible refine Holds.next ?_
  refine Keeps.step ?_ (State.admitWrite_keep _ _ _ (fun _ => Holds.out ?_)); exact Keeps.refl _
  with_reducible refine Keeps.step ?_ (State.gdRaw_keep ..); exact Keeps.refl _

theorem execGdRawRead_keep (g : Fin 16) (s : State) : OnNext (Keeps s) (execGdRawRead g s) := by
  refine Holds.out ?_
  unfold execGdRawRead
  with_reducible refine Holds.next ?_
  refine Keeps.step ?_ (State.admitWrite_keep _ _ _ (fun _ => Holds.out ?_)); exact Keeps.refl _
  with_reducible refine Keeps.step ?_ (State.gdRaw_keep ..); exact Keeps.refl _

theorem execErase_keep (t : Tower) (k : Fin 256) (s : State) : OnNext (Keeps s) (execErase t k s) := by
  refine Holds.out ?_
  unfold execErase
  with_reducible refine Holds.next ?_
  refine Keeps.step ?_ (State.admitWrite_keep _ _ _ (fun _ => Holds.out ?_)); exact Keeps.refl _
  with_reducible refine Keeps.step ?_ (State.slotErase_keep ..); exact Keeps.refl _

theorem execMolt_keep (t : Tower) (r kb : Fin 256) (s : State) : OnNext (Keeps s) (execMolt t r kb s) := by
  refine Holds.out ?_
  unfold execMolt
  with_reducible refine Holds.next ?_
  refine Keeps.step ?_ (State.admitWrite_keep _ _ _ (fun _ => Holds.out ?_)); exact Keeps.refl _
  with_reducible refine Keeps.step ?_ (State.moltGo_keep ..); exact Keeps.refl _

theorem execFill_keep (t : Tower) (r : Fin 256) (s : State) : OnNext (Keeps s) (execFill t r s) := by
  refine Holds.out ?_
  unfold execFill
  with_reducible refine Holds.next ?_
  refine Keeps.step ?_ (State.admitWrite_keep _ _ _ (fun _ => Holds.out ?_)); exact Keeps.refl _
  with_reducible refine Keeps.step ?_ (State.moltGo_keep ..); exact Keeps.refl _

theorem execGclkEnWrite_keep (t : Tower) (n : Fin 32) (en : Bool) (s : State) : OnNext (Keeps s) (execGclkEnWrite t n en s) := by
  refine Holds.out ?_
  unfold execGclkEnWrite
  with_reducible refine Holds.next ?_
  refine Keeps.step ?_ (State.admitWrite_keep _ _ _ (fun _ => Holds.out ?_)); exact Keeps.refl _
  with_reducible refine Keeps.same ?_; exact Keeps.refl _

theorem execRampGo_keep (s : State) : OnNext (Keeps s) (execRampGo s) := by
  refine Holds.out ?_
  unfold execRampGo
  with_reducible refine Holds.next ?_
  refine Keeps.step ?_ (State.admitWrite_keep _ _ _ (fun _ => Holds.out ?_)); exact Keeps.refl _
  with_reducible refine Keeps.same ?_; exact Keeps.refl _

theorem execReturn_keep (s : State) : OnNext (Keeps s) (execReturn s) := by
  refine Holds.out ?_
  unfold execReturn
  with_reducible refine Holds.next ?_
  refine Keeps.step ?_ (State.admitWrite_keep _ _ _ (fun _ => Holds.out ?_)); exact Keeps.refl _
  with_reducible refine Keeps.same ?_; exact Keeps.refl _

theorem execEflTrain_keep (n : Fin 8) (s : State) : OnNext (Keeps s) (execEflTrain n s) := by
  refine Holds.out ?_
  unfold execEflTrain
  with_reducible refine Holds.next ?_
  refine Keeps.step ?_ (State.admitWrite_keep _ _ _ (fun _ => Holds.out ?_)); exact Keeps.refl _
  with_reducible refine Keeps.step ?_ (eflTrain_keep ..); exact Keeps.refl _

theorem execDown_keep (n : Fin 8) (s : State) : OnNext (Keeps s) (execDown n s) := by
  refine Holds.out ?_
  unfold execDown
  with_reducible refine Holds.next ?_
  refine Keeps.step ?_ (State.admitWrite_keep _ _ _ (fun _ => Holds.out ?_)); exact Keeps.refl _
  with_reducible refine Keeps.step ?_ (eflDownCmd_keep ..); exact Keeps.refl _

theorem execQuiesce_keep (n : Fin 8) (s : State) : OnNext (Keeps s) (execQuiesce n s) := by
  refine Holds.out ?_
  unfold execQuiesce
  with_reducible refine Holds.next ?_
  refine Keeps.step ?_ (State.admitWrite_keep _ _ _ (fun _ => Holds.out ?_)); exact Keeps.refl _
  with_reducible refine Keeps.step ?_ (eflQuiesce_keep ..); exact Keeps.refl _

theorem execPrbsTest_keep (n : Fin 8) (on : Bool) (s : State) : OnNext (Keeps s) (execPrbsTest n on s) := by
  refine Holds.out ?_
  unfold execPrbsTest
  with_reducible refine Holds.next ?_
  refine Keeps.step ?_ (State.admitWrite_keep _ _ _ (fun _ => Holds.out ?_)); exact Keeps.refl _
  with_reducible refine Keeps.step ?_ (eflTest_keep ..); exact Keeps.refl _

theorem execPrbsInj_keep (n : Fin 8) (s : State) : OnNext (Keeps s) (execPrbsInj n s) := by
  refine Holds.out ?_
  unfold execPrbsInj
  with_reducible refine Holds.next ?_
  refine Keeps.step ?_ (State.admitWrite_keep _ _ _ (fun _ => Holds.out ?_)); exact Keeps.refl _
  with_reducible refine Keeps.same ?_; exact Keeps.refl _

theorem execPrbsClr_keep (n : Fin 8) (s : State) : OnNext (Keeps s) (execPrbsClr n s) := by
  refine Holds.out ?_
  unfold execPrbsClr
  with_reducible refine Holds.next ?_
  refine Keeps.step ?_ (State.admitWrite_keep _ _ _ (fun _ => Holds.out ?_)); exact Keeps.refl _
  with_reducible refine Keeps.same ?_; exact Keeps.refl _

theorem execRmvAck_keep (s : State) : OnNext (Keeps s) (execRmvAck s) := by
  refine Holds.out ?_
  unfold execRmvAck
  with_reducible refine Holds.next ?_
  refine Keeps.step ?_ (State.admitWrite_keep _ _ _ (fun _ => Holds.out ?_)); exact Keeps.refl _
  with_reducible refine Keeps.step ?_ (rmvAck_keep ..); exact Keeps.refl _

theorem execCtxRst_keep (mask : BitVec 8) (s : State) : OnNext (Keeps s) (execCtxRst mask s) := by
  refine Holds.out ?_
  unfold execCtxRst
  with_reducible refine Holds.next ?_
  refine Keeps.step ?_ (State.admitWrite_keep _ _ _ (fun _ => Holds.out ?_)); exact Keeps.refl _
  with_reducible refine Keeps.step ?_ (ctxRst_keep ..); exact Keeps.refl _

theorem execPinctlWrite_keep (v : Bool) (s : State) : OnNext (Keeps s) (execPinctlWrite v s) := by
  refine Holds.out ?_
  unfold execPinctlWrite
  with_reducible refine Holds.next ?_
  refine Keeps.step ?_ (State.admitWrite_keep _ _ _ (fun _ => Holds.out ?_)); exact Keeps.refl _
  with_reducible refine Keeps.step ?_ (pinctlWrite_keep ..); exact Keeps.refl _

theorem execSrst_keep (p : Page) (s : State) : OnNext (Keeps s) (execSrst p s) := by
  refine Holds.out ?_
  unfold execSrst
  with_reducible refine Holds.next ?_
  refine Keeps.step ?_ (State.admitWrite_keep _ _ _ (fun _ => Holds.out ?_)); exact Keeps.refl _
  with_reducible refine Keeps.step ?_ (State.srst_keep ..); exact Keeps.refl _

end Sys2Proof.Machine
end

