-- ==== Sys2Proof/Laws/KeepMaAccess.lean ====
section
/-! SUPPORT. What the operations of MaAccess keep: the waiting commands and the invariant. -/
namespace Sys2Proof.Machine

theorem execRegisterWrite_keep (a : Fin 0x8000000) (v : Word) (s : State) : OnNext (Keeps s) (execRegisterWrite a v s) := by
  refine Holds.out ?_
  unfold execRegisterWrite
  with_reducible refine Holds.next ?_; with_reducible refine Keeps.step ?_ (State.maWrite_keep ..)
  exact Keeps.refl _

theorem execRcRead_keep (a : Fin 0x8000000) (s : State) : OnNext (Keeps s) (execRcRead a s) := by
  refine Holds.out ?_
  unfold execRcRead
  dsimp only; with_reducible refine Holds.next ?_; with_reducible refine Keeps.same ?_
  with_reducible refine Keeps.step ?_ (State.maRead_keep ..); exact Keeps.refl _

theorem execReservedAccess_keep (a : Fin 0x8000000) (k : AccessKind) (s : State) : OnNext (Keeps s) (execReservedAccess a k s) := by
  refine Holds.out ?_
  unfold execReservedAccess
  dsimp only; split; with_reducible refine Holds.ite ?_ ?_; with_reducible refine Holds.next ?_
  with_reducible refine Keeps.same ?_; exact Keeps.refl _; with_reducible refine Holds.next ?_
  exact Keeps.refl _; with_reducible refine Holds.ite ?_ ?_; with_reducible refine Holds.next ?_
  with_reducible refine Keeps.same ?_; exact Keeps.refl _; with_reducible refine Holds.next ?_
  exact Keeps.refl _; with_reducible refine Holds.next ?_; with_reducible refine Keeps.same ?_
  exact Keeps.refl _

theorem execBlkCtrlEn_keep (p : Page) (en : Bool) (s : State) : OnNext (Keeps s) (execBlkCtrlEn p en s) := by
  refine Holds.out ?_
  unfold execBlkCtrlEn
  with_reducible refine Holds.next ?_
  refine Keeps.step ?_ (State.admitWrite_keep _ _ _ (fun _ => Holds.out ?_)); exact Keeps.refl _
  with_reducible refine Keeps.step ?_ (State.blkEn_keep ..); exact Keeps.refl _

theorem execDrainComplete_keep (p : Page) (s : State) : OnNext (Keeps s) (execDrainComplete p s) := by
  refine Holds.out ?_
  unfold execDrainComplete
  with_reducible refine Holds.ite ?_ ?_; with_reducible refine Holds.next ?_
  with_reducible refine Keeps.same ?_; exact Keeps.refl _; with_reducible refine Holds.next ?_
  exact Keeps.refl _

theorem execCommitGo_keep (p : Page) (s : State) : OnNext (Keeps s) (execCommitGo p s) := by
  refine Holds.out ?_
  unfold execCommitGo
  with_reducible refine Holds.next ?_
  refine Keeps.step ?_ (State.admitWrite_keep _ _ _ (fun _ => Holds.out ?_)); exact Keeps.refl _
  with_reducible refine Keeps.step ?_ (State.commitGo_keep ..); exact Keeps.refl _

theorem execCommitCancel_keep (p : Page) (s : State) : OnNext (Keeps s) (execCommitCancel p s) := by
  refine Holds.out ?_
  unfold execCommitCancel
  with_reducible refine Holds.next ?_
  refine Keeps.step ?_ (State.admitWrite_keep _ _ _ (fun _ => Holds.out ?_)); exact Keeps.refl _
  with_reducible refine Keeps.step ?_ (State.commitCancel_keep ..); exact Keeps.refl _

theorem execCommitApply_keep (p : Page) (s : State) : OnNext (Keeps s) (execCommitApply p s) := by
  refine Holds.out ?_
  unfold execCommitApply
  with_reducible refine Holds.ite ?_ ?_; with_reducible refine Holds.next ?_
  with_reducible refine Keeps.step ?_ (State.commitPoint_keep ..); exact Keeps.refl _
  with_reducible refine Holds.next ?_; exact Keeps.refl _

theorem execEvtStatClear_keep (p : Page) (v : Word) (s : State) : OnNext (Keeps s) (execEvtStatClear p v s) := by
  refine Holds.out ?_
  unfold execEvtStatClear
  with_reducible refine Holds.next ?_
  refine Keeps.step ?_ (State.admitWrite_keep _ _ _ (fun _ => Holds.out ?_)); exact Keeps.refl _
  with_reducible refine Keeps.same ?_; exact Keeps.refl _

theorem execEvtForce_keep (p : Page) (v : Word) (s : State) : OnNext (Keeps s) (execEvtForce p v s) := by
  refine Holds.out ?_
  unfold execEvtForce
  with_reducible refine Holds.next ?_
  refine Keeps.step ?_ (State.admitWrite_keep _ _ _ (fun _ => Holds.out ?_)); exact Keeps.refl _
  with_reducible refine Keeps.same ?_; exact Keeps.refl _

theorem execNmeStatClear_keep (v : Word) (s : State) : OnNext (Keeps s) (execNmeStatClear v s) := by
  refine Holds.out ?_
  unfold execNmeStatClear
  with_reducible refine Holds.next ?_
  refine Keeps.step ?_ (State.admitWrite_keep _ _ _ (fun _ => Holds.out ?_)); exact Keeps.refl _
  with_reducible refine Keeps.same ?_; exact Keeps.refl _

theorem execErrLeak_keep (p : Page) (s : State) : OnNext (Keeps s) (execErrLeak p s) := by
  refine Holds.out ?_
  unfold execErrLeak
  with_reducible refine Holds.ite ?_ ?_; with_reducible refine Holds.next ?_
  with_reducible refine Keeps.same ?_; exact Keeps.refl _; with_reducible refine Holds.next ?_
  exact Keeps.refl _

theorem execErrCfgWrite_keep (p : Page) (v : Word) (s : State) : OnNext (Keeps s) (execErrCfgWrite p v s) := by
  refine Holds.out ?_
  unfold execErrCfgWrite
  with_reducible refine Holds.next ?_
  refine Keeps.step ?_ (State.admitWrite_keep _ _ _ (fun _ => Holds.out ?_)); exact Keeps.refl _
  with_reducible refine Keeps.same ?_; exact Keeps.refl _

theorem execErrLogRelease_keep (p : Page) (s : State) : OnNext (Keeps s) (execErrLogRelease p s) := by
  refine Holds.out ?_
  unfold execErrLogRelease
  with_reducible refine Holds.next ?_
  refine Keeps.step ?_ (State.admitWrite_keep _ _ _ (fun _ => Holds.out ?_)); exact Keeps.refl _
  with_reducible refine Keeps.same ?_; exact Keeps.refl _

theorem execBlockWake_keep (a : Fin 0x8000000) (v : Option Word) (s : State) : OnNext (Keeps s) (execBlockWake a v s) := by
  refine Holds.out ?_
  unfold execBlockWake
  split; with_reducible refine Holds.next ?_; exact Keeps.refl _; with_reducible refine Holds.ite ?_ ?_
  split; refine Holds.next_mono (execRegisterWrite_keep ..) ?_; intro _; intro _; refine Keeps.step ?_ ‹_›
  exact Keeps.refl _; refine Holds.next_mono (execRcRead_keep ..) ?_; intro _; intro _
  refine Keeps.step ?_ ‹_›; exact Keeps.refl _; with_reducible refine Holds.next ?_; exact Keeps.refl _

theorem mgtServe_keep (s : State) (r : HopReq) (write : Bool) : Keeps s (mgtServe s r write) := by
  refine Holds.out ?_
  unfold mgtServe
  with_reducible refine Holds.ite ?_ ?_; with_reducible refine Keeps.same ?_; exact Keeps.refl _
  with_reducible refine Holds.ite ?_ ?_; dsimp only; with_reducible refine Keeps.same ?_
  with_reducible refine Keeps.step ?_ (State.maWriteBytes_keep ..); exact Keeps.refl _; dsimp only
  with_reducible refine Keeps.same ?_; with_reducible refine Keeps.step ?_ (State.maReadBytes_keep ..)
  exact Keeps.refl _

theorem mgtArrive_keep (s : State) (r : HopReq) (write : Bool) (w : Wire) : Keeps s (mgtArrive s r write w) := by
  refine Holds.out ?_
  unfold mgtArrive
  with_reducible refine Holds.ite ?_ ?_; exact Keeps.refl _; dsimp only
  with_reducible refine Holds.ite ?_ ?_; with_reducible refine Keeps.step ?_ (State.wired_keep ..)
  with_reducible refine Keeps.step ?_ (State.arrived_keep ..); with_reducible refine Holds.ite ?_ ?_
  with_reducible refine Keeps.step ?_ (State.inject_keep ..); exact Keeps.refl _; exact Keeps.refl _
  with_reducible refine Holds.ite ?_ ?_; with_reducible refine Keeps.same ?_
  with_reducible refine Keeps.step ?_ (State.wired_keep ..)
  with_reducible refine Keeps.step ?_ (State.arrived_keep ..); with_reducible refine Holds.ite ?_ ?_
  with_reducible refine Keeps.step ?_ (State.inject_keep ..); exact Keeps.refl _; exact Keeps.refl _
  with_reducible refine Keeps.step ?_ (mgtServe_keep ..)
  with_reducible refine Keeps.step ?_ (State.wired_keep ..)
  with_reducible refine Keeps.step ?_ (State.arrived_keep ..); with_reducible refine Holds.ite ?_ ?_
  with_reducible refine Keeps.step ?_ (State.inject_keep ..); exact Keeps.refl _; exact Keeps.refl _

theorem execCfgRd_keep (r : HopReq) (w : Wire) (s : State) : OnNext (Keeps s) (execCfgRd r w s) := by
  refine Holds.out ?_
  unfold execCfgRd
  with_reducible refine Holds.next ?_; with_reducible refine Keeps.step ?_ (mgtArrive_keep ..)
  exact Keeps.refl _

theorem execCfgWr_keep (r : HopReq) (w : Wire) (s : State) : OnNext (Keeps s) (execCfgWr r w s) := by
  refine Holds.out ?_
  unfold execCfgWr
  with_reducible refine Holds.next ?_; with_reducible refine Keeps.step ?_ (mgtArrive_keep ..)
  exact Keeps.refl _

end Sys2Proof.Machine
end

