-- ==== Sys2Proof/Laws/KeepPcieTlp.lean ====
section
/-! SUPPORT. What the operations of PcieTlp keep: the waiting commands and the invariant. -/
namespace Sys2Proof.Machine

theorem State.ideFails_keep (s : State) (f : Nat) (x : Option (Fin 9 × Bool)) : OnSome (Keeps s) (State.ideFails s f x) := by
  refine Holds.out ?_
  unfold State.ideFails
  split; exact Holds.none; dsimp only; with_reducible refine Holds.ite ?_ ?_
  with_reducible refine Holds.some ?_; exact Keeps.refl _; with_reducible refine Holds.ite ?_ ?_
  exact Holds.none; with_reducible refine Holds.some ?_
  with_reducible refine Keeps.step ?_ (State.aerNote_keep ..); with_reducible refine Keeps.same ?_
  exact Keeps.refl _

theorem State.readPieces_keep (f : Nat) (l : List (Option Nat × Nat)) (s : State) (remote : List HopRsp) :
    OnOk (OnFst (Keeps s)) (State.readPieces f l s remote) := by
  refine Holds.out ?_
  induction l generalizing s remote with
  | nil => exact Holds.ok (Holds.mk1 (Keeps.refl _))
  | cons e l ih =>
    obtain ⟨x, k⟩ := e
    cases x with
    | none =>
      unfold State.readPieces
      exact Holds.map_ok (Holds.out (ih ..)) (fun _ h => Holds.mk1 (Holds.of h))
    | some a =>
      unfold State.readPieces
      split
      · exact Holds.error
      · have k := OnOk.at (State.engineAccess_keep ..) ‹_›
        exact Holds.map_ok (Holds.out (ih ..)) (fun _ h => Holds.mk1 (Keeps.step (Holds.of k) h))

theorem State.complete_keep (s : State) (f tag : Nat) (x : Nat × List Byte × Bool) : Keeps s (State.complete s f tag x) := by
  refine Holds.out ?_
  unfold State.complete
  dsimp only; with_reducible refine Keeps.same ?_; with_reducible refine Holds.ite ?_ ?_
  with_reducible refine Keeps.step ?_ (State.aerNote_keep ..); exact Keeps.refl _
  with_reducible refine Holds.ite ?_ ?_; with_reducible refine Keeps.step ?_ (State.aerNote_keep ..)
  exact Keeps.refl _; exact Keeps.refl _

theorem State.pwFail_keep (s : State) (f a : Nat) : Keeps s (State.pwFail s f a) := by
  refine Holds.out ?_
  unfold State.pwFail
  dsimp only; with_reducible refine Keeps.same ?_; exact Keeps.refl _

theorem State.writePieces_keep (f : Nat) (ep : Bool) (l : List (Option Nat × Nat)) (bytes : List (Option Byte)) (s : State)
    (remote : List HopRsp) : OnOk (Keeps s) (State.writePieces f ep l bytes s remote) := by
  refine Holds.out ?_
  induction l generalizing bytes s remote with
  | nil => exact Holds.ok (Keeps.refl _)
  | cons e l ih =>
    obtain ⟨x, k⟩ := e
    unfold State.writePieces
    dsimp only
    with_reducible refine Holds.ite ?_ ?_
    · exact ih ..
    · split
      · split
        · exact Holds.error
        · have k := OnOk.at (State.engineAccess_keep ..) ‹_›
          refine Holds.ok_mono (Holds.out (ih ..)) (fun _ h => Keeps.step ?_ h)
          with_reducible refine Holds.ite ?_ ?_
          · exact Holds.of k
          · exact Keeps.step (Holds.of k) (State.pwFail_keep ..)
      · exact Holds.ok_mono (Holds.out (ih ..)) (fun _ h => Keeps.step (Keeps.step (Keeps.refl _) (State.aerNote_keep ..)) h)

theorem State.epNote_keep (s : State) (f bar o : Nat) : Keeps s (State.epNote s f bar o) := by
  refine Holds.out ?_
  unfold State.epNote
  with_reducible refine Keeps.step ?_ (State.aerNote_keep ..); with_reducible refine Keeps.same ?_
  exact Keeps.refl _

theorem State.tlpRun_keep (s : State) (x : Tlp) : OnOk (Keeps s) (State.tlpRun s x) := by
  refine Holds.out ?_
  unfold State.tlpRun
  split; refine Holds.map_ok (State.readPieces_keep ..) ?_; intro _; intro _
  with_reducible refine Holds.ite ?_ ?_; refine Keeps.step ?_ ‹_›; exact Keeps.refl _
  with_reducible refine Keeps.step ?_ (State.complete_keep ..); refine Keeps.step ?_ ‹_›; exact Keeps.refl _
  refine Holds.ok_mono (State.writePieces_keep ..) ?_; intro _; intro _; refine Keeps.step ?_ ‹_›
  exact Keeps.refl _

theorem State.tlpHold_keep (s : State) (x : Tlp) : Keeps s (State.tlpHold s x) := by
  refine Holds.out ?_
  unfold State.tlpHold
  with_reducible refine Keeps.same ?_; exact Keeps.refl _

theorem State.tlpTake_keep (s : State) (x : Tlp) : Keeps s (State.tlpTake s x) := by
  refine Holds.out ?_
  unfold State.tlpTake
  with_reducible refine Holds.ite ?_ ?_; with_reducible refine Keeps.step ?_ (State.tlpHold_keep ..)
  exact Keeps.refl _; split; with_reducible refine Keeps.step ?_ (State.tlpHold_keep ..)
  with_reducible refine Keeps.step ?_ (State.await_keep ..); exact Keeps.refl _
  have k := OnOk.at (State.tlpRun_keep ..) ‹_›; refine Keeps.step ?_ k; exact Keeps.refl _

theorem State.pcieGo_keep (s : State) : Keeps s (State.pcieGo s) := by
  refine Holds.out ?_
  unfold State.pcieGo
  with_reducible refine Keeps.step ?_ (State.quiesceEnd_keep ..)
  with_reducible refine Keeps.foldl (fun _ _ => ?_) ?_
  with_reducible refine Keeps.step ?_ (State.tlpTake_keep ..); exact Keeps.refl _
  with_reducible refine Keeps.same ?_; exact Keeps.refl _

theorem tlpRead_keep (s : State) (f bar o len tag : Nat) (remote : List HopRsp) : Keeps s (tlpRead s f bar o len tag remote) := by
  refine Holds.out ?_
  unfold tlpRead
  with_reducible refine Holds.ite ?_ ?_; with_reducible refine Keeps.step ?_ (State.complete_keep ..)
  exact Keeps.refl _; with_reducible refine Holds.ite ?_ ?_
  with_reducible refine Keeps.step ?_ (State.complete_keep ..); exact Keeps.refl _; split; dsimp only
  with_reducible refine Keeps.step ?_ (State.complete_keep ..)
  with_reducible refine Keeps.step ?_ (State.maReadBytes_keep ..); exact Keeps.refl _
  with_reducible refine Keeps.step ?_ (State.complete_keep ..); exact Keeps.refl _
  with_reducible refine Keeps.step ?_ (State.complete_keep ..); exact Keeps.refl _
  with_reducible refine Keeps.step ?_ (State.complete_keep ..); exact Keeps.refl _
  with_reducible refine Keeps.step ?_ (State.tlpTake_keep ..); exact Keeps.refl _

theorem execMemReadTlp_keep (f : FnNo) (bar : Fin 6) (o : Nat) (len : Fin 4097) (tag : Fin 16384) (ide : Option (Fin 9 × Bool)) (remote : List HopRsp) (s : State) : OnNext (Keeps s) (execMemReadTlp f bar o len tag ide remote s) := by
  refine Holds.out ?_
  unfold execMemReadTlp
  with_reducible refine Holds.ite ?_ ?_; with_reducible refine Holds.next ?_; exact Keeps.refl _; split
  with_reducible refine Holds.next ?_
  have k := OnSome.at (State.ideFails_keep ..) ‹_›; refine Keeps.step ?_ k; exact Keeps.refl _
  with_reducible refine Holds.next ?_; with_reducible refine Keeps.step ?_ (tlpRead_keep ..)
  exact Keeps.refl _

theorem tlpWrite_keep (s : State) (f bar o : Nat) (l : List (Option Byte)) (ep relaxed : Bool) (remote : List HopRsp) : Keeps s (tlpWrite s f bar o l ep relaxed remote) := by
  refine Holds.out ?_
  unfold tlpWrite
  with_reducible refine Holds.ite ?_ ?_; with_reducible refine Keeps.step ?_ (State.aerNote_keep ..)
  exact Keeps.refl _; with_reducible refine Holds.ite ?_ ?_
  with_reducible refine Keeps.step ?_ (State.aerNote_keep ..); exact Keeps.refl _; dsimp only; split
  with_reducible refine Keeps.step ?_ (State.maWriteBytes_keep ..); with_reducible refine Holds.ite ?_ ?_
  with_reducible refine Keeps.step ?_ (State.epNote_keep ..); exact Keeps.refl _; exact Keeps.refl _
  with_reducible refine Keeps.same ?_; with_reducible refine Holds.ite ?_ ?_
  with_reducible refine Keeps.step ?_ (State.epNote_keep ..); exact Keeps.refl _; exact Keeps.refl _
  with_reducible refine Holds.ite ?_ ?_; with_reducible refine Keeps.same ?_
  with_reducible refine Holds.ite ?_ ?_; with_reducible refine Keeps.step ?_ (State.epNote_keep ..)
  exact Keeps.refl _; exact Keeps.refl _; with_reducible refine Holds.ite ?_ ?_
  with_reducible refine Keeps.step ?_ (State.epNote_keep ..); exact Keeps.refl _; exact Keeps.refl _
  with_reducible refine Keeps.step ?_ (State.aerNote_keep ..); exact Keeps.refl _
  with_reducible refine Keeps.step ?_ (State.tlpTake_keep ..); with_reducible refine Holds.ite ?_ ?_
  with_reducible refine Keeps.step ?_ (State.epNote_keep ..); exact Keeps.refl _; exact Keeps.refl _

theorem execMemWriteTlp_keep (f : FnNo) (bar : Fin 6) (o : Nat) (bytes : List (Option Byte)) (ep relaxed : Bool) (ide : Option (Fin 9 × Bool)) (remote : List HopRsp) (s : State) : OnNext (Keeps s) (execMemWriteTlp f bar o bytes ep relaxed ide remote s) := by
  refine Holds.out ?_
  unfold execMemWriteTlp
  with_reducible refine Holds.ite ?_ ?_; with_reducible refine Holds.next ?_; exact Keeps.refl _; split
  with_reducible refine Holds.next ?_
  have k := OnSome.at (State.ideFails_keep ..) ‹_›; refine Keeps.step ?_ k; exact Keeps.refl _
  with_reducible refine Holds.next ?_; with_reducible refine Keeps.step ?_ (tlpWrite_keep ..)
  exact Keeps.refl _

end Sys2Proof.Machine
end

