-- ==== Sys2Proof/Laws/KeepSleep.lean ====
section
/-! SUPPORT. What the operations of Sleep keep: the waiting commands and the invariant. -/
namespace Sys2Proof.Machine

theorem State.restPage_keep (s : State) (p : Page) : Keeps s (State.restPage s p) := by
  refine Holds.out ?_
  unfold State.restPage
  with_reducible refine Holds.ite ?_ ?_; with_reducible refine Keeps.same ?_; exact Keeps.refl _
  exact Keeps.refl _

theorem State.restLevel_keep (s : State) (t l : Nat) : Keeps s (State.restLevel s t l) := by
  refine Holds.out ?_
  unfold State.restLevel
  with_reducible refine Holds.ite ?_ ?_; with_reducible refine Keeps.same ?_; exact Keeps.refl _
  exact Keeps.refl _

theorem State.rest_keep (s : State) : Keeps s (State.rest s) := by
  refine Holds.out ?_
  unfold State.rest
  dsimp only; with_reducible refine Keeps.foldl (fun _ _ => ?_) ?_
  with_reducible refine Keeps.foldl (fun _ _ => ?_) ?_
  with_reducible refine Keeps.step ?_ (State.restLevel_keep ..); exact Keeps.refl _; exact Keeps.refl _
  with_reducible refine Keeps.same ?_; with_reducible refine Keeps.foldl (fun _ _ => ?_) ?_
  with_reducible refine Keeps.step ?_ (State.restPage_keep ..); exact Keeps.refl _; exact Keeps.refl _

end Sys2Proof.Machine
end

