-- ==== Sys2Proof/Laws/KeepOps.lean ====
section
/-! SUPPORT. What the operations of Ops keep: the waiting commands and the invariant. -/
namespace Sys2Proof.Machine

theorem State.pass_keep (s : State) : Keeps s (State.pass s) := by
  refine Holds.out ?_
  unfold State.pass
  dsimp only; with_reducible refine Keeps.step ?_ (State.rest_keep ..)
  with_reducible refine Keeps.upd ?_ ?_ ?_ ?_ ?_ ?_; with_reducible refine Keeps.foldl (fun _ _ => ?_) ?_
  with_reducible refine Keeps.step ?_ (eflReport_keep ..); exact Keeps.refl _
  with_reducible refine Keeps.step ?_ (State.pcieGo_keep ..)
  with_reducible refine Keeps.foldl (fun _ _ => ?_) ?_
  with_reducible refine Keeps.step ?_ (State.homeGo_keep ..); exact Keeps.refl _; exact Keeps.refl _
  with_reducible refine PondsKeep.upd ?_; exact PKeep.refl _; exact GKeep.refl _; exact KKeep.refl _
  exact CKeep.refl _; exact QKeep.refl _

theorem State.idle_keep (s : State) : Keeps s (State.idle s) := by
  refine Holds.out ?_
  unfold State.idle
  dsimp only; with_reducible refine Holds.ite ?_ ?_; with_reducible refine Keeps.same ?_; exact Keeps.refl _
  with_reducible refine Keeps.step ?_ (State.pass_keep ..); with_reducible refine Keeps.same ?_
  exact Keeps.refl _

end Sys2Proof.Machine
end

