-- ==== Sys2Proof/Laws/Lines.lean ====
section
/-! SUPPORT. No two lines of a package share a place (16 R321), so a line written reads back and leaves every other line alone. -/
namespace Sys2Proof.Machine

/-- Controller and line number determine, and are determined by, where a line lies. -/
theorem lineKey_inj {c d n m : Nat} (hn : n < 2 ^ 27) (hm : m < 2 ^ 27) (h : lineKey c n = lineKey d m) : c = d ∧ n = m := by
  have key {k : Nat} (hk : k < 2 ^ 27) : (gdPlace (64 * k)).chan = k / 4 % 2 ∧ (gdPlace (64 * k)).bank = (k / 8 % 16 ^^^ k / 2048 % 16) ∧
      (gdPlace (64 * k)).row = k / 2048 ∧ (gdPlace (64 * k)).col = 4 * (k / 128 % 16) + k % 4 := by
    simp only [gdPlace, nget]
    refine ⟨?_, ?_, ?_, ?_⟩ <;> simp only [Nat.shiftRight_eq_div_pow] <;> simp only [Nat.reducePow, Nat.reduceAdd, Nat.reduceSub] <;> first | omega | (congr 1 <;> omega)
  obtain ⟨a1, a2, a3, a4⟩ := key hn
  obtain ⟨b1, b2, b3, b4⟩ := key hm
  unfold lineKey at h
  simp only [a1, a2, a3, a4, b1, b2, b3, b4] at h
  have x1 : (n / 8 % 16 ^^^ n / 2048 % 16) < 16 := Nat.xor_lt_two_pow (n := 4) (by omega) (by omega)
  have x2 : (m / 8 % 16 ^^^ m / 2048 % 16) < 16 := Nat.xor_lt_two_pow (n := 4) (by omega) (by omega)
  have rn : n / 2048 < 65536 := by omega
  have rm : m / 2048 < 65536 := by omega
  have hcd : c = d := by clear hn hm; omega
  subst hcd
  have hr : n / 2048 = m / 2048 := by omega
  have hb : (n / 8 % 16 ^^^ n / 2048 % 16) = (m / 8 % 16 ^^^ m / 2048 % 16) := by omega
  have hx := congrArg (· ^^^ (m / 2048 % 16)) hb
  rw [hr] at hx
  simp only [Nat.xor_assoc, Nat.xor_self, Nat.xor_zero] at hx
  have digits (k : Nat) : k = 2048 * (k / 2048) + 128 * (k / 128 % 16) + 8 * (k / 8 % 16) + 4 * (k / 4 % 2) + k % 4 := by omega
  have hc : n / 128 % 16 = m / 128 % 16 ∧ n % 4 = m % 4 ∧ n / 4 % 2 = m / 4 % 2 := by omega
  refine ⟨rfl, ?_⟩
  rw [digits n, digits m, hr, hx, hc.1, hc.2.1, hc.2.2]

@[simp] theorem Gdr.line_setLine_same (g : Gdr) (c n : Nat) (l : Gline) : (g.setLine c n l).line c n = l := by
  simp [Gdr.line, Gdr.setLine]

theorem Gdr.line_setLine_ne (g : Gdr) {c d n m : Nat} (l : Gline) (hn : n < 2 ^ 27) (hm : m < 2 ^ 27) (h : ¬ (d = c ∧ m = n)) :
    (g.setLine c n l).line d m = g.line d m :=
  SMap.get_set_ne _ _ _ fun e => h (lineKey_inj hm hn e)

end Sys2Proof.Machine
end

