-- ==== Sys2Proof/Laws/State.lean ====
section
/-! SUPPORT. What each named update of the state leaves alone, field by field. -/
namespace Sys2Proof.Machine

@[simp] theorem State.an_b (s : State) (f : Anole → Anole) : (s.an f).b = s.b := by
  unfold State.an; rfl
@[simp] theorem State.an_ponds (s : State) (f : Anole → Anole) : (s.an f).ponds = s.ponds := by
  unfold State.an; rfl
@[simp] theorem State.an_arb (s : State) (f : Anole → Anole) : (s.an f).arb = s.arb := by
  unfold State.an; rfl
@[simp] theorem State.an_pwr (s : State) (f : Anole → Anole) : (s.an f).pwr = s.pwr := by
  unfold State.an; rfl
@[simp] theorem State.an_clk (s : State) (f : Anole → Anole) : (s.an f).clk = s.clk := by
  unfold State.an; rfl
@[simp] theorem State.an_cham (s : State) (f : Anole → Anole) : (s.an f).cham = s.cham := by
  unfold State.an; rfl
@[simp] theorem State.an_fab (s : State) (f : Anole → Anole) : (s.an f).fab = s.fab := by
  unfold State.an; rfl
@[simp] theorem State.an_cfg (s : State) (f : Anole → Anole) : (s.an f).cfg = s.cfg := by
  unfold State.an; rfl
@[simp] theorem State.an_pins (s : State) (f : Anole → Anole) : (s.an f).pins = s.pins := by
  unfold State.an; rfl
@[simp] theorem State.an_gdr (s : State) (f : Anole → Anole) : (s.an f).gdr = s.gdr := by
  unfold State.an; rfl
@[simp] theorem State.an_que (s : State) (f : Anole → Anole) : (s.an f).que = s.que := by
  unfold State.an; rfl
@[simp] theorem State.an_hop (s : State) (f : Anole → Anole) : (s.an f).hop = s.hop := by
  unfold State.an; rfl
@[simp] theorem State.an_gko (s : State) (f : Anole → Anole) : (s.an f).gko = s.gko := by
  unfold State.an; rfl
@[simp] theorem State.an_efl (s : State) (f : Anole → Anole) : (s.an f).efl = s.efl := by
  unfold State.an; rfl
@[simp] theorem State.an_ldr (s : State) (f : Anole → Anole) : (s.an f).ldr = s.ldr := by
  unfold State.an; rfl
@[simp] theorem State.an_pci (s : State) (f : Anole → Anole) : (s.an f).pci = s.pci := by
  unfold State.an; rfl
@[simp] theorem State.an_vbd (s : State) (f : Anole → Anole) : (s.an f).vbd = s.vbd := by
  unfold State.an; rfl
@[simp] theorem State.an_boot (s : State) (f : Anole → Anole) : (s.an f).boot = s.boot := by
  unfold State.an; rfl
@[simp] theorem State.an_pending (s : State) (f : Anole → Anole) : (s.an f).pending = s.pending := by
  unfold State.an; rfl

@[simp] theorem State.anoEvent_ponds (s : State) (i : Nat) : (s.anoEvent i).ponds = s.ponds := by
  unfold State.anoEvent; rfl
@[simp] theorem State.anoEvent_arb (s : State) (i : Nat) : (s.anoEvent i).arb = s.arb := by
  unfold State.anoEvent; rfl
@[simp] theorem State.anoEvent_pwr (s : State) (i : Nat) : (s.anoEvent i).pwr = s.pwr := by
  unfold State.anoEvent; rfl
@[simp] theorem State.anoEvent_clk (s : State) (i : Nat) : (s.anoEvent i).clk = s.clk := by
  unfold State.anoEvent; rfl
@[simp] theorem State.anoEvent_cham (s : State) (i : Nat) : (s.anoEvent i).cham = s.cham := by
  unfold State.anoEvent; rfl
@[simp] theorem State.anoEvent_fab (s : State) (i : Nat) : (s.anoEvent i).fab = s.fab := by
  unfold State.anoEvent; rfl
@[simp] theorem State.anoEvent_cfg (s : State) (i : Nat) : (s.anoEvent i).cfg = s.cfg := by
  unfold State.anoEvent; rfl
@[simp] theorem State.anoEvent_pins (s : State) (i : Nat) : (s.anoEvent i).pins = s.pins := by
  unfold State.anoEvent; rfl
@[simp] theorem State.anoEvent_gdr (s : State) (i : Nat) : (s.anoEvent i).gdr = s.gdr := by
  unfold State.anoEvent; rfl
@[simp] theorem State.anoEvent_que (s : State) (i : Nat) : (s.anoEvent i).que = s.que := by
  unfold State.anoEvent; rfl
@[simp] theorem State.anoEvent_hop (s : State) (i : Nat) : (s.anoEvent i).hop = s.hop := by
  unfold State.anoEvent; rfl
@[simp] theorem State.anoEvent_gko (s : State) (i : Nat) : (s.anoEvent i).gko = s.gko := by
  unfold State.anoEvent; rfl
@[simp] theorem State.anoEvent_efl (s : State) (i : Nat) : (s.anoEvent i).efl = s.efl := by
  unfold State.anoEvent; rfl
@[simp] theorem State.anoEvent_ldr (s : State) (i : Nat) : (s.anoEvent i).ldr = s.ldr := by
  unfold State.anoEvent; rfl
@[simp] theorem State.anoEvent_pci (s : State) (i : Nat) : (s.anoEvent i).pci = s.pci := by
  unfold State.anoEvent; rfl
@[simp] theorem State.anoEvent_ano (s : State) (i : Nat) : (s.anoEvent i).ano = s.ano := by
  unfold State.anoEvent; rfl
@[simp] theorem State.anoEvent_vbd (s : State) (i : Nat) : (s.anoEvent i).vbd = s.vbd := by
  unfold State.anoEvent; rfl
@[simp] theorem State.anoEvent_boot (s : State) (i : Nat) : (s.anoEvent i).boot = s.boot := by
  unfold State.anoEvent; rfl
@[simp] theorem State.anoEvent_pending (s : State) (i : Nat) : (s.anoEvent i).pending = s.pending := by
  unfold State.anoEvent; rfl

@[simp] theorem State.setCh_b (s : State) (t : Nat) (f : Cham → Cham) : (s.setCh t f).b = s.b := by
  unfold State.setCh; rfl
@[simp] theorem State.setCh_ponds (s : State) (t : Nat) (f : Cham → Cham) : (s.setCh t f).ponds = s.ponds := by
  unfold State.setCh; rfl
@[simp] theorem State.setCh_arb (s : State) (t : Nat) (f : Cham → Cham) : (s.setCh t f).arb = s.arb := by
  unfold State.setCh; rfl
@[simp] theorem State.setCh_pwr (s : State) (t : Nat) (f : Cham → Cham) : (s.setCh t f).pwr = s.pwr := by
  unfold State.setCh; rfl
@[simp] theorem State.setCh_clk (s : State) (t : Nat) (f : Cham → Cham) : (s.setCh t f).clk = s.clk := by
  unfold State.setCh; rfl
@[simp] theorem State.setCh_fab (s : State) (t : Nat) (f : Cham → Cham) : (s.setCh t f).fab = s.fab := by
  unfold State.setCh; rfl
@[simp] theorem State.setCh_cfg (s : State) (t : Nat) (f : Cham → Cham) : (s.setCh t f).cfg = s.cfg := by
  unfold State.setCh; rfl
@[simp] theorem State.setCh_pins (s : State) (t : Nat) (f : Cham → Cham) : (s.setCh t f).pins = s.pins := by
  unfold State.setCh; rfl
@[simp] theorem State.setCh_gdr (s : State) (t : Nat) (f : Cham → Cham) : (s.setCh t f).gdr = s.gdr := by
  unfold State.setCh; rfl
@[simp] theorem State.setCh_que (s : State) (t : Nat) (f : Cham → Cham) : (s.setCh t f).que = s.que := by
  unfold State.setCh; rfl
@[simp] theorem State.setCh_hop (s : State) (t : Nat) (f : Cham → Cham) : (s.setCh t f).hop = s.hop := by
  unfold State.setCh; rfl
@[simp] theorem State.setCh_gko (s : State) (t : Nat) (f : Cham → Cham) : (s.setCh t f).gko = s.gko := by
  unfold State.setCh; rfl
@[simp] theorem State.setCh_efl (s : State) (t : Nat) (f : Cham → Cham) : (s.setCh t f).efl = s.efl := by
  unfold State.setCh; rfl
@[simp] theorem State.setCh_ldr (s : State) (t : Nat) (f : Cham → Cham) : (s.setCh t f).ldr = s.ldr := by
  unfold State.setCh; rfl
@[simp] theorem State.setCh_pci (s : State) (t : Nat) (f : Cham → Cham) : (s.setCh t f).pci = s.pci := by
  unfold State.setCh; rfl
@[simp] theorem State.setCh_ano (s : State) (t : Nat) (f : Cham → Cham) : (s.setCh t f).ano = s.ano := by
  unfold State.setCh; rfl
@[simp] theorem State.setCh_vbd (s : State) (t : Nat) (f : Cham → Cham) : (s.setCh t f).vbd = s.vbd := by
  unfold State.setCh; rfl
@[simp] theorem State.setCh_boot (s : State) (t : Nat) (f : Cham → Cham) : (s.setCh t f).boot = s.boot := by
  unfold State.setCh; rfl
@[simp] theorem State.setCh_pending (s : State) (t : Nat) (f : Cham → Cham) : (s.setCh t f).pending = s.pending := by
  unfold State.setCh; rfl

@[simp] theorem State.setCm_ponds (s : State) (t : Nat) (f : Fld) (v : Nat) : (s.setCm t f v).ponds = s.ponds := by
  unfold State.setCm; rfl
@[simp] theorem State.setCm_arb (s : State) (t : Nat) (f : Fld) (v : Nat) : (s.setCm t f v).arb = s.arb := by
  unfold State.setCm; rfl
@[simp] theorem State.setCm_pwr (s : State) (t : Nat) (f : Fld) (v : Nat) : (s.setCm t f v).pwr = s.pwr := by
  unfold State.setCm; rfl
@[simp] theorem State.setCm_clk (s : State) (t : Nat) (f : Fld) (v : Nat) : (s.setCm t f v).clk = s.clk := by
  unfold State.setCm; rfl
@[simp] theorem State.setCm_cham (s : State) (t : Nat) (f : Fld) (v : Nat) : (s.setCm t f v).cham = s.cham := by
  unfold State.setCm; rfl
@[simp] theorem State.setCm_fab (s : State) (t : Nat) (f : Fld) (v : Nat) : (s.setCm t f v).fab = s.fab := by
  unfold State.setCm; rfl
@[simp] theorem State.setCm_cfg (s : State) (t : Nat) (f : Fld) (v : Nat) : (s.setCm t f v).cfg = s.cfg := by
  unfold State.setCm; rfl
@[simp] theorem State.setCm_pins (s : State) (t : Nat) (f : Fld) (v : Nat) : (s.setCm t f v).pins = s.pins := by
  unfold State.setCm; rfl
@[simp] theorem State.setCm_gdr (s : State) (t : Nat) (f : Fld) (v : Nat) : (s.setCm t f v).gdr = s.gdr := by
  unfold State.setCm; rfl
@[simp] theorem State.setCm_que (s : State) (t : Nat) (f : Fld) (v : Nat) : (s.setCm t f v).que = s.que := by
  unfold State.setCm; rfl
@[simp] theorem State.setCm_hop (s : State) (t : Nat) (f : Fld) (v : Nat) : (s.setCm t f v).hop = s.hop := by
  unfold State.setCm; rfl
@[simp] theorem State.setCm_gko (s : State) (t : Nat) (f : Fld) (v : Nat) : (s.setCm t f v).gko = s.gko := by
  unfold State.setCm; rfl
@[simp] theorem State.setCm_efl (s : State) (t : Nat) (f : Fld) (v : Nat) : (s.setCm t f v).efl = s.efl := by
  unfold State.setCm; rfl
@[simp] theorem State.setCm_ldr (s : State) (t : Nat) (f : Fld) (v : Nat) : (s.setCm t f v).ldr = s.ldr := by
  unfold State.setCm; rfl
@[simp] theorem State.setCm_pci (s : State) (t : Nat) (f : Fld) (v : Nat) : (s.setCm t f v).pci = s.pci := by
  unfold State.setCm; rfl
@[simp] theorem State.setCm_ano (s : State) (t : Nat) (f : Fld) (v : Nat) : (s.setCm t f v).ano = s.ano := by
  unfold State.setCm; rfl
@[simp] theorem State.setCm_vbd (s : State) (t : Nat) (f : Fld) (v : Nat) : (s.setCm t f v).vbd = s.vbd := by
  unfold State.setCm; rfl
@[simp] theorem State.setCm_boot (s : State) (t : Nat) (f : Fld) (v : Nat) : (s.setCm t f v).boot = s.boot := by
  unfold State.setCm; rfl
@[simp] theorem State.setCm_pending (s : State) (t : Nat) (f : Fld) (v : Nat) : (s.setCm t f v).pending = s.pending := by
  unfold State.setCm; rfl

@[simp] theorem State.chmEvent_ponds (s : State) (t i : Nat) : (s.chmEvent t i).ponds = s.ponds := by
  unfold State.chmEvent; rfl
@[simp] theorem State.chmEvent_arb (s : State) (t i : Nat) : (s.chmEvent t i).arb = s.arb := by
  unfold State.chmEvent; rfl
@[simp] theorem State.chmEvent_pwr (s : State) (t i : Nat) : (s.chmEvent t i).pwr = s.pwr := by
  unfold State.chmEvent; rfl
@[simp] theorem State.chmEvent_clk (s : State) (t i : Nat) : (s.chmEvent t i).clk = s.clk := by
  unfold State.chmEvent; rfl
@[simp] theorem State.chmEvent_cham (s : State) (t i : Nat) : (s.chmEvent t i).cham = s.cham := by
  unfold State.chmEvent; rfl
@[simp] theorem State.chmEvent_fab (s : State) (t i : Nat) : (s.chmEvent t i).fab = s.fab := by
  unfold State.chmEvent; rfl
@[simp] theorem State.chmEvent_cfg (s : State) (t i : Nat) : (s.chmEvent t i).cfg = s.cfg := by
  unfold State.chmEvent; rfl
@[simp] theorem State.chmEvent_pins (s : State) (t i : Nat) : (s.chmEvent t i).pins = s.pins := by
  unfold State.chmEvent; rfl
@[simp] theorem State.chmEvent_gdr (s : State) (t i : Nat) : (s.chmEvent t i).gdr = s.gdr := by
  unfold State.chmEvent; rfl
@[simp] theorem State.chmEvent_que (s : State) (t i : Nat) : (s.chmEvent t i).que = s.que := by
  unfold State.chmEvent; rfl
@[simp] theorem State.chmEvent_hop (s : State) (t i : Nat) : (s.chmEvent t i).hop = s.hop := by
  unfold State.chmEvent; rfl
@[simp] theorem State.chmEvent_gko (s : State) (t i : Nat) : (s.chmEvent t i).gko = s.gko := by
  unfold State.chmEvent; rfl
@[simp] theorem State.chmEvent_efl (s : State) (t i : Nat) : (s.chmEvent t i).efl = s.efl := by
  unfold State.chmEvent; rfl
@[simp] theorem State.chmEvent_ldr (s : State) (t i : Nat) : (s.chmEvent t i).ldr = s.ldr := by
  unfold State.chmEvent; rfl
@[simp] theorem State.chmEvent_pci (s : State) (t i : Nat) : (s.chmEvent t i).pci = s.pci := by
  unfold State.chmEvent; rfl
@[simp] theorem State.chmEvent_ano (s : State) (t i : Nat) : (s.chmEvent t i).ano = s.ano := by
  unfold State.chmEvent; rfl
@[simp] theorem State.chmEvent_vbd (s : State) (t i : Nat) : (s.chmEvent t i).vbd = s.vbd := by
  unfold State.chmEvent; rfl
@[simp] theorem State.chmEvent_boot (s : State) (t i : Nat) : (s.chmEvent t i).boot = s.boot := by
  unfold State.chmEvent; rfl
@[simp] theorem State.chmEvent_pending (s : State) (t i : Nat) : (s.chmEvent t i).pending = s.pending := by
  unfold State.chmEvent; rfl

@[simp] theorem State.eflUpd_b (s : State) (n : Nat) (f : Efl → Efl) : (s.eflUpd n f).b = s.b := by
  unfold State.eflUpd; rfl
@[simp] theorem State.eflUpd_ponds (s : State) (n : Nat) (f : Efl → Efl) : (s.eflUpd n f).ponds = s.ponds := by
  unfold State.eflUpd; rfl
@[simp] theorem State.eflUpd_arb (s : State) (n : Nat) (f : Efl → Efl) : (s.eflUpd n f).arb = s.arb := by
  unfold State.eflUpd; rfl
@[simp] theorem State.eflUpd_pwr (s : State) (n : Nat) (f : Efl → Efl) : (s.eflUpd n f).pwr = s.pwr := by
  unfold State.eflUpd; rfl
@[simp] theorem State.eflUpd_clk (s : State) (n : Nat) (f : Efl → Efl) : (s.eflUpd n f).clk = s.clk := by
  unfold State.eflUpd; rfl
@[simp] theorem State.eflUpd_cham (s : State) (n : Nat) (f : Efl → Efl) : (s.eflUpd n f).cham = s.cham := by
  unfold State.eflUpd; rfl
@[simp] theorem State.eflUpd_fab (s : State) (n : Nat) (f : Efl → Efl) : (s.eflUpd n f).fab = s.fab := by
  unfold State.eflUpd; rfl
@[simp] theorem State.eflUpd_cfg (s : State) (n : Nat) (f : Efl → Efl) : (s.eflUpd n f).cfg = s.cfg := by
  unfold State.eflUpd; rfl
@[simp] theorem State.eflUpd_pins (s : State) (n : Nat) (f : Efl → Efl) : (s.eflUpd n f).pins = s.pins := by
  unfold State.eflUpd; rfl
@[simp] theorem State.eflUpd_gdr (s : State) (n : Nat) (f : Efl → Efl) : (s.eflUpd n f).gdr = s.gdr := by
  unfold State.eflUpd; rfl
@[simp] theorem State.eflUpd_que (s : State) (n : Nat) (f : Efl → Efl) : (s.eflUpd n f).que = s.que := by
  unfold State.eflUpd; rfl
@[simp] theorem State.eflUpd_hop (s : State) (n : Nat) (f : Efl → Efl) : (s.eflUpd n f).hop = s.hop := by
  unfold State.eflUpd; rfl
@[simp] theorem State.eflUpd_gko (s : State) (n : Nat) (f : Efl → Efl) : (s.eflUpd n f).gko = s.gko := by
  unfold State.eflUpd; rfl
@[simp] theorem State.eflUpd_ldr (s : State) (n : Nat) (f : Efl → Efl) : (s.eflUpd n f).ldr = s.ldr := by
  unfold State.eflUpd; rfl
@[simp] theorem State.eflUpd_pci (s : State) (n : Nat) (f : Efl → Efl) : (s.eflUpd n f).pci = s.pci := by
  unfold State.eflUpd; rfl
@[simp] theorem State.eflUpd_ano (s : State) (n : Nat) (f : Efl → Efl) : (s.eflUpd n f).ano = s.ano := by
  unfold State.eflUpd; rfl
@[simp] theorem State.eflUpd_vbd (s : State) (n : Nat) (f : Efl → Efl) : (s.eflUpd n f).vbd = s.vbd := by
  unfold State.eflUpd; rfl
@[simp] theorem State.eflUpd_boot (s : State) (n : Nat) (f : Efl → Efl) : (s.eflUpd n f).boot = s.boot := by
  unfold State.eflUpd; rfl
@[simp] theorem State.eflUpd_pending (s : State) (n : Nat) (f : Efl → Efl) : (s.eflUpd n f).pending = s.pending := by
  unfold State.eflUpd; rfl

@[simp] theorem State.setLdr_ponds (s : State) (f : Fld) (v : Nat) : (s.setLdr f v).ponds = s.ponds := by
  unfold State.setLdr; rfl
@[simp] theorem State.setLdr_arb (s : State) (f : Fld) (v : Nat) : (s.setLdr f v).arb = s.arb := by
  unfold State.setLdr; rfl
@[simp] theorem State.setLdr_pwr (s : State) (f : Fld) (v : Nat) : (s.setLdr f v).pwr = s.pwr := by
  unfold State.setLdr; rfl
@[simp] theorem State.setLdr_clk (s : State) (f : Fld) (v : Nat) : (s.setLdr f v).clk = s.clk := by
  unfold State.setLdr; rfl
@[simp] theorem State.setLdr_cham (s : State) (f : Fld) (v : Nat) : (s.setLdr f v).cham = s.cham := by
  unfold State.setLdr; rfl
@[simp] theorem State.setLdr_fab (s : State) (f : Fld) (v : Nat) : (s.setLdr f v).fab = s.fab := by
  unfold State.setLdr; rfl
@[simp] theorem State.setLdr_cfg (s : State) (f : Fld) (v : Nat) : (s.setLdr f v).cfg = s.cfg := by
  unfold State.setLdr; rfl
@[simp] theorem State.setLdr_pins (s : State) (f : Fld) (v : Nat) : (s.setLdr f v).pins = s.pins := by
  unfold State.setLdr; rfl
@[simp] theorem State.setLdr_gdr (s : State) (f : Fld) (v : Nat) : (s.setLdr f v).gdr = s.gdr := by
  unfold State.setLdr; rfl
@[simp] theorem State.setLdr_que (s : State) (f : Fld) (v : Nat) : (s.setLdr f v).que = s.que := by
  unfold State.setLdr; rfl
@[simp] theorem State.setLdr_hop (s : State) (f : Fld) (v : Nat) : (s.setLdr f v).hop = s.hop := by
  unfold State.setLdr; rfl
@[simp] theorem State.setLdr_gko (s : State) (f : Fld) (v : Nat) : (s.setLdr f v).gko = s.gko := by
  unfold State.setLdr; rfl
@[simp] theorem State.setLdr_efl (s : State) (f : Fld) (v : Nat) : (s.setLdr f v).efl = s.efl := by
  unfold State.setLdr; rfl
@[simp] theorem State.setLdr_ldr (s : State) (f : Fld) (v : Nat) : (s.setLdr f v).ldr = s.ldr := by
  unfold State.setLdr; rfl
@[simp] theorem State.setLdr_pci (s : State) (f : Fld) (v : Nat) : (s.setLdr f v).pci = s.pci := by
  unfold State.setLdr; rfl
@[simp] theorem State.setLdr_ano (s : State) (f : Fld) (v : Nat) : (s.setLdr f v).ano = s.ano := by
  unfold State.setLdr; rfl
@[simp] theorem State.setLdr_vbd (s : State) (f : Fld) (v : Nat) : (s.setLdr f v).vbd = s.vbd := by
  unfold State.setLdr; rfl
@[simp] theorem State.setLdr_boot (s : State) (f : Fld) (v : Nat) : (s.setLdr f v).boot = s.boot := by
  unfold State.setLdr; rfl
@[simp] theorem State.setLdr_pending (s : State) (f : Fld) (v : Nat) : (s.setLdr f v).pending = s.pending := by
  unfold State.setLdr; rfl

@[simp] theorem State.ldrEvent_ponds (s : State) (i : Nat) : (s.ldrEvent i).ponds = s.ponds := by
  unfold State.ldrEvent; rfl
@[simp] theorem State.ldrEvent_arb (s : State) (i : Nat) : (s.ldrEvent i).arb = s.arb := by
  unfold State.ldrEvent; rfl
@[simp] theorem State.ldrEvent_pwr (s : State) (i : Nat) : (s.ldrEvent i).pwr = s.pwr := by
  unfold State.ldrEvent; rfl
@[simp] theorem State.ldrEvent_clk (s : State) (i : Nat) : (s.ldrEvent i).clk = s.clk := by
  unfold State.ldrEvent; rfl
@[simp] theorem State.ldrEvent_cham (s : State) (i : Nat) : (s.ldrEvent i).cham = s.cham := by
  unfold State.ldrEvent; rfl
@[simp] theorem State.ldrEvent_fab (s : State) (i : Nat) : (s.ldrEvent i).fab = s.fab := by
  unfold State.ldrEvent; rfl
@[simp] theorem State.ldrEvent_cfg (s : State) (i : Nat) : (s.ldrEvent i).cfg = s.cfg := by
  unfold State.ldrEvent; rfl
@[simp] theorem State.ldrEvent_pins (s : State) (i : Nat) : (s.ldrEvent i).pins = s.pins := by
  unfold State.ldrEvent; rfl
@[simp] theorem State.ldrEvent_gdr (s : State) (i : Nat) : (s.ldrEvent i).gdr = s.gdr := by
  unfold State.ldrEvent; rfl
@[simp] theorem State.ldrEvent_que (s : State) (i : Nat) : (s.ldrEvent i).que = s.que := by
  unfold State.ldrEvent; rfl
@[simp] theorem State.ldrEvent_hop (s : State) (i : Nat) : (s.ldrEvent i).hop = s.hop := by
  unfold State.ldrEvent; rfl
@[simp] theorem State.ldrEvent_gko (s : State) (i : Nat) : (s.ldrEvent i).gko = s.gko := by
  unfold State.ldrEvent; rfl
@[simp] theorem State.ldrEvent_efl (s : State) (i : Nat) : (s.ldrEvent i).efl = s.efl := by
  unfold State.ldrEvent; rfl
@[simp] theorem State.ldrEvent_ldr (s : State) (i : Nat) : (s.ldrEvent i).ldr = s.ldr := by
  unfold State.ldrEvent; rfl
@[simp] theorem State.ldrEvent_pci (s : State) (i : Nat) : (s.ldrEvent i).pci = s.pci := by
  unfold State.ldrEvent; rfl
@[simp] theorem State.ldrEvent_ano (s : State) (i : Nat) : (s.ldrEvent i).ano = s.ano := by
  unfold State.ldrEvent; rfl
@[simp] theorem State.ldrEvent_vbd (s : State) (i : Nat) : (s.ldrEvent i).vbd = s.vbd := by
  unfold State.ldrEvent; rfl
@[simp] theorem State.ldrEvent_boot (s : State) (i : Nat) : (s.ldrEvent i).boot = s.boot := by
  unfold State.ldrEvent; rfl
@[simp] theorem State.ldrEvent_pending (s : State) (i : Nat) : (s.ldrEvent i).pending = s.pending := by
  unfold State.ldrEvent; rfl

@[simp] theorem State.ld_b (s : State) (f : Loader → Loader) : (s.ld f).b = s.b := by
  unfold State.ld; rfl
@[simp] theorem State.ld_ponds (s : State) (f : Loader → Loader) : (s.ld f).ponds = s.ponds := by
  unfold State.ld; rfl
@[simp] theorem State.ld_arb (s : State) (f : Loader → Loader) : (s.ld f).arb = s.arb := by
  unfold State.ld; rfl
@[simp] theorem State.ld_pwr (s : State) (f : Loader → Loader) : (s.ld f).pwr = s.pwr := by
  unfold State.ld; rfl
@[simp] theorem State.ld_clk (s : State) (f : Loader → Loader) : (s.ld f).clk = s.clk := by
  unfold State.ld; rfl
@[simp] theorem State.ld_cham (s : State) (f : Loader → Loader) : (s.ld f).cham = s.cham := by
  unfold State.ld; rfl
@[simp] theorem State.ld_fab (s : State) (f : Loader → Loader) : (s.ld f).fab = s.fab := by
  unfold State.ld; rfl
@[simp] theorem State.ld_cfg (s : State) (f : Loader → Loader) : (s.ld f).cfg = s.cfg := by
  unfold State.ld; rfl
@[simp] theorem State.ld_pins (s : State) (f : Loader → Loader) : (s.ld f).pins = s.pins := by
  unfold State.ld; rfl
@[simp] theorem State.ld_gdr (s : State) (f : Loader → Loader) : (s.ld f).gdr = s.gdr := by
  unfold State.ld; rfl
@[simp] theorem State.ld_que (s : State) (f : Loader → Loader) : (s.ld f).que = s.que := by
  unfold State.ld; rfl
@[simp] theorem State.ld_hop (s : State) (f : Loader → Loader) : (s.ld f).hop = s.hop := by
  unfold State.ld; rfl
@[simp] theorem State.ld_gko (s : State) (f : Loader → Loader) : (s.ld f).gko = s.gko := by
  unfold State.ld; rfl
@[simp] theorem State.ld_efl (s : State) (f : Loader → Loader) : (s.ld f).efl = s.efl := by
  unfold State.ld; rfl
@[simp] theorem State.ld_pci (s : State) (f : Loader → Loader) : (s.ld f).pci = s.pci := by
  unfold State.ld; rfl
@[simp] theorem State.ld_ano (s : State) (f : Loader → Loader) : (s.ld f).ano = s.ano := by
  unfold State.ld; rfl
@[simp] theorem State.ld_vbd (s : State) (f : Loader → Loader) : (s.ld f).vbd = s.vbd := by
  unfold State.ld; rfl
@[simp] theorem State.ld_boot (s : State) (f : Loader → Loader) : (s.ld f).boot = s.boot := by
  unfold State.ld; rfl
@[simp] theorem State.ld_pending (s : State) (f : Loader → Loader) : (s.ld f).pending = s.pending := by
  unfold State.ld; rfl

@[simp] theorem State.applyAll_ponds (s : State) (p : Page) : (s.applyAll p).ponds = s.ponds := by
  unfold State.applyAll; rfl
@[simp] theorem State.applyAll_arb (s : State) (p : Page) : (s.applyAll p).arb = s.arb := by
  unfold State.applyAll; rfl
@[simp] theorem State.applyAll_pwr (s : State) (p : Page) : (s.applyAll p).pwr = s.pwr := by
  unfold State.applyAll; rfl
@[simp] theorem State.applyAll_clk (s : State) (p : Page) : (s.applyAll p).clk = s.clk := by
  unfold State.applyAll; rfl
@[simp] theorem State.applyAll_cham (s : State) (p : Page) : (s.applyAll p).cham = s.cham := by
  unfold State.applyAll; rfl
@[simp] theorem State.applyAll_fab (s : State) (p : Page) : (s.applyAll p).fab = s.fab := by
  unfold State.applyAll; rfl
@[simp] theorem State.applyAll_cfg (s : State) (p : Page) : (s.applyAll p).cfg = s.cfg := by
  unfold State.applyAll; rfl
@[simp] theorem State.applyAll_pins (s : State) (p : Page) : (s.applyAll p).pins = s.pins := by
  unfold State.applyAll; rfl
@[simp] theorem State.applyAll_gdr (s : State) (p : Page) : (s.applyAll p).gdr = s.gdr := by
  unfold State.applyAll; rfl
@[simp] theorem State.applyAll_que (s : State) (p : Page) : (s.applyAll p).que = s.que := by
  unfold State.applyAll; rfl
@[simp] theorem State.applyAll_hop (s : State) (p : Page) : (s.applyAll p).hop = s.hop := by
  unfold State.applyAll; rfl
@[simp] theorem State.applyAll_gko (s : State) (p : Page) : (s.applyAll p).gko = s.gko := by
  unfold State.applyAll; rfl
@[simp] theorem State.applyAll_efl (s : State) (p : Page) : (s.applyAll p).efl = s.efl := by
  unfold State.applyAll; rfl
@[simp] theorem State.applyAll_ldr (s : State) (p : Page) : (s.applyAll p).ldr = s.ldr := by
  unfold State.applyAll; rfl
@[simp] theorem State.applyAll_pci (s : State) (p : Page) : (s.applyAll p).pci = s.pci := by
  unfold State.applyAll; rfl
@[simp] theorem State.applyAll_ano (s : State) (p : Page) : (s.applyAll p).ano = s.ano := by
  unfold State.applyAll; rfl
@[simp] theorem State.applyAll_vbd (s : State) (p : Page) : (s.applyAll p).vbd = s.vbd := by
  unfold State.applyAll; rfl
@[simp] theorem State.applyAll_boot (s : State) (p : Page) : (s.applyAll p).boot = s.boot := by
  unfold State.applyAll; rfl
@[simp] theorem State.applyAll_pending (s : State) (p : Page) : (s.applyAll p).pending = s.pending := by
  unfold State.applyAll; rfl

@[simp] theorem State.blockRegs_ponds (s : State) (p : Page) : (s.blockRegs p).ponds = s.ponds := by
  unfold State.blockRegs; rfl
@[simp] theorem State.blockRegs_arb (s : State) (p : Page) : (s.blockRegs p).arb = s.arb := by
  unfold State.blockRegs; rfl
@[simp] theorem State.blockRegs_pwr (s : State) (p : Page) : (s.blockRegs p).pwr = s.pwr := by
  unfold State.blockRegs; rfl
@[simp] theorem State.blockRegs_clk (s : State) (p : Page) : (s.blockRegs p).clk = s.clk := by
  unfold State.blockRegs; rfl
@[simp] theorem State.blockRegs_cham (s : State) (p : Page) : (s.blockRegs p).cham = s.cham := by
  unfold State.blockRegs; rfl
@[simp] theorem State.blockRegs_fab (s : State) (p : Page) : (s.blockRegs p).fab = s.fab := by
  unfold State.blockRegs; rfl
@[simp] theorem State.blockRegs_cfg (s : State) (p : Page) : (s.blockRegs p).cfg = s.cfg := by
  unfold State.blockRegs; rfl
@[simp] theorem State.blockRegs_pins (s : State) (p : Page) : (s.blockRegs p).pins = s.pins := by
  unfold State.blockRegs; rfl
@[simp] theorem State.blockRegs_gdr (s : State) (p : Page) : (s.blockRegs p).gdr = s.gdr := by
  unfold State.blockRegs; rfl
@[simp] theorem State.blockRegs_que (s : State) (p : Page) : (s.blockRegs p).que = s.que := by
  unfold State.blockRegs; rfl
@[simp] theorem State.blockRegs_hop (s : State) (p : Page) : (s.blockRegs p).hop = s.hop := by
  unfold State.blockRegs; rfl
@[simp] theorem State.blockRegs_gko (s : State) (p : Page) : (s.blockRegs p).gko = s.gko := by
  unfold State.blockRegs; rfl
@[simp] theorem State.blockRegs_efl (s : State) (p : Page) : (s.blockRegs p).efl = s.efl := by
  unfold State.blockRegs; rfl
@[simp] theorem State.blockRegs_ldr (s : State) (p : Page) : (s.blockRegs p).ldr = s.ldr := by
  unfold State.blockRegs; rfl
@[simp] theorem State.blockRegs_pci (s : State) (p : Page) : (s.blockRegs p).pci = s.pci := by
  unfold State.blockRegs; rfl
@[simp] theorem State.blockRegs_ano (s : State) (p : Page) : (s.blockRegs p).ano = s.ano := by
  unfold State.blockRegs; rfl
@[simp] theorem State.blockRegs_vbd (s : State) (p : Page) : (s.blockRegs p).vbd = s.vbd := by
  unfold State.blockRegs; rfl
@[simp] theorem State.blockRegs_boot (s : State) (p : Page) : (s.blockRegs p).boot = s.boot := by
  unfold State.blockRegs; rfl
@[simp] theorem State.blockRegs_pending (s : State) (p : Page) : (s.blockRegs p).pending = s.pending := by
  unfold State.blockRegs; rfl

@[simp] theorem State.arbServe_b (s : State) (a : ArbInst) (r : Nat) : (s.arbServe a r).b = s.b := by
  unfold State.arbServe; rfl
@[simp] theorem State.arbServe_ponds (s : State) (a : ArbInst) (r : Nat) : (s.arbServe a r).ponds = s.ponds := by
  unfold State.arbServe; rfl
@[simp] theorem State.arbServe_pwr (s : State) (a : ArbInst) (r : Nat) : (s.arbServe a r).pwr = s.pwr := by
  unfold State.arbServe; rfl
@[simp] theorem State.arbServe_clk (s : State) (a : ArbInst) (r : Nat) : (s.arbServe a r).clk = s.clk := by
  unfold State.arbServe; rfl
@[simp] theorem State.arbServe_cham (s : State) (a : ArbInst) (r : Nat) : (s.arbServe a r).cham = s.cham := by
  unfold State.arbServe; rfl
@[simp] theorem State.arbServe_fab (s : State) (a : ArbInst) (r : Nat) : (s.arbServe a r).fab = s.fab := by
  unfold State.arbServe; rfl
@[simp] theorem State.arbServe_cfg (s : State) (a : ArbInst) (r : Nat) : (s.arbServe a r).cfg = s.cfg := by
  unfold State.arbServe; rfl
@[simp] theorem State.arbServe_pins (s : State) (a : ArbInst) (r : Nat) : (s.arbServe a r).pins = s.pins := by
  unfold State.arbServe; rfl
@[simp] theorem State.arbServe_gdr (s : State) (a : ArbInst) (r : Nat) : (s.arbServe a r).gdr = s.gdr := by
  unfold State.arbServe; rfl
@[simp] theorem State.arbServe_que (s : State) (a : ArbInst) (r : Nat) : (s.arbServe a r).que = s.que := by
  unfold State.arbServe; rfl
@[simp] theorem State.arbServe_hop (s : State) (a : ArbInst) (r : Nat) : (s.arbServe a r).hop = s.hop := by
  unfold State.arbServe; rfl
@[simp] theorem State.arbServe_gko (s : State) (a : ArbInst) (r : Nat) : (s.arbServe a r).gko = s.gko := by
  unfold State.arbServe; rfl
@[simp] theorem State.arbServe_efl (s : State) (a : ArbInst) (r : Nat) : (s.arbServe a r).efl = s.efl := by
  unfold State.arbServe; rfl
@[simp] theorem State.arbServe_ldr (s : State) (a : ArbInst) (r : Nat) : (s.arbServe a r).ldr = s.ldr := by
  unfold State.arbServe; rfl
@[simp] theorem State.arbServe_pci (s : State) (a : ArbInst) (r : Nat) : (s.arbServe a r).pci = s.pci := by
  unfold State.arbServe; rfl
@[simp] theorem State.arbServe_ano (s : State) (a : ArbInst) (r : Nat) : (s.arbServe a r).ano = s.ano := by
  unfold State.arbServe; rfl
@[simp] theorem State.arbServe_vbd (s : State) (a : ArbInst) (r : Nat) : (s.arbServe a r).vbd = s.vbd := by
  unfold State.arbServe; rfl
@[simp] theorem State.arbServe_boot (s : State) (a : ArbInst) (r : Nat) : (s.arbServe a r).boot = s.boot := by
  unfold State.arbServe; rfl
@[simp] theorem State.arbServe_pending (s : State) (a : ArbInst) (r : Nat) : (s.arbServe a r).pending = s.pending := by
  unfold State.arbServe; rfl

@[simp] theorem State.setSrst_b (s : State) (p : Page) (v : Bool) : (s.setSrst p v).b = s.b := by
  unfold State.setSrst; rfl
@[simp] theorem State.setSrst_ponds (s : State) (p : Page) (v : Bool) : (s.setSrst p v).ponds = s.ponds := by
  unfold State.setSrst; rfl
@[simp] theorem State.setSrst_arb (s : State) (p : Page) (v : Bool) : (s.setSrst p v).arb = s.arb := by
  unfold State.setSrst; rfl
@[simp] theorem State.setSrst_pwr (s : State) (p : Page) (v : Bool) : (s.setSrst p v).pwr = s.pwr := by
  unfold State.setSrst; rfl
@[simp] theorem State.setSrst_clk (s : State) (p : Page) (v : Bool) : (s.setSrst p v).clk = s.clk := by
  unfold State.setSrst; rfl
@[simp] theorem State.setSrst_cham (s : State) (p : Page) (v : Bool) : (s.setSrst p v).cham = s.cham := by
  unfold State.setSrst; rfl
@[simp] theorem State.setSrst_fab (s : State) (p : Page) (v : Bool) : (s.setSrst p v).fab = s.fab := by
  unfold State.setSrst; rfl
@[simp] theorem State.setSrst_cfg (s : State) (p : Page) (v : Bool) : (s.setSrst p v).cfg = s.cfg := by
  unfold State.setSrst; rfl
@[simp] theorem State.setSrst_pins (s : State) (p : Page) (v : Bool) : (s.setSrst p v).pins = s.pins := by
  unfold State.setSrst; rfl
@[simp] theorem State.setSrst_gdr (s : State) (p : Page) (v : Bool) : (s.setSrst p v).gdr = s.gdr := by
  unfold State.setSrst; rfl
@[simp] theorem State.setSrst_que (s : State) (p : Page) (v : Bool) : (s.setSrst p v).que = s.que := by
  unfold State.setSrst; rfl
@[simp] theorem State.setSrst_hop (s : State) (p : Page) (v : Bool) : (s.setSrst p v).hop = s.hop := by
  unfold State.setSrst; rfl
@[simp] theorem State.setSrst_gko (s : State) (p : Page) (v : Bool) : (s.setSrst p v).gko = s.gko := by
  unfold State.setSrst; rfl
@[simp] theorem State.setSrst_efl (s : State) (p : Page) (v : Bool) : (s.setSrst p v).efl = s.efl := by
  unfold State.setSrst; rfl
@[simp] theorem State.setSrst_ldr (s : State) (p : Page) (v : Bool) : (s.setSrst p v).ldr = s.ldr := by
  unfold State.setSrst; rfl
@[simp] theorem State.setSrst_pci (s : State) (p : Page) (v : Bool) : (s.setSrst p v).pci = s.pci := by
  unfold State.setSrst; rfl
@[simp] theorem State.setSrst_ano (s : State) (p : Page) (v : Bool) : (s.setSrst p v).ano = s.ano := by
  unfold State.setSrst; rfl
@[simp] theorem State.setSrst_vbd (s : State) (p : Page) (v : Bool) : (s.setSrst p v).vbd = s.vbd := by
  unfold State.setSrst; rfl
@[simp] theorem State.setSrst_pending (s : State) (p : Page) (v : Bool) : (s.setSrst p v).pending = s.pending := by
  unfold State.setSrst; rfl

@[simp] theorem State.an_ano (s : State) (f : Anole → Anole) : (s.an f).ano = f s.ano := rfl
@[simp] theorem State.ld_ldr (s : State) (f : Loader → Loader) : (s.ld f).ldr = f s.ldr := rfl

end Sys2Proof.Machine
end

