-- ==== Sys2Proof/WellFormed.lean ====
section
/-! DEFINITION. Which commands the spec lets happen, as far as their operands alone decide it. A command that is not well formed
still has an outcome; statements that need its operands in range say so. -/
namespace Sys2Proof

/-- Do privilege and context tag fit an initiator ID, as far as the ID alone says (05 R107, 14 R281, R282): PRIV for PF0, Anole, the
loader, the molt engines and the scrubbers alone, with CTX 0; the function's context for PF1 to PF8 and their VFs? -/
def tagWf (src : Nat) (priv : Bool) (ctx : Nat) : Bool :=
  (priv == (src == 776 || (decide (1008 ≤ src) && decide (src < 1018)))) && (!priv || ctx == 0) &&
    (!(decide (512 ≤ src) && decide (src < 768)) || ctx == (src - 512) / 32) &&
    (!(decide (777 ≤ src) && decide (src < 785)) || ctx == src - 777)

/-- A request flit whose tag fits its initiator. -/
def HopReq.wf (r : HopReq) : Bool := tagWf r.src r.priv r.ctx

/-- A doorbell operation whose tag fits its initiator. -/
def Who.wf (w : Who) : Bool := tagWf w.src w.priv w.ctx

/-- One sample names each tower and each sensor at most once (21 R425, R432). -/
def sampleWf (pw : List PowerRep) (rd : List SensorRead) : Bool :=
  decide ((pw.map fun r => r.tower).Nodup) && decide ((rd.map fun r => (r.tower, r.sensor)).Nodup)

/-- A group index that R472 gives a group: 0 to 0xA32F. -/
def bondGroup (g : Fin 65536) : Bool := decide (g.val < 0xA330)

/-- Groups that failed a test, each a group and each once (23 R472, R479). -/
def failsWf (l : List (Tower × Fin 65536 × BitVec 68)) : Bool :=
  l.all (fun x => bondGroup x.2.1) && decide ((l.map fun x => (x.1, x.2.1)).Nodup)

/-- Boundary cells, each once (25 R509). -/
def cellsWf (l : List (Fin 192 × Bool × Bool)) : Bool := decide ((l.map Prod.fst).Nodup)

/-- Link speeds 1 to 6 and widths 1, 4, 8, 16 (18 R366, R367). -/
def linkWf (speed : Fin 8) (width : Fin 17) : Bool :=
  decide (1 ≤ speed.val) && decide (speed.val ≤ 6) && (width == 1 || width == 4 || width == 8 || width == 16)

/-- Is a command well formed? -/
def Instr.wf : Instr → Bool
  | .push _ w items _ => w.wf && decide (items.length ≤ 4)
  | .pop _ w | .popSt _ w | .status _ w | .mark _ w | .rewind _ w | .release _ w _ | .clear _ w => w.wf
  | .rd r _ | .wr r _ | .cfgRd r _ | .cfgWr r _ | .efmelOutbound r _ | .geckoMemoryRequest r _ => r.wf
  | .pondPortRequest _ _ (some r) => r.wf
  | .memWriteTlp _ _ _ bytes _ _ _ _ => decide (bytes.length ≤ 512)
  | .linkUp _ speed width => linkWf speed width
  | .sensorSample ps cs => sampleWf ps cs
  | .watchAdvance _ g | .watchDisagree _ g _ | .bondTest _ g _ => bondGroup g
  | .testDone fails | .warmRelease fails => failsWf fails
  | .extest cells | .samplePreload cells | .extestPulse cells | .extestTrain cells => cellsWf cells
  | .bypass op => decide (6 < op.toNat)
  | _ => true

end Sys2Proof
end

