-- ==== Sys2Proof/Tests/Slice0.lean ====
section
/-! SUPPORT. The model's own tests: ill-formed commands that the check refuses, for every statement a state and operands that meet the
hypotheses of its clauses, and commands whose results the spec gives. -/
namespace Sys2Proof.Tests
open Sys2Proof.Machine

set_option Elab.async false

/-- The state after reset with some register fields set. -/
def slate (l : List (Page × Fld × Nat)) : State :=
  { State.reset with b := l.foldl (fun b e => b.setFld e.1 e.2.1 e.2.2) Base.reset }

/-- What `f` reads of the state that command `c` leads to from `s`. -/
def after {α : Type} (c : Instr) (s : State) (f : State → α) : Option α :=
  match exec c s with
  | .next t => some (f t)
  | .fault _ | .refused _ => none

/-- `s` with some shadow fields set. -/
def shSet (s : State) (l : List (Page × Fld × Nat)) : State :=
  { s with b := l.foldl (fun b e => b.setShFld e.1 e.2.1 e.2.2) s.b }

/-- `s` with the state of tower `t`'s chameleon. -/
def cham1 (s : State) (t : Nat) (x : Cham) : State := { s with cham := [(t, x)] }

/-- `s` with a request outstanding. -/
def ask (s : State) (r : HopReq) (write : Bool) : State :=
  { s with hop := { s.hop with tags := [(tagKey r.src r.tag, some ⟨write, r, 0, false, false, 0, false, false, false⟩)] } }

/-- A request of Anole to an address. -/
def anoleReq (a : BitVec 48) : HopReq := ⟨1008, true, 0, 0, 5, a, 4, false, 0, 0x77, false, false⟩

/-- A flit that nothing happens to on its way. -/
def calm : Wire := ⟨false, 0, false, 0, 0, false⟩

/-- `s` with the truth tables of efts 0 to 3 of the request tap of tower 3 all ones where `v` has a bit (05 R95). -/
def reqHigh (s : State) (v : BitVec 4096) : State :=
  { s with cfg := { s.cfg with front := if v = 0 then [] else (List.range 16).map fun b => (planeKey 3 0 b, v) } }

/-- A header: a NEW image of contexts `cs` for marsh 0 of tower 3, signed with the owner's key. -/
def hdrOf (cs segs total : Nat) : ImgHdr := ⟨0, cs, true, 1, 5, segs, total, 0, [], [], [0, 0, 0, 0x1000000], none⟩

/-- Every GDDR6 controller is initialised. -/
def gdUp : List (Page × Fld × Nat) := (List.finRange 16).map fun g => (.gd g, GD.STAT_INIT_DONE, 1)

/-- `s` with one queue. -/
def que1 (s : State) (q : Nat) (x : Queue) : State := { s with que := [(q, x)] }

/-- A sender in context 5. -/
def me : Who := ⟨782, false, 5, 0, 9⟩

/-- A header, manifest and keys of zeros, with the SHA-384 of the header and of no segment table as its manifest (07 R151; FIPS 180-4). -/
def zeroImg : List Byte := List.replicate 256 0 ++ [0x98, 0x39, 0x80, 0x37, 0x32, 0x13, 0x48, 0x2D, 0xD5, 0xC9, 0xA5, 0xA4, 0x24, 0xDB, 0x89, 0x41,
  0x8E, 0x33, 0x44, 0xC4, 0x59, 0xFA, 0x31, 0xA3, 0x56, 0xE4, 0x2E, 0xAA, 0x28, 0x54, 0x4C, 0xA0,
  0x1B, 0x98, 0x39, 0xF6, 0x59, 0x3C, 0x9E, 0x5D, 0x79, 0xFD, 0x43, 0x9B, 0x5D, 0xA6, 0xEB, 0xEF] ++ List.replicate 3376 0

/-- What an evaluation failed with. -/
def failure {ε α : Type} : Except ε α → Option ε
  | .error e => some e
  | .ok _ => none

/-- `s` with these fuses. -/
def fused (s : State) (f : Fuse) : State := { s with b := { s.b with fuse := f } }

/-- `s` with some register words set. -/
def poke (s : State) (l : List (Nat × Word)) : State := { s with b := l.foldl (fun b e => b.setWord e.1 e.2) s.b }

/-- Gecko 127 as `k`, running on running clocks, with some register fields set. -/
def gk1 (k : Gecko) (l : List (Page × Fld × Nat)) : State :=
  { slate ([(.ckr, CKR.STAT_LOCK, 1), (.gkc 127, GKC.STAT_RUN, rRUNNING)] ++ l) with gko := ⟨[], [(127, k)]⟩ }

/-- A gecko whose S1 holds `v`. -/
def s1 (v : Word) : Gecko := { Gecko.init with s := [(1, v)] }

/-- The address form S1 + 0. -/
def atS1 : AddrForm := .sreg 1 0

/-- A row whose poison pattern is stored (09 R191). -/
def poisonRow : BitVec 416 := rowSetCode 0 0 poisonCode

/-- May gecko `g` reach a cell at once, as a test. -/
def openB (s : State) (g : Nat) (own : Bool) : GCell → Bool
  | .word _ => true
  | .row pad _ => padAdmits s.b g pad && !s.ponds.held (pad / 32) (pad % 32)
  | .half l _ => (s.gko.at g).ready (l, own) && !s.b.bit (gkPage g) GKC.LCTRL_BUSY

theorem cellOpen_of_openB {s : State} {g : Nat} {own : Bool} {l : List GCell} (h : l.all (openB s g own) = true) :
    ∀ c ∈ l, s.cellOpen g own c := by
  intro c hc
  have h1 := List.all_eq_true.mp h c hc
  cases c with
  | word => trivial
  | row => simpa [openB, State.cellOpen] using h1
  | half => simpa [openB, State.cellOpen] using h1

/-- GDDR6 controller 0 answers, and region 0 admits context 0 to its first two pages of address. -/
def gd0Open : List (Page × Fld × Nat) :=
  [(.ckr, CKR.STAT_LOCK, 1), (.gd 0, GD.RATE_CUR, 1), (.enc 0, ENCT.RG_CTRL_EN, 1), (.enc 0, ENCT.RG_CTRL_MASK, 1), (.enc 0, ENCT.RG_LIMIT_LIMIT, 1)]

/-- The bound context of gecko 127 reaches every pad of its pond. -/
def pad0Open : List (Page × Fld × Nat) := (List.range 32).map fun n => (.pnd 127, PND.BMASK_CTX.nth n, 1)

/-- Event input 3 of gecko 127 is high: an event of tower 0's chameleon is routed to it (02 R33, R34). -/
def line3 : List (Nat × Word) := [(pbase (.chm 0) + 0x14, 1), (pbase (.chm 0) + 0x18, 1), (routeAddr 14 0, 0x4000000), (routeAddr 14 1, 511)]

/-- Gecko 127 as `k`, stopped, with some register fields set. -/
def gkStop (k : Gecko) (l : List (Page × Fld × Nat)) : State := { slate l with gko := ⟨[], [(127, k)]⟩ }

/-- `s` with these functions. -/
def funs (s : State) (l : List (Nat × FnState)) : State := { s with b := { s.b with fns := l } }

/-- A function that is ready, with Memory Space Enable and Bus Master Enable set. -/
def live : FnState := ⟨true, false, true, true, false, false, false⟩

/-- `s` with Efmel port 7 as `x`, with descrambling off. -/
def efl7 (x : Efl) (l : List (Page × Fld × Nat)) : State := { slate l with efl := [(7, x)] }

/-- A cell with its CRC field filled in (19 R390). -/
def crcd (c : BitVec 640) : BitVec 640 := c ||| BitVec.ofNat 640 (cellCrc c <<< 48)

/-- A PACKET cell of kind `kind` with SEQ 1023 and these payload units (19 R390, R392). -/
def packet (kind : Nat) (us : List Nat) : BitVec 640 :=
  crcd (BitVec.ofNat 640 ((us.foldr (fun u a => u + a * 2 ^ 64) 0) * 2 ^ 64 + 1 + 4 * kind + 1023 * 32))

/-- A port that expects SEQ 1023 and neither scrambles nor owes anything. -/
def port1023 : Efl := { Efl.init with scr := false, expSeq := 1023, credits := 128 }
/-- `s` with the window of BAR 4 of PF0 at 64 MiB (18 R372). -/
def win (s : State) : State := { s with b := { s.b with lat := [(pbase .pci + 0x64, 26)] } }

/-- A write of a payload to frame 0 of marsh 0 of tower 3 in context 7. -/
def payW : LinkWrite := ⟨1, none, [frameAddr 3 0 7 0], false, 0, true⟩

/-- The zero fill of a tower. -/
def zeroW : LinkWrite := ⟨0, none, [], true, 0, true⟩

/-- What RFC 3394, 4.6 gives for its 256 bits of key data under its 256-bit key. -/
def rfc3394 : List Byte := [0x28, 0xC9, 0xF4, 0x04, 0xC4, 0xB8, 0x10, 0xF4, 0xCB, 0xCC, 0xB3, 0x5C, 0xFB, 0x87, 0xF8, 0x26,
  0x3F, 0x57, 0x86, 0xE2, 0xD8, 0x0E, 0xD3, 0x26, 0xCB, 0xC7, 0xF0, 0xE7, 0x1A, 0x99, 0xF4, 0x3B, 0xFB, 0x98, 0x8B, 0x9B, 0x7A, 0x02, 0xDD, 0x21]

/-- The image of zeros with header `h`, whole, before its signature step, on a part with its owner's keys, the key of RFC 3394, 4.6
in the image-key slot and the rollback counter at 6. -/
def enrolledLoad (h : ImgHdr) : State :=
  (fused (slate [(.ldr, LDR.STATE_PHASE, 2)]) { State.reset.b.fuse with
    enrolled := true, cfgCtr := 6, ownIkey := true, ikey := 0x000102030405060708090A0B0C0D0E0F101112131415161718191A1B1C1D1E1F }).ld fun l =>
    { l with img := zeroImg, rcvd := 3680, hdr := some h }

/-- Pond port 23 of pond 127 is enabled and its signals read `v`, from the INIT bits of its marsh's efts; some register fields are set. -/
def pondSig (v : Nat) (l : List (Page × Fld × Nat)) : State :=
  { slate ([(.ckr, CKR.STAT_LOCK, 1), (.hop 3, HOP.PPCLK_EN1.nth 383, 1), (.clk 3, CLK.GCLK_CFG_EN, 1), (.pnd 127, PND.OWN_OWNER.nth 248, 31)] ++ l) with
    cfg := { State.reset.cfg with front := [(planeKey 3 383 272, BitVec.ofNat 4096 v)] } }

/-- What port 23 samples. -/
def sampled23 (s : State) : List PondReq :=
  ((List.finRange 24).filter fun (i : Fin 24) => (0x800000 : BitVec 24).getLsbD i && s.portSampled 127 i).filterMap (s.pondSample 127)

/-- A read of block 4,095 of pad 31, and a write of the whole of it, as their signals. -/
def askRead : Nat := 2 ^ 593 + 31 * 2 ^ 588 + 4095 * 2 ^ 576
def askWrite : Nat := 2 ^ 594 + 31 * 2 ^ 588 + 4095 * 2 ^ 576 + (2 ^ 64 - 1) * 2 ^ 512

/-- The state in which a request is judged at its target's stop, where its way needs no grant or has one. -/
def arrivedAt (s : State) (r : HopReq) (wr : Bool) (w : Wire) : Option State :=
  (s.hasGrant r (s.reqEpoch r wr)).map fun v =>
    State.wired ((if (v.hop.sent r wr).isNone then v.inject r wr false else v).arrived r wr w.uc) w (v.arrivalTower r) 0 r.src r.addr.toNat

/-- Anole's read arrives in a state of which `f` holds. -/
def arrives (s : State) (a : BitVec 48) (f : State → HopReq → Bool) : Prop :=
  s.mayArrive (anoleReq a) false = true ∧ ((arrivedAt s (anoleReq a) false calm).map fun u => f u (anoleReq a)) = some true

/-- The way of a request of Anole to stop `st` is open. -/
def open1 (u : State) (r : HopReq) (st : Nat) : Bool :=
  targetStop (u.b.gmode (u.b.srcTower r.src)) r.addr.toNat == some st && oneBlock r &&
    u.reach (u.b.srcTower r.src) (srcLevel r.src) (st / 256) (st / 64 % 4) (u.reqEpoch r false) &&
    (u.levelAsleep (u.b.srcTower r.src) (srcLevel r.src) st).isNone && u.flows r false ((u.b.srcStop r.src).getD 0) st false

/-- `s` with one word of the HOP map of level `l` of tower `t`, copy 0. -/
def map1 (s : State) (t l off : Nat) (v : Word) : State := { s with hop := { s.hop with maps := [((6 * t + 2 * l) * 65536 + off, v)] } }

/-- A request of Anole held at stop `dst` for a domain to wake. -/
def heldAt (d : SleepDomain) (dst : Nat) (a : BitVec 48) (going : List HopLink) : HeldReq := ⟨d, false, reqFlits (anoleReq a) false dst false false, going⟩

/-- Fabric hop port 63 of tower 3 is enabled and drives its input signals `ones` high; some register fields are set. -/
def hopSig (ones : List Nat) (l : List (Page × Fld × Nat)) : State :=
  { slate ([(.ckr, CKR.STAT_LOCK, 1), (.hop 3, HOP.FHP_CLK_EN1.nth 31, 1), (.clk 3, CLK.GCLK_CFG_EN, 1)] ++ l) with
    cfg := { State.reset.cfg with front := (List.range 44).filterMap fun j =>
      let v := (ones.flatMap fun i => (List.range 6).map fun b => (i, 603 + 6 * (i % 16) + b)).foldl
        (fun a e => if e.2 / 16 = j then a + 2 ^ ((e.1 / 16 + 224) * 16 + e.2 % 16) else a) 0
      if v = 0 then none else some (planeKey 3 383 (385 + j), BitVec.ofNat 4096 v) } }

/-- What port 63 samples. -/
def sampled63 (s : State) : Nat := sampleBits 361 s.b.free (s.hopIn 3 63)

theorem flows_of_no_credit {h : Hop} {l : List HopLink} {k : HopLink} (hk : k ∈ l) (h0 : h.credits k = 0) : h.flows l = false := by
  cases l with
  | nil => cases hk
  | cons x l =>
    rw [Hop.flows, Bool.and_eq_false_iff]
    rcases List.mem_cons.mp hk with rfl | hk
    · left; simp [h0]
    · right; simp only [List.all_eq_false]; exact ⟨k, hk, by simp [h0]⟩

/-- The buffer of the package ring from tower 0 to tower 1. -/
def pkgBuf : HopLink := ⟨0, 3, 1, false, 0, 0⟩

/-- That buffer is full of flits that go round for a sleeping target. -/
def pkgFull : State :=
  { slate [] with hop := { State.reset.hop with heldFlits := [heldAt (.gecko 0) 0 0 (List.replicate (Config.hopSpare + 2) pkgBuf)] } }

theorem pkgBuf_on_way : pkgBuf ∈ pkgFull.way 0x89 0x140 0 0 false := by
  unfold State.way
  refine List.mem_flatMap.mpr ⟨⟨0, 3, 0, 1, false⟩, ?_, by decide⟩
  unfold State.route
  simp only [show ¬ (0x89 / 256 = 0x140 / 256) by decide, if_false, show viaTower (0x89 / 256) (0x140 / 256) = none by decide]
  refine List.mem_append_left _ (List.mem_append_right _ (List.mem_singleton.mpr ?_))
  decide +kernel

theorem pkgBuf_full : pkgFull.hop.credits pkgBuf = 0 := by
  unfold Hop.credits Hop.inBuffer
  simp [pkgFull, heldAt]

theorem no_flow : pkgFull.mayArrive (anoleReq 0x30001000000) false = true ∧ targetStop false 0x30001000000 = some 0x140 ∧
    pkgFull.flows (anoleReq 0x30001000000) false 0x89 0x140 false = false := by
  refine ⟨by decide +kernel, by decide +kernel, ?_⟩
  unfold State.flows
  rw [Bool.or_eq_false_iff, show b2n false = 0 from rfl, flows_of_no_credit pkgBuf_on_way pkgBuf_full]
  refine ⟨?_, rfl⟩
  show (List.replicate (Config.hopSpare + 2) pkgBuf).isEmpty.and true = false
  rfl

/-- Gecko 127 has the fill `f` of line 1 outstanding, and its read comes to its home, in a state of which `p` holds. -/
def lineAsked (z : State) (f : Fill) (p : State → State → HopReq → Bool) : Prop :=
  let s : State := { z with gko := { z.gko with g := z.gko.g ++ [(127, { Gecko.init with fills := [f] })] } }
  let r := lineReq s.b 127 1 (s.hop.newTag (256 + 127))
  ((s.gko.at 127).fills.find? fun x => x.line == 1 && x.own == f.own && x.ans.isNone) = some f ∧ f.tag = none ∧
    (gdMap (s.b.gmode (127 / 32)) r.addr.toNat).1 = 0 ∧
    p s (((s.inject r false true).wired calm (0 / 4) 0 r.src r.addr.toNat).wakeLevels (127 / 32) 1 (0 / 4) 2) r = true

theorem eflCands_none : eflCands 0 7 0xFFFF = [] := by
  unfold eflCands
  rw [show ((eflWidths.filter fun w => nbit 7 w.1 && (0xFFFF % 2 ^ w.2 == 2 ^ w.2 - 1)).flatMap fun w =>
    (eflRates.filter fun r => nbit 0 r.1).map fun r => (w.2, r)) = [] from by decide]
  simp

theorem eflCands_one : eflCands 8 4 0xFFFF = [(16, 3)] := by
  unfold eflCands
  rw [show ((eflWidths.filter fun w => nbit 4 w.1 && (0xFFFF % 2 ^ w.2 == 2 ^ w.2 - 1)).flatMap fun w =>
    (eflRates.filter fun r => nbit 8 r.1).map fun r => (w.2, r)) = [(16, 3, 40)] from by decide]
  simp
/-- A command of opcode `op` for Anole, not served yet (22 R445). -/
def mb (op : Nat) (a0 a1 : Word) (len : Nat) : MbCmd := ⟨false, op, a0, a1, List.replicate len 0, none⟩

/-- Anole 0 runs, ready, with one command waiting and session 1 of port 0 open, and some register fields set. -/
def asked (c : MbCmd) (l : List (Page × Fld × Nat)) : State :=
  { slate ((.ano, ANO.STAT_READY, 1) :: l) with ano := { State.reset.ano with run := 1, cmds := [c], sessions := [1] } }

/-- `s` on an -OP part. -/
def opPart (s : State) : State := { s with b := { s.b with part := { s.b.part with op := true } } }

/-- `s` with targets whose last VERIFY passed. -/
def passed (s : State) (v : BitVec 3) : State := { s with ano := { s.ano with verified := v } }

/-- 06 R123: one wrong check bit is found and corrected. -/
theorem corrected_check_bit : (frameDecode 2 ⟨0, 1⟩).map (·.n) = some 1 := by decide +kernel


/-- A fabric in which one clutch is configured: truth tables of ones, clock 0, its marsh's logic live. -/
def oneClutch : State := reqHigh (slate [(.ckr, CKR.STAT_LOCK, 1), (.cfg 3, CFG.WE_CTX, 1), (.clk 3, CLK.GCLK_CFG_EN, 1)]) 1

/-- Where no bank is driven and no pin has a level, pins settle as they are. -/
theorem settlePins_of_idle {s : State} (h : ∀ k, k < 12 → s.bankDriven k = false ∧ ∀ j, j < 16 → s.pinLevel k j = none) : s.settlePins = s := by
  have inner : ∀ (k : Nat) (l : List Nat), k < 12 → (∀ j ∈ l, j < 16) →
      l.foldl (fun s j => (if s.bankDriven k then s.drivePin k j else s).notePin k j) s = s := by
    intro k l hk hl
    induction l with
    | nil => rfl
    | cons j l ih =>
      have hj := (h k hk).2 j (hl j (by simp))
      have e : (if s.bankDriven k then s.drivePin k j else s).notePin k j = s := by
        rw [(h k hk).1, if_neg (by simp)]; unfold State.notePin; rw [hj]
      rw [List.foldl_cons, e]
      exact ih fun i hi => hl i (List.mem_cons_of_mem _ hi)
  have outer : ∀ l : List Nat, (∀ k ∈ l, k < 12) → l.foldl (fun s k => (List.range 16).foldl (fun s j =>
      (if s.bankDriven k then s.drivePin k j else s).notePin k j) s) s = s := by
    intro l hl
    induction l with
    | nil => rfl
    | cons k l ih =>
      rw [List.foldl_cons, inner k _ (hl k (by simp)) (fun j hj => List.mem_range.mp hj)]
      exact ih fun i hi => hl i (List.mem_cons_of_mem _ hi)
  exact outer _ fun k hk => List.mem_range.mp hk

/-- That fabric is settled. -/
theorem oneClutch_settled : oneClutch.settle = oneClutch := by
  unfold State.settle; dsimp only
  rw [show State.settleLl oneClutch.cfg.clutches (64 + 32 * oneClutch.cfg.clutches.length)
    (State.restSr oneClutch.cfg.clutches (oneClutch.drawSr oneClutch.cfg.clutches)) = oneClutch from by decide +kernel]
  exact settlePins_of_idle (by decide +kernel)


/-- A molt from key slot 0 to slot 1 of region 0 runs; line 0 of controller 0 is sealed under slot 0's key. -/
def moltState : State :=
  let t := slate [(.ckr, CKR.STAT_LOCK, 1), (.gd 0, GD.RATE_CUR, 12), (.molt 0, MOLT.STAT_BUSY, 1), (.molt 0, MOLT.STAT_OP, 1), (.molt 0, MOLT.STAT_KEY_B, 1), (.enc 0, ENCT.RG_CTRL_EN, 1), (.enc 0, ENCT.RG_CTRL_MODE, 1), (.enc 0, ENCT.RG_LIMIT_LIMIT, 15), (.enc 0, ENCT.KS_STAT_STATE, 1), (.enc 0, ENCT.KS_STAT_STATE.nth 1, 1)]
  { t with gdr := { t.gdr with keys := [(0, some (.imp 0 0)), (1, some (.imp 0 1))], ctrFresh := [(0, true)], lines := [(lineKey 0 0, gdSeal 0 (lineTag 0 0 0 0 0) 0)] } }
/-- The state in which a line is read: one of the two counters of the counter cache has counted (17 R347). -/
def ctrCounted (b : Base) (c : Nat) (hit : Bool) : Base :=
  ((b.addFld (encPage c) ENC.CTR_HIT (b2n hit)).addFld (encPage c) ENC.CTR_MISS (b2n !hit)).bump

theorem moltRead_of_untouched {b : Base} {g : Gdr} {c n a : Nat} {q : Region} {key : KeySrc} (hk : slotKey b g q.key = some key)
    (hl : g.isLost c (n / 64) = false) (h : ∀ hit, ctrUntouched (ctrCounted b c hit) g c ((ctrCounted b c hit).ctrLine c (n / 64)) = true) :
    ∃ hit, moltRead b g c n a q = encReadLine (ctrCounted b c hit) g c n ⟨q.mode, key, 0⟩ ⟨a, none, none⟩ q.no 1 := by
  refine ⟨Config.freeBits 1 b.free == 1, ?_⟩
  have h1 := h (Config.freeBits 1 b.free == 1)
  unfold ctrCounted at h1 ⊢
  unfold moltRead guardStored fetchMajor
  simp only [hk, hl, h1]
  rfl

theorem moltState_reads : (moltRead moltState.b moltState.gdr 0 0 0 (regionOf (moltState.b.fld encHome) 0)).2.2.2 = false ∧
    (let x := moltRead moltState.b moltState.gdr 0 0 0 (regionOf (moltState.b.fld encHome) 0); slotKey x.1 x.2.1 1 = some (.imp 0 1)) := by
  obtain ⟨hit, h⟩ := moltRead_of_untouched (b := moltState.b) (g := moltState.gdr) (c := 0) (n := 0) (a := 0) (q := regionOf (moltState.b.fld encHome) 0)
    (key := .imp 0 0) (by decide +kernel) (by decide +kernel) (by decide +kernel)
  rw [h]
  clear h
  revert hit
  decide +kernel

/-! ### Ill-formed commands are refused -/

theorem test_wf_who : (Instr.pop 0 ⟨776, true, 1, 0, 0⟩).wf = false ∧ (Instr.pop 0 ⟨776, true, 0, 0, 0⟩).wf = true ∧ (Instr.pop 0 ⟨0, true, 0, 0, 0⟩).wf = false := by decide
theorem test_wf_push : (Instr.push 0 ⟨0, false, 1, 0, 0⟩ [1, 2, 3, 4, 5] false).wf = false ∧
    (Instr.push 0 ⟨0, false, 1, 0, 0⟩ [1, 2, 3, 4] false).wf = true := by decide
theorem test_wf_request : (Instr.rd ⟨777, false, 1, 0, 0, 0, 8, false, 0, 0, false, false⟩ calm).wf = false ∧
    (Instr.pondPortRequest 0 1 (some ⟨512, false, 1, 0, 0, 0, 8, false, 0, 0, false, false⟩)).wf = false := by decide
theorem test_wf_tlp : (Instr.memWriteTlp 0 0 0 (List.replicate 513 none) false false none []).wf = false ∧
    (Instr.memWriteTlp 0 0 0 [] false false none []).wf = true := by decide +kernel
theorem test_wf_link : (Instr.linkUp false 0 1).wf = false ∧ (Instr.linkUp false 7 1).wf = false ∧ (Instr.linkUp false 1 2).wf = false ∧
    (Instr.linkUp false 6 16).wf = true := by decide
theorem test_wf_group : (Instr.watchAdvance 0 0xA330).wf = false ∧ (Instr.watchDisagree 0 0xA330 0).wf = false ∧
    (Instr.bondTest 0 0xA330 0).wf = false ∧ (Instr.watchAdvance 0 0xA32F).wf = true := by decide
theorem test_wf_fails : (Instr.testDone [(0, 0xA330, 0)]).wf = false ∧ (Instr.testDone [(0, 1, 0), (0, 1, 1)]).wf = false ∧
    (Instr.warmRelease [(0, 1, 0), (1, 1, 1)]).wf = true := by decide
theorem test_wf_cells : (Instr.extest [(3, true, true), (3, false, true)]).wf = false ∧ (Instr.samplePreload [(3, true, true)]).wf = true := by decide
theorem test_wf_bypass : (Instr.bypass 6).wf = false ∧ (Instr.bypass 7).wf = true := by decide

/-! ### Every statement's hypotheses are met -/

theorem witness_StepPerformsFrontCommand : ({ State.reset with pending := [.nmeStatClear 0] } : State).pending = .nmeStatClear 0 :: [] := by decide

/-- A state in which one queue is bound, with one entry in it. -/
def oneEntry : State := que1 (slate []) 7 { Queue.init with len := 1, writeD := 1 }

theorem witness_StepKeepsInvariant : oneEntry.Inv ∧ ∃ t, Machine.step oneEntry = .next t := by
  refine ⟨⟨by unfold State.canonical; decide +kernel, fun q => ?_⟩, _, rfl⟩
  show (SMap.get (fun _ => Queue.init) [(7, { Queue.init with len := 1, writeD := 1 })] q).ordered
  unfold SMap.get
  split
  · unfold Queue.ordered; decide
  · rw [show (if q < 7 then Queue.init else SMap.get (fun _ => Queue.init) [] q) = Queue.init from ite_self _]
    unfold Queue.ordered; decide
theorem witness_IdleStepAdvancesTime :
    (let s := State.reset; s.pending = [] ∧ s.b.gated = true ∧ s.b.decSeen = []) ∧
    (let s := slate [(.ckr, CKR.STAT_LOCK, 1)]; s.pending = [] ∧ s.b.gated = false) ∧
    (let s : State := { State.reset with b := { Base.reset with aonUs := 999 } }; s.pending = [] ∧ s.b.decSeen = [] ∧
      s.b.fld .pkg PKG.RST_STAT_STAGE = 0 ∧ 1000 ≤ s.b.aonUs + 1) ∧
    (let s := slate []; s.mayRest (.gkc 0) = false ∧ s.b.commitPend (.gkc 0) = false) ∧
    (let s := slate [(.vbd 3, HDR.BLK_STAT_COMMIT_PEND, 1)]; s.b.commitPend (.vbd 3) = true) ∧
    (let s := slate [(.vbd 3, HDR.BLK_CTRL_SLEEP_PERMIT, 0)]; s.b.bit (.vbd 3) HDR.BLK_CTRL_SLEEP_PERMIT = false) ∧
    (let s := slate [(.vbd 3, HDR.BLK_CTRL_SLEEP_PERMIT, 1), (.vbd 3, HDR.BLK_STAT_STATE, stActive)]; s.mayRest (.vbd 3) = true ∧
      s.b.commitPend (.vbd 3) = false ∧ s.b.bit (.vbd 3) HDR.BLK_CTRL_SLEEP_PERMIT = true ∧ s.b.fld (.vbd 3) HDR.BLK_STAT_STATE = stActive) ∧
    (let s := slate [(.vbd 3, HDR.BLK_STAT_STATE, stAsleep)]; s.b.fld (.vbd 3) HDR.BLK_STAT_STATE ≠ stActive) :=
  ⟨by decide,
    by decide,
    by decide,
    by decide,
    by decide,
    by decide,
    by decide,
    by decide⟩
theorem witness_CommandsKeepTheQueue :
    (exec (.drainComplete .pkg) State.reset = .next State.reset) ∧
    (let s := slate [(.ckr, CKR.STAT_REF, 3)]; rowPage (.cmdSwap 3) = some (.chm 3) ∧ ¬ s.admits (.chm 3)) ∧
    (let s := slate [(.gkc 127, HDR.BLK_STAT_STATE, stResetting)]; rowPage (.geckoZero 127) = some (.gkc 127) ∧ ¬ s.admits (.gkc 127)) :=
  ⟨by rfl,
    by unfold State.admits; decide,
    by unfold State.admits; decide⟩
theorem witness_EnableDrainAndBlockReset :
    (let s := slate []; s.admits .evr ∧ (s.maWake .evr).b.enabled .evr = true) ∧
    (let s := slate [(.gd 15, HDR.BLK_CTRL_EN, 0)]; s.admits (.gd 15) ∧ (s.maWake (.gd 15)).b.enabled (.gd 15) ≠ true ∧ (s.maWake (.gd 15)).b.gdEnRefused 15 = false) ∧
    (let s := slate [(.hop 0, HOP.MAPCTL_GMODE, 0), (.gd 3, HDR.BLK_CTRL_EN, 0)]; s.admits (.gd 3) ∧ s.b.enabled (.gd 3) = false ∧ (s.maWake (.gd 3)).b.gdEnRefused 3 = true) ∧
    (let s := slate [(.hst 3, HDR.BLK_STAT_STATE, 3)]; s.b.fld (.hst 3) HDR.BLK_STAT_STATE = stDraining ∧ s.drained (.hst 3) = true) ∧
    (let s := slate []; s.b.fld .pkg HDR.BLK_STAT_STATE ≠ stResetting ∧ plainPage .pkg = true) ∧
    (let s := slate [(.pnd 127, PND.SR_STAT_BUSY, 1)]; s.b.fld (.pnd 127) HDR.BLK_STAT_STATE ≠ stResetting ∧ s.blockBusy (.pnd 127) = true) ∧
    (let s := slate [(.ldr, HDR.BLK_STAT_STATE, stResetting)]; s.b.fld .ldr HDR.BLK_STAT_STATE = stResetting ∧
      s.boot.srstDue (psrc .ldr) = false ∧ s.ldr.resetDue = false) :=
  ⟨by unfold State.admits; decide,
    by unfold State.admits; decide,
    by unfold State.admits; decide,
    by decide,
    by decide,
    by decide,
    by decide⟩
theorem witness_CommitsStartCancelAndEnd :
    (let s := slate [(.ckr, CKR.STAT_REF, 3)]; ¬ s.admits (.twr 0)) ∧
    (let s := slate [(.hst 3, HDR.BLK_STAT_COMMIT_PEND, 1)]; s.admits (.hst 3) ∧ (s.maWake (.hst 3)).b.commitPend (.hst 3) = true) ∧
    (let s := shSet (slate []) [(.chm 3, CHM.CTRL_MODE, 3)]; s.admits (.chm 3) ∧ (s.maWake (.chm 3)).b.commitPend (.chm 3) = false ∧
      (s.maWake (.chm 3)).commitOk (.chm 3) = false) ∧
    (let s := slate []; s.admits (.hst 0) ∧ (s.maWake (.hst 0)).b.commitPend (.hst 0) = false ∧ (s.maWake (.hst 0)).commitOk (.hst 0) = true) ∧
    (let s := slate []; s.admits (.cfg 3) ∧ (s.maWake (.cfg 3)).b.commitPend (.cfg 3) = false ∧ (s.maWake (.cfg 3)).commitOk (.cfg 3) = true) ∧
    (let s := slate []; s.admits (.enc 15) ∧ (s.maWake (.enc 15)).b.encPending = false ∧ encCommitOk (s.maWake (.enc 15)).b = true) ∧
    (let s := slate [(.ldr, HDR.BLK_STAT_COMMIT_PEND, 1)]; s.admits .ldr) ∧
    (let s := slate []; s.b.commitPend (.que 0) = false ∧ ownPoint (.slt 3) = true) ∧
    (let s := slate [(.que 3, HDR.BLK_STAT_COMMIT_PEND, 1)]; s.b.commitPend (.que 3) = true ∧ plainCommit (.que 3) = true) :=
  ⟨by unfold State.admits; decide,
    by unfold State.admits; decide,
    by unfold State.admits; decide,
    by unfold State.admits; decide,
    by unfold State.admits; decide,
    by unfold State.admits; decide +kernel,
    by unfold State.admits; decide,
    by decide,
    by decide⟩
theorem witness_EventsAndErrorCounters :
    (let s := slate []; s.admits .fus ∧ pageNmes .fus = []) ∧
    (let s := slate []; s.admits .ano ∧ (5, 1) ∈ pageNmes .ano ∧ (evt 1).getLsbD 1 = true) ∧
    (let s := slate []; s.admits (.chm 3) ∧ (4, 14) ∈ pageNmes (.chm 3) ∧ (evt 14).getLsbD 14 = true) ∧
    (let s : State := { slate [(.gkc 127, HDR.ERR_CFG_LEAK, 1)] with b := { (slate [(.gkc 127, HDR.ERR_CFG_LEAK, 1)]).b with aonUs := 1000 } };
      s.b.leakDue (.gkc 127) = true) ∧
    ((slate []).admits .evr) ∧
    ((slate []).b.leakDue (.gkc 0) = false) :=
  ⟨by unfold State.admits; decide,
    by unfold State.admits; decide,
    by unfold State.admits; decide,
    by decide,
    by unfold State.admits; decide,
    by decide⟩
theorem witness_RegisterAccesses :
    (let s := slate []; maTarget (0x14 / 4 * 4) = .reg (.twr 0) 0x14 ∧ maTarget (0x1C / 4 * 4) = .reg (.twr 0) 0x1C ∧
      maTarget (0x24 / 4 * 4) = .reg (.twr 0) 0x24 ∧ maTarget (0x10 / 4 * 4) = .reg (.twr 0) 0x10 ∧ s.admits (.twr 0)) ∧
    (let s := slate []; s.admits (.gd 15) ∧ maTarget (0x3013040 / 4 * 4) = .reg (.gd 15) 0x40 ∧ (pageReg (.gd 15) 0x40).map (fun r => r.mask .rws != 0) = some true ∧
      (s.maWake (.gd 15)).actWrite (.gd 15) 0x40 0 = none ∧ (s.maWake (.gd 15)).b.commitPend (.gd 15) = false) ∧
    (let s := slate [(.gd 15, HDR.BLK_STAT_COMMIT_PEND, 1)]; s.admits (.gd 15) ∧ (s.maWake (.gd 15)).actWrite (.gd 15) 0x40 0 = none ∧
      (s.maWake (.gd 15)).b.commitPend (.gd 15) = true) ∧
    (∀ x, State.afterWrite x ((slate []).maWake (.gd 15)) (.gd 15) 0x40 0 = x) ∧
    (maTarget (0x404 / 4 * 4) = .reserved ∧ maTarget (0x7FFFFFF / 4 * 4) = .reserved) ∧
    (let s := slate [(.ckr, CKR.STAT_REF, 3)]; s.b.standsStill (.gd 15) = true ∧ s.b.standsStill .evr = false) ∧
    (let s := slate [(.gd 15, HDR.BLK_STAT_STATE, stAsleep)]; s.b.sleeps (.gd 15) = true ∧ s.b.standsStill (.gd 15) = false) ∧
    (let r := anoleReq 0x8000000; let s := ask (slate []) r false; s.mayArrive r false = true ∧ calm.uc = false ∧ calm.resv = false ∧
      mgtAdmits r = false) ∧
    ((slate []).mayArrive ⟨512, true, 0, 0, 0, 4, 4, false, 0, 0, false, false⟩ false = false) ∧
    (let r := anoleReq 0x4; let s := ask (slate []) r false; s.mayArrive r false = true ∧ ({ calm with uc := true } : Wire).uc = true) ∧
    (let r := anoleReq 0x4; let s := ask (slate []) r false; s.mayArrive r false = true ∧ ({ calm with resv := true } : Wire).resv = true) ∧
    (let r := anoleReq 0x4; let s := ask (slate []) r false; s.mayArrive r false = true ∧ mgtAdmits r = true ∧ oneBlock r = true) ∧
    (let r := anoleReq 0xD0040; let s := ask (slate []) r true; s.mayArrive r true = true ∧ mgtAdmits r = true ∧
      oneBlock r = true) :=
  ⟨by unfold State.admits; decide,
    by unfold State.admits; decide,
    by unfold State.admits; decide,
    fun _ => rfl,
    by decide,
    by decide,
    by decide,
    by decide +kernel,
    by decide,
    by decide +kernel,
    by decide +kernel,
    by decide +kernel,
    by decide +kernel⟩
theorem witness_StagesSwapsAndModes :
    (let s := slate [(.chm 3, CHM.CTRL_MODE, 1)]; s.cmdRefused 3 true true (some 7) = true ∧ s.cmdRefused 3 false true (s.ch 3).named = true) ∧
    (let s := slate [(.chm 3, CHM.STAT_LIVE, 7)]; s.cmdRefused 3 true false (some 7) = false ∧ s.cm 3 CHM.STAT_LIVE = 7) ∧
    (let s := slate []; s.cmdRefused 3 true true (some 7) = false ∧ s.cmdRefused 3 true false (some 7) = false ∧ s.cm 3 CHM.STAT_LIVE ≠ 7 ∧
      s.gang 3 = [3] ∧ (s.ch 3).tgt ≠ some 7 ∧ s.refreshing 3 = false ∧ s.gangCommitting 3 7 = false) ∧
    (let s := slate []; s.cmdRefused 0 false true (s.ch 0).named = false ∧ (s.ch 0).named = none) ∧
    (let s := cham1 (slate []) 3 { Cham.init with named := some 7 }; s.cmdRefused 3 false true (some 7) = false ∧ (s.ch 3).named = some 7 ∧ 7 ≠ s.cm 3 CHM.STAT_LIVE) ∧
    ((slate []).cm 0 CHM.STAT_PHASE ≠ 1) ∧
    (let s := slate [(.chm 3, CHM.STAT_PHASE, 1), (.chm 3, CHM.STAT_TARGET, 7)]; s.cm 3 CHM.STAT_PHASE = 1 ∧
      (copyScan (s.b.bchT 3) (copyList s.cfg 3 (s.cm 3 CHM.STAT_TARGET) fun m => (s.ch 3).staged.contains m && !s.b.excludeBit 3 m)).2 = none) ∧
    (let s : State := { cham1 (slate [(.cfg 3, CFG.BCH_T, 2), (.chm 3, CHM.STAT_PHASE, 1), (.chm 3, CHM.STAT_TARGET, 7)]) 3 { Cham.init with staged := [383] } with
      cfg := { State.reset.cfg with store := [(frameAddr 3 383 7 447, ⟨0, 0x201B⟩)] } };
      s.cm 3 CHM.STAT_PHASE = 1 ∧
      (copyScan (s.b.bchT 3) (copyList s.cfg 3 (s.cm 3 CHM.STAT_TARGET) fun m => (s.ch 3).staged.contains m && !s.b.excludeBit 3 m)).2 ≠ none) ∧
    (((slate []).ch 3).want = none) ∧
    (let s := cham1 (slate []) 3 { Cham.init with want := some (7, .slot) }; (s.ch 3).want = some (7, .slot) ∧ s.canSwap 3 7 .slot = false) ∧
    (let s := cham1 (slate [(.ckr, CKR.STAT_LOCK, 1), (.chm 3, CHM.STAT_PHASE, 2), (.chm 3, CHM.STAT_DWELL_MET, 1)]) 3
      { Cham.init with want := some (7, .static), tgt := some 7 }; (s.ch 3).want = some ((7 : Ctx).val, .static) ∧ s.canSwap 3 7 .static = true ∧ s.gang 3 = [3]) ∧
    ((slate []).b.commitPend (.chm 3) = false) ∧
    (let s := shSet (slate [(.chm 3, HDR.BLK_STAT_COMMIT_PEND, 1)]) [(.chm 3, CHM.CTRL_MODE, 2)]; s.b.commitPend (.chm 3) = true ∧ (s.ch 3).evCtx = none ∧
      wantsShell (s.ch 3).want = false ∧ s.b.shFld (.chm 3) CHM.CTRL_MODE ≠ 1 ∧ s.mode 3 ≠ s.b.shFld (.chm 3) CHM.CTRL_MODE) :=
  ⟨by decide,
    by decide,
    by decide,
    by decide,
    by decide,
    by decide,
    by decide,
    by decide +kernel,
    by decide,
    by decide,
    by decide,
    by decide,
    by decide⟩
theorem witness_SlotTableWalks :
    (let s := slate []; s.inMode 3 1 = false) ∧
    (let s := slate [(.chm 3, CHM.CTRL_MODE, 1), (.chm 3, CHM.STAT_PHASE, 3)]; s.inMode 3 1 = true ∧ s.frozen 3 = true) ∧
    (let s := cham1 (slate [(.chm 3, CHM.CTRL_MODE, 1), (.chm 3, CHM.BUSY_COMMITTING, 1)]) 3 { Cham.init with running := true };
      s.inMode 3 1 = true ∧ (s.ch 3).running = true ∧ s.frozen 3 = false ∧ s.gangCommitting 3 (s.cm 3 CHM.STAT_LIVE) = true) ∧
    (let s := cham1 (slate [(.chm 3, CHM.CTRL_MODE, 1), (.slt 3, SLT.LEN_A_LEN, 2), (.slt 3, SLT.A_ENT.nth 1, 0x07000005)]) 3 { Cham.init with running := true };
      s.inMode 3 1 = true ∧ (s.ch 3).running = true ∧ s.frozen 3 = false ∧ s.gangCommitting 3 (s.cm 3 CHM.STAT_LIVE) = false ∧
      s.nextEntry 3 (s.walkHalf 3) (s.walkIdx 3 + 1) = some 1 ∧ entCtx (s.slotEnt 3 (s.walkHalf 3) 1) ≠ s.cm 3 CHM.STAT_LIVE) ∧
    (let s := cham1 (slate [(.chm 3, CHM.CTRL_MODE, 1), (.slt 3, SLT.LEN_A_LEN, 256), (.slt 3, SLT.A_ENT.nth 255, 0x00000005), (.chm 3, CHM.STAT_SLOT_IDX, 254)]) 3
      { Cham.init with running := true };
      s.inMode 3 1 = true ∧ (s.ch 3).running = true ∧ s.frozen 3 = false ∧ s.gangCommitting 3 (s.cm 3 CHM.STAT_LIVE) = false ∧
      s.nextEntry 3 (s.walkHalf 3) (s.walkIdx 3 + 1) = some 255 ∧ entCtx (s.slotEnt 3 (s.walkHalf 3) 255) = s.cm 3 CHM.STAT_LIVE) ∧
    (let s := cham1 (slate [(.chm 3, CHM.CTRL_MODE, 1)]) 3 { Cham.init with running := true, ran := true };
      s.inMode 3 1 = true ∧ (s.ch 3).running = true ∧ s.frozen 3 = false ∧ s.gangCommitting 3 (s.cm 3 CHM.STAT_LIVE) = false ∧
      (s.ch 3).ran = true ∧ s.nextEntry 3 (s.walkHalf 3) (s.walkIdx 3 + 1) = none) ∧
    (let s := slate [(.chm 0, CHM.CTRL_MODE, 1)]; s.inMode 0 1 = true ∧ (s.ch 0).running = false ∧ (s.ch 0).ran = false ∧ (s.ch 0).want = none ∧
      s.frozen 0 = false) ∧
    (let s := slate [(.slt 3, HDR.BLK_STAT_COMMIT_PEND, 1)]; s.sltPend 3 = true ∧ s.inMode 3 1 = false) ∧
    (let s := slate [(.slt 3, HDR.BLK_STAT_COMMIT_PEND, 1), (.chm 3, CHM.CTRL_MODE, 1), (.chm 3, CHM.CTRL_FOLLOW, 1)]; s.sltPend 3 = true ∧ s.inMode 3 1 = false) ∧
    (let s := slate [(.slt 3, HDR.BLK_STAT_COMMIT_PEND, 1), (.chm 3, CHM.CTRL_MODE, 1), (.chm 3, CHM.STAT_PHASE, 3)]; s.sltPend 3 = true ∧ s.frozen 3 = true) ∧
    ((slate []).admits (.slt 3)) ∧
    (let s := cham1 (slate []) 3 { Cham.init with copying := true }; (s.ch 3).copying = true) :=
  ⟨by decide,
    by decide,
    by decide,
    by decide,
    by decide,
    by decide,
    by decide,
    by decide,
    by decide,
    by decide,
    by unfold State.admits; decide,
    by decide⟩
theorem witness_EventRequestsThawAndExclude :
    (let s := slate [(.ckr, CKR.STAT_LOCK, 1), (.chm 3, CHM.CTRL_MODE, 2)]; s.b.gated = false ∧ s.inMode 3 2 = true) ∧
    (let s := reqHigh (slate [(.ckr, CKR.STAT_LOCK, 1), (.chm 3, CHM.CTRL_MODE, 2)]) 0; (s.tapSample 3).2.1 = false) ∧
    (let s := reqHigh (slate [(.ckr, CKR.STAT_LOCK, 1), (.chm 3, CHM.CTRL_MODE, 2), (.chm 3, CHM.ALLOW_CTX_MASK, 0x80)]) 15; s.b.gated = false ∧
      s.inMode 3 2 = true ∧ (s.tapSample 3).2.1 = true ∧ (s.ch 3).evPrev = false ∧ (s.ch 3).evCtx = none ∧
      (s.tapSample 3).2.2 = (7 : Ctx) ∧ s.frozen 3 = false ∧ nbit (s.cm 3 CHM.ALLOW_CTX_MASK) (7 : Ctx) = true ∧ ¬ ((7 : Ctx) = 0 ∧ s.b.shellDecl = true) ∧ s.gangQuar 3 7 = false ∧
      (7 : Ctx).val ≠ s.cm 3 CHM.STAT_LIVE) ∧
    (let s := reqHigh (slate [(.ckr, CKR.STAT_LOCK, 1), (.chm 3, CHM.CTRL_MODE, 2), (.chm 3, CHM.ALLOW_CTX_MASK, 0x7F)]) 15;
      (s.tapSample 3).2.1 = true ∧ (s.tapSample 3).2.2 = (7 : Ctx) ∧ s.frozen 3 = false ∧ nbit (s.cm 3 CHM.ALLOW_CTX_MASK) (7 : Ctx) = false) ∧
    (let s := slate [(.chm 3, CHM.CTRL_FOLLOW, 1)]; s.admits (.chm 3) ∧ s.follows 3 = true) ∧
    (let s := slate [(.cfg 3, CFG.STAT_REENC, 1)]; s.admits (.chm 3) ∧ (s.gang 3).any s.reencoding = true) ∧
    (let s := slate [(.chm 3, CHM.LAMECB.nth 11, 0x80000000)]; s.admits (.chm 3) ∧ s.lameExcluded 3 = false) ∧
    (let s := slate []; s.admits (.chm 3) ∧ s.follows 3 = false ∧ (s.gang 3).any s.reencoding = false ∧ s.lameExcluded 3 = true ∧ s.frozenOne 3 = false) ∧
    (let s := slate [(.chm 3, CHM.STAT_PHASE, 3)]; s.admits (.chm 3) ∧ s.follows 3 = false ∧ (s.gang 3).any s.reencoding = false ∧ s.lameExcluded 3 = true ∧ s.frozenOne 3 = true) ∧
    ((slate []).b.excludeBit 3 383 = false) ∧
    (let s := slate [(.chm 3, CHM.LAMECB.nth 11, 0x80000000)]; s.b.lameCb 3 383 = true) ∧
    (let s := slate [(.pwr 3, PWR.LPD_STAT_OFF, 0x8000)]; s.b.domainDown 3 383 = true) ∧
    (let s := slate [(.chm 3, CHM.EXCLUDE.nth 11, 0x80000000)]; s.b.lameCb 3 383 = false ∧ s.b.domainDown 3 383 = false ∧ s.b.excludeBit 3 383 = true) :=
  ⟨by decide,
    by decide +kernel,
    by decide +kernel,
    by decide +kernel,
    by unfold State.admits; decide,
    by unfold State.admits; decide,
    by unfold State.admits; decide +kernel,
    by unfold State.admits; decide +kernel,
    by unfold State.admits; decide +kernel,
    by decide,
    by decide,
    by decide,
    by decide⟩
theorem witness_DomainPowerAndContention :
    (let s := slate []; nbit (s.b.fld (.pwr 3) PWR.LPD_CTRL_OFF) 15 = false ∧ (domainMarshes 15).all (s.b.excludeBit 3) = false) ∧
    (let s := slate ((List.range 12).map fun i => (.chm 3, CHM.EXCLUDE.nth i, 0xFFFFFFFF)); nbit (s.b.fld (.pwr 3) PWR.LPD_CTRL_OFF) 15 = false ∧
      (domainMarshes 15).all (s.b.excludeBit 3) = true) ∧
    (let s := slate [(.pwr 3, PWR.LPD_CTRL_OFF, 0x8000)]; nbit (s.b.fld (.pwr 3) PWR.LPD_CTRL_OFF) 15 = true) ∧
    (let s := slate [(.pwr 3, PWR.LPD_CTRL_OFF, 0x8000), (.pwr 3, PWR.LPD_STAT_BUSY, 0x8000)]; nbit (s.b.fld (.pwr 3) PWR.LPD_CTRL_OFF) 15 = true ∧
      nbit (s.b.fld (.pwr 3) PWR.LPD_STAT_BUSY) 15 = true) ∧
    (let s := slate [(.pwr 3, PWR.LPD_STAT_BUSY, 1)]; nbit (s.b.fld (.pwr 3) PWR.LPD_CTRL_OFF) 0 = false ∧ nbit (s.b.fld (.pwr 3) PWR.LPD_STAT_BUSY) 0 = true) ∧
    (let s := slate []; s.b.lineFenced (lineTaps 3 false 0 2 0) = false ∧
      lineTaps 3 false 0 2 0 ∈ s.segments 3 (lineTaps 3 false 0 2 0) [] ∧ 2 ≤ (tapsOf (lineTaps 3 false 0 2 0) 3 (lineTaps 3 false 0 2 0)).length) ∧
    (let s := slate [(.vbd 3, VBD.GTAB_ST_STATE.nth (dropGroup ((lineTaps 3 false 0 2 0).headD 0)), 5)]; s.b.lineFenced (lineTaps 3 false 0 2 0) = true) ∧
    (let s := slate []; (tapsOf (lineTaps 3 false 0 2 0) 1 (lineTaps 3 false 0 2 0)).length ≤ 1 ∧
      lineTaps 3 false 0 2 0 ∈ s.segments 3 (lineTaps 3 false 0 2 0) []) :=
  ⟨by decide,
    by decide,
    by decide,
    by decide,
    by decide,
    by decide,
    by decide +kernel,
    by decide⟩
theorem witness_ScrubReadbackAndRawWrite :
    ((slate [(.scb 3, SCB.PERIOD_MS, 0)]).scrubs 3 = false) ∧
    (let s := slate [(.scb 3, SCB.PERIOD_MS, 1)]; s.scrubs 3 = true ∧ s.cfg.compareNext 3 = false ∧ s.b.fld (.scb 3) SCB.POS_STEP = 0) ∧
    ((frameDecode 2 ⟨0, 1⟩).map (·.n) = some 1 ∧ (slate [(.cfg 3, CFG.BCH_T, 2)]).b.bchT 3 = 2 ∧ (slate []).b.bit (.scb 3) SCB.CTRL_WRITEBACK = true) ∧
    (let s : State := { slate [(.cfg 3, CFG.BCH_T, 2), (.scb 3, SCB.PERIOD_MS, 1), (.scb 3, SCB.POS_STEP, 7)] with cfg := { State.reset.cfg with store := [(frameAddr 3 0 7 0, ⟨0, 0x201B⟩)] } };
      s.scrubs 3 = true ∧ s.cfg.compareNext 3 = false ∧ frameDecode (s.b.bchT 3) (s.cfg.frame (frameAddr 3 0 7 0)) = none) ∧
    (let s : State := { slate [(.scb 3, SCB.PERIOD_MS, 1), (.scb 3, SCB.POS_MARSH, 383), (.scb 3, SCB.POS_FRAME, 447)] with
      cfg := { State.reset.cfg with cmpNext := [(3, true)] } }; s.scrubs 3 = true ∧ s.cfg.compareNext 3 = true ∧
      447 ≤ s.b.fld (.scb 3) SCB.POS_FRAME ∧ 383 ≤ s.b.fld (.scb 3) SCB.POS_MARSH) ∧
    ((slate [(.scb 3, SCB.CTRL_FP_CMP, 0)]).compareSkipped 3 383 = true) ∧
    (let s : State := { slate [(.scb 3, SCB.PERIOD_MS, 1), (.scb 3, SCB.CTRL_FP_CMP, 1), (.scb 3, SCB.CTRL_FP_FIX, 1)] with
      cfg := { State.reset.cfg with cmpNext := [(3, true)], front := [(planeKey 3 0 0, 1)] } }; s.scrubs 3 = true ∧ s.cfg.compareNext 3 = true ∧
      s.compareSkipped 3 0 = false ∧ (frameDecode (s.b.bchT 3) (s.cfg.frame (frameAddr 3 0 (s.b.liveOf 3 0) 0))).map
      (fun o => ((s.cfg.frontFrame 3 0 0).toNat ^^^ o.pay != 0)) = some true ∧ s.b.bit (.scb 3) SCB.CTRL_FP_FIX = true) ∧
    (let s := slate [(.cfg 3, CFG.STAT_RB_BUSY, 1)]; s.b.bit (.cfg 3) CFG.STAT_RB_BUSY = true) ∧
    (let s := slate [(.cfg 3, CFG.RB_ADDR_PLANE, 1)]; s.b.bit (.cfg 3) CFG.STAT_RB_BUSY = false ∧ s.admits (.cfg 3)) ∧
    (let s := slate [(.cfg 3, CFG.STAT_REENC, 1), (.cfg 3, CFG.STAT_RB_BUSY, 1)]; s.reencoding 3 = true) ∧
    ((slate []).rawRefused 3 ((slate []).b.word (regOf (.cfg 3) CFG.RB_ADDR)).toNat = true ∧ (slate []).admits (.cfg 3)) ∧
    (let s := slate [(.cfg 3, HDR.ERR_CFG_RAW, 1), (.cfg 3, CFG.RB_ADDR_FADDR, frameAddr 3 383 7 447)]; s.b.bit (.cfg 3) CFG.STAT_RB_BUSY = false ∧
      s.rawRefused 3 (s.b.word (regOf (.cfg 3) CFG.RB_ADDR)).toNat = false ∧ s.reencoding 3 = false) ∧
    (let s := slate [(.cfg 3, HDR.ERR_CFG_RAW, 1), (.cfg 3, CFG.RB_ADDR_FADDR, frameAddr 3 383 7 447), (.cfg 3, CFG.STAT_REENC, 1)];
      s.b.bit (.cfg 3) CFG.STAT_RB_BUSY = false ∧ s.rawRefused 3 (s.b.word (regOf (.cfg 3) CFG.RB_ADDR)).toNat = false ∧ s.reencoding 3 = true) ∧
    (let s := slate [(.cfg 3, CFG.STAT_RB_BUSY, 1)]; s.b.bit (.cfg 3) CFG.STAT_RB_BUSY = true ∧ s.reencoding 3 = false ∧ s.cfg.rbLatched 3 < 0x800000 ∧
      faTower (s.cfg.rbLatched 3) ≠ 3) ∧
    (let s : State := { slate [(.cfg 3, CFG.STAT_RB_BUSY, 1), (.cfg 3, CFG.RB_PERMIT_CTX, 0x80)] with
      cfg := { State.reset.cfg with rbAt := [(3, frameAddr 3 383 7 447)] } }; s.b.bit (.cfg 3) CFG.STAT_RB_BUSY = true ∧ s.reencoding 3 = false ∧
      s.cfg.rbLatched 3 < 0x800000 ∧ faValid (s.cfg.rbLatched 3) = true ∧ faTower (s.cfg.rbLatched 3) = (3 : Tower).val ∧
      nbit (s.b.fld (.cfg 3) CFG.RB_PERMIT_CTX) (faCtx (s.cfg.rbLatched 3)) = true ∧
      (frameDecode (s.b.bchT 3) (s.cfg.frame (s.cfg.rbLatched 3))).isSome = true) :=
  ⟨by decide,
    by decide,
    ⟨corrected_check_bit, by decide, by decide⟩,
    by decide +kernel,
    by decide,
    by decide,
    by decide +kernel,
    by decide,
    by unfold State.admits; decide,
    by decide,
    by unfold State.admits; decide,
    by decide,
    by decide,
    by decide,
    by decide +kernel⟩
theorem witness_ReencodeAndWriteEnables :
    (let s := slate [(.cfg 3, CFG.STAT_REENC, 1)]; s.admits (.cfg 3) ∧ (s.maWake (.cfg 3)).reencoding 3 = true) ∧
    ((slate []).b.bit (.cfg 3) CFG.STAT_REENC = false) ∧
    (let s : State := { slate [(.cfg 3, CFG.BCH_T, 2), (.cfg 3, CFG.STAT_REENC, 1)] with cfg := { State.reset.cfg with store := [(frameAddr 3 0 0 0, ⟨0, 0x201B⟩)] } }; s.canonical ∧
      s.b.bit (.cfg 3) CFG.STAT_REENC = true ∧ frameDecode (s.b.bchT 3) ⟨0, 0x201B⟩ = none) ∧
    ((slate []).b.we 3 7 = false) ∧
    (let s := slate [(.cfg 3, CFG.WE_CTX, 0x80)]; s.b.we 3 7 = true ∧ s.b.banksOf 3 0 = [9, 10, 11] ∧ s.ownerLive 9 = true) :=
  ⟨by unfold State.admits; decide,
    by decide,
    by unfold State.canonical; decide +kernel,
    by decide,
    by decide⟩

theorem witness_CommitWritesFrames :
    (let s := (slate ([(.ckr, CKR.STAT_LOCK, 1), (.ldr, LDR.STATE_PHASE, 3)] ++ gdUp)).ld fun l =>
      { l with hdr := some (hdrOf 0x80 0 0), plan := [(3, [payW, zeroW])] };
      s.ldr.hdr = some (hdrOf 0x80 0 0) ∧ s.ldr.planOf 3 = payW :: [zeroW] ∧ s.phase = 3 ∧ s.reencoding 3 = false ∧
      wantsShell (s.ch 3).want = false ∧ s.stagingWake.stagingReady = true ∧ (s.stagingWake.payAgain (hdrOf 0x80 0 0) payW).2.toOption = some 1 ∧
      [zeroW] ≠ [] ∧ (∀ e ∈ [zeroW], e.crosses = true) ∧ payW.zeros = false ∧ s.loadAlone) ∧
    (let s := (slate [(.ldr, LDR.STATE_PHASE, 3)]).ld fun l => { l with hdr := some (hdrOf 0x80 0 0), plan := [(3, [zeroW, payW])] };
      s.ldr.planOf 3 = zeroW :: [payW] ∧ s.phase = 3 ∧ zeroW.zeros = true ∧ (s.stagingWake.payAgain (hdrOf 0x80 0 0) zeroW).2.toOption = some 0) ∧
    (let w : LinkWrite := { payW with held := some (0, 0) };
      let s := (slate [(.ldr, LDR.STATE_PHASE, 3)]).ld fun l => { l with hdr := some (hdrOf 0x80 1 0), plan := [(3, [w])], wrote := [(3, 0x80)] };
      s.ldr.planOf 3 = [w] ∧ s.loadAlone ∧ failure (s.stagingWake.payAgain (hdrOf 0x80 1 0) w).2 = some 0x41 ∧
      (s.stagingWake.payAgain (hdrOf 0x80 1 0) w).1.ldr.wroteIn 3 ≠ 0) ∧
    (let s : State := { slate [] with cfg := { State.reset.cfg with refresh := [(3, [0, 383])], refreshCtx := [(3, 0x80)] } }; s.cfg.refreshing 3 ≠ [] ∧
      s.cfg.refreshMask 3 = 2 ^ 7 ∧
      (copyScan (s.b.bchT 3) (copyList s.cfg 3 7 ((s.cfg.refreshing 3).filter fun m => s.b.liveOf 3 m == 7).contains)).2 = none) ∧
    ((slate []).cfg.refreshing 3 = []) :=
  ⟨by unfold State.loadAlone; decide +kernel,
    by decide +kernel,
    by unfold State.loadAlone; decide +kernel,
    by decide,
    by decide⟩
theorem witness_DeliveriesAppendChunks :
    (let s := slate [(.ldr, LDR.STATE_PHASE, 2)]; s.admits .ldr ∧ 2 ≤ s.phase) ∧
    (let s := slate [(.ldr, LDR.STATE_PHASE, 1), (.ldr, LDR.STATE_SRC, 1)]; s.phase = 1 ∧ s.loadSrc ≠ 0) ∧
    (let s := slate [(.ldr, LDR.STG_SIZE_SIZE, 1), (.ldr, LDR.DLV_LEN_LEN, 1)]; s.b.bit .ldr LDR.STATE_DLV_BUSY = false ∧ s.phase = 0 ∧
      s.noStaging = false ∧ s.b.fld .ldr LDR.DLV_LEN_LEN ≠ 0) ∧
    (let s := slate [(.ldr, LDR.STG_SIZE_SIZE, 2), (.ldr, LDR.DLV_LEN_LEN, 1), (.ldr, LDR.STATE_PHASE, 1)]; s.b.bit .ldr LDR.STATE_DLV_BUSY = false ∧
      s.phase = 1 ∧ s.loadSrc = 0 ∧ s.noStaging = false ∧ s.b.fld .ldr LDR.DLV_LEN_LEN ≠ 0) ∧
    (let s := (slate ([(.ckr, CKR.STAT_LOCK, 1), (.ldr, LDR.STG_SIZE_SIZE, 1), (.ldr, LDR.DLV_LEN_LEN, 1), (.ldr, LDR.STATE_PHASE, 1), (.ldr, LDR.STATE_DLV_BUSY, 1)] ++ gdUp)).ld fun l =>
      { l with img := List.replicate 240 0, rcvd := 240, len := 8 };
      s.phase = 1 ∧ s.b.bit .ldr LDR.STATE_DLV_BUSY = true ∧ s.loadSrc = 0 ∧ s.pci.shut = false ∧ s.noStaging = false ∧
      s.stagingWake.stagingReady = true ∧ s.loadAlone ∧ (List.replicate 8 (0 : Byte)).length = s.ldr.len ∧ s.ldr.last = false ∧
      s.ldr.hdr = none ∧ s.rcvd + (List.replicate 8 (0 : Byte)).length < 256) ∧
    (let s := (slate ([(.ckr, CKR.STAT_LOCK, 1), (.ldr, LDR.STG_SIZE_SIZE, 1), (.ldr, LDR.DLV_LEN_LEN, 1), (.ldr, LDR.STATE_PHASE, 1), (.ldr, LDR.STATE_DLV_BUSY, 1)] ++ gdUp)).ld fun l =>
      { l with img := List.replicate 256 0, rcvd := 256, len := 8, hdr := some (hdrOf 0x80 0 263) };
      s.stagingWake.stagingReady = true ∧ s.loadAlone ∧ s.ldr.hdr = some (hdrOf 0x80 0 263) ∧ (hdrOf 0x80 0 263).total < s.rcvd + (List.replicate 8 (0 : Byte)).length) ∧
    (let s := (slate ([(.ckr, CKR.STAT_LOCK, 1), (.ldr, LDR.STG_SIZE_SIZE, 1), (.ldr, LDR.DLV_LEN_LEN, 1), (.ldr, LDR.STATE_PHASE, 1), (.ldr, LDR.STATE_DLV_BUSY, 1)] ++ gdUp)).ld fun l =>
      { l with img := List.replicate 248 0, rcvd := 248, len := 8 };
      s.stagingWake.stagingReady = true ∧ s.loadAlone ∧ s.ldr.hdr = none ∧ 256 ≤ s.rcvd + (List.replicate 8 (0 : Byte)).length ∧
      failure (headerCheck s.b (s.ldr.img ++ List.replicate 8 0) 0) = some (0x10, 0)) :=
  ⟨by unfold State.admits; decide,
    by decide,
    by decide +kernel,
    by decide +kernel,
    by unfold State.loadAlone; decide +kernel,
    by unfold State.loadAlone; decide +kernel,
    by unfold State.loadAlone; decide +kernel⟩
/-- 07 R154: a segment whose tag is zeros fails. -/
theorem segment_fails : let h := hdrOf 0x80 1 3713; let s := (slate ([(.ckr, CKR.STAT_LOCK, 1), (.ldr, LDR.STATE_PHASE, 2)] ++ gdUp)).ld fun l => { l with img := List.replicate 3712 0, rcvd := 3712, sigOk := true, hdr := some h }; s.loadAlone ∧ s.ldr.seg < h.segs ∧ segOff s.ldr.img 0 + segLen s.ldr.img 0 ≤ s.rcvd ∧ s.stagingWake.stagingReady = true ∧ h.segTagOk s.ldr.img s.ldr.key0 0 (s.stagingWake.segStaged 0).bytes = false := by unfold State.loadAlone; decide +kernel
/-- 07 R154: a segment of no bytes with the tag of its key and IV passes. -/
theorem segment_passes : let h := hdrOf 0x80 1 3713; let img := List.replicate 3696 0 ++ gcmTag (h.key 0 0) (h.segIv 0) (List.replicate 16 0) []; let s := (slate ([(.ckr, CKR.STAT_LOCK, 1), (.ldr, LDR.STATE_PHASE, 2)] ++ gdUp)).ld fun l => { l with img := img, rcvd := 3712, sigOk := true, hdr := some h }; s.loadAlone ∧ s.ldr.seg < h.segs ∧ s.stagingWake.stagingReady = true ∧ (s.stagingWake.segStaged 0).poison = false ∧ h.segTagOk s.ldr.img s.ldr.key0 0 (s.stagingWake.segStaged 0).bytes = true ∧ s.rcvd ≠ h.total ∧ ((s.stagingWake.segStaged 0).s.records h 0 (segRecs s.ldr.img 0) 0 0 ⟨s.ldr.dict, s.ldr.recs⟩ (h.segPlain s.ldr.key0 0 (s.stagingWake.segStaged 0).bytes)).toOption = some ⟨[], []⟩ := by unfold State.loadAlone; decide +kernel
theorem witness_VerificationStepsDecide :
    (let s := (slate [(.ldr, LDR.STATE_PHASE, 1)]).ld fun l => { l with img := List.replicate 3680 0, rcvd := 3680, hdr := some (hdrOf 0x80 0 3680) };
      s.ldr.hdr = some (hdrOf 0x80 0 3680) ∧ s.loadAlone ∧ s.phase = 1 ∧ segEntry 0 ≤ s.rcvd ∧ s.ldr.sigOk = false ∧ manifestOk s.ldr.img (hdrOf 0x80 0 3680) = false) ∧
    (let s := (slate [(.ldr, LDR.STATE_PHASE, 2)]).ld fun l => { l with img := zeroImg, rcvd := 3680, hdr := some (hdrOf 0x80 0 3680) }; s.loadAlone ∧ s.phase = 2 ∧
      segEntry 0 ≤ s.rcvd ∧ s.ldr.sigOk = false ∧ manifestOk s.ldr.img (hdrOf 0x80 0 3680) = true ∧ s.b.keyOk 1 0 = false) ∧
    ((let s := enrolledLoad (hdrOf 0x80 0 3680); s.loadAlone ∧ s.phase = 2 ∧ segEntry 0 ≤ s.rcvd ∧ s.ldr.sigOk = false ∧
      manifestOk s.ldr.img (hdrOf 0x80 0 3680) = true ∧ s.b.keyOk 1 0 = true ∧ (hdrOf 0x80 0 3680).svn < s.b.fuse.cfgCtr) ∧
      ∀ sig, sig = (enrolledLoad (hdrOf 0x80 0 3680)).b.imgSigFails zeroImg 1 → sig = some .ed25519 ∨ sig = some .mldsa65 ∨ sig = none) ∧
    (let h : ImgHdr := { hdrOf 0x80 0 3681 with svn := 6, wrapped := rfc3394 }; let s := enrolledLoad h; s.b.fuse.cfgCtr ≤ h.svn ∧ s.rcvd ≠ h.total ∧
      (keyUnwrap s.b.imageKey.toNat h.wrapped).isSome = true) ∧
    (let h : ImgHdr := { hdrOf 0x80 0 3681 with svn := 6, wrapped := List.replicate 40 0 }; keyUnwrap (enrolledLoad h).b.imageKey.toNat h.wrapped = none) ∧
    (let h := hdrOf 0x80 1 3713; let s := (slate ([(.ckr, CKR.STAT_LOCK, 1), (.ldr, LDR.STATE_PHASE, 2)] ++ gdUp)).ld fun l => { l with img := List.replicate 3712 0, rcvd := 3712, sigOk := true, hdr := some h };
      s.loadAlone ∧ s.ldr.seg < h.segs ∧ segOff s.ldr.img 0 + segLen s.ldr.img 0 ≤ s.rcvd ∧ s.stagingWake.stagingReady = true ∧
      h.segTagOk s.ldr.img s.ldr.key0 0 (s.stagingWake.segStaged 0).bytes = false) ∧
    (let h := hdrOf 0x80 1 3713; let img := List.replicate 3696 0 ++ gcmTag (h.key 0 0) (h.segIv 0) (List.replicate 16 0) [];
      let s := (slate ([(.ckr, CKR.STAT_LOCK, 1), (.ldr, LDR.STATE_PHASE, 2)] ++ gdUp)).ld fun l => { l with img := img, rcvd := 3712, sigOk := true, hdr := some h };
      s.loadAlone ∧ s.ldr.seg < h.segs ∧ s.stagingWake.stagingReady = true ∧ (s.stagingWake.segStaged 0).poison = false ∧
      h.segTagOk s.ldr.img s.ldr.key0 0 (s.stagingWake.segStaged 0).bytes = true ∧ s.rcvd ≠ h.total ∧
      ((s.stagingWake.segStaged 0).s.records h 0 (segRecs s.ldr.img 0) 0 0 ⟨s.ldr.dict, s.ldr.recs⟩ (h.segPlain s.ldr.key0 0 (s.stagingWake.segStaged 0).bytes)).toOption = some ⟨[], []⟩) ∧
    (let s := (slate [(.ldr, LDR.STATE_PHASE, 2)]).ld fun l => { l with img := zeroImg, sigOk := true, stream := some true, hdr := some (hdrOf 0 0 3680) };
      s.loadAlone ∧ s.phase = 2 ∧ s.ldr.sigOk = true ∧ s.ldr.seg = 0 ∧ s.ldr.stream = some true ∧ (s.finalChecks (hdrOf 0 0 3680)).toOption = some () ∧
      towers.any s.reencoding = false ∧ (hdrOf 0 0 3680).kind < 3 ∧ (hdrOf 0 0 3680).towers = [3] ∧ (planTower (hdrOf 0 0 3680) s.ldr.recs 3).isEmpty = false) ∧
    (let s := (slate [(.ldr, LDR.STATE_PHASE, 2), (.cfg 3, CFG.STAT_REENC, 1)]).ld fun l => { l with img := zeroImg, sigOk := true, stream := some true, hdr := some (hdrOf 0 0 3680) };
      (s.finalChecks (hdrOf 0 0 3680)).toOption = some () ∧ towers.any s.reencoding = true) ∧
    (let h : ImgHdr := { hdrOf 0 0 3680 with kind := 3 }; let b := slate [(.ldr, LDR.STATE_PHASE, 2)];
      let s : State := State.ld { b with b := { b.b with part := ⟨3, true, false, 0, 0, [0, 0, 0, 0], 0⟩ } } fun l => { l with hdr := some h, sigOk := true, stream := some true };
      s.ldr.hdr = some h ∧ s.loadAlone ∧ s.phase = 2 ∧ s.ldr.sigOk = true ∧ s.ldr.seg = h.segs ∧ s.ldr.stream = some true ∧
      (failure (s.finalChecks h)).map Prod.snd = some (0x2A, 0)) :=
  ⟨by unfold State.loadAlone; decide +kernel,
    by unfold State.loadAlone; decide +kernel,
    ⟨by unfold State.loadAlone; decide +kernel, fun sig _ => by rcases sig with _ | (_ | _) <;> simp⟩,
    by decide +kernel,
    by decide +kernel,
    segment_fails,
    segment_passes,
    by unfold State.loadAlone; decide +kernel,
    ⟨by decide +kernel, by decide +kernel⟩,
    by unfold State.loadAlone; decide +kernel⟩
theorem witness_LoaderCommandsAndWindow :
    (let s := (slate ([(.ckr, CKR.STAT_LOCK, 1), (.ldr, LDR.STATE_PHASE, 3)] ++ gdUp)).ld fun l => { l with hdr := some (hdrOf 0xFF 0 0) };
      s.ldr.hdr = some (hdrOf 0xFF 0 0) ∧ s.phase = 3 ∧ s.ldr.towers = [] ∧ towers.all (fun k => !wantsShell (s.ch k).want) = true ∧ s.loadAlone ∧
      s.stagingWake.stagingReady = true ∧ s.stagingWake.allAgain (hdrOf 0xFF 0 0) = (s.stagingWake, none) ∧ (hdrOf 0xFF 0 0).ctxSet < 256) ∧
    (let s := (slate ([(.ckr, CKR.STAT_LOCK, 1), (.ldr, LDR.STATE_PHASE, 3)] ++ gdUp)).ld fun l => { l with hdr := some (hdrOf 0xFF 1 0) };
      s.stagingWake.stagingReady = true ∧ (s.stagingWake.allAgain (hdrOf 0xFF 1 0)).2 = some 0x41) ∧
    (let s := slate [(.ldr, LDR.STATE_PHASE, 1), (.ldr, LDR.DLV_TIMEOUT_MS_MS, 1)]; s.phase = 1 ∧ s.loadSrc = 0 ∧ s.b.bit .ldr LDR.STATE_DLV_BUSY = false ∧
      s.b.fld .ldr LDR.DLV_TIMEOUT_MS_MS ≠ 0 ∧ s.loadAlone) ∧
    (let s := slate []; s.phase = 0 ∧ s.phase ≠ 3 ∧ s.loadAlone) ∧
    (let s := slate [(.ldr, LDR.STATE_PHASE, 3)]; s.phase = 3) ∧
    (let s := slate [(.ldr, LDR.STATE_PHASE, 2)]; s.phase ≠ 0 ∧ s.phase ≠ 3 ∧ s.loadAlone) ∧
    (let s := slate [(.ldr, LDR.STATE_WSTATE, 1), (.ldr, LDR.STATE_PHASE, 1)]; s.b.fld .ldr LDR.STATE_WSTATE = 1 ∧ s.phase ≠ 0 ∧ s.loadSrc = 0) ∧
    (let s := slate [(.ldr, LDR.STATE_WSTATE, 1)]; s.b.fld .ldr LDR.STATE_WSTATE = 1 ∧ s.phase = 0) :=
  ⟨by unfold State.loadAlone; decide +kernel,
    by decide +kernel,
    by unfold State.loadAlone; decide,
    by unfold State.loadAlone; decide,
    by decide,
    by unfold State.loadAlone; decide,
    by decide,
    by decide⟩
theorem witness_PondPortReadsAndWrites :
    ((slate []).b.gated = true) ∧
    (let s := pondSig 0 []; s.b.gated = false ∧ sampled23 s = []) ∧
    (let s := pondSig askRead []; s.b.gated = false ∧ sampled23 s = [⟨23, false, 31, 4095, 0, 0, false⟩] ∧ s.ponds.waitingA 127 = [] ∧ s.b.pondUp 127 = true ∧
      nbit (s.b.fld (.pnd 127) PND.LAMEPP_PORT) 23 = false ∧ s.b.entitled 127 23 31 = true ∧ s.ponds.held 127 31 = false) ∧
    (let s := pondSig askWrite []; sampled23 s = [⟨23, true, 31, 4095, BitVec.allOnes 64, 0, false⟩] ∧ s.b.pondUp 127 = true ∧
      nbit (s.b.fld (.pnd 127) PND.LAMEPP_PORT) 23 = false ∧ s.b.entitled 127 23 31 = true ∧ s.ponds.held 127 31 = false) ∧
    (let s : State := { pondSig askRead [] with ponds := { State.reset.ponds with cmd := [(127, some ⟨1, 31⟩)] } };
      sampled23 s = [⟨23, false, 31, 4095, 0, 0, false⟩] ∧ s.ponds.waitingA 127 = [] ∧ s.ponds.held 127 31 = true) ∧
    (let s := pondSig askRead [(.pnd 127, PND.LAMEPP_PORT, 0x800000)]; sampled23 s = [⟨23, false, 31, 4095, 0, 0, false⟩] ∧
      nbit (s.b.fld (.pnd 127) PND.LAMEPP_PORT) 23 = true) ∧
    (let s := pondSig askRead [(.pnd 127, HDR.BLK_CTRL_EN, 0)]; sampled23 s = [⟨23, false, 31, 4095, 0, 0, false⟩] ∧ s.b.pondUp 127 = false) ∧
    (let s := pondSig (askRead - 2 ^ 588) []; sampled23 s = [⟨23, false, 30, 4095, 0, 0, false⟩] ∧ s.b.entitled 127 23 30 = false) ∧
    ((slate [(.pnd 127, PND.STARVE_CYC, 0)]).b.fld (.pnd 127) PND.STARVE_CYC = 0) ∧
    ((slate [(.pnd 127, PND.STARVE_CYC, 1)]).b.fld (.pnd 127) PND.STARVE_CYC ≠ 0) :=
  ⟨by decide,
    by decide +kernel,
    by decide +kernel,
    by decide +kernel,
    by decide +kernel,
    by decide +kernel,
    by decide +kernel,
    by decide +kernel,
    by decide,
    by decide⟩
theorem witness_PondRepairAndCommands :
    (let s := slate []; softRepairOk s.b 127 31 3 416 = false ∧ softRepairOk s.b 127 31 3 415 = true) ∧
    (let s := slate [(.pnd 127, PND.SPARE.nth 127, 0xC19FC19E)]; s.canonical ∧ copyingSpare s.b 127 = some (31, 3, 0)) ∧
    (copyingSpare (slate []).b 127 = none) ∧
    (let s := slate [(.pnd 127, PND.OWN_OWNER.nth 255, 8)]; padFree s.b s.ponds 127 31 = false ∧ padFree s.b s.ponds 127 30 = true) ∧
    (let s : State := { slate [] with ponds := { State.reset.ponds with cmd := [(127, some ⟨1, 31⟩)] } }; s.ponds.cmdOf 127 = some ⟨1, 31⟩ ∧
      s.ponds.waitingA 127 = [] ∧ (s.gko.at 127).stall = none ∧ s.hop.heldFlits = [] ∧ s.ponds.cmdOf 126 = none) :=
  ⟨by decide,
    by unfold State.canonical; decide +kernel,
    by decide +kernel,
    by decide,
    by decide⟩
theorem witness_PatrolSleepAndRaw :
    ((slate [(.pnd 127, PND.PATROL_MS, 0)]).b.fld (.pnd 127) PND.PATROL_MS = 0) ∧
    (let s := slate [(.pnd 127, PND.PATROL_MS, 1), (.pnd 127, PND.PATROL_POS_PAD, 31), (.pnd 127, PND.PATROL_POS_ROW, 8191)];
      s.b.fld (.pnd 127) PND.PATROL_MS ≠ 0 ∧ s.b.fld (.pnd 127) PND.PATROL_POS_PAD + 1 = 32 ∧ s.b.fld (.pnd 127) PND.PATROL_POS_ROW + 1 = 8192) ∧
    (let s := slate [(.pnd 127, HDR.BLK_CTRL_SLEEP_PERMIT, 1), (.pnd 127, PND.GSLEEP_PERMIT, 8)];
      (s.b.bit (.pnd 127) HDR.BLK_CTRL_SLEEP_PERMIT && nbit (s.b.fld (.pnd 127) PND.GSLEEP_PERMIT) 3) = true) ∧
    (let s := slate []; padRawRefused s.b s.ponds 127 = true) ∧
    (let s := slate [(.pnd 127, HDR.ERR_CFG_RAW, 1)]; padRawRefused s.b s.ponds 127 = false) :=
  ⟨by decide,
    by decide,
    by decide,
    by decide,
    by decide⟩
theorem witness_ArbitersRefillAndGrant :
    ((slate []).arbStill (.pond 0) = true ∧ (slate []).arbStill (instGroup (.bridge 3 1 3)) = true) ∧
    (let s := slate [(.ckr, CKR.STAT_LOCK, 1), (.gd 15, GD.STAT_SREF, 1)]; s.b.gated = false ∧ s.arbStill (.gd 15) = true) ∧
    (let s := slate [(.ckr, CKR.STAT_LOCK, 1), (.pnd 127, PND.B_WINDOW_WINDOW, 0)]; s.arbStill (.pond 127) = false ∧ s.b.arbPending (.pond 127) = false ∧ s.b.arbWindow (.pond 127) = 0) ∧
    (let s := slate [(.ckr, CKR.STAT_LOCK, 1), (.hop 3, HOP.PKG_WINDOW_WINDOW, 0xFFFF)]; s.arbStill (.bridge 3) = false ∧ s.b.arbPending (.bridge 3) = false ∧ s.b.arbWindow (.bridge 3) ≠ 0) ∧
    (let s := slate [(.ckr, CKR.STAT_LOCK, 1), (.gd 15, HDR.BLK_STAT_COMMIT_PEND, 1)]; let u : State := { s with b := { s.b with commitParts := [(psrc (.gd 15), 1)] } }; u.arbStill (.gd 15) = false ∧ u.b.arbPending (.gd 15) = true) ∧
    (let s := slate [(.ckr, CKR.STAT_LOCK, 1)]; (arbAt s.arb (instKey (.bridge 3 1 3))).winner (s.b.arbWindow (.bridge 3) != 0) (fun r => (0 : BitVec 32).getLsbD r) = none ∧
      s.arbStill (instGroup (.bridge 3 1 3)) = false) ∧
    (let s := slate [(.ckr, CKR.STAT_LOCK, 1)]; (arbAt s.arb (instKey (.gd 15))).winner (s.b.arbWindow (.gd 15) != 0) (fun r => (3 : BitVec 32).getLsbD r) = some 0 ∧
      s.arbStill (instGroup (.gd 15)) = false) ∧
    (let s := slate [(.ckr, CKR.STAT_LOCK, 1), (.pnd 0, PND.B_WINDOW_WINDOW, 0)]; (arbAt s.arb 0).winner (s.b.arbWindow (.pond 0) != 0) (fun r => (2 : BitVec 32).getLsbD r) = some 1 ∧
      s.b.arbWindow (instGroup (.pond 0)) = 0 ∧ s.arbStill (instGroup (.pond 0)) = false) :=
  ⟨by decide,
    by decide,
    by decide,
    by decide,
    by decide,
    by decide,
    by decide,
    by decide⟩

theorem witness_QueuePushAndPop :
    ((slate []).b.tagOk 512 true 5 = false) ∧
    (let s := slate []; s.b.tagOk me.src me.priv me.ctx = true) ∧
    (4 < ([1, 2, 3, 4, 5] : List (BitVec 64)).length) ∧
    ((slate [(.que 3, HDR.BLK_CTRL_EN, 0)]).b.enabled (quePage 65535) = false) ∧
    (let s := que1 (slate []) 65535 { Queue.init with ctx := 7 }; s.b.enabled (quePage 65535) = true ∧ me.priv = false ∧ s.b.flrCtx me.ctx = false ∧
      (queueAt s.que 65535).ctx ≠ me.ctx.val) ∧
    (let s := que1 (slate []) 65535 { Queue.init with ctx := 5, len := 4 }; let x := queueAt s.que 65535; s.doorbellOpen 65535 me ∧ x.fault = false ∧
      4 ≤ x.freeSlots ∧ x.freeSlots < 5 ∧ x.noRoom 4 = false ∧ x.avail = 0) ∧
    (let s := que1 (slate []) 65535 { Queue.init with ctx := 5, len := 4, writeD := 4 }; let x := queueAt s.que 65535; s.doorbellOpen 65535 me ∧
      x.fault = false ∧ x.freeSlots < 1 ∧ x.avail ≠ 0 ∧ x.cached (x.dpa x.readD) = none) ∧
    (let s := que1 (slate []) 65535 { Queue.init with ctx := 5, len := 4, writeD := 1, cache := [(0, ⟨77, true, false, true⟩)] }; let x := queueAt s.que 65535;
      s.doorbellOpen 65535 me ∧ x.avail ≠ 0 ∧ x.fault = false ∧ x.cached (x.dpa x.readD) = some ⟨77, true, false, true⟩ ∧
      SMap.get (fun _ => false) x.bad (x.dpa x.readD) = false ∧ (⟨77, true, false, true⟩ : QItem).flip = false) :=
  ⟨by decide,
    by decide,
    by decide,
    by decide,
    by decide,
    by unfold State.doorbellOpen; decide,
    by unfold State.doorbellOpen; decide,
    by unfold State.doorbellOpen; decide⟩
theorem witness_QueueMarksReleasesAndEngine :
    (let s := que1 (slate []) 65535 { Queue.init with ctx := 5, len := 4, readD := 1, writeD := 2 }; let x := queueAt s.que 65535; s.doorbellOpen 65535 me ∧
      x.len ≠ 0 ∧ (2 : Word) ≠ 0 ∧ x.readD < (2 : Word).toNat) ∧
    (let s := que1 (slate []) 0 { Queue.init with ctx := 5 }; s.doorbellOpen 0 me ∧ (queueAt s.que 0).len = 0) ∧
    ((queueAt (que1 (slate []) 65535 { Queue.init with fault := true }).que 65535).fault = true) ∧
    (let c := (List.range 8).map fun i => (0x1003FFFFFC0 + 8 * i, (⟨0, false, false, true⟩ : QItem));
      let s := que1 (slate [(.pnd 127, PND.BMASK_CTX.nth 31, 0x20)]) 65535 { Queue.init with ctx := 5, base := 0x1003FFFFFC0, len := 8, writeD := 8, cache := c }; let x := queueAt s.que 65535; x.fault = false ∧ x.wait = [] ∧ SMap.rising 0 x.cache = true ∧ x.dueBlock false = some 0x400FFFFFF ∧
      ((s.access (65535 / 16384) (x.blockReq 65535 0x400FFFFFF) true).map (fun y => y.2.status)).toOption = some stOK) ∧
    (let s := que1 (slate [(.pnd 127, PND.BMASK_CTX.nth 31, 0x20)]) 65535 { Queue.init with ctx := 5, base := 0x1003FFFFFC0, len := 8, writeD := 8, wait := [⟨some me, .pop⟩] };
      let x := queueAt s.que 65535; x.wait = [⟨some me, .pop⟩] ∧ x.avail ≠ 0 ∧ x.cached (x.dpa x.readD) = none ∧ x.fault = false ∧ qAsleep s.b 65535 = false ∧
      ((s.access (65535 / 16384) (x.readReq 65535) false).map (fun y => y.2.isData)).toOption = some true) ∧
    ((queueAt (slate []).que 65535).wait = []) ∧
    (let c := (List.range 8).map fun i => (8 * i, (⟨0, false, false, true⟩ : QItem));
      let s := que1 (slate gd0Open.tail) 65535 { Queue.init with len := 8, writeD := 8, cache := c }; let x := queueAt s.que 65535; x.fault = false ∧
      x.dueBlock x.mustMakeRoom = some 0 ∧ (s.access (65535 / 16384) (x.blockReq 65535 0) true).toOption = none) ∧
    ((queueAt (slate []).que 65535).dueBlock (queueAt (slate []).que 65535).mustMakeRoom = none) ∧
    (let c : SMap QItem := [(0x1003FFFFFC0, ⟨1, false, false, true⟩)];
      let s := que1 (slate [(.que 3, HDR.BLK_CTRL_SLEEP_PERMIT, 1), (.que 3, HDR.BLK_STAT_STATE, stActive)]) 65535 { Queue.init with len := 8, base := 0x1003FFFFFC0, writeD := 1, cache := c };
      s.b.bit (.que 3) HDR.BLK_CTRL_SLEEP_PERMIT = true ∧ s.b.fld (.que 3) HDR.BLK_STAT_STATE = stActive ∧
      (towerQueues s 3).all (fun n => decide ((queueAt s.que n).wait = [])) = true ∧ (drainTower s 3).toOption.isSome = true) ∧
    (let c : SMap QItem := [(0, ⟨1, false, false, true⟩)];
      let s := que1 (slate [(.que 3, HDR.BLK_CTRL_SLEEP_PERMIT, 1), (.que 3, HDR.BLK_STAT_STATE, stActive), (.gd 0, GD.RATE_CUR, 1),
      (.enc 0, ENCT.RG_CTRL_EN, 1), (.enc 0, ENCT.RG_CTRL_MASK, 1), (.enc 0, ENCT.RG_LIMIT_LIMIT, 1)]) 65535 { Queue.init with len := 8, writeD := 1, cache := c };
      s.b.bit (.que 3) HDR.BLK_CTRL_SLEEP_PERMIT = true ∧ s.b.fld (.que 3) HDR.BLK_STAT_STATE = stActive ∧
      (towerQueues s 3).all (fun n => decide ((queueAt s.que n).wait = [])) = true ∧ (drainTower s 3).toOption.isNone = true) ∧
    (let s := que1 (slate [(.que 3, HDR.BLK_CTRL_SLEEP_PERMIT, 1), (.que 3, HDR.BLK_STAT_STATE, stActive)]) 65535 { Queue.init with len := 1 };
      ∀ n ∈ towerQueues s 3, (queueAt s.que n).dirtySlots = [] ∧ (queueAt s.que n).wait = []) :=
  ⟨by unfold State.doorbellOpen; decide,
    by unfold State.doorbellOpen; decide,
    by decide,
    by decide +kernel,
    by decide +kernel,
    by decide,
    by decide +kernel,
    by decide,
    by decide +kernel,
    by decide +kernel,
    by decide⟩
theorem witness_QueuePageCommands :
    (let s := que1 (slate [(.que 3, QUE.Q_SEL_QUEUE, 16383)]) 65535 { Queue.init with pend := true }; s.b.qSel 3 = 65535 ∧ (queueAt s.que 65535).pend = true) ∧
    (let s := que1 (slate [(.que 3, QUE.Q_SEL_QUEUE, 16383)]) 65535 { Queue.init with shLen := 1, shBase := 0x30000000000 }; let x := queueAt s.que (s.b.qSel 3);
      x.pend = false ∧ x.shLen ≠ 0 ∧ ¬ bodyOk 3 x.shBase x.shLen) ∧
    (let s := que1 (slate []) 49152 { Queue.init with shCtx := 7, len := 1, writeD := 1 }; let x := queueAt s.que (s.b.qSel 3); x.pend = false ∧ x.shCtx ≠ x.ctx ∧ x.writeD ≠ 0) ∧
    (let s := que1 (slate []) 49152 { Queue.init with shLen := 0x4000000 }; let x := queueAt s.que (s.b.qSel 3); x.pend = false ∧ bodyOk 3 x.shBase x.shLen = true ∧
      x.shCtx = x.ctx ∧ qAsleep s.b (s.b.qSel 3) = false ∧ x.wait = []) ∧
    (let y := Queue.init; (y.pend && y.fits) = false) ∧
    (let s := que1 (slate []) 65535 { Queue.init with base := 64, len := 8, rel := 7, writeD := 1, pend := true, shBase := 120, shLen := 1 }; let y := queueAt s.que 65535;
      (y.pend && y.fits) = true ∧ y.writeD ≠ 0 ∧ y.base + 8 * y.rel = y.shBase + 8 * ((y.base + 8 * y.rel - y.shBase) / 8)) :=
  ⟨by decide,
    by decide,
    by decide,
    by decide,
    by decide,
    by decide⟩
theorem witness_ScalarInstructions :
    (let s := gk1 (s1 5) []; let k := s.gko.at 127; s.gkReady 127 ∧ k.sTag 1 = false ∧ k.sTag 31 = false ∧ (31 : BitVec 16).toNat < 32 ∧ 32 ≤ (32 : BitVec 16).toNat) ∧
    (let s := gk1 { s1 5 with sP := 0x80000000 } []; s.gkReady 127 ∧ (s.gko.at 127).sTag 31 = true) :=
  ⟨by unfold State.gkReady rowQuiet; decide +kernel,
    by unfold State.gkReady rowQuiet; decide +kernel⟩
theorem witness_GeckoControlInstructions :
    (let s := gk1 (s1 5) []; s.gkReady 127 ∧ (s.gko.at 127).sTag 1 = false ∧ s.b.geckoLine 127 3 = false) ∧
    (let s := poke (gk1 (s1 5) []) line3; s.gkReady 127 ∧ s.b.geckoLine 127 3 = true) ∧
    (let s := gk1 { s1 5 with sP := 2 } []; s.gkReady 127 ∧ (s.gko.at 127).sTag 1 = true) :=
  ⟨by unfold State.gkReady rowQuiet; decide +kernel,
    by unfold State.gkReady rowQuiet; decide +kernel,
    by unfold State.gkReady rowQuiet; decide +kernel⟩
theorem witness_BranchesAndLoops :
    (let s := gk1 (s1 5) []; let k := s.gko.at 127; s.gkReady 127 ∧ s.b.gkPc 127 < 4095 ∧ k.depth = 0 ∧ k.sTag 1 = false ∧ k.sreg 1 ≠ 0 ∧ k.sreg 2 = 0) ∧
    (let s := gk1 { Gecko.init with depth := 4, loops := [(11, 9)] } []; let k := s.gko.at 127; s.gkReady 127 ∧ s.b.gkPc 127 < 9 ∧
      9 ≤ (k.loopv 2 (k.depth - 1)).toNat ∧ 4 ≤ k.depth) ∧
    (let s := gk1 Gecko.init [(.gkc 127, GKC.PC_PC, 4095)]; s.gkReady 127 ∧ 4095 ≤ s.b.gkPc 127) ∧
    (let s := gk1 { Gecko.init with depth := 2, loops := [(1, 2), (5, 1), (8, 9), (9, 7)] } [(.gkc 127, GKC.PC_PC, 7)]; let k := s.gko.at 127; s.gkReady 127 ∧
      k.depth ≠ 0 ∧ (k.loopv 2 (k.depth - 1)).toNat = s.b.gkPc 127 ∧ gkFetch s.gko 127 (s.b.gkPc 127) = decBundle 0 0 0 0 ∧ 1 < (k.loopv 0 (k.depth - 1)).toNat) ∧
    (let s := gk1 { Gecko.init with depth := 1, loops := [(0, 1), (8, 7)] } [(.gkc 127, GKC.PC_PC, 7)]; let k := s.gko.at 127; s.gkReady 127 ∧
      k.depth = 1 ∧ (k.loopv 2 (k.depth - 1)).toNat = s.b.gkPc 127 ∧ gkFetch s.gko 127 (s.b.gkPc 127) = decBundle 0 0 0 0 ∧ (k.loopv 0 (k.depth - 1)).toNat ≤ 1) :=
  ⟨by unfold State.gkReady rowQuiet; decide +kernel,
    by unfold State.gkReady rowQuiet; decide +kernel,
    by unfold State.gkReady rowQuiet; decide +kernel,
    by unfold State.gkReady rowQuiet; decide +kernel,
    by unfold State.gkReady rowQuiet; decide +kernel⟩
theorem witness_LoadInstructions :
    (let s := gk1 (s1 0x1FFFC) []; s.gkReady 127 ∧ s.reaches 127 false (.acc .lds 31 atS1 0) false [.word 8191]) ∧
    (let s := gk1 (s1 0x3FFFC) []; s.gkReady 127 ∧ s.reaches 127 true (.acc .lds 31 atS1 0) false [.word 12287]) ∧
    (let s := gk1 (s1 0x17FFFFC) [(.pnd 127, PND.OWN_OWNER.nth 248, 1)]; s.gkReady 127 ∧ s.reaches 127 false (.acc .lds 31 atS1 0) false [.row 4095 8191]) ∧
    (let s := gk1 { s1 0x40000040 with cache := [(1, some ⟨1, 5, false⟩)] } []; s.gkReady 127 ∧ s.reaches 127 false (.acc .lds 31 atS1 0) false [.half 1 0]) ∧
    (let s := gk1 (s1 0x1FFFE) []; s.gkReady 127 ∧ s.reaches 127 false (.acc .ldbh 15 atS1 0) false [.word 8191]) ∧
    (let s := gk1 (s1 0x1FFFF) []; s.gkReady 127 ∧ s.reaches 127 false (.acc .ldbb 15 atS1 0) false [.word 8191]) ∧
    (let s := gk1 (s1 0x1FF80) []; s.gkReady 127 ∧ s.reaches 127 false (.acc .ldv 15 atS1 0) false [.word 8188, .word 8189, .word 8190, .word 8191]) ∧
    (let s := gk1 (s1 0x7FFFFFFF) []; s.gkReady 127 ∧ memLegal (.acc .pref 0 atS1 0) = true ∧ (s.gko.at 127).addrTag atS1 = false) ∧
    (let s := gk1 { s1 1 with sP := 2 } []; s.gkReady 127 ∧ memLegal (.acc .lds 31 atS1 0) = true ∧ memLegal (.acc .ldv 15 atS1 0) = true ∧
      memLegal (.acc .ldbh 15 atS1 0) = true ∧ memLegal (.acc .ldbb 15 atS1 0) = true ∧ memLegal (.acc .pref 0 atS1 0) = true ∧ (s.gko.at 127).addrTag atS1 = true) ∧
    (let s := gk1 (s1 1) []; let k := s.gko.at 127; s.gkReady 127 ∧ memLegal (.acc .ldv 0 atS1 0) = true ∧ k.addrTag atS1 = false ∧
      (k.address .lds atS1).toNat % 4 ≠ 0 ∧ (k.address .ldbh atS1).toNat % 2 ≠ 0 ∧ (k.address .ldv atS1).toNat % 128 ≠ 0) :=
  ⟨by
      dsimp only
      refine ⟨?_, by decide, ?_, ?_⟩
      · unfold State.gkReady rowQuiet; decide +kernel
      · exact cellOpen_of_openB (by decide +kernel)
      · dsimp only; decide +kernel,
    by
      dsimp only
      refine ⟨?_, by decide, ?_, ?_⟩
      · unfold State.gkReady rowQuiet; decide +kernel
      · exact cellOpen_of_openB (by decide +kernel)
      · dsimp only; decide +kernel,
    by
      dsimp only
      refine ⟨?_, by decide, ?_, ?_⟩
      · unfold State.gkReady rowQuiet; decide +kernel
      · exact cellOpen_of_openB (by decide +kernel)
      · dsimp only; decide +kernel,
    by
      dsimp only
      refine ⟨?_, by decide, ?_, ?_⟩
      · unfold State.gkReady rowQuiet; decide +kernel
      · exact cellOpen_of_openB (by decide +kernel)
      · dsimp only; decide +kernel,
    by
      dsimp only
      refine ⟨?_, by decide, ?_, ?_⟩
      · unfold State.gkReady rowQuiet; decide +kernel
      · exact cellOpen_of_openB (by decide +kernel)
      · dsimp only; decide +kernel,
    by
      dsimp only
      refine ⟨?_, by decide, ?_, ?_⟩
      · unfold State.gkReady rowQuiet; decide +kernel
      · exact cellOpen_of_openB (by decide +kernel)
      · dsimp only; decide +kernel,
    by
      dsimp only
      refine ⟨?_, by decide, ?_, ?_⟩
      · unfold State.gkReady rowQuiet; decide +kernel
      · exact cellOpen_of_openB (by decide +kernel)
      · dsimp only; decide +kernel,
    by unfold State.gkReady rowQuiet; decide +kernel,
    by unfold State.gkReady rowQuiet; decide +kernel,
    by unfold State.gkReady rowQuiet; decide +kernel⟩
theorem witness_StoreInstructions :
    (let s := gk1 (s1 0x1FFFC) []; s.gkReady 127 ∧ s.reaches 127 false (.acc .sts 31 atS1 0) true [.word 8191]) ∧
    (let s := gk1 (s1 0x1000000) [(.pnd 127, PND.OWN_OWNER, 1)]; s.gkReady 127 ∧ s.reaches 127 false (.acc .sts 31 atS1 0) true [.row 4064 0]) ∧
    (let s := gk1 { s1 0x40000060 with cache := [(1, some ⟨2, 5, false⟩)] } []; s.gkReady 127 ∧ s.reaches 127 false (.acc .sts 31 atS1 0) true [.half 1 1]) ∧
    (((gk1 { s1 0x40000060 with cache := [(1, some ⟨2, 5, false⟩)] } []).gko.at 127).line 1 = some ⟨2, 5, false⟩) ∧
    (let s := gk1 (s1 0x1FF80) []; s.gkReady 127 ∧ s.reaches 127 false (.acc .stv 15 atS1 0) true [.word 8188, .word 8189, .word 8190, .word 8191]) ∧
    (let s := gk1 (s1 0x1FF80) []; let k := s.gko.at 127; s.gkReady 127 ∧ k.preg 0 ≠ 0 ∧ k.preg 7 = 0 ∧ (gkCells s.b 127 false (k.address .stv atS1).toNat 4).isSome = true ∧
      memLegal (.acc .stv 15 atS1 7) = true ∧ k.addrTag atS1 = false ∧ (k.address .stv atS1).toNat % 128 = 0) :=
  ⟨by
      dsimp only
      refine ⟨?_, by decide, ?_, ?_⟩
      · unfold State.gkReady rowQuiet; decide +kernel
      · exact cellOpen_of_openB (by decide +kernel)
      · dsimp only; decide +kernel,
    by
      dsimp only
      refine ⟨?_, by decide, ?_, ?_⟩
      · unfold State.gkReady rowQuiet; decide +kernel
      · exact cellOpen_of_openB (by decide +kernel)
      · dsimp only; decide +kernel,
    by
      dsimp only
      refine ⟨?_, by decide, ?_, ?_⟩
      · unfold State.gkReady rowQuiet; decide +kernel
      · exact cellOpen_of_openB (by decide +kernel)
      · dsimp only; decide +kernel,
    by decide +kernel,
    by
      dsimp only
      refine ⟨?_, by decide, ?_, ?_⟩
      · unfold State.gkReady rowQuiet; decide +kernel
      · exact cellOpen_of_openB (by decide +kernel)
      · dsimp only; decide +kernel,
    by unfold State.gkReady rowQuiet; decide +kernel⟩
theorem witness_VectorLanes :
    (let s := gk1 Gecko.init []; let k := s.gko.at 127; s.gkReady 127 ∧ (k.vTag 1 ||| k.vTag 2) &&& k.preg 0 = 0 ∧ k.vTag 1 &&& k.preg 0 = 0 ∧
      k.aTag 3 &&& k.preg 0 = 0 ∧ 15 < laneW false ∧ 7 < laneW true ∧ laneW false ≤ 16 ∧ laneW true ≤ 8) ∧
    (let s := gk1 { Gecko.init with vP := [(1, 0x8000000000000000)] } []; let k := s.gko.at 127; s.gkReady 127 ∧ k.vTag 1 &&& k.preg 0 ≠ 0) :=
  ⟨by unfold State.gkReady rowQuiet; decide +kernel,
    by unfold State.gkReady rowQuiet; decide +kernel⟩
theorem witness_MultiplyAccumulate :
    (let s := gk1 Gecko.init []; let k := s.gko.at 127; s.gkReady 127 ∧ (k.vTag 1 ||| k.vTag 2 ||| k.aTag 0) &&& k.preg 0 = 0 ∧ k.ovtrap = false) ∧
    (let s := gk1 { Gecko.init with ovtrap := true, v := [(1, 1), (2, 1)], ac := [(0, 0x7FFFFFFFFF)] } []; let k := s.gko.at 127; s.gkReady 127 ∧ k.ovtrap = true ∧
      overflows 40 (toS (accW false) (accElt false (k.acc 0) 0) + signedLane false (k.vreg 1) 0 * signedLane false (k.vreg 2) 0) = true ∧ (k.preg 0).getLsbD 0 = true) ∧
    (let s := gk1 { Gecko.init with vP := [(1, 1)], acP := [(0, 1)] } []; let k := s.gko.at 127; s.gkReady 127 ∧ k.vTag 1 &&& k.preg 0 ≠ 0 ∧ k.aTag 0 &&& k.preg 0 ≠ 0) :=
  ⟨by unfold State.gkReady rowQuiet; decide +kernel,
    by unfold State.gkReady rowQuiet; decide +kernel,
    by unfold State.gkReady rowQuiet; decide +kernel⟩

theorem witness_BundlesFaultOrIssue :
    (let s := slate []; s.gkIssues 127 = false ∧ s.b.gkRun 127 ≠ rRUNNING) ∧
    (let s : State := { slate [(.gkc 127, GKC.STAT_RUN, rRUNNING)] with gko := ⟨[], [(127, { Gecko.init with stall := some (⟨some .nop, some .nop, some .nop, some .nop⟩, true), looked := true })]⟩ };
      s.gkIssues 127 = false ∧ (s.gko.at 127).looked = true) ∧
    (let s := gk1 (s1 0x17FFFFC) []; s.gkReady 127 ∧ (bundleFaults s.b 127 (s.gko.at 127) 0 (decBundle 0 0x0FE08000 0 0)).head? = some (1, (cFENCE, 0x17FFFFC)) ∧
      s.b.pondUp 127 = true) ∧
    (let s : State := { gk1 Gecko.init [] with gko := ⟨[(127 * 16384, poisonRow)], []⟩ }; s.gkIssues 127 = true ∧ gkFetchOk s.gko 127 (s.b.gkPc 127) = false) ∧
    (let s := gk1 Gecko.init []; s.gkReady 127 ∧ ((bundleFaults s.b 127 (s.gko.at 127) 0 (decBundle 0 0 0 0xFFFFFFFF)).head?).map Prod.fst = some 3 ∧
      3 ∈ illegalSlots (s.gko.at 127) 0 (decBundle 0 0 0 0xFFFFFFFF)) ∧
    (let s := gk1 (s1 5) []; let k := s.gko.at 127; s.gkReady 127 ∧ k.sTag 1 = false ∧ k.sTag 2 = false ∧ k.sTag 31 = false ∧ (31 : Fin 32) ≠ 0 ∧
      decMem 0x13E00000 = some (.acc .sts 31 (.sreg 0 0) 0) ∧ 16383 ≠ xmWord0) :=
  ⟨by decide,
    by decide,
    by unfold State.gkReady rowQuiet; decide +kernel,
    by decide +kernel,
    by unfold State.gkReady rowQuiet; decide +kernel,
    by unfold State.gkReady rowQuiet; decide +kernel⟩
theorem witness_GeckoRunControl :
    (let s := gkStop Gecko.init [(.gkc 127, GKC.STAT_RUN, rSTOPPED)]; s.b.gkRun 127 = rSTOPPED) ∧
    (let s := gkStop Gecko.init [(.gkc 127, GKC.STAT_RUN, rEXCEPTION), (.gkc 127, GKC.BIND_GATE, 1), (.gkc 127, GKC.BIND_CTX, 7)]; s.b.gkRun 127 = rEXCEPTION ∧
      s.b.bit (gkPage 127) GKC.BIND_GATE = true ∧ s.b.gkCtx 127 ≠ s.b.fld (.chm (tw (127 / 32))) CHM.STAT_LIVE) ∧
    (let s := gk1 Gecko.init []; ¬ (s.b.gkRun 127 = rSTOPPED ∨ s.b.gkRun 127 = rHALTED ∨ s.b.gkRun 127 = rEXCEPTION) ∧ 1 ≤ s.b.gkRun 127 ∧ s.b.gkRun 127 ≤ 3 ∧
      (s.gko.at 127).looked = false) ∧
    (let s := gk1 { Gecko.init with stall := some (⟨some .nop, some .nop, some .nop, some .nop⟩, false), looked := true } []; 1 ≤ s.b.gkRun 127 ∧ s.b.gkRun 127 ≤ 3 ∧
      (s.gko.at 127).looked = true) ∧
    (let s := gkStop Gecko.init [(.gkc 127, GKC.STAT_RUN, 7)]; 3 < s.b.gkRun 127) ∧
    (let s := gkStop Gecko.init [(.ckr, CKR.STAT_LOCK, 1), (.gkc 127, GKC.STAT_RUN, rSTOPPED), (.gkc 127, GKC.BIND_GATE, 1), (.gkc 127, GKC.BIND_CTX, 7)];
      s.b.gkRun 127 = rSTOPPED ∧ (if s.b.bit (gkPage 127) GKC.BIND_GATE = true ∧ s.b.gkCtx 127 ≠ s.b.fld (.chm (tw (127 / 32))) CHM.STAT_LIVE then rPAUSED else rRUNNING) = rPAUSED) ∧
    ((gkStop Gecko.init []).b.gated = true) ∧
    (let s := gkStop Gecko.init [(.ckr, CKR.STAT_LOCK, 1), (.gkc 127, GKC.STAT_RUN, rSTOPPED)]; s.b.gkRun 127 = rSTOPPED ∧ (s.gko.at 127).stall = none ∧ (s.gko.at 127).looked = false ∧ s.b.gated = false ∧
      s.b.bit (gkPage 127) GKC.BIND_GATE = false ∧ gkFetchOk s.gko 127 (s.b.gkPc 127) = true ∧
      rowQuiet (s.gko.word 127 (imWord (s.b.gkPc 127))) ∧ gkFetch s.gko 127 (s.b.gkPc 127) = decBundle 0 0 0 0) ∧
    (let s := poke (gk1 { Gecko.init with waitOn := 3 } [(.gkc 127, GKC.STAT_RUN, rWAITING)]) line3; s.b.gkRun 127 = rWAITING ∧ s.b.geckoLine 127 (s.gko.at 127).waitOn = true) ∧
    (let s := gk1 { Gecko.init with waitOn := 3 } [(.gkc 127, GKC.STAT_RUN, rWAITING)]; ¬ (s.b.gkRun 127 = rWAITING ∧ s.b.geckoLine 127 (s.gko.at 127).waitOn = true)) ∧
    (let s := gkStop Gecko.init [(.gkc 127, HDR.BLK_CTRL_SLEEP_PERMIT, 0)]; s.b.bit (gkPage 127) HDR.BLK_CTRL_SLEEP_PERMIT = false) ∧
    (let s := gkStop Gecko.init [(.gkc 127, HDR.BLK_CTRL_SLEEP_PERMIT, 1), (.gkc 127, GKC.STAT_RUN, rHALTED)]; s.b.bit (gkPage 127) HDR.BLK_CTRL_SLEEP_PERMIT = true ∧
      s.b.gkRun 127 ≠ rRUNNING ∧ s.b.dmaAny 127 = false ∧ (s.gko.at 127).stall = none ∧ s.b.fld (gkPage 127) HDR.BLK_STAT_STATE = stActive ∧ (s.gko.at 127).cache = [] ∧ (s.gko.at 127).fills = []) ∧
    (let s := gkStop { Gecko.init with fills := [⟨1, false, true, none, none⟩] } []; (s.gko.at 127).fills ≠ []) :=
  ⟨by decide,
    by decide,
    by decide,
    by decide,
    by decide,
    by decide +kernel,
    by decide,
    by unfold rowQuiet; decide +kernel,
    by decide +kernel,
    by decide +kernel,
    by decide,
    by decide,
    by decide⟩
theorem witness_DmaChannels :
    ((slate [(.gkc 127, GKC.DMA_STAT_BUSY.nth 3, 1)]).b.dmaBusy 127 3 = true) ∧
    (let b := (slate []).b; b.dmaBusy 127 3 = false ∧ chanEnds b 127 ⟨0x1FFE0, 32, 32, true, false, 0, false⟩ = none ∧ chanEnds b 127 ⟨0, 0, 0, false, false, 0, false⟩ = some 0 ∧
      chanEnds b 127 ⟨1, 0, 32, false, false, 0, false⟩ = some 1 ∧ chanEnds b 127 ⟨0x1FFE0, 0, 64, false, false, 0, false⟩ = some 2) ∧
    (SMap.get (fun _ => none) Gecko.init.chan 3 = none) ∧
    (let x : Chan := ⟨0, 0x1003FFFFFC0, 64, false, false, 0, false⟩; let s := gkStop { Gecko.init with chan := [(3, some x)] } pad0Open;
      SMap.get (fun _ => none) (s.gko.at 127).chan 3 = some x ∧ ((dmaRun s 127 x []).map (fun y => decide (y.2.2.1 < 16) &&
      decide (SMap.get (fun _ => none) (y.1.gko.at 127).chan 3 = some x) && (y.1.gko.at 127).stall.isNone)).toOption = some true ∧ x.qen = false) ∧
    (let x : Chan := ⟨0, 0, 64, false, false, 0, false⟩; let s := gkStop { Gecko.init with chan := [(3, some x)] } gd0Open.tail;
      SMap.get (fun _ => none) (s.gko.at 127).chan 3 = some x ∧ (dmaRun s 127 x []).toOption = none) ∧
    (let x : Chan := ⟨0, 0x1003FFFFFC0, 64, false, false, 0, false⟩; let s := gkStop { Gecko.init with chan := [(3, some x)] } pad0Open; x.dpa % 64 = 0 ∧
      (s.gko.at 127).stall = none ∧ chanWord x = some xmWord0 ∧ x.ran = false ∧ x.toDpa = false ∧ x.count = 64 ∧
      ((s.engineAccess (engineReq (256 + 127) false (s.b.gkCtx 127) x.dpa 64 0 false 0 false false) false []).map (fun y =>
      y.2.1.isData && !y.2.1.poisonL && !y.2.1.poisonH && y.2.2.isEmpty && (y.1.gko.at 127).stall.isNone)).toOption = some true) ∧
    (let s := gk1 Gecko.init []; s.gkReady 127 ∧ s.b.dmaBusy 127 3 = false) ∧
    (let s := gk1 Gecko.init [(.gkc 127, GKC.DMA_STAT_BUSY.nth 3, 1)]; s.gkReady 127 ∧ s.b.dmaBusy 127 3 = true) ∧
    (let s := gk1 { Gecko.init with s := [(28, 0), (29, 64), (31, 64)] } []; let k := s.gko.at 127; s.gkReady 127 ∧ (28 : Fin 32).val % 4 = 0 ∧ 4 ≤ (28 : Fin 32).val ∧ (28 : Fin 32).val ≤ 28 ∧
      (∀ i, i < 4 → k.sTag (28 + i) = false) ∧ s.b.dmaBusy 127 3 = false ∧ chanEnds s.b 127 ⟨0, 64, 64, true, false, 0, false⟩ = none) :=
  ⟨by decide,
    by decide,
    by decide,
    by decide +kernel,
    by decide +kernel,
    by decide +kernel,
    by unfold State.gkReady rowQuiet; decide +kernel,
    by unfold State.gkReady rowQuiet; decide +kernel,
    by unfold State.gkReady rowQuiet; decide +kernel⟩
theorem witness_GeckoCachesAndMemories :
    ((slate []).b.bit (gkPage 127) GKC.LCTRL_BUSY = false) ∧
    (let s := gkStop { Gecko.init with cache := [(1, some ⟨2, 5, false⟩)] } [(.gkc 127, GKC.LCTRL_BUSY, 1)]; s.b.bit (gkPage 127) GKC.LCTRL_BUSY = true ∧
      (s.gko.at 127).stall = none) ∧
    (let s := gkStop { Gecko.init with cache := [(1, some ⟨3, 5, false⟩)] } ((.gkc 127, GKC.LCTRL_BUSY, 1) :: gd0Open); s.b.bit (gkPage 127) GKC.LCTRL_BUSY = true ∧
      (s.writeBackReq 127 1 5 false).map (fun y => !y.2 && (y.1.gko.at 127).stall.isNone) = some true) ∧
    ((Gecko.init.fills.find? fun f => f.line == 1 && f.ans.isSome) = none) ∧
    (let s := gkStop { Gecko.init with fills := [⟨1, false, false, some (⟨true, 0, 5, false, false⟩, 2), none⟩] } []; let k := s.gko.at 127;
      (k.fills.find? fun f => f.line == (1 : BitVec 42).toNat && f.ans.isSome) = some ⟨1, false, false, some (⟨true, 0, 5, false, false⟩, 2), none⟩ ∧ k.stall = none ∧
      gkVictim s 127 1 = none ∧ k.line 1 = none) ∧
    (let s := gkStop Gecko.init [(.gkc 127, GKC.STAT_RUN, rEXCEPTION)]; s.b.gkRun 127 = rEXCEPTION ∧ s.b.dmaAny 127 = false ∧ (s.gko.at 127).zeroing = false) ∧
    (let s := gkStop { Gecko.init with zeroing := true } []; s.canonical ∧ (s.gko.at 127).zeroing = true) ∧
    (dpaRegion 0x30003FDFFC0 = .gecko 127 0x5FFC0 ∧ gkWordOf (0x5FFC0 / 64 * 64) = 12286) ∧
    ((slate []).b.tagOk 777 false 5 = false ∧ dpaRegion 0x30003F80000 = .gecko 127 0) ∧
    (let r : HopReq := ⟨777, false, 0, 0, 5, 0x30003F80020, 64, false, 0, 0, false, false⟩; (slate []).b.tagOk r.src r.priv r.ctx = true ∧
      dpaRegion r.addr.toNat = .gecko 127 0x20 ∧ oneBlock r = false) ∧
    (let s := slate [(.gkc 127, HDR.BLK_CTRL_EN, 0)]; s.b.sleeps (gkPage 127) = false ∧ s.b.enabled (gkPage 127) = false ∧ s.b.tagOk 777 false 0 = true) ∧
    (let s := slate []; let r : HopReq := ⟨777, false, 0, 0, 5, 0x30003F80000, 64, false, 0, 0, false, false⟩; dpaRegion r.addr.toNat = .gecko 127 0 ∧
      s.b.tagOk r.src r.priv r.ctx = true ∧ oneBlock r = true ∧ s.b.sleeps (gkPage 127) = false ∧
      s.b.enabled (gkPage 127) = true ∧ s.b.upperDown (127 / 32) = false ∧ r.ctx.val = s.b.gkCtx 127 ∧ s.b.gkRun 127 = rSTOPPED ∧ reqEnables r = BitVec.allOnes 64) ∧
    (let s := gk1 Gecko.init [(.gkc 127, GKC.BIND_CTX, 7)]; (0 : Nat) < 0x10000 ∧ s.b.gkRun 127 = rRUNNING ∧ s.b.enabled (gkPage 127) = true ∧ (0 : Ctx).val ≠ s.b.gkCtx 127) :=
  ⟨by decide,
    by decide,
    by decide +kernel,
    by decide,
    by decide +kernel,
    by decide,
    by unfold State.canonical; decide,
    by decide,
    by decide,
    by decide,
    by decide,
    by decide,
    by decide⟩
theorem witness_ClockEdgesLoadFlipFlops :
    ((slate []).b.gated = true ∧ (slate [(.ckr, CKR.STAT_LOCK, 1)]).b.gated = false) ∧
    (let s := oneClutch; let c := clutchAt 3 0 0; s.b.gated = false ∧ s.cfg.clutches = [c] ∧
      (∀ n, n < 16 → s.cfg.srType c n ≠ 2) ∧ (∀ k, k < 2 → s.cfg.clkSrc c k < 32) ∧ s.b.we (cTower c) (s.liveAt c) = true ∧ s.cutOff (cTower c) (cMarsh c) = false ∧
      s.cfg.clkInv c (s.cfg.csOf c 0) = false ∧ edgeBit (1 <<< 96) (cTower c) (s.cfg.clkSrc c (s.cfg.csOf c 0)) = true ∧
      edgePasses s.b s.clk (cTower c) (s.cfg.clkSrc c (s.cfg.csOf c 0)) = true) ∧
    (oneClutch.settle.edgeNext false false (clutchAt 3 0 0) 0 = some true) :=
  ⟨by decide,
    by decide +kernel,
    by rw [oneClutch_settled]; decide +kernel⟩

theorem witness_GddrControllers :
    (let s := slate [(.gd 15, GD.RATE_MAX, 0), (.gd 15, HDR.BLK_CTRL_EN, 0)]; s.admits (.gd 15) ∧ s.b.rateMax 15 = 0) ∧
    (let s := slate [(.gd 15, GD.RATE_MAX, 24)]; s.b.enabled (.gd 15) = true) ∧
    (let s := slate [(.gd 0, GD.RATE_MAX, 12), (.gd 0, HDR.BLK_CTRL_EN, 0)]; s.b.enabled (.gd 0) = false ∧ s.b.gdTraining 0 = false ∧ s.b.rateMax 0 ≠ 0) ∧
    (let s := slate []; s.b.gdTraining 15 = false) ∧
    (let s : State := { slate [(.gd 15, GD.STAT_TRAINING, 1), (.gd 15, GD.RATE_MAX, 14)] with gdr := { State.reset.gdr with trKind := [(15, 3)] } };
      s.b.gdTraining 15 = true ∧ SMap.get (fun _ => 0) s.gdr.trKind 15 ≠ 2 ∧ SMap.get (fun _ => []) s.gdr.held 15 = [] ∧
      (gdRates 13 (s.b.rateMax 15)).find? (fun r => ([13, 31] : List (Fin 32)).any (fun q => q.val == r)) = none ∧
      (gdRates 13 (s.b.rateMax 15)).find? (fun r => ([12] : List (Fin 32)).any (fun q => q.val == r)) = some 12) ∧
    (gdRetrainDue (slate []).b (slate []).gdr 15 = false) ∧
    (let s : State := { slate [(.gd 15, GD.STAT_TRAINING, 1)] with gdr := { State.reset.gdr with trKind := [(15, 2)] } };
      gdRetrainDue s.b s.gdr 15 = true ∧ SMap.get (fun _ => []) s.gdr.held 15 = []) ∧
    (let s := slate [(.gd 15, GD.RATE_CUR, 0)]; s.b.fld (.gd 15) GD.RATE_CUR = 0) ∧
    (let s := slate [(.ckr, CKR.STAT_LOCK, 1), (.gd 15, GD.RATE_CUR, 12)]; s.b.fld (.gd 15) GD.RATE_CUR ≠ 0 ∧ s.b.bit (.gd 15) GD.STAT_SREF = false ∧ s.b.gated = false ∧
      85 < (86 : Fin 256).val ∧ s.b.bit (.gd 15) GD.STAT_HOT = false) ∧
    (let s := slate [(.gd 15, GD.STAT_INIT_BUSY, 1)]; s.b.bit (.gd 15) GD.STAT_INIT_BUSY = true ∧ s.b.enabled (.gd 15) = true) ∧
    (let s := slate [(.ckr, CKR.STAT_LOCK, 1), (.gd 15, GD.RATE_CUR, 12), (.gd 15, HDR.BLK_CTRL_SLEEP_PERMIT, 1), (.gd 15, HDR.BLK_STAT_STATE, stActive)]; s.b.bit (.gd 15) HDR.BLK_CTRL_SLEEP_PERMIT = true ∧
      s.b.fld (.gd 15) GD.RATE_CUR ≠ 0 ∧ s.b.bit (.gd 15) GD.STAT_INIT_BUSY = false ∧ s.b.gdTraining 15 = false ∧ SMap.get (fun _ => []) s.gdr.held 15 = [] ∧
      s.b.fld (.gd 15) HDR.BLK_STAT_STATE = stActive ∧ s.b.gated = false ∧ s.b.moltsAt 15 = false) ∧
    (let s := slate [(.molt 0, MOLT.STAT_BUSY, 1), (.gd 15, GD.CFG_K, 15)]; s.b.moltsAt 15 = true) ∧
    (let s := slate [(.gd 15, HDR.BLK_CTRL_EN, 0)]; s.b.enabled (.gd 15) = false ∧ s.b.bit (.gd 15) GD.STAT_INIT_BUSY = false) ∧
    (let s := slate [(.gd 15, GD.STAT_INIT_BUSY, 1)]; s.b.bit (.gd 15) GD.STAT_INIT_BUSY = true ∧ SMap.get (fun _ => []) s.gdr.held 15 = [] ∧ s.canonical) ∧
    ((slate [(.gd 15, GD.PATROL_S, 0)]).b.fld (.gd 15) GD.PATROL_S = 0) ∧
    (let t := slate [(.ckr, CKR.STAT_LOCK, 1), (.gd 15, GD.RATE_CUR, 12), (.gd 15, GD.PATROL_S, 1), (.gd 15, GD.CFG_K, 15), (.gd 15, GD.PATROL_POS_LINE, 2)];
      let s : State := { t with gdr := { t.gdr with lines := [(lineKey 15 2, ⟨1, 0⟩)] } }; s.b.carveLo 15 / 64 ≠ 0 ∧ s.b.fld (.gd 15) GD.PATROL_S ≠ 0 ∧
      s.b.bit (.gd 15) GD.STAT_SREF = false ∧ s.b.fld (.gd 15) GD.RATE_CUR ≠ 0 ∧ s.b.gated = false ∧ s.b.gdTraining 15 = false ∧ s.b.bit (.gd 15) GD.STAT_INIT_BUSY = false ∧
      s.b.fld (.gd 15) GD.PATROL_POS_LINE % (s.b.carveLo 15 / 64) = 2 ∧
      (gdDecode (s.gdr.line 15 2)).2 = .corrected) ∧
    (let s : State := { slate [] with gdr := { State.reset.gdr with lines := [(lineKey 15 0, ⟨0x8421, 0⟩)] } }; (gdDecode (s.gdr.line 15 0)).2 = .bad ∧
      s.b.fld (.gd 15) GD.PATROL_POS_LINE = 0) ∧
    ((slate []).b.bit (.gd 15) HDR.ERR_CFG_RAW = false) ∧
    (let s := slate [(.gd 15, HDR.ERR_CFG_RAW, 1), (.gd 15, GD.CFG_K, 1), (.gd 15, GD.RAW_ADDR_LINE, 131071)]; s.b.bit (.gd 15) HDR.ERR_CFG_RAW = true ∧
      s.b.covered 15 (64 * s.b.fld (.gd 15) GD.RAW_ADDR_LINE) = true ∧ s.b.fld (.gd 15) GD.RAW_ADDR_LINE = 131071) :=
  ⟨by unfold State.admits; decide,
    by decide,
    by decide,
    by decide,
    by decide,
    by decide,
    by decide,
    by decide,
    by decide +kernel,
    by decide,
    by decide +kernel,
    by decide,
    by decide,
    by unfold State.canonical; decide,
    by decide,
    by decide +kernel,
    by decide +kernel,
    by decide,
    by decide +kernel⟩
theorem witness_EncryptionAndMolts :
    ((slate []).b.encPending = false ∧ (slate []).b.encWaits 0 = false) ∧
    (let t := slate [(.enc 0, HDR.BLK_STAT_COMMIT_PEND, 1)]; let s : State := { t with b := { t.b with commitParts := [(psrc (.enc 0), 1), (psrc (.enc 15), 1)] } };
      s.b.encPending = true ∧ s.b.encWaits 15 = true ∧ (s.admittedAt 15).any (encBlocks s.b 15) = false ∧ s.b.encWaits 0 = true) ∧
    (let t := slate [(.enc 0, HDR.BLK_STAT_COMMIT_PEND, 1)]; let s : State := { t with b := { t.b with commitParts := [(psrc (.enc 15), 1)] } };
      s.b.encPending = true ∧ s.b.encWaits 15 = true ∧ (s.admittedAt 15).any (encBlocks s.b 15) = false ∧
      (∀ d : Fin 16, d ≠ 15 → s.b.encWaits d = false)) ∧
    (let t := shSet (slate [(.enc 0, HDR.BLK_STAT_COMMIT_PEND, 1), (.enc 0, ENCT.RG_CTRL_EN, 1), (.enc 0, ENCT.RG_CTRL_MASK, 1), (.enc 0, ENCT.RG_LIMIT_LIMIT, 1)]) [(.enc 0, ENCT.RG_LIMIT_LIMIT, 0)];
      let s : State := { t with b := { t.b with commitParts := [(psrc (.enc 0), 1)] }, gdr := { t.gdr with held := [(0, [⟨false, anoleReq 0⟩])] } };
      s.b.encPending = true ∧ s.b.encWaits 0 = true ∧ (s.admittedAt 0).any (encBlocks s.b 0) = true) ∧
    (let s := slate [(.molt 0, MOLT.STAT_BUSY, 1), (.molt 0, MOLT.STAT_KEY_B, 255), (.molt 0, MOLT.STAT_OP, 1)]; s.b.fld (.molt 0) MOLT.STAT_BUSY = 1 ∧
      s.b.fld (.molt 0) MOLT.STAT_KEY_B = 255 ∧ s.b.fld (.molt 0) MOLT.STAT_OP = 1) ∧
    (let s := slate []; s.admits (.enc 15) ∧ ¬ (s.b.slotUsers 255 ≠ 0 ∨ (s.b.fld (.molt 0) MOLT.STAT_BUSY = 1 ∧ s.b.fld (.molt 0) MOLT.STAT_KEY_B = 255 ∧ s.b.fld (.molt 0) MOLT.STAT_OP = 1))) ∧
    (SMap.get (fun _ => []) (slate []).gdr.reseal 15 = []) ∧
    (let t := slate [(.ckr, CKR.STAT_LOCK, 1), (.gd 0, GD.RATE_CUR, 12), (.enc 0, ENCT.RG_CTRL_EN, 1), (.enc 0, ENCT.RG_LIMIT_LIMIT, 31)]; let s : State := { t with gdr := { t.gdr with reseal := [(0, [1])] } };
      SMap.get (fun _ => []) s.gdr.reseal 0 = 1 :: [] ∧ let u := s.gdAwake 0; (u.b.regionAt 0 (u.b.dpaOf 0 (4096 * 1))).isSome = true ∧ u.b.gdAway 0 = false ∧
      u.b.molting 0 = false ∧ SMap.get (fun _ => []) u.gdr.held 0 = []) ∧
    (let t := slate [(.ckr, CKR.STAT_LOCK, 1), (.gd 0, GD.RATE_CUR, 12), (.enc 0, ENCT.RG_CTRL_EN, 1), (.enc 0, ENCT.RG_LIMIT_LIMIT, 1), (.enc 0, ENCT.RG_STAT_MSTATE, 2)]; let s : State := { t with gdr := { t.gdr with reseal := [(0, [0])] } };
      SMap.get (fun _ => []) s.gdr.reseal 0 = 0 :: [] ∧ let u := s.gdAwake 0; (u.b.regionAt 0 (u.b.dpaOf 0 (4096 * 0))).isSome = true ∧ u.b.gdAway 0 = false ∧
      u.b.molting 0 = true ∧ u.b.bound 0 / 64 = 0) ∧
    (let t := slate [(.enc 0, ENCT.RG_CTRL_EN, 1), (.enc 0, ENCT.RG_LIMIT_LIMIT, 1)]; let s : State := { t with gdr := { t.gdr with reseal := [(0, [0])] } };
      SMap.get (fun _ => []) s.gdr.reseal 0 = 0 :: [] ∧ let u := s.gdAwake 0; (u.b.regionAt 0 (u.b.dpaOf 0 (4096 * 0))).isSome = true ∧ u.b.gdAway 0 = true) ∧
    (moltOk (slate []).b 1 255 0 = false ∧ moltOk (slate []).b 2 255 0 = false) ∧
    (let s := slate [(.enc 0, ENCT.RG_CTRL_EN.nth 255, 1), (.enc 0, ENCT.RG_CTRL_MODE.nth 255, 1), (.enc 0, ENCT.KS_STAT_STATE.nth 255, 1)];
      moltOk s.b 1 255 255 = true ∧ moltOk s.b 2 255 0 = true ∧ ∀ c : Fin 16, (s.b.regionPa c (regionOf (s.b.fld encHome) 255)).1 / 64 < 2 ^ 27) ∧
    ((slate []).b.mstate 255 ≠ 1) ∧
    (let t := slate [(.enc 0, ENCT.RG_CTRL_EN.nth 255, 1), (.enc 0, ENCT.RG_CTRL_AUTO_MOLT.nth 255, 1), (.enc 0, ENCT.RG_STAT_MSTATE.nth 255, 1), (.molt 0, MOLT.STAT_BUSY, 1)];
      t.b.emptySlot = some 0 ∧ (regionOf (t.b.fld encHome) 255).en = true ∧ (regionOf (t.b.fld encHome) 255).auto = true ∧ t.b.mstate 255 = 1 ∧
      SMap.get (fun _ => none) t.gdr.moltQ 255 = none ∧ t.b.moltBusy = true) ∧
    ((slate []).b.moltBusy = false ∧ (slate []).gdr.moltQ = []) ∧
    (let s := slate [(.ckr, CKR.STAT_LOCK, 1), (.gd 0, GD.RATE_CUR, 12), (.molt 0, MOLT.STAT_BUSY, 1), (.molt 0, MOLT.STAT_OP, 1), (.enc 0, ENCT.RG_CTRL_EN, 1), (.enc 0, ENCT.RG_LIMIT_LIMIT, 15)];
      s.b.moltBusy = true ∧ 64 * s.b.bound 0 < (s.b.regionPa 0 (regionOf (s.b.fld encHome) 0)).2 ∧ (s.gdAwake 0).b.gdAway 0 = false ∧ (s.gdAwake 0).b.gdRefuses 0 = false ∧
      SMap.get (fun _ => []) (s.gdAwake 0).gdr.held 0 = []) ∧
    (let s := slate [(.molt 0, MOLT.STAT_BUSY, 1), (.molt 0, MOLT.STAT_OP, 1), (.enc 0, ENCT.RG_CTRL_EN, 1), (.enc 0, ENCT.RG_LIMIT_LIMIT, 15)];
      64 * s.b.bound 0 < (s.b.regionPa 0 (regionOf (s.b.fld encHome) 0)).2 ∧ (s.gdAwake 0).b.gdAway 0 = true) ∧
    (moltState.gdAwake 0 = moltState ∧ moltState.b.moltBusy = true ∧ 64 * moltState.b.bound 0 < (moltState.b.regionPa 0 (regionOf (moltState.b.fld encHome) 0)).2 ∧ moltState.b.gdAway 0 = false ∧
      moltState.b.gdRefuses 0 = false ∧ moltState.b.fld (.molt 0) MOLT.STAT_OP = 1 ∧ moltState.b.fld (.molt 0) MOLT.STAT_KEY_B = 1 ∧ moltState.b.dpaOf 0 (64 * 0) = 0 ∧ (0 + 1) % 64 ≠ 0) ∧
    ((moltRead moltState.b moltState.gdr 0 0 0 (regionOf (moltState.b.fld encHome) 0)).2.2.2 = false ∧
      (let x := moltRead moltState.b moltState.gdr 0 0 0 (regionOf (moltState.b.fld encHome) 0); slotKey x.1 x.2.1 1 = some (.imp 0 1))) ∧
    (let s := slate [(.molt 0, MOLT.STAT_BUSY, 1), (.molt 0, MOLT.STAT_OP, 1), (.enc 0, ENCT.RG_CTRL_EN, 1), (.enc 0, ENCT.RG_BASE_BASE, 1), (.enc 0, ENCT.RG_LIMIT_LIMIT, 0)];
      s.b.moltBusy = true ∧ moltPassed s.b (regionOf (s.b.fld encHome) 0) = true ∧ s.gdr.moltAuto = false ∧ s.gdr.moltQ = [] ∧ s.b.fld (.molt 0) MOLT.STAT_OP = 1) :=
  ⟨by decide,
    by decide +kernel,
    by decide +kernel,
    by decide +kernel,
    by decide +kernel,
    by unfold State.admits; decide +kernel,
    by decide,
    by decide +kernel,
    by decide +kernel,
    by decide +kernel,
    by decide +kernel,
    by decide +kernel,
    by decide +kernel,
    by decide +kernel,
    by decide,
    by decide +kernel,
    by decide +kernel,
    by decide +kernel,
    moltState_reads,
    by decide +kernel⟩
theorem witness_LinksConfigurationAndRemoval :
    ((slate []).b.bif = false ∧ (slate []).phase ≠ 1) ∧
    ((slate [(.pci, PCI.LINK_STAT_BIF, 1)]).b.bif = true ∧ (slate [(.pci, PCI.LINK_STAT_BIF, 1)]).phase ≠ 1) ∧
    (let s := slate [(.pci, PCI.LINK_STAT_UP_A, 1)]; s.phase ≠ 1 ∧ s.b.bit .pci PCI.LINK_STAT_UP_A = true ∧ 0 ∈ s.b.portPfs false ∧ 7 + 1 ∈ s.b.portPfs false) ∧
    (let s := slate [(.ldr, LDR.STATE_PHASE, 1)]; s.phase = 1 ∧ s.loadSrc = 0 ∧ s.loadAlone) ∧
    ((slate []).portFree false = false) ∧
    (let t := slate [(.ckr, CKR.STAT_LOCK, 1), (.pkg, PKG.RST_STAT_STAGE, 5), (.pci, PCI.LINK_CTRL_MAX_SPEED, 5)]; let s : State := { t with boot := { t.boot with perstA := true } };
      s.portFree false = true ∧ s.b.bit .pci PCI.LINK_STAT_UP_A = false ∧ listedOr .maxSpeed [1, 2, 3, 4, 5, 6] (s.b.fld .pci PCI.LINK_CTRL_MAX_SPEED) < (6 : Fin 8).val) ∧
    (let t := slate [(.ckr, CKR.STAT_LOCK, 1), (.pkg, PKG.RST_STAT_STAGE, 5), (.pci, PCI.LINK_CTRL_MAX_SPEED, 6)]; let s : State := { t with boot := { t.boot with perstA := true } };
      s.portFree false = true ∧ s.b.bit .pci PCI.LINK_STAT_UP_A = false ∧ (6 : Fin 8).val ≤ listedOr .maxSpeed [1, 2, 3, 4, 5, 6] (s.b.fld .pci PCI.LINK_CTRL_MAX_SPEED) ∧
      (6 : Fin 8) ≠ 0 ∧ s.b.widthOk 16 = true ∧ s.ldr.armed = false ∧ s.b.widthOk 2 = false) ∧
    (let t := slate [(.ckr, CKR.STAT_LOCK, 1), (.pkg, PKG.RST_STAT_STAGE, 5), (.ldr, LDR.LOAD_WINDOW_MS_MS, 1)]; let s : State := { t with boot := { t.boot with perstA := true }, ldr := { t.ldr with armed := true } };
      s.portFree false = true ∧ s.ldr.armed = true ∧ s.b.fld .ldr LDR.STATE_WSTATE = 0 ∧ s.b.fld .ldr LDR.LOAD_WINDOW_MS_MS ≠ 0) ∧
    ((slate []).b.fnLinkUp 0 = false ∧ (slate []).b.fnLinkUp 265 = false) ∧
    (let s := slate [(.pci, PCI.LINK_STAT_UP_A, 1)]; s.b.fnLinkUp 10 = true ∧ s.fnPresent 10 = false ∧ s.fnPresent 8 = true ∧ s.pci.shut = false ∧ (s.b.fn 8).ready = false) ∧
    (let s : State := { slate [(.pci, PCI.LINK_STAT_UP_A, 1)] with pci := { State.reset.pci with shut := true } }; s.b.fnLinkUp 8 = true ∧ s.fnPresent 8 = true ∧ s.pci.shut = true) ∧
    (let s := funs (slate [(.pci, PCI.LINK_STAT_UP_A, 1)]) [(8, live)]; s.b.fnLinkUp 8 = true ∧ s.fnPresent 8 = true ∧ s.pci.shut = false ∧ s.b.gated = true) ∧
    (let s := funs (slate [(.ckr, CKR.STAT_LOCK, 1), (.pci, PCI.LINK_STAT_UP_A, 1)]) [(8, live)]; s.b.fnLinkUp 8 = true ∧ s.fnPresent 8 = true ∧ s.pci.shut = false ∧ (s.b.fn 8).ready = true ∧
      (s.b.fn 8).flr = false ∧ s.b.gated = false ∧ s.b.msixPend = []) ∧
    (let s := slate []; s.pci.rmvWait = false ∧ s.pci.shut = false ∧ s.pcieIdle = true ∧ s.b.bit .pci PCI.RMV_STAT_QUIESCED = false ∧ s.admits .pci) ∧
    (let s : State := { slate [] with pci := { State.reset.pci with rmvWait := true } }; s.pci.rmvWait = true ∧
      ({ s with b := { s.b with aonUs := 1000000 * s.b.fld .pci PCI.RMV_CTRL_TMO_S } } : State).pci.rmvAt + 1000000 * s.b.fld .pci PCI.RMV_CTRL_TMO_S ≤ 1000000 * s.b.fld .pci PCI.RMV_CTRL_TMO_S) ∧
    (let s : State := { slate [] with hop := { State.reset.hop with tags := [(tagKey 767 0, some ⟨false, anoleReq 0, 0, false, false, 0, false, false, false⟩)] } }; s.pcieIdle = false) :=
  ⟨by decide,
    by decide,
    by decide,
    by unfold State.loadAlone; decide,
    by decide,
    by decide +kernel,
    by decide +kernel,
    by decide +kernel,
    by decide,
    by decide +kernel,
    by decide,
    by decide +kernel,
    by decide +kernel,
    by unfold State.admits; decide,
    by decide,
    by decide⟩
theorem witness_MemoryRequestsOfTheHost :
    ((slate []).b.fnLinkUp 265 = false) ∧
    (let s := slate [(.pci, PCI.LINK_STAT_UP_A, 1)]; s.b.fnLinkUp 0 = true ∧ SMap.get (fun _ => 0) s.pci.ide (16 * b2n (s.b.onPortB 0) + (8 : Fin 9).val) ≠ 1) ∧
    (let t := slate [(.pci, PCI.LINK_STAT_UP_A, 1)]; let s : State := { t with pci := { t.pci with ide := [(8, 1)] } }; s.b.fnLinkUp 0 = true ∧
      SMap.get (fun _ => 0) s.pci.ide (16 * b2n (s.b.onPortB 0) + (8 : Fin 9).val) = 1) ∧
    (let t := slate [(.pci, PCI.LINK_STAT_UP_A, 1)]; let s : State := { t with pci := { t.pci with shut := true } }; s.b.fnLinkUp 0 = true ∧ s.pci.shut = true) ∧
    (let s := slate [(.pci, PCI.LINK_STAT_UP_A, 1)]; s.b.fnLinkUp 0 = true ∧ s.pci.shut = false ∧ s.tlpClaimed 0 0 0 4 = false) ∧
    (let s := funs (slate [(.pci, PCI.LINK_STAT_UP_A, 1)]) [(0, live)]; s.b.fnLinkUp 0 = true ∧ s.pci.shut = false ∧ s.tlpClaimed 0 0 0x7FFFFFC 4 = true ∧
      s.b.barTarget 0 0 0x7FFFFFC = .ma 0x7FFFFFC) ∧
    (let s := funs (slate [(.pci, PCI.LINK_STAT_UP_A, 1)]) [(1, live)]; s.tlpClaimed 1 4 0 4 = true ∧ s.b.barTarget 1 4 0 = .msix 0) ∧
    (let s := funs (slate [(.pci, PCI.LINK_STAT_UP_A, 1), (.pci, PCI.LINK_STAT_UP_B, 1), (.pci, PCI.LINK_STAT_BIF, 1)]) [(9, live)]; s.b.fnLinkUp 9 = true ∧ s.tlpClaimed 9 0 0 4 = true ∧ s.b.barTarget 9 0 0 = .pf0b 0) ∧
    (let s := win (funs (slate [(.pci, PCI.LINK_STAT_UP_A, 1)]) [(0, live)]); s.b.gated = true ∧ s.b.fnLinkUp 0 = true ∧ s.pci.shut = false ∧ s.tlpClaimed 0 4 0xC0 64 = true ∧ s.b.barTarget 0 4 0xC0 = .dpa 0xC0) ∧
    (let x : Tlp := ⟨0, [(some 0xC0, 64)], .read 5, [], false⟩; let y : Tlp := ⟨0, [(some 0, 1)], .write [some 1] false false, [], false⟩;
      let t := win (funs (slate ((.pci, PCI.LINK_STAT_UP_A, 1) :: gd0Open)) [(0, live)]); let s : State := { t with pci := { t.pci with held := [y] } }; s.b.gated = false ∧
      s.b.tlpSplit 0 4 0xC0 64 = [(some 0xC0, 64)] ∧ y ∈ s.pci.held ∧ s.tlpAfter x y = true) ∧
    (let s := win (funs (slate ((.pci, PCI.LINK_STAT_UP_A, 1) :: gd0Open)) [(0, live)]); s.b.gated = false ∧ s.pci.held = [] ∧ s.tlpClaimed 0 4 0xC0 64 = true ∧ (64 : Fin 4097) ≠ 0 ∧ 0xC0 % 64 + 64 ≤ 64 ∧
      s.b.barTarget 0 4 0xC0 = .dpa 0xC0 ∧
      ((s.engineAccess (tlpReq 0 0xC0 64 false 0 0 false) false []).map (fun y => y.2.1.isData)).toOption = some true) ∧
    (let s := win (funs (slate ((.pci, PCI.LINK_STAT_UP_A, 1) :: (.gd 0, GD.STAT_INIT_BUSY, 1) :: gd0Open)) [(0, live)]); s.b.gated = false ∧ s.tlpClaimed 0 4 0xC0 64 = true ∧
      (s.engineAccess (tlpReq 0 0xC0 64 false 0 0 false) false []).toOption = none) ∧
    (let s := win (funs (slate ((.pci, PCI.LINK_STAT_UP_A, 1) :: gd0Open)) [(0, live)]); let l : List (Option Byte) := [none, some 1]; l.any Option.isSome = true ∧ l ≠ [] ∧
      s.tlpClaimed 0 4 0xFE 2 = true ∧ s.b.barTarget 0 4 0xFE = .dpa 0xFE ∧ 0xFE % 64 + l.length ≤ 64 ∧ (let x := placeEnabled (0xFE % 64) l
      ((s.engineAccess (tlpReq 0 0xFE 2 (!l.all Option.isSome) x.1 x.2 false) true []).map (fun y => y.2.1.status)).toOption = some stOK)) ∧
    (let s := win (funs (slate [(.ckr, CKR.STAT_LOCK, 1), (.pci, PCI.LINK_STAT_UP_A, 1)]) [(0, live)]); let l : List (Option Byte) := [some 1]; s.b.gated = false ∧
      s.tlpClaimed 0 4 0 1 = true ∧ s.b.barTarget 0 4 0 = .dpa 0 ∧ (let x := placeEnabled 0 l
      ((s.engineAccess (tlpReq 0 0 1 (!l.all Option.isSome) x.1 x.2 false) true []).map (fun y => decide (y.2.1.status ≠ stOK))).toOption = some true)) :=
  ⟨by decide,
    by decide +kernel,
    by decide +kernel,
    by decide +kernel,
    by decide +kernel,
    by decide +kernel,
    by decide +kernel,
    by decide +kernel,
    by decide +kernel,
    by decide +kernel,
    by decide +kernel,
    by decide +kernel,
    by decide +kernel,
    by decide +kernel⟩
theorem witness_EfmelTrainingAndPresence :
    (let s := slate [(.pkg, PKG.JTAG_CTRL_CUR, 1)]; s.admits (.efl 7) ∧ s.b.tapOwns = true) ∧
    (let s := slate []; s.b.tapOwns = false ∧ s.b.bit (.efl 7) EFL.STAT_PRSNT = false ∧ s.b.eflState 7 = eABSENT ∧ (eflAt s.efl 7).step ≠ 1 ∧ (eflAt s.efl 7).step ≠ 2) ∧
    (let s := slate [(.efl 7, EFL.STAT_PRSNT, 1), (.efl 7, EFL.STAT_STATE, eUP)]; s.b.bit (.efl 7) EFL.STAT_PRSNT = true ∧ s.b.eflState 7 = eUP ∧ s.b.tapOwns = false) ∧
    (let s := slate [(.efl 7, EFL.STAT_PRSNT, 1), (.efl 7, EFL.STAT_STATE, eQUIESCED)]; s.b.bit (.efl 7) EFL.STAT_PRSNT = true ∧ s.b.eflState 7 = eQUIESCED) ∧
    (let s := efl7 { Efl.init with step := 1, rates := 15, widths := 7 } []; (eflAt s.efl 7).step = 1 ∧
      (0 : BitVec 4).toNat &&& (eflAt s.efl 7).rates = 0 ∧ (7 : BitVec 3).toNat &&& (eflAt s.efl 7).widths = 7 ∧ ((0xFFFF : BitVec 16) &&& 0xFFFF).toNat = 0xFFFF ∧
      (8 : BitVec 4).toNat &&& (eflAt s.efl 7).rates = 8 ∧ (4 : BitVec 3).toNat &&& (eflAt s.efl 7).widths = 4 ∧
      true = (eflAt s.efl 7).scr ∧ false ≠ (eflAt s.efl 7).scr) ∧
    ((kchk Efl.init.rxKey) + 1 ≠ kchk Efl.init.rxKey) ∧
    (eflCands 0 7 0xFFFF = []) ∧
    (eflCands 8 4 0xFFFF = [(16, 3)]) ∧
    (let s := efl7 { Efl.init with step := 2, cands := [(16, 3), (4, 0)] } []; let x := eflAt s.efl 7; x.step = 2 ∧ x.cands[x.attempt]? = some (16, 3) ∧ 16 < 32 ∧ 3 < 7 ∧
      x.attempt + 1 < x.cands.length) ∧
    (let s := efl7 { Efl.init with step := 2, cands := [(16, 3)] } []; let x := eflAt s.efl 7; x.step = 2 ∧ x.cands.length ≤ x.attempt + 1) ∧
    (let s := slate [(.efl 7, EFL.CFG_RETRY_MS, 0)]; s.b.fld (.efl 7) EFL.CFG_RETRY_MS = 0) ∧
    (let t := slate [(.efl 7, EFL.CFG_RETRY_MS, 1), (.efl 7, EFL.STAT_STATE, eFAIL), (.efl 7, EFL.STAT_PRSNT, 1)]; let s : State := { t with b := { t.b with aonUs := 1000 } };
      s.b.eflState 7 = eFAIL ∧ s.b.fld (.efl 7) EFL.CFG_RETRY_MS ≠ 0 ∧ (eflAt s.efl 7).since + 1000 * s.b.fld (.efl 7) EFL.CFG_RETRY_MS ≤ s.b.aonUs ∧ s.b.bit (.efl 7) EFL.STAT_PRSNT = true ∧ s.b.tapOwns = false) ∧
    (let s := slate [(.efl 7, EFL.STAT_STATE, eFAIL)]; s.b.eflState 7 = eFAIL ∧ s.b.bit (.efl 7) EFL.STAT_PRSNT = false) ∧
    (let s := efl7 { Efl.init with step := 3, rxCount := 4095 } [(.efl 7, EFL.STAT_STATE, eTRAINING), (.efl 7, EFL.STAT_WIDTH, 4)]; s.b.eflState 7 ≠ eUP ∧
      (eflAt s.efl 7).step = 3 ∧ (eflAt s.efl 7).retrain = false ∧ markerOk [0xB4E1780FFF, 0xB4E1781FFF, 0xB4E1782FFF, 0xB4E1783FFF] (s.b.fld (.efl 7) EFL.STAT_WIDTH) (eflAt s.efl 7).rxCount = true ∧
      markerOk [0xB4E1780FFF, 0xB4E1781FFF, 0xB4E1782FFF, 0xB4E1783000] (s.b.fld (.efl 7) EFL.STAT_WIDTH) (eflAt s.efl 7).rxCount = false) ∧
    (let s := efl7 { Efl.init with step := 3, retrain := true, rxCount := 4095 } [(.efl 7, EFL.STAT_STATE, eRETRAIN), (.efl 7, EFL.STAT_WIDTH, 4)]; s.b.eflState 7 ≠ eUP ∧ (eflAt s.efl 7).retrain = true) ∧
    (let s := efl7 { Efl.init with rxCount := 4096, rxCells := 1024 } [(.efl 7, EFL.STAT_STATE, eUP), (.efl 7, EFL.STAT_WIDTH, 1)]; s.b.eflState 7 = eUP ∧
      (markerOk [0xB4E1780000] (s.b.fld (.efl 7) EFL.STAT_WIDTH) (eflAt s.efl 7).rxCount && ((eflAt s.efl 7).rxCells == s.b.markerCells 7)) = true ∧ markerOk [] (s.b.fld (.efl 7) EFL.STAT_WIDTH) (eflAt s.efl 7).rxCount = false) ∧
    (let s := slate []; ¬ (s.b.eflState 7 = eRETRAIN ∧ (eflAt s.efl 7).since + 10000 ≤ s.b.aonUs)) ∧
    (let t := slate [(.efl 7, EFL.STAT_STATE, eRETRAIN)]; let s : State := { t with b := { t.b with aonUs := 10000 } }; s.b.eflState 7 = eRETRAIN ∧ (eflAt s.efl 7).since + 10000 ≤ s.b.aonUs) ∧
    ((slate [(.efl 7, EFL.STAT_STATE, eTEST)]).b.eflState 7 = eTEST) ∧
    (let s := efl7 { Efl.init with quiescing := true } [(.efl 7, EFL.STAT_STATE, eUP)]; let x := eflAt s.efl 7; x.quiescing = true ∧ ((x.slots = [] ∧ x.inb = []) ∨ x.quietAt + 10000 ≤ s.b.aonUs)) ∧
    ((eflAt (slate []).efl 7).quiescing = false ∧ (slate []).b.bit (.efl 7) EFL.STAT_PRSNT = (eflAt (slate []).efl 7).pinLow) ∧
    (let t := efl7 { Efl.init with pinLow := true } []; let s : State := { t with b := { t.b with aonUs := 10000 } }; s.b.bit (.efl 7) EFL.STAT_PRSNT ≠ (eflAt s.efl 7).pinLow ∧
      (eflAt s.efl 7).pinAt + 10000 ≤ s.b.aonUs ∧ (eflAt s.efl 7).pinLow = true ∧ s.b.eflState 7 = eABSENT) ∧
    (let t := slate [(.efl 7, EFL.STAT_PRSNT, 1), (.efl 7, EFL.STAT_STATE, eDOWN)]; let s : State := { t with b := { t.b with aonUs := 10000 } };
      s.b.bit (.efl 7) EFL.STAT_PRSNT ≠ (eflAt s.efl 7).pinLow ∧ (eflAt s.efl 7).pinAt + 10000 ≤ s.b.aonUs ∧ (eflAt s.efl 7).pinLow = false ∧ s.b.eflState 7 ≠ eTEST) :=
  ⟨by unfold State.admits; decide,
    by decide,
    by decide,
    by decide,
    by decide +kernel,
    by simp,
    eflCands_none,
    eflCands_one,
    by decide,
    by decide,
    by decide,
    by decide +kernel,
    by decide,
    by decide +kernel,
    by decide +kernel,
    by decide +kernel,
    by decide,
    by decide,
    by decide,
    by decide,
    by decide,
    by decide,
    by decide⟩
theorem witness_EfmelCellsAndTests :
    (let s := efl7 { Efl.init with rxCells := 1024 } [(.efl 7, EFL.STAT_STATE, eUP), (.efl 7, EFL.STAT_WIDTH, 1)]; s.b.eflState 7 = eUP ∧ (eflAt s.efl 7).rxCells = s.b.markerCells 7) ∧
    ((slate []).b.eflState 7 ≠ eUP ∧ (eflAt (slate []).efl 7).replay = []) ∧
    (let s := efl7 port1023 [(.efl 7, EFL.STAT_WIDTH, 1), (.efl 7, EFL.STAT_STATE, eUP)]; s.b.eflState 7 = eUP ∧ (eflAt s.efl 7).rxCells ≠ s.b.markerCells 7 ∧ hdrField (0 : BitVec 640) 63 48 ≠ cellCrc 0) ∧
    (let c := crcd 0; ¬ (hdrField c 63 48 ≠ cellCrc c ∨ 2 ≤ hdrField c 1 0 ∨ (hdrField c 1 0 = 1 ∧ 5 ≤ hdrField c 4 2)) ∧ hdrField c 1 0 = 0 ∧
      5 ∉ [0, 1]) ∧
    (let s := efl7 port1023 [(.efl 7, EFL.STAT_WIDTH, 1), (.efl 7, EFL.STAT_STATE, eUP), (.efl 7, EFL.BIND_EN, 1)]; let x := eflAt s.efl 7; let c := packet 0 [0x20000001, 64 * 2 ^ 32]; let pay := cellPayload x.scr x.rxState c;
      ¬ (hdrField c 63 48 ≠ cellCrc c ∨ 2 ≤ hdrField c 1 0 ∨ (hdrField c 1 0 = 1 ∧ 5 ≤ hdrField c 4 2)) ∧ s.b.eflState 7 = eUP ∧ x.replay = [] ∧ hdrField c 1 0 = 1 ∧
      hdrField c 14 5 = x.expSeq ∧ hdrField c 4 2 ≤ 1 ∧ cellPacket (hdrField c 4 2) pay.1 = some (.req 2 1 0 0 64 none) ∧ s.b.bit (.efl 7) EFL.BIND_EN = true ∧
      s.b.ctxResets (eflInReq s.b 7 (s.eflNewTag 7) 0 0 64 none 0 false false).ctx = false ∧ dpaRegion 0 = .gddr) ∧
    (let s := efl7 port1023 [(.efl 7, EFL.STAT_WIDTH, 1), (.efl 7, EFL.STAT_STATE, eUP)]; let x := eflAt s.efl 7; let c := packet 1 [0x20000004, 64 * 2 ^ 32, 5]; let pay := cellPayload x.scr x.rxState c;
      ¬ (hdrField c 63 48 ≠ cellCrc c ∨ 2 ≤ hdrField c 1 0 ∨ (hdrField c 1 0 = 1 ∧ 5 ≤ hdrField c 4 2)) ∧ hdrField c 4 2 ≤ 1 ∧
      cellPacket (hdrField c 4 2) pay.1 = some (.req 2 4 0 0 64 (some 5)) ∧ s.b.bit (.efl 7) EFL.BIND_EN = false ∧ x.rxCells ≠ s.b.markerCells 7 ∧ x.inb = []) ∧
    (let s := efl7 { port1023 with inWrite := some (2, 0, 0, 64, none) } [(.efl 7, EFL.STAT_WIDTH, 1), (.efl 7, EFL.STAT_STATE, eUP), (.efl 7, EFL.BIND_EN, 1)]; let x := eflAt s.efl 7; let c := packet 2 [1, 0, 0, 0, 0, 0, 0, 0, 2048]; let pay := cellPayload x.scr x.rxState c;
      ¬ (hdrField c 63 48 ≠ cellCrc c ∨ 2 ≤ hdrField c 1 0 ∨ (hdrField c 1 0 = 1 ∧ 5 ≤ hdrField c 4 2)) ∧ hdrField c 4 2 = 2 ∧
      cellPacket 2 pay.1 = some (.wdata 2 1 false false) ∧ x.inWrite = some (2, 0, 0, 64, none) ∧ port1023.inWrite = none) ∧
    (let s := efl7 { port1023 with slots := [(127, some (true, anoleReq 0))] } [(.efl 7, EFL.STAT_WIDTH, 1), (.efl 7, EFL.STAT_STATE, eUP)]; let x := eflAt s.efl 7; let c := packet 3 [127 * 2 ^ 14 + 5 * 2 ^ 26]; let pay := cellPayload x.scr x.rxState c;
      ¬ (hdrField c 63 48 ≠ cellCrc c ∨ 2 ≤ hdrField c 1 0 ∨ (hdrField c 1 0 = 1 ∧ 5 ≤ hdrField c 4 2)) ∧ hdrField c 4 2 = 3 ∧ cellPacket 3 pay.1 = some (.cmp 127 5) ∧
      SMap.get (fun _ => none) x.slots 127 = some (true, anoleReq 0) ∧ SMap.get (fun _ => none) port1023.slots 127 = none) ∧
    (let s := efl7 { port1023 with slots := [(127, some (false, anoleReq 0))] } [(.efl 7, EFL.STAT_WIDTH, 1), (.efl 7, EFL.STAT_STATE, eUP)]; let x := eflAt s.efl 7; let c := packet 4 [7, 0, 0, 0, 0, 0, 0, 0, 127 * 1024]; let pay := cellPayload x.scr x.rxState c;
      ¬ (hdrField c 63 48 ≠ cellCrc c ∨ 2 ≤ hdrField c 1 0 ∨ (hdrField c 1 0 = 1 ∧ 5 ≤ hdrField c 4 2)) ∧ hdrField c 4 2 = 4 ∧ cellPacket 4 pay.1 = some (.rdata 127 7 false false) ∧
      SMap.get (fun _ => none) x.slots 127 = some (false, anoleReq 0)) ∧
    (let t := efl7 { port1023 with replay := [(0, .cmp 0 0)] } [(.efl 7, EFL.STAT_WIDTH, 1), (.efl 7, EFL.STAT_STATE, eUP)]; let s : State := { t with b := { t.b with aonUs := 10 } }; let x := eflAt s.efl 7; s.b.eflState 7 = eUP ∧
      x.replay ≠ [] ∧ ¬ (256 ≤ x.replay.length ∧ x.ackAt + 1000 ≤ s.b.aonUs) ∧ x.ackAt + 10 ≤ s.b.aonUs ∧ x.resends < 3 ∧ t.b.aonUs < x.ackAt + 10) ∧
    (let t := efl7 { port1023 with replay := List.replicate 256 (0, .cmp 0 0) } [(.efl 7, EFL.STAT_WIDTH, 1), (.efl 7, EFL.STAT_STATE, eUP)]; let s : State := { t with b := { t.b with aonUs := 1000 } }; let x := eflAt s.efl 7;
      s.b.eflState 7 = eUP ∧ x.replay ≠ [] ∧ 256 ≤ x.replay.length ∧ x.ackAt + 1000 ≤ s.b.aonUs) ∧
    (dpaRegion (anoleReq 0).addr.toNat = .gddr) ∧
    (dpaRegion (anoleReq 0x17FFFFFFFFFC).addr.toNat = .efmel 7 ∧ (slate []).mayArrive (anoleReq 0x17FFFFFFFFFC) true = true ∧ (slate [(.efl 7, HDR.BLK_CTRL_EN, 0)]).b.enabled (.efl 7) = false) ∧
    ((slate []).mayArrive ⟨0, false, 0, 0, 0, 0x17FFFFFFFFFC, 4, false, 0, 0, false, false⟩ false = false) ∧
    (let r : HopReq := { anoleReq 0x17FFFFFFFFFC with src := 784, priv := false, ctx := 7 }; let s := slate [(.efl 7, HDR.BLK_CTRL_EN, 1)]; s.b.enabled (.efl 7) = true ∧ r.priv = false ∧
      nbit (s.b.fld (.efl 7) EFL.TXMASK_CTX) r.ctx = false ∧ s.mayArrive r false = true) ∧
    (let r := anoleReq 0x17FFFFFFFFFC; let t := efl7 { port1023 with granted := 1 } [(.efl 7, HDR.BLK_CTRL_EN, 1), (.efl 7, EFL.STAT_STATE, eUP)]; let s : State := { t with hop := t.hop.setGrant r.src (eflStop 7) 1 };
      let x := eflAt s.efl 7; s.b.enabled (.efl 7) = true ∧ r.priv = true ∧ s.b.eflState 7 = eUP ∧ x.quiescing = false ∧ s.hop.grant r.src (eflStop 7) ≠ 0 ∧ x.freeTag = some 0 ∧ x.credits ≠ 0 ∧
      x.replay.length < 256 ∧ s.mayArrive r false = true) ∧
    (let s := slate [(.efl 7, EFL.STAT_STATE, eTEST), (.efl 7, EFL.CTRL_AUTO, 0)]; s.b.eflState 7 = eTEST ∧ s.b.bit (.efl 7) EFL.CTRL_AUTO = false) ∧
    ((slate [(.efl 7, EFL.STAT_STATE, eRETRAIN)]).b.eflState 7 = eRETRAIN ∧ ¬ ((slate []).b.eflState 7 = eUP ∨ (slate []).b.eflState 7 = eRETRAIN)) :=
  ⟨by decide,
    by decide,
    by decide +kernel,
    by decide +kernel,
    by decide +kernel,
    by decide +kernel,
    by decide +kernel,
    by decide +kernel,
    by decide +kernel,
    by decide +kernel,
    by decide +kernel,
    by decide,
    by decide,
    by decide,
    by decide +kernel,
    by decide +kernel,
    by decide,
    by decide⟩

theorem witness_ClocksRampAndHoldOver :
    ((slate []).b.gated = true) ∧
    (let s := slate [(.ckr, CKR.STAT_LOCK, 1)]; s.b.gated = false ∧ s.b.gclkDiv 3 31 = s.clk.target 3 31) ∧
    (let t := slate [(.ckr, CKR.STAT_LOCK, 1), (.clk 3, CLK.GCLK_CUR_DIV.nth 31, 4095)]; let s : State := { t with clk := { t.clk with tgt := [(127, 4094)] } }; s.b.gated = false ∧
      s.b.gclkDiv 3 31 ≠ s.clk.target 3 31 ∧ s.clk.target 3 31 < 4096) ∧
    (let s := slate [(.ckr, CKR.STAT_LOCK, 1), (.clk 3, HDR.BLK_STAT_COMMIT_PEND, 1)]; let t : State := { s with b := { s.b with commitParts := [(psrc (.clk 3), 1)] } }; t.b.gated = false ∧
      t.b.commitPend (.clk 3) = true ∧ t.b.parts (.clk 3) = 1) ∧
    ((slate []).admits (.clk 3) ∧ (slate []).admits .ckr) ∧
    (let s := slate [(.ckr, CKR.CTRL_FINE, 1), (.ckr, CKR.STAT_FIO_QUAL, 1), (.ckr, CKR.MON_PPM, 1)]; s.b.bit .ckr CKR.CTRL_FINE = true ∧ s.b.bit .ckr CKR.STAT_FIO_QUAL = true ∧
      s.b.fld .ckr CKR.MON_PPM ≠ 0 ∧ s.b.fld .ckr CKR.MON_PPM < devSize 2 ∧ devSize 1 ≤ s.b.fld .ckr CKR.MON_PPM) ∧
    (let s := slate [(.ckr, CKR.CTRL_FINE, 0)]; ¬ (s.b.bit .ckr CKR.CTRL_FINE = true ∧ s.b.bit .ckr CKR.STAT_FIO_QUAL = true)) ∧
    (let s := slate [(.ckr, CKR.STAT_FIO_RUN, 0)]; s.b.bit .ckr CKR.STAT_FIO_RUN = false) ∧
    (let s := slate [(.ckr, CKR.STAT_FIO_RUN, 1), (.ckr, CKR.STAT_REF, 1)]; s.b.bit .ckr CKR.STAT_FIO_RUN = true ∧ (s.b.fld .ckr CKR.STAT_REF ≠ 2 ∨ s.b.dead = true)) ∧
    (let s := slate [(.ckr, CKR.STAT_FIO_RUN, 1), (.ckr, CKR.STAT_REF, 2)]; s.b.bit .ckr CKR.STAT_FIO_RUN = true ∧ s.b.fld .ckr CKR.STAT_REF = 2 ∧ s.b.dead = false) ∧
    (let s := slate [(.ckr, CKR.STAT_REF, 2)]; let t : State := { s with b := { s.b with aonUs := 1000 } }; s.b.aonUs < s.clk.tripAt + 1000 ∧ t.b.fld .ckr CKR.STAT_REF = 2 ∧ t.clk.tripAt + 1000 ≤ t.b.aonUs) ∧
    (let s := slate [(.ckr, CKR.STAT_REF, 3)]; s.b.fld .ckr CKR.STAT_REF = 3 ∧ s.b.dead = false) ∧
    (let s := slate [(.ckr, CKR.STAT_REF, 1), (.ckr, CKR.STAT_REF_GOOD, 0), (.ckr, CKR.CTRL_FINE, 0), (.ckr, CKR.CTRL_AUTO_RET, 0)]; s.b.fld .ckr CKR.STAT_REF = 1 ∧ s.b.bit .ckr CKR.STAT_REF_GOOD = false ∧
      (s.b.bit .ckr CKR.CTRL_FINE = true → s.clk.finePass = true) ∧ s.b.bit .ckr CKR.CTRL_AUTO_RET = false) ∧
    (let s := slate [(.ckr, CKR.STAT_REF, 1), (.ckr, CKR.STAT_REF_GOOD, 0), (.ckr, CKR.CTRL_FINE, 0), (.ckr, CKR.CTRL_AUTO_RET, 1)]; s.b.fld .ckr CKR.STAT_REF = 1 ∧ s.b.bit .ckr CKR.STAT_REF_GOOD = false ∧
      (s.b.bit .ckr CKR.CTRL_FINE = true → s.clk.finePass = true) ∧ s.b.bit .ckr CKR.CTRL_AUTO_RET = true) ∧
    (let s := slate [(.ckr, CKR.STAT_REF, 1), (.ckr, CKR.STAT_REF_GOOD, 1)]; s.admits .ckr ∧ (s.maWake .ckr).b.fld .ckr CKR.STAT_REF = 1 ∧ s.b.fld .ckr CKR.STAT_REF = 1 ∧ s.b.bit .ckr CKR.STAT_REF_GOOD = true) :=
  ⟨by decide,
    by decide +kernel,
    by decide +kernel,
    by decide +kernel,
    by unfold State.admits; decide,
    by decide,
    by decide,
    by decide,
    by decide,
    by decide,
    by decide,
    by decide,
    by decide,
    by decide,
    by unfold State.admits; decide⟩
theorem witness_BudgetAndTemperature :
    ((slate [(.bgt, BGT.PERIOD_MS, 0)]).b.fld .bgt BGT.PERIOD_MS = 0) ∧
    (let s := slate [(.bgt, BGT.PERIOD_MS, 1), (.bgt, BGT.BUDGET_UNITS, 0), (.bgt, BGT.OTHER_UNITS, 65535)]; s.b.fld .bgt BGT.PERIOD_MS ≠ 0 ∧ s.b.commitPend .bgt = false ∧ s.b.pkgPower = 65535 ∧
      s.b.fld .bgt BGT.BUDGET_UNITS < s.b.pkgPower ∧ s.b.pkgPower < 65536) ∧
    (let s := slate [(.bgt, BGT.PERIOD_MS, 1), (.bgt, BGT.BUDGET_UNITS, 16), (.bgt, BGT.OTHER_UNITS, 15)]; s.b.fld .bgt BGT.PERIOD_MS ≠ 0 ∧ s.b.commitPend .bgt = false ∧ s.b.pkgPower = 15 ∧
      s.b.pkgPower ≤ s.b.fld .bgt BGT.BUDGET_UNITS ∧ 15 * s.b.fld .bgt BGT.BUDGET_UNITS ≤ 16 * s.b.pkgPower) ∧
    (let s := slate [(.bgt, BGT.PERIOD_MS, 1), (.bgt, BGT.BUDGET_UNITS, 16), (.bgt, BGT.OTHER_UNITS, 14), (.bgt, BGT.DWELL_RUNS, 2)]; s.b.pkgPower = 14 ∧ 16 * s.b.pkgPower < 15 * s.b.fld .bgt BGT.BUDGET_UNITS ∧
      s.b.pkgPower ≤ s.b.fld .bgt BGT.BUDGET_UNITS ∧ s.pwr.under + 1 < Nat.max 1 (s.b.fld .bgt BGT.DWELL_RUNS) ∧ s.b.commitPend .bgt = false) ∧
    (let s := slate [(.bgt, BGT.PERIOD_MS, 1), (.bgt, BGT.BUDGET_UNITS, 16), (.bgt, BGT.OTHER_UNITS, 14), (.bgt, BGT.DWELL_RUNS, 0)]; s.b.pkgPower = 14 ∧
      Nat.max 1 (s.b.fld .bgt BGT.DWELL_RUNS) ≤ s.pwr.under + 1) ∧
    (let s := slate [(.bgt, BGT.PERIOD_MS, 1), (.bgt, HDR.BLK_STAT_COMMIT_PEND, 1)]; s.b.fld .bgt BGT.PERIOD_MS ≠ 0 ∧ s.b.commitPend .bgt = true) ∧
    (let q : SensorRead := ⟨3, 447, some 601⟩; let s := slate []; [q].find? (fun r => r.tower.val == 3 && r.sensor.val == 447) = some q ∧ s.b.sState 3 447 ≠ 2 ∧ 600 < (601 : BitVec 11).toInt ∧
      (2048 - 241 : BitVec 11).toInt < -240) ∧
    (let q : SensorRead := ⟨3, 447, none⟩; let t := slate []; let s : State := { t with pwr := { t.pwr with cnt := [(448 * 3 + 447, ⟨0, 0, 3⟩)] } }; q.value = none ∧ (t.pwr.cntOf 3 447).missing < 3 ∧ ¬ (s.pwr.cntOf 3 447).missing < 3) ∧
    (let q : SensorRead := ⟨3, 447, none⟩; let s := slate []; [q].find? (fun r => r.tower.val == 3 && r.sensor.val == 447) = some q ∧ s.b.sState 3 447 ≠ 2) ∧
    (let s := slate []; (∀ u : Tower, ¬ s.b.fld (.thm u) THM.TRIP_HOLD_MS < SMap.get (fun _ => 0) s.pwr.tripMs u.val) ∧ s.pwr.pwrFail = false) ∧
    (let s : State := { slate [(.thm 3, THM.TRIP_HOLD_MS, 1)] with pwr := { State.reset.pwr with tripMs := [(3, 2)] } }; s.b.dead = false ∧
      s.b.fld (.thm (3 : Tower)) THM.TRIP_HOLD_MS < SMap.get (fun _ => 0) s.pwr.tripMs (3 : Tower).val) ∧
    (let s : State := { slate [] with pwr := { State.reset.pwr with pwrFail := true } }; s.pwr.pwrFail = true) ∧
    (let s : State := { slate [(.thm 3, THM.HOT_T, 8), (.thm 3, THM.LIMITS_TRIP_C, 2)] with pwr := State.reset.pwr }; s.b.atTrip 3 = true ∧ SMap.get (fun _ => 0) s.pwr.tripMs 3 = 0) :=
  ⟨by decide,
    by decide +kernel,
    by decide +kernel,
    by decide +kernel,
    by decide +kernel,
    by decide,
    by decide +kernel,
    by decide +kernel,
    by decide +kernel,
    by decide,
    by decide,
    by decide,
    by decide +kernel⟩
theorem witness_BondGroupsAndRecords :
    (¬ ((grpKind 0xA330).isSome = true)) ∧
    (let s := slate [(.ckr, CKR.STAT_LOCK, 1), (.vbd 3, VBD.CTRL_MON_EN, 1)]; (grpKind 0xA32F).isSome = true ∧ s.b.bit (.vbd 3) VBD.CTRL_MON_EN = true ∧ s.b.gated = false ∧ s.b.grpState 3 0xA32F ≤ 1 ∧ s.b.watches 3 0xA32F = [3, 2]) ∧
    (let s := slate [(.ckr, CKR.STAT_LOCK, 1), (.vbd 3, VBD.CTRL_MON_EN, 1), (.vbd 3, VBD.GTAB_SP_SP0.nth 0xA32F, 64), (.vbd 3, VBD.GTAB_SP_SP1.nth 0xA32F, 64), (.vbd 3, VBD.GTAB_SP_SP2.nth 0xA32F, 191)]; s.b.bit (.vbd 3) VBD.CTRL_MON_EN = true ∧ s.b.gated = false ∧
      s.b.grpState 3 0xA32F ≤ 1 ∧ s.b.watches 3 0xA32F = [3]) ∧
    (let s := slate [(.ckr, CKR.STAT_LOCK, 1), (.vbd 3, VBD.CTRL_MON_EN, 1), (.vbd 3, VBD.GTAB_SP.nth 0, 0x40404040)]; s.b.bit (.vbd 3) VBD.CTRL_MON_EN = true ∧ s.b.gated = false ∧ s.b.grpState 3 0 ≤ 1 ∧ s.b.watches 3 0 = []) ∧
    ((slate [(.vbd 3, VBD.CTRL_TEST_EN, 0)]).testDue 3 0 = false) ∧
    (let s := slate [(.ckr, CKR.STAT_LOCK, 1), (.vbd 3, VBD.CTRL_TEST_EN, 1), (.vbd 3, VBD.TEST_US, 0)]; s.testDue 3 0 = true ∧ (∀ i, i < 4 → (0x1F : BitVec 68).getLsbD (64 + i) = false) ∧ s.b.unused 3 0 = [0, 1, 2, 3] ∧
      (List.range 64).filter (fun j => (s.vbd.badOf 3 0 ||| 0x1F).getLsbD j && !(s.b.carried 3 0).contains j) = [0, 1, 2, 3, 4]) ∧
    (let s := slate [(.ckr, CKR.STAT_LOCK, 1), (.vbd 3, VBD.CTRL_TEST_EN, 1), (.vbd 3, VBD.TEST_US, 0), (.vbd 3, VBD.GTAB_SP_SP3.nth 0, 128)]; s.testDue 3 0 = true ∧ s.b.unused 3 0 = [0, 1, 2] ∧ s.b.carried 3 0 = [0] ∧
      (List.range 64).filter (fun j => (s.vbd.badOf 3 0 ||| 0x800000000000000F).getLsbD j && !(s.b.carried 3 0).contains j) = [1, 2, 3, 63]) ∧
    (let s := slate [(.ckr, CKR.STAT_LOCK, 1), (.vbd 3, VBD.CTRL_TEST_EN, 1), (.vbd 3, VBD.TEST_US, 0)]; s.testDue 3 0 = true ∧ (0x80000000000000000 : BitVec 68).getLsbD (64 + 3) = true) ∧
    ((slate []).vbd.todo = []) ∧
    (let t := slate []; let s : State := { t with vbd := { t.vbd with todo := [1] }, ano := { t.ano with run := 1 } }; (t.ano.run = 0 ∨ t.vbd.todo = []) ∧ s.vbd.todo ≠ [] ∧ s.ano.run ≠ 0 ∧ Nat.max 2 (s.vbd.todo.length + 1) ≤ s.vbd.freeRecs) :=
  ⟨by decide,
    by decide +kernel,
    by decide +kernel,
    by decide +kernel,
    by decide +kernel,
    by decide +kernel,
    by decide +kernel,
    by decide +kernel,
    by decide,
    by decide +kernel⟩
theorem witness_ContextFunctionAndWarmResets :
    (let s := slate []; s.admits .pkg ∧ (s.maWake .pkg).b.fld .pkg PKG.CTX_STAT_ACTIVE = 0 ∧ s.b.fld .pkg PKG.CTX_STAT_ACTIVE = 0 ∧ ((0x80 : BitVec 8).toNat &&& s.b.busyCtxs) = 0 ∧ (0x80 : BitVec 8) ≠ 0) ∧
    (let s := slate [(.chm 3, CHM.BUSY_COMMITTING, 0x80)]; s.b.fld .pkg PKG.CTX_STAT_ACTIVE = 0 ∧ ((0xFF : BitVec 8).toNat &&& s.b.busyCtxs) = 0x80) ∧
    ((slate [(.pkg, PKG.CTX_STAT_ACTIVE, 1)]).b.fld .pkg PKG.CTX_STAT_ACTIVE ≠ 0) ∧
    (¬ ((slate []).b.fnLinkUp 8 = true)) ∧
    (let s := funs (slate [(.pci, PCI.LINK_STAT_UP_A, 1)]) [(8, live)]; s.b.fnLinkUp 8 = true ∧ (s.b.fn 8).ready = true ∧ s.canonical ∧
      (∀ g, g < 128 → s.b.gkCtx g = 7 → (s.gko.at g).cache = []) ∧ s.que = State.reset.que) ∧
    (∀ q, (queueAt State.reset.que q).ctx = 7 → (queueAt State.reset.que q).wait = []) ∧
    (let t := slate [(.pci, PCI.LINK_STAT_UP_A, 1)]; let s : State := { t with pci := { t.pci with sriov := [(8, 1 + 4 * 32)] } }; s.b.fnLinkUp (vfNo 7 32) = true ∧ s.fnPresent (vfNo 7 32) = true ∧ t.fnPresent (vfNo 7 32) = false) ∧
    (let s := funs (slate [(.pci, PCI.LINK_STAT_UP_A, 1), (.ldr, LDR.STATE_PHASE, 1)]) [(0, live)]; s.b.fnLinkUp 0 = true ∧ (s.b.fn 0).ready = true ∧ s.loadAlone ∧ s.loadSrc = 0 ∧ s.phase = 1) ∧
    (((slate []).b.fn 8).flr = false) ∧
    (let s := funs (slate []) [(8, { live with flr := true }), (265, { live with flr := true })]; (s.b.fn 265).flr = true ∧ 9 ≤ 265 ∧ (s.b.fn 8).flr = true ∧ 8 < 9) ∧
    ((slate [(.pkg, PKG.RST_STAT_STAGE, 4)]).b.fld .pkg PKG.RST_STAT_STAGE ≤ 4) ∧
    (let s := slate [(.pkg, PKG.RST_STAT_STAGE, 5)]; 4 < s.b.fld .pkg PKG.RST_STAT_STAGE ∧ s.b.dead = false ∧ s.boot.warm = false) ∧
    (let s : State := { slate [(.gd 15, GD.RATE_CUR, 12)] with boot := { State.reset.boot with warm := true } }; s.boot.warm = true ∧ s.b.fld (.gd 15) GD.RATE_CUR ≠ 0) ∧
    (let s : State := { slate [] with boot := { State.reset.boot with relDue := true } }; s.boot.relDue = true ∧ (∀ c : Fin 16, s.b.gdTraining c = false) ∧
      ¬ (s.b.part.op = true ∧ nbit (s.b.fld .ldr LDR.CONTENT_CTX) 0 = false)) ∧
    (let s := slate []; ¬ (s.boot.relDue = true)) :=
  ⟨by unfold State.admits; decide,
    by decide,
    by decide,
    by decide,
    by unfold State.canonical; decide +kernel,
    (by intro q _; rfl),
    by decide +kernel,
    by unfold State.loadAlone; decide +kernel,
    by decide,
    by decide,
    by decide,
    by decide,
    by decide,
    by decide,
    by decide⟩
theorem witness_PowerOnAndBootStages :
    ((slate [(.pkg, PKG.RST_STAT_STAGE, 1)]).b.fld .pkg PKG.RST_STAT_STAGE < 2) ∧
    (2 ≤ (slate [(.pkg, PKG.RST_STAT_STAGE, 2)]).b.fld .pkg PKG.RST_STAT_STAGE) ∧
    (let s := slate [(.pkg, PKG.RST_STAT_STAGE, 2)]; s.b.fld .pkg PKG.RST_STAT_STAGE = 2 ∧ s.b.fld .ckr CKR.STAT_REF < 2) ∧
    ((slate [(.pkg, PKG.RST_STAT_STAGE, 3)]).b.fld .pkg PKG.RST_STAT_STAGE = 3) ∧
    (let s := slate [(.pkg, PKG.RST_STAT_STAGE, 4)]; s.b.fld .pkg PKG.RST_STAT_STAGE = 4 ∧ s.boot.warm = false ∧ s.b.fld .pkg PKG.RST_STAT_STAGE < 5) ∧
    (let s := slate [(.pkg, PKG.RST_STAT_STAGE, 5)]; 5 ≤ s.b.fld .pkg PKG.RST_STAT_STAGE ∧ s.boot.warm = false) ∧
    (let s : State := { slate [] with boot := { State.reset.boot with warm := true } }; s.boot.warm = true) ∧
    (let s := slate [(.iob 11, IOB.BANK_CFG_VIO_OK, 1)]; s.b.vioOk 11 = true) ∧
    (let s := slate [(.iob 11, IOB.BANK_CFG_VIO_OK, 0), (.pkg, PKG.RST_STAT_STAGE, 2)]; s.b.vioOk 11 = false ∧ 2 ≤ s.b.fld .pkg PKG.RST_STAT_STAGE) :=
  ⟨by decide,
    by decide,
    by decide,
    by decide,
    by decide,
    by decide,
    by decide,
    by decide,
    by decide⟩
theorem witness_TestAccessPort :
    (let s := slate [(.pkg, PKG.JTAG_CTRL_PINCTL, 0), (.pkg, PKG.JTAG_CTRL_CUR, 0)]; s.b.pinctl = false ∧ s.b.tapOwns = false ∧ tapControl 0 = true) ∧
    (let s := slate [(.pkg, PKG.JTAG_CTRL_PINCTL, 0), (.pkg, PKG.JTAG_CTRL_CUR, 1)]; s.b.pinctl = false ∧ s.b.tapOwns = true) ∧
    (let s := slate [(.pkg, PKG.JTAG_CTRL_PINCTL, 1), (.pkg, PKG.JTAG_CTRL_CUR, 0)]; s.b.pinctl = true ∧ s.b.tapOwns = false) ∧
    (let s := slate [(.pkg, PKG.JTAG_CTRL_PINCTL, 1), (.pkg, PKG.JTAG_CTRL_CUR, 1)]; s.b.pinctl = true ∧ s.b.tapOwns = true) ∧
    (let s : State := { slate [(.pkg, PKG.JTAG_CTRL_PINCTL, 0)] with pins := { State.reset.pins with ir := 1 } }; s.b.pinctl = !true ∧ tapControl s.pins.ir = false ∧ s.b.tapOwns = false) ∧
    (let s : State := { slate [(.pkg, PKG.JTAG_CTRL_PINCTL, 0)] with pins := { State.reset.pins with ir := 6 } }; s.b.pinctl = false ∧ tapControl s.pins.ir = true ∧ s.b.tapOwns = false) :=
  ⟨by decide,
    by decide,
    by decide,
    by decide,
    by decide,
    by decide⟩

theorem witness_MailboxInformationKeysAndFuses :
    ((slate []).ano.cmds = []) ∧
    (let c : MbCmd := { mb 1 0 0 0 with res := some (0, []) }; let s := asked c []; s.ano.cmds = [c] ∧ (c.op ≠ 1 ∨ c.res ≠ none ∨ s.anoRuns = false)) ∧
    (let c := mb 3 0 0 32; let s := asked c [(.ano, ANO.STAT_ROM, 1)]; s.ano.cmds = [c] ∧ c.op = 3 ∧ c.res = none ∧ s.anoRuns = true ∧ s.b.bit .ano ANO.STAT_ROM = true ∧ romOp 3 = false) ∧
    (let c := mb 1 0 0 0; (asked c []).serving 1 c [] ∧ c.req = [] ∧ (mb 1 0 0 1).req ≠ [] ∧ (asked (mb 1 0 0 1) []).serving 1 (mb 1 0 0 1) []) ∧
    (let c := mb 2 0 0 0; (asked c []).serving 2 c [] ∧ c.req = [] ∧ maskOk 0x3FFE = true ∧ maskOk 0x4000 = false ∧ maskOk 1 = false) ∧
    (let c := mb 3 0x2000 0 32; (asked c []).serving 3 c [] ∧ c.req.length = 32 ∧ maskOk c.a0.toNat = true ∧ (asked (mb 3 0 0 31) []).serving 3 (mb 3 0 0 31) []) ∧
    (let c := mb 0x10 255 0 0; let s := asked c []; s.serving 0x10 c [] ∧ c.req = [] ∧ c.a0.toNat < 256 ∧ s.b.slotState c.a0.toNat = 0 ∧
      (asked (mb 0x10 256 0 0) []).serving 0x10 (mb 0x10 256 0 0) []) ∧
    (let c := mb 0x10 255 0 0; let s := asked c [(.enc 0, ENCT.KS_STAT_STATE.nth 255, 1)]; s.serving 0x10 c [] ∧ s.b.slotState c.a0.toNat ≠ 0) ∧
    (let c := mb 0x11 255 1 72; let s := asked c []; s.serving 0x11 c [] ∧ c.req.length = 72 ∧ c.a0.toNat < 256 ∧ s.ano.open_ c.a1 = true ∧ s.b.slotState c.a0.toNat = 0 ∧ s.ano.open_ 2 = false) ∧
    (let c := mb 0x11 255 1 72; let s := asked c [(.enc 0, ENCT.KS_STAT_STATE.nth 255, 1)]; s.serving 0x11 c [] ∧ s.b.slotState c.a0.toNat ≠ 0) ∧
    (let c := mb 0x11 255 1 72; let s := asked c []; s.ano.unwrap c.a1 c.req = none ∨ ∃ l, s.ano.unwrap c.a1 c.req = some l) ∧
    (let c := mb 0x12 0 1 40; let s := fused (asked c []) ⟨true, false, 0, 0, 0, 0, [], 0⟩; s.serving 0x12 c [] ∧ c.req.length = 40 ∧ s.b.part.op = false ∧ s.b.fuse.enrolled = true ∧ s.ano.open_ c.a1 = true) ∧
    (let c := mb 0x12 0 1 40; let s := asked c []; s.ano.unwrap c.a1 c.req = none ∨ ∃ l, s.ano.unwrap c.a1 c.req = some l) ∧
    (let c := mb 0x12 0 1 40; let s := fused (asked c []) ⟨false, false, 0, 0, 0, 0, [], 0⟩; s.serving 0x12 c [] ∧ (s.b.part.op = true ∨ s.b.fuse.enrolled = false)) ∧
    (let c := mb 0x30 0 0 1984; let t := fused (asked c []) ⟨false, false, 0, 0, 0, 0, [], 0⟩; let s : State := { t with b := { t.b with aonUs := 60000000 }, ano := { t.ano with identAt := some 0 } };
      s.serving 0x30 c [] ∧ c.req.length = 1984 ∧ s.b.part.op = false ∧ s.b.fuse.enrolled = false ∧ s.ano.identAt = some 0 ∧ s.b.aonUs - 0 ≤ 60000000) ∧
    (let c := mb 0x30 0 0 1984; let s := fused (asked c []) ⟨false, false, 0, 0, 0, 0, [], 0⟩; s.serving 0x30 c [] ∧ s.ano.identAt = none) ∧
    ((opPart (fused (asked (mb 0x31 15 0 5357) []) ⟨true, false, 0, 0, 0x7FFF, 0, [], 0⟩)).serving 0x31 (mb 0x31 15 0 5357) []) ∧
    ((mb 0x31 15 0 5357).req.length = 5357) ∧
    (let s := (opPart (fused (asked (mb 0x31 15 0 5357) []) ⟨true, false, 0, 0, 0x7FFF, 0, [], 0⟩)); s.b.part.op = true ∧ 1 ≤ (15 : Word).toNat ∧ (15 : Word).toNat ≤ 15 ∧ nbit s.b.fuse.opRevoke 15 = false ∧ nbit s.b.fuse.opRevoke 14 = true) ∧
    ((asked (mb 0x31 0 0 5357) []).serving 0x31 (mb 0x31 0 0 5357) [] ∧ (opPart (asked (mb 0x31 0 0 5357) [])).serving 0x31 (mb 0x31 0 0 5357) []) ∧
    ((mb 0x31 0 0 5357).a0.toNat = 0 ∧ 15 < (mb 0x31 16 0 5357).a0.toNat ∧ (asked (mb 0x31 0 0 5357) []).b.part.op = false) ∧
    (let c := mb 0x32 15 0 3374; let s := opPart (asked c []); s.serving 0x32 c [] ∧ 3374 ≤ c.req.length ∧ s.b.part.op = true ∧ 1 ≤ c.a0.toNat ∧ c.a0.toNat ≤ 15 ∧ (mb 0x32 15 0 3373).req.length < 3374) ∧
    (let l : List Byte := 15 :: List.replicate 3373 0; l.length = 3374 ∧ leAt l 0 (l.length - 3373) = 15) ∧
    (let s := asked (mb 0x31 15 0 5357) []; ∀ b, b = rootSigned s.b (mb 0x31 15 0 5357).req → b = true ∨ b = false) ∧
    (let c := mb 0x28 1 64 0; let s := fused (asked c [(.ldr, LDR.SVN, 64)]) ⟨true, false, 0, 63, 0, 0, [], 0⟩; s.serving 0x28 c [] ∧ c.req = [] ∧ c.a0.toNat ≤ 1 ∧ c.a1.toNat ≤ 64 ∧ s.b.fuse.cfgCtr ≤ c.a1.toNat ∧
      c.a1.toNat ≤ s.b.fld .ldr LDR.SVN ∧ Nat.max s.b.fuse.cfgCtr (Nat.min 64 64) ≠ s.b.fuse.cfgCtr ∧ Nat.max s.b.fuse.cfgCtr (Nat.min 0 64) = s.b.fuse.cfgCtr) ∧
    (let c := mb 0x28 0 65 0; let s := fused (asked c []) ⟨true, false, 0, 0, 0, 0, [], 0⟩; s.serving 0x28 c [] ∧ 64 < c.a1.toNat ∧ c.a0.toNat ≤ 1 ∧ 1 < (mb 0x28 2 0 0).a0.toNat) :=
  ⟨by decide,
    by decide,
    by decide,
    by unfold State.serving; decide +kernel,
    by unfold State.serving; decide +kernel,
    by unfold State.serving; decide +kernel,
    by unfold State.serving; decide +kernel,
    by unfold State.serving; decide +kernel,
    by unfold State.serving; decide +kernel,
    by unfold State.serving; decide +kernel,
    (by intro c s; cases h : s.ano.unwrap c.a1 c.req <;> simp),
    by unfold State.serving; decide +kernel,
    (by intro c s; cases h : s.ano.unwrap c.a1 c.req <;> simp),
    by unfold State.serving; decide +kernel,
    by unfold State.serving; decide +kernel,
    by unfold State.serving; decide +kernel,
    ⟨rfl, rfl, rfl, by decide +kernel, by decide +kernel⟩,
    List.length_replicate,
    by decide +kernel,
    ⟨⟨rfl, rfl, rfl, by decide +kernel, by decide +kernel⟩, ⟨rfl, rfl, rfl, by decide +kernel, by decide +kernel⟩⟩,
    by decide +kernel,
    by unfold State.serving; decide +kernel,
    by decide +kernel,
    (by intro s b _; cases b <;> simp),
    by unfold State.serving; decide +kernel,
    by unfold State.serving; decide +kernel⟩
theorem witness_FirmwareRepairLogAndTelemetry :
    ((asked (mb 0x20 0 0 16384) []).serving 0x20 (mb 0x20 0 0 16384) []) ∧
    ((mb 0x20 0 0 16384).req.length = 16384) ∧
    ((mb 0x20 0 0 16385).req.length = 16385) ∧
    (let s := asked (mb 0x20 0 0 16384) []; (0 : Word).toNat + 16384 ≤ (flashArea s.b (0 : Word).toNat).2 ∧ ¬ ((0 : Word).toNat ≠ 0)) ∧
    (let c := mb 0x20 2 0 0; let s : State := (asked c [(.ldr, LDR.STATE_PHASE, 1), (.ldr, LDR.STATE_SRC, 2)]); s.serving 0x20 c [] ∧ c.a0.toNat ≠ 0 ∧ (s.phase = 1 ∨ s.phase = 2) ∧ s.loadSrc = c.a0.toNat) ∧
    (let c := mb 0x20 3 0 0; (asked c []).serving 0x20 c [] ∧ 2 < c.a0.toNat) ∧
    (let c := mb 0x21 2 0 0; (asked c []).serving 0x21 c [] ∧ c.req = [] ∧ c.a0.toNat ≤ 2 ∧ 2 < (mb 0x21 3 0 0).a0.toNat) ∧
    (let c := mb 0x22 1 0 0; let s := passed (asked c []) 1; s.serving 0x22 c [] ∧ c.req = [] ∧ c.a0.toNat ≤ 1 ∧ s.ano.verified.getLsbD 0 = true) ∧
    (let c := mb 0x22 0 0 0; let s := passed (asked c []) 6; s.serving 0x22 c [] ∧ c.a0.toNat ≤ 1 ∧ s.ano.verified.getLsbD 0 = false ∧ 1 < (mb 0x22 2 0 0).a0.toNat) ∧
    (let t := slate [(.pkg, PKG.RST_STAT_STAGE, 4)]; let s : State := { t with ano := { t.ano with run := 1 } }; s.ano.run ≠ 0 ∧ s.b.bit .ano ANO.STAT_READY = false ∧ 4 ≤ s.b.fld .pkg PKG.RST_STAT_STAGE ∧
      (true && decide (s.b.fuse.fwCtr ≤ (64 : Word).toNat) && !((s.ano.slot 1).trial && !(s.ano.slot 1).confirmed && decide (3 ≤ (s.ano.slot 1).boots))) = true ∧
      (true && decide (s.b.fuse.fwCtr ≤ (64 : Word).toNat) && !((s.ano.slot 0).trial && !(s.ano.slot 0).confirmed && decide (3 ≤ (s.ano.slot 0).boots))) = true ∧
      (s.ano.btnPor || decide ((s.ano.slot 0).seq < (s.ano.slot 1).seq)) = false) ∧
    (let t := slate [(.pkg, PKG.RST_STAT_STAGE, 3)]; ¬ (t.ano.run ≠ 0 ∧ t.b.bit .ano ANO.STAT_READY = false ∧ 4 ≤ t.b.fld .pkg PKG.RST_STAT_STAGE)) ∧
    (let c := mb 0x38 0 0 0; let s := asked c []; s.serving 0x38 c [] ∧ c.req = [] ∧ Nat.max 2 ((s.vbd.todo ++ softRepairs s).length + 1) ≤ s.vbd.freeRecs) ∧
    (let c := mb 0x38 0 0 0; let t := asked c []; let s : State := { t with vbd := { t.vbd with todo := List.replicate 4096 1 } }; s.serving 0x38 c [] ∧
      s.vbd.freeRecs < Nat.max 2 ((s.vbd.todo ++ softRepairs s).length + 1)) ∧
    (let c := mb 0x40 0 0 0; (asked c []).serving 0x40 c [] ∧ c.req = []) ∧
    (let c := mb 0x41 0 0 0; (asked c []).serving 0x41 c [] ∧ c.req = []) ∧
    (let c := mb 0x48 0 0 0; (asked c []).serving 0x48 c [] ∧ c.req = []) ∧
    (let c := mb 0x49 0 0 0; (asked c []).serving 0x49 c [] ∧ c.req = [] ∧ (asked c []).anoRuns = true) ∧
    (let s : State := { slate [] with ano := { State.reset.ano with run := 0 } }; s.anoRuns = false ∧ s.ano.cmds = []) ∧
    (let c : MbCmd := { mb 1 0 0 0 with res := some (255, List.replicate 64 0) }; (asked c []).ano.cmds = [c] ∧ c.mctp = false ∧ 255 < 256 ∧ 64 < 32768) ∧
    (let c := mb 0xFF 0 0 0; let s := asked c []; s.ano.cmds = [c] ∧ c.res = none ∧ s.anoRuns = true ∧ c.op ∉ mbOps) ∧
    (let c : MbCmd := { mb 1 0 0 0 with mctp := true, res := some (0, []) }; (asked c []).ano.cmds = [c] ∧ c.mctp = true) ∧
    (let c := mb 1 0 0 0; (asked c []).ano.cmds = [c] ∧ c.res = none ∧ c.op ∈ mbOps) :=
  ⟨⟨rfl, rfl, rfl, by decide +kernel, by decide +kernel⟩,
    List.length_replicate,
    List.length_replicate,
    by decide +kernel,
    by unfold State.serving; decide +kernel,
    by unfold State.serving; decide +kernel,
    by unfold State.serving; decide +kernel,
    by unfold State.serving; decide +kernel,
    by unfold State.serving; decide +kernel,
    by decide,
    by decide,
    by unfold State.serving; decide +kernel,
    by unfold State.serving; decide +kernel,
    by unfold State.serving; decide +kernel,
    by unfold State.serving; decide +kernel,
    by unfold State.serving; decide +kernel,
    by unfold State.serving; decide +kernel,
    by decide,
    by decide,
    by decide,
    by decide,
    by decide⟩
theorem witness_AnoleInstancesButtonAndPolicies :
    (let s : State := { slate [] with ano := { State.reset.ano with skip := true } }; s.ano.skip = true) ∧
    (let s : State := { slate [] with ano := { State.reset.ano with run := 0 } }; s.ano.skip = false ∧ s.pressable = false) ∧
    (let s := asked (mb 1 0 0 0) [(.ldr, LDR.STATE_PHASE, 3), (.efl 7, EFL.STAT_STATE, eUP)]; s.ano.skip = false ∧ s.pressable = true ∧ s.ano.presses = [] ∧ s.phase = 3 ∧
      s.b.bit .pci PCI.RMV_STAT_REQ = false ∧ s.b.eflState 7 = eUP) ∧
    (let s := asked (mb 1 0 0 0) [(.pci, PCI.RMV_STAT_REQ, 1)]; s.pressable = true ∧ s.b.bit .pci PCI.RMV_STAT_REQ = true) ∧
    (let s : State := { slate [] with ano := { State.reset.ano with run := 0 } }; s.ano.run &&& s.b.activeBit = 0 ∧ s.anoRuns = false) ∧
    (let s : State := { slate [] with ano := { State.reset.ano with run := 3 } }; s.ano.run &&& s.b.activeBit ≠ 0 ∧ s.ano.presses = []) ∧
    (let s := slate [(.ano, ANO.STAT_ACTIVE, 1)]; s.b.fld .ano ANO.STAT_ACTIVE ≠ 0) ∧
    (let s : State := { slate [] with ano := { State.reset.ano with run := 2, cmds := [mb 1 0 0 0] } }; s.b.fld .ano ANO.STAT_ACTIVE = 0 ∧ s.ano.run.getLsbD 1 = true ∧ s.ano.presses = []) ∧
    ((slate [(.ano, ANO.CRK_FROZEN, 0)]).b.bit .ano ANO.CRK_FROZEN = false) ∧
    (let s := asked (mb 1 0 0 0) []; s.anoRuns = true ∧ s.b.bit .ano ANO.STAT_READY = true ∧ (2 : Fin 3) = 2) ∧
    (let s := funs (asked (mb 1 0 0 0) [(.pci, PCI.LINK_STAT_UP_A, 1)]) [(0, live)]; s.anoRuns = true ∧ s.b.bit .ano ANO.STAT_READY = true ∧ s.fnPresent 0 = true ∧ s.b.fnLinkUp 0 = true ∧ (s.b.fn 0).ready = true ∧
      (0 : Fin 3).val * 2 ^ 32 + (1 : Word).toNat ∈ s.ano.sessions ∧ (0 : Fin 3).val * 2 ^ 32 + (2 : Word).toNat ∉ s.ano.sessions ∧ (0 : Fin 3) ≠ 2) ∧
    (¬ ((slate [(.ano, ANO.STAT_READY, 0)]).b.bit .ano ANO.STAT_READY = true)) ∧
    (let s := asked (mb 1 0 0 0) [(.hop 3, HDR.ERR_CFG_THRESH, 1)]; s.anoRuns = true ∧ s.b.bit .ano ANO.STAT_READY = true ∧ s.b.fld (.hop 3) HDR.ERR_CFG_THRESH ≠ 0 ∧
      ¬ (s.b.fld (.hop 3) HDR.ERR_LOG0_VALID = 1 ∧ s.b.fld (.hop 3) HDR.ERR_LOG0_KIND = 2)) ∧
    (let s := poke (asked (mb 1 0 0 0) [(.hop 3, HDR.ERR_CFG_THRESH, 1), (.hop 3, HDR.ERR_LOG0_VALID, 1), (.hop 3, HDR.ERR_LOG0_KIND, 2), (.hop 3, HDR.ERR_LOG3, 7)]) [(evtOf (.hop 3), 1)];
      s.anoRuns = true ∧ s.b.bit .ano ANO.STAT_READY = true ∧ s.b.fld (.hop 3) HDR.ERR_CFG_THRESH ≠ 0 ∧ s.b.word (evtOf (.hop 3)) &&& 1 ≠ 0 ∧ s.b.fld (.hop 3) HDR.ERR_LOG0_VALID = 1 ∧
      s.b.fld (.hop 3) HDR.ERR_LOG0_KIND = 2 ∧ s.b.fld (.hop 3) HDR.ERR_LOG3 = 7 ∧ 7 % 4 = 3) ∧
    (let t := asked (mb 1 0 0 0) [(.hop 3, HDR.ERR_LOG0_VALID, 1), (.hop 3, HDR.ERR_LOG0_KIND, 2), (.hop 3, HDR.ERR_LOG3, 6)];
      let s : State := { t with b := { t.b with aonUs := 1000000 }, ano := { t.ano with flits := [(30, some 0)] } }; s.anoRuns = true ∧ s.b.bit .ano ANO.STAT_READY = true ∧
      s.b.fld (.hop 3) HDR.ERR_LOG0_VALID = 1 ∧ s.b.fld (.hop 3) HDR.ERR_LOG0_KIND = 2 ∧ SMap.get (fun _ => none) s.ano.flits (8 * 3 + 6 % 8) = some 0 ∧ 6 % 4 < 3 ∧ s.b.aonUs - 0 ≤ 1000000 ∧
      s.b.commitPend (.hop 3) = false ∧ hopShadowOk ((s.b.releaseLog (.hop 3)).setShFld (.hop 3) HOP.MAPCTL_DEGRADE_B (if nbit 6 2 then 1 else 2)) 3 = true) ∧
    (let t := asked (mb 1 0 0 0) [(.hop 3, HDR.ERR_LOG0_VALID, 1), (.hop 3, HDR.ERR_LOG0_KIND, 2), (.hop 3, HDR.ERR_LOG3, 0), (.hop 3, HDR.BLK_STAT_COMMIT_PEND, 1)];
      let s : State := { t with b := { t.b with aonUs := 1000001 }, ano := { t.ano with flits := [(24, some 1)] } }; SMap.get (fun _ => none) s.ano.flits (8 * 3 + 0 % 8) = some 1 ∧
      s.b.aonUs - 1 ≤ 1000000 ∧ s.b.commitPend (.hop 3) = true ∧ 1000000 < s.b.aonUs - 0) ∧
    (let s := poke (asked (mb 1 0 0 0) [(.gd 15, HDR.ERR_CFG_THRESH, 1)]) [(evtOf (.gd 15), 1)]; s.anoRuns = true ∧ s.b.bit .ano ANO.STAT_READY = true ∧ s.b.fld (.gd 15) HDR.ERR_CFG_THRESH ≠ 0 ∧
      s.b.word (evtOf (.gd 15)) &&& 1 ≠ 0) ∧
    (let s := poke (asked (mb 1 0 0 0) [(.evr, HDR.ERR_CFG_THRESH, 1)]) [(evtOf .evr, 1)]; s.b.fld .evr HDR.ERR_CFG_THRESH ≠ 0 ∧ s.b.word (evtOf .evr) &&& 1 ≠ 0) ∧
    (let s := poke (asked (mb 1 0 0 0) [(.pnd 127, HDR.ERR_CFG_THRESH, 1), (.pnd 127, HDR.ERR_LOG0_VALID, 1), (.pnd 127, HDR.ERR_LOG0_KIND, 1)]) [(evtOf (.pnd 127), 1)];
      s.anoRuns = true ∧ s.b.bit .ano ANO.STAT_READY = true ∧ s.b.fld (.pnd 127) HDR.ERR_CFG_THRESH ≠ 0 ∧ s.b.word (evtOf (.pnd 127)) &&& 1 ≠ 0 ∧ s.b.fld (.pnd 127) HDR.ERR_LOG0_VALID = 1 ∧
      s.b.fld (.pnd 127) HDR.ERR_LOG0_KIND = 1) ∧
    ((padColumn 1).isSome = true ∧ padColumn 0 = none) :=
  ⟨by decide,
    by decide,
    by decide +kernel,
    by decide +kernel,
    by decide,
    by decide,
    by decide,
    by decide,
    by decide,
    by decide +kernel,
    by decide +kernel,
    by decide,
    by decide +kernel,
    by decide +kernel,
    by decide +kernel,
    by decide +kernel,
    by decide +kernel,
    by decide +kernel,
    by decide +kernel,
    by decide⟩
theorem witness_RejectedGoAppliesNothing : let s := shSet (slate [(.ckr, CKR.STAT_LOCK, 1)]) [(.clk 3, CLK.GCLK_CFG_DIV.nth 31, 5)]; s.admits (.clk 3) ∧ (s.maWake (.clk 3)).commitOk (.clk 3) = false ∧ (s.maWake (.clk 3)).b.commitPend (.clk 3) = false :=
  by unfold State.admits; decide +kernel
theorem witness_ClockDividersAreAtLeastSix :
    (let s := shSet (slate [(.ckr, CKR.STAT_LOCK, 1)]) [(.clk 3, CLK.GCLK_CFG_DIV.nth 31, 5)]; s.admits (.clk 3) ∧ (s.maWake (.clk 3)).b.commitPend (.clk 3) = false ∧
      (s.maWake (.clk 3)).b.shFld (.clk 3) (CLK.GCLK_CFG_DIV.nth 31) < 6) ∧
    (let s := slate [(.ckr, CKR.STAT_LOCK, 1)]; s.admits (.clk 3) ∧ (s.maWake (.clk 3)).b.commitPend (.clk 3) = false ∧ (∀ n, n < 32 → 6 ≤ (s.maWake (.clk 3)).b.shFld (.clk 3) (CLK.GCLK_CFG_DIV.nth n))) :=
  ⟨by unfold State.admits; decide +kernel,
    by unfold State.admits; decide +kernel⟩
theorem witness_EfmelPartnerAddress :
    (2 ^ 40 - 1 < 2 ^ 40 ∧ 0x17FFFFFFFFFC = 0x100000000000 + 7 * 0x10000000000 + (2 ^ 40 - 4)) ∧
    (let r := anoleReq 0x17FFFFFFFFFC; let t := efl7 { port1023 with granted := 1 } [(.efl 7, HDR.BLK_CTRL_EN, 1), (.efl 7, EFL.STAT_STATE, eUP)]; let s : State := { t with hop := t.hop.setGrant r.src (eflStop 7) 1 };
      let e := eflAt s.efl 7; r.addr.toNat = 0x17FFFFFFFFFC ∧ s.mayArrive r false = true ∧ s.b.enabled (.efl 7) = true ∧ r.priv = true ∧ s.b.eflState 7 = eUP ∧ e.quiescing = false ∧
      s.hop.grant r.src (eflStop 7) ≠ 0 ∧ e.freeTag = some 0 ∧ e.credits ≠ 0 ∧ e.replay.length < 256) :=
  ⟨by decide,
    by decide +kernel⟩

theorem witness_HopRequestsAndCompletions :
    ((slate []).mayArrive ⟨255, false, 0, 0, 4095, 0, 4, false, 0, 0, false, false⟩ true = false) ∧
    (let s := map1 (slate []) 0 2 0x40 0x100FF0; s.hasGrant (anoleReq 0x10000000000) false = none) ∧
    (arrives (slate []) 0x10000000000 fun _ _ => true) ∧
    (calm.corr = 0 ∧ ({ calm with uc := true } : Wire).uc = true ∧ ({ calm with resv := true } : Wire).resv = true ∧ calm.edc = 0) ∧
    (arrives (slate []) 0x30000010000 fun u r => targetStop (u.b.gmode (u.b.srcTower r.src)) r.addr.toNat == none) ∧
    (arrives (slate []) 0x1000000003E fun u r => (targetStop (u.b.gmode (u.b.srcTower r.src)) r.addr.toNat).isSome && !oneBlock r) ∧
    (arrives (map1 (slate []) 0 2 0x40 0) 0x10000000000 fun u r => oneBlock r && !u.reach 0 2 0 1 false) ∧
    (arrives { slate [] with hop := { State.reset.hop with levels := [(1, 1)] } } 0x10000000000 fun u r =>
      targetStop (u.b.gmode 0) r.addr.toNat == some 0x60 && u.reach 0 2 0 1 false && u.levelAsleep 0 2 0x60 == some (.level 0 1)) ∧
    (pkgFull.mayArrive (anoleReq 0x30001000000) false = true ∧ targetStop false 0x30001000000 = some 0x140 ∧ pkgFull.flows (anoleReq 0x30001000000) false 0x89 0x140 false = false) ∧
    (arrives (slate [(.gkc 127, HDR.BLK_STAT_STATE, stAsleep)]) 0x30003F80000 fun u r => open1 u r 0x35F && u.sleeper r == some (.gecko 127) && (u.fenceOf r).2.isNone) ∧
    (arrives (slate [(.gkc 127, HDR.BLK_STAT_STATE, stAsleep), (.gkc 127, HDR.BLK_CTRL_EN, 0)]) 0x30003F80000 fun u r =>
      open1 u r 0x35F && u.sleeper r == some (.gecko 127) && (u.fenceOf r).2.isSome) ∧
    (arrives (slate []) 0x10000000000 fun u r => open1 u r 0x60 && (u.sleeper r).isNone && !isGddr r.addr.toNat &&
      (match u.serve r false false true false with | .ans _ _ => true | .hold | .sent _ => false)) ∧
    (arrives (slate []) 0x20000000000 fun u r => open1 u r 0x84 && (u.sleeper r).isNone && !isGddr r.addr.toNat &&
      (match u.serve r false false true false with | .sent _ => true | .hold | .ans _ _ => false)) ∧
    (arrives (slate gd0Open) 0x40 fun u r => open1 u r 0x80 && (u.sleeper r).isNone && isGddr r.addr.toNat && u.hop.homes.isEmpty &&
      (u.fenced (u.b.srcTower r.src) r).2.isNone && (homeNeed (u.fenced (u.b.srcTower r.src) r).1.gko 0 0 (r.addr.toNat / 64)).isEmpty &&
      ((u.fenced (u.b.srcTower r.src) r).1.serveMem 0 r false).isSome) ∧
    (arrives (slate ((.gd 0, HDR.BLK_CTRL_EN, 0) :: gd0Open)) 0x40 fun u r => (u.sleeper r).isNone && isGddr r.addr.toNat && u.hop.homes.isEmpty && (u.fenced (u.b.srcTower r.src) r).2.isSome) ∧
    ((slate []).hop.heldFlits = []) ∧
    (let f := heldAt (.gecko 127) 0x35F 0x30003F80000 []; let s : State := { slate [(.gkc 127, HDR.BLK_STAT_STATE, stAsleep)] with hop := { State.reset.hop with heldFlits := [f] } };
      f.dom = .gecko 127 ∧ isGddr f.flits.read.addr.toNat = false ∧
      (match (wakeDomain { s with hop := { s.hop with heldFlits := [] } } (.gecko 127)).serve f.flits.read f.write f.flits.epoch true true with
      | .ans _ _ => true | .hold | .sent _ => false) = true) ∧
    (({ slate [] with pwr := { State.reset.pwr with pwrFail := true } } : State).pwr.pwrFail = true) ∧
    ((takeAnswer (slate []).b.out 255 4095 true).isNone = true) ∧
    (let b : Base := { (slate []).b with out := [.hop 255 4095 0 true 5 false false] }; (takeAnswer b.out 255 4095 true).isSome = true) ∧
    (let r : HopReq := ⟨255, false, 0, 0, 4095, 0, 4, false, 0, 0, false, false⟩; let s := ask (slate [(.hop 3, HOP.TAGTO_US, 0)]) r false; (s.hop.tagOf 255 4095).isSome = true ∧
      s.hop.isLate 255 4095 = false ∧ r.src.val < 256 ∧ SMap.get (fun _ => none) s.hop.fhpPend 255 = none ∧ s.b.fld (.hop (tw (s.b.srcTower 255))) HOP.TAGTO_US = 0) ∧
    (let r : HopReq := ⟨255, false, 0, 0, 4095, 0, 4, false, 0, 0, false, false⟩;
      let s : State := { ask (slate []) r false with hop := { (ask (slate []) r false).hop with late := [(tagKey 255 4095, 1)] } };
      s.hop.isLate 255 4095 = true ∧ (s.hop.tagOf 255 4095).isSome = true) ∧
    (let r : HopReq := ⟨255, false, 0, 0, 4095, 0, 4, false, 0, 0, false, false⟩; let t := ask (slate [(.hop 3, HOP.TAGTO_US, 1)]) r false;
      let s : State := { t with b := { t.b with aonUs := 1 } }; s.b.fld (.hop (tw (s.b.srcTower 255))) HOP.TAGTO_US ≠ 0 ∧
      (s.hop.tagOf 255 4095).map (fun x => (decide (x.issuedAt + s.b.fld (.hop (tw (s.b.srcTower 255))) HOP.TAGTO_US ≤ s.b.aonUs), x.engine, x.req.src)) = some (true, false, 255) ∧
      (t.hop.tagOf 255 4095).map (fun x => decide (t.b.aonUs < x.issuedAt + t.b.fld (.hop (tw (t.b.srcTower 255))) HOP.TAGTO_US)) = some true) ∧
    (let x : HopTag := ⟨false, anoleReq 64, 0, false, false, 0, false, true, false⟩; let t := slate [(.hop 0, HOP.TAGTO_US, 1)];
      let s : State := { t with b := { t.b with aonUs := 1 }, hop := { t.hop with tags := [(tagKey 1008 5, some x)] } };
      s.hop.tagOf 1008 5 = some x ∧ x.engine = true ∧ x.expired = false ∧ s.b.fld (.hop (tw (s.b.srcTower 1008))) HOP.TAGTO_US ≠ 0) ∧
    (let r : HopReq := ⟨255, false, 0, 0, 4095, 0, 64, true, 1, 0, false, false⟩; r.bex = true ∧ (r.priv = true → r.ctx = 0)) :=
  ⟨by decide,
    by decide +kernel,
    by unfold arrives; decide +kernel,
    by decide,
    by unfold arrives; decide +kernel,
    by unfold arrives; decide +kernel,
    by unfold arrives; decide +kernel,
    by unfold arrives; decide +kernel,
    no_flow,
    by unfold arrives; decide +kernel,
    by unfold arrives; decide +kernel,
    by unfold arrives; decide +kernel,
    by unfold arrives; decide +kernel,
    by unfold arrives; decide +kernel,
    by unfold arrives; decide +kernel,
    by decide,
    by decide +kernel,
    by decide,
    by decide,
    by decide +kernel,
    by decide,
    by decide,
    by decide,
    by decide +kernel,
    by decide +kernel⟩
theorem witness_HopPortsAndEpochs :
    (calm.corr = 0 ∧ (slate []).hop.rsvAt 0 = [] ∧ (0 : Fin 17) = 0) ∧
    (let s : State := { slate [] with hop := { State.reset.hop with rsv := [(0, [(1023, 16)])] } }; (s.hop.rsvAt 0).any (fun e => e.1 == (1023 : Fin 1024).val) = true) ∧
    (let s := slate []; (16 : Fin 17) ≠ 0 ∧ (s.hop.rsvAt 0).any (fun e => e.1 == (1023 : Fin 1024).val) = false ∧ eflOfStop 0 = none ∧ ({ calm with uc := true } : Wire).uc = true) ∧
    (eflOfStop 0x38C = some 7 ∧ (slate []).b.eflState 7 ≠ eUP) ∧
    (let s : State := { slate [] with hop := { State.reset.hop with rsv := [(0, [(1022, 0), (1023, 16)])] } }; (s.hop.rsvAt 0).find? (fun e => e.2 != 0) = some (1023, 16) ∧
      eflOfStop 0 = none ∧ min 16 16 ≠ 0) ∧
    (let s : State := { slate [] with hop := { State.reset.hop with rsv := [(0x38C, [(1023, 16)])] }, efl := [(7, { Efl.init with credits := 128 })] };
      eflOfStop 0x38C = some 7 ∧ (eflAt s.efl 7).quiescing = false ∧ min 16 (eflCover (eflAt s.efl 7)) = 16 ∧ eflCover (eflAt State.reset.efl 7) = 0) ∧
    (let s := slate []; (s.b.commitPend (.hop 3) && nbit (s.b.parts (.hop 3)) 2 && !s.remains 3 2 (!s.b.epoch 3 2)) = false) ∧
    (let t := slate [(.hop 3, HDR.BLK_STAT_COMMIT_PEND, 1)]; let s : State := { t with b := { t.b with commitParts := [(psrc (.hop 3), 4)] } };
      (s.b.commitPend (.hop 3) && nbit (s.b.parts (.hop 3)) 2 && !s.remains 3 2 (!s.b.epoch 3 2)) = true) ∧
    (let s := slate []; s.hopSampled 3 63 = false ∧ s.b.liveOf 3 (hopPortMarsh 63) = 0 ∧ (255 : Fin 1024).val = 64 * 3 + 63) ∧
    (let s := hopSig [] []; s.hopSampled 3 63 = true ∧ nget (sampled63 s) 344 343 ≠ 1 ∧ nget (sampled63 s) 344 343 ≠ 2) ∧
    (let s := hopSig [343, 336, 347, 358] []; s.hopSampled 3 63 = true ∧ nget (sampled63 s) 344 343 = 1 ∧ s.hop.ready 255 (nget (sampled63 s) 358 347) = true ∧
      (nget (sampled63 s) 342 336 = 1 ∧ nget (sampled63 s) 358 347 = 2049) ∧ s.b.upperDown 3 = false ∧ s.isOut 3 (hopPortMarsh 63) = false ∧
      (List.range 4).any (fun w => s.hop.windowAdmits 3 63 0 w (s.b.epoch 3 0) false 0 0) = false) ∧
    (let r : HopReq := ⟨255, false, 0, 0, 0, 0, 4, false, 0, 0, false, false⟩; let s := ask (hopSig [343] []) r false; nget (sampled63 s) 344 343 = 1 ∧
      s.hop.ready 255 (nget (sampled63 s) 358 347) = false) ∧
    (let s := hopSig [344, 256] []; s.hopSampled 3 63 = true ∧ nget (sampled63 s) 344 343 = 2 ∧ nget (sampled63 s) 359 359 = 0 ∧ s.hop.ready 255 (nget (sampled63 s) 358 347) = true) ∧
    (let s := hopSig [344, 256, 359] []; nget (sampled63 s) 344 343 = 2 ∧ nget (sampled63 s) 359 359 = 1 ∧ SMap.get (fun _ => none) s.hop.beat 255 = none ∧
      s.b.liveOf 3 (hopPortMarsh 63) = 0 ∧ sameWrite (sampled63 (hopSig [344, 256] [])) (sampled63 s) = true ∧
      sameWrite (sampled63 (hopSig [344, 345] [])) (sampled63 s) = false) ∧
    (let t := hopSig [343] [(.vbd 3, VBD.SVC_STAT_UPPER_DOWN, 1)]; t.hopSampled 3 63 = true ∧ t.b.upperDown 3 = true) ∧
    (let t := hopSig [343] [(.chm 3, CHM.EXCLUDE.nth 11, 0x80000000)]; t.hopSampled 3 63 = true ∧ t.isOut 3 (hopPortMarsh 63) = true) ∧
    (let s := map1 (slate []) 3 0 (0x8000 + 16 * (32 * 63 + 3) + 8) 7; (List.range 4).any (fun w => s.hop.windowAdmits 3 63 0 w (s.b.epoch 3 0) true 0 63) = true) ∧
    (let s := slate []; s.admits (.hop 3) ∧ s.hop.outstanding (64 * 3 + 2 * 31) = 0 ∧ s.hop.outstanding (64 * 3 + 2 * 31 + 1) = 0) ∧
    (let x : HopTag := ⟨false, anoleReq 0, 0, false, false, 0, false, false, false⟩;
      let s : State := { slate [] with hop := { State.reset.hop with tags := [(tagKey 254 0, some x), (tagKey 255 0, some x)] } };
      s.hop.outstanding (64 * 3 + 2 * 31) ≠ 0 ∧ s.hop.outstanding (64 * 3 + 2 * 31 + 1) ≠ 0) ∧
    ((slate [(.hst 3, HST.WINDOW_US, 0)]).b.fld (.hst 3) HST.WINDOW_US = 0) ∧
    (let t := slate [(.hst 3, HST.CTRL_FREEZE, 0)]; let s : State := { t with hop := { t.hop with hst := [(32 * (1024 * 3 + 1023), 1)] } };
      s.b.fld (.hst 3) HST.WINDOW_US ≠ 0 ∧ s.b.bit (.hst 3) HST.CTRL_FREEZE = false ∧ s.hop.stat 3 1023 0 ≠ 0) ∧
    ((slate [(.hst 3, HST.CTRL_FREEZE, 1)]).b.bit (.hst 3) HST.CTRL_FREEZE = true) :=
  ⟨by decide,
    by decide,
    by decide,
    by decide,
    by decide,
    by decide,
    by decide,
    by decide,
    by decide,
    by decide +kernel,
    by decide +kernel,
    by decide +kernel,
    by decide +kernel,
    by decide +kernel,
    by decide +kernel,
    by decide +kernel,
    by decide +kernel,
    by unfold State.admits; decide,
    by decide,
    by decide,
    by decide,
    by decide⟩
theorem witness_LineHomesKeepCoherence :
    ((Gecko.init.fills.find? fun f => f.line == 1 && f.own == true && f.ans.isNone) = none) ∧
    (let f : Fill := ⟨1, true, false, none, some 9⟩; let s := gkStop { Gecko.init with fills := [f] } [];
      ((s.gko.at 127).fills.find? fun f => f.line == 1 && f.own == true && f.ans.isNone) = some f ∧ f.tag = some 9 ∧
      (s.hop.homes.find? fun v => v.req.src.val == 256 + 127 && v.req.tag.val == 9) = none) ∧
    (lineAsked (slate gd0Open) ⟨1, true, false, none, none⟩ fun s u r => !s.hop.writesBlock r.src (tagKey r.src r.tag) s.hop.next 1 &&
      u.reach 3 1 0 2 (s.b.epoch 3 1) && s.hop.homes.isEmpty && !s.hop.isLate r.src r.tag && (u.fenced (u.b.srcTower r.src) r).2.isNone &&
      (homeNeed s.gko 2 127 1).isEmpty && ((u.fenced (u.b.srcTower r.src) r).1.serveMem 3 r false).map (fun y => y.2.isData) == some true) ∧
    (lineAsked (slate gd0Open.tail.tail) ⟨1, true, false, none, none⟩ fun s u r => u.reach 3 1 0 2 (s.b.epoch 3 1) &&
      ((u.fenced (u.b.srcTower r.src) r).2.map (fun a => a.isData)) == some false) ∧
    (lineAsked (map1 (slate gd0Open) 3 1 0x40 0) ⟨1, true, false, none, none⟩ fun s u _ => !u.reach 3 1 0 2 (s.b.epoch 3 1)) ∧
    (let g := slate gd0Open; lineAsked { g with gko := ⟨[], [(0, { Gecko.init with cache := [(1, some ⟨3, 5, false⟩)] })]⟩ } ⟨1, false, false, none, none⟩ fun s u r =>
      u.reach 3 1 0 2 (s.b.epoch 3 1) && (u.fenced (u.b.srcTower r.src) r).2.isNone && !(homeNeed s.gko 1 127 1).isEmpty) ∧
    (let g := slate gd0Open; let x : HopTag := ⟨true, { anoleReq 64 with src := 383 }, 0, false, false, 0, false, false, false⟩;
      lineAsked { g with hop := { g.hop with tags := [(tagKey 383 9, some x)], next := 1 } } ⟨1, true, false, none, none⟩ fun s _ r =>
      s.hop.writesBlock r.src (tagKey r.src r.tag) s.hop.next 1) ∧
    ((slate []).hop.homeOf 1 = none) ∧
    (let w : HomeWait := ⟨0, some 0, 2, 0, 1, anoleReq 64, [127], [], none, false⟩; let g := gkStop { Gecko.init with cache := [(1, some ⟨3, 5, false⟩)] } [];
      let s : State := { g with hop := { g.hop with homes := [w] } }; s.hop.homeOf 1 = some (0, w) ∧ w.need.contains 127 = true ∧ true = decide (2 ≤ w.kind) ∧
      calm.corr = 0 ∧ (s.gko.at 127).line 1 = some ⟨3, 5, false⟩) ∧
    (let w : HomeWait := ⟨0, some 7, 1, 0, 1, anoleReq 64, [0], [127], none, false⟩; let s : State := { slate [] with hop := { State.reset.hop with homes := [w] } };
      s.hop.homeOf 1 = some (0, w) ∧ w.need.contains 127 = false ∧ w.answering.contains 127 = true ∧ w.answering.contains 0 = false ∧ w.need ≠ []) ∧
    (let g := slate gd0Open; let w : HomeWait := ⟨0, some 0, 2, 0, 1, lineReq g.b 0 1 0, [], [127], none, false⟩; let s : State := { g with hop := { g.hop with homes := [w] } };
      s.hop.homes = [w] ∧ s.hop.homeOf 1 = some (0, w) ∧ w.kind = 2 ∧ w.need = [] ∧ w.answering = [127] ∧ w.lost = false ∧ w.wb = none ∧ homeNeed s.gko 2 w.gecko 1 = [] ∧
      s.hop.isLate w.req.src w.req.tag = false ∧ (s.serveMem (s.b.srcTower w.req.src) w.req false).isSome = true) ∧
    (((slate []).gko.at 127).line 1 = none) ∧
    (let s := gkStop { Gecko.init with cache := [(1, some ⟨2, 5, false⟩)] } []; (s.gko.at 127).line 1 = some ⟨2, 5, false⟩) ∧
    (let s := gkStop { Gecko.init with cache := [(1, some ⟨3, 5, false⟩)] } gd0Open; (s.gko.at 127).line 1 = some ⟨3, 5, false⟩ ∧
      (s.writeBackReq 127 1 5 false).map (fun y => y.2) = some false) :=
  ⟨by decide,
    by decide,
    by unfold lineAsked; decide +kernel,
    by unfold lineAsked; decide +kernel,
    by unfold lineAsked; decide +kernel,
    by unfold lineAsked; decide +kernel,
    by unfold lineAsked; decide +kernel,
    by decide,
    by decide +kernel,
    by decide +kernel,
    by decide +kernel,
    by decide +kernel,
    by decide +kernel,
    by decide +kernel⟩


/-! ### Values the spec gives -/

/-- 01, worked case: context C3, frame 0 of the marsh of T2.M05-17. -/
theorem test_frame_address : frameAddr 2 177 3 0 = 0x4B1600 ∧ faTower 0x4B1600 = 2 ∧ faMarsh 0x4B1600 = 177 ∧ faCtx 0x4B1600 = 3 ∧ faFrame 0x4B1750 = 336 := by decide
/-- 01 R17 and its worked DPA: row 100 of pad T2.P17:05. -/
theorem test_pad_address : dpaRegion 0x010028940C90 = .pads 2 ∧ padOfDpa 0x010028940C90 = 2597 := by decide
/-- 01 R17: what is not listed is reserved. -/
theorem test_dpa_reserved : dpaRegion 0x2000000000 = .reserved ∧ dpaRegion 0x030000010000 = .reserved ∧ dpaRegion 0x180000000000 = .reserved := by decide
/-- 02: PND17 of tower 2 reads 0x0009_0211. -/
theorem test_blk_id : regReset (pbase (.pnd 81)) = 0x00090211 := by decide +kernel
/-- 02, worked case: the route entry of tower 2's THM; a write goes to the shadow. -/
theorem test_route_write : routeAddr 274 0 = 0x40A1890 ∧
    after (.registerWrite 0x40A1890 0x00018025) (slate []) (fun t => (t.b.shWord 0x40A1890, t.b.word 0x40A1890)) = some (0x00018025, 0x00010000) := by decide +kernel
/-- 02, worked case: that route takes effect; with VECTOR 0 the GO is rejected and the old route stays. -/
theorem test_route_go :
    after (.commitApply .evr) { slate [] with b := (Base.reset.setShWord 0x40A1890 0x00018025).setFld .evr HDR.BLK_STAT_COMMIT_PEND 1 }
      (fun t => (t.b.word 0x40A1890, t.b.fld .evr HDR.BLK_STAT_COMMIT_RES, t.b.commitPend .evr)) = some (0x00018025, 1, false) ∧
    after (.commitGo .evr) { slate [] with b := Base.reset.setShWord 0x40A1890 0x00018000 }
      (fun t => (t.b.word 0x40A1890, t.b.fld .evr HDR.BLK_STAT_COMMIT_RES, t.b.word (evtOf .evr))) = some (0x00010000, 3, 0x10) := by decide +kernel
/-- 03 R39, worked case: a truth table of A XOR B and A AND B. -/
theorem test_truth_table : lutVal (fun k => some (k == 1)) 4 0x8866 = some true ∧ lutVal (fun k => some (decide (k < 2))) 4 0x8866 = some false ∧
    lutVal (fun k => if k < 2 then some (k == 0) else none) 3 0x66 = some true := by decide
/-- 04 R69, worked case: DH(134, 2, 6) of tower 1. -/
theorem test_deep_line : deepId 1 false 134 2 6 = 0x0110D180 := by decide
/-- 06 R123: one wrong check bit is found and corrected. -/
theorem test_check_bit : (frameDecode 2 ⟨0, 1⟩).map (·.n) = some 1 := corrected_check_bit
/-- 09, worked case: OWN_9_2 and BMASK_9 of PND4 of tower 1. -/
theorem test_pond_registers : pbase (.pnd 36) = 0x1124000 ∧ regOf (.pnd 36) (PND.OWN_OWNER.nth (8 * 9 + 2)) = 0x1124528 ∧ regOf (.pnd 36) (PND.BMASK_CTX.nth 9) = 0x1124824 := by decide +kernel

/-- Queue 16,645 of the worked example of 10: 16 slots in T1.P04:20. -/
def queue261 : Queue := { Queue.init with base := 0x010012500100, ctx := 2, len := 16, level := 4 }
/-- 10, worked case, step 1: AVAIL crosses LEVEL. -/
theorem test_queue_push : (let x := doPush Base.reset 16645 queue261 [1, 2, 3, 4] false
    (x.2.1.avail, x.2.1.freeSlots, x.1.word (pbase (.que 1) + 0x820), x.2.2.status)) = (4, 12, 0x20, 0) := by decide +kernel
/-- 10, worked case, steps 6 and 7. -/
theorem test_queue_release : (let x := (doRelease Base.reset 16645 { queue261 with readD := 4, writeD := 4 } 3).2; (x.rel, x.markD, x.readD, x.writeD)) = (3, 0, 1, 1) ∧
    ({ queue261 with rel := 3, readD := 1, writeD := 1, underrun := true } : Queue).status = 0x0000000F50000000 := by decide +kernel
/-- 11, worked case: the word channel 0 of G81 pushes. -/
theorem test_dma_word : dmaWord 81 0 0x10000 false false = 0x0000000005110000 := by decide
/-- 12, worked case: bundle 7. -/
theorem test_bundle7 : decBundle 0xA4080009 0x04908000 0x04B28000 0 =
    ⟨some (.loopi 128 9), some (.acc .ldv 4 (.ag 0 1 0) 0), some (.acc .ldv 5 (.ag 1 1 0) 0), some .nop⟩ := by decide
/-- 12, worked case: bundle 8. -/
theorem test_bundle8 : decBundle 0 0x04108000 0x04328000 0x04004400 =
    ⟨some .nop, some (.acc .ldv 0 (.ag 0 1 0) 0), some (.acc .ldv 1 (.ag 1 1 0) 0), some (.mac .mac false true 0 0 1 0)⟩ := by decide
/-- 13, worked case: bundles 3 and 10 of the filter. -/
theorem test_filter_words : decMem 0x09910001 = some (.acc .stv 12 (.ag 0 2 1) 0) ∧ decVec 0x1A00040F = some (.shr false true 8 0 15 0) := by decide
/-- 13, worked case: what vshr gives lanes 5 and 9 of the filter. -/
theorem test_filter_lanes : vshrLane false true (46736384#2560 <<< 200 ||| 68719493120#2560 <<< 360) 15 5 = 0x0592 ∧
    vshrLane false true (46736384#2560 <<< 200 ||| 68719493120#2560 <<< 360) 15 9 = 0x7FFF := by decide +kernel
/-- 13, worked case: a ring shrunk in flight folds its pointer. -/
theorem test_ring_fold : agFold 0x1000 0x400 0x1300 128 = 0x1380 ∧ agFold 0x1000 0x200 0x1380 128 = 0x1000 ∧ agFold 0x1000 0x200 0x1380 (-128) = 0x1100 := by decide
/-- 14, worked case: the stop of pond 5 of tower 1, and AP_BASE of C1 in window 0 of port 37. -/
theorem test_hop_stop : stopAddr 1 1 37 = 0x165 ∧ pbase (.hop 0) = 0xC0000 ∧ regOf (.hop 0) (HOP.FHP_CLK.nth 18) = 0xC00C8 := by decide +kernel
/-- 15, worked case: cycles 0, 2 and 12, and the refill at cycle 32. -/
theorem test_arbiter : (let r : Nat → Bool := fun i => i == 1 || i == 2 || i == 8
    ((Arb.step ⟨[0, 3, 1, 0, 0, 0, 0, 0, 2], 8, none⟩ true r).2, (Arb.step ⟨[0, 2, 1, 0, 0, 0, 0, 0, 2], 1, none⟩ true r).2,
      (Arb.step ⟨[0, 0, 0, 0, 0, 0, 0, 0, 0], 1, none⟩ true r).2, refill 1 4)) = (some 1, some 8, some 2, 5) := by decide
/-- 16 R320, worked case: DPA 0x0000_4000_0140 in WIDE and in LOCAL mode. -/
theorem test_gddr_map : gdMap true 0x40000140 = (1, 0x04000040) ∧ gdMap false 0x40000140 = (1, 0x10000040) ∧ gdUnmap true 1 0x04000040 = 0x40000140 := by decide
/-- 16 R321, worked case: where that line lies, and its row in LOCAL mode. -/
theorem test_gddr_place : gdPlace 0x04000040 = ⟨0, 0, 0x200, 1⟩ ∧ (gdPlace 0x04000040).group = 0 ∧ (gdPlace 0x10000040).row = 0x800 := by decide
/-- 16, worked case: errors in symbols 7 and 40 of a line of zeros are not corrected; one in symbol 7 is. -/
theorem test_line_code : (gdDecode ⟨0x1#512 <<< 28 ||| 0x1#512 <<< 160, 0⟩).2 = .bad ∧ gdDecode ⟨0x9#512 <<< 28, 0⟩ = (Gline.zero, .corrected) := by decide +kernel
/-- 07 R154: AES Key Unwrap gives the key data of the example of RFC 3394, 4.6. -/
theorem test_unwrap : keyUnwrap 0x000102030405060708090A0B0C0D0E0F101112131415161718191A1B1C1D1E1F rfc3394 =
    some (beList 16 0x00112233445566778899AABBCCDDEEFF ++ beList 16 0x000102030405060708090A0B0C0D0E0F) := by decide +kernel
/-- 07 R154: AES-256-GCM of one block of zeros under a key and IV of zeros (the GCM specification, test case 14). -/
theorem test_gcm : gcmCrypt 0 0 (List.replicate 16 0) = beList 16 0xCEA7403D4D606B6E074EC5D3BAF39D18 ∧
    gcmTag 0 0 [] (beList 16 0xCEA7403D4D606B6E074EC5D3BAF39D18) = beList 16 0xD0D1C8A799996BF0265B98B5D48AB919 := by decide +kernel
/-- 07 R151: SHA-384 of "abc" (FIPS 180-4). -/
theorem test_sha384 : sha384 [0x61, 0x62, 0x63] = beList 48 0xCB00753F45A35E8BB5A03D699AC65007272C32AB0EDED1631A8B605A43FF5BED8086072BA1E7CC2358BAECA134C825A7 := by decide +kernel
/-- 17, worked case: CB of the line before and after its reseal. -/
theorem test_counter_block : counterBlock 0x40000140 7 0xFFF 0 = 0x0000000000000040000140000001FFFC ∧ counterBlock 0x40000140 7 0xFFF 3 % 65536 = 0xFFFF ∧
    counterBlock 0x40000140 8 0 0 = 0x00000000000000400001400000020000 := by decide
/-- 18, worked case: VF 3 of PF4 is initiator 610, and where its BAR0 and BAR2 lead. -/
theorem test_vf_bars : fnSrc (vfNo 3 3) = 610 ∧ (let s := win (poke (slate []) [(0x4010168, 0x10), (0x4010170, 0x80E8), (0x4010174, 3)]);
    let b : Base := { s.b with lat := [(0x401016C, 26), (0x4010174, 3)] }; b.barTarget (vfNo 3 3) 0 0x140 = .dpa 0x48000140 ∧
      b.barTarget (vfNo 3 3) 2 0x28 = .dpa (doorbellDpa 33010 + 0x28)) := by decide +kernel
/-- 19, worked case: the partner's DPA and the marker state. -/
theorem test_efmel_address : dpaRegion 0x134000880000 = .efmel 3 ∧ eflRemote 0x134000880000 = 0x010000880000 ∧ lfsrLoad 0x0123456789ABCDEF 5 = 0x0123456789ABCDEA := by decide
/-- 20 R410, worked case: the ramp from 8 to 6. -/
theorem test_ramp : rampNext 8 6 = 7 ∧ rampNext 7 6 = 6 ∧ rampNext 6 6 = 6 ∧ rampNext 64 6 = 60 := by decide
/-- 21, worked case: T_inf of sensor 137, and with configuration sensor 5 at 96 °C. -/
theorem test_inferred : infer (slate [(.pwr 1, PWR.LPWR_UNITS.nth 5, 40), (.thm 1, THM.SENSOR_READ.nth 421, 344), (.thm 1, THM.SENSOR_READ.nth 393, 360)]).b 1 137 = 385 ∧
    infer (slate [(.pwr 1, PWR.LPWR_UNITS.nth 5, 40), (.thm 1, THM.SENSOR_READ.nth 421, 384), (.thm 1, THM.SENSOR_READ.nth 393, 360)]).b 1 137 = 405 := by decide +kernel
/-- 21, worked case: TL at T_hot 96.25 °C and at 101.25 °C. -/
theorem test_thermal_level : dueTl (slate [(.thm 1, THM.HOT_T, 385)]).b 1 = 1 ∧ dueTl (slate [(.thm 1, THM.HOT_T, 405)]).b 1 = 4 := by decide +kernel
/-- 22, worked case: the record of the suspect sensor. -/
theorem test_croak_record : (List.range 8).map (CrkRec.word ⟨12000004000, 0x1F3A, 0x210, 0x92, 7, 1, 0, 0x10089, 0x1440181, 0x20⟩) =
    [0xCB4187A0, 2, 0x1F3A, 0x920210, 0x10007, 0x10089, 0x1440181, 0x20] := by decide +kernel
/-- 23, worked case: S40 is steered to SP2 of group 0x7349 of tower 1. -/
theorem test_steer : regOf (.vbd 1) (VBD.GTAB_SP.nth 0x7349) = 0x1199A48 ∧
    (steer (poke (slate []) [(0x1199A48, 0x0000A18C)]) 1 0x7349 (40, 2)).b.word 0x1199A48 = 0x00A8A18C := by decide +kernel
/-- 23 R481: CRC-32 of eight bytes of zeros. -/
theorem test_record_crc : crc32 [0] = 0x6522DF69 := by decide +kernel
/-- 25, worked case: the IOB7 page. -/
theorem test_bank_page : pbase (.iob 7) = 0x4037000 ∧ regOf (.iob 7) (IOB.PIN_CFG.nth 4) = 0x4037090 := by decide +kernel

end Sys2Proof.Tests
end

section
namespace Sys2Proof.Machine

/-! ### Writes that reach a page -/

/-- A write that reaches its page acts on the woken state. -/
theorem State.admitWrite_of_admits {s : State} {p : Page} (h : s.admits p) (act : State → State) :
    s.admitWrite p act = act (s.maWake p) := by
  obtain ⟨hstill, hreset⟩ := h
  simp [State.admitWrite, hstill, hreset]

/-- A write to a block that stands still or is under BLOCK reset is discarded. -/
theorem State.admitWrite_of_not_admits {s : State} {p : Page} (h : ¬ s.admits p) (act : State → State) :
    s.admitWrite p act = s := by
  unfold State.admitWrite
  by_cases hstill : s.b.standsStill p = true
  · rw [if_pos hstill]
  · by_cases hreset : s.b.fld p HDR.BLK_STAT_STATE = stResetting
    · rw [if_neg hstill, if_pos hreset]
    · exact absurd ⟨Bool.eq_false_iff.mpr hstill, hreset⟩ h

/-! ### Where a page's registers lie (02 R21) -/

theorem pageAt_twrWin_add (t : Tower) {o : Nat} (h : o < 0x1000000) : pageAt (twrWin t + o) = towerPageAt t o := by
  have ht := t.isLt
  unfold pageAt twrWin
  rw [if_pos (by omega)]
  congr 1
  · ext; show (0x1000000 * t.val + o) / 0x1000000 % 4 = t.val; omega
  · omega

theorem pageAt_pkgWin_add {o : Nat} (h : o < 0x1000000) : pageAt (pkgWin + o) = packagePageAt o := by
  unfold pageAt pkgWin
  rw [if_neg (by omega), if_pos (by omega), Nat.add_sub_cancel_left]

/-- Every address of a page's span is that page's. -/
theorem pageAt_pbase_add (p : Page) {o : Nat} (h : o < pspan p) : pageAt (pbase p + o) = some p := by
  cases p with
  | twr t =>
    simp only [pspan] at h
    change pageAt (twrWin t + o) = _
    rw [pageAt_twrWin_add _ (by omega)]
    simp (disch := omega) only [towerPageAt, if_pos]
  | molt t | que t | hop t | hst t | cfg t | chm t | scb t | slt t | pwr t | thm t | clk t | vbd t =>
    simp only [pspan] at h
    change pageAt (twrWin t + _ + o) = _
    rw [Nat.add_assoc, pageAt_twrWin_add _ (by omega)]
    simp (disch := omega) only [towerPageAt, if_pos, if_neg]
  | gd g | enc g | gkc g | pnd g =>
    have hg := g.isLt
    simp only [pspan] at h
    change pageAt (twrWin (g / _) + _ + _ + o) = _
    rw [Nat.add_assoc, Nat.add_assoc, pageAt_twrWin_add ⟨g / _, by omega⟩ (by omega)]
    simp (disch := omega) only [towerPageAt, if_pos, if_neg]
    congr 2
    ext
    simp only
    omega
  | pkg =>
    simp only [pspan] at h
    change pageAt (pkgWin + o) = _
    rw [pageAt_pkgWin_add (by omega)]
    simp (disch := omega) only [packagePageAt, if_pos]
  | pci | bgt | ckr | ano | evr | fus | ldr =>
    simp only [pspan] at h
    change pageAt (pkgWin + _ + o) = _
    rw [Nat.add_assoc, pageAt_pkgWin_add (by omega)]
    simp (disch := omega) only [packagePageAt, if_pos, if_neg, dif_neg]
  | efl k | iob k =>
    have hk := k.isLt
    simp only [pspan] at h
    change pageAt (pkgWin + _ + _ + o) = _
    rw [Nat.add_assoc, Nat.add_assoc, pageAt_pkgWin_add (by omega)]
    simp (disch := omega) only [packagePageAt, if_pos, if_neg, dif_pos]
    congr 2
    ext
    simp only
    omega

theorem header_le_pspan (p : Page) : 0x40 ≤ pspan p := by cases p <;> simp only [pspan] <;> omega

/-- The registers of a page's span are those its tables name. -/
theorem regAt_pbase_add (p : Page) {o : Nat} (h : o < pspan p) : regAt (pbase p + o) = pageReg p o := by
  rw [regAt, pageAt_pbase_add p h]
  simp only [Nat.add_sub_cancel_left]

theorem inPage_pbase_add (p : Page) (o : Nat) : inPage p (pbase p + o) = decide (o < pspan p) := by
  simp [inPage]

theorem mem_of_findReg {l : List RegSpec} {o : Nat} {r : RegSpec} (h : findReg l o = some r) : r ∈ l := by
  induction l with
  | nil => simp [findReg] at h
  | cons x l ih =>
    rw [findReg] at h
    split at h
    · simp_all
    · exact List.mem_cons_of_mem _ (ih h)

/-- No register of the common header has an RWS field (02 R25). -/
theorem hdr_mask_rws : ∀ r ∈ HDR.regs, r.mask .rws = 0 := by decide

/-! ### RWS bits (02 R26) -/

theorem mix_getLsbD (w v m : Word) (i : Nat) :
    ((w &&& ~~~m) ||| (v &&& m)).getLsbD i = if m.getLsbD i then v.getLsbD i else w.getLsbD i := by
  by_cases hi : i < 32
  · cases h : m.getLsbD i <;> simp [-BitVec.getLsbD_eq_getElem, h, hi]
  · simp [BitVec.getLsbD_of_ge _ _ (by omega : 32 ≤ i)]

/-- A register whose shadow holds its live bits is not changed by its commit. -/
theorem rwsMix_self (a : Nat) (w : Word) : rwsMix a w w = w := by
  unfold rwsMix
  split
  · exact BitVec.eq_of_getLsbD_eq fun i _ => by rw [mix_getLsbD, ite_self]
  · rfl

/-- Taking the RWS bits of `v` twice is taking them once. -/
theorem rwsMix_rwsMix (a : Nat) (w v : Word) : rwsMix a (rwsMix a w v) v = rwsMix a w v := by
  unfold rwsMix
  split
  · exact BitVec.eq_of_getLsbD_eq fun i _ => by simp only [mix_getLsbD]; split <;> rfl
  · rfl

/-- After a mix the RWS bits are those mixed in. -/
theorem rwsBits_rwsMix (a : Nat) (w v : Word) : rwsBits a (rwsMix a w v) = rwsBits a v := by
  unfold rwsBits rwsMix
  split
  · exact BitVec.eq_of_getLsbD_eq fun i _ => by simp only [mix_getLsbD]; split <;> rfl
  · rfl

/-- A commit changes no register of the common header. -/
theorem rwsMix_header (p : Page) {o : Nat} (h : o < 0x40) (w v : Word) : rwsMix (pbase p + o) w v = w := by
  rw [rwsMix, regAt_pbase_add p (Nat.lt_of_lt_of_le h (header_le_pspan p)), pageReg, if_pos h]
  split
  · rename_i r hr
    rw [hdr_mask_rws r (mem_of_findReg hr)]
    exact BitVec.eq_of_getLsbD_eq fun i _ => by rw [mix_getLsbD, if_neg (by simp)]
  · rfl

theorem rwsBits_header (p : Page) {o : Nat} (h : o < 0x40) (w : Word) : rwsBits (pbase p + o) w = 0 :=
  rwsMix_header p h 0 w

/-! ### Shadows applied and reloaded (02 R26, R27) -/

/-- A key that a table does not list reads as its default, whatever the order of the keys. -/
theorem SMap.get_of_not_listed {β : Type} (d : Nat → β) {m : SMap β} {k : Nat} (h : k ∉ m.map Prod.fst) :
    SMap.get d m k = d k := by
  induction m with
  | nil => rfl
  | cons e m ih =>
    obtain ⟨a, x⟩ := e
    simp only [List.map_cons, List.mem_cons, not_or] at h
    rw [SMap.get_cons, if_neg (Ne.symm h.1), ih h.2, ite_self]

theorem Base.mem_pageKeys (b : Base) (p : Page) (a : Nat) :
    a ∈ b.pageKeys p ↔ inPage p a = true ∧ (a ∈ b.regs.map Prod.fst ∨ a ∈ b.shad.map Prod.fst) := by
  simp only [Base.pageKeys, List.mem_filter, List.mem_append, and_comm]

/-- A register of a page that neither map lists holds its reset value, live and in the shadow. -/
theorem Base.word_eq_shWord_of_not_key {b : Base} {p : Page} {a : Nat} (hp : inPage p a = true) (h : a ∉ b.pageKeys p) :
    b.word a = b.shWord a := by
  rw [Base.mem_pageKeys, not_and, not_or] at h
  obtain ⟨hregs, hshad⟩ := h hp
  rw [Base.word, Base.shWord, SMap.get_of_not_listed _ hregs, SMap.get_of_not_listed _ hshad]

theorem Base.shad_applySh (b : Base) (p : Page) (sel : Nat → Bool) : (b.applySh p sel).shad = b.shad := by
  unfold Base.applySh
  generalize (b.pageKeys p).filter _ = l
  induction l generalizing b with
  | nil => rfl
  | cons a l ih => exact ih _

theorem Base.regs_reloadShadows (b : Base) (p : Page) : (b.reloadShadows p).regs = b.regs := by
  unfold Base.reloadShadows
  generalize b.pageKeys p = l
  induction l generalizing b with
  | nil => rfl
  | cons a l ih => exact ih _

theorem Base.word_foldl_apply (l : List Nat) (b : Base) (k : Nat) :
    (l.foldl (fun b a => b.setWord a (rwsMix a (b.word a) (b.shWord a))) b).word k =
      if k ∈ l then rwsMix k (b.word k) (b.shWord k) else b.word k := by
  induction l generalizing b with
  | nil => simp
  | cons a l ih =>
    rw [List.foldl_cons, ih, Base.shWord_setWord, Base.word_setWord]
    by_cases hk : k = a
    · subst hk; simp [rwsMix_rwsMix]
    · simp [hk]

theorem Base.shWord_foldl_reload (l : List Nat) (b : Base) (k : Nat) :
    (l.foldl (fun b a => b.setShWord a (rwsMix a (b.shWord a) (b.word a))) b).shWord k =
      if k ∈ l then rwsMix k (b.shWord k) (b.word k) else b.shWord k := by
  induction l generalizing b with
  | nil => simp
  | cons a l ih =>
    rw [List.foldl_cons, ih, Base.word_setShWord, Base.shWord_setShWord]
    by_cases hk : k = a
    · subst hk; simp [rwsMix_rwsMix]
    · simp [hk]

/-- A commit that applies a page gives every register of it the RWS bits of its shadow, and leaves the other pages alone. -/
theorem Base.word_applyShadows (b : Base) (p : Page) (a : Nat) :
    (b.applyShadows p).word a = if inPage p a then rwsMix a (b.word a) (b.shWord a) else b.word a := by
  rw [Base.applyShadows, Base.applySh, Base.word_foldl_apply]
  by_cases hp : inPage p a = true
  · by_cases hk : a ∈ b.pageKeys p
    · simp [hp, hk]
    · rw [if_neg (by simp [hk]), if_pos hp, ← Base.word_eq_shWord_of_not_key hp hk, rwsMix_self]
  · simp [hp, Base.mem_pageKeys]

/-- A reload gives every shadow of a page the RWS bits of its live value, and leaves the other pages alone. -/
theorem Base.shWord_reloadShadows (b : Base) (p : Page) (a : Nat) :
    (b.reloadShadows p).shWord a = if inPage p a then rwsMix a (b.shWord a) (b.word a) else b.shWord a := by
  rw [Base.reloadShadows, Base.shWord_foldl_reload]
  by_cases hp : inPage p a = true
  · by_cases hk : a ∈ b.pageKeys p
    · simp [hp, hk]
    · rw [if_neg hk, if_pos hp, Base.word_eq_shWord_of_not_key hp hk, rwsMix_self]
  · simp [hp, Base.mem_pageKeys]

end Sys2Proof.Machine
end

section
namespace Sys2Proof.Machine

/-! ### BLK_STAT and EVT_STAT of a page -/

theorem Base.word_congr {b c : Base} (h : b.regs = c.regs) (a : Nat) : b.word a = c.word a := by
  rw [Base.word, Base.word, h]

theorem Base.fld_congr {b c : Base} (h : b.regs = c.regs) (p : Page) (f : Fld) : b.fld p f = c.fld p f := by
  rw [Base.fld, Base.fld, Base.word_congr h]

/-- EVT_STAT is no register that a field of a page elsewhere lies in. -/
theorem regOf_ne_evtOf (p : Page) {f : Fld} (h : f.off ≠ 0x14) : regOf p f ≠ evtOf p := by
  unfold regOf evtOf; omega

theorem Base.word_evtOf_event (b : Base) (p : Page) (i : Nat) : (b.event p i).word (evtOf p) = b.word (evtOf p) ||| evt i :=
  (Base.word_event ..).trans (if_pos rfl)

theorem Base.word_event_of_ne (b : Base) {p : Page} {a : Nat} (i : Nat) (h : a ≠ evtOf p) : (b.event p i).word a = b.word a :=
  (Base.word_event ..).trans (if_neg h)

theorem Base.word_setFld_of_ne (b : Base) {p : Page} {f : Fld} {a : Nat} (v : Nat) (h : a ≠ regOf p f) :
    (b.setFld p f v).word a = b.word a :=
  (Base.word_setFld ..).trans (if_neg h)

theorem Base.put_setFld (b : Base) (p : Page) (f : Fld) (v : Nat) : b.put (b.setFld p f v) p f v :=
  (Base.word_setFld ..).trans (if_pos rfl)

/-- What the header shows when a commit ends with result `v`: nothing pending, COMMIT_RES `v`, COMMIT_DONE (02 R27). -/
theorem Base.header_of_commitEnd {b c : Base} {p : Page} {v : Nat} (hv : v < 4)
    (h : c.regs = ((b.setFld p HDR.BLK_STAT_COMMIT_PEND 0).setFld p HDR.BLK_STAT_COMMIT_RES v).regs) :
    (c.event p 3).commitPend p = false ∧ (c.event p 3).fld p HDR.BLK_STAT_COMMIT_RES = v ∧
      (c.event p 3).word (evtOf p) = b.word (evtOf p) ||| evt 3 ∧
      ∀ a, a ∉ [regOf p HDR.BLK_STAT_STATE, evtOf p] → (c.event p 3).word a = b.word a := by
  have hne : ∀ f : Fld, f.off = 0xC → pbase p + f.off ≠ pbase p + 0x14 := fun f e => by omega
  refine ⟨?_, ?_, ?_, fun a ha => ?_⟩
  · rw [Base.commitPend, Base.bit_event _ _ _ _ _ (hne _ rfl), Base.bit, Base.fld_congr h, Base.fld_setFld_bits _ _ _ _ _ (.inl (by decide)),
      Base.fld_setFld_same _ _ _ _ (by decide) (by decide)]
    rfl
  · rw [Base.fld_event _ _ _ _ _ (hne _ rfl), Base.fld_congr h, Base.fld_setFld_same _ _ _ _ (by decide) (by decide)]
    exact Nat.mod_eq_of_lt hv
  · rw [Base.word_evtOf_event, Base.word_congr h, Base.word_setFld_of_ne _ _ (regOf_ne_evtOf p (by decide)).symm,
      Base.word_setFld_of_ne _ _ (regOf_ne_evtOf p (by decide)).symm]
  · simp only [List.mem_cons, List.not_mem_nil, or_false, not_or] at ha
    have hres : a ≠ regOf p HDR.BLK_STAT_COMMIT_RES := ha.1
    have hpend : a ≠ regOf p HDR.BLK_STAT_COMMIT_PEND := ha.1
    rw [Base.word_event_of_ne _ _ ha.2, Base.word_congr h, Base.word_setFld_of_ne _ _ hres, Base.word_setFld_of_ne _ _ hpend]

/-! ### GO (02 R27, R28) -/

/-- A GO while a commit is pending has no effect. -/
theorem State.commitGo_of_pending {s : State} {p : Page} (hp : ∀ c, p ≠ .enc c) (h : s.b.commitPend p = true) : s.commitGo p = s := by
  unfold State.commitGo
  split
  · exact absurd rfl (hp _)
  · rw [if_pos h]

/-- A GO whose shadow fails a rule is rejected: COMMIT_RES 3 and COMMIT_REJ. -/
theorem State.commitGo_of_rejected {s : State} {p : Page} (hok : s.commitOk p = false)
    (henc : ∀ c, p = .enc c → s.b.encPending = false) (hpend : (∀ c, p ≠ .enc c) → s.b.commitPend p = false) :
    s.commitGo p = { s with b := (s.b.setFld p HDR.BLK_STAT_COMMIT_RES 3).event p 4 } := by
  unfold State.commitGo
  split
  · rename_i c
    have hok' : encCommitOk s.b = false := hok
    simp [encGo, henc c rfl, hok']
  · rename_i hp
    simp [hpend fun c => hp c, hok, Base.go]

/-- An accepted GO makes the commit pending with its parts; CFG and SLT do more. -/
theorem State.commitGo_of_accepted {s : State} {p : Page} (hp : ∀ c, p ≠ .enc c) (hk : ∀ k, p ≠ .cfg k ∧ p ≠ .slt k)
    (hpend : s.b.commitPend p = false) (hok : s.commitOk p = true) :
    s.commitGo p = { s with b := (s.b.setFld p HDR.BLK_STAT_COMMIT_PEND 1).setParts p (s.commitPartsOf p) } := by
  unfold State.commitGo
  split
  · exact absurd rfl (hp _)
  · simp only [hpend, hok, Base.go]
    cases p with
    | cfg k => exact absurd rfl (hk k).1
    | slt k => exact absurd rfl (hk k).2
    | _ => rfl

/-- A GO of CFG that is accepted begins the re-encode (06 R125). -/
theorem State.commitGo_cfg_of_accepted {s : State} {k : Tower} (hpend : s.b.commitPend (.cfg k) = false) (hok : s.commitOk (.cfg k) = true) :
    s.commitGo (.cfg k) = { s with b :=
      ((s.b.setFld (.cfg k) HDR.BLK_STAT_COMMIT_PEND 1).setParts (.cfg k) (s.commitPartsOf (.cfg k))).setBit (.cfg k) CFG.STAT_REENC true } := by
  unfold State.commitGo
  simp [hpend, hok, Base.go]

/-- What a rejected GO shows (02 R28). -/
theorem Base.header_of_rejected (b : Base) (p : Page) :
    let c := (b.setFld p HDR.BLK_STAT_COMMIT_RES 3).event p 4
    b.raises c [regOf p HDR.BLK_STAT_COMMIT_RES, evtOf p] ∧ c.shad = b.shad ∧ b.put c p HDR.BLK_STAT_COMMIT_RES 3 ∧
      c.word (evtOf p) = b.word (evtOf p) ||| evt 4 := by
  refine ⟨?_, ?_, ?_, ?_⟩
  · exact ((Base.raises.refl b _).setFld p _ 3 (by simp)).event p 4 (by simp)
  · simp
  · rw [Base.put, Base.word_event_of_ne _ _ (regOf_ne_evtOf p (by decide))]
    exact b.put_setFld p _ 3
  · rw [Base.word_evtOf_event, Base.word_setFld_of_ne _ _ (regOf_ne_evtOf p (by decide)).symm]

/-- A command that writes GO of a page that admits it. -/
theorem completes_commitGo {s : State} {p : Page} (h : s.admits p) {post : State → Prop} (hpost : post ((s.maWake p).commitGo p)) :
    Completes (.commitGo p) s post :=
  ⟨_, congrArg Host.Outcome.next (State.admitWrite_of_admits h _), hpost⟩

/-- Settles O58: the rejected GO writes COMMIT_RES and COMMIT_REJ of its page and nothing else. -/
theorem rejectedGoAppliesNothing : Obligations.RejectedGoAppliesNothing := by
  intro s p hadm hok henc hpend
  refine completes_commitGo hadm ?_
  rw [State.commitGo_of_rejected hok henc hpend]
  exact ⟨rfl, (s.maWake p).b.header_of_rejected p⟩

/-- Setting COMMIT_PEND of a page leaves it set, whichever page it is. -/
theorem Base.commitPend_start (b : Base) (p q : Page) (n : Nat) (h : p = q ∨ b.commitPend q = true) :
    ((b.setFld p HDR.BLK_STAT_COMMIT_PEND 1).setParts p n).commitPend q = true := by
  change (b.setBit p HDR.BLK_STAT_COMMIT_PEND true).bit q HDR.BLK_STAT_COMMIT_PEND = true
  by_cases hpq : pbase p = pbase q
  · rw [Base.bit, Base.fld, ← hpq]
    exact Base.bit_setBit_same _ _ _ _ (by decide) (by decide)
  · have hq := h.resolve_left fun e => hpq (e ▸ rfl)
    rw [Base.bit, Base.setBit, Base.fld_setFld_addr _ _ _ _ _ _ (by omega)]
    exact hq

/-- The tables of chapter 17 have one commit: an accepted GO makes it pending in all sixteen ENC pages (17 R338). -/
theorem commitPend_encCommitStart (b : Base) (d : Fin 16) : (encCommitStart b).commitPend (.enc d) = true := by
  have pending : ∀ (l : List Nat) (b : Base), (d.val ∈ l ∨ b.commitPend (.enc d) = true) →
      (l.foldl (fun b c => (b.setFld (encPage c) HDR.BLK_STAT_COMMIT_PEND 1).setParts (encPage c) 1) b).commitPend (.enc d) = true := by
    intro l
    induction l with
    | nil => intro b h; exact h.resolve_left (by simp)
    | cons c l ih =>
      intro b h
      refine ih _ ?_
      by_cases hl : d.val ∈ l
      · exact .inl hl
      · refine .inr (b.commitPend_start _ _ _ ?_)
        rcases h with h | h
        · have hc : d.val = c := by simpa [hl] using h
          refine .inl (congrArg Page.enc (Fin.ext ?_))
          show c % 16 = d.val
          omega
        · exact .inr h
  exact pending _ _ (.inl (List.mem_range.mpr d.isLt))

/-! ### CANCEL and the commit point (02 R26, R27) -/

/-- A CANCEL of a page with neither a copy, a re-encode nor a shared commit of its own. -/
theorem State.commitCancel_eq {s : State} {p : Page} (hk : ∀ k, p ≠ .cfg k ∧ p ≠ .slt k) (hp : ∀ c, p ≠ .enc c) :
    s.commitCancel p = { s with b := (s.b.reloadShadows p).cancelled p } := by
  cases p with
  | cfg k => exact absurd rfl (hk k).1
  | slt k => exact absurd rfl (hk k).2
  | enc c => exact absurd rfl (hp c)
  | _ => rfl

theorem Base.shad_cancelled (b : Base) (p : Page) : (b.cancelled p).shad = b.shad := by
  rw [Base.cancelled, Base.shad_event]
  rfl

/-- The pages whose commit has a point of its own keep their state at the default one. -/
theorem State.commitPoint_of_ownPoint {p : Page} (s : State) (h : ownPoint p = true) : s.commitPoint p = s := by
  cases p with
  | slt | cfg | hop | enc | clk => rfl
  | _ => simp [ownPoint] at h

theorem State.commitPoint_of_plainCommit {p : Page} (s : State) (h : plainCommit p = true) : s.commitPoint p = s.applyAll p := by
  cases p with
  | twr | molt | que | hst | scb | thm | pwr | vbd | pkg | ckr | ano | evr | fus | ldr => rfl
  | _ => simp [plainCommit] at h

/-- Where the RWS bits of a page's shadows are those of its live values, changing its BLK_STAT and EVT_STAT keeps it so. -/
theorem Base.rwsBits_reloadShadows {b c : Base} {p : Page} (hshad : c.shad = (b.reloadShadows p).shad)
    (hword : ∀ a, a ∉ [regOf p HDR.BLK_STAT_STATE, evtOf p] → c.word a = b.word a) {a : Nat} (ha : inPage p a = true) :
    rwsBits a (c.shWord a) = rwsBits a (c.word a) := by
  have hsh : c.shWord a = rwsMix a (b.shWord a) (b.word a) := by
    rw [Base.shWord, hshad]
    exact (b.shWord_reloadShadows p a).trans (if_pos ha)
  by_cases hl : a ∈ [regOf p HDR.BLK_STAT_STATE, evtOf p]
  · simp only [List.mem_cons, List.not_mem_nil, or_false] at hl
    obtain ⟨o, ho, rfl⟩ : ∃ o < 0x40, a = pbase p + o := hl.elim (fun e => ⟨0xC, by decide, e⟩) (fun e => ⟨0x14, by decide, e⟩)
    rw [rwsBits_header p ho, rwsBits_header p ho]
  · rw [hsh, hword a hl, rwsBits_rwsMix]

/-- The header's registers come out of a commit as they went in. -/
theorem Base.word_applyShadows_header (b : Base) (p : Page) {o : Nat} (h : o < 0x40) :
    (b.applyShadows p).word (pbase p + o) = b.word (pbase p + o) := by
  rw [Base.word_applyShadows, rwsMix_header p h, ite_self]

/-- A CANCEL ends the commit with result 2, reloads the page's shadows, and changes no other register (02 R27). -/
theorem Base.cancelled_reloadShadows_spec (b : Base) (p : Page) :
    let c := (b.reloadShadows p).cancelled p
    c.commitPend p = false ∧ c.fld p HDR.BLK_STAT_COMMIT_RES = 2 ∧ c.word (evtOf p) = b.word (evtOf p) ||| evt 3 ∧
      (∀ a, a ∉ [regOf p HDR.BLK_STAT_STATE, evtOf p] → c.word a = b.word a) ∧
      (∀ a, inPage p a = true → rwsBits a (c.shWord a) = rwsBits a (c.word a)) ∧
      ∀ a, inPage p a = false → c.shWord a = b.shWord a := by
  have hsame : ∀ a, (b.reloadShadows p).word a = b.word a := Base.word_congr (b.regs_reloadShadows p)
  obtain ⟨hpend, hres, hevt, hword⟩ := Base.header_of_commitEnd (b := b.reloadShadows p) (v := 2) (by decide) (c :=
    (((b.reloadShadows p).setFld p HDR.BLK_STAT_COMMIT_PEND 0).setFld p HDR.BLK_STAT_COMMIT_RES 2).setParts p 0) rfl
  have hkeep := fun a ha => (hword a ha).trans (hsame a)
  refine ⟨hpend, hres, hevt.trans (by rw [hsame]), hkeep, fun a ha => ?_, fun a ha => ?_⟩
  · exact Base.rwsBits_reloadShadows (Base.shad_cancelled _ _) hkeep ha
  · rw [Base.shWord, Base.shad_cancelled]
    exact (b.shWord_reloadShadows p a).trans (if_neg (by simp [ha]))

/-- The commit point applies the page's shadows and ends the commit with result 1, and changes no other page (02 R26, R27). -/
theorem Base.commitDone_applyShadows_spec (b : Base) (p : Page) :
    let c := (b.applyShadows p).commitDone p
    c.shad = b.shad ∧ c.commitPend p = false ∧ c.fld p HDR.BLK_STAT_COMMIT_RES = 1 ∧ c.word (evtOf p) = b.word (evtOf p) ||| evt 3 ∧
      (∀ a, inPage p a = true → a ∉ [regOf p HDR.BLK_STAT_STATE, evtOf p] → c.word a = rwsMix a (b.word a) (b.shWord a)) ∧
      ∀ a, inPage p a = false → c.word a = b.word a := by
  obtain ⟨hpend, hres, hevt, hword⟩ := Base.header_of_commitEnd (b := b.applyShadows p) (v := 1) (by decide) (c :=
    ((b.applyShadows p).setFld p HDR.BLK_STAT_COMMIT_PEND 0).setFld p HDR.BLK_STAT_COMMIT_RES 1) rfl
  refine ⟨?_, hpend, hres, ?_, fun a ha hl => ?_, fun a ha => ?_⟩
  · rw [Base.commitDone, Base.shad_event]
    exact b.shad_applySh ..
  · exact hevt.trans (by rw [evtOf, b.word_applyShadows_header p (by decide)])
  · exact (hword a hl).trans ((b.word_applyShadows p a).trans (if_pos ha))
  · have hout : ∀ o < 0x40, a ≠ pbase p + o := by
      rintro o ho rfl
      rw [inPage_pbase_add, decide_eq_false_iff_not] at ha
      exact ha (Nat.lt_of_lt_of_le ho (header_le_pspan p))
    have hl : a ∉ [regOf p HDR.BLK_STAT_STATE, evtOf p] := by
      simp only [List.mem_cons, List.not_mem_nil, or_false, not_or]
      exact ⟨hout 0xC (by decide), hout 0x14 (by decide)⟩
    exact (hword a hl).trans ((b.word_applyShadows p a).trans (if_neg (by simp [ha])))

theorem exec_commitApply (p : Page) (s : State) :
    exec (.commitApply p) s = .next (if s.b.commitPend p then s.commitPoint p else s) := by
  show execCommitApply p s = _
  rw [execCommitApply]
  split <;> rfl

/-- Settles O8: GO by `commitGo`'s three outcomes, CANCEL by what a reload leaves in the shadows, the commit point by what
applying the shadows leaves in the live values. -/
theorem commitsStartCancelAndEnd : Obligations.CommitsStartCancelAndEnd := by
  refine ⟨fun s p => ⟨fun hadm => ?_, fun hadm hp => ⟨fun hpend => ?_, fun hpend hok => ?_, fun hpend hok hk => ?_⟩,
    fun k hadm hpend hok => ?_, fun c hadm hpend hok => ?_⟩, fun s p hadm hk hp => ?_, fun s p => ⟨fun h => ?_, fun hpend hplain => ?_⟩⟩
  · exact ⟨s, congrArg Host.Outcome.next (State.admitWrite_of_not_admits hadm _), rfl⟩
  · exact completes_commitGo hadm (State.commitGo_of_pending hp hpend)
  · refine completes_commitGo hadm ?_
    rw [State.commitGo_of_rejected hok (fun c e => absurd e (hp c)) fun _ => hpend]
    obtain ⟨hraises, -, hres, hevt⟩ := (s.maWake p).b.header_of_rejected p
    exact ⟨rfl, hraises, hres, hevt⟩
  · refine completes_commitGo hadm ?_
    rw [State.commitGo_of_accepted hp hk hpend hok]
    exact ⟨rfl, Base.put_setFld _ p _ 1, fun a ha => Base.word_setFld_of_ne _ _ ha⟩
  · refine completes_commitGo hadm ?_
    rw [State.commitGo_cfg_of_accepted hpend hok]
    refine ⟨?_, Base.bit_setBit_same _ _ _ _ (by decide) (by decide)⟩
    rw [Base.commitPend, Base.bit, Base.fld_setBit_off _ _ _ _ _ (by decide)]
    exact Base.commitPend_start _ _ _ _ (.inl rfl)
  · refine completes_commitGo hadm ?_
    have hstart : (s.maWake (.enc c)).commitGo (.enc c) = { s.maWake (.enc c) with b := encCommitStart (s.maWake (.enc c)).b } := by
      simp [State.commitGo, encGo, hpend, hok]
    rw [hstart]
    exact commitPend_encCommitStart _
  · refine ⟨_, congrArg Host.Outcome.next (State.admitWrite_of_admits hadm _), ?_⟩
    rw [State.commitCancel_eq hk hp]
    exact ⟨rfl, (s.maWake p).b.cancelled_reloadShadows_spec p⟩
  · refine ⟨_, exec_commitApply p s, ?_⟩
    rcases h with h | h
    · rw [h]; rfl
    · rw [State.commitPoint_of_ownPoint s h, ite_self]
  · refine ⟨_, exec_commitApply p s, ?_⟩
    rw [if_pos hpend, State.commitPoint_of_plainCommit s hplain]
    exact ⟨rfl, s.b.commitDone_applyShadows_spec p⟩

end Sys2Proof.Machine
end

section
namespace Sys2Proof.Machine

/-! ### Messages of an event line (02 R33, R34) -/

theorem Base.line_congr {b c : Base} (h : b.regs = c.regs) (p : Page) : b.line p = c.line p := by
  rw [Base.line, Base.line, Base.word_congr h, Base.word_congr h]

theorem Base.out_decUse (b : Base) (p : Page) (a : Nat) : (b.decUse p a).out = b.out := by
  unfold Base.decUse; split <;> rfl

theorem Base.mem_out_msixSend {b : Base} {m : Msg} (h : m ∈ b.out) (f v : Nat) : m ∈ (b.msixSend f v).out := by
  unfold Base.msixSend
  split
  · exact List.mem_append_left _ h
  · exact h

/-- A route that names Anole delivers it a message. -/
theorem Base.anole_mem_out_route {b : Base} {n : Nat} (h : wget (b.word (routeAddr n 0)) 16 16 = 1) : Msg.anole n ∈ (b.route n).out := by
  have hsent : Msg.anole n ∈ ((b.decUse .evr (routeAddr n 0)).send (.anole n)).out := List.mem_append_right _ (by simp)
  unfold Base.route
  simp only [h, if_true]
  split
  · exact Base.mem_out_msixSend hsent _ _
  · exact hsent

/-- A route that names Anole alone delivers that message and no other. -/
theorem Base.out_route_of_anole_only {b : Base} {n : Nat} (ha : wget (b.word (routeAddr n 0)) 16 16 = 1)
    (hm : wget (b.word (routeAddr n 0)) 15 15 = 0) : (b.route n).out = b.out ++ [.anole n] := by
  unfold Base.route
  simp only [ha, hm, if_true]
  rw [if_neg (by decide), Base.send, Base.out_decUse]

theorem Base.mem_out_route {b : Base} {m : Msg} (h : m ∈ b.out) (n : Nat) : m ∈ (b.route n).out := by
  have hread : m ∈ (b.decUse .evr (routeAddr n 0)).out := by rwa [Base.out_decUse]
  have hsend : m ∈ (if wget (b.word (routeAddr n 0)) 16 16 = 1 then (b.decUse .evr (routeAddr n 0)).send (.anole n)
      else b.decUse .evr (routeAddr n 0)).out := by
    split
    · exact List.mem_append_left _ hread
    · exact hread
  unfold Base.route
  simp only
  split
  · exact Base.mem_out_msixSend hsend _ _
  · exact hsend

theorem Base.mem_out_setEvt {b : Base} {m : Msg} (h : m ∈ b.out) (p : Page) (w : Word) : m ∈ (b.setEvt p w).out := by
  unfold Base.setEvt
  simp only
  split
  · exact h
  · split
    · exact Base.mem_out_route (b := b.setWord _ _) h _
    · exact h

/-- A write of EVT_STAT (02 R33): bits clear, and a line left high sends another message. -/
theorem Base.evtClear_spec (b : Base) (p : Page) (v : Word) :
    let c := b.evtClear p v
    b.raises c [evtOf p] ∧ c.word (evtOf p) = b.word (evtOf p) &&& ~~~v ∧
      (c.line p = false → c.out = b.out ∧ c.msixPend = b.msixPend) ∧
      (c.line p = true → wget (c.word (routeAddr (psrc p) 0)) 16 16 = 1 → Msg.anole (psrc p) ∈ c.out) := by
  obtain ⟨d, hd⟩ : ∃ d, d = b.setWord (evtOf p) (b.word (evtOf p) &&& ~~~v) := ⟨_, rfl⟩
  have hraises : b.raises d [evtOf p] := hd ▸ (Base.raises.refl b _).setWord _ _ (by simp)
  have hword : d.word (evtOf p) = b.word (evtOf p) &&& ~~~v := hd ▸ Base.word_setWord_same ..
  have hdef : b.evtClear p v = if d.line p then d.route (psrc p) else d := hd ▸ rfl
  simp only [hdef]
  by_cases hline : d.line p = true
  · have hroute : (d.route (psrc p)).regs = d.regs := d.regs_route _
    rw [if_pos hline, Base.word_congr hroute, Base.line_congr hroute, Base.word_congr hroute]
    exact ⟨hraises.route _, hword, fun h => absurd hline (by simp [h]), fun _ h => Base.anole_mem_out_route h⟩
  · rw [if_neg hline]
    exact ⟨hraises, hword, fun _ => hd ▸ ⟨rfl, rfl⟩, fun h => absurd h hline⟩

/-- Setting event bits sends a message where the line of its page rises, and only there (02 R33). -/
theorem Base.out_setEvt (b : Base) (p : Page) (m : Word) :
    let c := b.setEvt p m
    (b.line p = true ∨ c.line p = false → c.out = b.out) ∧
      (b.line p = false → c.line p = true → wget (c.word (routeAddr (psrc p) 0)) 16 16 = 1 →
        wget (c.word (routeAddr (psrc p) 0)) 15 15 = 0 → c.out = b.out ++ [.anole (psrc p)]) := by
  obtain ⟨d, hd⟩ : ∃ d, d = b.setWord (evtOf p) (b.word (evtOf p) ||| m) := ⟨_, rfl⟩
  have hout : d.out = b.out := hd ▸ rfl
  have hregs : (b.setEvt p m).regs = d.regs := hd ▸ b.regs_setEvt p m
  have hdef : b.setEvt p m = if b.line p then d else if d.line p then d.route (psrc p) else d := hd ▸ rfl
  simp only [Base.line_congr hregs, Base.word_congr hregs]
  rw [hdef]
  cases hb : b.line p <;> cases hl : d.line p <;> simp [hout]
  exact fun ha hm => (Base.out_route_of_anole_only ha hm).trans (by rw [hout])

/-! ### Non-maskable events (02 R36) -/

/-- From `b` to `c` the causes that NME_STAT shows stay, and no message is taken back. -/
def Base.nmeKept (b c : Base) : Prop := c.fld .evr EVR.NME_STAT_CAUSE = b.fld .evr EVR.NME_STAT_CAUSE ∧ ∀ m ∈ b.out, m ∈ c.out

theorem Base.nmeKept.refl (b : Base) : b.nmeKept b := ⟨rfl, fun _ h => h⟩

theorem Base.nmeKept.trans {b c d : Base} (h : b.nmeKept c) (k : c.nmeKept d) : b.nmeKept d :=
  ⟨k.1.trans h.1, fun m hm => k.2 m (h.2 m hm)⟩

theorem pbase_ano : pbase .ano = 0x4060000 := rfl
theorem pbase_evr : pbase .evr = 0x40A0000 := rfl

/-- NME_STAT lies above the ANO page. -/
theorem regOf_nmeStat_ne_ano {o : Nat} (h : o < 0x10000) : pbase .evr + EVR.NME_STAT_CAUSE.off ≠ pbase .ano + o := by
  rw [pbase_evr, pbase_ano]
  omega

/-- Registers of the ANO page are not NME_STAT. -/
theorem Base.nmeKept.setFld_ano {b c : Base} (h : b.nmeKept c) {f : Fld} (v : Nat) (hf : f.off < 0x10000) : b.nmeKept (c.setFld .ano f v) :=
  h.trans ⟨Base.fld_setFld_addr _ _ _ _ _ _ (regOf_nmeStat_ne_ano hf), fun _ hm => hm⟩

theorem Base.nmeKept.event_ano {b c : Base} (h : b.nmeKept c) (i : Nat) : b.nmeKept (c.event .ano i) :=
  h.trans ⟨Base.fld_event _ _ _ _ _ (regOf_nmeStat_ne_ano (by decide)), fun _ hm => Base.mem_out_setEvt hm _ _⟩

theorem Base.nmeKept.decStores {b c : Base} (h : b.nmeKept c) (p : Page) (a : Nat → Nat) (l : List Nat) :
    b.nmeKept (l.foldl (fun b i => b.decStore p (a i)) c) := by
  induction l generalizing c with
  | nil => exact h
  | cons i l ih => exact ih (h.trans ⟨rfl, fun _ hm => hm⟩)

theorem Base.nmeKept.ite {b c d : Base} {x : Prop} [Decidable x] (h : b.nmeKept c) (k : b.nmeKept d) : b.nmeKept (if x then c else d) := by
  split
  · exact h
  · exact k

/-- A croak record touches the ANO page alone. -/
theorem Base.nmeKept_croak (b : Base) (code src sev writer d0 d1 d2 : Nat) : b.nmeKept (b.croak code src sev writer d0 d1 d2) := by
  unfold Base.croak
  refine .ite ((Base.nmeKept.refl b).setFld_ano _ (by decide)) ?_
  have hlog (l : SMap CrkRec) (n : Nat) : b.nmeKept { b with crkLog := l, crkNext := n } := ⟨rfl, fun _ hm => hm⟩
  have hseq := fun l n v w => ((hlog l n).setFld_ano (f := ANO.CRK_SEQ) v (by decide)).setFld_ano (f := ANO.CRK_WP) w (by decide)
  have hwrap := fun l n v w => Base.nmeKept.ite (x := 4096 ≤ b.crkNext) ((hseq l n v w).setFld_ano (f := ANO.CRK_WRAPPED) (b2n true) (by decide)) (hseq l n v w)
  have hdec := fun l n v w => (hwrap l n v w).decStores .ano (fun i => 0x4070000 + 32 * (b.crkNext % 4096) + 8 * i) (List.range 4)
  exact .ite (((hdec _ _ _ _).setFld_ano _ (by decide)).event_ano _) (hdec _ _ _ _)

/-- NME `cause` stands: NME_STAT shows it, ALERT_N is asserted, and Anole has its message. -/
def Base.nmeShown (b : Base) (cause : Nat) : Prop :=
  nbit (b.fld .evr EVR.NME_STAT_CAUSE) cause = true ∧ b.alertN = true ∧ Msg.anoleNme cause ∈ b.out

theorem nbit_nset (n i j : Nat) : nbit (nset n i) j = (nbit n j || decide (j = i)) := by
  simp only [nbit, nset, Nat.testBit_or, Nat.one_shiftLeft, Nat.testBit_two_pow, eq_comm]

theorem ne_zero_of_nbit {n i : Nat} (h : nbit n i = true) : n ≠ 0 := by
  rintro rfl
  simp [nbit] at h

/-- Raising an NME sets its cause in NME_STAT and no other, and sends Anole its message. -/
theorem Base.raiseNme_spec (b : Base) {cause : Nat} (h : cause < 6) (src d0 : Nat) (forced : Bool) :
    (b.raiseNme cause src forced d0).fld .evr EVR.NME_STAT_CAUSE = nset (b.fld .evr EVR.NME_STAT_CAUSE) cause ∧
      Msg.anoleNme cause ∈ (b.raiseNme cause src forced d0).out ∧ ∀ m ∈ b.out, m ∈ (b.raiseNme cause src forced d0).out := by
  have hlt : nset (b.fld .evr EVR.NME_STAT_CAUSE) cause < 2 ^ 6 :=
    Nat.or_lt_two_pow (b.fld_lt _ _) (by rw [Nat.one_shiftLeft]; exact Nat.pow_lt_pow_right (by decide) h)
  have hset : ∀ c : Base, (c.setFld .evr EVR.NME_STAT_CAUSE (nset (b.fld .evr EVR.NME_STAT_CAUSE) cause)).fld .evr EVR.NME_STAT_CAUSE =
      nset (b.fld .evr EVR.NME_STAT_CAUSE) cause := fun c =>
    (Base.fld_setFld_same _ _ _ _ (by decide) (by decide)).trans (Nat.mod_eq_of_lt hlt)
  have hfirst : ∀ m ∈ b.out, m ∈ (if b.fld .evr EVR.NME_STAT_CAUSE = 0 then b.setFld .evr EVR.NME_FIRST_CAUSE cause else b).out := by
    intro m hm
    split <;> exact hm
  unfold Base.raiseNme
  simp only
  obtain ⟨hfld, hout⟩ := Base.nmeKept_croak ((if b.fld .evr EVR.NME_STAT_CAUSE = 0 then b.setFld .evr EVR.NME_FIRST_CAUSE cause else b).setFld
    .evr EVR.NME_STAT_CAUSE (nset (b.fld .evr EVR.NME_STAT_CAUSE) cause)) (0x100 + cause) (src + (if forced then 0x4000 else 0) + 0x8000) 2 2 d0 0 0
  refine ⟨?_, Base.mem_out_msixSend (List.mem_append_right _ (by simp)) _ _,
    fun m hm => Base.mem_out_msixSend (List.mem_append_left _ (hout m (hfirst m hm))) _ _⟩
  rw [Base.fld_congr (Base.regs_msixSend _ _ _), Base.fld_congr (Base.regs_send _ _), hfld, hset]

theorem Base.nmeShown_raiseNme {b : Base} {cause k : Nat} (hc : cause < 6) (src d0 : Nat) (forced : Bool) (h : k = cause ∨ b.nmeShown k) :
    (b.raiseNme cause src forced d0).nmeShown k := by
  obtain ⟨hfld, hnew, hold⟩ := b.raiseNme_spec hc src d0 forced
  have hbit : nbit ((b.raiseNme cause src forced d0).fld .evr EVR.NME_STAT_CAUSE) k = true := by
    rw [hfld, nbit_nset]
    rcases h with h | ⟨h, -, -⟩ <;> simp [h]
  refine ⟨hbit, ?_, ?_⟩
  · rw [Base.alertN, bne_iff_ne]
    exact ne_zero_of_nbit hbit
  · rcases h with rfl | ⟨-, -, h⟩
    · exact hnew
    · exact hold _ h

theorem pageNmes_cause_lt (p : Page) : ∀ e ∈ pageNmes p, e.1 < 6 := by
  cases p <;> simp [pageNmes]

/-- A forced event raises each NME that the page's list gives for its bits. -/
theorem Base.nmeShown_evtForce (b : Base) {p : Page} {v : Word} {e : Nat × Nat} (he : e ∈ pageNmes p) (hv : v.getLsbD e.2 = true) :
    (b.evtForce p v).nmeShown e.1 := by
  have raised : ∀ (l : List (Nat × Nat)) (c : Base), (∀ x ∈ l, x.1 < 6) → (e ∈ l ∨ c.nmeShown e.1) →
      (l.foldl (fun b x => if v.getLsbD x.2 then b.raiseNme x.1 (psrc p) true (if x.1 = 5 then psrc p else 0) else b) c).nmeShown e.1 := by
    intro l
    induction l with
    | nil => intro c _ h; exact h.resolve_left (by simp)
    | cons x l ih =>
      intro c hlt h
      refine ih _ (fun y hy => hlt y (List.mem_cons_of_mem _ hy)) ?_
      dsimp only
      rcases h with h | h
      · rcases List.mem_cons.mp h with rfl | h
        · rw [if_pos hv]
          exact .inr (Base.nmeShown_raiseNme (hlt _ List.mem_cons_self) _ _ _ (.inl rfl))
        · exact .inl h
      · refine .inr ?_
        split
        · exact Base.nmeShown_raiseNme (hlt _ List.mem_cons_self) _ _ _ (.inr h)
        · exact h
  exact raised _ _ (pageNmes_cause_lt p) (.inl he)

/-! ### Error counters (02 R30, R31) -/

/-- One leak takes one count and one leak period, and nothing else. -/
theorem Base.leak_spec (b : Base) (p : Page) :
    let c := b.leak p
    b.put c p HDR.ERR_CNT_COUNT (b.fld p HDR.ERR_CNT_COUNT - 1) ∧ (∀ a, a ≠ regOf p HDR.ERR_CNT_COUNT → c.word a = b.word a) ∧
      c = { b with regs := c.regs, leakAt := c.leakAt } ∧
      SMap.get (fun _ => 0) c.leakAt (psrc p) = SMap.get (fun _ => 0) b.leakAt (psrc p) + 1000 * b.fld p HDR.ERR_CFG_LEAK :=
  ⟨b.put_setFld p _ _, fun _ h => b.word_setFld_of_ne _ h, rfl, SMap.get_set_same ..⟩

theorem Base.regs_errCfg (b : Base) (p : Page) (v : Word) :
    (b.errCfg p v).regs = (b.setWord (regOf p HDR.ERR_CFG_LEAK) (v &&& 0x1FFFFFFF)).regs := by
  unfold Base.errCfg
  simp only
  split <;> split <;> rfl

/-- A write of ERR_CFG takes effect, and restarts the leak timer where it changes LEAK. -/
theorem Base.errCfg_spec (b : Base) (p : Page) (v : Word) :
    let c := b.errCfg p v
    c.word (regOf p HDR.ERR_CFG_LEAK) = v &&& 0x1FFFFFFF ∧ (∀ a, a ≠ regOf p HDR.ERR_CFG_LEAK → c.word a = b.word a) ∧
      SMap.get (fun _ => 0) c.leakAt (psrc p) =
        if wget v 11 4 = b.fld p HDR.ERR_CFG_LEAK then SMap.get (fun _ => 0) b.leakAt (psrc p) else b.aonUs := by
  have hword := Base.word_congr (b.regs_errCfg p v)
  refine ⟨(hword _).trans (Base.word_setWord_same ..), fun a ha => (hword a).trans (Base.word_setWord_ne _ _ ha), ?_⟩
  have hleak : b.fld p HDR.ERR_CFG_LEAK = wget (b.word (pbase p + 0x24)) 11 4 := rfl
  rw [hleak]
  unfold Base.errCfg
  simp only
  by_cases h : wget v 11 4 = wget (b.word (pbase p + 0x24)) 11 4
  · rw [if_pos h, if_pos h.symm]
    split <;> rfl
  · rw [if_neg h, if_neg (Ne.symm h)]
    split <;> exact SMap.get_set_same ..

/-- Releasing the log clears VALID and OVF of ERR_LOG0 and keeps its other fields. -/
theorem Base.releaseLog_spec (b : Base) (p : Page) :
    let c := b.releaseLog p
    b.sets c [regOf p HDR.ERR_LOG0_VALID] ∧ c.fld p HDR.ERR_LOG0_VALID = 0 ∧ c.fld p HDR.ERR_LOG0_OVF = 0 ∧
      c.fld p HDR.ERR_LOG0_UC = b.fld p HDR.ERR_LOG0_UC ∧ c.fld p HDR.ERR_LOG0_KIND = b.fld p HDR.ERR_LOG0_KIND := by
  unfold Base.releaseLog
  refine ⟨((Base.sets.refl b _).setFld p _ 0 (by simp)).setFld p HDR.ERR_LOG0_OVF 0 (List.mem_singleton.mpr rfl), ?_, ?_, ?_, ?_⟩
  · rw [Base.fld_setFld_bits _ _ _ _ _ (.inl (by decide)), Base.fld_setFld_same _ _ _ _ (by decide) (by decide)]
    rfl
  · rw [Base.fld_setFld_same _ _ _ _ (by decide) (by decide)]
    rfl
  · rw [Base.fld_setFld_bits _ _ _ _ _ (.inl (by decide)), Base.fld_setFld_bits _ _ _ _ _ (.inr (by decide))]
  · rw [Base.fld_setFld_bits _ _ _ _ _ (.inl (by decide)), Base.fld_setFld_bits _ _ _ _ _ (.inr (by decide))]

/-- A command that is a write to a page that admits it. -/
theorem completes_of_admits {s : State} {p : Page} (h : s.admits p) {c : Instr} {act : State → State}
    (hc : exec c s = .next (s.admitWrite p act)) {post : State → Prop} (hpost : post (act (s.maWake p))) : Completes c s post :=
  ⟨_, hc.trans (congrArg Host.Outcome.next (State.admitWrite_of_admits h act)), hpost⟩

theorem exec_evtStatClear (p : Page) (v : Word) (s : State) :
    exec (.evtStatClear p v) s = .next (s.admitWrite p fun s => { s with b := s.b.evtClear p v }) := rfl
theorem exec_evtForce (p : Page) (v : Word) (s : State) :
    exec (.evtForce p v) s = .next (s.admitWrite p fun s => { s with b := s.b.evtForce p v }) := rfl
theorem exec_nmeStatClear (v : Word) (s : State) : exec (.nmeStatClear v) s =
    .next (s.admitWrite .evr fun s => { s with b := s.b.setWord (pbase .evr + 0x40) (s.b.word (pbase .evr + 0x40) &&& ~~~v) }) := rfl
theorem exec_errLeak (p : Page) (s : State) :
    exec (.errLeak p) s = if s.b.leakDue p then .next { s with b := s.b.leak p } else .next s := rfl
theorem exec_errCfgWrite (p : Page) (v : Word) (s : State) :
    exec (.errCfgWrite p v) s = .next (s.admitWrite p fun s => { s with b := s.b.errCfg p v }) := rfl
theorem exec_errLogRelease (p : Page) (s : State) :
    exec (.errLogRelease p) s = .next (s.admitWrite p fun s => { s with b := s.b.releaseLog p }) := rfl

/-- Settles O9: each write is what its operation on the event, NME or error registers says of it. -/
theorem eventsAndErrorCounters : Obligations.EventsAndErrorCounters := by
  refine ⟨⟨?_, ?_⟩, fun s p v => ⟨fun hdue => ?_, fun hdue => ?_, fun hadm => ?_, fun hadm => ?_⟩⟩
  · rintro r p v hadm s rfl
    refine ⟨?_, fun hnone => ?_, fun e he hv => ?_⟩
    · exact completes_of_admits hadm (exec_evtStatClear p v r) ⟨rfl, Base.evtClear_spec _ p v⟩
    · have hforce : (r.maWake p).b.evtForce p v = (r.maWake p).b.setEvt p (v &&& evtMask p) := by
        rw [Base.evtForce, hnone]
        rfl
      refine completes_of_admits hadm (exec_evtForce p v r) ?_
      simp only [hforce]
      exact ⟨trivial, (Base.raises.refl _ _).setEvt p _ (by simp), (Base.word_setEvt ..).trans (if_pos rfl), Base.out_setEvt _ p _⟩
    · exact completes_of_admits hadm (exec_evtForce p v r) (Base.nmeShown_evtForce _ he hv)
  · rintro r v hadm s rfl
    refine completes_of_admits hadm (exec_nmeStatClear v r) ⟨rfl, (Base.sets.refl _ _).setWord _ _ (by simp), Base.word_setWord_same .., ?_⟩
    simp [Base.alertN]
  · exact ⟨_, (exec_errLeak p s).trans (if_pos hdue), rfl, s.b.leak_spec p⟩
  · exact ⟨_, (exec_errLeak p s).trans (if_neg (by simp [hdue])), rfl⟩
  · exact completes_of_admits hadm (exec_errCfgWrite p v s) ⟨rfl, (s.maWake p).b.errCfg_spec p v⟩
  · exact completes_of_admits hadm (exec_errLogRelease p s) ⟨rfl, (s.maWake p).b.releaseLog_spec p⟩

end Sys2Proof.Machine
end

section
namespace Sys2Proof.Machine

/-! ### Writes of a register (02 R24 to R27) -/

theorem exec_registerWrite (a : Fin 0x8000000) (v : Word) (s : State) :
    exec (.registerWrite a v) s = .next (s.maWrite (a / 4 * 4) v) := rfl

/-- A write of a register reaches its page as any write does, and then is that register's write. -/
theorem State.maWrite_of_reg (s : State) {a : Nat} {p : Page} {o : Nat} {r : RegSpec} (v : Word) (ht : maTarget a = .reg p o)
    (hr : pageReg p o = some r) : s.maWrite a v = s.admitWrite p fun s => s.regWrite p o r v := by
  simp only [State.maWrite, ht, MaTarget.owner, hr]

/-- A write of a header register acts as the header says. -/
theorem exec_registerWrite_header {s : State} {a : Fin 0x8000000} {p : Page} {o : Nat} {r : RegSpec} (v : Word)
    (ht : maTarget (a / 4 * 4) = .reg p o) (ho : o < 0x40) (hr : findReg HDR.regs o = some r) :
    exec (.registerWrite a v) s = .next (s.admitWrite p fun s => s.headerWrite p o v) := by
  rw [exec_registerWrite, s.maWrite_of_reg v ht ((if_pos ho).trans hr)]
  simp only [State.regWrite, if_pos ho]

/-- A register without behaviour of its own is stored. -/
theorem State.regWrite_of_stored {s : State} {p : Page} {o : Nat} {v : Word} (r : RegSpec) (ho : 0x40 ≤ o)
    (hact : s.actWrite p o v = none) (hafter : ∀ x, State.afterWrite x s p o v = x) :
    s.regWrite p o r v = { s with b := s.b.store p o r v } := by
  rw [State.regWrite, if_neg (by omega), hact]
  exact hafter _

theorem Base.regs_decStore_if (x : Bool) (b : Base) (p : Page) (a : Nat) : (if x then b.decStore p a else b).regs = b.regs := by
  cases x <;> rfl

theorem Base.shad_decStore_if (x : Bool) (b : Base) (p : Page) (a : Nat) : (if x then b.decStore p a else b).shad = b.shad := by
  cases x <;> rfl

theorem Base.shWord_congr {b c : Base} (h : b.shad = c.shad) (a : Nat) : b.shWord a = c.shWord a := by
  rw [Base.shWord, Base.shWord, h]

/-- What a store leaves in the registers and shadows: the register by its fields' access types; its RWS fields in the shadow, or
SHADOW_BUSY where a commit is pending (02 R24, R26, R27). -/
def Base.stored (b : Base) (p : Page) (o : Nat) (r : RegSpec) (v : Word) : Base :=
  let d := b.setWord (pbase p + o) (r.writeLive (b.word (pbase p + o)) v)
  if r.mask .rws = 0 then d else if b.commitPend p then d.event p 5
  else d.setShWord (pbase p + o) (r.writeShadow (b.shWord (pbase p + o)) v)

/-- `Base.store` is `Base.stored` and the note of a planted check bit. -/
theorem Base.store_eq_stored (b : Base) (p : Page) {o : Nat} (r : RegSpec) (v : Word) (ho : 0x40 ≤ o) :
    (b.store p o r v).regs = (b.stored p o r v).regs ∧ (b.store p o r v).shad = (b.stored p o r v).shad := by
  have hpend : (b.setWord (pbase p + o) (r.writeLive (b.word (pbase p + o)) v)).commitPend p = b.commitPend p := by
    rw [Base.commitPend, Base.bit, Base.fld, Base.word_setWord_ne _ _ (by simp only [HDR.BLK_STAT_COMMIT_PEND]; omega)]
    rfl
  unfold Base.stored
  rw [← hpend]
  exact ⟨Base.regs_decStore_if .., Base.shad_decStore_if ..⟩

/-- A store changes its register, and EVT_STAT at most beside it. -/
theorem Base.stored_spec (b : Base) (p : Page) {o : Nat} (r : RegSpec) (v : Word) (ho : 0x40 ≤ o) :
    let c := b.stored p o r v
    c.word (pbase p + o) = r.writeLive (b.word (pbase p + o)) v ∧ (∀ k, k ∉ [pbase p + o, evtOf p] → c.word k = b.word k) ∧
      (r.mask .rws ≠ 0 → b.commitPend p = true → c.shad = b.shad ∧ c.word (evtOf p) = b.word (evtOf p) ||| evt 5) ∧
      (r.mask .rws ≠ 0 → b.commitPend p = false →
        c.shWord (pbase p + o) = r.writeShadow (b.shWord (pbase p + o)) v ∧ ∀ k, k ≠ pbase p + o → c.shWord k = b.shWord k) := by
  have hevt : pbase p + o ≠ evtOf p := by unfold evtOf; omega
  unfold Base.stored
  simp only [List.mem_cons, List.not_mem_nil, or_false, not_or]
  by_cases hrws : r.mask .rws = 0
  · rw [if_pos hrws]
    exact ⟨Base.word_setWord_same .., fun k hk => Base.word_setWord_ne _ _ hk.1, fun h => absurd hrws h, fun h => absurd hrws h⟩
  · rw [if_neg hrws]
    cases hpend : b.commitPend p
    · rw [if_neg (by simp)]
      simp only [Base.word_setShWord, Base.shWord_setShWord]
      exact ⟨Base.word_setWord_same .., fun k hk => Base.word_setWord_ne _ _ hk.1, fun _ h => by simp at h,
        fun _ _ => ⟨if_pos trivial, fun k hk => if_neg hk⟩⟩
    · rw [if_pos rfl]
      refine ⟨?_, fun k hk => ?_, fun _ _ => ⟨by simp, ?_⟩, fun _ h => by simp at h⟩
      · rw [Base.word_event_of_ne _ _ hevt, Base.word_setWord_same]
      · rw [Base.word_event_of_ne _ _ hk.2, Base.word_setWord_ne _ _ hk.1]
      · rw [Base.word_evtOf_event, Base.word_setWord_ne _ _ hevt.symm]

/-! ### Reserved addresses (02 R22, R23) -/

/-- A reserved access captures its address and sets BAD_ACCESS, and nothing else. -/
theorem Base.badAccess_spec (b : Base) (a : Nat) :
    b.raises (b.badAccess a) [regOf .evr EVR.BAD_ADDR_ADDR, evtOf .evr] ∧ b.put (b.badAccess a) .evr EVR.BAD_ADDR_ADDR a ∧
      (b.badAccess a).word (evtOf .evr) = b.word (evtOf .evr) ||| evt 8 := by
  have hne : regOf .evr EVR.BAD_ADDR_ADDR ≠ evtOf .evr := regOf_ne_evtOf _ (by decide)
  refine ⟨((Base.raises.refl b _).setFld .evr _ a (by simp)).event .evr 8 (by simp), ?_, ?_⟩
  · rw [Base.put, Base.badAccess, Base.word_event_of_ne _ _ hne]
    exact b.put_setFld .evr _ a
  · rw [Base.badAccess, Base.word_evtOf_event, Base.word_setFld_of_ne _ _ hne.symm]

theorem State.maWrite_of_reserved (s : State) {a : Nat} (v : Word) (h : maTarget a = .reserved) :
    s.maWrite a v = { s with b := s.b.badAccess a } := by
  simp only [State.maWrite, h, MaTarget.owner]

theorem State.maRead_of_reserved (s : State) {a : Nat} (h : maTarget a = .reserved) :
    s.maRead a = ({ s with b := s.b.badAccess a }, 0) := by
  simp only [State.maRead, h, MaTarget.owner]

theorem exec_rcRead (a : Fin 0x8000000) (s : State) : exec (.rcRead a) s =
    .next { (s.maRead (a / 4 * 4)).1 with b := (s.maRead (a / 4 * 4)).1.b.send (.readData (s.maRead (a / 4 * 4)).2.toNat) } := rfl

/-- Aligning an MA address overflows in no width. -/
theorem val_aligned (a : Fin 0x8000000) : (a / 4 * 4 : Fin 0x8000000).val = a.val / 4 * 4 := by
  have ha := a.isLt
  have h4 : (4 : Fin 0x8000000).val = 4 := rfl
  rw [Fin.val_mul, Fin.div_val, h4]
  omega

/-- The outcomes of RESERVED_ACCESS at the aligned address. -/
theorem exec_reservedAccess (a : Fin 0x8000000) (k : AccessKind) (s : State) : exec (.reservedAccess a k) s = match k with
    | .read => if maTarget (a / 4 * 4) = .reserved then .next { s with b := (s.b.badAccess (a / 4 * 4)).send (.readData 0) } else .next s
    | .write => if writeReserved (a / 4 * 4) then .next { s with b := s.b.badAccess (a / 4 * 4) } else .next s
    | .partialWrite => .next { s with b := s.b.badAccess (a / 4 * 4) } := by
  rw [← val_aligned]
  cases k <;> rfl

/-- Both commands that read a reserved offset answer zero. -/
theorem exec_read_of_reserved {s : State} {a : Fin 0x8000000} (h : maTarget (a / 4 * 4) = .reserved) :
    ∀ c ∈ [Instr.rcRead a, .reservedAccess a .read], exec c s = .next { s with b := (s.b.badAccess (a / 4 * 4)).send (.readData 0) } := by
  simp only [List.mem_cons, List.not_mem_nil, or_false, forall_eq_or_imp, forall_eq]
  constructor
  · rw [exec_rcRead, s.maRead_of_reserved h]
    rfl
  · rw [exec_reservedAccess]
    exact if_pos h

/-- Every command that writes a reserved offset, or less than a whole register, is discarded. -/
theorem exec_write_of_reserved {s : State} {a : Fin 0x8000000} {v : Word} :
    ∀ c ∈ [Instr.reservedAccess a .partialWrite, .reservedAccess a .write, .registerWrite a v],
      maTarget (a / 4 * 4) = .reserved ∨ c = .reservedAccess a .partialWrite → exec c s = .next { s with b := s.b.badAccess (a / 4 * 4) } := by
  simp only [List.mem_cons, List.not_mem_nil, or_false, forall_eq_or_imp, forall_eq, reduceCtorEq, Instr.reservedAccess.injEq, and_false]
  refine ⟨fun _ => ?_, fun h => ?_, fun h => ?_⟩
  · rw [exec_reservedAccess]
  · have hres : writeReserved (a / 4 * 4) = true := by rw [writeReserved, h]
    rw [exec_reservedAccess]
    exact if_pos hres
  · rw [exec_registerWrite, s.maWrite_of_reserved v h]

/-! ### Reads of a register (02 R23, R38) -/

/-- A read of a block that stands still answers all ones. -/
theorem State.maRead_of_standsStill (s : State) {a : Nat} {p : Page} {o : Nat} (ht : maTarget a = .reg p o)
    (h : s.b.standsStill p = true) : s.maRead a = (s, BitVec.allOnes 32) := by
  simp only [State.maRead, ht, MaTarget.owner, if_pos h]

/-- A read of a register wakes its block, and answers what the register then reads as. -/
theorem State.maRead_of_reg (s : State) {a : Nat} {p : Page} {o : Nat} (ht : maTarget a = .reg p o) (h : s.b.standsStill p = false) :
    s.maRead a = ((State.maWake { s with b := s.b.decReport } p).readEffect (.reg p o) a,
      (State.maWake { s with b := s.b.decReport } p).maValue (.reg p o)) := by
  simp only [State.maRead, ht, MaTarget.owner, h, Bool.false_eq_true, if_false]

/-- A read leaves no RC field of its register set. -/
theorem Base.word_readClears_rc (b : Base) {p : Page} {o : Nat} {r : RegSpec} (hr : pageReg p o = some r) :
    (b.readClears p o).word (pbase p + o) &&& r.mask .rc = 0 := by
  have hclear : (b.setWord (pbase p + o) (b.word (pbase p + o) &&& ~~~r.mask .rc)).word (pbase p + o) &&& r.mask .rc = 0 := by
    rw [Base.word_setWord_same, BitVec.and_assoc]
    simp
  simp only [Base.readClears, hr]
  split
  · rename_i h
    obtain ⟨rfl, rfl⟩ := h
    rw [Base.word_setFld_of_ne _ _ (by simp only [regOf, CKR.TIME_HI]; omega)]
    exact hclear
  · exact hclear

theorem State.regs_readEffect (s : State) (p : Page) (o a : Nat) :
    (s.readEffect (.reg p o) a).b.regs = ((s.b.decRead p a).readClears p o).regs := by
  cases p with
  | iob k =>
    simp only [State.readEffect, MaTarget.owner, homeAddr]
    split <;> rfl
  | _ => rfl

/-! ### Sleeping blocks (02 R38) -/

theorem tw_val (t : Tower) : tw t.val = t := Fin.ext (Nat.mod_eq_of_lt t.isLt)

theorem Base.word_setState_of_ne (b : Base) {p : Page} {a : Nat} (v : Nat) (h : a ≠ regOf p HDR.BLK_STAT_STATE) :
    (b.setState p v).word a = b.word a :=
  ((Base.sets.refl b [regOf p HDR.BLK_STAT_STATE]).setState p v (by simp)).2 a (by simpa using h)

theorem Base.word_rouse_of_ne (b : Base) {p : Page} {a : Nat} (h : a ≠ regOf p HDR.BLK_STAT_STATE) : (b.rouse p).word a = b.word a := by
  unfold Base.rouse
  split
  · exact b.word_setState_of_ne _ h
  · rfl

/-- EVT_STAT of a page is no BLK_STAT. -/
theorem evtOf_ne_blkStat (p : Page) : evtOf p ≠ regOf p HDR.BLK_STAT_STATE := (regOf_ne_evtOf p (by decide)).symm

theorem evtOf_chm_ne_blkStat_cfg (t : Tower) : evtOf (.chm t) ≠ regOf (.cfg t) HDR.BLK_STAT_STATE := by
  change twrWin t + 0x141000 + 0x14 ≠ twrWin t + 0x140000 + 0xC
  omega

/-- An access to a sleeping block sets WAKE. -/
theorem State.word_evtOf_maWake {s : State} {p : Page} (h : s.b.sleeps p = true) (hq : ∀ k, p ≠ .que k) :
    (s.maWake p).b.word (evtOf p) = s.b.word (evtOf p) ||| evt 6 := by
  have hevt := s.b.word_evtOf_event p 6
  rw [State.maWake, if_pos h]
  cases p with
  | que k => exact absurd rfl (hq k)
  | gd g => exact (Base.word_setFld_of_ne _ (f := HDR.BLK_STAT_AWAKE) _ (evtOf_ne_blkStat (.gd g))).trans hevt
  | gkc g =>
    show (Base.wakePage _ _).word _ = _
    unfold Base.wakePage
    split
    · rw [Base.word_evtOf_event, Base.word_setState_of_ne _ _ (evtOf_ne_blkStat _), hevt, BitVec.or_assoc, BitVec.or_self]
    · exact hevt
  | chm t =>
    show (Base.chmWake _ _).word _ = _
    rw [Base.chmWake, tw_val, Base.word_rouse_of_ne _ (evtOf_chm_ne_blkStat_cfg t), Base.word_rouse_of_ne _ (evtOf_ne_blkStat _), hevt]
  | _ => exact (Base.word_setState_of_ne _ _ (evtOf_ne_blkStat _)).trans hevt

/-- An access that wakes a block is the access itself. -/
theorem exec_blockWake {s : State} {a : Fin 0x8000000} {p : Page} {o : Nat} (ht : maTarget (a / 4 * 4) = .reg p o) (h : s.b.sleeps p = true) :
    exec (.blockWake a none) s = exec (.rcRead a) s ∧ ∀ v, exec (.blockWake a (some v)) s = exec (.registerWrite a v) s := by
  have hdef (v : Option Word) : exec (.blockWake a v) s = match (maTarget (a / 4 * 4)).owner with
    | none => .next s
    | some p => if s.b.sleeps p then match v with
      | some v => exec (.registerWrite a v) s
      | none => exec (.rcRead a) s
      else .next s := rfl
  simp [hdef, ht, MaTarget.owner, h]

/-! ### Configuration requests (14 R282, R286, R295) -/

theorem exec_cfgReq (r : HopReq) (w : Wire) (write : Bool) (s : State) :
    exec (if write then .cfgWr r w else .cfgRd r w) s = .next (mgtArrive s r write w) := by
  cases write <;> rfl

/-- A configuration request that may arrive comes to the stop: a flit lost on the wire goes no further, one of a reserved TYPE is
refused, any other is served. -/
theorem mgtArrive_eq (s : State) (r : HopReq) (write : Bool) (w : Wire) :
    mgtArrive s r write w = if s.mayArrive r write then
      if w.uc then s.flitIn r write w (mgtTower r.addr.toNat) 0
      else if w.resv then { s.flitIn r write w (mgtTower r.addr.toNat) 0 with
        b := (s.flitIn r write w (mgtTower r.addr.toNat) 0).b.answer r (rspStatus stUNSUPPORTED) }
      else mgtServe (s.flitIn r write w (mgtTower r.addr.toNat) 0) r write
    else s := by
  cases h : s.mayArrive r write
  · simp [mgtArrive, h]
  · simp only [mgtArrive, h, State.flitIn, Bool.not_true, Bool.false_eq_true, if_false, if_true]

theorem mgtServe_refused (u : State) {r : HopReq} (write : Bool) (h : mgtAdmits r = false ∨ oneBlock r = false) :
    mgtServe u r write = { u with b := (hopUnsup u.b r).answer r (rspStatus stUNSUPPORTED) } :=
  if_pos (by rcases h with h | h <;> simp [h])

theorem mgtServe_read (u : State) {r : HopReq} (ha : mgtAdmits r = true) (ho : oneBlock r = true) :
    mgtServe u r false = { (u.maReadBytes r.addr.toNat r.bytes).1 with
      b := (u.maReadBytes r.addr.toNat r.bytes).1.b.answer r
        (rspData (placeBytes (r.addr.toNat % 64) (u.maReadBytes r.addr.toNat r.bytes).2) false false) } := by
  simp only [mgtServe, ha, ho, Bool.not_true, Bool.or_false, Bool.false_eq_true, if_false]

theorem mgtServe_write (u : State) {r : HopReq} (ha : mgtAdmits r = true) (ho : oneBlock r = true) :
    mgtServe u r true = { u.maWriteBytes r.addr.toNat (reqByteList r) with
      b := (u.maWriteBytes r.addr.toNat (reqByteList r)).b.answer r (rspStatus stOK) } := by
  simp only [mgtServe, ha, ho, Bool.not_true, Bool.or_false, Bool.false_eq_true, if_false, if_true]

theorem exec_commitGo (p : Page) (s : State) : exec (.commitGo p) s = .next (s.admitWrite p fun s => s.commitGo p) := rfl
theorem exec_commitCancel (p : Page) (s : State) : exec (.commitCancel p) s = .next (s.admitWrite p fun s => s.commitCancel p) := rfl

/-- Settles O10: a write of a register by `regWrite` on the woken state, a read by `maRead`, a configuration request by
`mgtArrive`'s branches. -/
theorem registerAccesses : Obligations.RegisterAccesses := by
  refine ⟨fun s a v p o ht hadm => ⟨?_, ?_, ?_, ?_, ?_, fun r ho hr hact hafter => ?_⟩,
    fun s a v => ⟨fun ht c hc => ?_, fun c hc h => ?_, fun p o r ht hr => ⟨fun hstill => ?_, ?_, fun hsleep => ⟨?_, ?_, ?_⟩⟩⟩, ?_⟩
  · rintro rfl
    rw [exec_registerWrite_header v ht (by decide) rfl, exec_evtStatClear]
    rfl
  · rintro rfl
    rw [exec_registerWrite_header v ht (by decide) rfl, exec_evtForce]
    rfl
  · rintro rfl
    rw [exec_registerWrite_header v ht (by decide) rfl, exec_errCfgWrite]
    rfl
  · rintro rfl rfl
    rw [exec_registerWrite_header 1 ht (by decide) rfl, exec_commitGo]
    rfl
  · rintro rfl hv
    rw [exec_registerWrite_header v ht (by decide) rfl, exec_commitCancel]
    have hcancel : ∀ s : State, s.headerWrite p 0x10 v = s.commitCancel p := fun s => if_pos hv
    simp only [hcancel]
  · refine completes_of_admits hadm ((exec_registerWrite a v s).trans (congrArg Host.Outcome.next (s.maWrite_of_reg v ht hr))) ?_
    rw [State.regWrite_of_stored r ho hact hafter]
    obtain ⟨hregs, hshad⟩ := (s.maWake p).b.store_eq_stored p r v ho
    have hspec := (s.maWake p).b.stored_spec p r v ho
    simp only [Base.word_congr hregs, Base.shWord_congr hshad, hshad]
    exact ⟨trivial, hspec⟩
  · obtain ⟨hraises, hput, hevt⟩ := s.b.badAccess_spec (a / 4 * 4)
    exact ⟨_, exec_read_of_reserved ht c hc, rfl, hraises.send _, hput, hevt, by simp [Base.send]⟩
  · exact ⟨_, exec_write_of_reserved c hc h, rfl⟩
  · refine ⟨_, exec_rcRead a s, ?_⟩
    rw [s.maRead_of_standsStill ht hstill]
    rfl
  · rintro hstill u rfl
    refine ⟨_, exec_rcRead a s, ?_⟩
    rw [s.maRead_of_reg ht hstill]
    refine ⟨by simp [Base.send], ?_⟩
    rw [Base.word_congr (Base.regs_send _ _), Base.word_congr (State.regs_readEffect _ _ _ _), Base.word_readClears_rc _ hr]
  · exact ⟨_, (exec_blockWake ht hsleep).1.trans (exec_rcRead a s), exec_rcRead a s⟩
  · exact (exec_blockWake ht hsleep).2 v
  · exact s.word_evtOf_maWake hsleep
  · rintro s r w write c rfl u rfl
    have hcmd := (exec_cfgReq r w write s).trans (congrArg Host.Outcome.next (mgtArrive_eq s r write w))
    refine ⟨fun h => ?_, fun h huc => ?_, fun h huc hresv => ?_, fun h huc hresv => ⟨fun href => ?_, ?_, ?_⟩⟩
    · exact ⟨_, hcmd, if_neg (by simp [h])⟩
    · exact ⟨_, hcmd, by rw [if_pos h, if_pos huc]⟩
    · exact ⟨_, hcmd, by rw [if_pos h, if_neg (by simp [huc]), if_pos hresv]⟩
    · exact ⟨_, hcmd, by rw [if_pos h, if_neg (by simp [huc]), if_neg (by simp [hresv]), mgtServe_refused _ _ href]⟩
    · rintro ha ho rfl
      exact ⟨_, hcmd, by rw [if_pos h, if_neg (by simp [huc]), if_neg (by simp [hresv]), mgtServe_read _ ha ho]⟩
    · rintro ha ho rfl x rfl
      exact ⟨_, hcmd, by rw [if_pos h, if_neg (by simp [huc]), if_neg (by simp [hresv]), mgtServe_write _ ha ho]⟩

end Sys2Proof.Machine
end

section
namespace Sys2Proof.Machine

/-! ### BLOCK resets (02 R516) -/

/-- In a table of canonical form a reset of page `p`'s registers keeps those of the other pages. -/
theorem Base.word_resetRegs_of_not_inPage {b : Base} (hwf : SMap.wf regReset b.regs = true) (p : Page) (sticky : Bool) (sel : Nat → Bool)
    {a : Nat} (ha : inPage p a = false) : (b.resetRegs p sticky sel).word a = b.word a := by
  simp only [SMap.wf, Bool.and_eq_true] at hwf
  have hout : ¬ (pbase p ≤ a ∧ a < pbase p + pspan p) := by simpa [inPage] using ha
  refine (SMap.get_mapKV regReset b.regs _ (fun k => ?_) a 0 hwf.1).trans (if_neg hout)
  have hmix (m : Word) : (regReset k &&& m) ||| (regReset k &&& ~~~m) = regReset k := by
    rw [← BitVec.and_or_distrib_left, BitVec.or_not_self, BitVec.and_allOnes]
  cases hreg : regAt k with
  | none => simp [hreg]
  | some r => cases sticky <;> simp [hreg, hmix]

theorem ne_regOf_of_not_inPage {p : Page} {f : Fld} (hf : f.off < 0x40) {a : Nat} (ha : inPage p a = false) : a ≠ regOf p f := by
  rintro rfl
  have hin := inPage_pbase_add p f.off
  have hspan := header_le_pspan p
  rw [regOf] at ha
  simp [ha] at hin
  omega

theorem Base.word_blockRegs_of_not_inPage {b : Base} (hwf : SMap.wf regReset b.regs = true) (p : Page) (keep : Nat → Bool)
    {a : Nat} (ha : inPage p a = false) : (b.blockRegs p keep).word a = b.word a := by
  unfold Base.blockRegs
  dsimp only
  rw [Base.word_congr (Base.regs_reloadShadows _ p)]
  have hregs : ∀ (c : Base) (raw : Bool), (if raw = true then c.measure 13 else c).regs = c.regs := fun c raw => by cases raw <;> rfl
  rw [Base.word_congr (hregs _ _)]
  exact (Base.word_setFld_of_ne _ _ (ne_regOf_of_not_inPage (by decide) ha)).trans
    ((Base.word_setFld_of_ne _ _ (ne_regOf_of_not_inPage (by decide) ha)).trans (Base.word_resetRegs_of_not_inPage hwf p _ _ ha))

theorem State.blockEffect_of_plainPage (s : State) {p : Page} (hp : plainPage p = true) : s.blockEffect p = some (s.blockRegs p) := by
  cases p <;> simp only [plainPage, Bool.false_eq_true] at hp <;> rfl

theorem State.blockBusy_of_plainPage (s : State) {p : Page} (hp : plainPage p = true) : s.blockBusy p = false := by
  cases p <;> simp only [plainPage, Bool.false_eq_true] at hp <;> rfl

theorem State.srst_of_plainPage (s : State) {p : Page} (hp : plainPage p = true) :
    (s.srst p).b = (s.b.setFld p HDR.BLK_STAT_STATE stResetting).blockRegs p (blockKeeps p) := by
  have hldr (x : Nat) : ¬ (p = .ldr ∧ x = 3) := by rintro ⟨rfl, -⟩; cases hp
  simp only [State.srst, hldr, if_false, State.blockTry, State.blockBusy_of_plainPage _ hp, State.blockEffect_of_plainPage _ hp,
    Bool.false_eq_true, State.setSrst, State.blockRegs]

/-- 02 R516: in a table of canonical form SRST changes no register of another page. `not_enableDrainAndBlockReset` refutes this without
the form. -/
theorem State.word_srst_of_not_inPage {s : State} {p : Page} (hwf : SMap.wf regReset s.b.regs = true) (hp : plainPage p = true)
    {a : Nat} (ha : inPage p a = false) : (s.srst p).b.word a = s.b.word a := by
  rw [State.srst_of_plainPage s hp, Base.word_blockRegs_of_not_inPage (SMap.wf_set _ _ _ _ hwf) p _ ha]
  exact Base.word_setFld_of_ne _ _ (ne_regOf_of_not_inPage (by decide) ha)


/-- A state after reset but for its register table, whose keys fall: the entry of TWR0.EVT_STAT stands behind that of PKG.EVT_STAT, where no
read finds it. -/
def fallingRegs : State := { State.reset with b := { State.reset.b with regs := [(0x4000014, 1), (0x14, 1)] } }

theorem fallingRegs_admits_pkg : fallingRegs.admits .pkg := by
  unfold State.admits
  decide +kernel

/-- The BLOCK reset of PKG drops the entry of PKG.EVT_STAT, and a read of TWR0.EVT_STAT then finds the one behind it. -/
theorem srst_pkg_uncovers : ((fallingRegs.maWake .pkg).srst .pkg).b.word 0x14 ≠ fallingRegs.b.word 0x14 := by decide +kernel

theorem exec_srst (p : Page) (s : State) : exec (.srst p) s = .next (s.admitWrite p fun s => s.srst p) := rfl

/-- Refutes O7: the statement asks nothing of the register table's form. In a table whose keys fall the BLOCK reset of PKG drops an entry
that hid the one of TWR0.EVT_STAT behind it, so that a register of another page changes, against the last clause about SRST. In a table of
canonical form none does: `State.word_srst_of_not_inPage`. -/
theorem not_enableDrainAndBlockReset : ¬ Obligations.EnableDrainAndBlockReset := by
  rintro ⟨-, -, hsrst⟩
  obtain ⟨t, ht, -, -, -, -, -, -, hframe⟩ := (hsrst fallingRegs .pkg fallingRegs_admits_pkg _ rfl).1 rfl
  rw [exec_srst, State.admitWrite_of_admits fallingRegs_admits_pkg] at ht
  cases ht
  exact srst_pkg_uncovers (hframe 0x14 rfl)

end Sys2Proof.Machine
end

section
namespace Sys2Proof.Machine

/-! ### What settling leaves alone (03 R43, 25 R505) -/

/-- From `s` to `t` the fabric has settled: free values may have been drawn, and the fabric and the pins have moved, but for the levels
driven from outside. -/
structure State.Settles (s t : State) : Prop where
  frame : t = { s with b := { s.b with free := t.b.free }, fab := t.fab, pins := t.pins }
  ext : t.pins.ext = s.pins.ext

theorem State.Settles.refl (s : State) : s.Settles s := ⟨rfl, rfl⟩

theorem State.Settles.trans {s t u : State} (hst : s.Settles t) (htu : t.Settles u) : s.Settles u := by
  refine ⟨?_, htu.ext.trans hst.ext⟩
  rw [htu.frame, hst.frame]

theorem State.Settles.withFab {s t : State} (h : s.Settles t) (f : Fabric) : s.Settles { t with fab := f } := h.trans ⟨rfl, rfl⟩

theorem settleBit_base (b : Base) (v : Option Bool) : (settleBit b v).1 = { b with free := (settleBit b v).1.free } := by
  cases v <;> rfl

/-- A state whose base differs in the free values drawn, with another fabric and other pins. -/
theorem State.settles_of_base (s : State) {b : Base} (hb : b = { s.b with free := b.free }) (f : Fabric) {p : Pins}
    (hp : p.ext = s.pins.ext) : s.Settles { s with b := b, fab := f, pins := p } :=
  ⟨congrArg (fun b => { s with b := b, fab := f, pins := p }) hb, hp⟩

theorem State.settles_settleBit (s : State) (v : Option Bool) (f : Fabric) : s.Settles { s with b := (settleBit s.b v).1, fab := f } :=
  s.settles_of_base (settleBit_base s.b v) f rfl

theorem State.applyLoads_settles (s : State) (ff rr : Loads) : s.Settles (s.applyLoads ff rr) := by
  refine List.foldlRecOn rr _ (List.foldlRecOn ff _ (.refl s) ?_) ?_ <;>
    exact fun t ht e _ => ht.trans (t.settles_settleBit e.2 _)

theorem State.drawSr_settles (s : State) (cs : List Nat) : s.Settles (s.drawSr cs) :=
  List.foldlRecOn _ _ (.refl s) fun t ht _ _ => ht.trans (t.settles_settleBit _ _)

theorem State.settleSr_settles (cs : List Nat) (fuel : Nat) (s : State) : s.Settles (s.settleSr cs fuel) := by
  induction fuel generalizing s with
  | zero => exact .refl s
  | succ fuel ih =>
    unfold State.settleSr
    split
    · exact .refl s
    · exact .trans ((State.Settles.refl s).withFab _) (ih _)

theorem State.noteSr_settles (s : State) (cs : List Nat) : s.Settles (s.noteSr cs) := ⟨rfl, rfl⟩

theorem State.restSr_settles (cs : List Nat) (s : State) : s.Settles (s.restSr cs) :=
  (State.settleSr_settles cs _ s).trans (State.noteSr_settles _ cs)

theorem State.settleLl_settles (cs : List Nat) (fuel : Nat) (s : State) : s.Settles (s.settleLl cs fuel) := by
  induction fuel generalizing s with
  | zero => exact .refl s
  | succ fuel ih =>
    unfold State.settleLl
    dsimp only
    split
    · exact .refl s
    · refine .trans (.trans (.withFab (.trans ?_ (State.applyLoads_settles _ _ _)) _) (State.restSr_settles cs _)) (ih _)
      exact s.settles_settleBit none s.fab

theorem State.drivePin_settles (s : State) (k j : Nat) : s.Settles (s.drivePin k j) := by
  unfold State.drivePin
  split
  · exact .refl s
  · refine s.settles_of_base ?_ s.fab rfl
    rw [settleBit_base, settleBit_base s.b]

theorem State.notePin_settles (s : State) (k j : Nat) : s.Settles (s.notePin k j) := by
  unfold State.notePin
  split
  · exact ⟨rfl, rfl⟩
  · exact .refl s

theorem State.settlePins_settles (s : State) : s.Settles s.settlePins := by
  refine List.foldlRecOn _ _ (.refl s) fun t ht k _ => List.foldlRecOn _ _ ht fun u hu j _ => ?_
  refine .trans ?_ (State.notePin_settles _ k j)
  split
  · exact hu.trans (u.drivePin_settles k j)
  · exact hu

theorem State.settle_settles (s : State) : s.Settles s.settle :=
  (((s.drawSr_settles _).trans (State.restSr_settles _ _)).trans (State.settleLl_settles _ _ _)).trans (State.settlePins_settles _)

/-! ### What an edge leaves alone (03 R43, 20 R408) -/

/-- From `s` to `t` clocks and fabric have moved: what settling changes, the clocks, and what the hop ports present. -/
def State.EdgesTo (s t : State) : Prop :=
  t = { s with b := { s.b with free := t.b.free }, fab := t.fab, clk := t.clk, hop := { s.hop with ports := t.hop.ports, shown := t.hop.shown },
               pins := t.pins }

theorem State.EdgesTo.trans {s t u : State} (hst : s.EdgesTo t) (htu : t.EdgesTo u) : s.EdgesTo u := by
  unfold State.EdgesTo at *
  rw [htu, hst]

theorem State.Settles.edgesTo {s t : State} (h : s.Settles t) : s.EdgesTo t := by
  unfold State.EdgesTo
  rw [h.frame]

theorem State.EdgesTo.cfg_eq {s t : State} (h : s.EdgesTo t) : t.cfg = s.cfg := by rw [h]

/-- A state with other clocks and another fabric, whose hop ports present something else. -/
theorem State.edgesTo_of_hop (s : State) {h : Hop} (hh : h = { s.hop with ports := h.ports, shown := h.shown }) (k : Clk) (f : Fabric) :
    s.EdgesTo { s with clk := k, hop := h, fab := f } := by
  unfold State.EdgesTo
  exact congrArg (fun h => { s with clk := k, hop := h, fab := f }) hh

theorem State.edgeNote_edgesTo (s : State) (rise fall : BitVec 128) (cs : List Nat) (act gl : Nat → Nat → Bool) :
    s.EdgesTo (s.edgeNote rise fall cs act gl) := s.edgesTo_of_hop (h := s.hop) rfl _ _

theorem State.portTick_hop (s : State) (gl : Nat → Nat → Bool) :
    (s.portTick gl).hop = { s.hop with ports := (s.portTick gl).hop.ports, shown := (s.portTick gl).hop.shown } := by
  unfold State.portTick
  refine List.foldlRecOn (motive := fun h : Hop => h = { s.hop with ports := h.ports, shown := h.shown }) _ _ rfl fun h hh i _ => ?_
  rw [hh]

theorem State.portTick_edgesTo (s : State) (gl : Nat → Nat → Bool) : s.EdgesTo (s.portTick gl) :=
  s.edgesTo_of_hop (s.portTick_hop gl) s.clk (s.portTick gl).fab

/-! ### The clocks an edge makes active (03 R43, 20 R408) -/

/-- Does global clock `n` of tower `t` have a rising edge that reaches the fabric? -/
def State.rises (s : State) (rise : BitVec 128) (t n : Nat) : Bool := edgeBit rise t n && edgePasses s.b s.clk t n

/-- Has control set `k` of clutch `c` an active edge of its global clock, after its inversion? -/
def State.activeEdge (s : State) (rise fall : BitVec 128) (c k : Nat) : Bool :=
  decide (s.cfg.clkSrc c k < 32) &&
    if s.cfg.clkInv c k then
      edgeBit fall (cTower c) (s.cfg.clkSrc c k) && SMap.get (fun _ => false) s.clk.high (32 * cTower c + s.cfg.clkSrc c k) && !s.fab.held c k
    else s.rises rise (cTower c) (s.cfg.clkSrc c k)

/-- The state right after the loads of an edge. -/
def State.edgeLoaded (s : State) (rise fall : BitVec 128) (recov : Bool) : State :=
  s.applyLoads (s.ffLoads (s.activeEdge rise fall) recov false s.cfg.clutches)
    (s.rrLoads (s.activeEdge rise fall) (s.rises rise) s.cfg.clutches ++ s.stageLoads (s.rises rise))

/-- The state after the loads of an edge and its notes, before it settles. -/
def State.edgeNoted (s : State) (rise fall : BitVec 128) (recov : Bool) : State :=
  ((s.edgeLoaded rise fall recov).edgeNote rise fall s.cfg.clutches (s.activeEdge rise fall) (s.rises rise)).portTick (s.rises rise)

theorem State.clockEdge_eq (s : State) (rise fall : BitVec 128) (recov : Bool) :
    s.clockEdge rise fall recov = (s.edgeNoted rise fall recov).settle := rfl

theorem State.edgeNoted_edgesTo (s : State) (rise fall : BitVec 128) (recov : Bool) : s.EdgesTo (s.edgeNoted rise fall recov) :=
  ((State.applyLoads_settles s _ _).edgesTo.trans (State.edgeNote_edgesTo ..)).trans (State.portTick_edgesTo ..)

theorem State.clockEdge_edgesTo (s : State) (rise fall : BitVec 128) (recov : Bool) : s.EdgesTo (s.clockEdge rise fall recov) :=
  (s.edgeNoted_edgesTo rise fall recov).trans (State.settle_settles _).edgesTo

theorem exec_fabricClockEdge_of_gated {s : State} (h : s.b.gated = true) (rise fall : BitVec 128) (recov : Bool) :
    exec (.fabricClockEdge rise fall recov) s = .next s := if_pos h

theorem exec_fabricClockEdge_of_not_gated {s : State} (h : s.b.gated = false) (rise fall : BitVec 128) (recov : Bool) :
    exec (.fabricClockEdge rise fall recov) s = .next (s.settle.clockEdge rise fall recov) := if_neg (by simp [h])

theorem exec_pinInputChange (k : Fin 12) (j : Fin 16) (v : Option Bool) (s : State) :
    exec (.pinInputChange k j v) s = .next { s with pins := { s.pins with ext := SMap.set (fun _ => none) s.pins.ext (16 * k + j) v } }.settle := rfl

/-! ### Settling without asynchronous sets and local-line clocks (03 R43, R46) -/

/-- No flip-flop of the front planes has an asynchronous SR, and no control set a local line as its clock. -/
def CfgMem.GlobalClocksOnly (x : CfgMem) : Prop :=
  ∀ c ∈ x.clutches, (∀ n, n < 16 → x.srType c n ≠ 2) ∧ ∀ k, k < 2 → x.clkSrc c k < 32 ∨ 62 ≤ x.clkSrc c k

theorem CfgMem.GlobalClocksOnly.asyncEfts_eq_nil {x : CfgMem} (h : x.GlobalClocksOnly) (on : Nat → Bool) (acts : Nat → Nat → Bool) :
    (x.clutches.flatMap fun c =>
      if on c then ((List.range 16).filter fun n => x.srType c n == 2 && acts c n).map fun n => (c, n) else []) = [] := by
  refine List.flatMap_eq_nil_iff.mpr fun c hc => ?_
  have hnone : ((List.range 16).filter fun n => x.srType c n == 2 && acts c n) = [] :=
    List.filter_eq_nil_iff.mpr fun n hn => by simp [(h c hc).1 n (List.mem_range.mp hn)]
  rw [hnone, List.map_nil, ite_self]

theorem State.asyncSet_eq_nil {s : State} (h : s.cfg.GlobalClocksOnly) : s.asyncSet s.cfg.clutches = [] := h.asyncEfts_eq_nil _ _

theorem State.openSr_eq_nil {s : State} (h : s.cfg.GlobalClocksOnly) : s.openSr s.cfg.clutches = [] := h.asyncEfts_eq_nil _ _

theorem State.drawSr_of_globalClocksOnly {s : State} (h : s.cfg.GlobalClocksOnly) : s.drawSr s.cfg.clutches = s := by
  rw [State.drawSr, State.openSr_eq_nil h, List.foldl_nil]

theorem State.settleSr_of_globalClocksOnly {s : State} (h : s.cfg.GlobalClocksOnly) (fuel : Nat) : s.settleSr s.cfg.clutches fuel = s := by
  cases fuel with
  | zero => rfl
  | succ fuel => rw [State.settleSr, State.asyncSet_eq_nil h]; rfl

theorem State.restSr_of_globalClocksOnly {s : State} (h : s.cfg.GlobalClocksOnly) :
    s.restSr s.cfg.clutches = s.noteSr s.cfg.clutches := by
  rw [State.restSr, State.settleSr_of_globalClocksOnly h]

theorem State.llClock_of_globalClocksOnly {s : State} (h : s.cfg.GlobalClocksOnly) {c k : Nat} (hc : c ∈ s.cfg.clutches) (hk : k < 2) :
    s.llClock c k = none := by
  have hsrc := (h c hc).2 k hk
  exact if_neg (by omega)

theorem State.settleLl_of_globalClocksOnly {s : State} (h : s.cfg.GlobalClocksOnly) (fuel : Nat) : s.settleLl s.cfg.clutches fuel = s := by
  cases fuel with
  | zero => rfl
  | succ fuel =>
    unfold State.settleLl
    dsimp only
    split
    · rfl
    · rename_i hmoved
      refine absurd (List.filter_eq_nil_iff.mpr fun e he => ?_) hmoved
      obtain ⟨c, hc, he⟩ := List.mem_flatMap.mp he
      have hnone : s.llClock e.1 e.2 = none := by
        simp only [List.mem_cons, List.not_mem_nil, or_false] at he
        obtain rfl | rfl := he
        · exact State.llClock_of_globalClocksOnly h hc Nat.two_pos
        · exact State.llClock_of_globalClocksOnly h hc Nat.one_lt_two
      simp [hnone]

theorem State.drivePin_fab (s : State) (k j : Nat) : (s.drivePin k j).fab = s.fab := by
  unfold State.drivePin
  split <;> rfl

theorem State.notePin_fab (s : State) (k j : Nat) : (s.notePin k j).fab = s.fab := by
  unfold State.notePin
  split <;> rfl

theorem State.settlePins_fab (s : State) : s.settlePins.fab = s.fab := by
  refine List.foldlRecOn (motive := fun t : State => t.fab = s.fab) _ _ rfl fun t ht k _ =>
    List.foldlRecOn (motive := fun t : State => t.fab = s.fab) _ _ ht fun u hu j _ => ?_
  rw [State.notePin_fab]
  split
  · rw [State.drivePin_fab, hu]
  · exact hu

/-- Settling then only notes which asynchronous SR act, and drives the pins. -/
theorem State.settle_of_globalClocksOnly {s : State} (h : s.cfg.GlobalClocksOnly) : s.settle = (s.noteSr s.cfg.clutches).settlePins := by
  unfold State.settle
  dsimp only
  rw [State.drawSr_of_globalClocksOnly h, State.restSr_of_globalClocksOnly h]
  exact congrArg State.settlePins (State.settleLl_of_globalClocksOnly (s := s.noteSr s.cfg.clutches) h _)

theorem State.settle_fab_q {s : State} (h : s.cfg.GlobalClocksOnly) : s.settle.fab.q = s.fab.q := by
  rw [State.settle_of_globalClocksOnly h, State.settlePins_fab]; rfl

theorem State.settle_fab_csHold {s : State} (h : s.cfg.GlobalClocksOnly) : s.settle.fab.csHold = s.fab.csHold := by
  rw [State.settle_of_globalClocksOnly h, State.settlePins_fab]; rfl

/-! ### What the loads of an edge leave in a flip-flop (03 R43) -/

/-- What stands at key `i` of the flip-flops after a wave: `v`, where every load of that key brings `v` and `v` stood there or one does. -/
theorem State.get_q_applyLoads {s : State} {ff rr : Loads} {i : Nat} {v : Bool} (hall : ∀ e ∈ ff, e.1 = i → e.2 = some v)
    (hsome : SMap.get (fun _ => false) s.fab.q i = v ∨ ∃ e ∈ ff, e.1 = i) :
    SMap.get (fun _ => false) (s.applyLoads ff rr).fab.q i = v := by
  induction ff generalizing s with
  | nil =>
    have hq : (s.applyLoads [] rr).fab.q = s.fab.q :=
      List.foldlRecOn (motive := fun t : State => t.fab.q = s.fab.q) _ _ rfl fun t ht _ _ => ht
    rw [hq]
    simpa using hsome
  | cons e ff ih =>
    refine ih (s := { s with b := (settleBit s.b e.2).1, fab := { s.fab with q := SMap.set (fun _ => false) s.fab.q e.1 (settleBit s.b e.2).2 } })
      (fun e' he' => hall e' (List.mem_cons_of_mem _ he')) ?_
    by_cases hkey : e.1 = i
    · left
      subst hkey
      rw [SMap.get_set_same, hall e List.mem_cons_self rfl]
      rfl
    · refine hsome.imp (fun hold => ?_) ?_
      · exact (SMap.get_set_ne _ _ _ (Ne.symm hkey)).trans hold
      · rintro ⟨e', he', hi⟩
        obtain rfl | he' := List.mem_cons.mp he'
        · exact absurd hi hkey
        · exact ⟨e', he', hi⟩

/-- Is the copy in use of clutch `c`'s flip-flops clocked: the live context's write enable is high and the marsh is not cut off? -/
def State.clocked (s : State) (c : Nat) : Prop :=
  s.b.we (cTower c) (s.liveAt c) = true ∧ s.cutOff (cTower c) (cMarsh c) = false

theorem CfgMem.csOf_lt (x : CfgMem) (c n : Nat) : x.csOf c n < 2 := by
  unfold CfgMem.csOf b2n
  split <;> decide

theorem State.mem_ffLoads {s : State} {act : Nat → Nat → Bool} {recov runt : Bool} {cs : List Nat} {e : Nat × Option Bool} :
    e ∈ s.ffLoads act recov runt cs ↔ ∃ c ∈ cs, s.clocked c ∧ ∃ n < 16, act c (s.cfg.csOf c n) = true ∧
      e = ((c * 16 + n) * 9 + s.copyNo c, s.edgeNext recov runt c n) := by
  unfold State.ffLoads State.clocked
  rw [List.mem_flatMap]
  refine exists_congr fun c => and_congr_right fun _ => ?_
  have hact : (∃ n < 16, act c (s.cfg.csOf c n) = true) → (act c 0 || act c 1) = true := by
    rintro ⟨n, -, hn⟩
    rw [Bool.or_eq_true]
    obtain hk | hk : s.cfg.csOf c n = 0 ∨ s.cfg.csOf c n = 1 := by
      have hcs := s.cfg.csOf_lt c n
      omega
    · exact .inl (hk ▸ hn)
    · exact .inr (hk ▸ hn)
  split
  · rename_i hwe
    simp only [Bool.and_eq_true, Bool.not_eq_true'] at hwe
    rw [List.mem_map]
    constructor
    · rintro ⟨n, hn, rfl⟩
      rw [List.mem_filter, List.mem_range] at hn
      exact ⟨hwe.1, n, hn.1, hn.2, rfl⟩
    · rintro ⟨-, n, hn, hk, rfl⟩
      exact ⟨n, List.mem_filter.mpr ⟨List.mem_range.mpr hn, hk⟩, rfl⟩
  · rename_i hwe
    simp only [List.not_mem_nil, false_iff]
    rintro ⟨⟨hwe', hcut⟩, n, hn, hk, -⟩
    exact hwe (by rw [hwe', hcut, hact ⟨n, hn, hk⟩]; rfl)

/-- A context whose write enable is high is one of the eight, so that the copy in use is one of the nine (05 R88). -/
theorem State.copyNo_lt {s : State} {c : Nat} (h : s.clocked c) : s.copyNo c < 9 := by
  have hwe : (s.b.fld (.cfg (tw (cTower c))) CFG.WE_CTX).testBit (s.liveAt c) = true := h.1
  have hlt : s.liveAt c < 8 := Nat.lt_of_not_le fun hge => by
    have hfld : s.b.fld (.cfg (tw (cTower c))) CFG.WE_CTX < 2 ^ s.liveAt c :=
      Nat.lt_of_lt_of_le (Base.fld_lt _ _ _) (Nat.pow_le_pow_right (by decide) hge)
    rw [Nat.testBit_lt_two_pow hfld] at hwe
    cases hwe
  unfold State.copyNo
  split <;> omega

theorem flipFlopKey_inj {c n k c' n' k' : Nat} (hn : n < 16) (hk : k < 9) (hn' : n' < 16) (hk' : k' < 9)
    (h : (c * 16 + n) * 9 + k = (c' * 16 + n') * 9 + k') : c = c' ∧ n = n' ∧ k = k' := by omega

/-- A load of copy `k` of eft `n` of clutch `c` is that of the copy in use, at an active edge of its control set. -/
theorem State.ffLoads_at {s : State} {act : Nat → Nat → Bool} {recov runt : Bool} {cs : List Nat} {e : Nat × Option Bool} {c n k : Nat}
    (hn : n < 16) (hk : k < 9) (he : e ∈ s.ffLoads act recov runt cs) (hkey : e.1 = (c * 16 + n) * 9 + k) :
    c ∈ cs ∧ s.clocked c ∧ act c (s.cfg.csOf c n) = true ∧ k = s.copyNo c ∧ e.2 = s.edgeNext recov runt c n := by
  obtain ⟨c', hc, hclk, n', hn', hact, rfl⟩ := State.mem_ffLoads.mp he
  obtain ⟨rfl, rfl, rfl⟩ := flipFlopKey_inj hn' (State.copyNo_lt hclk) hn hk hkey
  exact ⟨hc, hclk, hact, rfl, rfl⟩

theorem State.portTick_fab_q (s : State) (gl : Nat → Nat → Bool) : (s.portTick gl).fab.q = s.fab.q :=
  List.foldlRecOn (motive := fun f : Fabric => f.q = s.fab.q) _ _ rfl fun _ hf _ _ => hf

theorem State.clockEdge_fab_q {s : State} (h : s.cfg.GlobalClocksOnly) (rise fall : BitVec 128) (recov : Bool) :
    (s.clockEdge rise fall recov).fab.q = (s.edgeLoaded rise fall recov).fab.q := by
  have hcfg := (s.edgeNoted_edgesTo rise fall recov).cfg_eq
  rw [State.clockEdge_eq, State.settle_fab_q (hcfg ▸ h), State.edgeNoted, State.portTick_fab_q]
  rfl

/-- 03 R43 cases 2 to 5: the copy in use takes the value that its configuration selects. -/
theorem State.copy_clockEdge_of_loaded {s : State} (h : s.cfg.GlobalClocksOnly) {rise fall : BitVec 128} {recov : Bool} {c n : Nat}
    (hn : n < 16) (hc : c ∈ s.cfg.clutches) (hclk : s.clocked c) (hact : s.activeEdge rise fall c (s.cfg.csOf c n) = true) {v : Bool}
    (hv : s.edgeNext recov false c n = some v) : (s.clockEdge rise fall recov).fab.copy c n (s.copyNo c) = v := by
  rw [Fabric.copy, State.clockEdge_fab_q h]
  refine State.get_q_applyLoads (fun e he hkey => ?_) (.inr ⟨_, State.mem_ffLoads.mpr ⟨c, hc, hclk, n, hn, hact, rfl⟩, rfl⟩)
  obtain ⟨-, -, -, -, hnext⟩ := State.ffLoads_at hn (State.copyNo_lt hclk) he hkey
  rw [hnext, hv]

/-- 03 R43: every copy is kept but the one in use of a clocked flip-flop whose control set has an active edge. -/
theorem State.copy_clockEdge_of_kept {s : State} (h : s.cfg.GlobalClocksOnly) {rise fall : BitVec 128} {recov : Bool} {c n k : Nat}
    (hn : n < 16) (hk : k < 9)
    (hkept : ¬ (c ∈ s.cfg.clutches ∧ s.clocked c ∧ s.activeEdge rise fall c (s.cfg.csOf c n) = true ∧ k = s.copyNo c)) :
    (s.clockEdge rise fall recov).fab.copy c n k = s.fab.copy c n k := by
  rw [Fabric.copy, State.clockEdge_fab_q h]
  refine State.get_q_applyLoads (fun e he hkey => ?_) (.inl rfl)
  obtain ⟨hc, hclk, hact, hcopy, -⟩ := State.ffLoads_at hn hk he hkey
  exact absurd ⟨hc, hclk, hact, hcopy⟩ hkept

/-! ### The settled state has the same clocks and copies -/

theorem State.Settles.cfg_eq {s t : State} (h : s.Settles t) : t.cfg = s.cfg := by rw [h.frame]

theorem State.Settles.copyNo_eq {s t : State} (h : s.Settles t) (c : Nat) : t.copyNo c = s.copyNo c := by rw [h.frame]; rfl

theorem State.Settles.clocked_iff {s t : State} (h : s.Settles t) (c : Nat) : t.clocked c ↔ s.clocked c := by rw [h.frame]; rfl

theorem State.Settles.activeEdge_eq {s t : State} (h : s.Settles t) (hhold : t.fab.csHold = s.fab.csHold) (rise fall : BitVec 128)
    (c k : Nat) : t.activeEdge rise fall c k = s.activeEdge rise fall c k := by
  have hheld : t.fab.held c k = s.fab.held c k := by rw [Fabric.held, hhold]; rfl
  unfold State.activeEdge
  rw [hheld, h.frame]
  rfl

theorem State.activeEdge_settle {s : State} (h : s.cfg.GlobalClocksOnly) (rise fall : BitVec 128) (c k : Nat) :
    s.settle.activeEdge rise fall c k = s.activeEdge rise fall c k :=
  s.settle_settles.activeEdge_eq (State.settle_fab_csHold h) rise fall c k

theorem State.copy_settle {s : State} (h : s.cfg.GlobalClocksOnly) (c n k : Nat) : s.settle.fab.copy c n k = s.fab.copy c n k := by
  rw [Fabric.copy, State.settle_fab_q h]; rfl

/-! ### The statement (03 R43; 04 R72; 20 R408, R418; 25 R505) -/

/-- Settles O42: an edge's loads name each flip-flop copy at most by the one value that its configuration selects, and settling without
asynchronous sets and local-line clocks stores none. -/
theorem clockEdgesLoadFlipFlops : Obligations.ClockEdgesLoadFlipFlops := by
  rintro s _ rise fall recov rfl
  refine ⟨fun hgated => ⟨s, exec_fabricClockEdge_of_gated hgated .., rfl⟩,
    fun hrun => ⟨_, exec_fabricClockEdge_of_not_gated hrun .., s.settle_settles.edgesTo.trans (State.clockEdge_edgesTo ..)⟩, ?_, ?_⟩
  · rintro hrun (hclocks : s.cfg.GlobalClocksOnly) _ rfl c n hn
    have hset := s.settle_settles
    have hset' : s.settle.cfg.GlobalClocksOnly := hset.cfg_eq ▸ hclocks
    refine ⟨fun hc hwe hcut hact v hv => ⟨_, exec_fabricClockEdge_of_not_gated hrun .., ?_, fun k hk hother => ?_⟩,
      fun hidle => ⟨_, exec_fabricClockEdge_of_not_gated hrun .., fun k hk => ?_⟩⟩
    · rw [← hset.copyNo_eq]
      refine State.copy_clockEdge_of_loaded hset' hn (hset.cfg_eq ▸ hc) ((hset.clocked_iff c).mpr ⟨hwe, hcut⟩) ?_ hv
      rw [State.activeEdge_settle hclocks, hset.cfg_eq]
      exact hact
    · rw [← State.copy_settle hclocks]
      refine State.copy_clockEdge_of_kept hset' hn hk ?_
      rintro ⟨-, -, -, hcopy⟩
      exact hother (hcopy.trans (hset.copyNo_eq c))
    · rw [← State.copy_settle hclocks]
      refine State.copy_clockEdge_of_kept hset' hn hk ?_
      rw [hset.cfg_eq, hset.clocked_iff, State.activeEdge_settle hclocks]
      rintro ⟨hc, ⟨hwe, hcut⟩, hact, -⟩
      obtain hidle | hidle | hidle | hidle := hidle
      · exact hidle hc
      · exact absurd hwe (Bool.eq_false_iff.mp hidle)
      · exact absurd hidle (Bool.eq_false_iff.mp hcut)
      · exact absurd hact (Bool.eq_false_iff.mp hidle)
  · intro k j v
    have hset := State.settle_settles { s with pins := { s.pins with ext := SMap.set (fun _ => none) s.pins.ext (16 * k + j) v } }
    refine ⟨_, exec_pinInputChange k j v s, hset.frame, ?_, fun i hi => ?_⟩
    · rw [hset.ext]
      exact SMap.get_set_same ..
    · rw [hset.ext]
      exact SMap.get_set_ne _ _ _ hi

end Sys2Proof.Machine
end
